-- ==== Sys2Proof/Word.lean ====
section
/-! DEFINITION. The word types of the manager space (R6) and of byte-addressed memories. -/
namespace Sys2Proof

/-- A manager-space register is 32 bits wide (R6). -/
abbrev Word := BitVec 32

/-- A byte of a byte-addressed memory. -/
abbrev Byte := BitVec 8

end Sys2Proof
end

