-- ==== Sys2Proof/Syntax.lean ====
section
/-! DEFINITION. The commands the block takes: one constructor of `Instr` per row of opcode_table.json,
with the row's operands, and the types of those operands. -/
namespace Sys2Proof

/-- The agents whose accesses carry an owner identity (R373). -/
inductive Agent where
  | keeper
  | core (c : Fin 4)
  | hostPcie (port : Fin 2)
  | hostSpi (port : Fin 2)
  | gateway
  | wale (dev : Fin 512)
  deriving DecidableEq, Repr

/-- The control bits of an endpoint's configuration space that the device's behaviour uses:
MSI-X enable, MSI-X function mask (R410) and PME enable (R366). -/
structure EndpointCfg where
  msixEnable : Bool
  functionMask : Bool
  pmeEnable : Bool
  deriving DecidableEq, Repr

/-- What a verify pass reads wrong: frame bits upset since they were written, each under its PLACE, and check-table
entries whose code shows an error (R261). -/
structure PassErrs where
  bits : List (Word × Fin 10240)
  entries : List (Word × Fin 4)
  deriving DecidableEq, Repr

/-- What a re-read of one frame reads wrong: its bits, and what its check-table entry's code shows (0 none,
1 one bit corrected, 2 two bits, 3 more bits than it can tell; R261). -/
structure FrameErrs where
  bits : List (Fin 10240)
  entry : Fin 4
  deriving DecidableEq, Repr

/-- A fabric window access as it reaches the gateway (R406): its offset `o`, its direction, its data beats
with their byte enables, and the tag the hub gives a read. -/
structure WindowReq where
  offset : Nat
  write : Bool
  beats : Nat
  tag : Fin 32
  data : List (BitVec 64 × BitVec 8)
  deriving DecidableEq, Repr

/-- The operation a gateway port's master side asks for (M_OP of R407). -/
inductive MasterOp where
  | write
  | read
  | message
  deriving DecidableEq, Repr

/-- A master-side request of a gateway port (R407). -/
structure MasterReq where
  addr : Nat
  remote : Bool
  dest : Nat
  op : MasterOp
  len : Nat
  ack : Bool
  tag : Fin 32
  data : List Word
  /-- What the hamper's check reports for a local access there (R390). -/
  mem : Fin 4
  deriving DecidableEq, Repr

/-- What a cluster core does on its bus. -/
inductive BusKind where
  | load
  | store
  | fetch
  deriving DecidableEq, Repr

/-- One cluster bus access: a 40-bit address, a size of 1, 2, 4 or 8 bytes, store data, and what the
memory's check reports: 0 no error, 1 corrected, 2 uncorrectable (R398, R390), 3 a parity error of the
hamper that its repeat did not mend (R390). -/
structure BusAccess where
  kind : BusKind
  addr : Nat
  size : Nat
  data : BitVec 64
  mem : Fin 4
  deriving DecidableEq, Repr

/-- A net whose source changes by a glitch-free switch (R132). -/
inductive ClockNet where
  | rim (k : Fin 16) (j : Fin 32)
  | line (w : Fin 2) (i : Fin 8)
  | stake (bay : Fin 96) (n : Fin 24)
  deriving DecidableEq, Repr

/-- A rim or inter-band-line select register (R142). -/
inductive RimReg where
  | rim (k : Fin 16) (j : Fin 8)
  | vsel (w : Fin 2) (j : Fin 2)
  deriving DecidableEq, Repr


/-- The input pins of a creel port (chapter 03, "Creel ports"). -/
structure CreelPortPins where
  en : Bool
  we : Fin 16
  addr : Nat
  di : Nat
  orst : Bool
  deriving DecidableEq, Repr

/-- The input pins of a creel: its ports, the FIFO reset, STALECLR, and how close the other port's last
active edge lies: less than 400 ps (R89), less than 150 ps (R95). -/
structure CreelPins where
  a : CreelPortPins
  b : CreelPortPins
  rst : Bool
  staleClr : Bool
  near400 : Bool
  near150 : Bool
  deriving DecidableEq, Repr

/-- The input pins of a slice (chapter 03, "Arithmetic slices"). -/
structure SlicePins where
  j0 : Fin 134217728
  j1 : Fin 134217728
  h : Fin 134217728
  g : Fin 68719476736
  e : Fin 281474976710656
  zsel : Fin 8
  sub : Bool
  sten : Fin 128
  rst : Bool
  deriving DecidableEq, Repr

/-- The transmit inputs of one lane (R325). -/
structure LanePins where
  txd : BitVec 80
  txk : BitVec 8
  txhdr : BitVec 4
  txidle : Bool
  deriving DecidableEq, Repr

/-- The Inner Port's inputs (R234). -/
structure InnerPins where
  data : BitVec 128
  valid : Bool
  last : Bool
  wcnt : Fin 4
  deriving DecidableEq, Repr

/-- A write data beat of a hamper port (R385): its 32 bytes as a number, byte enables, W_LAST. -/
structure HampBeat where
  data : BitVec 256
  be : BitVec 32
  last : Bool
  deriving DecidableEq, Repr

/-- A request at a hamper port (R385): RQ_WRITE, RQ_ADDR in 32-byte beats, RQ_LEN, RQ_TAG. -/
structure HampRq where
  write : Bool
  addr : Fin 536870912
  len : Fin 8
  tag : Fin 64
  deriving DecidableEq, Repr

/-- The data side of a hamper port at an edge of its clock (R385): the beat offered, the readies. -/
structure HampPins where
  w : Option HampBeat
  rReady : Bool
  bReady : Bool
  deriving DecidableEq, Repr

/-- Who asked for a hamper access that completes: a port, or the gang sender with the address it reads
(R388).  The cluster's and the inbound Wale accesses complete within their own commands. -/
inductive HampSrc where
  | port (n : Fin 32) (write : Bool)
  | gang (addr : BitVec 34)
  deriving DecidableEq, Repr

/-- The fabric side of a user pin (R480, R482): its output word, output enable, BITSLIP, and the bits
received at the pad since the last parallel edge, oldest first. -/
structure PadPins where
  out : BitVec 8
  oe : Bool
  bitslip : Bool
  rx : List Bool
  deriving DecidableEq, Repr

/-- What stands at the inputs of a bay at an edge of one of its stake nets: a pin that no list names is low.
`levels` holds the signals that hard blocks whose outputs the spec's registers and elements do not give drive
into the weave, by number (R55); creels and slices are numbered as R78 numbers them within the bay; `sce`
holds the clock column's fabric enables (R135), `inner` a beat offered at the Inner Port (R234), `lanes` the
lanes of the band-wythe, `hamp` the data side of the bay's hamper port (R385), `tready` the gateway port's
T_READY (R406), `pads` the user pads (R482). -/
structure EdgePins where
  levels : List (Nat × Bool)
  creels : List (Nat × CreelPins)
  slices : List (Nat × SlicePins)
  sce : BitVec 24
  inner : InnerPins
  lanes : List (Nat × LanePins)
  hamp : HampPins
  tready : Bool
  pads : List (Nat × PadPins)
  deriving DecidableEq, Repr


/-- What one eye window gave (R316 to R318): the figures, whether a freezing condition held at some point
of it, whether it was an idle set, the transition density in percent, the least count of a 3-bit
pattern, and the adaptation's steps (0 down, 1 none, 2 up). -/
structure EyeWindow where
  hfig : Fin 256
  vfig : Fin 256
  frozen : Bool
  idleSet : Bool
  density : Fin 101
  leastPattern : Nat
  ctleStep : Fin 3
  tapSteps : List (Fin 3)
  deriving DecidableEq, Repr

/-- A parallel word at a lane's receiver (R320 to R323): the raw bits, bit 0 first on the line, aligned
as the lane is; in the gearbox modes a word of a block's payload, whether it begins the block, and the
block's sync header. -/
structure LaneRx where
  raw : BitVec 80
  sob : Bool
  hdr : BitVec 4
  deriving DecidableEq, Repr


/-! Wale (chapter 12).  The spec gives the payloads of system messages as lists of values with no layout,
so a message stands here as its values; an instant is an exact fraction of nanoseconds. -/

/-- A system control message (R352). -/
inductive SysMsg where
  | advert (root : Fin 512) (dist : Fin 16) (up : Fin 512) (chain sysdone : Bool)
  | join (epoch : Fin 256)
  | bnd (idx : Fin 8) (num den : Nat)
  | bndref (orig : Fin 512) (idx : Fin 8) (refusing : Fin 512)
  | vote (num den : Nat) (ready : Bool) (dev : Fin 512)
  | verdict (num den : Nat) (ready : Bool)
  | doneUp (dev : Fin 512)
  | sysdone (num den : Nat)
  | sleep (wakeable : Bool)
  | awake
  | wake (target : Fin 512)
  | alarm (num den : Nat) (dev : Fin 512)
  deriving DecidableEq, Repr

/-- The payload of a block: words, a system message, or the time follow-up with its exchange number and
stamps in picoseconds (R338, R352, R353). -/
inductive WaleBody where
  | words (ws : List Word)
  | sys (m : SysMsg)
  | followUp (xn : Fin 65536) (t2 t3 : Int)
  deriving DecidableEq, Repr

/-- The TYPE of a block (R338). -/
inductive WaleKind where
  | link
  | write
  | read
  | completion
  | message
  | gang
  | sysctl
  deriving DecidableEq, Repr

/-- A block (R338), apart from its CRC. -/
structure WaleBlock where
  seq : Fin 4096
  kind : WaleKind
  src : Fin 512
  dest : Fin 512
  hops : Fin 16
  len : Fin 256
  bcast : Bool
  first : Bool
  last : Bool
  ackreq : Bool
  sub : Fin 64
  addr : BitVec 40
  tag : Fin 256
  epoch : Fin 256
  status : Fin 16
  body : WaleBody
  deriving DecidableEq, Repr

/-- A TRN control set (R337); `junk`: an unused bit is not zero. -/
structure TrnSet where
  dev : Fin 512
  port : Fin 8
  lane : Fin 8
  rdy : Bool
  width : Fin 4
  epoch : Fin 256
  junk : Bool
  deriving DecidableEq, Repr

/-- A creel a sounding found failing, with the number of its failing row-pairs (R439). -/
structure CreelFail where
  creel : Fin 11520
  rowpairs : BitVec 8
  deriving DecidableEq, Repr

/-- What a sounding of bays found (R438, R439): failing creels, failing spares by creel column, and bays
in which a latch or logic failed. -/
structure SoundReport where
  fails : List CreelFail
  spares : List (Fin 384)
  broken : List (Fin 96)
  deriving DecidableEq, Repr

/-- What a run on one creel array ends with (R437, R447). -/
structure SoundRun where
  patterns : Word
  sig : BitVec 64
  ref : BitVec 64
  word : BitVec 10
  bit : BitVec 6
  rowpairs : BitVec 8
  deriving DecidableEq, Repr

/-- The retention banks whose check codes differ after a wake (R428, R429). -/
structure StaleBanks where
  bays : List (Fin 96)
  creels : List (Fin 11520)
  cluster : Bool
  deriving DecidableEq, Repr


/-- The commands of the block: one constructor per row of opcode_table.json, in its order. -/
inductive Instr where
  /-- VIN_FALL (R20): VIN stays below 10.0 V for at least 10 µs and the device enters POWER-UP from any mode. -/
  | vinFall
  /-- POWER_UP_COMPLETE (R20): VIN is above 10.5 V, the always-on and hub rails are in regulation and FIO runs, so the device latches the straps and enters KEEPER BOOT. -/
  | powerUpComplete (straps : BitVec 7)
  /-- RESET_N_FALL (R203): RESET_N is asserted: the strap pull-ups switch on, Wale ports go down and any flash operation in progress is abandoned. -/
  | resetNFall
  /-- RESET_N_RISE (R20): A rising edge of RESET_N after at least 1 µs low takes any mode except POWER-UP to KEEPER BOOT. -/
  | resetNRise
  /-- STRAP_LATCH (R203): The seven straps are latched 20 µs after a RESET_N rise or a STANDBY wake, the strap pull-ups switch off and the XWAIT time starts. -/
  | strapLatch (straps : BitVec 7)
  /-- KEEPER_BOOT_COMPLETE (R200): The keeper finishes ROM boot, the fuse reads and the life-cycle decode, then branches to SAFE HOLD, FACTORY TEST or START TEST. -/
  | keeperBootComplete (agree : Bool) (xref : Bool) (vinOk : Bool)
  /-- START_TEST_COMPLETE (R438): START TEST ends: on a pass or a full repair the device enters LOADING, and on an unrepairable failure it enters SAFE HOLD with cause 0x02. -/
  | startTestComplete (hub : Bool) (rep : SoundReport)
  /-- PROGRAM_N_FALL (R21): A PROGRAM_N falling edge discards stagings, clears both planes and restarts LOADING at the boot-directory read, or acts as a wake source. -/
  | programNFall
  /-- PROGRAM_N_RISE (R21): PROGRAM_N is released, so LOADING may read a stream again. -/
  | programNRise
  /-- SYS_CTL_RELOAD (R21): A SYS_CTL write of RELOAD with KEY 0xA5C3 acts as a PROGRAM_N falling edge. -/
  | sysCtlReload (ag : Agent) (v : Word)
  /-- THERMAL_SAMPLE (R433): The power manager reads the bay and hub temperature sensors and tests the warning, gradient and critical thresholds, at least once every 1 ms. -/
  | thermalSample (bays : List (BitVec 8)) (hub : List (BitVec 8))
  /-- REGULATOR_FAULT (R413): A rail stays outside ±5% or at its current limit for 10 µs, or a power stage exceeds 125 °C, so the rail switches off and R25 applies with cause 0x07. -/
  | regulatorFault (r : Fin 26)
  /-- RAIL_WARNING (R413): A rail leaves ±3% of its set value, setting VWARN and raising EV290. -/
  | railWarning (r : Fin 26)
  /-- VIN_LOW (R411): VIN stays below 10.6 V for 10 µs, setting VIN_LOW and raising EV291. -/
  | vinLow
  /-- SRC_WAIT_EXPIRY (R210): No stream word arrives within SRC_WAIT after source calibration, so the device enters SAFE HOLD with cause 0x01. -/
  | srcWaitExpiry
  /-- PRIORITY_COMMIT (R214): Once the priority lock wait and staged-verify pass have ended, the priority bays commit and their bond cells release. -/
  | priorityCommit
  /-- PRIORITY_INIT_LEAVE (R214): At cycle 8 after the priority commit edge, the priority bays leave INIT hold. -/
  | priorityInitLeave
  /-- PRIORITY_OUTPUT_ENABLE (R214): At cycle 16 the priority edge-column outputs are enabled, PRIORITY_LIVE becomes 1 and EV178 is raised. -/
  | priorityOutputEnable
  /-- PRIORITY_STAGE_TIMEOUT (R215): The priority bays are not live within 10 ms of step 6, so the priority stage is deferred to the main commit. -/
  | priorityStageTimeout
  /-- MAIN_COMMIT (R217): The main part commits once the hamper training and quad calibrations have reached their outcomes and the verify pass has ended. -/
  | mainCommit
  /-- XWAIT_EXPIRY (R117): The XWAIT time ends and REFIN is tested for presence. -/
  | xwaitExpiry (present : Bool)
  /-- RELEASE_START (R222): After the full commit and the XWAIT time, RELEASE begins: bond cells stop clamping (EARLY order) or DONE is released (LATE order). -/
  | releaseStart
  /-- RELEASE_INIT_LEAVE (R222): At the INIT phase cycle of RELEASE, the bays leave INIT hold. -/
  | releaseInitLeave
  /-- RELEASE_OUTPUT_ENABLE (R222): At the output phase cycle of RELEASE, outputs are enabled, and in LATE order RUN is entered. -/
  | releaseOutputEnable
  /-- RELEASE_DONE_RELEASE (R222): At cycle 24 in EARLY order, DONE is released and the DONE wait starts. -/
  | releaseDoneRelease
  /-- DONE_HIGH (R221): DONE is qualified high for DONE_FILTER, with system DONE where it is required: RUN follows in EARLY order, and the bond release phase in LATE order. -/
  | doneHigh
  /-- DONE_WAIT_EXPIRY (R223): The DONE wait limit expires, so the released bays return to hold and the device enters SAFE HOLD with cause 0x05. -/
  | doneWaitExpiry
  /-- JOURNAL_ERASE_START (R225): The keeper, now holding SEM1 with the flash idle, erases the other journal half. -/
  | journalEraseStart
  /-- BOOT_CLEAR (R228): A SYS_BOOTCLR write with KEY 0x5A3C makes the keeper write a CLEAR record. -/
  | bootClear (ag : Agent) (v : Word)
  /-- BANK_REPOWER (R207): 1 ms after a bank was switched off for a VCCIO code change, it comes up at its new voltage. -/
  | bankRepower (b : Fin 16)
  /-- REFIN_LOST (R118): 2 µs pass without a REFIN edge, so REF_LOST is set, EV255 is raised and REFIN users enter holdover. -/
  | refinLost
  /-- REFIN_RESTORED (R118): REFIN has been present for 10 ms without a break, so REFIN_OK returns to 1. -/
  | refinRestored
  /-- XREF_LOST (R119): 1 µs passes without an XREF edge, so the hub synthesizer enters holdover and XREF consumers take the substitute reference. -/
  | xrefLost
  /-- XREF_RESTORED (R119): XREF has been present for 10 ms, so the hub synthesizer glides back and consumers return to XREF. -/
  | xrefRestored
  /-- HUB_SYNTH_LOCK (R120): The hub synthesizer locks, setting HUB_LOCK. -/
  | hubSynthLock
  /-- CLK_HUB_WRITE (R120): A write to CDIV, SDIV or SRC changes the hub clocks without a glitch, and is ignored where the rule forbids it. -/
  | clkHubWrite (ag : Agent) (v : Word)
  /-- SYNTH_GLIDE_DONE (R126): A synthesizer glide reaches its new frequency and GLIDE clears. -/
  | synthGlideDone (n : Fin 32)
  /-- SYNTH_DIVIDER_DONE (R126): A tap restarts under its new divider or enable. -/
  | synthDividerDone (n : Fin 32)
  /-- SYNTH_LOCK (R124): A synthesizer reaches lock after a relock, so LOCK rises and the taps restart. -/
  | synthLock (n : Fin 32)
  /-- SYNTH_LOSS_OF_LOCK (R127): A phase error over 5 ns for 32 comparisons, or a reference loss, sets LOL, raises EV252 and enters holdover. -/
  | synthLossOfLock (n : Fin 32)
  /-- SYNTH_HOLDOVER_EXIT (R127): The reference has been present for 10 ms, so the loop reacquires by gliding and HOLD clears. -/
  | synthHoldoverExit (n : Fin 32)
  /-- GLITCH_FREE_SWITCH_DONE (R132): A rim, line or stake net passes its new source from that source's next low phase. -/
  | glitchFreeSwitchDone (net : ClockNet)
  /-- GLITCH_FREE_SWITCH_FORCED (R132): The old source shows no low phase within 4,096 cycles, so the switch is forced and RIM_FORCED is set. -/
  | glitchFreeSwitchForced (net : ClockNet)
  /-- RIM_SELECT_WRITE (R131): A CLK_RIM or CLK_VSEL write pends, or is ignored whole with ILLEGAL_SEL if any code in it is illegal. -/
  | rimSelectWrite (ag : Agent) (reg : RimReg) (v : Word)
  /-- HARD_BLOCK_GATE_REQUEST (R138): Firmware writes 1 to a CLK_HGREQ bit to request gating of a hard block, and a self-gating request is discarded. -/
  | hardBlockGateRequest (ag : Agent) (blk : Fin 64)
  /-- HARD_BLOCK_GATE_APPLY (R138): The block reaches its idle point, so the gate is applied and HGSTAT becomes 1. -/
  | hardBlockGateApply (blk : Fin 64)
  /-- HARD_BLOCK_GATE_REFUSED (R138): GATE_LIMIT expires without an idle point, so GATE_REFUSED is set and EV254 is raised. -/
  | hardBlockGateRefused (blk : Fin 64)
  /-- HARD_BLOCK_GATE_OPEN (R138): Firmware writes 0 to a CLK_HGREQ bit, so the gate opens. -/
  | hardBlockGateOpen (ag : Agent) (blk : Fin 64)
  /-- FM_WINDOW_END (R140): A frequency-monitor window ends, so COUNT updates, OOR is tested and EV253 may be raised. -/
  | fmWindowEnd (m : Fin 16) (count : Word)
  /-- FM_SOURCE_WRITE (R140): A write to FMm_CFG.SRC restarts the window and clears RUN, or is ignored with ILLEGAL_SEL. -/
  | fmSourceWrite (ag : Agent) (m : Fin 16) (v : Word)
  /-- ADJ_STEP (R145): GO in step mode adds the signed offset to the timebase at one TCLK edge, or is refused. -/
  | adjStep (ag : Agent)
  /-- ADJ_SLEW (R145): GO in slew mode runs the timebase 50 ppm fast or slow until the offset is absorbed, or is refused. -/
  | adjSlew (ag : Agent)
  /-- SLEW_DONE (R145): A slew absorbs its offset, setting ADJ_DONE and raising EV268. -/
  | slewDone
  /-- SYNC_CAPTURE (R149): A selected edge on SYNC0, SYNC1 or PPS in captures the timebase, sets NEW or OVR and raises an event. -/
  | syncCapture (x : Fin 3) (falling : Bool)
  /-- CAPTURE_READ (R149): A read of CAD_CAPx_FRAC clears NEWx and snapshots the other words. -/
  | captureRead (ag : Agent) (x : Fin 3)
  /-- PPS_IN_LOST (R149): 1.1 s pass without a PPS-in edge, setting PPS_LOST and raising EV267. -/
  | ppsInLost
  /-- PPS_OUT_PULSE (R150): PPS out rises at a seconds carry or at a delivery of its boundary source. -/
  | ppsOutPulse
  /-- PPS_OUT_PULSE_END (R150): The WIDTH time expires and PPS out falls. -/
  | ppsOutPulseEnd
  /-- MB_FIRE (R155): A write of FIRE posts a manual boundary instant, is refused with MB_LATE or MB_BUSY, or is broadcast when SYSTEM = 1. -/
  | mbFire (ag : Agent) (i : Fin 8) (ctl : Word)
  /-- BOUNDARY_LATCH (R158): At t_b − 160 ns the boundary is announced, pending RWB values are fixed, and armed groups and level requests are tested. -/
  | boundaryLatch (src : Fin 64)
  /-- BOUNDARY_DELIVERY (R160): On each receiver's delivery edge the boundary takes effect: pending RWB values apply, commits begin, event lines fire and generators advance. -/
  | boundaryDelivery (src : Fin 64)
  /-- SNAPSHOT_READ (R7): A read of the least significant word of a wide counter captures the upper words into a snapshot. -/
  | snapshotRead (ag : Agent) (off : Nat)
  /-- SYNC_WORD (R167): The engine finds the sync word and resets the stream registers. -/
  | syncWord
  /-- PACKET_BAD_HEADER (R170): A packet header with a reserved opcode or a nonzero reserved field ends the stream with BAD_OPCODE. -/
  | packetBadHeader (h : Word)
  /-- NOP (R169): A NOP packet does nothing. -/
  | nop
  /-- WRITE_IDCODE (R173): An IDCODE write is checked against the device, or ends the stream with ID_MISMATCH. -/
  | writeIdcode (ws : List Word)
  /-- WRITE_FORM (R174): A FORM write sets the stream kind and is checked against the mode. -/
  | writeForm (ws : List Word)
  /-- WRITE_KEYSEL (R171): A KEYSEL write selects the key slot. -/
  | writeKeysel (ws : List Word)
  /-- WRITE_SID (R171): A SID write records the stream identifier. -/
  | writeSid (ws : List Word)
  /-- WRITE_IV (R188): An IV write sets the 96-bit GCM IV of a sealed stream. -/
  | writeIv (ws : List Word)
  /-- WRITE_BODYLEN (R189): A BODYLEN write sets the ciphertext length. -/
  | writeBodylen (ws : List Word)
  /-- WRITE_BOUND (R175): A BOUND write sets the stream's bay set and edge columns. -/
  | writeBound (ws : List Word)
  /-- WRITE_GROUP (R241): A GROUP write names the commit group that receives the staging. -/
  | writeGroup (ws : List Word)
  /-- WRITE_PLFLOOR (R171): A PLFLOOR write declares the floors of the staged personality. -/
  | writePlfloor (ws : List Word)
  /-- WRITE_CLKSET (R178): CLKSET pairs are tested for range as each second word arrives. -/
  | writeClkset (ws : List Word)
  /-- STEP_NONE (R176): STEP NONE does nothing. -/
  | stepNone (v : Word)
  /-- STEP_STAGE (R176): STEP STAGE opens frame writing after the key, policy and busy tests, and starts the shadow clear for a partial stream. -/
  | stepStage
  /-- STAGE_CLEAR_DONE (R176): The shadow clear of the BOUND bays ends and the stream resumes. -/
  | stageClearDone
  /-- STEP_FINISH (R176): STEP FINISH closes frame writing, and the BOUND union is tested for a main part. -/
  | stepFinish
  /-- STEP_ABORT (R176): STEP ABORT discards the staging with ABORTED. -/
  | stepAbort
  /-- WRITE_PLACE (R179): A PLACE write sets the frame address, or ends with PLACE_INVALID. -/
  | writePlace (ws : List Word)
  /-- WRITE_FRAMES (R182): A FRAMES packet writes whole frames to the shadow plane, each checked and given a check word. -/
  | writeFrames (dyn : Bool) (ws : List Word)
  /-- ZERO (R185): A ZERO packet writes COUNT zero frames. -/
  | zero (dyn : Bool) (n : BitVec 20)
  /-- REPEAT (R185): A REPEAT packet writes the last frame data to COUNT frames. -/
  | repeatPacket (dyn : Bool) (n : BitVec 20)
  /-- PATCH (R185): A PATCH packet writes one frame equal to the last frame data with words replaced. -/
  | patch (dyn : Bool) (ps : List (Word × Word))
  /-- BODY (R188): A BODY packet closes the additional authenticated data and starts decryption of the body. -/
  | body
  /-- WRITE_SEAL (R190): A SEAL write compares the GCM tag, then completes the staging or fails it with SEAL_FAIL. -/
  | writeSeal (ws : List Word)
  /-- CLKSET_LOCK_WAIT_END (R178): Every synthesizer with an enabled tap is locked, or a bound passes with CLK_LOCK. -/
  | clksetLockWaitEnd
  /-- WRITE_CRCV (R193): A CRCV write compares the CRC-32 and completes the CRC-only staging or fails it. -/
  | writeCrcv (ws : List Word)
  /-- READ_FRAMES (R196): A READ of FRAMES returns frame words from the selected plane. -/
  | readFrames (n : BitVec 20)
  /-- READ_PLACE (R196): A READ of PLACE returns one word. -/
  | readPlace
  /-- READ_STAT (R196): A READ of STAT returns the stream status word. -/
  | readStat
  /-- SECTION (R194): A SECTION packet selects its section for this device or skips LENGTH words. -/
  | sectionPacket (sel : Word) (len : Word)
  /-- END (R197): END returns the engine to sync search. -/
  | endPacket
  /-- STREAM_SOURCE_END (R197): The source ends the stream; it is TRUNCATED unless its check has passed. -/
  | streamSourceEnd
  /-- STAGED_VERIFY_END (R239): The staged-verify pass ends: the bays become STAGED with EV180, or become INVALID on the first mismatch. -/
  | stagedVerifyEnd (us : PassErrs)
  /-- PSRC_OPEN (R233): A CFG_PSRC write opens a partial-stream source, and starts the flash read for source 0. -/
  | psrcOpen (ag : Agent) (c : Fin 8)
  /-- UNOPENED_SOURCE_WORDS (R233): Words arrive through a source that is not open; they are discarded and UNOPENED is set. -/
  | unopenedSourceWords
  /-- CG_ARM_COMMIT (R242): A CGg_CTL write with ARM and MODE 0 arms a commit, or is refused. -/
  | cgArmCommit (ag : Agent) (g : Fin 8)
  /-- CG_ARM_REVERT (R242): A CGg_CTL write with ARM and MODE 1 arms a revert and starts its verify, or is refused. -/
  | cgArmRevert (ag : Agent) (g : Fin 8)
  /-- CG_DISARM (R245): A DISARM write disarms the group, or is refused with CANCEL_LATE. -/
  | cgDisarm (ag : Agent) (g : Fin 8) (mode : Bool)
  /-- CG_DISCARD (R245): A DISCARD write disarms the group, invalidates its members and aborts any staging into it. -/
  | cgDiscard (ag : Agent) (g : Fin 8) (mode : Bool)
  /-- CG_DEADLINE_EXPIRY (R244): The group deadline passes, so the group is disarmed with DEADLINE. -/
  | cgDeadlineExpiry (g : Fin 8)
  /-- COMMIT_RELEASE (R248): At cycle 1 + BOND the bays leave INIT hold and bond hold, members become PREVIOUS, and RESULT and the event are set. -/
  | commitRelease (g : Fin 9)
  /-- REVERT_VERIFY_END (R252): The verify pass over LAST for a revert ends, or fails with SHADOW_ERR. -/
  | revertVerifyEnd (g : Fin 8) (us : PassErrs)
  /-- DW_PLACE_WRITE (R254): A CFG_DWPLACE write starts a new direct-write frame. -/
  | dwPlaceWrite (ag : Agent) (p : Word)
  /-- DW_DATA_WRITE (R254): A CFG_DWDATA word is buffered, and at the 320th word the frame is checked and takes a buffer slot or is refused. -/
  | dwDataWrite (ag : Agent) (w : Word)
  /-- DW_APPLY (R254): A write of APPLY queues the buffer for the next boundary of BSEL. -/
  | dwApply (ag : Agent) (bsel : Fin 64)
  /-- DW_CLEAR_BUFFER (R254): A write of CLRBUF empties the buffer, or is ignored during an apply. -/
  | dwClearBuffer (ag : Agent) (bsel : Fin 64)
  /-- DW_APPLY_END (R254): The direct-write apply finishes its frames, and EV181 is raised. -/
  | dwApplyEnd
  /-- PANEL_ISO_WRITE (R257): A write of CGg_PCTL.ISO clamps or unclamps the panel bays. -/
  | panelIsoWrite (ag : Agent) (g : Fin 8) (v : Word)
  /-- PISO_CHANGE (R257): The controller bay's PISO input changes and the panel clamps or unclamps. -/
  | pisoChange (g : Fin 8) (level : Bool)
  /-- PNT_FRAME_READ (R266): The pointing engine reads one frame after GAP cycles and classifies it as clean, single-bit or multi-bit. -/
  | pntFrameRead (w : Fin 2) (upset : List (Fin 10240)) (entry : Fin 4)
  /-- PNT_SBE_WRITE_BACK_DONE (R267): The corrected frame has been written back and re-read, and is logged or treated as multi-bit. -/
  | pntSbeWriteBackDone (w : Fin 2) (upset : FrameErrs)
  /-- PNT_RESTART (R263): A write of RESTART starts both passes again at frame 0. -/
  | pntRestart (ag : Agent) (en : Bool) (shadow : Bool)
  /-- PNT_HOLD_CLEAR (R270): A PNT_HOLDCLR write with KEY 0x3C5A ends a bay hold. -/
  | pntHoldClear (ag : Agent) (v : Word)
  /-- PNT_RELOAD_OPEN (R271): When no staging is active and no source is open, the engine opens the flash for a bay reload. -/
  | pntReloadOpen
  /-- PNT_RELOAD_FIRE (R271): The engine fires its reload manual boundary, retrying every 1 µs while refused. -/
  | pntReloadFire
  /-- PNT_RELOAD_WAIT_EXPIRY (R271): RLWAIT expires, so the reload fails and EV196 is raised. -/
  | pntReloadWaitExpiry
  /-- PNT_LOG_POP (R273): A PNT_LOG_POP write removes the head log entry. -/
  | pntLogPop (ag : Agent)
  /-- FLASH_UNLOCK_FIRST (R279): Command cycle 0xC3 starts an unlock, or is refused. -/
  | flashUnlockFirst (ag : Agent) (off : Nat)
  /-- FLASH_UNLOCK_SECOND (R279): Command cycle 0x3C completes an unlock. -/
  | flashUnlockSecond (ag : Agent) (off : Nat)
  /-- FLASH_PROGRAM_WORD_CMD (R280): Command 0xA1 selects a word program. -/
  | flashProgramWordCmd (ag : Agent) (off : Nat)
  /-- FLASH_PROGRAM_LINE_CMD (R285): Command 0xA5 selects a line program into the line buffer. -/
  | flashProgramLineCmd (ag : Agent) (off : Nat)
  /-- FLASH_DATA_CYCLE (R279): A data cycle supplies a program word, and the last one starts the operation or refuses it. -/
  | flashDataCycle (ag : Agent) (off : Nat) (wide : Bool) (v : BitVec 64)
  /-- FLASH_ERASE_SETUP (R280): Command 0xE7 sets up a sector erase. -/
  | flashEraseSetup (ag : Agent) (off : Nat)
  /-- FLASH_ERASE_CONFIRM (R295): Command 0x71 starts the erase with ledger intent, or refuses it. -/
  | flashEraseConfirm (ag : Agent) (off : Nat)
  /-- FLASH_SUSPEND_CMD (R289): Command 0xB0 requests a firmware suspend. -/
  | flashSuspendCmd (ag : Agent) (off : Nat)
  /-- FLASH_RESUME_CMD (R290): Command 0x30 ends a firmware suspend, or is ignored. -/
  | flashResumeCmd (ag : Agent) (off : Nat)
  /-- FLASH_READ_STATUS_CMD (R281): Command 0x70 enters status mode. -/
  | flashReadStatusCmd (ag : Agent) (off : Nat)
  /-- FLASH_INFO_ENTRY_CMD (R281): Unlock followed by 0x98 enters info mode. -/
  | flashInfoEntryCmd (ag : Agent) (off : Nat)
  /-- FLASH_RETURN_TO_READ (R281): Command 0xF0 leaves status and info modes. -/
  | flashReturnToRead (ag : Agent) (off : Nat)
  /-- FLASH_SUSPEND_EFFECT (R290): The suspend takes effect at the end of the current pulse and SUSPCNT counts it. -/
  | flashSuspendEffect
  /-- FLASH_PROGRAM_DONE (R286): A program passes verify or reaches its pulse limit with VFAIL. -/
  | flashProgramDone (pulses : Nat) (pass : Bool)
  /-- FLASH_INTENT_RECORDED (R295): The erase intent has verified, or failed eight times with LEDGER_FAIL. -/
  | flashIntentRecorded (fails : Fin 9)
  /-- FLASH_COMPACTION_DONE (R298): A ledger compaction completes and the new half becomes active. -/
  | flashCompactionDone
  /-- FLASH_ERASE_DONE (R295): An erase passes verify and records completion, or reaches its pulse limit and is marked bad. -/
  | flashEraseDone (pulses : Nat) (pass : Bool)
  /-- FLASH_HOST_READ_BUSY (R287): A host read while the flash is busy returns all ones and sets ACCESS_DURING_BUSY. -/
  | flashHostReadBusy (ag : Agent) (off : Nat)
  /-- FLASH_STALLED_READ_DONE (R287): A stalled cluster or keeper read completes when the operation ends or is suspended. -/
  | flashStalledReadDone (ag : Agent) (off : Nat)
  /-- LANE_TXEQ_WRITE (R310): A LANE_TXEQ write takes effect at a word boundary, or is ignored with TXEQ_RANGE. -/
  | laneTxeqWrite (ag : Agent) (n : Fin 64) (v : Word)
  /-- LANE_WAKE_BURST_END (R312): The wake burst after electrical idle ends and TXRDY rises. -/
  | laneWakeBurstEnd (n : Fin 64)
  /-- CDR_LOCK_ACQUIRED (R314): The CDR locks and CDR_LOCK rises. -/
  | cdrLockAcquired (n : Fin 64)
  /-- CDR_LOCK_LOST (R314): A frequency offset or missing transitions drop CDR_LOCK and set LOL. -/
  | cdrLockLost (n : Fin 64)
  /-- RXIDLE_CHANGE (R315): The idle detector's new state holds for 10 ns and RXIDLE changes. -/
  | rxidleChange (n : Fin 64) (idle : Bool)
  /-- EYE_WINDOW_END (R317): An eye window ends and is classified, then EYE and the adaptation update. -/
  | eyeWindowEnd (n : Fin 64) (e : EyeWindow)
  /-- LANE_LOADLG (R319): A write of LOADLG loads the last-good set at once. -/
  | laneLoadlg (ag : Agent) (n : Fin 64)
  /-- COMMA_ALIGN (R322): The lane aligns on a comma and ALIGNED becomes 1. -/
  | commaAlign (n : Fin 64)
  /-- ALIGN_LOST (R322): Four invalid symbols within 16 clear ALIGNED. -/
  | alignLost (n : Fin 64)
  /-- BLOCK_LOCK_ACQUIRED (R323): 64 valid sync headers set BLOCK_LOCK. -/
  | blockLockAcquired (n : Fin 64)
  /-- BLOCK_LOCK_LOST (R323): 16 invalid headers in 64 clear BLOCK_LOCK and set HDR. -/
  | blockLockLost (n : Fin 64)
  /-- PHASE_FIFO_FAULT (R325): A lane phase FIFO overflows or underflows and re-centres. -/
  | phaseFifoFault (n : Fin 64) (tx : Bool)
  /-- QPLL_LOCK (R308): A quad PLL locks after a relock. -/
  | qpllLock (q : Fin 16) (h : Fin 2)
  /-- QPLL_LOSS_OF_LOCK (R308): A quad PLL loses lock, setting LOL in its lanes. -/
  | qpllLossOfLock (q : Fin 16) (h : Fin 2)
  /-- QUAD_CAL_START (R328): A write of QCTL.CAL starts quad calibration, or is ignored. -/
  | quadCalStart (ag : Agent) (q : Fin 16)
  /-- QUAD_CAL_DONE (R328): Quad calibration passes or fails. -/
  | quadCalDone (q : Fin 16) (pass : Bool)
  /-- QUAD_CAL_TIMEOUT (R328): The 50 ms calibration bound expires, so the quad is held powered down with CALFAIL. -/
  | quadCalTimeout (q : Fin 16)
  /-- PRBS_CLEAR (R329): A write of LANE_PRBS.CLR clears both counters. -/
  | prbsClear (ag : Agent) (n : Fin 64)
  /-- PRBS_CHECKER_LOCK (R329): The PRBS checker locks after 64 error-free bits. -/
  | prbsCheckerLock (n : Fin 64)
  /-- WP_ENABLE (R334): A write of WP_CTL.EN = 1 takes the quads and starts training. -/
  | wpEnable (ag : Agent) (p : Fin 6)
  /-- WP_DISABLE (R341): A write of EN = 0 takes the link down with DISABLED and releases the quads. -/
  | wpDisable (ag : Agent) (p : Fin 6)
  /-- WP_RETRAIN (R342): A write of RETRAIN takes the link down and retrains it. -/
  | wpRetrain (ag : Agent) (p : Fin 6)
  /-- WALE_TRN_SET (R342): A TRN control set advances lane training, RDY and duplicate-ID detection. -/
  | waleTrnSet (p : Fin 6) (lane : Fin 8) (t : TrnSet)
  /-- WALE_TRAIN_TIMEOUT (R342): TLIM expires, so the link goes down with TRAIN. -/
  | waleTrainTimeout (p : Fin 6)
  /-- WALE_LINK_UP (R342): Deskew completes, so STATE becomes UP and the sequence numbers reset. -/
  | waleLinkUp (p : Fin 6)
  /-- WALE_AUTO_RETRAIN (R341): 1 ms after a link down with AUTO, training restarts. -/
  | waleAutoRetrain (p : Fin 6)
  /-- WALE_BLOCK_BAD (R339): A bad block is discarded and one NAK is sent. -/
  | waleBlockBad (p : Fin 6) (fmt : Option (Fin 4096))
  /-- WALE_ACK (R340): An ACK acknowledges blocks up to ASEQ and resets the resend count. -/
  | waleAck (p : Fin 6) (aseq : Fin 4096) (junk : Bool)
  /-- WALE_NAK (R341): An ACK with NAK triggers a resend. -/
  | waleNak (p : Fin 6) (aseq : Fin 4096) (junk : Bool)
  /-- WALE_ACK_SEND (R340): The receiver sends an ACK after 8 blocks, 200 ns or its 1 µs repeat. -/
  | waleAckSend (p : Fin 6)
  /-- WALE_ACK_TIMER_EXPIRY (R341): The ack timer expires and a resend follows. -/
  | waleAckTimerExpiry (p : Fin 6)
  /-- WALE_LANE_FAIL (R343): A receiving lane fails and the receiver sends LMG DROP, or the link goes down with NO_LANES. -/
  | waleLaneFail (p : Fin 6) (lane : Fin 8)
  /-- WALE_LANE_READMIT_READY (R343): A dropped lane is good for 2^16 symbols and LMG READMIT is sent. -/
  | waleLaneReadmitReady (p : Fin 6) (lane : Fin 8)
  /-- WALE_LMG_DROP (R343): LMG DROP changes the transmit lane set after 16 IDL columns. -/
  | waleLmgDrop (p : Fin 6) (set : BitVec 8) (junk : Bool)
  /-- WALE_LMG_READMIT (R343): LMG READMIT widens the lane set. -/
  | waleLmgReadmit (p : Fin 6) (set : BitVec 8) (junk : Bool)
  /-- WALE_LMG_SLEEP (R360): LMG SLEEP puts the far port into SLEEP state. -/
  | waleLmgSleep (p : Fin 6) (junk : Bool)
  /-- WALE_LMG_DOWN (R341): LMG DOWN takes the link down with PEER. -/
  | waleLmgDown (p : Fin 6) (junk : Bool)
  /-- WALE_TIME_EXCHANGE_START (R353): Every TPER a non-root device sends a TSY request. -/
  | waleTimeExchangeStart (fine : Fin 2500)
  /-- WALE_TSY_REQUEST (R353): The upstream device stamps a TSY request and responds. -/
  | waleTsyRequest (p : Fin 6) (xn : Fin 65536) (fine : Fin 2500) (turn : Nat) (junk : Bool)
  /-- WALE_TSY_RESPONSE (R353): The device stamps the TSY response arrival. -/
  | waleTsyResponse (p : Fin 6) (xn : Fin 65536) (fine : Fin 2500) (junk : Bool)
  /-- WALE_TIME_FOLLOW_UP (R353): The follow-up gives t2 and t3, so the device steps or steers its timebase and updates TLOCK. -/
  | waleTimeFollowUp (p : Fin 6) (b : WaleBlock)
  /-- WALE_FOLLOW_UP_TIMEOUT (R353): No follow-up within 20 µs, so the exchange is discarded. -/
  | waleFollowUpTimeout
  /-- WALE_WRITE (R346): An inbound WRITE block is executed, forwarded or dropped. -/
  | waleWrite (p : Fin 6) (b : WaleBlock) (mem : Fin 4)
  /-- WALE_READ (R346): An inbound READ is executed and a completion is returned. -/
  | waleRead (p : Fin 6) (b : WaleBlock) (mem : Fin 4)
  /-- WALE_COMPLETION (R348): A completion ends its request, or is discarded if late. -/
  | waleCompletion (p : Fin 6) (b : WaleBlock)
  /-- WALE_MESSAGE (R350): A MESSAGE enters the queue with EV146, or is dropped with MQ_FULL. -/
  | waleMessage (p : Fin 6) (b : WaleBlock)
  /-- WALE_GANG_BLOCK (R359): A GANG block feeds the configuration engine if Wale is open, and is forwarded. -/
  | waleGangBlock (p : Fin 6) (b : WaleBlock)
  /-- WALE_ADVERT (R352): An ADVERT updates the root, distance, upstream and children. -/
  | waleAdvert (p : Fin 6) (b : WaleBlock)
  /-- WALE_ADVERT_TIMER (R352): Every 1 ms the device sends an ADVERT on each UP port. -/
  | waleAdvertTimer
  /-- WALE_ADVERT_EXPIRY (R352): An ADVERT not renewed for 3 ms expires. -/
  | waleAdvertExpiry (p : Fin 6)
  /-- WALE_JOIN (R351): A JOIN records the peer epoch and ends outstanding requests to it. -/
  | waleJoin (p : Fin 6) (b : WaleBlock)
  /-- WALE_BND (R355): A BND posts a timed manual boundary fire, or broadcasts BNDREF. -/
  | waleBnd (p : Fin 6) (b : WaleBlock)
  /-- WALE_BNDREF (R355): The originator records the refusing device and raises EV150. -/
  | waleBndref (p : Fin 6) (b : WaleBlock)
  /-- WALE_VOTE_CUTOFF (R356): At t − CUTOFF the device tests its WREADY groups and sends a VOTE. -/
  | waleVoteCutoff (src : Fin 64)
  /-- WALE_VOTE (R356): A VOTE is forwarded upstream or tallied at the root. -/
  | waleVote (p : Fin 6) (b : WaleBlock)
  /-- WALE_VERDICT_TIMER (R356): At t − CUTOFF/2 the root broadcasts the VERDICT. -/
  | waleVerdictTimer (num : Nat) (den : Nat)
  /-- WALE_VERDICT (R356): A VERDICT for instant t is recorded for the latch-point test. -/
  | waleVerdict (p : Fin 6) (b : WaleBlock)
  /-- WALE_ALARM (R356): An ALARM records ALARMID and raises EV150. -/
  | waleAlarm (p : Fin 6) (b : WaleBlock)
  /-- WALE_DONE_UP_SEND (R357): When the DONE, port and child conditions hold, the device sends DONE_UP, or as root broadcasts SYSDONE. -/
  | waleDoneUpSend
  /-- WALE_DONE_UP (R357): A received DONE_UP counts the child, and the root answers later ones with SYSDONE. -/
  | waleDoneUp (p : Fin 6) (b : WaleBlock)
  /-- WALE_SYSDONE (R357): A SYSDONE message schedules system DONE at its instant. -/
  | waleSysdone (p : Fin 6) (b : WaleBlock)
  /-- WALE_SYSTEM_DONE_INSTANT (R357): At the SYSDONE instant, system DONE is taken and EV149 is raised. -/
  | waleSystemDoneInstant
  /-- WALE_SLEEP_MSG (R360): A SLEEP broadcast marks the peer asleep and records whether it is wakeable. -/
  | waleSleepMsg (p : Fin 6) (b : WaleBlock)
  /-- WALE_AWAKE (R360): AWAKE clears the peer's asleep mark and sends the held requests. -/
  | waleAwake (p : Fin 6) (b : WaleBlock)
  /-- WALE_WAKE (R360): WAKE is routed toward the target, and the neighbour sends TRN to wake it. -/
  | waleWake (p : Fin 6) (b : WaleBlock)
  /-- WALE_RQ_GO (R350): A GO in a request slot issues a Wale transaction, or is ignored. -/
  | waleRqGo (ag : Agent) (n : Fin 4) (op : Fin 8) (ack : Bool) (len : Fin 256)
  /-- WALE_REQUEST_DEADLINE (R348): A request's deadline expires, ending it with DEADLINE. -/
  | waleRequestDeadline (tag : Fin 256)
  /-- WALE_MQ_POP (R350): A write of WALE_MQ_POP removes the head message. -/
  | waleMqPop (ag : Agent)
  /-- WALE_GANG_GO (R358): A GO starts the gang sender, or is refused with FLASH_BUSY. -/
  | waleGangGo (ag : Agent) (hamper : Bool) (bcast : Bool) (dest : Fin 512)
  /-- WALE_GANG_ABORT (R358): A write of ABORT sends an empty LAST block that ends the stream early. -/
  | waleGangAbort (ag : Agent) (blocks : Nat)
  /-- WALE_GANG_SEND_END (R358): The gang transfer ends: RESULT is set and EV151 is raised. -/
  | waleGangSendEnd
  /-- WALE_GANG_STREAM_TIMEOUT (R359): 1 ms without a GANG block ends the received stream. -/
  | waleGangStreamTimeout
  /-- PCIE_LINK_UP (R364): The PCIe link reaches DL_Active, the port enters PCIe mode and pending MSI-X messages are sent. -/
  | pcieLinkUp (port : Fin 2) (gen : BitVec 3) (width : BitVec 2)
  /-- PCIE_LINK_DOWN (R376): The link leaves DL_Active: the port enters SPI mode, semaphores are released and the open stream ends. -/
  | pcieLinkDown (port : Fin 2)
  /-- PCIE_FLR (R366): A Function Level Reset resets the configuration space, releases the semaphores and truncates the open stream. -/
  | pcieFlr (port : Fin 2)
  /-- PCIE_HOT_RESET (R366): A hot reset acts as a Function Level Reset. -/
  | pcieHotReset (port : Fin 2)
  /-- PCIE_PERST (R366): PERST# on CP0 or CP1 resets the endpoint. -/
  | pciePerst (port : Fin 2)
  /-- STREAM_WINDOW_WRITE (R369): Words written to the stream window are appended to the port's stream, or discarded. -/
  | streamWindowWrite (port : Fin 2) (spi : Bool) (words : List Word)
  /-- HP_SEND_END (R370): A HPx_SEND write of END with KEY 0xE5D0 ends the host stream transfer. -/
  | hpSendEnd (ag : Agent) (port : Fin 2) (v : Word)
  /-- HP_SRET_READ (R370): A read of HPx_SRET removes the head word of the return queue. -/
  | hpSretRead (ag : Agent) (port : Fin 2)
  /-- HP_SPIREL (R376): A write of SPIREL releases the semaphores of the other port's SPI identity. -/
  | hpSpirel (ag : Agent) (port : Fin 2)
  /-- SPI_READ (R371): A service SPI READ frame returns words with ready bytes. -/
  | spiRead (port : Fin 2) (addr : Word) (n : Nat)
  /-- SPI_WRITE (R371): A service SPI WRITE frame applies each word as it completes. -/
  | spiWrite (port : Fin 2) (addr : Word) (words : List Word)
  /-- SPI_STATUS (R371): A service SPI STATUS frame returns the status word and clears its error bits. -/
  | spiStatus (port : Fin 2)
  /-- SPI_FRAME_ERROR (R372): Chip select rises inside an item, or an invalid opcode or region arrives, so SPI_ERR is set. -/
  | spiFrameError (port : Fin 2)
  /-- SEM_ACQUIRE (R374): A write of ACQ grants a free semaphore, or sets WAIT. -/
  | semAcquire (ag : Agent) (n : Fin 64)
  /-- SEM_RELEASE (R374): The owner's write of REL frees the semaphore, raising EV376 if WAIT was set. -/
  | semRelease (ag : Agent) (n : Fin 64)
  /-- SEM_FORCE (R377): A SEM_FORCE write with KEY 0xC35A force-releases a semaphore and logs it. -/
  | semForce (ag : Agent) (v : Word)
  /-- MB_RING (R380): A write of RING sets FULL, records SENDER and raises the mailbox event. -/
  | mbRing (ag : Agent) (m : Fin 16)
  /-- MB_ACK (R380): A write of ACK clears FULL. -/
  | mbAck (ag : Agent) (m : Fin 16)
  /-- MB_DATA_WRITE (R380): A mailbox data write is stored, or discarded with OVR while FULL. -/
  | mbDataWrite (ag : Agent) (m : Fin 16) (i : Fin 8) (v : Word)
  /-- HAMPER_TRAIN_DONE (R391): Boot training ends READY or OFF, and EV208 is raised. -/
  | hamperTrainDone (pass : Bool)
  /-- HAMPER_TRAIN_TIMEOUT (R391): The 75 ms training bound expires, so the hamper is disabled. -/
  | hamperTrainTimeout
  /-- HAMPER_PORT_REQUEST (R385): A hamper port accepts a request by handshake. -/
  | hamperPortRequest (n : Fin 32) (rq : HampRq)
  /-- HAMPER_ACCESS_DONE (R387): A hamper access completes and its response carries its status. -/
  | hamperAccessDone (src : HampSrc) (sev : Fin 4)
  /-- HAMPER_REFRESH (R389): A refresh interval elapses and a refresh is issued. -/
  | hamperRefresh
  /-- HAMPER_TEMP_READ (R389): Every 1 ms the stack temperature is read and the refresh rate adjusted. -/
  | hamperTempRead (temp : BitVec 8)
  /-- HAMPER_RETRAIN (R393): A write of TRAIN holds new requests and drains the hamper for a retrain. -/
  | hamperRetrain (ag : Agent)
  /-- HAMPER_RETRAIN_DRAINED (R393): The drain completes and the PHY retrains. -/
  | hamperRetrainDrained
  /-- HAMPER_DRAIN_TIMEOUT (R393): The drain exceeds 1 ms, so the retrain is abandoned with TRAIN_REFUSED. -/
  | hamperDrainTimeout
  /-- HAMPER_RETRAIN_DONE (R393): The retrain ends, service resumes and EV217 is raised. -/
  | hamperRetrainDone
  /-- HAMPER_SELF_REFRESH_EXIT (R395): On wake the stack leaves self-refresh and STATE returns to READY. -/
  | hamperSelfRefreshExit
  /-- CLUSTER_RUN_WRITE (R401): A SYS_CLCTL write with KEY 0x3CA5 releases or holds cores. -/
  | clusterRunWrite (ag : Agent) (v : Word)
  /-- WD_ENABLE (R403): A write of EN = 1 starts a watchdog. -/
  | wdEnable (i : Fin 5)
  /-- WD_KICK (R403): A kick key write restarts a watchdog and clears its stage. -/
  | wdKick (i : Fin 5) (v : Word)
  /-- WD_EXPIRY (R403): The watchdog count expires: the first stage fires, the second resets. -/
  | wdExpiry (i : Fin 5)
  /-- GW_WINDOW_ACCESS (R406): A fabric window access goes to a gateway port, or is answered at once if the port is unavailable. -/
  | gwWindowAccess (ag : Agent) (req : WindowReq)
  /-- GW_WINDOW_RESPONSE (R406): The fabric answers a window read. -/
  | gwWindowResponse (port : Fin 4) (tag : Fin 32) (data : List (BitVec 64)) (err : Bool)
  /-- GW_WINDOW_TIMEOUT (R408): A window read exceeds TLIM and completes with all ones. -/
  | gwWindowTimeout (port : Fin 4) (tag : Fin 32)
  /-- GW_MASTER_REQUEST (R407): The fabric issues a master request, local or over Wale. -/
  | gwMasterRequest (port : Fin 4) (req : MasterReq)
  /-- GW_MASTER_DONE (R407): A master request completes with its status on MR_STAT. -/
  | gwMasterDone (port : Fin 4) (tag : Fin 32)
  /-- EVENT_RAISE (R409): A source sets its PEND bit and is presented to its targets. -/
  | eventRaise (n : Fin 448)
  /-- USER_EVENT_EDGE (R409): A rising edge on a fabric UEV line raises its event. -/
  | userEventEdge (w : Fin 2) (j : Fin 32)
  /-- EVT_CLAIM (R410): A read of EVT_CLAIMc returns the highest presented source and clears its PEND. -/
  | evtClaim (ag : Agent) (c : Fin 4)
  /-- EVT_RAISE_WRITE (R489): A write of EVT_RAISE raises the named source. -/
  | evtRaiseWrite (ag : Agent) (v : Word)
  /-- PL_REQUEST (R417): A PWR_PLREQ GO submits a level request for the next boundary, or is refused. -/
  | plRequest (ag : Agent) (v : Word)
  /-- PL_RAMP_DONE (R418): A level ramp ends: PWR_STAT shows the level and EV240 is raised. -/
  | plRampDone
  /-- MODE_REQUEST_DOZE (R424): A PWR_MREQ GO for DOZE ramps to the doze levels and gates the stake nets, or is refused. -/
  | modeRequestDoze (ag : Agent)
  /-- MODE_REQUEST_SLEEP (R422): A PWR_MREQ GO for SLEEP starts the drain, or is refused. -/
  | modeRequestSleep (ag : Agent)
  /-- MODE_REQUEST_STANDBY (R422): A PWR_MREQ GO for STANDBY starts the drain, or is refused. -/
  | modeRequestStandby (ag : Agent)
  /-- QUIESCE_DONE (R423): Every domain has drained, so the SLEEP or STANDBY entry proceeds. -/
  | quiesceDone
  /-- QUIESCE_TIMEOUT (R423): QUIESCE_LIMIT expires, so the request is refused with QUIESCE. -/
  | quiesceTimeout (busy : BitVec 4)
  /-- SLEEP_ENTERED (R425): The SLEEP entry sequence completes: MODE becomes SLEEP and EV242 is raised. -/
  | sleepEntered
  /-- WAKE_SOURCE (R427): An enabled wake source fires, ending DOZE, SLEEP or STANDBY, or refusing a drain with WOKEN. -/
  | wakeSource (src : Fin 8) (port : Fin 2)
  /-- WAKE_TIMER_EXPIRY (R427): PWR_WTIMER reaches 0 and acts as a wake source. -/
  | wakeTimerExpiry
  /-- SLEEP_WAKE_RUN (R428): After the wake ramp, the retention checks and the hub clock switch, MODE becomes RUN and EV243 is raised. -/
  | sleepWakeRun (stale : StaleBanks)
  /-- SOUNDING_REQUEST (R442): A SND_REQ GO starts an in-service sounding, or is refused. -/
  | soundingRequest (ag : Agent) (v : Word)
  /-- SOUNDING_ABORT (R444): A write of ABORT ends the sounding early with ABANDONED. -/
  | soundingAbort (ag : Agent)
  /-- SOUNDING_COPY_DONE (R443): The copy to the spare ends and the ports switch to it. -/
  | soundingCopyDone
  /-- SOUNDING_RUN_DONE (R443): The test run ends: a pass moves back, a failure is repaired or keeps the spare. -/
  | soundingRunDone (run : SoundRun)
  /-- SOUNDING_MOVE_BACK_DONE (R443): The content moves back and RESULT is recorded. -/
  | soundingMoveBackDone
  /-- LOADING_SOUNDING_BATCH_DONE (R440): A batch of bays sounded during LOADING ends, releasing stalled frame writes. -/
  | loadingSoundingBatchDone (rep : SoundReport)
  /-- FUSE_BURN (R445): A SND_FUSEGO write with KEY 0x96C3 starts a repair fuse burn, or is refused. -/
  | fuseBurn (ag : Agent) (v : Word)
  /-- FUSE_BURN_DONE (R445): A fuse burn ends and EV308 is raised. -/
  | fuseBurnDone
  /-- STALE_CLEAR (R446): A SND_STALECLR write with KEY 0x5AC3 clears a creel's STALE record. -/
  | staleClear (ag : Agent) (v : Word)
  /-- CREEL_SCRUB_STEP (R93): After 2^(n+3) idle cycles a creel scrub step reads the next word. -/
  | creelScrubStep (n : Fin 11520)
  /-- CREEL_SCRUB_WRITE_BACK (R93): A corrected word is written back on the next free port-A cycle, or cancelled by a user write. -/
  | creelScrubWriteBack (n : Fin 11520)
  /-- LC_TRANSITION (R459): A GO with a TRANSITION request starts its verification, or is refused. -/
  | lcTransition (ag : Agent)
  /-- LC_SET_OWNER (R457): A GO with a SET_OWNER request starts its verification. -/
  | lcSetOwner (ag : Agent)
  /-- LC_SET_KEY_FUSE (R457): A GO with a SET_KEY_FUSE request starts its verification. -/
  | lcSetKeyFuse (ag : Agent)
  /-- LC_LOAD_KEY_BBR (R457): A GO with a LOAD_KEY_BBR request starts its verification. -/
  | lcLoadKeyBbr (ag : Agent)
  /-- LC_CLEAR_KEY_BBR (R457): A GO with a CLEAR_KEY_BBR request starts its verification. -/
  | lcClearKeyBbr (ag : Agent)
  /-- LC_DEBUG_TOKEN (R462): A debug token, given in-band or by JTAG, is verified and opens a debug session. -/
  | lcDebugToken (ag : Agent) (jtag : Bool)
  /-- LC_REQBUF_CLEAR (R456): A write of CLR zeroes LC_REQBUF. -/
  | lcReqbufClear (ag : Agent)
  /-- LC_REQUEST_VERIFIED (R458): Verification ends: the request is refused with a result, or burning begins with the counter fuse. -/
  | lcRequestVerified (vinOk : Bool)
  /-- LC_BURN_DONE (R452): The burns of a request end DONE or BURN_FAIL and EV312 is raised. -/
  | lcBurnDone (failed : Option Nat)
  /-- TAMPER_EVENT (R464): Supply loss, temperature or the tamper pin zeroises KEY_BBR. -/
  | tamperEvent (cause : Fin 3)
  /-- ZEROISE_WRITE (R464): A write of LC_TAMPER.ZEROISE with KEY 0x7E3A zeroises KEY_BBR. -/
  | zeroiseWrite (ag : Agent) (v : Word)
  /-- DEBUG_CLOSE (R462): A write of LC_DEBUG.CLOSE ends the debug session. -/
  | debugClose (ag : Agent)
  /-- JTAG_TAP_RESET (R461): Test-Logic-Reset resets the TAP. -/
  | jtagTapReset
  /-- JTAG_LC_TOKEN_UPDATE (R461): Update-DR of LC_TOKEN marks the register complete or empty. -/
  | jtagLcTokenUpdate (shifts : Nat) (bytes : List Byte)
  /-- JTAG_EXTEST (R467): The EXTEST instruction, where it is permitted. -/
  | jtagExtest
  /-- JTAG_CLAMP (R467): The CLAMP instruction, where it is permitted. -/
  | jtagClamp
  /-- JTAG_HIGHZ (R467): The HIGHZ instruction, where it is permitted. -/
  | jtagHighz
  /-- JTAG_IDCODE (R467): The IDCODE instruction returns the JTAG IDCODE. -/
  | jtagIdcode
  /-- JTAG_SAMPLE_PRELOAD (R467): The SAMPLE/PRELOAD instruction. -/
  | jtagSamplePreload
  /-- JTAG_LC_TOKEN (R467): The LC_TOKEN instruction selects the 2,176-bit token register. -/
  | jtagLcToken
  /-- JTAG_LC_STATUS (R467): The LC_STATUS instruction reads LC_STATE. -/
  | jtagLcStatus
  /-- JTAG_DMI (R467): The DMI instruction reaches the cluster debug module where it is permitted. -/
  | jtagDmi
  /-- JTAG_GRENRIC_TEST (R467): The Grenric test instructions, in FACTORY TEST only. -/
  | jtagGrenricTest (code : Fin 16)
  /-- JTAG_BYPASS (R467): The BYPASS instruction, also taken by any instruction that is not permitted. -/
  | jtagBypass
  /-- REGISTER_WRITE (R8): A write to a manager-space register without a row of its own applies under its access code, pending, discarded or ignored. -/
  | registerWrite (ag : Agent) (off : Nat) (v : Word) (full : Bool)
  /-- STAKE_NET_EDGE (R43): An active edge of a bay's stake net clocks the flip-flops, memory bricks, creel ports and FIFOs, slices, bridges, Inner Port beats and lane fabric FIFOs on that net. -/
  | stakeNetEdge (bay : Fin 96) (net : Fin 24) (rising : Bool) (pins : EdgePins)
  /-- LANE_RX_WORD (R321): A lane receives and decodes a parallel word, flags invalid or wrong-disparity symbols and invalid headers, counts errors in LANE_CNT_ERR and checks PRBS bits. -/
  | laneRxWord (n : Fin 64) (w : LaneRx)
  /-- VBAT_LOW (R433): VBAT falls below 2.2 V while the battery-backed register holds a key, setting PWR_ERR.VBAT_LOW and raising EV292. -/
  | vbatLow
  /-- PCIE_POWER_STATE_CHANGE (R382): A host port's endpoint changes D-state or enters or leaves ASPM L1, updating HPx_STAT.DSTATE or L1 and raising port event +4. -/
  | pciePowerStateChange (port : Fin 2) (d3hot : Bool) (l1 : Bool) (cfg : EndpointCfg)
  /-- CLUSTER_BUS_ACCESS (R398): A cluster core load, store or fetch outside the mapped regions, a write to a read-only region, or an uncorrectable SRAM error ends in a bus error and raises EV359. -/
  | clusterBusAccess (core : Fin 4) (acc : BusAccess)
  deriving DecidableEq, Repr

end Sys2Proof
end

