-- ==== Sys2Proof/Config.lean ====
section
/-! DEFINITION. What an implementation fixes and the spec leaves open.  Every opaque constant here has
no body a proof could see, so a statement that is proved holds whatever its value is.
The free values are applied to the model's own counter `State.freeCtr` (assumption 1). -/
namespace Sys2Proof

/-- A free 32-bit value: a result the spec leaves open and after which the machine goes on. -/
opaque Config.freeWord : Nat → Word

/-- A free natural number, where the open value is wider than a register or has no fixed width. -/
opaque Config.freeNat : Nat → Nat

/-- What a byte of undefined flash content reads as: `token` names the event that left it undefined,
`addr` the byte. -/
opaque Config.flashByte : (token addr : Nat) → Byte

/-- A free bit: `ctr` is the model's counter, `i` tells apart several free bits of one command. -/
opaque Config.freeBit : (ctr i : Nat) → Bool

/-! Where the configuration fields lie in the frames of a column: the spec leaves the positions to
Dexunent's device database (R64, R84, R103, R133).  Each constant takes a bit of this model's own
listing of a column's fields (Layout.lean) to a linear bit `10240 * minor + j` of the column.  It is a
permutation of the column's bits: two bits of the listing never lie at one place, and none lies outside
the column's frames (R180). -/

/-- The bits of the 12 frames of a logic column. -/
opaque Config.tilePlace : Equiv.Perm (Fin 122880)

/-- The bits of the 4 structure frames of a creel column. -/
opaque Config.creelPlace : Equiv.Perm (Fin 40960)

/-- The bits of the 8 frames of a slice column. -/
opaque Config.slicePlace : Equiv.Perm (Fin 81920)

/-- The bits of the 8 frames of a clock column. -/
opaque Config.clockPlace : Equiv.Perm (Fin 81920)

/-- The bits of the 24 frames of a user I/O column (`lane` false) or a lane interface column. -/
opaque Config.edgePlace : (lane : Bool) → Equiv.Perm (Fin 245760)

/-- Bit `b` of the 2,048 bits of the tile at `row` of a logic column. -/
def Config.tileBit (row b : Nat) : Nat := (Config.tilePlace (Fin.ofNat 122880 (2048 * row + b))).val

/-- Bit `b` of the 1,280 bits of the creel at `row`. -/
def Config.creelBit (row b : Nat) : Nat := (Config.creelPlace (Fin.ofNat 40960 (1280 * row + b))).val

/-- Bit `b` of the 2,560 bits of the slice at `row`. -/
def Config.sliceBit (row b : Nat) : Nat := (Config.slicePlace (Fin.ofNat 81920 (2560 * row + b))).val

/-- Bit `b` of a clock column. -/
def Config.clockBit (b : Nat) : Nat := (Config.clockPlace (Fin.ofNat 81920 b)).val

/-- Bit `b` of a user I/O column (`lane` false) or a lane interface column. -/
def Config.edgeBit (lane : Bool) (b : Nat) : Nat := (Config.edgePlace lane (Fin.ofNat 245760 b)).val

/-- The first word of a nonzero frame in which a select that only the device database sizes or lists
is illegal (R84, R103), or a reserved bit is 1 (R64). -/
opaque Config.databaseIllegal : (place : Nat) → (frame : BitVec 10240) → Option (Fin 320)

/-! Routing (R55, R57, R61, R67): the spec leaves the source table of the routing multiplexers to the
device database. -/

/-- A source a routing multiplexer can select: an output of one of the tile's 16 cells (X, Y, QA, QB), a
readable point of a wire of direction N, E, S or W, class S1, S2, S4 or S12 and track `track` (`far`: the
farther of its two points), or output `k` of a hard block beside the tile. -/
inductive RouteSource where
  | cell (c : Fin 16) (out : Fin 4)
  | wire (dir : Fin 4) (cls : Fin 4) (track : Fin 4) (far : Bool)
  | block (k : Nat)
  deriving DecidableEq, Repr, Inhabited

/-- An output of a hard block: a bridge bit of the tile row, a bit of a boundary port (32: UPD), a bit of the
Inner Port, PACK of a panel, a bit of a creel port's outputs, a bit of a slice's RES and FLAGS, a bit of the outputs of
a lane of the band-wythe, or a signal of another block, whose level the command gives. -/
inductive BlockPin where
  | bridge (bit : Fin 32)
  | bport (p : Fin 4) (bit : Fin 33)
  | inner (bit : Nat)
  | pack (g : Fin 8)
  | creel (i : Fin 120) (isB : Bool) (bit : Nat)
  | slice (i : Fin 120) (bit : Fin 68)
  | lane (i : Fin 4) (bit : Fin 115)
  | level (n : Nat)
  deriving DecidableEq, Repr, Inhabited

/-- The source that code `code` of multiplexer `mux` of a tile selects (`mux` numbers the selects as Layout.lean
lists them); identical in every tile (R55). -/
opaque Config.routeSource : (mux : Fin 192) → (code : Fin 16) → RouteSource

/-- What output `k` of a hard block beside the tile at `(bayColumn, column, row)` is. -/
opaque Config.blockPin : (bayColumn column row k : Nat) → BlockPin

/-- The signal of the sending bay's last logic column that a bridge bit takes (R67). -/
opaque Config.bridgeSource : (bit : Fin 32) → RouteSource

/-- Does BITSLIP move the word boundary of a user pin to a later bit (R482), and is the first bit of a word on
the line its bit 0? -/
opaque Config.bitslipLater : Bool
opaque Config.padLsbFirst : Bool

/-- Is a 4-bit sync header one of the two of the DisplayPort 128b/132b code (R323)? -/
opaque Config.gb132Header : BitVec 4 → Bool

/-- What a byte of undefined hamper content reads as (R384, R391): `token` names the training or the map
change that left it undefined. -/
opaque Config.hampByte : (token addr : Nat) → Byte

/-- What a byte of cluster SRAM reads as before anything has written it (R398, R429): `token` names the
event that left it undefined. -/
opaque Config.sramByte : (token addr : Nat) → Byte

/-- What the corrections for internal paths and for WP_ASYM add to a time stamp, in picoseconds (R353):
`kind` 1 to 4 for t1 to t4, `asym` the WP_ASYM value. -/
opaque Config.stampCorrection : (kind : Nat) → (asym : Int) → Int

/-- The payload words of a system message and of a time follow-up, and what such words stand for: the spec lists
the values a payload carries, not their layout (R352, R353). -/
opaque Config.sysWords : SysMsg → List Word
opaque Config.sysRead : (sub : Nat) → List Word → Option SysMsg
opaque Config.followUpWords : (xn : Fin 65536) → (t2 t3 : Int) → List Word
opaque Config.followUpRead : List Word → Option (Fin 65536 × Int × Int)

/-- The Grenric key hash in keeper ROM (R455), as a number of 384 bits. -/
opaque Config.grenricHash : Nat

/-- The vendor identity of the host ports, from fuses (R382). -/
opaque Config.vendorId : BitVec 16

/-- The silicon revision and the manufacturer code of the JTAG IDCODE (R467). -/
opaque Config.siliconRevision : BitVec 4
opaque Config.jedecCode : BitVec 11

end Sys2Proof
end

