-- ==== Sys2Proof/Machine/Bits.lean ====
section
/-! DEFINITION. Bit fields of 32-bit registers (R5: NAME[msb:lsb], bit 0 least significant), sign
extension, and byte order (R6: little-endian). -/
namespace Sys2Proof.Machine

/-- The field `[hi:lo]` of a word, as a number (R5). -/
def getBits (w : Word) (hi lo : Nat) : Nat := w.toNat / 2 ^ lo % 2 ^ (hi - lo + 1)

/-- Bit `i` of a word (R5). -/
def getBit (w : Word) (i : Nat) : Bool := w.getLsbD i

/-- A word with ones in `[hi:lo]` and zeros elsewhere. -/
def maskBits (hi lo : Nat) : Word := BitVec.ofNat 32 ((2 ^ (hi - lo + 1) - 1) * 2 ^ lo)

/-- The word with its field `[hi:lo]` replaced by the low bits of `v`, every other bit kept (R5). -/
def putBits (w : Word) (hi lo v : Nat) : Word :=
  (w &&& ~~~maskBits hi lo) ||| BitVec.ofNat 32 (v % 2 ^ (hi - lo + 1) * 2 ^ lo)

/-- The word with bit `i` replaced by `b`, every other bit kept (R5). -/
def putBit (w : Word) (i : Nat) (b : Bool) : Word := putBits w i i b.toNat

/-- The 32-bit two's-complement value of a word. -/
def wordInt (w : Word) : Int := w.toInt

/-- A `width`-bit two's-complement field, read as a number. -/
def signExtend (width v : Nat) : Int :=
  if v % 2 ^ width < 2 ^ (width - 1) then (v % 2 ^ width : Nat) else (v % 2 ^ width : Nat) - (2 ^ width : Nat)

/-- A number written into a `width`-bit two's-complement field. -/
def toField (width : Nat) (v : Int) : Nat := (v % (2 ^ width : Nat)).toNat

/-- The four bytes of a word, least significant first (R6). -/
def wordBytes (w : Word) : List Byte :=
  [w.extractLsb' 0 8, w.extractLsb' 8 8, w.extractLsb' 16 8, w.extractLsb' 24 8]

/-- The word of four bytes, least significant first (R6). -/
def bytesWord (b0 b1 b2 b3 : Byte) : Word := b3 ++ b2 ++ b1 ++ b0

/-- The numbers of the bits of `w` that are 1, below `n`. -/
def bitList (w : Word) (n : Nat) : List Nat := (List.range n).filter (fun i => w.getLsbD i)

/-- The word whose bit `i` is `f i` for `i` below 32. -/
def wordOf (f : Nat → Bool) : Word :=
  BitVec.ofNat 32 ((List.range 32).foldl (fun a i => if f i then a + 2 ^ i else a) 0)

/-- The access-code effect of a plain write on one register (R8): RW and RWB bits take the written
value, W1C bits written as 1 clear, every other bit is kept (R9). -/
def applyWrite (rw rwb w1c : Nat) (old v : Word) : Word :=
  let wr := BitVec.ofNat 32 (rw ||| rwb)
  let cl := BitVec.ofNat 32 w1c &&& v
  ((old &&& ~~~wr) ||| (v &&& wr)) &&& ~~~cl

end Sys2Proof.Machine
end

