-- ==== Sys2Proof/Machine/RegTable.lean ====
section
/-! DEFINITION. The manager-space register map (R6, R488): every register of the spec's tables, its
manager offset, its reset value, and which of its bits are RW, RWB, W1C, with the semaphore an RWS
register names (R8, R375).  RO and WO bits have no mask: a write leaves them, and what such a write
does is the command's own meaning.  Rows stand in the order of 20_register_and_event_index.md. -/
namespace Sys2Proof.Machine

/-- One register family of a table: `n1` copies `s1` apart, each of `n2` copies `s2` apart. -/
structure RegRow where
  base : Nat
  n1 : Nat
  s1 : Nat
  n2 : Nat
  s2 : Nat
  /-- The Reset column (R10); "keeper" fields stand as 0 here (assumption 3). -/
  reset : Nat
  rw : Nat
  rwb : Nat
  w1c : Nat
  /-- The designated semaphore of an RWS register (R375). -/
  sem : Option Nat
  deriving DecidableEq, Repr

/-- Does the row hold manager offset `off`? -/
def RegRow.covers (r : RegRow) (off : Nat) : Bool :=
  decide (r.base ≤ off) &&
    (let d := off - r.base
     decide (d / r.s1 < r.n1) && decide (d % r.s1 / r.s2 < r.n2) && decide (d % r.s1 % r.s2 = 0))

/-- The registers of the SYS block. -/
def regRowsSys : List RegRow := [
  ⟨0x10, 1, 0x4, 1, 0x4, 0x12, 0x0, 0x0, 0x0, none⟩,  -- SYS_MODE R30
  ⟨0x14, 1, 0x4, 1, 0x4, 0x0, 0x0, 0x0, 0x1FE, none⟩,  -- SYS_FAULT R30
  ⟨0x18, 1, 0x4, 1, 0x4, 0x0, 0x1FE, 0x0, 0x0, none⟩,  -- SYS_FAULT_MASK R31
  ⟨0x1C, 1, 0x4, 1, 0x4, 0x0, 0x0, 0x0, 0x0, none⟩,  -- SYS_CTL R31
  ⟨0x20, 1, 0x4, 1, 0x4, 0x0, 0x0, 0x0, 0x0, none⟩,  -- SYS_BOOT R229
  ⟨0x24, 1, 0x4, 1, 0x4, 0x0, 0x0, 0x0, 0x0, none⟩,  -- SYS_BOOTNUM R229
  ⟨0x28, 1, 0x4, 1, 0x4, 0x0, 0x0, 0x0, 0x0, none⟩,  -- SYS_BOOTADJ R229
  ⟨0x2C, 1, 0x4, 1, 0x4, 0x0, 0x0, 0x0, 0x0, none⟩,  -- SYS_BOOTCLR R229
  ⟨0x30, 1, 0x4, 1, 0x4, 0x0, 0x0, 0x0, 0x0, none⟩,  -- SYS_T_PRIO R229
  ⟨0x34, 1, 0x4, 1, 0x4, 0x0, 0x0, 0x0, 0x0, none⟩,  -- SYS_T_RUN R229
  ⟨0x40, 1, 0x4, 1, 0x4, 0x0, 0xF, 0x0, 0x0, none⟩,  -- SYS_CLCTL R401
  ⟨0x44, 1, 0x4, 1, 0x4, 0x0, 0x0, 0x0, 0xF0, none⟩,  -- SYS_CLSTAT R401
  ⟨0x48, 1, 0x4, 1, 0x4, 0x3FF00000, 0xFFFFFFFF, 0x0, 0x0, none⟩,  -- SYS_CLVEC_LO R401
  ⟨0x4C, 1, 0x4, 1, 0x4, 0x2, 0xFF, 0x0, 0x0, none⟩,  -- SYS_CLVEC_HI R401
  ⟨0x50, 1, 0x4, 1, 0x4, 0x10, 0xFF, 0x0, 0x0, none⟩,  -- SYS_GWCFG R408
  ⟨0x54, 1, 0x4, 1, 0x4, 0x0, 0x0, 0x0, 0xF, none⟩,  -- SYS_GWERR R408
  ⟨0x58, 1, 0x4, 1, 0x4, 0x0, 0x0, 0x0, 0x0, none⟩,  -- SYS_GWSTAT R408
  ⟨0x60, 1, 0x4, 1, 0x4, 0x0, 0x0, 0x0, 0x0, none⟩  -- SYS_IOMIS R481
]

/-- The registers of the LC block. -/
def regRowsLc : List RegRow := [
  ⟨0x10000, 1, 0x4, 1, 0x4, 0x0, 0x0, 0x0, 0x0, none⟩,  -- LC_STATE R469
  ⟨0x10010, 4, 0x4, 1, 0x4, 0x0, 0x0, 0x0, 0x0, none⟩,  -- LC_UID R469
  ⟨0x10020, 1, 0x4, 1, 0x4, 0x0, 0x0, 0x0, 0x0, none⟩,  -- LC_TOKENS R469
  ⟨0x10024, 1, 0x4, 1, 0x4, 0x0, 0x0, 0x0, 0x0, none⟩,  -- LC_KCV R469
  ⟨0x10028, 1, 0x4, 1, 0x4, 0x0, 0x0, 0x0, 0x0, none⟩,  -- LC_KCVB R469
  ⟨0x10040, 1, 0x4, 1, 0x4, 0x0, 0x0, 0x0, 0x0, some 2⟩,  -- LC_REQCTL R469
  ⟨0x10044, 1, 0x4, 1, 0x4, 0x0, 0x0, 0x0, 0x80000000, none⟩,  -- LC_REQSTAT R469
  ⟨0x10048, 1, 0x4, 1, 0x4, 0x0, 0x3, 0x0, 0x0, some 2⟩,  -- LC_TAMPER R469
  ⟨0x1004C, 1, 0x4, 1, 0x4, 0x0, 0x0, 0x0, 0x3F, none⟩,  -- LC_ZCAUSE R469
  ⟨0x10050, 1, 0x4, 1, 0x4, 0x0, 0x0, 0x0, 0x0, some 2⟩,  -- LC_DEBUG R469
  ⟨0x10100, 128, 0x4, 1, 0x4, 0x0, 0xFFFFFFFF, 0x0, 0x0, some 2⟩  -- LC_REQBUF R469
]

/-- The registers of the CFG block. -/
def regRowsCfg : List RegRow := [
  ⟨0x20000, 1, 0x4, 1, 0x4, 0x10700963, 0x0, 0x0, 0x0, none⟩,  -- CFG_IDCODE R199
  ⟨0x20040, 1, 0x4, 1, 0x4, 0x0, 0x0, 0x0, 0xC0000000, none⟩,  -- CFG_ERR R199
  ⟨0x20044, 1, 0x4, 1, 0x4, 0x0, 0x0, 0x0, 0x0, none⟩,  -- CFG_ERRPLACE R199
  ⟨0x20048, 1, 0x4, 1, 0x4, 0x0, 0x0, 0x0, 0x0, none⟩,  -- CFG_ERRPOS R199
  ⟨0x2004C, 1, 0x4, 1, 0x4, 0x0, 0x0, 0x0, 0x0, none⟩,  -- CFG_ERRWORD R199
  ⟨0x20080, 1, 0x4, 1, 0x4, 0x7, 0x7, 0x0, 0x0, some 0⟩,  -- CFG_PSRC R259
  ⟨0x20084, 1, 0x4, 1, 0x4, 0x0, 0x3FFFFFFF, 0x0, 0x0, some 0⟩,  -- CFG_PFLASH_ADDR R259
  ⟨0x20088, 1, 0x4, 1, 0x4, 0x0, 0x3FFFFFFF, 0x0, 0x0, some 0⟩,  -- CFG_PFLASH_LEN R259
  ⟨0x2008C, 1, 0x4, 1, 0x4, 0x0, 0x1F7F, 0x0, 0x0, some 0⟩,  -- CFG_IPCTL R259
  ⟨0x20090, 1, 0x4, 1, 0x4, 0x0, 0x0, 0x0, 0x10000, none⟩,  -- CFG_STGSTAT R259
  ⟨0x20094, 1, 0x4, 1, 0x4, 0x0, 0x0, 0x0, 0x0, none⟩,  -- CFG_STGSID R259
  ⟨0x200A0, 1, 0x4, 1, 0x4, 0x3F, 0x3F, 0x0, 0x0, some 0⟩,  -- CFG_DWCTL R259
  ⟨0x200A4, 1, 0x4, 1, 0x4, 0x0, 0xFFFFFFFF, 0x0, 0x0, some 0⟩,  -- CFG_DWPLACE R259
  ⟨0x200A8, 1, 0x4, 1, 0x4, 0x0, 0x0, 0x0, 0x0, some 0⟩,  -- CFG_DWDATA R259
  ⟨0x200AC, 1, 0x4, 1, 0x4, 0x0, 0x0, 0x0, 0x100, none⟩,  -- CFG_DWSTAT R259
  ⟨0x20100, 8, 0x40, 1, 0x4, 0x0, 0x0, 0x0, 0x0, none⟩,  -- CG_MASK0 R259
  ⟨0x20104, 8, 0x40, 1, 0x4, 0x0, 0x0, 0x0, 0x0, none⟩,  -- CG_MASK1 R259
  ⟨0x20108, 8, 0x40, 1, 0x4, 0x0, 0x0, 0x0, 0x0, none⟩,  -- CG_MASK2 R259
  ⟨0x2010C, 8, 0x40, 1, 0x4, 0x0, 0x0, 0x0, 0x0, none⟩,  -- CG_EDGE R259
  ⟨0x20110, 8, 0x40, 1, 0x4, 0x0, 0x2, 0x0, 0x0, some 0⟩,  -- CG_CTL R259
  ⟨0x20114, 8, 0x40, 1, 0x4, 0x103F, 0x7FF3F, 0x0, 0x0, some 0⟩,  -- CG_CFG R259
  ⟨0x20118, 8, 0x40, 1, 0x4, 0x0, 0xFFFFFF, 0x0, 0x0, some 0⟩,  -- CG_DEADLINE R259
  ⟨0x2011C, 8, 0x40, 1, 0x4, 0x0, 0x0, 0x0, 0x10000, none⟩,  -- CG_STAT R259
  ⟨0x20120, 8, 0x40, 1, 0x4, 0x0, 0x0, 0x0, 0x0, none⟩,  -- CG_LAST0 R259
  ⟨0x20124, 8, 0x40, 1, 0x4, 0x0, 0x0, 0x0, 0x0, none⟩,  -- CG_LAST1 R259
  ⟨0x20128, 8, 0x40, 1, 0x4, 0x0, 0x0, 0x0, 0x0, none⟩,  -- CG_LAST2 R259
  ⟨0x2012C, 8, 0x40, 1, 0x4, 0x0, 0xFFFFFFFF, 0x0, 0x0, some 0⟩,  -- CG_PANEL0 R259
  ⟨0x20130, 8, 0x40, 1, 0x4, 0x0, 0xFFFFFFFF, 0x0, 0x0, some 0⟩,  -- CG_PANEL1 R259
  ⟨0x20134, 8, 0x40, 1, 0x4, 0x0, 0xFFFFFFFF, 0x0, 0x0, some 0⟩,  -- CG_PANEL2 R259
  ⟨0x20138, 8, 0x40, 1, 0x4, 0x7F, 0x17F, 0x0, 0x0, some 0⟩,  -- CG_PCTL R259
  ⟨0x20300, 12, 0x4, 1, 0x4, 0x0, 0x0, 0x0, 0x0, none⟩,  -- CFG_SHSTATE R259
  ⟨0x20330, 2, 0x4, 1, 0x4, 0x0, 0x0, 0x0, 0x0, none⟩,  -- CFG_SHEDGE R259
  ⟨0x20400, 96, 0x8, 1, 0x4, 0x0, 0x0, 0x0, 0x0, none⟩,  -- CFG_FLOOR_LIVE R259
  ⟨0x20404, 96, 0x8, 1, 0x4, 0x0, 0x0, 0x0, 0x0, none⟩  -- CFG_FLOOR_SHADOW R259
]

/-- The registers of the PNT block. -/
def regRowsPnt : List RegRow := [
  ⟨0x30000, 1, 0x4, 1, 0x4, 0x3, 0x3, 0x0, 0x0, none⟩,  -- PNT_CTL R274
  ⟨0x30004, 1, 0x4, 1, 0x4, 0x1007023C, 0xFF3FFFFF, 0x0, 0x0, none⟩,  -- PNT_CFG R274
  ⟨0x30008, 1, 0x4, 1, 0x4, 0x64, 0xFFFF, 0x0, 0x0, none⟩,  -- PNT_CFG2 R274
  ⟨0x3000C, 1, 0x4, 1, 0x4, 0x0, 0x0, 0x0, 0xC, none⟩,  -- PNT_STAT R274
  ⟨0x30010, 2, 0x4, 1, 0x4, 0x0, 0x0, 0x0, 0x0, none⟩,  -- PNT_POS R274
  ⟨0x30018, 2, 0x4, 1, 0x4, 0x0, 0x0, 0x0, 0x0, none⟩,  -- PNT_PASS R274
  ⟨0x30020, 1, 0x4, 1, 0x4, 0x0, 0x0, 0x0, 0x0, none⟩,  -- PNT_SBECNT R274
  ⟨0x30024, 1, 0x4, 1, 0x4, 0x0, 0x0, 0x0, 0x0, none⟩,  -- PNT_MBECNT R274
  ⟨0x30028, 1, 0x4, 1, 0x4, 0x0, 0x0, 0x0, 0x80000000, none⟩,  -- PNT_RLSTAT R274
  ⟨0x30030, 3, 0x4, 1, 0x4, 0x0, 0x0, 0x0, 0x0, none⟩,  -- PNT_HOLD R274
  ⟨0x3003C, 1, 0x4, 1, 0x4, 0x0, 0x0, 0x0, 0x0, none⟩,  -- PNT_HOLDCLR R274
  ⟨0x30040, 1, 0x4, 1, 0x4, 0x0, 0x0, 0x0, 0x0, none⟩,  -- PNT_LOG_PLACE R274
  ⟨0x30044, 1, 0x4, 1, 0x4, 0x0, 0x0, 0x0, 0x0, none⟩,  -- PNT_LOG_INFO R274
  ⟨0x30048, 1, 0x4, 1, 0x4, 0x0, 0x0, 0x0, 0x0, none⟩,  -- PNT_LOG_TIME R274
  ⟨0x3004C, 1, 0x4, 1, 0x4, 0x0, 0x0, 0x0, 0x0, none⟩,  -- PNT_LOG_POP R274
  ⟨0x30100, 24, 0x4, 1, 0x4, 0x0, 0x1F1F1F1F, 0x0, 0x0, none⟩,  -- PNT_BAYPOL R274
  ⟨0x30200, 8, 0x10, 1, 0x4, 0x0, 0x3FFFFFFF, 0x0, 0x0, none⟩,  -- PNT_RL_ADDR R274
  ⟨0x30204, 8, 0x10, 1, 0x4, 0x0, 0x3FFFFFFF, 0x0, 0x0, none⟩  -- PNT_RL_LEN R274
]

/-- The registers of the CAD block. -/
def regRowsCad : List RegRow := [
  ⟨0x40000, 1, 0x4, 1, 0x4, 0x0, 0x0, 0x0, 0x4, none⟩,  -- CAD_STAT R165
  ⟨0x40004, 1, 0x4, 1, 0x4, 0x0, 0x0, 0x0, 0x3F, none⟩,  -- CAD_ERR R165
  ⟨0x40008, 1, 0x4, 1, 0x4, 0x0, 0xFFFFFFFF, 0x0, 0x0, none⟩,  -- CAD_RATE R165
  ⟨0x4000C, 1, 0x4, 1, 0x4, 0x0, 0x0, 0x0, 0x0, none⟩,  -- CAD_REFHZ R165
  ⟨0x40010, 1, 0x4, 1, 0x4, 0x0, 0x0, 0x0, 0x0, none⟩,  -- CAD_TIME_FRAC R165
  ⟨0x40014, 1, 0x4, 1, 0x4, 0x0, 0x0, 0x0, 0x0, none⟩,  -- CAD_TIME_NS R165
  ⟨0x40018, 1, 0x4, 1, 0x4, 0x0, 0x0, 0x0, 0x0, none⟩,  -- CAD_TIME_SECLO R165
  ⟨0x4001C, 1, 0x4, 1, 0x4, 0x0, 0x0, 0x0, 0x0, none⟩,  -- CAD_TIME_SECHI R165
  ⟨0x40020, 1, 0x4, 1, 0x4, 0x0, 0xFFFFFFFF, 0x0, 0x0, none⟩,  -- CAD_ADJ_NS R165
  ⟨0x40024, 1, 0x4, 1, 0x4, 0x0, 0xFFFFFFFF, 0x0, 0x0, none⟩,  -- CAD_ADJ_SEC R165
  ⟨0x40028, 1, 0x4, 1, 0x4, 0x0, 0x2, 0x0, 0x0, none⟩,  -- CAD_ADJ_CTL R165
  ⟨0x40030, 2, 0x4, 1, 0x4, 0x0, 0xFFFFFFFF, 0x0, 0x0, none⟩,  -- CAD_HOLD R165
  ⟨0x40038, 2, 0x4, 1, 0x4, 0x3F3F3F3F, 0x3F3F3F3F, 0x0, 0x0, none⟩,  -- CAD_EVSEL R165
  ⟨0x40040, 1, 0x4, 1, 0x4, 0x186A0FC, 0xFFFFFFF, 0x0, 0x0, none⟩,  -- CAD_PPS_CFG R165
  ⟨0x40050, 1, 0x4, 1, 0x4, 0x0, 0x3F, 0x0, 0x1E00, none⟩,  -- CAD_CAP_CTL R165
  ⟨0x40060, 3, 0x10, 1, 0x4, 0x0, 0x0, 0x0, 0x0, none⟩,  -- CAD_CAP_FRAC R165
  ⟨0x40064, 3, 0x10, 1, 0x4, 0x0, 0x0, 0x0, 0x0, none⟩,  -- CAD_CAP_NS R165
  ⟨0x40068, 3, 0x10, 1, 0x4, 0x0, 0x0, 0x0, 0x0, none⟩,  -- CAD_CAP_SECLO R165
  ⟨0x4006C, 3, 0x10, 1, 0x4, 0x0, 0x0, 0x0, 0x0, none⟩,  -- CAD_CAP_SECHI R165
  ⟨0x40100, 32, 0x20, 1, 0x4, 0x2, 0x3F00, 0x3, 0x0, none⟩,  -- C_CFG R165
  ⟨0x40104, 32, 0x20, 1, 0x4, 0x1, 0x0, 0xFFFFFFFF, 0x0, none⟩,  -- C_N R165
  ⟨0x40108, 32, 0x20, 1, 0x4, 0x3C, 0x0, 0xFFFFFFFF, 0x0, none⟩,  -- C_D R165
  ⟨0x4010C, 32, 0x20, 1, 0x4, 0x0, 0x0, 0xFFFFFFFF, 0x0, none⟩,  -- C_EPOCH_NS R165
  ⟨0x40110, 32, 0x20, 1, 0x4, 0x0, 0x0, 0xFFFFFFFF, 0x0, none⟩,  -- C_EPOCH_SEC R165
  ⟨0x40114, 32, 0x20, 1, 0x4, 0x0, 0x0, 0x0, 0x0, none⟩,  -- C_NEXT_NS R165
  ⟨0x40118, 32, 0x20, 1, 0x4, 0x0, 0x0, 0x0, 0x0, none⟩,  -- C_NEXT_SEC R165
  ⟨0x4011C, 32, 0x20, 1, 0x4, 0x0, 0x0, 0x0, 0x0, none⟩,  -- C_COUNT R165
  ⟨0x40500, 16, 0x10, 1, 0x4, 0x0, 0x11F, 0x0, 0x0, none⟩,  -- OT_CFG R165
  ⟨0x40504, 16, 0x10, 1, 0x4, 0x0, 0x0, 0xFFFFFFFF, 0x0, none⟩,  -- OT_OFS R165
  ⟨0x40600, 8, 0x10, 1, 0x4, 0x0, 0x6, 0x0, 0x0, none⟩,  -- CAD_MB_CTL R165
  ⟨0x40604, 8, 0x10, 1, 0x4, 0x0, 0xFFFFFFFF, 0x0, 0x0, none⟩,  -- CAD_MB_AT_NS R165
  ⟨0x40608, 8, 0x10, 1, 0x4, 0x0, 0xFFFFFFFF, 0x0, 0x0, none⟩,  -- CAD_MB_AT_SEC R165
  ⟨0x41000, 256, 0x4, 1, 0x4, 0x0, 0x0, 0xFFFFFFFF, 0x0, none⟩,  -- CAD_FBR R165
  ⟨0x41400, 256, 0x4, 1, 0x4, 0x0, 0x0, 0x0, 0x0, none⟩,  -- CAD_FBR_LIVE R165
  ⟨0x41800, 256, 0x4, 1, 0x4, 0x3F, 0x3F, 0x1F37F00, 0x0, none⟩  -- CAD_FBR_CFG R165
]

/-- The registers of the CLK block. -/
def regRowsClk : List RegRow := [
  ⟨0x50000, 1, 0x4, 1, 0x4, 0x0, 0x0, 0x0, 0x460, none⟩,  -- CLK_STATUS R120
  ⟨0x50004, 1, 0x4, 1, 0x4, 0x804, 0x13F3F, 0x0, 0x0, none⟩,  -- CLK_HUB R120
  ⟨0x50008, 1, 0x4, 1, 0x4, 0x0, 0x3F3F, 0x0, 0x0, none⟩,  -- CLK_BSEL R142
  ⟨0x5000C, 1, 0x4, 1, 0x4, 0x0, 0x0, 0x0, 0x7, none⟩,  -- CLK_ERR R142
  ⟨0x50010, 1, 0x4, 1, 0x4, 0xFA0, 0xFFFF, 0x0, 0x0, none⟩,  -- CLK_HGCTL R142
  ⟨0x50014, 1, 0x4, 1, 0x4, 0x0, 0xFFFFFFFF, 0x0, 0x0, none⟩,  -- CLK_HGREQ0 R142
  ⟨0x50018, 1, 0x4, 1, 0x4, 0x0, 0x3FFFFFF, 0x0, 0x0, none⟩,  -- CLK_HGREQ1 R142
  ⟨0x5001C, 2, 0x4, 1, 0x4, 0x0, 0x0, 0x0, 0x0, none⟩,  -- CLK_HGSTAT R142
  ⟨0x50024, 2, 0x4, 1, 0x4, 0x0, 0x0, 0x0, 0xFFFFFFFF, none⟩,  -- CLK_HGREF R142
  ⟨0x50100, 32, 0x40, 1, 0x4, 0x100, 0x3F00000, 0x3FFFF, 0x0, none⟩,  -- FS_CFG R128
  ⟨0x50104, 32, 0x40, 1, 0x4, 0x30, 0x0, 0x1FF, 0x0, none⟩,  -- FS_NINT R128
  ⟨0x50108, 32, 0x40, 1, 0x4, 0x0, 0x0, 0xFFFFFF, 0x0, none⟩,  -- FS_NUM R128
  ⟨0x5010C, 32, 0x40, 1, 0x4, 0x1, 0x0, 0xFFFFFF, 0x0, none⟩,  -- FS_DEN R128
  ⟨0x50110, 32, 0x40, 1, 0x4, 0x80008, 0x0, 0x81FF81FF, 0x0, none⟩,  -- FS_TAP01 R128
  ⟨0x50114, 32, 0x40, 1, 0x4, 0x80008, 0x0, 0x81FF81FF, 0x0, none⟩,  -- FS_TAP23 R128
  ⟨0x50118, 32, 0x40, 1, 0x4, 0x0, 0x0, 0x0, 0x10, none⟩,  -- FS_STAT R128
  ⟨0x51000, 16, 0x20, 8, 0x4, 0x0, 0x0, 0x3F3F3F3F, 0x0, none⟩,  -- CLK_RIM R142
  ⟨0x51200, 2, 0x10, 2, 0x4, 0x0, 0x0, 0x7F7F7F7F, 0x0, none⟩,  -- CLK_VSEL R142
  ⟨0x51400, 96, 0x4, 1, 0x4, 0xFFFFFF, 0x0, 0xFFFFFF, 0x0, none⟩,  -- CLK_SGATE R142
  ⟨0x52000, 16, 0x20, 1, 0x4, 0x0, 0x1F3FF, 0x0, 0x40000, none⟩,  -- FM_CFG R141
  ⟨0x52004, 16, 0x20, 1, 0x4, 0x0, 0xFFFFFFFF, 0x0, 0x0, none⟩,  -- FM_MIN R141
  ⟨0x52008, 16, 0x20, 1, 0x4, 0xFFFFFFFF, 0xFFFFFFFF, 0x0, 0x0, none⟩,  -- FM_MAX R141
  ⟨0x5200C, 16, 0x20, 1, 0x4, 0x0, 0x0, 0x0, 0x0, none⟩,  -- FM_COUNT R141
  ⟨0x52010, 16, 0x20, 1, 0x4, 0x0, 0x0, 0x0, 0x0, none⟩,  -- FM_RUN_LO R141
  ⟨0x52014, 16, 0x20, 1, 0x4, 0x0, 0x0, 0x0, 0x0, none⟩  -- FM_RUN_HI R141
]

/-- The registers of the PWR block. -/
def regRowsPwr : List RegRow := [
  ⟨0x60000, 1, 0x4, 1, 0x4, 0x0, 0x0, 0x0, 0x0, none⟩,  -- PWR_STAT R435
  ⟨0x60004, 1, 0x4, 1, 0x4, 0x3F77, 0x3FFF, 0x0, 0x0, some 3⟩,  -- PWR_PLREQ R435
  ⟨0x60008, 1, 0x4, 1, 0x4, 0x0, 0x3, 0x0, 0x0, some 3⟩,  -- PWR_MREQ R435
  ⟨0x6000C, 1, 0x4, 1, 0x4, 0x0, 0x0, 0x0, 0x80000000, none⟩,  -- PWR_RESULT R435
  ⟨0x60010, 1, 0x4, 1, 0x4, 0x0, 0x0, 0x0, 0x1F, none⟩,  -- PWR_ERR R435
  ⟨0x60014, 1, 0x4, 1, 0x4, 0x5F03E8, 0xFFFFFF, 0x0, 0x0, none⟩,  -- PWR_CFG R435
  ⟨0x60018, 1, 0x4, 1, 0x4, 0x44, 0x77, 0x0, 0x0, none⟩,  -- PWR_DOZE R435
  ⟨0x6001C, 1, 0x4, 1, 0x4, 0x4, 0xFB, 0x0, 0x0, none⟩,  -- PWR_WAKEEN R435
  ⟨0x60020, 1, 0x4, 1, 0x4, 0x0, 0xFFFF, 0x0, 0x0, none⟩,  -- PWR_WAKEPIN R435
  ⟨0x60024, 1, 0x4, 1, 0x4, 0x0, 0x0, 0x0, 0x800000FF, none⟩,  -- PWR_WAKE_CAUSE R435
  ⟨0x60028, 1, 0x4, 1, 0x4, 0x0, 0xFFFFFFFF, 0x0, 0x0, none⟩,  -- PWR_WTIMER R435
  ⟨0x60030, 3, 0x4, 1, 0x4, 0x0, 0x0, 0x0, 0xFFFFFFFF, none⟩,  -- PWR_STALE R435
  ⟨0x6003C, 1, 0x4, 1, 0x4, 0x0, 0x0, 0x0, 0x1, none⟩,  -- PWR_STALEHUB R435
  ⟨0x60040, 1, 0x4, 1, 0x4, 0x0, 0x0, 0x0, 0x0, none⟩,  -- PWR_TSTAT R435
  ⟨0x60044, 1, 0x4, 1, 0x4, 0x0, 0x0, 0x0, 0x0, none⟩,  -- PWR_THUB R435
  ⟨0x60048, 1, 0x4, 1, 0x4, 0x0, 0x0, 0x0, 0x0, none⟩,  -- PWR_VIN R435
  ⟨0x60100, 64, 0x4, 1, 0x4, 0x0, 0x0, 0x0, 0x0, none⟩,  -- PWR_TEMP R435
  ⟨0x60200, 96, 0x4, 1, 0x4, 0x0, 0xFFFFFF, 0x0, 0x0, none⟩,  -- PWR_DOZEGATE R435
  ⟨0x60400, 26, 0x4, 1, 0x4, 0x0, 0x0, 0x0, 0x0, none⟩  -- PWR_RAIL R435
]

/-- The registers of the SND block. -/
def regRowsSnd : List RegRow := [
  ⟨0x70000, 1, 0x4, 1, 0x4, 0x0, 0x33FFF, 0x0, 0x0, none⟩,  -- SND_REQ R447
  ⟨0x70004, 1, 0x4, 1, 0x4, 0x0, 0x0, 0x0, 0x80000000, none⟩,  -- SND_STAT R447
  ⟨0x70008, 1, 0x4, 1, 0x4, 0x0, 0x0, 0x0, 0x0, none⟩,  -- SND_SIG_LO R447
  ⟨0x7000C, 1, 0x4, 1, 0x4, 0x0, 0x0, 0x0, 0x0, none⟩,  -- SND_SIG_HI R447
  ⟨0x70010, 1, 0x4, 1, 0x4, 0x0, 0x0, 0x0, 0x0, none⟩,  -- SND_REF_LO R447
  ⟨0x70014, 1, 0x4, 1, 0x4, 0x0, 0x0, 0x0, 0x0, none⟩,  -- SND_REF_HI R447
  ⟨0x70018, 1, 0x4, 1, 0x4, 0x0, 0x0, 0x0, 0x0, none⟩,  -- SND_PAT R447
  ⟨0x7001C, 1, 0x4, 1, 0x4, 0x0, 0x0, 0x0, 0x0, none⟩,  -- SND_FAIL R447
  ⟨0x70020, 1, 0x4, 1, 0x4, 0x0, 0x0, 0x0, 0x0, none⟩,  -- SND_BOOT R447
  ⟨0x70030, 1, 0x4, 1, 0x4, 0x0, 0x0, 0x0, 0x0, none⟩,  -- SND_STALE R447
  ⟨0x70034, 1, 0x4, 1, 0x4, 0x0, 0x0, 0x0, 0x0, none⟩,  -- SND_STALECLR R447
  ⟨0x70040, 1, 0x4, 1, 0x4, 0x0, 0xFFFFFF, 0x0, 0x0, none⟩,  -- SND_FUSE R447
  ⟨0x70044, 1, 0x4, 1, 0x4, 0x0, 0x0, 0x0, 0x0, none⟩,  -- SND_FUSEGO R447
  ⟨0x70048, 1, 0x4, 1, 0x4, 0x0, 0x0, 0x0, 0x0, none⟩,  -- SND_FUSESTAT R447
  ⟨0x70100, 12, 0x4, 1, 0x4, 0x0, 0x0, 0x0, 0x0, none⟩  -- SND_SPARE R447
]

/-- The registers of the SEM block. -/
def regRowsSem : List RegRow := [
  ⟨0x80000, 64, 0x4, 1, 0x4, 0x0, 0x0, 0x0, 0x0, none⟩,  -- SEM R381
  ⟨0x80100, 1, 0x4, 1, 0x4, 0x0, 0x0, 0x0, 0x0, none⟩,  -- SEM_ID R381
  ⟨0x80104, 1, 0x4, 1, 0x4, 0x0, 0x0, 0x0, 0x10000, none⟩,  -- SEM_ERR R381
  ⟨0x80108, 1, 0x4, 1, 0x4, 0x0, 0x0, 0x0, 0x0, none⟩,  -- SEM_ERRADDR R381
  ⟨0x8010C, 1, 0x4, 1, 0x4, 0x0, 0x0, 0x0, 0x0, none⟩,  -- SEM_FORCE R381
  ⟨0x80110, 1, 0x4, 1, 0x4, 0x0, 0x0, 0x0, 0x0, none⟩,  -- SEM_FRCLOG R381
  ⟨0x80400, 16, 0x40, 8, 0x4, 0x0, 0xFFFFFFFF, 0x0, 0x0, none⟩,  -- MB_DATA R381
  ⟨0x80420, 16, 0x40, 1, 0x4, 0x0, 0x0, 0x0, 0x8, none⟩  -- MB_CTL R381
]

/-- The registers of the EVT block. -/
def regRowsEvt : List RegRow := [
  ⟨0x90000, 448, 0x4, 1, 0x4, 0x0, 0x7FFFF, 0x0, 0x80000000, none⟩,  -- EVT_SRC R410
  ⟨0x90800, 7, 0x4, 1, 0x4, 0x0, 0x7, 0x0, 0x0, none⟩,  -- EVT_THR R410
  ⟨0x90840, 4, 0x4, 1, 0x4, 0x0, 0x0, 0x0, 0x0, none⟩,  -- EVT_CLAIM R410
  ⟨0x90900, 14, 0x4, 1, 0x4, 0x0, 0x0, 0x0, 0x0, none⟩,  -- EVT_PEND R410
  ⟨0x90940, 1, 0x4, 1, 0x4, 0x0, 0x0, 0x0, 0x0, none⟩  -- EVT_RAISE R410
]

/-- The registers of the HP block. -/
def regRowsHp : List RegRow := [
  ⟨0xA0000, 2, 0x10000, 1, 0x4, 0x3B, 0x7F, 0x0, 0x0, none⟩,  -- HP_CTL R381
  ⟨0xA0004, 2, 0x10000, 1, 0x4, 0x0, 0x0, 0x0, 0xE00, none⟩,  -- HP_STAT R381
  ⟨0xA0008, 2, 0x10000, 1, 0x4, 0x70960000, 0x0, 0x0, 0x0, none⟩,  -- HP_ID R381
  ⟨0xA000C, 2, 0x10000, 1, 0x4, 0x0, 0x0, 0x0, 0x0, none⟩,  -- HP_DISC R381
  ⟨0xA0010, 2, 0x10000, 1, 0x4, 0x0, 0x0, 0x0, 0x0, none⟩,  -- HP_SEND R381
  ⟨0xA0014, 2, 0x10000, 1, 0x4, 0x0, 0x0, 0x0, 0x0, none⟩,  -- HP_SRET R381
  ⟨0xA0018, 2, 0x10000, 1, 0x4, 0x0, 0x0, 0x0, 0x0, none⟩,  -- HP_SRCNT R381
  ⟨0xA001C, 2, 0x10000, 1, 0x4, 0x3F, 0x3F, 0x0, 0x0, none⟩  -- HP_EVEN R381
]

/-- The registers of the LANE block. -/
def regRowsLane : List RegRow := [
  ⟨0x100000, 64, 0x1000, 1, 0x4, 0x3F00, 0x3FFF, 0x0, 0x0, none⟩,  -- LANE_CTL R332
  ⟨0x100004, 64, 0x1000, 1, 0x4, 0x103, 0x0, 0x1FFF, 0x0, none⟩,  -- LANE_CFG R332
  ⟨0x100008, 64, 0x1000, 1, 0x4, 0x203F0, 0x3FFFF, 0x0, 0x0, none⟩,  -- LANE_TXEQ R332
  ⟨0x10000C, 64, 0x1000, 1, 0x4, 0x838, 0x7F, 0x0, 0x0, none⟩,  -- LANE_RXEQ R332
  ⟨0x100010, 64, 0x1000, 3, 0x4, 0x0, 0xFFFFFFFF, 0x0, 0x0, none⟩,  -- LANE_DFE R332
  ⟨0x10001C, 64, 0x1000, 1, 0x4, 0x0, 0x0, 0x0, 0x0, none⟩,  -- LANE_LG R332
  ⟨0x100020, 64, 0x1000, 3, 0x4, 0x0, 0x0, 0x0, 0x0, none⟩,  -- LANE_LGDFE R332
  ⟨0x100030, 64, 0x1000, 1, 0x4, 0x104000, 0xFFFFFF, 0x0, 0x0, none⟩,  -- LANE_ADAPT R332
  ⟨0x100034, 64, 0x1000, 1, 0x4, 0x21004B19, 0x7FFF7F7F, 0x0, 0x0, none⟩,  -- LANE_QUAL R332
  ⟨0x100038, 64, 0x1000, 1, 0x4, 0x0, 0x0, 0x0, 0x0, none⟩,  -- LANE_EYE R332
  ⟨0x100040, 64, 0x1000, 1, 0x4, 0x6, 0x0, 0x0, 0x0, none⟩,  -- LANE_STAT R332
  ⟨0x100044, 64, 0x1000, 1, 0x4, 0x0, 0x0, 0x0, 0xFFF, none⟩,  -- LANE_ERR R332
  ⟨0x100048, 64, 0x1000, 1, 0x4, 0xEF90000, 0xFFF000F, 0x0, 0x0, none⟩,  -- LANE_EVEN R332
  ⟨0x100050, 64, 0x1000, 1, 0x4, 0x0, 0x0, 0x0, 0x0, none⟩,  -- LANE_CNT_ERR R332
  ⟨0x100054, 64, 0x1000, 1, 0x4, 0x0, 0x0, 0x0, 0x0, none⟩,  -- LANE_CNT_BITS_LO R332
  ⟨0x100058, 64, 0x1000, 1, 0x4, 0x0, 0x0, 0x0, 0x0, none⟩,  -- LANE_CNT_BITS_HI R332
  ⟨0x100060, 64, 0x1000, 1, 0x4, 0x0, 0x77, 0x0, 0x0, none⟩,  -- LANE_PRBS R332
  ⟨0x100800, 16, 0x4000, 1, 0x4, 0x640, 0x0, 0xBFFF, 0x0, none⟩,  -- QPLLL_CFG R332
  ⟨0x100804, 16, 0x4000, 1, 0x4, 0x0, 0x0, 0xFFFFFF, 0x0, none⟩,  -- QPLLL_FRAC R332
  ⟨0x100808, 16, 0x4000, 1, 0x4, 0x640, 0x0, 0xBFFF, 0x0, none⟩,  -- QPLLH_CFG R332
  ⟨0x10080C, 16, 0x4000, 1, 0x4, 0x0, 0x0, 0xFFFFFF, 0x0, none⟩,  -- QPLLH_FRAC R332
  ⟨0x100810, 16, 0x4000, 1, 0x4, 0x3F, 0x3F, 0x600, 0x0, none⟩,  -- QCTL R332
  ⟨0x100814, 16, 0x4000, 1, 0x4, 0x0, 0x0, 0x0, 0x0, none⟩  -- QSTAT R332
]

/-- The registers of the WALE block. -/
def regRowsWale : List RegRow := [
  ⟨0x200000, 6, 0x4000, 1, 0x4, 0x6E, 0xFF, 0x0, 0x0, none⟩,  -- WP_CTL R362
  ⟨0x200004, 6, 0x4000, 1, 0x4, 0x1406, 0xFF3F, 0x0, 0x0, none⟩,  -- WP_CFG R362
  ⟨0x200008, 6, 0x4000, 1, 0x4, 0x0, 0xFFFF, 0x0, 0x0, none⟩,  -- WP_ASYM R362
  ⟨0x20000C, 6, 0x4000, 1, 0x4, 0x0, 0x0, 0x0, 0x0, none⟩,  -- WP_STAT R362
  ⟨0x200010, 6, 0x4000, 1, 0x4, 0x0, 0x0, 0x0, 0x7F8, none⟩,  -- WP_ERR R362
  ⟨0x200014, 6, 0x4000, 1, 0x4, 0x7, 0x7, 0x0, 0x0, none⟩,  -- WP_EVEN R362
  ⟨0x200018, 6, 0x4000, 1, 0x4, 0x0, 0x0, 0x0, 0x0, none⟩,  -- WP_CNT_TX R362
  ⟨0x20001C, 6, 0x4000, 1, 0x4, 0x0, 0x0, 0x0, 0x0, none⟩,  -- WP_CNT_RX R362
  ⟨0x200020, 6, 0x4000, 1, 0x4, 0x0, 0x0, 0x0, 0x0, none⟩,  -- WP_CNT_RESEND R362
  ⟨0x200024, 6, 0x4000, 1, 0x4, 0x0, 0x0, 0x0, 0x0, none⟩,  -- WP_CNT_BAD R362
  ⟨0x200028, 6, 0x4000, 1, 0x4, 0x0, 0x0, 0x0, 0x0, none⟩,  -- WP_DELAY R362
  ⟨0x218000, 1, 0x4, 1, 0x4, 0x0, 0x0, 0x0, 0x0, none⟩,  -- WALE_ID R362
  ⟨0x218004, 1, 0x4, 1, 0x4, 0x805, 0x7F1F, 0x0, 0x0, none⟩,  -- WALE_SYS_CFG R362
  ⟨0x218008, 1, 0x4, 1, 0x4, 0x18, 0x1F, 0x0, 0x0, none⟩,  -- WALE_ACCEPT R362
  ⟨0x21800C, 1, 0x4, 1, 0x4, 0xE000, 0x0, 0x0, 0x0, none⟩,  -- WALE_TREE R362
  ⟨0x218010, 1, 0x4, 1, 0x4, 0x0, 0x0, 0x0, 0x0, none⟩,  -- WALE_TIME R362
  ⟨0x218014, 1, 0x4, 1, 0x4, 0x0, 0x0, 0x0, 0x0, none⟩,  -- WALE_TIME_OFS R362
  ⟨0x218018, 1, 0x4, 1, 0x4, 0x4E20, 0xFFFFFF, 0x0, 0x0, none⟩,  -- WALE_LEAD R362
  ⟨0x21801C, 1, 0x4, 1, 0x4, 0x9C40, 0xFFFFFF, 0x0, 0x0, none⟩,  -- WALE_CUTOFF R362
  ⟨0x218020, 1, 0x4, 1, 0x4, 0x0, 0x0, 0x0, 0xE, none⟩,  -- WALE_RDY R362
  ⟨0x218024, 1, 0x4, 1, 0x4, 0x0, 0x0, 0x0, 0x80000000, none⟩,  -- WALE_BNDREF R362
  ⟨0x218028, 1, 0x4, 1, 0x4, 0x0, 0x0, 0x0, 0x3F, none⟩,  -- WALE_SYS_ERR R362
  ⟨0x21802C, 1, 0x4, 1, 0x4, 0x0, 0x0, 0x0, 0x0, none⟩,  -- WALE_CNT_DROP R362
  ⟨0x218030, 1, 0x4, 1, 0x4, 0x0, 0x0, 0x0, 0x0, none⟩,  -- WALE_CNT_STALE R362
  ⟨0x218034, 1, 0x4, 1, 0x4, 0x0, 0x0, 0x0, 0x0, none⟩,  -- WALE_CNT_LATE R362
  ⟨0x218040, 16, 0x4, 1, 0x4, 0x0, 0xFFFFFFFF, 0x0, 0x0, none⟩,  -- WALE_ROSTER R362
  ⟨0x218080, 1, 0x4, 1, 0x4, 0x8, 0x1FFC, 0x0, 0x0, none⟩,  -- WALE_GANG_CTL R362
  ⟨0x218084, 1, 0x4, 1, 0x4, 0x0, 0xFFFFFFFF, 0x0, 0x0, none⟩,  -- WALE_GANG_ADDR_LO R362
  ⟨0x218088, 1, 0x4, 1, 0x4, 0x0, 0x3, 0x0, 0x0, none⟩,  -- WALE_GANG_ADDR_HI R362
  ⟨0x21808C, 1, 0x4, 1, 0x4, 0x0, 0xFFFFFFFF, 0x0, 0x0, none⟩,  -- WALE_GANG_LEN R362
  ⟨0x2180C0, 1, 0x4, 1, 0x4, 0x0, 0x0, 0x0, 0x0, none⟩,  -- WALE_MQ_STAT R362
  ⟨0x2180C4, 1, 0x4, 1, 0x4, 0x0, 0x0, 0x0, 0x0, none⟩,  -- WALE_MQ_POP R362
  ⟨0x218200, 128, 0x4, 1, 0x4, 0x0, 0x0, 0x0, 0x0, none⟩,  -- WALE_MQ_DATA R362
  ⟨0x219000, 4, 0x400, 1, 0x4, 0x0, 0xFFF, 0x0, 0x100000, none⟩,  -- WALE_RQ_CTL R362
  ⟨0x219004, 4, 0x400, 1, 0x4, 0x0, 0x1FF, 0x0, 0x0, none⟩,  -- WALE_RQ_DEST R362
  ⟨0x219008, 4, 0x400, 1, 0x4, 0x0, 0xFFFFFFFF, 0x0, 0x0, none⟩,  -- WALE_RQ_ADDR_LO R362
  ⟨0x21900C, 4, 0x400, 1, 0x4, 0x0, 0xFF, 0x0, 0x0, none⟩,  -- WALE_RQ_ADDR_HI R362
  ⟨0x219200, 4, 0x400, 128, 0x4, 0x0, 0xFFFFFFFF, 0x0, 0x0, none⟩,  -- WALE_RQ_DATA R362
  ⟨0x220000, 512, 0x4, 1, 0x4, 0x7, 0x7, 0x0, 0x0, none⟩,  -- WALE_RT R362
  ⟨0x222000, 512, 0x4, 1, 0x4, 0x0, 0x0, 0x0, 0x0, none⟩  -- WALE_PEER R362
]

/-- The registers of the HAMP block. -/
def regRowsHamp : List RegRow := [
  ⟨0x300000, 1, 0x4, 1, 0x4, 0x0, 0x0, 0x0, 0x0, none⟩,  -- HAMP_CTL R396
  ⟨0x300004, 1, 0x4, 1, 0x4, 0x3E84000, 0xFFFFFF01, 0x0, 0x0, none⟩,  -- HAMP_CFG R396
  ⟨0x300008, 1, 0x4, 1, 0x4, 0x0, 0x0, 0x0, 0x40, none⟩,  -- HAMP_STAT R396
  ⟨0x30000C, 1, 0x4, 1, 0x4, 0x0, 0x0, 0x0, 0x0, none⟩,  -- HAMP_TEMP R396
  ⟨0x300010, 1, 0x4, 1, 0x4, 0x0, 0x0, 0x0, 0x1F, none⟩,  -- HAMP_ERR R396
  ⟨0x300014, 1, 0x4, 1, 0x4, 0x0, 0x0, 0x0, 0x0, none⟩,  -- HAMP_ECNT_CE R396
  ⟨0x300018, 1, 0x4, 1, 0x4, 0x0, 0x0, 0x0, 0x0, none⟩,  -- HAMP_ECNT_UE R396
  ⟨0x300020, 1, 0x4, 1, 0x4, 0x0, 0x0, 0x0, 0x0, none⟩,  -- HAMP_ELOG_LO R396
  ⟨0x300024, 1, 0x4, 1, 0x4, 0x0, 0x0, 0x0, 0x0, none⟩,  -- HAMP_ELOG_HI R396
  ⟨0x300100, 32, 0x4, 1, 0x4, 0x1, 0x3, 0x0, 0x0, none⟩,  -- HAMP_PRI R396
  ⟨0x300180, 1, 0x4, 1, 0x4, 0x16, 0x3F, 0x0, 0x0, none⟩,  -- HAMP_SYSPRI R396
  ⟨0x300200, 32, 0x4, 1, 0x4, 0x0, 0x0, 0x0, 0x0, none⟩  -- HAMP_PSTAT R396
]

/-- The registers of the FLC block. -/
def regRowsFlc : List RegRow := [
  ⟨0x400000, 1, 0x4, 1, 0x4, 0x0, 0x0, 0x0, 0x1E00, none⟩,  -- FLC_STAT R304
  ⟨0x400004, 1, 0x4, 1, 0x4, 0x0, 0x0, 0x0, 0x1F0, none⟩,  -- FLC_ERR R304
  ⟨0x400008, 1, 0x4, 1, 0x4, 0x0, 0x0, 0x0, 0x0, none⟩,  -- FLC_LASTOP R304
  ⟨0x40000C, 1, 0x4, 1, 0x4, 0x0, 0x0, 0x0, 0x0, none⟩,  -- FLC_SUSPCNT R304
  ⟨0x400010, 1, 0x4, 1, 0x4, 0x40, 0xFFFF, 0x0, 0x0, some 1⟩,  -- FLC_CFG R304
  ⟨0x400014, 1, 0x4, 1, 0x4, 0x1800C8, 0x3F01FF, 0x0, 0x0, some 1⟩,  -- FLC_WEAR R304
  ⟨0x400018, 1, 0x4, 1, 0x4, 0x0, 0x0, 0x0, 0x0, none⟩,  -- FLC_WEARSEC R304
  ⟨0x400020, 1, 0x4, 1, 0x4, 0x0, 0x1FFF, 0x0, 0x0, none⟩,  -- FLC_SECQ R304
  ⟨0x400024, 1, 0x4, 1, 0x4, 0x0, 0x0, 0x0, 0x0, none⟩,  -- FLC_SECINFO R304
  ⟨0x400028, 1, 0x4, 1, 0x4, 0x0, 0x0, 0x0, 0x0, none⟩,  -- FLC_HALF R304
  ⟨0x40002C, 1, 0x4, 1, 0x4, 0x0, 0x0, 0x0, 0x0, none⟩,  -- FLC_LEDGER R304
  ⟨0x400040, 4, 0x8, 1, 0x4, 0x0, 0x80000FFF, 0x0, 0x0, some 1⟩,  -- FLC_PROTLO R304
  ⟨0x400044, 4, 0x8, 1, 0x4, 0x0, 0xFFF, 0x0, 0x0, some 1⟩,  -- FLC_PROTHI R304
  ⟨0x400060, 1, 0x4, 1, 0x4, 0x13, 0x7EC, 0x0, 0x0, some 1⟩  -- FLC_INFOPROT R304
]

/-- The rows of the 64 KiB window `off` lies in; no row where no block stands (R488). -/
def regRowsAt (off : Nat) : List RegRow :=
  match off / 0x10000 with
  | 0 => regRowsSys | 1 => regRowsLc | 2 => regRowsCfg | 3 => regRowsPnt | 4 => regRowsCad
  | 5 => regRowsClk | 6 => regRowsPwr | 7 => regRowsSnd | 8 => regRowsSem | 9 => regRowsEvt
  | 10 => regRowsHp | 11 => regRowsHp
  | 16 => regRowsLane | 17 => regRowsLane | 18 => regRowsLane | 19 => regRowsLane
  | 32 => regRowsWale | 33 => regRowsWale | 34 => regRowsWale
  | 48 => regRowsHamp | 64 => regRowsFlc
  | _ => []

/-- The register at a manager offset, none where no block defines one (R488). -/
def regRow? (off : Nat) : Option RegRow := (regRowsAt off).find? (fun r => r.covers off)

/-- The value of a register after POWER-UP and after an assertion of RESET_N (R10). -/
def resetWord (off : Nat) : Word :=
  match regRow? off with
  | some r => BitVec.ofNat 32 r.reset
  | none => 0#32

/-! Manager offsets by the registers' own names. -/

/-- SYS_MODE (R30, 01_device_organisation.md). -/
abbrev Reg.sysMode : Nat := 0x10
/-- SYS_FAULT (R30, 01_device_organisation.md). -/
abbrev Reg.sysFault : Nat := 0x14
/-- SYS_FAULT_MASK (R31, 01_device_organisation.md). -/
abbrev Reg.sysFaultMask : Nat := 0x18
/-- SYS_CTL (R31, 01_device_organisation.md). -/
abbrev Reg.sysCtl : Nat := 0x1C
/-- SYS_BOOT (R229, 07_loading_and_release.md). -/
abbrev Reg.sysBoot : Nat := 0x20
/-- SYS_BOOTNUM (R229, 07_loading_and_release.md). -/
abbrev Reg.sysBootnum : Nat := 0x24
/-- SYS_BOOTADJ (R229, 07_loading_and_release.md). -/
abbrev Reg.sysBootadj : Nat := 0x28
/-- SYS_BOOTCLR (R229, 07_loading_and_release.md). -/
abbrev Reg.sysBootclr : Nat := 0x2C
/-- SYS_T_PRIO (R229, 07_loading_and_release.md). -/
abbrev Reg.sysTPrio : Nat := 0x30
/-- SYS_T_RUN (R229, 07_loading_and_release.md). -/
abbrev Reg.sysTRun : Nat := 0x34
/-- SYS_CLCTL (R401, 15_laoft_cluster_and_events.md). -/
abbrev Reg.sysClctl : Nat := 0x40
/-- SYS_CLSTAT (R401, 15_laoft_cluster_and_events.md). -/
abbrev Reg.sysClstat : Nat := 0x44
/-- SYS_CLVEC_LO (R401, 15_laoft_cluster_and_events.md). -/
abbrev Reg.sysClvecLo : Nat := 0x48
/-- SYS_CLVEC_HI (R401, 15_laoft_cluster_and_events.md). -/
abbrev Reg.sysClvecHi : Nat := 0x4C
/-- SYS_GWCFG (R408, 15_laoft_cluster_and_events.md). -/
abbrev Reg.sysGwcfg : Nat := 0x50
/-- SYS_GWERR (R408, 15_laoft_cluster_and_events.md). -/
abbrev Reg.sysGwerr : Nat := 0x54
/-- SYS_GWSTAT (R408, 15_laoft_cluster_and_events.md). -/
abbrev Reg.sysGwstat : Nat := 0x58
/-- SYS_IOMIS (R481, 19_package_pins_and_io.md). -/
abbrev Reg.sysIomis : Nat := 0x60
/-- LC_STATE (R469, 18_life_cycle_and_keys.md). -/
abbrev Reg.lcState : Nat := 0x10000
/-- LC_UID (R469, 18_life_cycle_and_keys.md). -/
def Reg.lcUid (n : Nat) : Nat := 0x10010 + 0x4 * n
/-- LC_TOKENS (R469, 18_life_cycle_and_keys.md). -/
abbrev Reg.lcTokens : Nat := 0x10020
/-- LC_KCV (R469, 18_life_cycle_and_keys.md). -/
abbrev Reg.lcKcv : Nat := 0x10024
/-- LC_KCVB (R469, 18_life_cycle_and_keys.md). -/
abbrev Reg.lcKcvb : Nat := 0x10028
/-- LC_REQCTL (R469, 18_life_cycle_and_keys.md). -/
abbrev Reg.lcReqctl : Nat := 0x10040
/-- LC_REQSTAT (R469, 18_life_cycle_and_keys.md). -/
abbrev Reg.lcReqstat : Nat := 0x10044
/-- LC_TAMPER (R469, 18_life_cycle_and_keys.md). -/
abbrev Reg.lcTamper : Nat := 0x10048
/-- LC_ZCAUSE (R469, 18_life_cycle_and_keys.md). -/
abbrev Reg.lcZcause : Nat := 0x1004C
/-- LC_DEBUG (R469, 18_life_cycle_and_keys.md). -/
abbrev Reg.lcDebug : Nat := 0x10050
/-- LC_REQBUF (R469, 18_life_cycle_and_keys.md). -/
def Reg.lcReqbuf (n : Nat) : Nat := 0x10100 + 0x4 * n
/-- CFG_IDCODE (R199, 06_configuration_stream.md). -/
abbrev Reg.cfgIdcode : Nat := 0x20000
/-- CFG_ERR (R199, 06_configuration_stream.md). -/
abbrev Reg.cfgErr : Nat := 0x20040
/-- CFG_ERRPLACE (R199, 06_configuration_stream.md). -/
abbrev Reg.cfgErrplace : Nat := 0x20044
/-- CFG_ERRPOS (R199, 06_configuration_stream.md). -/
abbrev Reg.cfgErrpos : Nat := 0x20048
/-- CFG_ERRWORD (R199, 06_configuration_stream.md). -/
abbrev Reg.cfgErrword : Nat := 0x2004C
/-- CFG_PSRC (R259, 08_staged_reconfiguration.md). -/
abbrev Reg.cfgPsrc : Nat := 0x20080
/-- CFG_PFLASH_ADDR (R259, 08_staged_reconfiguration.md). -/
abbrev Reg.cfgPflashAddr : Nat := 0x20084
/-- CFG_PFLASH_LEN (R259, 08_staged_reconfiguration.md). -/
abbrev Reg.cfgPflashLen : Nat := 0x20088
/-- CFG_IPCTL (R259, 08_staged_reconfiguration.md). -/
abbrev Reg.cfgIpctl : Nat := 0x2008C
/-- CFG_STGSTAT (R259, 08_staged_reconfiguration.md). -/
abbrev Reg.cfgStgstat : Nat := 0x20090
/-- CFG_STGSID (R259, 08_staged_reconfiguration.md). -/
abbrev Reg.cfgStgsid : Nat := 0x20094
/-- CFG_DWCTL (R259, 08_staged_reconfiguration.md). -/
abbrev Reg.cfgDwctl : Nat := 0x200A0
/-- CFG_DWPLACE (R259, 08_staged_reconfiguration.md). -/
abbrev Reg.cfgDwplace : Nat := 0x200A4
/-- CFG_DWDATA (R259, 08_staged_reconfiguration.md). -/
abbrev Reg.cfgDwdata : Nat := 0x200A8
/-- CFG_DWSTAT (R259, 08_staged_reconfiguration.md). -/
abbrev Reg.cfgDwstat : Nat := 0x200AC
/-- CG_MASK0 (R259, 08_staged_reconfiguration.md). -/
def Reg.cgMask0 (n : Nat) : Nat := 0x20100 + 0x40 * n
/-- CG_MASK1 (R259, 08_staged_reconfiguration.md). -/
def Reg.cgMask1 (n : Nat) : Nat := 0x20104 + 0x40 * n
/-- CG_MASK2 (R259, 08_staged_reconfiguration.md). -/
def Reg.cgMask2 (n : Nat) : Nat := 0x20108 + 0x40 * n
/-- CG_EDGE (R259, 08_staged_reconfiguration.md). -/
def Reg.cgEdge (n : Nat) : Nat := 0x2010C + 0x40 * n
/-- CG_CTL (R259, 08_staged_reconfiguration.md). -/
def Reg.cgCtl (n : Nat) : Nat := 0x20110 + 0x40 * n
/-- CG_CFG (R259, 08_staged_reconfiguration.md). -/
def Reg.cgCfg (n : Nat) : Nat := 0x20114 + 0x40 * n
/-- CG_DEADLINE (R259, 08_staged_reconfiguration.md). -/
def Reg.cgDeadline (n : Nat) : Nat := 0x20118 + 0x40 * n
/-- CG_STAT (R259, 08_staged_reconfiguration.md). -/
def Reg.cgStat (n : Nat) : Nat := 0x2011C + 0x40 * n
/-- CG_LAST0 (R259, 08_staged_reconfiguration.md). -/
def Reg.cgLast0 (n : Nat) : Nat := 0x20120 + 0x40 * n
/-- CG_LAST1 (R259, 08_staged_reconfiguration.md). -/
def Reg.cgLast1 (n : Nat) : Nat := 0x20124 + 0x40 * n
/-- CG_LAST2 (R259, 08_staged_reconfiguration.md). -/
def Reg.cgLast2 (n : Nat) : Nat := 0x20128 + 0x40 * n
/-- CG_PANEL0 (R259, 08_staged_reconfiguration.md). -/
def Reg.cgPanel0 (n : Nat) : Nat := 0x2012C + 0x40 * n
/-- CG_PANEL1 (R259, 08_staged_reconfiguration.md). -/
def Reg.cgPanel1 (n : Nat) : Nat := 0x20130 + 0x40 * n
/-- CG_PANEL2 (R259, 08_staged_reconfiguration.md). -/
def Reg.cgPanel2 (n : Nat) : Nat := 0x20134 + 0x40 * n
/-- CG_PCTL (R259, 08_staged_reconfiguration.md). -/
def Reg.cgPctl (n : Nat) : Nat := 0x20138 + 0x40 * n
/-- CFG_SHSTATE (R259, 08_staged_reconfiguration.md). -/
def Reg.cfgShstate (n : Nat) : Nat := 0x20300 + 0x4 * n
/-- CFG_SHEDGE (R259, 08_staged_reconfiguration.md). -/
def Reg.cfgShedge (n : Nat) : Nat := 0x20330 + 0x4 * n
/-- CFG_FLOOR_LIVE (R259, 08_staged_reconfiguration.md). -/
def Reg.cfgFloorLive (n : Nat) : Nat := 0x20400 + 0x8 * n
/-- CFG_FLOOR_SHADOW (R259, 08_staged_reconfiguration.md). -/
def Reg.cfgFloorShadow (n : Nat) : Nat := 0x20404 + 0x8 * n
/-- PNT_CTL (R274, 09_pointing_engine.md). -/
abbrev Reg.pntCtl : Nat := 0x30000
/-- PNT_CFG (R274, 09_pointing_engine.md). -/
abbrev Reg.pntCfg : Nat := 0x30004
/-- PNT_CFG2 (R274, 09_pointing_engine.md). -/
abbrev Reg.pntCfg2 : Nat := 0x30008
/-- PNT_STAT (R274, 09_pointing_engine.md). -/
abbrev Reg.pntStat : Nat := 0x3000C
/-- PNT_POS (R274, 09_pointing_engine.md). -/
def Reg.pntPos (n : Nat) : Nat := 0x30010 + 0x4 * n
/-- PNT_PASS (R274, 09_pointing_engine.md). -/
def Reg.pntPass (n : Nat) : Nat := 0x30018 + 0x4 * n
/-- PNT_SBECNT (R274, 09_pointing_engine.md). -/
abbrev Reg.pntSbecnt : Nat := 0x30020
/-- PNT_MBECNT (R274, 09_pointing_engine.md). -/
abbrev Reg.pntMbecnt : Nat := 0x30024
/-- PNT_RLSTAT (R274, 09_pointing_engine.md). -/
abbrev Reg.pntRlstat : Nat := 0x30028
/-- PNT_HOLD (R274, 09_pointing_engine.md). -/
def Reg.pntHold (n : Nat) : Nat := 0x30030 + 0x4 * n
/-- PNT_HOLDCLR (R274, 09_pointing_engine.md). -/
abbrev Reg.pntHoldclr : Nat := 0x3003C
/-- PNT_LOG_PLACE (R274, 09_pointing_engine.md). -/
abbrev Reg.pntLogPlace : Nat := 0x30040
/-- PNT_LOG_INFO (R274, 09_pointing_engine.md). -/
abbrev Reg.pntLogInfo : Nat := 0x30044
/-- PNT_LOG_TIME (R274, 09_pointing_engine.md). -/
abbrev Reg.pntLogTime : Nat := 0x30048
/-- PNT_LOG_POP (R274, 09_pointing_engine.md). -/
abbrev Reg.pntLogPop : Nat := 0x3004C
/-- PNT_BAYPOL (R274, 09_pointing_engine.md). -/
def Reg.pntBaypol (n : Nat) : Nat := 0x30100 + 0x4 * n
/-- PNT_RL_ADDR (R274, 09_pointing_engine.md). -/
def Reg.pntRlAddr (n : Nat) : Nat := 0x30200 + 0x10 * n
/-- PNT_RL_LEN (R274, 09_pointing_engine.md). -/
def Reg.pntRlLen (n : Nat) : Nat := 0x30204 + 0x10 * n
/-- CAD_STAT (R165, 05_cadence_unit.md). -/
abbrev Reg.cadStat : Nat := 0x40000
/-- CAD_ERR (R165, 05_cadence_unit.md). -/
abbrev Reg.cadErr : Nat := 0x40004
/-- CAD_RATE (R165, 05_cadence_unit.md). -/
abbrev Reg.cadRate : Nat := 0x40008
/-- CAD_REFHZ (R165, 05_cadence_unit.md). -/
abbrev Reg.cadRefhz : Nat := 0x4000C
/-- CAD_TIME_FRAC (R165, 05_cadence_unit.md). -/
abbrev Reg.cadTimeFrac : Nat := 0x40010
/-- CAD_TIME_NS (R165, 05_cadence_unit.md). -/
abbrev Reg.cadTimeNs : Nat := 0x40014
/-- CAD_TIME_SECLO (R165, 05_cadence_unit.md). -/
abbrev Reg.cadTimeSeclo : Nat := 0x40018
/-- CAD_TIME_SECHI (R165, 05_cadence_unit.md). -/
abbrev Reg.cadTimeSechi : Nat := 0x4001C
/-- CAD_ADJ_NS (R165, 05_cadence_unit.md). -/
abbrev Reg.cadAdjNs : Nat := 0x40020
/-- CAD_ADJ_SEC (R165, 05_cadence_unit.md). -/
abbrev Reg.cadAdjSec : Nat := 0x40024
/-- CAD_ADJ_CTL (R165, 05_cadence_unit.md). -/
abbrev Reg.cadAdjCtl : Nat := 0x40028
/-- CAD_HOLD (R165, 05_cadence_unit.md). -/
def Reg.cadHold (n : Nat) : Nat := 0x40030 + 0x4 * n
/-- CAD_EVSEL (R165, 05_cadence_unit.md). -/
def Reg.cadEvsel (n : Nat) : Nat := 0x40038 + 0x4 * n
/-- CAD_PPS_CFG (R165, 05_cadence_unit.md). -/
abbrev Reg.cadPpsCfg : Nat := 0x40040
/-- CAD_CAP_CTL (R165, 05_cadence_unit.md). -/
abbrev Reg.cadCapCtl : Nat := 0x40050
/-- CAD_CAP_FRAC (R165, 05_cadence_unit.md). -/
def Reg.cadCapFrac (n : Nat) : Nat := 0x40060 + 0x10 * n
/-- CAD_CAP_NS (R165, 05_cadence_unit.md). -/
def Reg.cadCapNs (n : Nat) : Nat := 0x40064 + 0x10 * n
/-- CAD_CAP_SECLO (R165, 05_cadence_unit.md). -/
def Reg.cadCapSeclo (n : Nat) : Nat := 0x40068 + 0x10 * n
/-- CAD_CAP_SECHI (R165, 05_cadence_unit.md). -/
def Reg.cadCapSechi (n : Nat) : Nat := 0x4006C + 0x10 * n
/-- C_CFG (R165, 05_cadence_unit.md). -/
def Reg.cCfg (n : Nat) : Nat := 0x40100 + 0x20 * n
/-- C_N (R165, 05_cadence_unit.md). -/
def Reg.cN (n : Nat) : Nat := 0x40104 + 0x20 * n
/-- C_D (R165, 05_cadence_unit.md). -/
def Reg.cD (n : Nat) : Nat := 0x40108 + 0x20 * n
/-- C_EPOCH_NS (R165, 05_cadence_unit.md). -/
def Reg.cEpochNs (n : Nat) : Nat := 0x4010C + 0x20 * n
/-- C_EPOCH_SEC (R165, 05_cadence_unit.md). -/
def Reg.cEpochSec (n : Nat) : Nat := 0x40110 + 0x20 * n
/-- C_NEXT_NS (R165, 05_cadence_unit.md). -/
def Reg.cNextNs (n : Nat) : Nat := 0x40114 + 0x20 * n
/-- C_NEXT_SEC (R165, 05_cadence_unit.md). -/
def Reg.cNextSec (n : Nat) : Nat := 0x40118 + 0x20 * n
/-- C_COUNT (R165, 05_cadence_unit.md). -/
def Reg.cCount (n : Nat) : Nat := 0x4011C + 0x20 * n
/-- OT_CFG (R165, 05_cadence_unit.md). -/
def Reg.otCfg (n : Nat) : Nat := 0x40500 + 0x10 * n
/-- OT_OFS (R165, 05_cadence_unit.md). -/
def Reg.otOfs (n : Nat) : Nat := 0x40504 + 0x10 * n
/-- CAD_MB_CTL (R165, 05_cadence_unit.md). -/
def Reg.cadMbCtl (n : Nat) : Nat := 0x40600 + 0x10 * n
/-- CAD_MB_AT_NS (R165, 05_cadence_unit.md). -/
def Reg.cadMbAtNs (n : Nat) : Nat := 0x40604 + 0x10 * n
/-- CAD_MB_AT_SEC (R165, 05_cadence_unit.md). -/
def Reg.cadMbAtSec (n : Nat) : Nat := 0x40608 + 0x10 * n
/-- CAD_FBR (R165, 05_cadence_unit.md). -/
def Reg.cadFbr (n : Nat) : Nat := 0x41000 + 0x4 * n
/-- CAD_FBR_LIVE (R165, 05_cadence_unit.md). -/
def Reg.cadFbrLive (n : Nat) : Nat := 0x41400 + 0x4 * n
/-- CAD_FBR_CFG (R165, 05_cadence_unit.md). -/
def Reg.cadFbrCfg (n : Nat) : Nat := 0x41800 + 0x4 * n
/-- CLK_STATUS (R120, 04_clocks.md). -/
abbrev Reg.clkStatus : Nat := 0x50000
/-- CLK_HUB (R120, 04_clocks.md). -/
abbrev Reg.clkHub : Nat := 0x50004
/-- CLK_BSEL (R142, 04_clocks.md). -/
abbrev Reg.clkBsel : Nat := 0x50008
/-- CLK_ERR (R142, 04_clocks.md). -/
abbrev Reg.clkErr : Nat := 0x5000C
/-- CLK_HGCTL (R142, 04_clocks.md). -/
abbrev Reg.clkHgctl : Nat := 0x50010
/-- CLK_HGREQ0 (R142, 04_clocks.md). -/
abbrev Reg.clkHgreq0 : Nat := 0x50014
/-- CLK_HGREQ1 (R142, 04_clocks.md). -/
abbrev Reg.clkHgreq1 : Nat := 0x50018
/-- CLK_HGSTAT (R142, 04_clocks.md). -/
def Reg.clkHgstat (n : Nat) : Nat := 0x5001C + 0x4 * n
/-- CLK_HGREF (R142, 04_clocks.md). -/
def Reg.clkHgref (n : Nat) : Nat := 0x50024 + 0x4 * n
/-- FS_CFG (R128, 04_clocks.md). -/
def Reg.fsCfg (n : Nat) : Nat := 0x50100 + 0x40 * n
/-- FS_NINT (R128, 04_clocks.md). -/
def Reg.fsNint (n : Nat) : Nat := 0x50104 + 0x40 * n
/-- FS_NUM (R128, 04_clocks.md). -/
def Reg.fsNum (n : Nat) : Nat := 0x50108 + 0x40 * n
/-- FS_DEN (R128, 04_clocks.md). -/
def Reg.fsDen (n : Nat) : Nat := 0x5010C + 0x40 * n
/-- FS_TAP01 (R128, 04_clocks.md). -/
def Reg.fsTap01 (n : Nat) : Nat := 0x50110 + 0x40 * n
/-- FS_TAP23 (R128, 04_clocks.md). -/
def Reg.fsTap23 (n : Nat) : Nat := 0x50114 + 0x40 * n
/-- FS_STAT (R128, 04_clocks.md). -/
def Reg.fsStat (n : Nat) : Nat := 0x50118 + 0x40 * n
/-- CLK_RIM (R142, 04_clocks.md). -/
def Reg.clkRim (n i : Nat) : Nat := 0x51000 + 0x20 * n + 0x4 * i
/-- CLK_VSEL (R142, 04_clocks.md). -/
def Reg.clkVsel (n i : Nat) : Nat := 0x51200 + 0x10 * n + 0x4 * i
/-- CLK_SGATE (R142, 04_clocks.md). -/
def Reg.clkSgate (n : Nat) : Nat := 0x51400 + 0x4 * n
/-- FM_CFG (R141, 04_clocks.md). -/
def Reg.fmCfg (n : Nat) : Nat := 0x52000 + 0x20 * n
/-- FM_MIN (R141, 04_clocks.md). -/
def Reg.fmMin (n : Nat) : Nat := 0x52004 + 0x20 * n
/-- FM_MAX (R141, 04_clocks.md). -/
def Reg.fmMax (n : Nat) : Nat := 0x52008 + 0x20 * n
/-- FM_COUNT (R141, 04_clocks.md). -/
def Reg.fmCount (n : Nat) : Nat := 0x5200C + 0x20 * n
/-- FM_RUN_LO (R141, 04_clocks.md). -/
def Reg.fmRunLo (n : Nat) : Nat := 0x52010 + 0x20 * n
/-- FM_RUN_HI (R141, 04_clocks.md). -/
def Reg.fmRunHi (n : Nat) : Nat := 0x52014 + 0x20 * n
/-- PWR_STAT (R435, 16_power_and_sleep.md). -/
abbrev Reg.pwrStat : Nat := 0x60000
/-- PWR_PLREQ (R435, 16_power_and_sleep.md). -/
abbrev Reg.pwrPlreq : Nat := 0x60004
/-- PWR_MREQ (R435, 16_power_and_sleep.md). -/
abbrev Reg.pwrMreq : Nat := 0x60008
/-- PWR_RESULT (R435, 16_power_and_sleep.md). -/
abbrev Reg.pwrResult : Nat := 0x6000C
/-- PWR_ERR (R435, 16_power_and_sleep.md). -/
abbrev Reg.pwrErr : Nat := 0x60010
/-- PWR_CFG (R435, 16_power_and_sleep.md). -/
abbrev Reg.pwrCfg : Nat := 0x60014
/-- PWR_DOZE (R435, 16_power_and_sleep.md). -/
abbrev Reg.pwrDoze : Nat := 0x60018
/-- PWR_WAKEEN (R435, 16_power_and_sleep.md). -/
abbrev Reg.pwrWakeen : Nat := 0x6001C
/-- PWR_WAKEPIN (R435, 16_power_and_sleep.md). -/
abbrev Reg.pwrWakepin : Nat := 0x60020
/-- PWR_WAKE_CAUSE (R435, 16_power_and_sleep.md). -/
abbrev Reg.pwrWakeCause : Nat := 0x60024
/-- PWR_WTIMER (R435, 16_power_and_sleep.md). -/
abbrev Reg.pwrWtimer : Nat := 0x60028
/-- PWR_STALE (R435, 16_power_and_sleep.md). -/
def Reg.pwrStale (n : Nat) : Nat := 0x60030 + 0x4 * n
/-- PWR_STALEHUB (R435, 16_power_and_sleep.md). -/
abbrev Reg.pwrStalehub : Nat := 0x6003C
/-- PWR_TSTAT (R435, 16_power_and_sleep.md). -/
abbrev Reg.pwrTstat : Nat := 0x60040
/-- PWR_THUB (R435, 16_power_and_sleep.md). -/
abbrev Reg.pwrThub : Nat := 0x60044
/-- PWR_VIN (R435, 16_power_and_sleep.md). -/
abbrev Reg.pwrVin : Nat := 0x60048
/-- PWR_TEMP (R435, 16_power_and_sleep.md). -/
def Reg.pwrTemp (n : Nat) : Nat := 0x60100 + 0x4 * n
/-- PWR_DOZEGATE (R435, 16_power_and_sleep.md). -/
def Reg.pwrDozegate (n : Nat) : Nat := 0x60200 + 0x4 * n
/-- PWR_RAIL (R435, 16_power_and_sleep.md). -/
def Reg.pwrRail (n : Nat) : Nat := 0x60400 + 0x4 * n
/-- SND_REQ (R447, 17_sounding_and_repair.md). -/
abbrev Reg.sndReq : Nat := 0x70000
/-- SND_STAT (R447, 17_sounding_and_repair.md). -/
abbrev Reg.sndStat : Nat := 0x70004
/-- SND_SIG_LO (R447, 17_sounding_and_repair.md). -/
abbrev Reg.sndSigLo : Nat := 0x70008
/-- SND_SIG_HI (R447, 17_sounding_and_repair.md). -/
abbrev Reg.sndSigHi : Nat := 0x7000C
/-- SND_REF_LO (R447, 17_sounding_and_repair.md). -/
abbrev Reg.sndRefLo : Nat := 0x70010
/-- SND_REF_HI (R447, 17_sounding_and_repair.md). -/
abbrev Reg.sndRefHi : Nat := 0x70014
/-- SND_PAT (R447, 17_sounding_and_repair.md). -/
abbrev Reg.sndPat : Nat := 0x70018
/-- SND_FAIL (R447, 17_sounding_and_repair.md). -/
abbrev Reg.sndFail : Nat := 0x7001C
/-- SND_BOOT (R447, 17_sounding_and_repair.md). -/
abbrev Reg.sndBoot : Nat := 0x70020
/-- SND_STALE (R447, 17_sounding_and_repair.md). -/
abbrev Reg.sndStale : Nat := 0x70030
/-- SND_STALECLR (R447, 17_sounding_and_repair.md). -/
abbrev Reg.sndStaleclr : Nat := 0x70034
/-- SND_FUSE (R447, 17_sounding_and_repair.md). -/
abbrev Reg.sndFuse : Nat := 0x70040
/-- SND_FUSEGO (R447, 17_sounding_and_repair.md). -/
abbrev Reg.sndFusego : Nat := 0x70044
/-- SND_FUSESTAT (R447, 17_sounding_and_repair.md). -/
abbrev Reg.sndFusestat : Nat := 0x70048
/-- SND_SPARE (R447, 17_sounding_and_repair.md). -/
def Reg.sndSpare (n : Nat) : Nat := 0x70100 + 0x4 * n
/-- SEM (R381, 13_host_ports_and_semaphores.md). -/
def Reg.sem (n : Nat) : Nat := 0x80000 + 0x4 * n
/-- SEM_ID (R381, 13_host_ports_and_semaphores.md). -/
abbrev Reg.semId : Nat := 0x80100
/-- SEM_ERR (R381, 13_host_ports_and_semaphores.md). -/
abbrev Reg.semErr : Nat := 0x80104
/-- SEM_ERRADDR (R381, 13_host_ports_and_semaphores.md). -/
abbrev Reg.semErraddr : Nat := 0x80108
/-- SEM_FORCE (R381, 13_host_ports_and_semaphores.md). -/
abbrev Reg.semForce : Nat := 0x8010C
/-- SEM_FRCLOG (R381, 13_host_ports_and_semaphores.md). -/
abbrev Reg.semFrclog : Nat := 0x80110
/-- MB_DATA (R381, 13_host_ports_and_semaphores.md). -/
def Reg.mbData (n i : Nat) : Nat := 0x80400 + 0x40 * n + 0x4 * i
/-- MB_CTL (R381, 13_host_ports_and_semaphores.md). -/
def Reg.mbCtl (n : Nat) : Nat := 0x80420 + 0x40 * n
/-- EVT_SRC (R410, 15_laoft_cluster_and_events.md). -/
def Reg.evtSrc (n : Nat) : Nat := 0x90000 + 0x4 * n
/-- EVT_THR (R410, 15_laoft_cluster_and_events.md). -/
def Reg.evtThr (n : Nat) : Nat := 0x90800 + 0x4 * n
/-- EVT_CLAIM (R410, 15_laoft_cluster_and_events.md). -/
def Reg.evtClaim (n : Nat) : Nat := 0x90840 + 0x4 * n
/-- EVT_PEND (R410, 15_laoft_cluster_and_events.md). -/
def Reg.evtPend (n : Nat) : Nat := 0x90900 + 0x4 * n
/-- EVT_RAISE (R410, 15_laoft_cluster_and_events.md). -/
abbrev Reg.evtRaise : Nat := 0x90940
/-- HP_CTL (R381, 13_host_ports_and_semaphores.md). -/
def Reg.hpCtl (n : Nat) : Nat := 0xA0000 + 0x10000 * n
/-- HP_STAT (R381, 13_host_ports_and_semaphores.md). -/
def Reg.hpStat (n : Nat) : Nat := 0xA0004 + 0x10000 * n
/-- HP_ID (R381, 13_host_ports_and_semaphores.md). -/
def Reg.hpId (n : Nat) : Nat := 0xA0008 + 0x10000 * n
/-- HP_DISC (R381, 13_host_ports_and_semaphores.md). -/
def Reg.hpDisc (n : Nat) : Nat := 0xA000C + 0x10000 * n
/-- HP_SEND (R381, 13_host_ports_and_semaphores.md). -/
def Reg.hpSend (n : Nat) : Nat := 0xA0010 + 0x10000 * n
/-- HP_SRET (R381, 13_host_ports_and_semaphores.md). -/
def Reg.hpSret (n : Nat) : Nat := 0xA0014 + 0x10000 * n
/-- HP_SRCNT (R381, 13_host_ports_and_semaphores.md). -/
def Reg.hpSrcnt (n : Nat) : Nat := 0xA0018 + 0x10000 * n
/-- HP_EVEN (R381, 13_host_ports_and_semaphores.md). -/
def Reg.hpEven (n : Nat) : Nat := 0xA001C + 0x10000 * n
/-- LANE_CTL (R332, 11_serial_lanes.md). -/
def Reg.laneCtl (n : Nat) : Nat := 0x100000 + 0x1000 * n
/-- LANE_CFG (R332, 11_serial_lanes.md). -/
def Reg.laneCfg (n : Nat) : Nat := 0x100004 + 0x1000 * n
/-- LANE_TXEQ (R332, 11_serial_lanes.md). -/
def Reg.laneTxeq (n : Nat) : Nat := 0x100008 + 0x1000 * n
/-- LANE_RXEQ (R332, 11_serial_lanes.md). -/
def Reg.laneRxeq (n : Nat) : Nat := 0x10000C + 0x1000 * n
/-- LANE_DFE (R332, 11_serial_lanes.md). -/
def Reg.laneDfe (n i : Nat) : Nat := 0x100010 + 0x1000 * n + 0x4 * i
/-- LANE_LG (R332, 11_serial_lanes.md). -/
def Reg.laneLg (n : Nat) : Nat := 0x10001C + 0x1000 * n
/-- LANE_LGDFE (R332, 11_serial_lanes.md). -/
def Reg.laneLgdfe (n i : Nat) : Nat := 0x100020 + 0x1000 * n + 0x4 * i
/-- LANE_ADAPT (R332, 11_serial_lanes.md). -/
def Reg.laneAdapt (n : Nat) : Nat := 0x100030 + 0x1000 * n
/-- LANE_QUAL (R332, 11_serial_lanes.md). -/
def Reg.laneQual (n : Nat) : Nat := 0x100034 + 0x1000 * n
/-- LANE_EYE (R332, 11_serial_lanes.md). -/
def Reg.laneEye (n : Nat) : Nat := 0x100038 + 0x1000 * n
/-- LANE_STAT (R332, 11_serial_lanes.md). -/
def Reg.laneStat (n : Nat) : Nat := 0x100040 + 0x1000 * n
/-- LANE_ERR (R332, 11_serial_lanes.md). -/
def Reg.laneErr (n : Nat) : Nat := 0x100044 + 0x1000 * n
/-- LANE_EVEN (R332, 11_serial_lanes.md). -/
def Reg.laneEven (n : Nat) : Nat := 0x100048 + 0x1000 * n
/-- LANE_CNT_ERR (R332, 11_serial_lanes.md). -/
def Reg.laneCntErr (n : Nat) : Nat := 0x100050 + 0x1000 * n
/-- LANE_CNT_BITS_LO (R332, 11_serial_lanes.md). -/
def Reg.laneCntBitsLo (n : Nat) : Nat := 0x100054 + 0x1000 * n
/-- LANE_CNT_BITS_HI (R332, 11_serial_lanes.md). -/
def Reg.laneCntBitsHi (n : Nat) : Nat := 0x100058 + 0x1000 * n
/-- LANE_PRBS (R332, 11_serial_lanes.md). -/
def Reg.lanePrbs (n : Nat) : Nat := 0x100060 + 0x1000 * n
/-- QPLLL_CFG (R332, 11_serial_lanes.md). -/
def Reg.qplllCfg (n : Nat) : Nat := 0x100800 + 0x4000 * n
/-- QPLLL_FRAC (R332, 11_serial_lanes.md). -/
def Reg.qplllFrac (n : Nat) : Nat := 0x100804 + 0x4000 * n
/-- QPLLH_CFG (R332, 11_serial_lanes.md). -/
def Reg.qpllhCfg (n : Nat) : Nat := 0x100808 + 0x4000 * n
/-- QPLLH_FRAC (R332, 11_serial_lanes.md). -/
def Reg.qpllhFrac (n : Nat) : Nat := 0x10080C + 0x4000 * n
/-- QCTL (R332, 11_serial_lanes.md). -/
def Reg.qctl (n : Nat) : Nat := 0x100810 + 0x4000 * n
/-- QSTAT (R332, 11_serial_lanes.md). -/
def Reg.qstat (n : Nat) : Nat := 0x100814 + 0x4000 * n
/-- WP_CTL (R362, 12_wale_link.md). -/
def Reg.wpCtl (n : Nat) : Nat := 0x200000 + 0x4000 * n
/-- WP_CFG (R362, 12_wale_link.md). -/
def Reg.wpCfg (n : Nat) : Nat := 0x200004 + 0x4000 * n
/-- WP_ASYM (R362, 12_wale_link.md). -/
def Reg.wpAsym (n : Nat) : Nat := 0x200008 + 0x4000 * n
/-- WP_STAT (R362, 12_wale_link.md). -/
def Reg.wpStat (n : Nat) : Nat := 0x20000C + 0x4000 * n
/-- WP_ERR (R362, 12_wale_link.md). -/
def Reg.wpErr (n : Nat) : Nat := 0x200010 + 0x4000 * n
/-- WP_EVEN (R362, 12_wale_link.md). -/
def Reg.wpEven (n : Nat) : Nat := 0x200014 + 0x4000 * n
/-- WP_CNT_TX (R362, 12_wale_link.md). -/
def Reg.wpCntTx (n : Nat) : Nat := 0x200018 + 0x4000 * n
/-- WP_CNT_RX (R362, 12_wale_link.md). -/
def Reg.wpCntRx (n : Nat) : Nat := 0x20001C + 0x4000 * n
/-- WP_CNT_RESEND (R362, 12_wale_link.md). -/
def Reg.wpCntResend (n : Nat) : Nat := 0x200020 + 0x4000 * n
/-- WP_CNT_BAD (R362, 12_wale_link.md). -/
def Reg.wpCntBad (n : Nat) : Nat := 0x200024 + 0x4000 * n
/-- WP_DELAY (R362, 12_wale_link.md). -/
def Reg.wpDelay (n : Nat) : Nat := 0x200028 + 0x4000 * n
/-- WALE_ID (R362, 12_wale_link.md). -/
abbrev Reg.waleId : Nat := 0x218000
/-- WALE_SYS_CFG (R362, 12_wale_link.md). -/
abbrev Reg.waleSysCfg : Nat := 0x218004
/-- WALE_ACCEPT (R362, 12_wale_link.md). -/
abbrev Reg.waleAccept : Nat := 0x218008
/-- WALE_TREE (R362, 12_wale_link.md). -/
abbrev Reg.waleTree : Nat := 0x21800C
/-- WALE_TIME (R362, 12_wale_link.md). -/
abbrev Reg.waleTime : Nat := 0x218010
/-- WALE_TIME_OFS (R362, 12_wale_link.md). -/
abbrev Reg.waleTimeOfs : Nat := 0x218014
/-- WALE_LEAD (R362, 12_wale_link.md). -/
abbrev Reg.waleLead : Nat := 0x218018
/-- WALE_CUTOFF (R362, 12_wale_link.md). -/
abbrev Reg.waleCutoff : Nat := 0x21801C
/-- WALE_RDY (R362, 12_wale_link.md). -/
abbrev Reg.waleRdy : Nat := 0x218020
/-- WALE_BNDREF (R362, 12_wale_link.md). -/
abbrev Reg.waleBndref : Nat := 0x218024
/-- WALE_SYS_ERR (R362, 12_wale_link.md). -/
abbrev Reg.waleSysErr : Nat := 0x218028
/-- WALE_CNT_DROP (R362, 12_wale_link.md). -/
abbrev Reg.waleCntDrop : Nat := 0x21802C
/-- WALE_CNT_STALE (R362, 12_wale_link.md). -/
abbrev Reg.waleCntStale : Nat := 0x218030
/-- WALE_CNT_LATE (R362, 12_wale_link.md). -/
abbrev Reg.waleCntLate : Nat := 0x218034
/-- WALE_ROSTER (R362, 12_wale_link.md). -/
def Reg.waleRoster (n : Nat) : Nat := 0x218040 + 0x4 * n
/-- WALE_GANG_CTL (R362, 12_wale_link.md). -/
abbrev Reg.waleGangCtl : Nat := 0x218080
/-- WALE_GANG_ADDR_LO (R362, 12_wale_link.md). -/
abbrev Reg.waleGangAddrLo : Nat := 0x218084
/-- WALE_GANG_ADDR_HI (R362, 12_wale_link.md). -/
abbrev Reg.waleGangAddrHi : Nat := 0x218088
/-- WALE_GANG_LEN (R362, 12_wale_link.md). -/
abbrev Reg.waleGangLen : Nat := 0x21808C
/-- WALE_MQ_STAT (R362, 12_wale_link.md). -/
abbrev Reg.waleMqStat : Nat := 0x2180C0
/-- WALE_MQ_POP (R362, 12_wale_link.md). -/
abbrev Reg.waleMqPop : Nat := 0x2180C4
/-- WALE_MQ_DATA (R362, 12_wale_link.md). -/
def Reg.waleMqData (n : Nat) : Nat := 0x218200 + 0x4 * n
/-- WALE_RQ_CTL (R362, 12_wale_link.md). -/
def Reg.waleRqCtl (n : Nat) : Nat := 0x219000 + 0x400 * n
/-- WALE_RQ_DEST (R362, 12_wale_link.md). -/
def Reg.waleRqDest (n : Nat) : Nat := 0x219004 + 0x400 * n
/-- WALE_RQ_ADDR_LO (R362, 12_wale_link.md). -/
def Reg.waleRqAddrLo (n : Nat) : Nat := 0x219008 + 0x400 * n
/-- WALE_RQ_ADDR_HI (R362, 12_wale_link.md). -/
def Reg.waleRqAddrHi (n : Nat) : Nat := 0x21900C + 0x400 * n
/-- WALE_RQ_DATA (R362, 12_wale_link.md). -/
def Reg.waleRqData (n i : Nat) : Nat := 0x219200 + 0x400 * n + 0x4 * i
/-- WALE_RT (R362, 12_wale_link.md). -/
def Reg.waleRt (n : Nat) : Nat := 0x220000 + 0x4 * n
/-- WALE_PEER (R362, 12_wale_link.md). -/
def Reg.walePeer (n : Nat) : Nat := 0x222000 + 0x4 * n
/-- HAMP_CTL (R396, 14_hamper_memory.md). -/
abbrev Reg.hampCtl : Nat := 0x300000
/-- HAMP_CFG (R396, 14_hamper_memory.md). -/
abbrev Reg.hampCfg : Nat := 0x300004
/-- HAMP_STAT (R396, 14_hamper_memory.md). -/
abbrev Reg.hampStat : Nat := 0x300008
/-- HAMP_TEMP (R396, 14_hamper_memory.md). -/
abbrev Reg.hampTemp : Nat := 0x30000C
/-- HAMP_ERR (R396, 14_hamper_memory.md). -/
abbrev Reg.hampErr : Nat := 0x300010
/-- HAMP_ECNT_CE (R396, 14_hamper_memory.md). -/
abbrev Reg.hampEcntCe : Nat := 0x300014
/-- HAMP_ECNT_UE (R396, 14_hamper_memory.md). -/
abbrev Reg.hampEcntUe : Nat := 0x300018
/-- HAMP_ELOG_LO (R396, 14_hamper_memory.md). -/
abbrev Reg.hampElogLo : Nat := 0x300020
/-- HAMP_ELOG_HI (R396, 14_hamper_memory.md). -/
abbrev Reg.hampElogHi : Nat := 0x300024
/-- HAMP_PRI (R396, 14_hamper_memory.md). -/
def Reg.hampPri (n : Nat) : Nat := 0x300100 + 0x4 * n
/-- HAMP_SYSPRI (R396, 14_hamper_memory.md). -/
abbrev Reg.hampSyspri : Nat := 0x300180
/-- HAMP_PSTAT (R396, 14_hamper_memory.md). -/
def Reg.hampPstat (n : Nat) : Nat := 0x300200 + 0x4 * n
/-- FLC_STAT (R304, 10_on_package_flash.md). -/
abbrev Reg.flcStat : Nat := 0x400000
/-- FLC_ERR (R304, 10_on_package_flash.md). -/
abbrev Reg.flcErr : Nat := 0x400004
/-- FLC_LASTOP (R304, 10_on_package_flash.md). -/
abbrev Reg.flcLastop : Nat := 0x400008
/-- FLC_SUSPCNT (R304, 10_on_package_flash.md). -/
abbrev Reg.flcSuspcnt : Nat := 0x40000C
/-- FLC_CFG (R304, 10_on_package_flash.md). -/
abbrev Reg.flcCfg : Nat := 0x400010
/-- FLC_WEAR (R304, 10_on_package_flash.md). -/
abbrev Reg.flcWear : Nat := 0x400014
/-- FLC_WEARSEC (R304, 10_on_package_flash.md). -/
abbrev Reg.flcWearsec : Nat := 0x400018
/-- FLC_SECQ (R304, 10_on_package_flash.md). -/
abbrev Reg.flcSecq : Nat := 0x400020
/-- FLC_SECINFO (R304, 10_on_package_flash.md). -/
abbrev Reg.flcSecinfo : Nat := 0x400024
/-- FLC_HALF (R304, 10_on_package_flash.md). -/
abbrev Reg.flcHalf : Nat := 0x400028
/-- FLC_LEDGER (R304, 10_on_package_flash.md). -/
abbrev Reg.flcLedger : Nat := 0x40002C
/-- FLC_PROTLO (R304, 10_on_package_flash.md). -/
def Reg.flcProtlo (n : Nat) : Nat := 0x400040 + 0x8 * n
/-- FLC_PROTHI (R304, 10_on_package_flash.md). -/
def Reg.flcProthi (n : Nat) : Nat := 0x400044 + 0x8 * n
/-- FLC_INFOPROT (R304, 10_on_package_flash.md). -/
abbrev Reg.flcInfoprot : Nat := 0x400060

end Sys2Proof.Machine
end

