-- ==== Sys2Proof/Machine/State.lean ====
section
/-! DEFINITION. The state of the block as plain data: every register of the manager space, and the
state the spec gives each unit that no register shows. -/
namespace Sys2Proof.Machine

/-- A sparse table: keys strictly rising, no entry equal to what an unlisted key reads as. -/
abbrev Store (α : Type) := List (Nat × α)

/-- The reasons a command stops with a fault. -/
inductive Fault where
  /-- A cluster core reaches a peripheral whose registers the spec does not lay out.  Safe. -/
  | peripheralNotDescribed
  deriving DecidableEq, Repr

/-- The reasons a command is refused. -/
inductive Refusal where
  /-- No meaning yet for the command of this mnemonic.  Safe. -/
  | notModelled (mnemonic : String)
  deriving DecidableEq, Repr

/-- What a Wale port sends (R336 to R338): a block, an ACK set, a TSY set, an LMG set, a TRN set on
a lane, or IDL columns. -/
inductive WaleOut where
  | block (b : WaleBlock)
  | ack (aseq : Nat) (nak : Bool)
  | tsy (resp : Bool) (xn : Nat)
  | lmg (op set : Nat)
  | trn (lane : Nat) (t : TrnSet)
  | idl (n : Nat)
  deriving DecidableEq, Repr

/-- A symbol of a lane: its K flag and its byte (R321). -/
abbrev LineSym := Bool × Nat

/-- A read of the xSPI master (R209): 0x0B in mode 1S-1S-1S with 8 dummy cycles at 50 MHz, or the 8D-8D-8D read
with XSPI_DUMMY dummy cycles at 200 MHz; the address takes 4 bytes. -/
structure XspiRead where
  octal : Bool
  dummy : Nat
  mhz : Nat
  addr : BitVec 32
  words : Nat
  deriving DecidableEq, Repr

/-- What leaves the block: the history `State.sent` keeps, oldest first. -/
inductive Emission where
  /-- An MSI-X message of a host port (R410): its vector and its table entry's address and data. -/
  | msix (port : Fin 2) (vec : Nat) (addrLo addrHi data : Word)
  /-- The words a read returns to an agent. -/
  | read (ag : Agent) (words : List Word)
  /-- The words a READ packet returns at the Inner Port (R234). -/
  | inner (words : List Word)
  /-- A bus error to a cluster core (R398). -/
  | busError (core : Fin 4)
  /-- A read beat or a write response of a hamper port (R385): status, tag, data, last. -/
  | hampR (port : Nat) (err tag : Nat) (data : BitVec 256) (last : Bool)
  | hampB (port : Nat) (err tag : Nat)
  /-- What a Wale port sends, and the columns it sends it in (R336). -/
  | wale (port : Nat) (o : WaleOut) (cols : List (List LineSym))
  /-- A window request leaves for the fabric at a gateway port (R406). -/
  | gwWindow (port : Nat) (req : WindowReq)
  /-- A master request's response at a gateway port: tag, MR_STAT, words (R407). -/
  | gwMaster (port tag status : Nat) (words : List Word)
  /-- A word captured by a JTAG data register (R467). -/
  | jtag (w : Word)
  /-- The xSPI master issues the JESD251 software reset, then a read (R209). -/
  | xspiReset
  | xspiRead (r : XspiRead)
  deriving DecidableEq, Repr

/-- A service SPI access: a word of a WRITE frame and a READ frame of some words, each with the word address and its
region, words for the stream window, and a STATUS frame (R371). -/
inductive SpiItem where
  | word (addr : Nat) (w : Word)
  | read (addr n : Nat)
  | stream (ws : List Word)
  | status
  deriving DecidableEq, Repr

/-- A host port's state outside its registers (R363 to R372, R410). -/
structure HostPort where
  /-- The PCIe link is in DL_Active (R364). -/
  linkUp : Bool := false
  /-- The return queue of READ packets, head first (R370). -/
  retQueue : List Word := []
  /-- The words appended to the stream window and not yet taken by the engine (R369). -/
  window : List Word := []
  /-- END was written while words were left in the window (R370). -/
  ended : Bool := false
  /-- STATUS bits 1 and 2 (R371). -/
  spiFrameErr : Bool := false
  spiDiscard : Bool := false
  /-- Service SPI accesses that wait for the port's clock gate to open or for a hold to end, in order (R139, R423). -/
  spiWait : List SpiItem := []
  cfg : EndpointCfg := ⟨false, false, false⟩
  /-- The MSI-X table, word `4 * vector + i` (R366). -/
  msixTable : Store Word := []
  /-- The pending-bit array (R410). -/
  pba : Word := 0
  deriving DecidableEq, Repr

/-- The changes of a synthesizer in progress (R126, R127): a glide, a divider change, a relock, and the glide by
which a loop reacquires after holdover. -/
structure SynthPhase where
  glide : Bool := false
  divider : Bool := false
  relock : Bool := false
  reacquire : Bool := false
  deriving DecidableEq, Repr

/-- The clock block's state outside its registers. -/
structure ClkState where
  /-- The changes in progress, by synthesizer (R126); an unlisted one has none. -/
  phase : Store SynthPhase := []
  /-- By net: one more than the source a glitch-free switch is still leaving, 0 when none (R132). -/
  switching : Store Nat := []
  /-- The hub synthesizer is in holdover, and XREF's consumers take the substitute reference (R119). -/
  hubHold : Bool := false
  /-- By frequency monitor: the edges counted up to the end of its last window (R140). -/
  fmBase : Store Nat := []
  deriving DecidableEq, Repr

/-- An exact instant of the timebase, `num / den` nanoseconds (R151: held with no rounding). -/
structure Instant where
  num : Nat := 0
  den : Nat := 1
  deriving DecidableEq, Repr

/-- A cadence generator's state outside its registers (R151, R152). -/
structure Gen where
  /-- The instant at which the settings last took effect: g0 while ALIGN is 0. -/
  origin : Instant := {}
  next : Option Instant := none
  deriving DecidableEq, Repr

/-- A boundary whose latch point has passed: its source, its instant, and the RWB values it will
apply, by register (R146, R158). -/
structure Announced where
  src : Nat
  at_ : Instant
  vals : List (Nat × Word)
  /-- A step kept it: its generator's next instant is a later one (R146). -/
  kept : Bool := false
  deriving DecidableEq, Repr

/-- A fabric boundary port as the fabric sees it (R163, R164); `wait`: a new value awaits the next
edge of the port's stake net. -/
structure BPort where
  val : Word := 0
  upd : Bool := false
  wait : Bool := false
  deriving DecidableEq, Repr

/-- The Cadence Unit's state outside its registers. -/
structure CadState where
  /-- The timebase, exact, in units of ns / (2^41 * 125) (R143). -/
  tb : Nat := 0
  /-- What a slew has still to absorb, in the timebase's units (R145). -/
  slew : Int := 0
  gens : Store Gen := []
  /-- The pending instant of each offset tap (R154). -/
  taps : Store (Option Instant) := []
  /-- The pending instant of each manual boundary (R156). -/
  mbs : Store (Option Instant) := []
  announced : List Announced := []
  /-- The PPS output, and the instants whose WIDTH has not ended (R150). -/
  pps : Bool := false
  ppsPulses : Nat := 0
  /-- Fabric boundary ports, by `4 * bay + port`. -/
  bports : Store BPort := []
  deriving DecidableEq, Repr

/-- Where the command sequencer stands (R279, R280).  A sector number is 0 to 4,095 for a main sector
and 4,096 + i for info sector i; a flash address is an array offset, or 2^30 plus an info-block offset. -/
inductive FlashSeq where
  | idle
  | unlock1
  | unlocked
  /-- A program of the word or line at `addr`, with the words so far and the first half of a split
  data cycle. -/
  | data (line : Bool) (addr : Nat) (words : List (BitVec 64)) (half : Option Word)
  | eraseSetup (sector : Nat)
  | eraseUnlock1 (sector : Nat)
  | eraseUnlocked (sector : Nat)
  deriving DecidableEq, Repr

/-- What the operation in progress is doing (R286, R295, R298, R301). -/
inductive FlashStage where
  | program
  | compactThenIntent
  | intent
  | erase
  | compactThenBad
  deriving DecidableEq, Repr

/-- A program or erase in progress. -/
structure FlashOp where
  /-- FLC_STAT.OP. -/
  kind : Nat
  sector : Nat
  addr : Nat
  words : List (BitVec 64)
  stage : FlashStage
  /-- Failed intent programs so far (R295). -/
  attempts : Nat
  /-- The log word of the intent, or 0. -/
  logWord : Nat
  pulses : Nat
  deriving DecidableEq, Repr

/-- An entry of the controller's sector table (R296). -/
structure SecEntry where
  erases : Nat := 0
  bad : Bool := false
  half : Bool := false
  deriving DecidableEq, Repr

/-- The flash die and its controller outside the registers (R275 to R301). -/
structure FlashState where
  /-- The bytes of the main array and, from 2^30 on, of the info block; an unlisted byte is erased. -/
  cells : List Host.Cell := []
  /-- By sector: one more than the token of its undefined content, 0 when defined (R296, R301). -/
  junkSector : Store Nat := []
  /-- By word address / 8: one more than the token of its undefined content (R284, R286, R299). -/
  junkWord : Store Nat := []
  /-- By word address / 8: programs since the last erase (R284). -/
  programs : Store Nat := []
  seq : FlashSeq := .idle
  op : Option FlashOp := none
  /-- Suspends requested and not yet in effect (R289, R290). -/
  reqFw : Bool := false
  reqEng : Bool := false
  table : Store SecEntry := []
  /-- The table was built with no complete ledger half (R297). -/
  lost : Bool := false
  /-- The next blank log word of the active half, 8,192 when none is left (R294). -/
  nextLog : Nat := 8192
  deriving DecidableEq, Repr

/-- One fuse (R450 to R460).  `half` picks the fuse of a pair. -/
inductive FuseRef where
  | counter
  | policy (i : Nat)
  | state (i : Nat) (half : Bool)
  | kill (half : Bool)
  /-- Owner slot: bits 0 to 383 the hash, 384 to 415 the check, 416 and 417 the VALID pair. -/
  | owner (slot bit : Nat)
  /-- KEY_FUSE slot: bits 0 to 255 the key, 256 to 287 the check, 288 and 289 the VALID pair. -/
  | key (slot bit : Nat)
  | testToken (i : Nat) (half : Bool)
  | debugToken (i : Nat) (half : Bool)
  deriving DecidableEq, Repr

/-- A fuse slot for an owner hash or a stream key (R454). -/
structure FuseSlot where
  value : Nat := 0
  check : Nat := 0
  validA : Bool := false
  validB : Bool := false
  deriving DecidableEq, Repr

/-- The life-cycle fuses (R449 to R460).  `stateA` and `stateB` hold the two fuses of each logical
bit.  At reset the unit is as Grenric delivers it: DEV, counter 0 (assumption 4). -/
structure Fuses where
  stateA : Word := 0xFF#32
  stateB : Word := 0xFF#32
  policy : Nat := 0
  counter : Nat := 0
  uid : Nat := 1
  owner : Store FuseSlot := []
  key : Store FuseSlot := []
  killA : Bool := false
  killB : Bool := false
  testA : Word := 0
  testB : Word := 0
  debugA : Word := 0
  debugB : Word := 0
  deriving DecidableEq, Repr

/-- A life-cycle request in progress: `burning` lists the fuses still to burn, none while the request
is being verified (R458). -/
structure LcReq where
  jtag : Bool
  bytes : List Byte
  burning : Option (List FuseRef)
  /-- KEY_BBR was zeroised while the request was being acted on (R465). -/
  tampered : Bool
  deriving DecidableEq, Repr

/-- Keys, fuses, requests and the TAP (R448 to R468). -/
structure KeyState where
  fuses : Fuses := {}
  /-- KEY_BBR; 0 is the zeroised register (R464). -/
  bbr : Nat := 0
  /-- The key register's entries (R463). -/
  entryFuse : Option Nat := none
  entryBbr : Option Nat := none
  req : Option LcReq := none
  /-- The JTAG instruction register (R467). -/
  ir : Nat := 1
  /-- LC_TOKEN's content while it is marked complete (R461). -/
  token : Option (List Byte) := none
  deriving DecidableEq, Repr

/-- The two planes of structure configuration and what follows the plane pointers (R230).  Frames,
dynamic marks and check words are keyed by `latch * 2^21 + PLACE[28:8]`. -/
structure PlaneState where
  frames : Store (BitVec 10240) := []
  dyn : Store Bool := []
  chk : Store Word := []
  /-- By unit (0 to 95 bays, 96 + k edge columns): the latch that is live is 1. -/
  ptr : Store Bool := []
  /-- By unit: bond hold has ended (R65); an edge unit's columns are not frozen (R248). -/
  bondFree : Store Bool := []
  /-- By bay: INIT hold has ended (R44). -/
  initFree : Store Bool := []
  /-- By band-wythe: the edge columns' outputs are enabled (R214, R222). -/
  outEn : Store Bool := []
  deriving DecidableEq, Repr

/-- The output of one creel pipeline stage: 72 bits and the decoder flags; `und`: the data came from a
collision, so its ECC flags are undefined (R85, R89, R92). -/
structure DOut where
  d : Nat := 0
  sbe : Bool := false
  dbe : Bool := false
  und : Bool := false
  deriving DecidableEq, Repr

/-- What a creel port did at its last active edge (R88, R89).  A bit of the array is named
`64 * word + bit`. -/
structure PortAcc where
  /-- The bits the data output took, in its order. -/
  reads : List Nat := []
  /-- The bits written, each with its value before. -/
  writes : List (Nat × Bool) := []
  deriving DecidableEq, Repr

/-- A creel port's registers (R85, R87). -/
structure CreelPort where
  latch : DOut := {}
  dec : DOut := {}
  oreg : DOut := {}
  acc : PortAcc := {}
  deriving DecidableEq, Repr

/-- A creel's FIFO logic (R94 to R97); `rstW`, `rstR` count the edges each side stays in reset. -/
structure FifoSt where
  wptr : Nat := 0
  rptr : Nat := 0
  wPrev : Nat := 0
  rPrev : Nat := 0
  ws1 : Nat := 0
  ws2 : Nat := 0
  rs1 : Nat := 0
  rs2 : Nat := 0
  wrcount : Nat := 0
  rdcount : Nat := 0
  full : Bool := true
  afull : Bool := true
  empty : Bool := true
  aempty : Bool := true
  wrerr : Bool := false
  rderr : Bool := false
  rstW : Nat := 6
  rstR : Nat := 6
  deriving DecidableEq, Repr

/-- A creel's registers, apart from its array. -/
structure CreelSt where
  a : CreelPort := {}
  b : CreelPort := {}
  fifo : FifoSt := {}
  /-- The next word pair the scrub reads, and its pending write-back (R93). -/
  scrubPos : Nat := 0
  scrubWrite : Option (Nat × Nat) := none
  /-- The pulse on SCRUB_SBE (false) or SCRUB_DBE (true), with SCRUB_ADDR. -/
  scrubPulse : Option (Bool × Nat) := none
  deriving DecidableEq, Repr

/-- The operands of one floating-point operation in the pipeline (R108, R109). -/
structure FpOp where
  fa : Nat := 0
  fb : Nat := 0
  fc : Nat := 0
  zsub : Nat := 0
  deriving DecidableEq, Repr

/-- A slice's registers (R104): the input stages, stage 4 with the operands that travel beside the
pre-adder, stage 5, and the accumulator output.  `zs` holds ZSEL and, times 8, SUB. -/
structure SliceSt where
  j0 : Nat := 0
  j1 : Nat := 0
  h : Nat := 0
  g : Nat := 0
  e : Nat := 0
  zs : Nat := 0
  p4 : Nat := 0
  j14 : Nat := 0
  g4 : Nat := 0
  e4 : Nat := 0
  zs4 : Nat := 0
  x5 : Nat := 0
  e5 : Nat := 0
  zs5 : Nat := 0
  v : Nat := 0
  ovf : Bool := false
  satf : Bool := false
  fp4 : FpOp := {}
  fp5 : FpOp := {}
  fp5b : FpOp := {}
  /-- The floating-point results, the latest first, each with its flags (R109, R110). -/
  hist : List (Nat × Nat) := []
  /-- RES and FLAGS after the last edge. -/
  res : Nat := 0
  flags : Nat := 0
  deriving DecidableEq, Repr

/-- A user pin's registers (R482): the bits received last, the latest last, the position of the word boundary,
the word presented to the fabric, the word sent last and its output enable. -/
structure PadSt where
  hist : List Bool := []
  slip : Nat := 0
  rx : Nat := 0
  tx : Nat := 0
  oe : Bool := false
  deriving DecidableEq, Repr

/-- The fabric's own state. -/
structure FabState where
  /-- User pins, by `52 * bank + pin`. -/
  pads : Store PadSt := []
  /-- Flip-flop values, by `((bay * 112 + column) * 60 + row) * 32 + 2 * cell + (0 for QA, 1 for QB)`. -/
  ffs : Store Bool := []
  /-- By `24 * bay + net`: the stake gate closed at the last falling edge (R135). -/
  gateShut : Store Bool := []
  /-- By `24 * bay + net`: the stake net is high. -/
  netHigh : Store Bool := []
  /-- Bridge flip-flops: sending, receiving 1 and 2, by `((direction * 8 + band) * 60 + row) * 3 + stage`. -/
  bridges : Store Word := []
  /-- Creel arrays, by `1024 * array + word`; array 11,520 + 4 * bay + c is a column's spare. -/
  arrays : Store (BitVec 36) := []
  creels : Store CreelSt := []
  slices : Store SliceSt := []
  /-- By creel: the spare serves it (R99, R101). -/
  steer : Store Bool := []
  /-- By creel: a copy or move back runs, so user writes go to both arrays (R101). -/
  copying : Store Bool := []
  /-- By creel: the STALE output, and the STALE record (R102, R446). -/
  stale : Store Bool := []
  staleRec : Store Bool := []
  deriving DecidableEq, Repr

/-- Where the configuration engine stands in its source's words (R167, R198): searching for sync,
reading packets, or ignoring words after an error. -/
inductive EngPhase where
  | search
  | packets
  | dead
  deriving DecidableEq, Repr

/-- Progress in a gang stream (R194, R195): none, between sections with none selected, the same with a NOP
since the last section, in this device's section, after it. -/
inductive GangPhase where
  | none
  | between
  | spaced
  | inside
  | rest
  deriving DecidableEq, Repr

/-- What the engine holds of one stream, from its sync word on (R171, R188, R193). -/
structure StreamSt where
  /-- Words from the sync word on, outside the body, the latest first. -/
  seen : List Word := []
  /-- The body's plaintext words, the latest first. -/
  body : List Word := []
  /-- Offset of the next word. -/
  pos : Nat := 0
  idOk : Bool := false
  /-- The registers written so far. -/
  written : List Nat := []
  form : Word := 0
  keysel : Nat := 0
  sid : Word := 0
  iv : List Word := []
  bodylen : Nat := 0
  bays : Nat := 0
  edge : Nat := 0
  group : Nat := 0
  floor : Word := 7
  clkset : List (Nat × Word) := []
  place : Word := 0
  /-- The frame written last was the last of its kind (R181). -/
  past : Bool := false
  last : Option (BitVec 10240) := none
  /-- Structure frames counted against the limit of R192. -/
  frames : Nat := 0
  inBody : Bool := false
  bodyDone : Bool := false
  /-- A packet of step 5 of R186 has been read. -/
  begun : Bool := false
  staged : Bool := false
  finished : Bool := false
  passed : Bool := false
  /-- The STAGE clear of R176 runs. -/
  stall : Bool := false
  /-- STAT.ERR. -/
  err : Nat := 0
  deriving DecidableEq, Repr

/-- A partial staging in its staged-verify pass (R239). -/
structure VerifyJob where
  bays : Nat
  edge : Nat
  group : Nat
  floor : Word
  src : Nat
  /-- PLACE at the end of its frame writes. -/
  place : Word
  deriving DecidableEq, Repr

/-- A group's commit or revert from its latch point to its release (R248). -/
structure Commit where
  group : Nat
  revert : Bool
  bays : Nat
  edge : Nat
  /-- The commit edge has passed. -/
  flipped : Bool
  deriving DecidableEq, Repr

/-- Where a direct-write apply stands (R254): none, queued, latched for a boundary, writing. -/
inductive DwPhase where
  | none
  | queued
  | latched
  | writing
  deriving DecidableEq, Repr

/-- The direct-write buffer (R254). -/
structure DwSt where
  place : Word := 0
  /-- The words of the frame being filled, the latest first. -/
  words : List Word := []
  /-- The frame is complete: a further word has no place. -/
  full : Bool := true
  buf : List (Word × BitVec 10240) := []
  phase : DwPhase := .none
  /-- The boundary source of the apply in progress, as BSEL stood at its APPLY write. -/
  src : Nat := 0
  deriving DecidableEq, Repr

/-- What a source hands to the engine: the sync word, a packet, the end of the stream. -/
inductive EngItem where
  | sync
  | packet (hdr : Word) (data : List Word)
  | sourceEnd
  deriving DecidableEq, Repr

/-- A frame-writing packet that a bay's sounding has stalled (R440): its header, its offset, and the frames it
has still to write. -/
structure EngTodo where
  hdr : Word
  pos : Nat
  frames : List (BitVec 10240)
  deriving DecidableEq, Repr

/-- The configuration engine outside its registers. -/
structure EngSt where
  /-- What the engine has still to read once its stall ends, oldest first (R176, R370, R440). -/
  queue : List EngItem := []
  todo : Option EngTodo := none
  /-- Words a READ has still to put into the return queue (R370). -/
  unread : List Word := []
  phase : EngPhase := .search
  gang : GangPhase := .none
  /-- Words left of the selected section. -/
  left : Nat := 0
  /-- Words of a section that the engine has still to pass over (R195). -/
  skip : Nat := 0
  /-- Where a stream from flash or through the xSPI master goes on, as a byte address, and how many words of it
  are left (R208, R212, R233). -/
  feedAt : Nat := 0
  feedLeft : Nat := 0
  st : StreamSt := {}
  /-- A word has arrived from the open source (R233). -/
  arrived : Bool := false
  verify : Option VerifyJob := none
  commits : List Commit := []
  /-- Groups whose revert verify still runs (R252). -/
  revVerify : List Nat := []
  dw : DwSt := {}
  /-- The PISO level each panel's controller bay gives (R257). -/
  piso : Store Bool := []
  /-- The Inner Port's queue in words, oldest first, and whether its beat with IP_LAST has come (R234). -/
  inner : List Word := []
  innerEnded : Bool := false
  /-- Words READ packets return at the Inner Port, and the beat it presents (R234). -/
  innerRet : List Word := []
  innerBeat : List Word := []
  deriving DecidableEq, Repr

/-- An image entry of the boot directory (R206). -/
structure BootImage where
  valid : Bool
  prio : Bool
  offset : Nat
  length : Nat
  prioLen : Nat
  deriving DecidableEq, Repr

/-- A boot directory copy (R205); `copy` is 0 for A, 1 for B. -/
structure BootDir where
  copy : Nat
  seq : Nat
  bankv : Nat
  faultMask : Nat
  doneWait : Nat
  doneFilter : Nat
  doneLate : Bool
  waleDone : Bool
  refhz : Nat
  devid : Nat
  gclass : Nat
  ports : Nat
  srcWait : Nat
  xspi : Nat
  prioBays : Nat
  images : List BootImage
  deriving DecidableEq, Repr

/-- A part of a full image whose check has passed, until it commits (R214, R217). -/
structure PartJob where
  bays : Nat
  edge : Nat
  floor : Word
  /-- The lock wait of R178 runs. -/
  locking : Bool
  /-- The staged-verify pass runs. -/
  verifying : Bool
  deriving DecidableEq, Repr

/-- The phases of RELEASE (R222): before it, bond cells released, INIT hold left, outputs enabled, DONE
released and waited for. -/
inductive RelPhase where
  | idle
  | waitDone
  | bond
  | init
  | outputs
  deriving DecidableEq, Repr

/-- The boot sequence's state (R200 to R228). -/
structure BootSt where
  /-- The straps at their last latch: BOOTSRC, PULLSEL, REFSEL, XWAIT in bits 0 to 6. -/
  straps : Nat := 0
  /-- The strap pull-ups are on (R203). -/
  pullups : Bool := true
  /-- A strap latch is due (R203). -/
  latchDue : Bool := true
  /-- Configuration-clock cycles since the boot start (R201). -/
  ticks : Nat := 0
  /-- The cycle in which the boot now under way started (R201). -/
  start : Nat := 0
  dir : Option BootDir := none
  prioBays : Nat := 0
  programLow : Bool := false
  /-- RESET_N is held low (R203). -/
  resetLow : Bool := false
  /-- The quads that must be calibrated before the source's first word (R210). -/
  srcQuads : Nat := 0
  /-- START TEST passed on this boot (R25, R463). -/
  tested : Bool := false
  /-- An image attempt is in progress. -/
  attempt : Bool := false
  /-- Its source still delivers. -/
  reading : Bool := false
  /-- The next attempt waits for PROGRAM_N to be high (R21). -/
  attemptDue : Bool := false
  /-- The attempt is reading the priority part. -/
  inPrio : Bool := false
  /-- Entries already tried on this boot, or the number of failed streams as entries (R210, R211). -/
  tried : List Nat := []
  /-- CLK registers the priority part wrote (R212), and its BOUND (R187). -/
  prioClk : List Nat := []
  prioBound : Nat := 0
  prioEdge : Nat := 0
  prioJob : Option PartJob := none
  mainJob : Option PartJob := none
  /-- The 10 ms of R215 have passed. -/
  prioLate : Bool := false
  /-- How far the release of the priority bays has come (R214); `waitDone`: they are deferred to the main
  commit (R215). -/
  prioPhase : RelPhase := .idle
  /-- The full image has committed. -/
  committed : Bool := false
  /-- The XWAIT time has elapsed or is not needed (R26). -/
  xwaitDone : Bool := true
  /-- Hamper training has reached its outcome, and the quads whose calibration has not (R217). -/
  hampDone : Bool := false
  calPend : Nat := 0
  rel : RelPhase := .idle
  /-- The device drives DONE low (R220), and system DONE has been taken (R357). -/
  doneLow : Bool := true
  sysDone : Bool := false
  /-- Band-wythes and bays released in RELEASE (R223). -/
  relBays : Nat := 0
  relEdge : Nat := 0
  /-- Journal records held in keeper SRAM, oldest first, each as its first 24 bytes (R225). -/
  held : List Nat := []
  /-- The journal half in use, and whether an erase of the other is wanted (R225). -/
  half : Nat := 0
  eraseDue : Bool := false
  /-- VIN is present, as far as the commands tell (R29). -/
  vin : Bool := true
  /-- Banks off for a code change, waiting for BANK_REPOWER (R207). -/
  repower : List Nat := []
  /-- The bank codes in effect, 4 bits per bank (R205, R207). -/
  bankv : Nat := 0
  /-- Bays whose LOADING sounding has not ended (R440). -/
  unsounded : Nat := 0
  deriving DecidableEq, Repr

/-- An entry of the error log (R273). -/
structure LogEntry where
  place : Word
  info : Word
  time : Word
  deriving DecidableEq, Repr

/-- The steps of a reload from flash (R271). -/
inductive ReloadStep where
  | waiting
  | reading
  | verifying
  | armed
  | committing
  deriving DecidableEq, Repr

/-- The reload in progress, with its stream's bays once STAGE was accepted. -/
structure Reload where
  bay : Nat
  step : ReloadStep
  bays : Nat := 0
  edge : Nat := 0
  deriving DecidableEq, Repr

/-- The pointing engine outside its registers (R263 to R273). -/
structure PntSt where
  log : List LogEntry := []
  /-- The position in the shadow frames of each wythe's pass, none while it reads live frames. -/
  shadowPos : Store Nat := []
  /-- A write-back in progress, by wythe: the store key of the frame, the bit, and the time of its detection. -/
  writeBack : Store (Nat × Nat × Word) := []
  reload : Option Reload := none
  /-- Bays that wait for a reload. -/
  wants : Nat := 0
  /-- The reload's manual boundary is to be fired (R271). -/
  fire : Bool := false
  deriving DecidableEq, Repr

/-- The sounding engine outside its registers (R436 to R446). -/
structure SndSt where
  /-- The creel and algorithm of the sounding in progress. -/
  creel : Nat := 0
  algo : Nat := 0
  /-- The second run after a row-pair repair (R443 step 4). -/
  again : Bool := false
  /-- The row-pairs that spare row-pairs replace, as creel and row-pair, and columns whose spare failed its sounding
  (R98, R439). -/
  rowPairs : List (Nat × Nat) := []
  spareFailed : List Nat := []
  /-- Repair fuse entries, oldest first: kind, creel or bay, row-pair (R445). -/
  fuses : List (Nat × Nat × Nat) := []
  /-- How many of them KEEPER BOOT applied (R438, R445). -/
  applied : Nat := 0
  burn : Option (Nat × Nat × Nat) := none
  /-- The RESULT the move back ends with (R443, R444). -/
  res : Nat := 0
  deriving DecidableEq, Repr

/-- A parallel word toward the fabric (R321 to R325). -/
structure RxOut where
  d : Nat := 0
  k : Nat := 0
  cerr : Nat := 0
  derr : Nat := 0
  hdr : Nat := 0
  sob : Bool := false
  valid : Bool := false
  deriving DecidableEq, Repr

/-- A lane outside its registers (R311 to R329). -/
structure LaneSt where
  /-- The transmitter is out of electrical idle and its wake burst has ended (R312). -/
  ready : Bool := false
  /-- TXIDLE_F as the last edge of TXCLK sampled it (R311, R325). -/
  idleF : Bool := false
  /-- Qualified windows left of a revert hold (R319). -/
  revHold : Nat := 0
  /-- Running disparities, true for positive (R321). -/
  txRd : Bool := false
  rxRd : Bool := false
  /-- The alignment changed: the next word carries RXCERR on every byte lane (R322). -/
  newAlign : Bool := false
  rxFifo : List RxOut := []
  rxOut : RxOut := {}
  /-- The raw word sent last, and its sync header. -/
  txRaw : Nat := 0
  txHdr : Nat := 0
  /-- Scrambler and descrambler, pattern generator and checker: the latest bits, bit 0 the last. -/
  scrTx : Nat := 0
  scrRx : Nat := 0
  prbsTx : Nat := 1
  prbsRx : Nat := 0
  /-- The gearbox's cycle on the transmit side (R323). -/
  txCyc : Nat := 0
  deriving DecidableEq, Repr

/-- The power manager outside its registers (R411 to R433). -/
structure PwrSt where
  /-- The level each wythe ramps to while its RAMP bit is 1 (R418). -/
  tgt0 : Nat := 7
  tgt1 : Nat := 7
  /-- The ramp carries out a level request (R417). -/
  byReq : Bool := false
  /-- The level request that is pending, as PWR_PLREQ was written (R417). -/
  asked : Option Word := none
  /-- A level request that passed at a latch point: its source and the two levels (R417). -/
  plan : Option (Nat × Nat × Nat) := none
  /-- A floor breach found at a latch point: its source and the two floors (R421). -/
  breach : Option (Nat × Nat × Nat) := none
  /-- The levels in effect at entry of DOZE or SLEEP (R424, R428). -/
  back0 : Nat := 7
  back1 : Nat := 7
  /-- A mode request accepted while a ramp runs: its MODE, 0 none (R422). -/
  waiting : Nat := 0
  /-- The MODE a drain or an entry in progress leads to, 0 none (R423). -/
  entering : Nat := 0
  /-- The drain has ended (R423). -/
  drained : Bool := false
  /-- The ramp back from DOZE runs (R424). -/
  undoze : Bool := false
  /-- A wake from SLEEP is in progress (R428). -/
  waking : Bool := false
  /-- The thermal warning and the gradient events wait to be armed again, by their bits (R433, R72). -/
  warned : Bool := false
  gradient : List Nat := []
  /-- The latest readings of the 96 bay sensors and the four hub sensors, none before the first (R433). -/
  temps : List (BitVec 8) := []
  /-- A PROGRAM_N edge or a reload request woke the device: its boot cause, 0 none (R22). -/
  reload : Nat := 0
  deriving DecidableEq, Repr

/-- A response beat of a hamper port with the port-clock edges it has waited, up to 3 (R386). -/
structure HampResp where
  age : Nat
  err : Nat
  tag : Nat
  data : BitVec 256
  last : Bool
  deriving DecidableEq, Repr

/-- A hamper port outside its registers (R386).  `rqHeld` and `wHeld` count the entries of `reqs` and
`beats` still in the port's queues, the last ones; the hub has taken the others. -/
structure HampPortSt where
  /-- Requests whose access is not done, oldest first. -/
  reqs : List HampRq := []
  rqHeld : Nat := 0
  /-- Write data not yet written to the stack, oldest first. -/
  beats : List HampBeat := []
  wHeld : Nat := 0
  /-- Entries the hub freed at the last edges, the latest first. -/
  rqFreed : List Nat := []
  wFreed : List Nat := []
  rq : List HampResp := []
  bq : List HampResp := []
  deriving DecidableEq, Repr

/-- Where a retrain stands (R393). -/
inductive HampPhase where
  | idle
  | draining
  | training
  deriving DecidableEq, Repr

/-- The hamper outside its registers (R383 to R395). -/
structure HampSt where
  /-- The defined bytes, by hamper address; every other byte reads as undefined content. -/
  cells : List Host.Cell := []
  /-- Names the event that left the other bytes undefined. -/
  token : Nat := 0
  /-- Boot training runs (R391). -/
  training : Bool := false
  phase : HampPhase := .idle
  /-- New requests are held for SLEEP (R395). -/
  quiesce : Bool := false
  /-- The refresh rate the last reading asks for (R389), and whether MAX holds a reading. -/
  rate : Nat := 0
  tempSeen : Bool := false
  ports : Store HampPortSt := []
  deriving DecidableEq, Repr

/-- An ADVERT held of a neighbour (R352). -/
structure Advert where
  src : Nat
  root : Nat
  dist : Nat
  up : Nat
  chain : Bool
  sysdone : Bool
  deriving DecidableEq, Repr

/-- A Wale port outside its registers (R340 to R343, R352).  Lane sets are masks of port lanes. -/
structure WpSt where
  /-- WP_CTL.WIDTH as the last training took it (R362), and a training that waits for a gate to open (R139). -/
  width : Nat := 3
  trainDue : Bool := false
  /-- By lane: consecutive valid TRN sets, up to 64. -/
  trn : Store Nat := []
  good : Nat := 0
  /-- Lanes dropped since training, and those held out. -/
  dropped : Nat := 0
  quar : Nat := 0
  /-- Drops of the last second: lane and configuration-clock tick. -/
  drops : List (Nat × Nat) := []
  /-- Lanes in the receive set at training, and the neighbour's WIDTH. -/
  fixed : Nat := 0
  peerWidth : Nat := 3
  /-- The receive set announced by an LMG and not yet echoed. -/
  pend : Option Nat := none
  txSeq : Nat := 0
  rxSeq : Nat := 0
  /-- Unacknowledged blocks, oldest first, and blocks that wait for room. -/
  buf : List WaleBlock := []
  queue : List WaleBlock := []
  nak : Bool := false
  /-- A block has been accepted since link-up (R340). -/
  got : Bool := false
  resends : Nat := 0
  /-- Exchanges still to discard after a change of lane set (R353). -/
  skip : Nat := 0
  adv : Option Advert := none
  /-- The child on this port has sent DONE_UP (R357). -/
  kidDone : Bool := false
  deriving DecidableEq, Repr

/-- Who waits for a request: a request slot, or a fabric gateway port with the request's tag. -/
inductive WaleOrigin where
  | slot (n : Nat)
  | gate (port tag : Nat)
  deriving DecidableEq, Repr

/-- An outstanding request (R348). -/
structure WaleReq where
  tag : Nat
  dest : Nat
  read : Bool
  origin : WaleOrigin
  deriving DecidableEq, Repr

/-- A time exchange in progress (R353). -/
structure WaleExch where
  port : Nat
  xn : Nat
  t1 : Int
  t4 : Option Int
  deriving DecidableEq, Repr

/-- A READY vote whose latch point has not passed (R356). -/
structure WaleVote where
  src : Nat
  at_ : Instant
  bays : Nat
  deriving DecidableEq, Repr

/-- The Wale controller outside its registers (chapter 12). -/
structure WaleSt where
  ports : Store WpSt := []
  /-- A port has been UP in this boot (R351). -/
  wasUp : Bool := false
  reqs : List WaleReq := []
  /-- Requests that wait for a free tag, oldest first (R348). -/
  waiting : List (WaleOrigin × WaleBlock) := []
  /-- Blocks held for a sleeping device, in issue order (R360). -/
  held : List (Nat × WaleBlock) := []
  /-- The device has slept and owes AWAKE (R360). -/
  slept : Bool := false
  /-- The message queue, head first. -/
  mq : List (Nat × List Word) := []
  exch : Option WaleExch := none
  xn : Nat := 0
  /-- The next exchange steps the timebase. -/
  stepNext : Bool := true
  /-- Consecutive exchanges within 250 ps, and beyond 1 ns. -/
  nearX : Nat := 0
  farX : Nat := 0
  voted : List WaleVote := []
  /-- The root's tally: instant, device, READY. -/
  tally : List (Instant × Nat × Bool) := []
  verdicts : List (Instant × Bool) := []
  /-- The instant of system DONE, and whether the root has declared it. -/
  sysAt : Option Instant := none
  sysSent : Bool := false
  /-- The gang sender: words sent, and an abort. -/
  gangTx : Option (Nat × Bool) := none
  /-- The sender of the gang stream being received, its words not yet taken, its end. -/
  gangRx : Option Nat := none
  gangWords : List Word := []
  gangEnded : Bool := false
  /-- WRITE and READ blocks to execute here, each with what the hamper's check reports. -/
  inbox : List (WaleBlock × Nat) := []
  /-- Parts of inbound READs of the fabric window that the fabric has answered, each with its number. -/
  gwAnswers : List (WaleBlock × Nat × List Word) := []
  /-- Ended requests of gateway ports: port, tag, status, data. -/
  gwDone : List (Nat × Nat × Nat × List Word) := []
  deriving DecidableEq, Repr

/-- A watchdog (R403): the count in configuration-clock cycles, and the stage that has passed. -/
structure WdSt where
  en : Bool := false
  load : Word := 1000000
  count : Nat := 0
  stage : Bool := false
  fired : Bool := false
  reset : Bool := false
  deriving DecidableEq, Repr

/-- Who waits for a window read: an agent, or a part of an inbound Wale READ (R347, R406). -/
inductive GwOrigin where
  | agent (ag : Agent)
  | wale (b : WaleBlock) (part : Nat)
  deriving DecidableEq, Repr

/-- An outstanding window read of a gateway port: `sent` once its request has left for the fabric. -/
structure GwRead where
  tag : Nat
  beats : Nat
  origin : GwOrigin
  sent : Bool
  deriving DecidableEq, Repr

/-- A gateway port outside its registers (R406, R407). -/
structure GwSt where
  /-- Window requests on their way to the fabric, each with the port-clock edges it has waited. -/
  queue : List (Nat × WindowReq) := []
  reads : List GwRead := []
  /-- Tags of master requests whose response is due, and responses not yet given: tag, status, words. -/
  tags : List Nat := []
  done : List (Nat × Nat × List Word) := []
  deriving DecidableEq, Repr

/-- An access that waits in the hub until it can be carried out: of a core on its bus, of a gateway port's master
side, of the fabric window, or a register write (R392, R393, R406, R423). -/
inductive WaitItem where
  | bus (core : Fin 4) (acc : BusAccess)
  | master (port : Fin 4) (req : MasterReq)
  | window (ag : Agent) (req : WindowReq)
  | write (ag : Agent) (off : Nat) (v : Word)
  deriving DecidableEq, Repr

structure State where
  /-- Every manager-space register as a read returns it, by manager offset (R6). -/
  regs : Store Word := []
  /-- The RWB values in effect, by manager offset (R8). -/
  live : Store Word := []
  /-- The snapshot of each upper word of a wide value (R7). -/
  snap : Store Word := []
  ports : Store HostPort := []
  clk : ClkState := {}
  cad : CadState := {}
  flash : FlashState := {}
  keys : KeyState := {}
  planes : PlaneState := {}
  fab : FabState := {}
  eng : EngSt := {}
  boot : BootSt := {}
  pnt : PntSt := {}
  snd : SndSt := {}
  pwr : PwrSt := {}
  hamp : HampSt := {}
  wale : WaleSt := {}
  /-- The bytes written to cluster SRAM, by offset (R398). -/
  sram : List Host.Cell := []
  /-- Names the event that left the other bytes of cluster SRAM undefined. -/
  sramTok : Nat := 0
  /-- Watchdogs WD0 to WD4 (R403). -/
  wds : Store WdSt := []
  /-- Gateway ports GP0 to GP3 (R405). -/
  gws : Store GwSt := []
  /-- Accesses that wait, oldest first. -/
  waits : List WaitItem := []
  lanes : Store LaneSt := []
  /-- Quad PLLs that relock, by `2 * quad + (1 for PLL-H)` (R308). -/
  qrelock : Store Bool := []
  sent : List Emission := []
  /-- The model's own counter of free values. -/
  freeCtr : Nat := 0
  /-- The commands waiting, first in, first out. -/
  pending : List Instr := []
  deriving DecidableEq, Repr

/-- The block right after POWER-UP or an assertion of RESET_N (R10). -/
def State.reset : State := {}

end Sys2Proof.Machine
end

