-- ==== Sys2Proof/Machine/Store.lean ====
section
/-! DEFINITION. The sparse tables the state is made of, in one canonical form, with byte-addressed
memories as their special case. -/
namespace Sys2Proof.Machine

/-- What key `k` reads as: its entry's value, and `d k` where no entry lists it. -/
def Store.get {α : Type} (d : Nat → α) : Store α → Nat → α
  | [], k => d k
  | (j, v) :: t, k => if k = j then v else Store.get d t k

/-- The table without an entry for `k`. -/
def Store.erase {α : Type} : Store α → Nat → Store α
  | [], _ => []
  | (j, v) :: t, k => if k = j then Store.erase t k else (j, v) :: Store.erase t k

/-- The table with the entry `(k, v)`. -/
def Store.insert {α : Type} : Store α → Nat → α → Store α
  | [], k, v => [(k, v)]
  | (j, w) :: t, k, v =>
    if k = j then (k, v) :: t else if k < j then (k, v) :: (j, w) :: t else (j, w) :: Store.insert t k v

/-- The table after a write: the value an unlisted key reads as removes the entry. -/
def Store.set {α : Type} [DecidableEq α] (d : Nat → α) (m : Store α) (k : Nat) (v : α) : Store α :=
  if v = d k then Store.erase m k else Store.insert m k v

/-- Keys from `lo` on, strictly rising, and no entry equal to what an unlisted key reads as. -/
def Store.wfFrom {α : Type} [DecidableEq α] (d : Nat → α) : Nat → Store α → Bool
  | _, [] => true
  | lo, (j, v) :: t => decide (lo ≤ j) && decide (v ≠ d j) && Store.wfFrom d (j + 1) t

/-- The canonical form: equal contents are equal tables. -/
def Store.wf {α : Type} [DecidableEq α] (d : Nat → α) (m : Store α) : Bool := Store.wfFrom d 0 m

/-- Keys from `lo` on, strictly rising. -/
def Store.risingFrom {α : Type} : Nat → Store α → Bool
  | _, [] => true
  | lo, (j, _) :: t => decide (lo ≤ j) && Store.risingFrom (j + 1) t

/-- The canonical form of a memory whose unlisted bytes are undefined: each defined byte is listed once. -/
def Store.rising {α : Type} (m : Store α) : Bool := Store.risingFrom 0 m

/-- Write the values of `vs` at `k`, `k + 1`, …. -/
def Store.setList {α : Type} [DecidableEq α] (d : Nat → α) (m : Store α) (k : Nat) : List α → Store α
  | [] => m
  | v :: vs => Store.setList d (Store.set d m k v) (k + 1) vs

/-- The `n` values from `k` on. -/
def Store.getList {α : Type} (d : Nat → α) (m : Store α) (k : Nat) : Nat → List α
  | 0 => []
  | n + 1 => Store.get d m k :: Store.getList d m (k + 1) n

/-- The table with every key of `[lo, hi)` back at what an unlisted key reads as. -/
def Store.clearRange {α : Type} (m : Store α) (lo hi : Nat) : Store α :=
  m.filter (fun e => decide (e.1 < lo) || decide (hi ≤ e.1))

/-- The table with `f` applied to every listed entry, kept canonical. -/
def Store.filterKeys {α : Type} (m : Store α) (keep : Nat → Bool) : Store α :=
  m.filter (fun e => keep e.1)

end Sys2Proof.Machine
end

