-- ==== Sys2Proof/Machine/Ops.lean ====
section
/-! DEFINITION. The named operations every meaning goes through: reading and writing a register or one
of its fields, the device mode, free values, what leaves the block, and the raising of events with
their delivery as MSI-X messages (R409, R410). -/
namespace Sys2Proof.Machine

/-! Registers. -/

/-- A register as a read returns it (R8: for RWB, the pending value). -/
def State.rd (s : State) (off : Nat) : Word := Store.get resetWord s.regs off

/-- The block with a register set. -/
def State.wr (s : State) (off : Nat) (v : Word) : State := { s with regs := Store.set resetWord s.regs off v }

/-- The value in effect of a register with RWB fields (R8, R160). -/
def State.liveRd (s : State) (off : Nat) : Word := Store.get resetWord s.live off

/-- The block with the value in effect of an RWB register set. -/
def State.liveWr (s : State) (off : Nat) (v : Word) : State :=
  { s with live := Store.set resetWord s.live off v }

/-- The field `[hi:lo]` of a register (R5). -/
def State.fld (s : State) (off hi lo : Nat) : Nat := getBits (s.rd off) hi lo

/-- Bit `i` of a register (R5). -/
def State.bit (s : State) (off i : Nat) : Bool := getBit (s.rd off) i

/-- The block with one field of a register set and its other bits kept. -/
def State.setFld (s : State) (off hi lo v : Nat) : State := s.wr off (putBits (s.rd off) hi lo v)

/-- The block with one bit of a register set and its other bits kept. -/
def State.setBit (s : State) (off i : Nat) (b : Bool) : State := s.wr off (putBit (s.rd off) i b)

/-- The block with the bits of `m` set in a register. -/
def State.orReg (s : State) (off : Nat) (m : Word) : State := s.wr off (s.rd off ||| m)

/-- The field `[hi:lo]` of the value in effect of an RWB register. -/
def State.liveFld (s : State) (off hi lo : Nat) : Nat := getBits (s.liveRd off) hi lo

/-- A counter register that stops at its largest value instead of wrapping. -/
def State.bumpSat (s : State) (off : Nat) : State :=
  if s.rd off = 0xFFFFFFFF#32 then s else s.wr off (s.rd off + 1)

/-- A plain write of a register under its access codes, with no other effect (R8, R9). -/
def State.plainWrite (s : State) (off : Nat) (v : Word) : State :=
  match regRow? off with
  | some r => s.wr off (applyWrite r.rw r.rwb r.w1c (s.rd off) v)
  | none => s

/-- Is the clock gate of hard block `i` applied (R138)? -/
def State.blockGated (s : State) (i : Nat) : Bool := s.bit (Reg.clkHgstat (i / 32)) (i % 32)

/-- A regulator fault has switched the rail off: what it feeds does not work (R27, R412, R413). -/
def State.railDead (s : State) (r : Nat) : Bool := s.bit (Reg.pwrRail r) 18 && !s.bit (Reg.pwrRail r) 16

/-! The device mode (R19, R30). -/

/-- The mode code of SYS_MODE.MODE. -/
def State.mode (s : State) : Nat := s.fld Reg.sysMode 3 0

/-- Is manager space reached at all: not in POWER-UP, not in STANDBY, not without VAON (R10, R412, R431)? -/
def State.mgrRuns (s : State) : Bool := s.mode ≠ 0x1 && s.mode ≠ 0xA && !s.railDead 0

/-- The mode changes: PREV_MODE takes the mode before the transition (R30). -/
def State.setMode (s : State) (m : Nat) : State :=
  let w := s.rd Reg.sysMode
  s.wr Reg.sysMode (putBits (putBits w 7 4 (getBits w 3 0)) 3 0 m)

/-- SYS_MODE.SAFE_CAUSE (R30). -/
def State.safeCause (s : State) : Nat := s.fld Reg.sysMode 23 16

/-- SAFE HOLD for a cause in which the hub's services stop: host ports act as though PCIE were 0, and the flash
controller serves nobody but the keeper (R27, R28, R365). -/
def State.hubClosed (s : State) : Bool := s.mode == 0xB && s.safeCause != 1 && s.safeCause != 5

/-- A SYS_FAULT summary bit sets (R31); bit 0 is SAFE_HOLD, the rest are W1C. -/
def State.sysFault (s : State) (i : Nat) : State := s.setBit Reg.sysFault i true

/-- Cycles of the configuration clock since the boot started (R201). -/
def State.bootTicks (s : State) : Nat := s.boot.ticks - s.boot.start

/-! Free values (assumption 1). -/

/-- A free word, different at each use. -/
def State.freshWord (s : State) : Word × State := (Config.freeWord s.freeCtr, { s with freeCtr := s.freeCtr + 1 })

/-- A free natural number, different at each use. -/
def State.freshNat (s : State) : Nat × State := (Config.freeNat s.freeCtr, { s with freeCtr := s.freeCtr + 1 })

/-! What leaves the block. -/

/-- The block after something left it. -/
def State.emit (s : State) (e : Emission) : State := { s with sent := s.sent ++ [e] }

/-! Host ports' hidden state. -/

/-- What a host port holds outside its registers. -/
def State.port (s : State) (p : Fin 2) : HostPort := Store.get (fun _ => {}) s.ports p.val

/-- The block with a host port's hidden state replaced. -/
def State.setPort (s : State) (p : Fin 2) (h : HostPort) : State :=
  { s with ports := Store.set (fun _ => {}) s.ports p.val h }

/-! The event controller (R409, R410).  ROUTE bit and threshold `t`: 0 to 3 cores, 4 and 5 host
ports A and B, 6 fabric. -/

/-- The controller runs in every mode except POWER-UP and STANDBY (R409). -/
def State.eventsRun (s : State) : Bool := s.mode ≠ 0x1 && s.mode ≠ 0xA

/-- Is source `n` presented to target `t` (R410)? -/
def State.presented (s : State) (n t : Nat) : Bool :=
  let w := s.rd (Reg.evtSrc n)
  getBit w 31 && getBit w 3 && getBit w (4 + t) && decide (s.fld (Reg.evtThr t) 2 0 ≤ getBits w 2 0)

/-- What an unlisted word of an MSI-X table reads as: the vector-control word of a vector has its
mask bit set after reset (PCIe Base Specification), every other word is 0. -/
def msixDefault (k : Nat) : Word := if k % 4 = 3 then 1#32 else 0#32

/-- Word `i` of an MSI-X table entry. -/
def HostPort.msixWord (h : HostPort) (vec i : Nat) : Word := Store.get msixDefault h.msixTable (4 * vec + i)

/-- Can the port send vector `vec` now (R410)? -/
def HostPort.canSend (h : HostPort) (vec : Nat) : Bool :=
  h.linkUp && h.cfg.msixEnable && !h.cfg.functionMask && !getBit (h.msixWord vec 3) 0

/-- A source has become presented to a port: its vector is sent, or waits in the pending-bit array
while the vector is masked or the link is not in DL_Active (R410). -/
def State.msixSend (s : State) (p : Fin 2) (vec : Nat) : State :=
  let h := s.port p
  if h.canSend vec then
    s.emit (.msix p vec (h.msixWord vec 0) (h.msixWord vec 1) (h.msixWord vec 2))
  else if h.cfg.msixEnable then s.setPort p { h with pba := putBit h.pba vec true }
  else s

/-- Every pending vector that can now be sent is sent once, and its pending bit clears (R410). -/
def State.msixFlush (s : State) (p : Fin 2) : State :=
  (List.range 32).foldl (fun s vec =>
    let h := s.port p
    if getBit h.pba vec && h.canSend vec then
      (s.setPort p { h with pba := putBit h.pba vec false }).msixSend p vec
    else s) s

/-- After a change, a source that has become presented to a host port sends its vector (R410). -/
def State.msixAfter (before : State) (n : Nat) (s : State) : State :=
  let one (p : Fin 2) (s : State) : State :=
    if !before.presented n (4 + p.val) && s.presented n (4 + p.val) then
      s.msixSend p (s.fld (Reg.evtSrc n) 15 11)
    else s
  one 1 (one 0 s)

/-- Source `n` raises its event: PEND sets and the source is presented; a raise while PEND is 1, or
while the controller does not run, has no further effect (R409). -/
def State.raise (s : State) (n : Nat) : State :=
  if s.eventsRun && decide (n < 448) then
    if s.bit (Reg.evtSrc n) 31 then s
    else State.msixAfter s n (s.setBit (Reg.evtSrc n) 31 true)
  else s

/-- `raise` under a condition. -/
def State.raiseIf (s : State) (c : Bool) (n : Nat) : State := if c then s.raise n else s

/-- Host-port event `+i`, when HPx_EVEN enables it (R382). -/
def State.portEvent (s : State) (p : Fin 2) (i : Nat) : State :=
  s.raiseIf (s.bit (Reg.hpEven p.val) i) (152 + 8 * p.val + i)

/-! Owner identities and semaphores (R373 to R378). -/

/-- The owner identity of an agent (R373). -/
def agentIdent : Agent → Nat
  | .keeper => 0x0001
  | .core c => 0x0010 + c.val
  | .hostPcie p => 0x0020 + p.val
  | .hostSpi p => 0x0022 + p.val
  | .gateway => 0x0030
  | .wale d => 0x0200 + d.val

/-- The owner of a semaphore, 0 when free (R374). -/
def State.semOwner (s : State) (n : Nat) : Nat := s.fld (Reg.sem n) 15 0

/-- Does the agent hold the semaphore? -/
def State.holds (s : State) (ag : Agent) (n : Nat) : Bool := decide (s.semOwner n = agentIdent ag)

/-- A release of the flash command semaphore leaves both modes and ends any pending sequence (R281). -/
def State.semFreed (s : State) (n : Nat) : State :=
  if n = 1 then
    { s with flash := { s.flash with seq := .idle } }.setFld Reg.flcStat 8 7 0
  else s

/-- A semaphore becomes free: with WAIT set, WAIT clears and EV376 is raised (R374). -/
def State.semFree (s : State) (n : Nat) : State :=
  let waited := s.bit (Reg.sem n) 16
  ((s.wr (Reg.sem n) 0).semFreed n).raiseIf waited 376

/-- The hardware releases every semaphore an identity holds (R376). -/
def State.semAutoRelease (s : State) (ident : Nat) : State :=
  (List.range 64).foldl (fun s n => if s.semOwner n = ident then s.semFree n else s) s

/-- Every semaphore is free, as after POWER-UP, RESET_N and any entry to LOADING (R376). -/
def State.semAllFree (s : State) : State :=
  ((List.range 64).foldl (fun s n => s.wr (Reg.sem n) 0) s).semFreed 1

/-- The target of a discarded write, coded as HPx_DISC and SEM_ERRADDR hold it: `region` 0 manager
space, 1 flash array (R381). -/
def discTarget (region off : Nat) : Word := BitVec.ofNat 32 (region * 2 ^ 30 + off % 2 ^ 30)

/-- A discarded write that came through a host port is reported there (R378). -/
def State.portDiscard (s : State) (ag : Agent) (region off : Nat) : State :=
  let viaPort (p : Fin 2) (s : State) : State :=
    ((s.wr (Reg.hpDisc p.val) (discTarget region off)).setBit (Reg.hpStat p.val) 9 true).portEvent p 2
  match ag with
  | .hostPcie p => viaPort p s
  | .hostSpi p => (viaPort p s).setPort p { (viaPort p s).port p with spiDiscard := true }
  | _ => s

/-- A write that fails its ownership test is discarded and reported (R378). -/
def State.discard (s : State) (ag : Agent) (region off : Nat) : State :=
  let s := s.wr Reg.semErr (BitVec.ofNat 32 (agentIdent ag + 2 ^ 16))
  let s := s.wr Reg.semErraddr (discTarget region off)
  (s.raise 377).portDiscard ag region off

/-- A write of an RWS register that semaphore `n` gates: applied for the holder, else discarded
(R375, R378). -/
def State.guarded (s : State) (ag : Agent) (n off : Nat) (t : State) : State :=
  if s.holds ag n then t else s.discard ag 0 off

/-- A write of a register by an agent, with its effect `t`: an RWS register asks for its semaphore
(R375). -/
def State.rws (s : State) (ag : Agent) (off : Nat) (t : State) : State :=
  match regRow? off with
  | some r => match r.sem with
    | some n => s.guarded ag n off t
    | none => t
  | none => t

end Sys2Proof.Machine
end

