-- ==== Sys2Proof/Machine/Clocks.lean ====
section
/-! DEFINITION. Clock sources, synthesizers, rims and lines, frequency monitors (chapter
04_clocks.md).  Hard-block gating stands in Gates.lean, XWAIT_EXPIRY in Loading.lean. -/
namespace Sys2Proof.Machine

/-! Values in effect of RWB registers. -/

/-- The RWB bits of a register. -/
def rwbMask (off : Nat) : Word :=
  match regRow? off with
  | some r => BitVec.ofNat 32 r.rwb
  | none => 0#32

/-- A pending value `cap` takes effect as `val` (R8).  A write that came after the latch point stays
pending (R158); otherwise the register then reads the value in effect. -/
def State.commitRwb (s : State) (off : Nat) (cap val : Word) : State :=
  let m := rwbMask off
  let t := s.liveWr off ((s.liveRd off &&& ~~~m) ||| (val &&& m))
  if (s.rd off ^^^ cap) &&& m = 0#32 then t.wr off ((s.rd off &&& ~~~m) ||| (val &&& m)) else t

/-- Does an RWB field of the register pend? -/
def State.pends (s : State) (off : Nat) : Bool :=
  decide ((s.rd off ^^^ s.liveRd off) &&& rwbMask off ≠ 0#32)

/-- The value the boundary's fixed list gives a register, else the value in effect (R158). -/
def capturedOr (vals : List (Nat × Word)) (s : State) (off : Nat) : Word :=
  match vals.lookup off with
  | some v => v
  | none => s.liveRd off

/-! The hub clocks (R120). -/

/-- The hub clocks run from the hub synthesizer: only then is a stream read, a commit or a direct
write applied, and a pointing pass run (R120). -/
def State.hubOnSynth (s : State) : Bool := s.bit Reg.clkHub 16

/-- A write of CLK_HUB: SRC cannot be set while HUB_LOCK is 0, and only the keeper clears it (R120). -/
def State.hubWrite (s : State) (ag : Agent) (v : Word) : State :=
  let src := if getBit v 16 then s.bit Reg.clkStatus 7 || s.bit Reg.clkHub 16
             else s.bit Reg.clkHub 16 && decide (ag ≠ .keeper)
  s.wr Reg.clkHub (putBit (applyWrite 0x03F3F 0 0 (s.rd Reg.clkHub) v) 16 src)

/-- The keeper moves the hub clocks to the synthesizer (R120, R430). -/
def State.hubClockSwitch (s : State) : State := s.setBit Reg.clkHub 16 true

/-- SYSCLK's divider in effect: values below 8 act as 8 (R120). -/
def State.sdiv (s : State) : Nat := max 8 (s.fld Reg.clkHub 13 8)

/-- The core clock's divider in effect: values below 4 act as 4 (R120). -/
def State.cdiv (s : State) : Nat := max 4 (s.fld Reg.clkHub 5 0)

/-- The meaning of CLK_HUB_WRITE (R120). -/
def execClkHubWrite (ag : Agent) (v : Word) (s : State) : Host.Outcome State Fault Refusal :=
  .next (s.hubWrite ag v)

/-- The meaning of HUB_SYNTH_LOCK: HUB_LOCK is set, and the keeper moves the hub clocks (R120, R430). -/
def execHubSynthLock (s : State) : Host.Outcome State Fault Refusal :=
  .next ((s.setBit Reg.clkStatus 7 true).hubClockSwitch)

/-! Fabric synthesizers. -/

/-- A synthesizer's settings (R121, R122). -/
structure SynthSet where
  refsrc : Nat
  srcsel : Nat
  rdiv : Nat
  nint : Nat
  num : Nat
  den : Nat
  tap01 : Word
  tap23 : Word
  deriving DecidableEq, Repr

/-- The settings six register values hold. -/
def synthOf (cfg nint num den t01 t23 : Word) : SynthSet :=
  { refsrc := getBits cfg 2 0, srcsel := getBits cfg 7 3, rdiv := getBits cfg 17 8,
    nint := getBits nint 8 0, num := getBits num 23 0, den := getBits den 23 0, tap01 := t01, tap23 := t23 }

/-- The settings in effect of synthesizer `n`. -/
def State.synthLive (s : State) (n : Nat) : SynthSet :=
  synthOf (s.liveRd (Reg.fsCfg n)) (s.liveRd (Reg.fsNint n)) (s.liveRd (Reg.fsNum n))
    (s.liveRd (Reg.fsDen n)) (s.liveRd (Reg.fsTap01 n)) (s.liveRd (Reg.fsTap23 n))

/-- A tap divider as a boundary applies it: 2 to 320 (R128). -/
def clampOdiv (v : Nat) : Nat := if v < 2 then 2 else if v > 320 then 320 else v

/-- A tap register as a boundary applies it (R128). -/
def clampTap (w : Word) : Word :=
  putBits (putBits w 8 0 (clampOdiv (getBits w 8 0))) 24 16 (clampOdiv (getBits w 24 16))

/-- The six registers of a synthesizer, as the boundary applies each (R128). -/
def synthClamps (cfg nint num den t01 t23 : Word) : List Word :=
  [ if getBits cfg 17 8 = 0 then putBits cfg 17 8 1 else cfg,
    if getBits nint 8 0 < 32 then putBits nint 8 0 32 else nint,
    if getBits den 23 0 = 0 ∨ getBits den 23 0 ≤ getBits num 23 0 then putBits num 23 0 0 else num,
    den, clampTap t01, clampTap t23 ]

/-- The feedback ratio `nint + num / den` of R121 as a numerator over a denominator. -/
def SynthSet.ratioNum (c : SynthSet) : Nat := c.nint * max 1 c.den + c.num

/-- Does the VCO move by no more than 2,000 ppm (R126)? -/
def glideRange (old new : SynthSet) : Bool :=
  let a := old.ratioNum * max 1 new.den
  let b := new.ratioNum * max 1 old.den
  decide (((a : Int) - b).natAbs * 1000000 ≤ 2000 * a)

/-- A class of a change (R126). -/
inductive SynthClass where
  | none
  | glide
  | divider
  | relock
  deriving DecidableEq, Repr

/-- The class of a change (R126), `relocking` when a relock is in progress. -/
def synthClass (relocking : Bool) (old new : SynthSet) : SynthClass :=
  if relocking then .relock
  else if old = new then .none
  else if { new with num := old.num, den := old.den } = old then
    (if glideRange old new then .glide else .relock)
  else if { new with tap01 := old.tap01, tap23 := old.tap23 } = old then .divider
  else .relock

/-- The changes in progress at synthesizer `n`. -/
def State.synthPhase (s : State) (n : Nat) : SynthPhase := Store.get (fun _ => {}) s.clk.phase n

/-- The block with the phase of synthesizer `n` set. -/
def State.setSynthPhase (s : State) (n : Nat) (p : SynthPhase) : State :=
  { s with clk := { s.clk with phase := Store.set (fun _ => {}) s.clk.phase n p } }

/-- CLK_ERR.ILLEGAL_SEL (R142). -/
def State.illegalSel (s : State) : State := s.setBit Reg.clkErr 0 true

/-! Lock and cadence lock (R123, R124). -/

/-- FSn_STAT.PHERR, in ps. -/
def State.phaseErr (s : State) (n : Nat) : Int := signExtend 16 (s.fld (Reg.fsStat n) 31 16)

/-- Is synthesizer `n` in cadence lock (R122)? -/
def State.inCadence (s : State) (n : Nat) : Bool := decide ((s.synthLive n).refsrc = 4)

/-- In cadence lock LOCK needs a phase error within ±100 ps (R124): that of T0, which PHERR reports (DESIGN
CHOICE, assumption 55). -/
def State.phaseOk (s : State) (n : Nat) : Bool := !s.inCadence n || decide ((s.phaseErr n).natAbs ≤ 100)

/-- Is the loop frequency-locked: it has a reference, and neither relocks, reacquires nor holds over? -/
def State.freqLocked (s : State) (n : Nat) : Bool :=
  decide ((s.synthLive n).refsrc ≠ 0) && !(s.synthPhase n).relock && !(s.synthPhase n).reacquire && !s.bit (Reg.fsStat n) 2

/-- FSn_STAT.LOCK follows the loop (R124). -/
def State.lockRefresh (s : State) (n : Nat) : State := s.setBit (Reg.fsStat n) 0 (s.freqLocked n && s.phaseOk n)

/-- The feedback ratio that synthesizer `n` runs at, as a numerator over a denominator: in cadence lock with the
Cadence Unit's rate correction applied (R121, R123, R143). -/
def State.feedback (s : State) (n : Nat) : Int × Nat :=
  let c := s.synthLive n
  let slew : Int := if s.cad.slew = 0 then 0 else if 0 < s.cad.slew then 50 * 2 ^ 40 else -(50 * 2 ^ 40)
  if c.refsrc = 4 then
    (c.ratioNum * (2 ^ 40 * 1000000 + wordInt (s.rd Reg.cadRate) * 1000000 + slew), max 1 c.den * (2 ^ 40 * 1000000))
  else (c.ratioNum, max 1 c.den)

/-- PHERR of a phase error of `v`: 16 bits, at ±32,767 at the most (R128). -/
def pherrBits (v : Word) : Nat := if getBits v 15 0 = 0x8000 then 0x8001 else getBits v 15 0

/-- An event of cadence generator `g`: each synthesizer locked to it measures its taps' phase; the value is
free (R123).  With T0 off PHERR reads 0 (DESIGN CHOICE, assumption 55). -/
def State.synthMeasure (s : State) (g n : Nat) : State :=
  let c := s.synthLive n
  if c.refsrc = 4 ∧ c.srcsel = g then
    let w := s.freshWord
    (w.2.setFld (Reg.fsStat n) 31 16 (if getBit c.tap01 15 then pherrBits w.1 else 0)).lockRefresh n
  else s

/-- The changes in progress after a change of a class (R126): a relock ends every other. -/
def SynthPhase.begin (p : SynthPhase) : SynthClass → SynthPhase
  | .none => p
  | .glide => { p with glide := true }
  | .divider => { p with divider := true }
  | .relock => { relock := true }

/-- A change of a class begins (R126, R127): a relock ends GLIDE and HOLD; a glide sets GLIDE, but a loop whose
control is frozen in holdover takes the new setting when it reacquires. -/
def State.synthBegin (s : State) (n : Nat) (c : SynthClass) : State :=
  match c with
  | .none => s
  | .glide =>
    if s.bit (Reg.fsStat n) 2 then s
    else (s.setSynthPhase n ((s.synthPhase n).begin .glide)).setBit (Reg.fsStat n) 1 true
  | .divider => s.setSynthPhase n ((s.synthPhase n).begin .divider)
  | .relock =>
    ((s.setSynthPhase n ((s.synthPhase n).begin .relock)).setFld (Reg.fsStat n) 2 1 0).lockRefresh n

/-- The six registers with RWB fields of synthesizer `n` (R128). -/
def synthRegs (n : Nat) : List Nat :=
  [Reg.fsCfg n, Reg.fsNint n, Reg.fsNum n, Reg.fsDen n, Reg.fsTap01 n, Reg.fsTap23 n]

/-- FSn_STAT.PEND is 1 while at least one RWB field of the synthesizer pends (R128). -/
def State.synthPend (s : State) (n : Nat) : State := s.setBit (Reg.fsStat n) 3 ((synthRegs n).any s.pends)

/-- A boundary applies synthesizer `n`'s pending fields, all together (R125, R126, R128). -/
def State.synthApply (s : State) (n : Nat) (vals : List (Nat × Word)) : State :=
  let offs := synthRegs n
  if offs.all (fun o => (vals.lookup o).isNone) then s
  else
    let caps := offs.map (capturedOr vals s)
    let old := s.synthLive n
    let cfg := capturedOr vals s (Reg.fsCfg n)
    let bad := decide (4 < getBits cfg 2 0)
    let news :=
      if bad then offs.map s.liveRd
      else synthClamps cfg (capturedOr vals s (Reg.fsNint n)) (capturedOr vals s (Reg.fsNum n))
        (capturedOr vals s (Reg.fsDen n)) (capturedOr vals s (Reg.fsTap01 n)) (capturedOr vals s (Reg.fsTap23 n))
    let t := (offs.zip (caps.zip news)).foldl (fun t e => t.commitRwb e.1 e.2.1 e.2.2) s
    let t := if bad then t.illegalSel else t
    let t := if bad then t else t.synthBegin n (synthClass (s.synthPhase n).relock old (t.synthLive n))
    let t := if t.inCadence n then t else t.setFld (Reg.fsStat n) 31 16 0
    t.synthPend n

/-- Are the taps of synthesizer `n` running?  Low with no reference, and from a relock to lock
(R122, R124). -/
def State.tapsRun (s : State) (n : Nat) : Bool :=
  decide ((s.synthLive n).refsrc ≠ 0) && !(s.synthPhase n).relock

/-- Is tap `t` of synthesizer `n` enabled and running (R122, R124, R128)? -/
def State.tapOn (s : State) (n t : Nat) : Bool :=
  s.tapsRun n && getBit (s.liveRd (if t < 2 then Reg.fsTap01 n else Reg.fsTap23 n)) (16 * (t % 2) + 15)

/-- Has synthesizer `n` an enabled tap? -/
def State.anyTap (s : State) (n : Nat) : Bool :=
  let c := s.synthLive n
  getBit c.tap01 15 || getBit c.tap01 31 || getBit c.tap23 15 || getBit c.tap23 31

/-- Loss of lock at synthesizer `n`: LOL, EV252, and holdover, which ends a glide in progress (R127). -/
def State.synthLose (s : State) (n : Nat) : State :=
  let t := s.setSynthPhase n { s.synthPhase n with glide := false, reacquire := false }
  let w := s.rd (Reg.fsStat n)
  (t.wr (Reg.fsStat n) (putBit (putBits w 2 0 4) 4 true)).raise 252

/-- The meaning of SYNTH_GLIDE_DONE (R126): GLIDE clears, and a loop that reacquired by gliding is
locked. -/
def execSynthGlideDone (n : Fin 32) (s : State) : Host.Outcome State Fault Refusal :=
  .next (if (s.synthPhase n.val).glide then
    ((s.setSynthPhase n.val { s.synthPhase n.val with glide := false, reacquire := false }).setBit (Reg.fsStat n.val) 1
      false).lockRefresh n.val
  else s)

/-- The meaning of SYNTH_DIVIDER_DONE (R126). -/
def execSynthDividerDone (n : Fin 32) (s : State) : Host.Outcome State Fault Refusal :=
  .next (if (s.synthPhase n.val).divider then s.setSynthPhase n.val { s.synthPhase n.val with divider := false } else s)

/-- The meaning of SYNTH_LOCK (R124): a relock ends, LOCK rises and the taps restart.  A loop with no reference,
in holdover, or in cadence lock with its phase beyond ±100 ps reaches no lock. -/
def execSynthLock (n : Fin 32) (s : State) : Host.Outcome State Fault Refusal :=
  .next (if (s.synthPhase n.val).relock ∧ (s.synthLive n.val).refsrc ≠ 0 ∧ !s.bit (Reg.fsStat n.val) 2 ∧ s.phaseOk n.val then
    (s.setSynthPhase n.val {}).setBit (Reg.fsStat n.val) 0 true
  else s)

/-- The meaning of SYNTH_LOSS_OF_LOCK (R127). -/
def execSynthLossOfLock (n : Fin 32) (s : State) : Host.Outcome State Fault Refusal :=
  .next (s.synthLose n.val)

/-- The meaning of SYNTH_HOLDOVER_EXIT (R127): HOLD clears and the loop reacquires by gliding; a relock that
was in progress goes on. -/
def execSynthHoldoverExit (n : Fin 32) (s : State) : Host.Outcome State Fault Refusal :=
  .next (if s.bit (Reg.fsStat n.val) 2 then
    let t := s.setBit (Reg.fsStat n.val) 2 false
    if (s.synthPhase n.val).relock then t
    else (t.setSynthPhase n.val { s.synthPhase n.val with glide := true, reacquire := true }).setBit (Reg.fsStat n.val) 1 true
  else s)

/-! References (R115 to R119). -/

/-- Does synthesizer `n` use REFIN: by REFSRC 2, or as the primary reference (R122)? -/
def State.usesRefin (s : State) (n : Nat) : Bool :=
  let r := (s.synthLive n).refsrc
  decide (r = 2) || (decide (r = 4) && s.bit Reg.clkStatus 3)

/-- The TCLK loop enters holdover (R148). -/
def State.tclkHoldover (s : State) : State := (s.setBit Reg.cadStat 3 true).raise 270

/-- The meaning of REFIN_LOST (R118, R148). -/
def execRefinLost (s : State) : Host.Outcome State Fault Refusal :=
  let t := s.wr Reg.clkStatus (putBit (putBit (s.rd Reg.clkStatus) 4 false) 6 true)
  let t := t.raise 255
  let t := (List.range 32).foldl (fun t n => if t.usesRefin n then t.synthLose n else t) t
  .next (if s.bit Reg.clkStatus 3 then t.tclkHoldover else t)

/-- The meaning of REFIN_RESTORED (R118): REFIN_OK returns; a TCLK loop that used it leaves holdover
(R148, R127). -/
def execRefinRestored (s : State) : Host.Outcome State Fault Refusal :=
  let t := s.setBit Reg.clkStatus 4 true
  .next (if s.bit Reg.clkStatus 3 then t.setBit Reg.cadStat 3 false else t)

/-- The meaning of XREF_LOST (R119).  R119's list of the consumers that take the substitute reference names no
synthesizer with REFSRC = 4; one whose primary reference is XREF is taken to follow the substitute through the
TCLK loop and stays locked (DESIGN CHOICE, assumption 55). -/
def execXrefLost (s : State) : Host.Outcome State Fault Refusal :=
  let t := s.wr Reg.clkStatus (putBit (putBit (s.rd Reg.clkStatus) 9 false) 10 true)
  let t := ({ t with clk := { t.clk with hubHold := true } }).raise 255
  .next (if s.bit Reg.clkStatus 3 then t else t.tclkHoldover)

/-- The meaning of XREF_RESTORED (R119). -/
def execXrefRestored (s : State) : Host.Outcome State Fault Refusal :=
  let t := s.setBit Reg.clkStatus 9 true
  let t := { t with clk := { t.clk with hubHold := false } }
  .next (if s.bit Reg.clkStatus 3 then t else t.setBit Reg.cadStat 3 false)

/-! Rim nets, inter-band lines, stake nets (R129 to R134). -/

/-- The key of a net in the table of glitch-free switches. -/
def netKey : ClockNet → Nat
  | .rim k j => 32 * k.val + j.val
  | .line w i => 512 + 8 * w.val + i.val
  | .stake bay n => 528 + 24 * bay.val + n.val

/-- One more than the source a net is still leaving, 0 when no switch is in progress (R132). -/
def State.switching (s : State) (k : Nat) : Nat := Store.get (fun _ => 0) s.clk.switching k

/-- The block with a net's switch set. -/
def State.setSwitching (s : State) (k v : Nat) : State :=
  { s with clk := { s.clk with switching := Store.set (fun _ => 0) s.clk.switching k v } }

/-- A net's source changes from `old` to `new`: a glitch-free switch begins (R132).  A second change while the
switch runs: the net leaves the first old source and the one switch ends on the newest source (DESIGN CHOICE,
assumption 55). -/
def State.netChange (s : State) (k old new : Nat) : State :=
  if old = new ∨ s.switching k ≠ 0 then s else s.setSwitching k (old + 1)

/-- Is every select of a CLK_RIM value legal (R129)? -/
def rimLegal (v : Word) : Bool := [0, 8, 16, 24].all (fun l => decide (getBits v (l + 5) l ≤ 36))

/-- Is every select of a CLK_VSEL value legal (R130)? -/
def vselLegal (v : Word) : Bool := [0, 8, 16, 24].all (fun l => decide (getBits v (l + 6) l ≤ 64))

/-- A write of a rim or line select pends, or is ignored whole when it holds an illegal code (R131). -/
def State.selectWrite (s : State) (off : Nat) (legal : Bool) (v : Word) : State :=
  if legal then s.plainWrite off v else s.illegalSel

/-- A boundary applies a CLK_RIM register: each changed net switches (R131, R132). -/
def State.rimApply (s : State) (k j : Nat) (vals : List (Nat × Word)) : State :=
  match vals.lookup (Reg.clkRim k j) with
  | none => s
  | some v =>
    let old := s.liveRd (Reg.clkRim k j)
    [0, 1, 2, 3].foldl (fun t i => t.netChange (32 * k + 4 * j + i) (getBits old (8 * i + 5) (8 * i)) (getBits v (8 * i + 5) (8 * i)))
      (s.commitRwb (Reg.clkRim k j) v v)

/-- A boundary applies a CLK_VSEL register: each changed line switches (R131, R132). -/
def State.vselApply (s : State) (w j : Nat) (vals : List (Nat × Word)) : State :=
  match vals.lookup (Reg.clkVsel w j) with
  | none => s
  | some v =>
    let old := s.liveRd (Reg.clkVsel w j)
    [0, 1, 2, 3].foldl (fun t i => t.netChange (512 + 8 * w + 4 * j + i) (getBits old (8 * i + 6) (8 * i)) (getBits v (8 * i + 6) (8 * i)))
      (s.commitRwb (Reg.clkVsel w j) v v)

/-- The meaning of RIM_SELECT_WRITE (R131). -/
def execRimSelectWrite (_ag : Agent) (reg : RimReg) (v : Word) (s : State) : Host.Outcome State Fault Refusal :=
  match reg with
  | .rim k j => .next (s.selectWrite (Reg.clkRim k.val j.val) (rimLegal v) v)
  | .vsel w j => .next (s.selectWrite (Reg.clkVsel w.val j.val) (vselLegal v) v)

/-- The meaning of GLITCH_FREE_SWITCH_DONE (R132): the net passes its new source. -/
def execGlitchFreeSwitchDone (net : ClockNet) (s : State) : Host.Outcome State Fault Refusal :=
  .next (s.setSwitching (netKey net) 0)

/-- The meaning of GLITCH_FREE_SWITCH_FORCED (R132). -/
def execGlitchFreeSwitchForced (net : ClockNet) (s : State) : Host.Outcome State Fault Refusal :=
  .next (if s.switching (netKey net) = 0 then s
    else (s.setSwitching (netKey net) 0).setBit Reg.clkErr 2 true)

/-! Frequency monitors (R140, R141). -/

/-- Is a frequency-monitor source code legal (R140)? -/
def fmLegal (c : Nat) : Bool :=
  decide (c ≤ 7) || (decide (0x40 ≤ c) && decide (c < 0xC0)) || (decide (0x100 ≤ c) && decide (c < 0x300)) ||
    (decide (0x300 ≤ c) && decide (c < 0x340))

/-- FMm_RUN set, and the count at the end of the last window with it. -/
def State.setFmRun (s : State) (m v : Nat) : State :=
  let t := { s with clk := { s.clk with fmBase := Store.set (fun _ => 0) s.clk.fmBase m (v % 2 ^ 64) } }
  (t.wr (Reg.fmRunLo m) (BitVec.ofNat 32 v)).wr (Reg.fmRunHi m) (BitVec.ofNat 32 (v / 2 ^ 32))

/-- A read of FMm_RUN within a window: how many of the window's edges have passed is free (R140). -/
def State.fmTick (s : State) (m : Nat) : State :=
  if s.fld (Reg.fmCfg m) 9 0 = 0 then s
  else
    let w := s.freshWord
    let v := Store.get (fun _ => 0) s.clk.fmBase m + w.1.toNat
    (w.2.wr (Reg.fmRunLo m) (BitVec.ofNat 32 v)).wr (Reg.fmRunHi m) (BitVec.ofNat 32 (v / 2 ^ 32))

/-- A write of FMm_CFG: an illegal source makes the write ignored; VALID counts from the write, and a change
of source restarts the window and clears RUN (R140, R141). -/
def State.fmWrite (s : State) (m : Nat) (v : Word) : State :=
  if fmLegal (getBits v 9 0) then
    let t := s.plainWrite (Reg.fmCfg m) v
    let t := t.setBit (Reg.fmCfg m) 17 false
    if getBits v 9 0 = s.fld (Reg.fmCfg m) 9 0 then t else t.setFmRun m 0
  else s.illegalSel

/-- The meaning of FM_SOURCE_WRITE. -/
def execFmSourceWrite (_ag : Agent) (m : Fin 16) (v : Word) (s : State) : Host.Outcome State Fault Refusal :=
  .next (s.fmWrite m.val v)

/-- The meaning of FM_WINDOW_END with the window's edge count (R140): COUNT updates, OOR is tested,
and the running count stands at the window's edges. -/
def execFmWindowEnd (m : Fin 16) (count : Word) (s : State) : Host.Outcome State Fault Refusal :=
  if s.fld (Reg.fmCfg m.val) 9 0 = 0 then .next s
  else
    let out := decide (count < s.rd (Reg.fmMin m.val)) || decide (s.rd (Reg.fmMax m.val) < count)
    let was := s.bit (Reg.fmCfg m.val) 18
    let run := Store.get (fun _ => 0) s.clk.fmBase m.val + count.toNat
    let t := s.wr (Reg.fmCount m.val) count
    let t := t.wr (Reg.fmCfg m.val) (putBit (putBit (s.rd (Reg.fmCfg m.val)) 17 true) 18 (was || out))
    let t := t.setFmRun m.val run
    .next (t.raiseIf (out && !was && s.bit (Reg.fmCfg m.val) 16) 253)

/-! Writes of the CLK block's registers. -/

/-- The synthesizer whose RWB register stands at `off`. -/
def synthOfOff (off : Nat) : Nat := (off - 0x50100) / 0x40

/-- A write of a CLK register other than CLK_HGREQ0 and CLK_HGREQ1 (R128, R131, R141, R142). -/
def State.clkWrite (s : State) (ag : Agent) (off : Nat) (v : Word) : State :=
  if off = Reg.clkHub then s.hubWrite ag v
  else if 0x50100 ≤ off ∧ off < 0x50900 then
    (s.plainWrite off v).synthPend (synthOfOff off)
  else if 0x51000 ≤ off ∧ off < 0x51200 then s.selectWrite off (rimLegal v) v
  else if 0x51200 ≤ off ∧ off < 0x51220 then s.selectWrite off (vselLegal v) v
  else if 0x52000 ≤ off ∧ off < 0x52200 ∧ (off - 0x52000) % 0x20 = 0 then s.fmWrite ((off - 0x52000) / 0x20) v
  else s.plainWrite off v

end Sys2Proof.Machine
end

