-- ==== Sys2Proof/Machine/Layout.lean ====
section
/-! DEFINITION. Frame addresses, the column map (R179, R180), this model's listing of the
configuration fields of a tile, creel, slice and clock column (R40, R41, R51, R52, R64, R70, R82,
R103, R133, R325, R385, R405, R480), and the values the legality check refuses (R60 to R63, R83). -/
namespace Sys2Proof.Machine

/-! Frame addresses. -/

/-- The kinds of column (R180). -/
inductive ColKind where
  | edge
  | logic
  | creel
  | slice
  | clock
  deriving DecidableEq, Repr

/-- The kind of column `c` of a band-wythe (R180). -/
def colKind (c : Nat) : ColKind :=
  if c < 2 then .edge
  else
    let p := (c - 2) % 121
    if p = 14 ∨ p = 44 ∨ p = 75 ∨ p = 105 then .creel
    else if p = 15 ∨ p = 45 ∨ p = 76 ∨ p = 106 then .slice
    else if p = 60 then .clock else .logic

/-- Structure frames of a column (R180). -/
def structFrames : ColKind → Nat
  | .edge => 24 | .logic => 12 | .creel => 4 | .slice => 8 | .clock => 8

/-- Frames of a kind (0 structure, 1 content) in column `c` (R180). -/
def framesOf (kind c : Nat) : Nat :=
  if 727 < c then 0
  else if kind = 0 then structFrames (colKind c)
  else if kind = 1 ∧ colKind c = .creel then 108 else 0

/-- The fields of a frame address (R11, R179). -/
def plKind (p : Word) : Nat := getBits p 30 29
def plBand (p : Word) : Nat := getBits p 28 25
def plCol (p : Word) : Nat := getBits p 24 15
def plMinor (p : Word) : Nat := getBits p 14 8

/-- Is a frame address PLACE_INVALID, whatever its plane bit (R179)? -/
def placeBad (p : Word) : Bool :=
  decide (2 ≤ plKind p) || decide (727 < plCol p) || decide (framesOf (plKind p) (plCol p) ≤ plMinor p) ||
    decide (getBits p 7 0 ≠ 0)

/-- The frame address of parts, with the plane bit kept. -/
def mkPlace (plane : Bool) (kind bandWythe col minor : Nat) : Word :=
  BitVec.ofNat 32 (plane.toNat * 2 ^ 31 + kind * 2 ^ 29 + bandWythe * 2 ^ 25 + col * 2 ^ 15 + minor * 2 ^ 8)

/-- The first column after `c` that holds frames of the kind. -/
def nextCol (kind c : Nat) : Option Nat := (List.range 728).find? (fun d => decide (c < d) && decide (0 < framesOf kind d))

/-- The first column that holds frames of the kind. -/
def firstCol (kind : Nat) : Nat := if kind = 0 then 0 else 16

/-- The next frame in frame order, none past the last of its kind (R181). -/
def nextPlace (p : Word) : Option Word :=
  let k := plKind p
  let pl := getBit p 31
  if plMinor p + 1 < framesOf k (plCol p) then some (mkPlace pl k (plBand p) (plCol p) (plMinor p + 1))
  else match nextCol k (plCol p) with
    | some c => some (mkPlace pl k (plBand p) c 0)
    | none => if plBand p < 15 then some (mkPlace pl k (plBand p + 1) (firstCol k) 0) else none

/-- The key of a structure frame in a latch: the address without plane and kind (R179). -/
def frameKey (p : Word) : Nat := getBits p 28 8

/-- The key of structure frame `minor` of column `c` of band-wythe `k`. -/
def frameKeyOf (k c minor : Nat) : Nat := k * 2 ^ 17 + c * 2 ^ 7 + minor

/-- The unit whose plane pointer governs a frame: 0 to 95 the bays, 96 + k the edge columns of
band-wythe k (R11, R230). -/
def unitOf (k c : Nat) : Nat := if c < 2 then 96 + k else 48 * (k / 8) + 6 * (k % 8) + (c - 2) / 121

/-- The unit of a frame address. -/
def plUnit (p : Word) : Nat := unitOf (plBand p) (plCol p)

/-- The unit of a frame key. -/
def keyUnit (key : Nat) : Nat := unitOf (key / 2 ^ 17) (key / 2 ^ 7 % 2 ^ 10)

/-- The band-wythe of a bay, and its bay column (R11). -/
def bayBand (bay : Nat) : Nat := 8 * (bay / 48) + bay % 48 / 6
def bayCol (bay : Nat) : Nat := bay % 6

/-- The column of position `p` of a bay (R180). -/
def bayPos (bay p : Nat) : Nat := 2 + 121 * bayCol bay + p

/-- The position of logic column `l` (R180). -/
def logicPos (l : Nat) : Nat :=
  if l < 14 then l else if l < 42 then l + 2 else if l < 56 then l + 4
  else if l < 70 then l + 5 else if l < 98 then l + 7 else l + 9

/-- The logic column at position `p` of a bay. -/
def logicAt (p : Nat) : Nat := ((List.range 112).find? (fun l => logicPos l == p)).getD 0

/-- The positions of creel column and slice column `c` (R180). -/
def creelPos (c : Nat) : Nat := [14, 44, 75, 105].getD c 0
def slicePos (c : Nat) : Nat := [15, 45, 76, 106].getD c 0

/-- The position of the clock column (R180). -/
def clockPos : Nat := 60

/-! The listing of fields. -/

/-- The number in `w` bits from bit `o` on of a block's listing. -/
def fieldAt (get : Nat → Bool) (o w : Nat) : Nat :=
  (List.range w).foldl (fun a i => if get (o + i) then a + 2 ^ i else a) 0

/-- Tile listing: truth-table entry `e` of cell `c` (0 to 15) (R64). -/
def oLut (c e : Nat) : Nat := 64 * c + e
/-- Tile listing: the eight cell bits A6TIE, DA, DB, INITA, INITB, GSEL (R40). -/
def oCell (c : Nat) : Nat := 1024 + 8 * c
/-- Tile listing: the 24 brick bits MODE, CARRY, CS0, CS1 (R64). -/
def oBrick (b : Nat) : Nat := 1152 + 24 * b
/-- Tile listing: control set `k` of brick `b`: CLK, CLKINV, CE_USE, SR_USE, SR_SYNC, SRVAL (R41). -/
def oCs (b k : Nat) : Nat := oBrick b + 4 + 10 * k
/-- Tile listing: select `i`: 96 LUT inputs, 32 bypass, 8 CE and SR, then 16 S1, 16 S2, 16 S4, 8 S12. -/
def oSel (i : Nat) : Nat := 1200 + 4 * i

/-- A field of a listing that holds an illegal value: its first bit and width. -/
abbrev BadField := Nat × Nat

/-- The field, when `bad`. -/
def badIf (bad : Bool) (o w : Nat) : List BadField := if bad then [(o, w)] else []

/-- The largest legal code of select `i` of a tile (R60). -/
def selMax (i : Nat) : Nat :=
  if i < 96 then 14 else if i < 128 then 12 else if i < 136 then 10
  else if i < 168 then 12 else if i < 184 then 10 else 8

/-! Wires (R56 to R58).  A wythe has 672 logic columns, numbered from the outer edge, and 480 tile rows, from
the bottom of B0.  N is the direction of rising rows and E of rising columns (DESIGN CHOICE, assumption 54). -/

/-- How far along its direction a wire of a class is read: its nearer and its farther point (R57). -/
def wireReach (cls : Nat) (far : Bool) : Nat :=
  match cls with
  | 0 => 1
  | 1 => if far then 2 else 1
  | 2 => if far then 4 else 2
  | _ => if far then 12 else 6

/-- Wires of a class that a tile drives in each direction (R57). -/
def wireTracks (cls : Nat) : Nat := if cls = 3 then 2 else 4

/-- The driver of a wire among the selects of a tile (R60). -/
def wireDriver (cls dir track : Nat) : Nat := 136 + 16 * cls + wireTracks cls * dir + track

/-- The tile at which a wire that is read at bay `bay`, column `l`, row `r`, after `d` tiles in direction `dir`,
starts: none where it would lie outside the wythe (R58). -/
def wireStart (dir d bay l r : Nat) : Option (Nat × Nat × Nat) :=
  let x := 112 * bayCol bay + l
  let y := 60 * (bay % 48 / 6) + r
  let at_ (x y : Nat) : Nat × Nat × Nat := (48 * (bay / 48) + 6 * (y / 60) + x / 112, x % 112, y % 60)
  match dir with
  | 0 => if d ≤ y then some (at_ x (y - d)) else none
  | 1 => if d ≤ x then some (at_ (x - d) y) else none
  | 2 => if y + d < 480 then some (at_ x (y + d)) else none
  | _ => if x + d < 672 then some (at_ (x + d) y) else none

/-- Does the source exist at the tile (R58, R61)? -/
def sourceExists (bay l r : Nat) : RouteSource → Bool
  | .wire dir cls track far => decide (track.val < wireTracks cls.val) && (wireStart dir.val (wireReach cls.val far) bay l r).isSome
  | _ => true

/-- The illegal fields of the tile at `row` of column `l` of a bay (R60 to R62). -/
def tileBad (get : Nat → Bool) (bay l row : Nat) : List BadField :=
  let f := fieldAt get
  (List.range 16).flatMap (fun c =>
    badIf (f (oCell c + 1) 2 == 3) (oCell c + 1) 2 ++ badIf (f (oCell c + 3) 2 == 3) (oCell c + 3) 2) ++
  (List.range 2).flatMap (fun b =>
    let m := f (oBrick b) 2
    badIf (m == 3 || (b == 0 && m != 0)) (oBrick b) 2 ++
    badIf (b == 0 && row == 0 && f (oBrick b + 2) 2 == 1) (oBrick b + 2) 2 ++
    badIf (decide (24 < f (oCs b 0) 5)) (oCs b 0) 5 ++ badIf (decide (24 < f (oCs b 1) 5)) (oCs b 1) 5) ++
  (List.range 192).flatMap (fun i =>
    let code := f (oSel i) 4
    badIf (decide (selMax i < code) || (code != 0 &&
      !sourceExists bay l row (Config.routeSource (Fin.ofNat 192 i) (Fin.ofNat 16 code)))) (oSel i) 4) ++
  badIf (f 1968 80 != 0) 1968 80

/-- The fields of a creel (R82). -/
structure CreelCfg where
  cmode : Nat
  widthA : Nat
  widthB : Nat
  wmodeA : Nat
  wmodeB : Nat
  oregA : Bool
  oregB : Bool
  clkA : Nat
  clkB : Nat
  invA : Bool
  invB : Bool
  eccEnc : Bool
  eccDec : Bool
  scrub : Nat
  fwft : Bool
  aeTh : Nat
  afTh : Nat
  deriving DecidableEq, Repr

/-- The creel fields of a listing (R82). -/
def creelCfgOf (get : Nat → Bool) : CreelCfg :=
  let f := fieldAt get
  { cmode := f 0 2, widthA := f 2 3, widthB := f 5 3, wmodeA := f 8 2, wmodeB := f 10 2,
    oregA := get 12, oregB := get 13, clkA := f 14 5, clkB := f 19 5, invA := get 24, invB := get 25,
    eccEnc := get 26, eccDec := get 27, scrub := f 28 3, fwft := get 31, aeTh := f 32 13, afTh := f 45 13 }

/-- Is a port width illegal for the mode (R80, R82)? -/
def CreelCfg.widthBad (c : CreelCfg) (w other : Nat) : Bool :=
  w == 7 ||
    (match c.cmode with
     | 0 => !decide ((w ≤ 2 ∧ other ≤ 2) ∨ (3 ≤ w ∧ w ≤ 5 ∧ 3 ≤ other ∧ other ≤ 5))
     | 1 => w != 6
     | 2 => w != other || decide (w ≤ 2)
     | _ => false)

/-- Does the mode have the ECC logic (R82)? -/
def CreelCfg.eccMode (c : CreelCfg) : Bool := c.cmode == 1 || (c.cmode == 2 && c.widthA == 6 && c.widthB == 6)

/-- The depth of a FIFO (R94). -/
def fifoDepth (w : Nat) : Nat :=
  match w with
  | 3 => 4096 | 4 => 2048 | 5 => 1024 | _ => 512

/-- Are the conditions of a nonzero SCRUB met (R82)? -/
def CreelCfg.scrubOk (c : CreelCfg) : Bool := c.eccEnc && c.eccDec && c.clkA == c.clkB && c.invA == c.invB

/-- The illegal fields of a creel (R82). -/
def creelBad (get : Nat → Bool) : List BadField :=
  let c := creelCfgOf get
  badIf (c.cmode == 3) 0 2 ++ badIf (c.widthBad c.widthA c.widthB) 2 3 ++ badIf (c.widthBad c.widthB c.widthA) 5 3 ++
  badIf (c.wmodeA == 3) 8 2 ++ badIf (c.wmodeB == 3) 10 2 ++
  badIf (decide (24 < c.clkA)) 14 5 ++ badIf (decide (24 < c.clkB)) 19 5 ++
  badIf (c.eccEnc && !c.eccMode) 26 1 ++ badIf (c.eccDec && !c.eccMode) 27 1 ++
  badIf (c.scrub != 0 && !c.scrubOk) 28 3 ++ badIf (c.fwft && c.cmode != 2) 31 1 ++
  badIf (c.cmode == 2 && decide (fifoDepth c.widthA < c.aeTh)) 32 13 ++
  badIf (c.cmode == 2 && decide (fifoDepth c.widthA < c.afTh)) 45 13

/-- The fields of a slice (R103). -/
structure SliceCfg where
  smode : Nat
  jsign : Bool
  gsign : Bool
  pre : Nat
  pipe : Nat
  jsrc : Bool
  gsrc : Bool
  rnd : Nat
  rndpos : Nat
  satw : Nat
  fprm : Nat
  ftz : Bool
  clk : Nat
  inv : Bool
  deriving DecidableEq, Repr

/-- The slice fields of a listing (R103). -/
def sliceCfgOf (get : Nat → Bool) : SliceCfg :=
  let f := fieldAt get
  { smode := f 0 3, jsign := get 3, gsign := get 4, pre := f 5 2, pipe := f 7 7, jsrc := get 14, gsrc := get 15,
    rnd := f 16 2, rndpos := f 18 6, satw := f 24 6, fprm := f 30 2, ftz := get 32, clk := f 33 5, inv := get 38 }

/-- Is the slice in a floating-point mode? -/
def SliceCfg.fp (c : SliceCfg) : Bool := c.smode == 2 || c.smode == 3

/-- The illegal fields of the slice at `row` (R103). -/
def sliceBad (get : Nat → Bool) (row : Nat) : List BadField :=
  let c := sliceCfgOf get
  badIf (decide (4 < c.smode)) 0 3 ++ badIf (c.smode == 4 && !c.jsign) 3 1 ++ badIf (c.smode == 4 && !c.gsign) 4 1 ++
  badIf (c.pre == 3 || (c.fp && c.pre != 0)) 5 2 ++ badIf (c.fp && c.pipe != 127) 7 7 ++
  badIf (row == 0 && c.jsrc) 14 1 ++ badIf (row == 0 && c.gsrc) 15 1 ++ badIf (c.satw == 1) 24 6 ++
  badIf (decide (24 < c.clk)) 33 5

/-- Clock column listing: STKSEL, FGATE, FCSEL (R133), and in bay column 5 the fields of bridge group
`g` (0 to 3) of tile row `r`: mode, sending select, receiving select (R70). -/
def oStksel (n : Nat) : Nat := 6 * n
def oFgate (n : Nat) : Nat := 144 + n
def oFcsel (f : Nat) : Nat := 168 + 4 * f
def oBridge (r g : Nat) : Nat := 176 + 11 * (4 * r + g)

/-- Clock column listing in bay columns 1 and 4: PCLK and PEN of the hamper port (R385); in bay columns 2
and 3 of band 0: the clock and the enable of the gateway port (R405). -/
def oPortClk : Nat := 176
def oPortEn : Nat := 181

/-- Has the clock column of bay column `bc` of band-wythe `k` the port fields? -/
def hasPort (k bc : Nat) : Bool := bc == 1 || bc == 4 || ((bc == 2 || bc == 3) && k % 8 == 0)

/-- The illegal fields of the clock column of bay column `bc` of band-wythe `k` (R70, R133, R385, R405). -/
def clockBad (get : Nat → Bool) (k bc : Nat) : List BadField :=
  let f := fieldAt get
  badIf (hasPort k bc && decide (24 < f oPortClk 5)) oPortClk 5 ++
  (List.range 24).flatMap (fun n => badIf (decide (32 < f (oStksel n) 6)) (oStksel n) 6) ++
  (List.range 2).flatMap (fun i =>
    badIf (decide ((if bc = 0 then 12 else 4) < f (oFcsel i) 4)) (oFcsel i) 4) ++
  (if bc = 5 then
    (List.range 240).flatMap (fun i =>
      let o := oBridge (i / 4) (i % 4)
      badIf (decide (24 < f (o + 1) 5)) (o + 1) 5 ++ badIf (decide (24 < f (o + 6) 5)) (o + 6) 5)
   else [])

/-- The fields of a user pin (R480). -/
structure PinCfg where
  iostd : Nat
  dir : Nat
  drive : Nat
  slew : Bool
  pull : Nat
  term : Bool
  ratio : Nat
  fclk : Nat
  pclk : Nat
  idelay : Nat
  deriving DecidableEq, Repr

/-- I/O column listing: the 30 bits of pin `i` (R480). -/
def oPin (i : Nat) : Nat := 30 * i

/-- The fields of pin `i` of a listing. -/
def pinCfgOf (get : Nat → Bool) (i : Nat) : PinCfg :=
  let o := oPin i
  let f := fieldAt get
  { iostd := f o 4, dir := f (o + 4) 2, drive := f (o + 6) 2, slew := get (o + 8), pull := f (o + 9) 2,
    term := get (o + 11), ratio := f (o + 12) 2, fclk := f (o + 14) 5, pclk := f (o + 19) 5, idelay := f (o + 24) 6 }

/-- Is the standard differential (R480)? -/
def diffStd (v : Nat) : Bool := v == 6 || v == 7

/-- Is pin `i`'s standard illegal, given its P pin's (R480)? -/
def iostdBad (i std pstd : Nat) : Bool :=
  decide (7 < std) || (i % 2 == 1 && (diffStd std || (std != 0 && diffStd pstd)))

/-- The illegal fields of the 52 pins of a user I/O column (R480). -/
def ioBad (get : Nat → Bool) : List BadField :=
  (List.range 52).flatMap (fun i =>
    let c := pinCfgOf get i
    let o := oPin i
    badIf (iostdBad i c.iostd (pinCfgOf get (i / 2 * 2)).iostd) o 4 ++ badIf (c.dir == 3) (o + 4) 2 ++
    badIf (diffStd c.iostd && c.drive != 0) (o + 6) 2 ++ badIf (diffStd c.iostd && c.pull != 0) (o + 9) 2 ++
    badIf (c.term && !diffStd c.iostd) (o + 11) 1 ++ badIf (decide (24 < c.fclk)) (o + 14) 5 ++
    badIf (decide (24 < c.pclk)) (o + 19) 5)

/-- Lane column listing: TXCLK of lane `i` of the quad, then RXCLK (R325). -/
def oTxclk (i : Nat) : Nat := 10 * i
def oRxclk (i : Nat) : Nat := 10 * i + 5

/-- The illegal fields of a lane interface column (R325). -/
def laneBad (get : Nat → Bool) : List BadField :=
  (List.range 4).flatMap (fun i =>
    badIf (decide (24 < fieldAt get (oTxclk i) 5)) (oTxclk i) 5 ++
    badIf (decide (24 < fieldAt get (oRxclk i) 5)) (oRxclk i) 5)

/-- The words of frame `minor` that hold a bit of one of the fields; `pos` gives a listing bit's place
in the column. -/
def badWords (pos : Nat → Nat) (minor : Nat) (fs : List BadField) : List Nat :=
  fs.flatMap (fun f => (List.range f.2).filterMap (fun i =>
    let l := pos (f.1 + i)
    if l / 10240 = minor then some (l % 10240 / 32) else none))

/-- The least of a list, none of an empty one. -/
def leastOf (l : List Nat) : Option Nat := l.foldl (fun a x => match a with
  | none => some x
  | some y => some (min x y)) none

/-- The first word of a structure frame that holds an illegal value (R63).  `colGet` reads a linear bit
of the column, with this frame in place. -/
def firstIllegal (p : Word) (frame : BitVec 10240) (colGet : Nat → Bool) : Option Nat :=
  if frame = 0 then none
  else
    let m := plMinor p
    let c := plCol p
    let fields : List Nat :=
      match colKind c with
      | .edge =>
        let pos := Config.edgeBit (c == 1)
        badWords pos m (if c = 0 then ioBad (fun b => colGet (pos b)) else laneBad (fun b => colGet (pos b)))
      | .logic => (List.range 60).flatMap (fun r =>
          badWords (Config.tileBit r) m (tileBad (fun b => colGet (Config.tileBit r b)) (unitOf (plBand p) c) (logicAt ((c - 2) % 121)) r))
      | .creel => (List.range 30).flatMap (fun r =>
          badWords (Config.creelBit r) m (creelBad (fun b => colGet (Config.creelBit r b))))
      | .slice => (List.range 30).flatMap (fun r =>
          badWords (Config.sliceBit r) m (sliceBad (fun b => colGet (Config.sliceBit r b)) r))
      | .clock => badWords Config.clockBit m (clockBad (fun b => colGet (Config.clockBit b)) (plBand p) ((c - 2) / 121))
    leastOf (fields ++ ((Config.databaseIllegal p.toNat frame).map Fin.val).toList)

/-! Check words (R184). -/

/-- One step of the check-word computation: the CRC. -/
def checkCrcStep (crc : Nat) (b : Bool) : Nat :=
  let fb := (crc / 2 ^ 15 % 2 == 1) != b
  let c := crc * 2 % 2 ^ 16
  if fb then c ^^^ 0x1021 else c

/-- The fold of the check-word computation over bits from `j` on: CRC, parity, locator. -/
def checkRun (f : BitVec 10240) : Nat → Nat → Nat × Bool × Nat → Nat × Bool × Nat
  | 0, _, a => a
  | n + 1, j, (crc, par, loc) =>
    let b := f.getLsbD j
    checkRun f n (j + 1) (checkCrcStep crc b, par != b, if b then loc ^^^ (j + 1) else loc)

/-- The check word of a structure frame (R184). -/
def checkWord (f : BitVec 10240) : Word :=
  let r := checkRun f 10240 0 (0xFFFF, false, 0)
  BitVec.ofNat 32 (r.1 * 2 ^ 16 + r.2.1.toNat * 2 ^ 15 + r.2.2)

end Sys2Proof.Machine
end

