-- ==== Sys2Proof/Machine/Planes.lean ====
section
/-! DEFINITION. Planes, plane pointers, shadow states and holds (R44, R65, R179 to R184, R230, R231),
creel arrays as the content frames reach them (R81), and STALE (R102). -/
namespace Sys2Proof.Machine

/-! Plane pointers. -/

/-- The latch of a unit that is live, 0 or 1 (R230). -/
def State.liveLatch (s : State) (u : Nat) : Nat := (Store.get (fun _ => false) s.planes.ptr u).toNat

/-- The latch that is the shadow. -/
def State.shadowLatch (s : State) (u : Nat) : Nat := 1 - s.liveLatch u

/-- The store key of a frame in a latch. -/
def latchKey (latch key : Nat) : Nat := latch * 2 ^ 21 + key

/-- An unlisted frame is all zero. -/
def zeroFrame (_ : Nat) : BitVec 10240 := 0

/-- The check word of the zero frame, by R184. -/
def zeroCheck (_ : Nat) : Word := 0x18770000#32

/-- A frame of a latch. -/
def State.frameIn (s : State) (latch key : Nat) : BitVec 10240 := Store.get zeroFrame s.planes.frames (latchKey latch key)

/-- The latch whose configuration the edge columns of band-wythe `k` act on: until the release of a commit that has
flipped them, the one they had before (R248). -/
def State.edgeLatch (s : State) (k : Nat) : Nat :=
  if s.eng.commits.any (fun c => c.flipped && c.edge.testBit k) then s.shadowLatch (96 + k) else s.liveLatch (96 + k)

/-- A structure frame of the live plane. -/
def State.liveFrame (s : State) (key : Nat) : BitVec 10240 := s.frameIn (s.liveLatch (keyUnit key)) key

/-- A structure frame of the shadow plane. -/
def State.shadowFrame (s : State) (key : Nat) : BitVec 10240 := s.frameIn (s.shadowLatch (keyUnit key)) key

/-- The dynamic mark of a frame of a latch. -/
def State.dynIn (s : State) (latch key : Nat) : Bool := Store.get (fun _ => false) s.planes.dyn (latchKey latch key)

/-- The check word of a frame of a latch (R184, R261). -/
def State.chkIn (s : State) (latch key : Nat) : Word := Store.get zeroCheck s.planes.chk (latchKey latch key)

/-- The block with a frame's bits set and nothing else. -/
def State.setFrame (s : State) (latch key : Nat) (f : BitVec 10240) : State :=
  { s with planes := { s.planes with frames := Store.set zeroFrame s.planes.frames (latchKey latch key) f } }

/-- The block with a check-table entry set. -/
def State.setChk (s : State) (latch key : Nat) (w : Word) : State :=
  { s with planes := { s.planes with chk := Store.set zeroCheck s.planes.chk (latchKey latch key) w } }

/-- The block with a dynamic mark set. -/
def State.setDyn (s : State) (latch key : Nat) (b : Bool) : State :=
  { s with planes := { s.planes with dyn := Store.set (fun _ => false) s.planes.dyn (latchKey latch key) b } }

/-- The dynamic mask of a logic-column minor frame: the truth-table bits of its memory bricks (R262). -/
def dynMask (key : Nat) : BitVec 10240 :=
  if colKind (key / 2 ^ 7 % 2 ^ 10) = .logic then
    BitVec.ofNat 10240 ((List.range 60).foldl (fun a r => (List.range 512).foldl (fun a i =>
      let l := Config.tileBit r (oLut 8 0 + i)
      if l / 10240 = key % 2 ^ 7 then a ||| 2 ^ (l % 10240) else a) a) 0)
  else 0

/-- The bits of a minor frame that a place function gives to listing bits `lo` to `lo + n - 1`. -/
def placeMask (pos : Nat → Nat) (lo n minor : Nat) : BitVec 10240 :=
  BitVec.ofNat 10240 ((List.range n).foldl (fun a i =>
    let l := pos (lo + i)
    if l / 10240 = minor then a ||| 2 ^ (l % 10240) else a) 0)

/-- A frame without the reserved bits of a creel or slice column: the slot of row 30 and the column bits
(R9, R84, R103). -/
def keptBits (key : Nat) (f : BitVec 10240) : BitVec 10240 :=
  match colKind (key / 2 ^ 7 % 2 ^ 10) with
  | .creel => f &&& ~~~placeMask (Config.creelBit 0) 38400 2560 (key % 2 ^ 7)
  | .slice => f &&& ~~~placeMask (Config.sliceBit 0) 76800 5120 (key % 2 ^ 7)
  | _ => f

/-- The check word of a frame, with the masked bits of a dynamic frame taken as 0 (R184, R262). -/
def frameCheck (key : Nat) (dyn : Bool) (f : BitVec 10240) : Word := checkWord (if dyn then f &&& ~~~dynMask key else f)

/-- The engine writes a structure frame: its bits but for reserved ones, its check word and its dynamic mark
(R9, R183, R184). -/
def State.putFrame (s : State) (latch key : Nat) (f : BitVec 10240) (dyn : Bool) : State :=
  ((s.setFrame latch key (keptBits key f)).setChk latch key (frameCheck key dyn (keptBits key f))).setDyn latch key dyn

/-- Does a store key lie in a unit's frames of a latch? -/
def keyInLatch (u latch k : Nat) : Bool := k / 2 ^ 21 == latch && keyUnit (k % 2 ^ 21) == u

/-- A unit's latch is cleared to zero, marks and check words with it (R21, R176). -/
def State.clearLatch (s : State) (u latch : Nat) : State :=
  let keep (k : Nat) : Bool := !keyInLatch u latch k
  { s with planes := { s.planes with
      frames := Store.filterKeys s.planes.frames keep,
      dyn := Store.filterKeys s.planes.dyn keep,
      chk := Store.filterKeys s.planes.chk keep } }

/-- Both planes of the whole device are cleared and every pointer is back at latch 0 (R21). -/
def State.clearPlanes (s : State) : State :=
  { s with planes := { s.planes with frames := [], dyn := [], chk := [], ptr := [] } }

/-- A unit's plane pointer flips, and a bay's declared floors with it (R230, R246). -/
def State.flipUnit (s : State) (u : Nat) : State :=
  let t := { s with planes := { s.planes with
    ptr := Store.set (fun _ => false) s.planes.ptr u (s.liveLatch u == 0) } }
  if u < 96 then
    (t.wr (Reg.cfgFloorLive u) (s.rd (Reg.cfgFloorShadow u))).wr (Reg.cfgFloorShadow u) (s.rd (Reg.cfgFloorLive u))
  else t

/-! Shadow states (R231): 0 CLEAR, 1 WRITING, 2 STAGED, 3 COMMITTING, 4 PREVIOUS, 5 INVALID. -/

/-- The register and first bit of a unit's shadow state (R259). -/
def shadowReg (u : Nat) : Nat := if u < 96 then Reg.cfgShstate (u / 8) else Reg.cfgShedge ((u - 96) / 8)

/-- The shadow state of a unit. -/
def State.shState (s : State) (u : Nat) : Nat := s.fld (shadowReg u) (4 * (u % 8) + 3) (4 * (u % 8))

/-- The block with a unit's shadow state set. -/
def State.setShState (s : State) (u v : Nat) : State := s.setFld (shadowReg u) (4 * (u % 8) + 3) (4 * (u % 8)) v

/-- Every unit: 96 bays, then the edge columns of 16 band-wythes. -/
def allUnits : List Nat := List.range 112

/-! Fabric boundary registers (R163, R164). -/

/-- The port FBR `n` drives with the values in effect, as `4 * bay + port`, and its stake net code. -/
def State.fbrPort (s : State) (n : Nat) : Option (Nat × Nat) :=
  let c := s.liveRd (Reg.cadFbrCfg n)
  let bay := getBits c 14 8
  let stake := getBits c 24 20
  if bay ≤ 95 ∧ 1 ≤ stake ∧ stake ≤ 24 then some (4 * bay + getBits c 17 16, stake) else none

/-- The FBR that drives a port: the lowest-numbered one that names it (R163). -/
def State.fbrDriver (s : State) (port : Nat) : Option Nat :=
  (List.range 256).find? (fun n => ((s.fbrPort n).map Prod.fst) == some port)

/-- Do two FBRs drive one port (R163)? -/
def State.fbrConflict (s : State) : Bool :=
  (List.range 256).any (fun n => match s.fbrPort n with
    | some (p, _) => s.fbrDriver p != some n
    | none => false)

/-- A boundary port as the fabric sees it. -/
def State.bport (s : State) (k : Nat) : BPort := Store.get (fun _ => {}) s.cad.bports k

/-- The block with a boundary port set. -/
def State.setBport (s : State) (k : Nat) (v : BPort) : State :=
  { s with cad := { s.cad with bports := Store.set (fun _ => {}) s.cad.bports k v } }

/-- The FBRs with a listed CAD_FBRn_CFG in effect: no other FBR drives a port. -/
def State.fbrListed (s : State) : List Nat :=
  s.live.filterMap (fun e => if 0x41800 ≤ e.1 ∧ e.1 < 0x41C00 then some ((e.1 - 0x41800) / 4) else none)

/-- What a port presents once its bay enters INIT hold: the value in effect, UPD at 0 (R164). -/
def State.bportHold (s : State) (k : Nat) : State :=
  match s.fbrDriver k with
  | some n => s.setBport k { val := s.liveRd (Reg.cadFbr n) }
  | none => s.setBport k {}

/-- The ports of `sel` that an FBR drives, as their bays enter INIT hold. -/
def State.bportsHold (s : State) (sel : Nat → Bool) : State :=
  s.fbrListed.foldl (fun t n => match t.fbrPort n with
    | some (p, _) => if sel p then t.bportHold p else t
    | none => t) s

/-! Holds. -/

/-- Is a unit in bond hold (R65)? -/
def State.bondHold (s : State) (u : Nat) : Bool := !Store.get (fun _ => false) s.planes.bondFree u

/-- Is a bay in INIT hold (R44)? -/
def State.initHold (s : State) (bay : Nat) : Bool := !Store.get (fun _ => false) s.planes.initFree bay

/-- The block with a unit's bond hold set. -/
def State.setBond (s : State) (u : Nat) (hold : Bool) : State :=
  { s with planes := { s.planes with bondFree := Store.set (fun _ => false) s.planes.bondFree u (!hold) } }

/-- The block with a bay's INIT hold set, and nothing loaded; its boundary ports hold UPD at 0 (R164). -/
def State.setInit (s : State) (bay : Nat) (hold : Bool) : State :=
  let s := if hold then s.bportsHold (fun p => p / 4 == bay) else s
  { s with planes := { s.planes with initFree := Store.set (fun _ => false) s.planes.initFree bay (!hold) } }

/-- Are the outputs of band-wythe k's edge columns enabled? -/
def State.outputsOn (s : State) (k : Nat) : Bool := Store.get (fun _ => false) s.planes.outEn k

/-- The block with the outputs of band-wythe k's edge columns enabled or disabled. -/
def State.setOut (s : State) (k : Nat) (on : Bool) : State :=
  { s with planes := { s.planes with outEn := Store.set (fun _ => false) s.planes.outEn k on } }

/-! Bits of a column. -/

/-- Linear bit `l` of column `c` of band-wythe `k` in a plane: `latch` picks it. -/
def State.colBit (s : State) (latch k c l : Nat) : Bool := (s.frameIn latch (frameKeyOf k c (l / 10240))).getLsbD (l % 10240)

/-- Linear bit `l` of a bay's column at position `p` in the live plane. -/
def State.bayBit (s : State) (bay p l : Nat) : Bool := s.colBit (s.liveLatch bay) (bayBand bay) (bayPos bay p) l

/-- The first illegal word of a frame about to be written to a latch, with the rest of its column as
that latch holds it (R63, R83). -/
def State.legality (s : State) (latch : Nat) (p : Word) (f : BitVec 10240) : Option Nat :=
  firstIllegal p f (fun l =>
    if l / 10240 = plMinor p then f.getLsbD (l % 10240) else s.colBit latch (plBand p) (plCol p) l)

/-! Creel arrays. -/

/-- An unlisted word of a creel array is 0. -/
def zeroCreel (_ : Nat) : BitVec 36 := 0

/-- The creel number of creel bay.c.r (R78). -/
def creelNum (bay c r : Nat) : Nat := 120 * bay + 30 * c + r

/-- The array number of the spare of a creel's column. -/
def spareArray (n : Nat) : Nat := 11520 + n / 30

/-- Does the spare serve creel `n`? -/
def State.steered (s : State) (n : Nat) : Bool := Store.get (fun _ => false) s.fab.steer n

/-- The array that serves creel `n` (R99, R101). -/
def State.creelArray (s : State) (n : Nat) : Nat := if s.steered n then spareArray n else n

/-- A word of an array. -/
def State.arrayWord (s : State) (a w : Nat) : BitVec 36 := Store.get zeroCreel s.fab.arrays (1024 * a + w)

/-- The block with a word of an array set. -/
def State.setArrayWord (s : State) (a w : Nat) (v : BitVec 36) : State :=
  { s with fab := { s.fab with arrays := Store.set zeroCreel s.fab.arrays (1024 * a + w) v } }

/-- A word of creel `n` as its ports see it. -/
def State.creelWord (s : State) (n w : Nat) : BitVec 36 := s.arrayWord (s.creelArray n) w

/-- A word of creel `n` written: to both arrays while a copy runs (R101). -/
def State.setCreelWord (s : State) (n w : Nat) (v : BitVec 36) : State :=
  let t := s.setArrayWord (s.creelArray n) w v
  if Store.get (fun _ => false) s.fab.copying n then
    t.setArrayWord (if s.steered n then n else spareArray n) w v
  else t

/-- An array cleared to 0. -/
def State.clearArray (s : State) (a : Nat) : State :=
  { s with fab := { s.fab with arrays := Store.clearRange s.fab.arrays (1024 * a) (1024 * (a + 1)) } }

/-- An array copied whole to another (R101). -/
def State.copyArray (s : State) (src dst : Nat) : State :=
  { s with fab := { s.fab with
      arrays := Store.setList zeroCreel s.fab.arrays (1024 * dst) (Store.getList zeroCreel s.fab.arrays (1024 * src) 1024) } }

/-- The creel column of a content frame: the number of its creel at row 0 (R78, R81). -/
def contentCreel (p : Word) : Nat :=
  let pos := (plCol p - 2) % 121
  let c := ([14, 44, 75, 105].findIdx? (· == pos)).getD 0
  creelNum (plUnit p) c 0

/-- A content frame written into the creels it covers (R81). -/
def State.putContent (s : State) (p : Word) (f : BitVec 10240) : State :=
  let l0 := 10240 * plMinor p
  let first := l0 / 36
  (List.range ((l0 + 10239) / 36 - first + 1)).foldl (fun t i =>
    let w := first + i
    let n := contentCreel p + w / 1024
    let old := t.creelWord n (w % 1024)
    let v := (List.range 36).foldl (fun a b =>
      let l := 36 * w + b
      let bit := if l0 ≤ l ∧ l < l0 + 10240 then f.getLsbD (l - l0) else old.getLsbD b
      if bit then a + 2 ^ b else a) 0
    t.setCreelWord n (w % 1024) (BitVec.ofNat 36 v)) s

/-- The creels a content frame covers. -/
def contentCreels (p : Word) : List Nat :=
  let l0 := 10240 * plMinor p
  (List.range ((l0 + 10239) / 36864 - l0 / 36864 + 1)).map (fun i => contentCreel p + l0 / 36864 + i)

/-- The bits of a content frame as the arrays hold them (R81). -/
def State.contentWord (s : State) (p : Word) (i : Nat) : Word :=
  let l0 := 10240 * plMinor p + 32 * i
  wordOf (fun b =>
    let l := l0 + b
    (s.creelWord (contentCreel p + l / 36864) (l % 36864 / 36)).getLsbD (l % 36))

/-- Word `i` of a frame. -/
def frameWord (f : BitVec 10240) (i : Nat) : Word := f.extractLsb' (32 * i) 32

/-- The frame of 320 words (R182). -/
def frameOfWords (ws : List Word) : BitVec 10240 :=
  BitVec.ofNat 10240 ((ws.take 320).foldr (fun w a => w.toNat + 2 ^ 32 * a) 0)

/-! STALE (R102, R446). -/

/-- SND_STALE as the records give it. -/
def State.staleReport (s : State) : State :=
  let recs := s.fab.staleRec.map Prod.fst
  s.wr Reg.sndStale (BitVec.ofNat 32 (recs.headD 0 + recs.length * 2 ^ 16))

/-- Creel `n` becomes STALE: its output, its record, SYS_FAULT.STALE, and EV309 for a new record. -/
def State.makeStale (s : State) (n : Nat) : State :=
  let new := !Store.get (fun _ => false) s.fab.staleRec n
  let t := { s with fab := { s.fab with
    stale := Store.set (fun _ => false) s.fab.stale n true,
    staleRec := Store.set (fun _ => false) s.fab.staleRec n true } }
  (t.staleReport.sysFault 5).raiseIf new 309

/-- The STALE output of creel `n` returns to 0. -/
def State.staleOff (s : State) (n : Nat) : State :=
  { s with fab := { s.fab with stale := Store.set (fun _ => false) s.fab.stale n false } }

/-- Software clears the STALE record of creel `n` and its output. -/
def State.staleClear (s : State) (n : Nat) : State :=
  ({ s.staleOff n with fab := { (s.staleOff n).fab with
    staleRec := Store.set (fun _ => false) s.fab.staleRec n false } }).staleReport

end Sys2Proof.Machine
end

