-- ==== Sys2Proof/Machine/Cadence.lean ====
section
/-! DEFINITION. The Cadence Unit: the timebase, its adjustment, captures, PPS, generators, offset
taps, manual boundaries (chapter 05_cadence_unit.md).  The latch and delivery of boundaries stand in
Boundary.lean. -/
namespace Sys2Proof.Machine

/-! Exact instants. -/

/-- The timebase's units in one nanosecond: its smallest exact step (R143). -/
def tbUnit : Nat := 2 ^ 41 * 125

/-- Nanoseconds in one second. -/
def giga : Nat := 1000000000

/-- The timebase as an instant. -/
def tbInstant (tb : Nat) : Instant := { num := tb, den := tbUnit }

/-- An instant of whole nanoseconds. -/
def nsInstant (ns : Nat) : Instant := { num := ns, den := 1 }

/-- Is one instant before or at another? -/
def Instant.le (a b : Instant) : Bool := decide (b.den * a.num ≤ a.den * b.num)

/-- Is one instant before another? -/
def Instant.lt (a b : Instant) : Bool := decide (b.den * a.num < a.den * b.num)

/-- Do two instants name the same time? -/
def Instant.same (a b : Instant) : Bool := decide (b.den * a.num = a.den * b.num)

/-- An instant moved on by whole nanoseconds. -/
def Instant.addNs (a : Instant) (ns : Nat) : Instant := { num := ns * a.den + a.num, den := a.den }

/-- The whole nanoseconds of an instant (R151). -/
def Instant.whole (a : Instant) : Nat := a.num / a.den

/-- The quotient of integers rounded up, for a positive divisor. -/
def ceilDiv (a : Int) (b : Nat) : Int := -((-a) / (b : Int))

/-- Grid point `k` of origin `g` and period `n / d` seconds, `k` any integer (R151). -/
def gridPoint (g : Instant) (n d : Nat) (k : Int) : Instant :=
  { num := ((g.num : Int) * d + k * (n * giga * g.den : Nat)).toNat, den := g.den * d }

/-- The index of the first grid point at or after `x` (R151, R152). -/
def gridIndex (g : Instant) (n d : Nat) (x : Instant) : Int :=
  ceilDiv (((x.num : Int) * g.den - (g.num : Int) * x.den) * d) (g.den * x.den * (n * giga))

/-- The first grid point at or after `x`. -/
def gridFrom (g : Instant) (n d : Nat) (x : Instant) : Instant := gridPoint g n d (gridIndex g n d x)

/-- The first grid point after `x`. -/
def gridAfter (g : Instant) (n d : Nat) (x : Instant) : Instant :=
  let k := gridIndex g n d x
  if (gridPoint g n d k).same x then gridPoint g n d (k + 1) else gridPoint g n d k

/-! Errors and completion. -/

/-- A CAD_ERR bit is set, which raises EV269 (R165). -/
def State.cadErr (s : State) (i : Nat) : State := (s.setBit Reg.cadErr i true).raise 269

/-- A step or a slew completed (R145). -/
def State.adjDone (s : State) : State := (s.setBit Reg.cadStat 2 true).raise 268

/-! The timebase (R143 to R147). -/

/-- Seconds wrap at 2^48. -/
def tbWrap : Nat := 2 ^ 48 * giga * tbUnit

/-- The whole nanoseconds of the timebase. -/
def State.tbNs (s : State) : Nat := s.cad.tb / tbUnit

/-- The timebase as an exact instant. -/
def State.now (s : State) : Instant := tbInstant s.cad.tb

/-- CAD_TIME_FRAC, NS, SECLO and SECHI of a timebase value (R143, R165). -/
def timeWords (tb : Nat) : List Word :=
  let ns := tb / tbUnit
  [ BitVec.ofNat 32 (tb % tbUnit * 2 ^ 32 / tbUnit), BitVec.ofNat 32 (ns % giga),
    BitVec.ofNat 32 (ns / giga), BitVec.ofNat 32 (ns / giga / 2 ^ 32 % 2 ^ 16) ]

/-- The advance at one TCLK edge with no slew: 2.5 ns × (1 + rate × 2^-40) (R143). -/
def tbIncr (rate : Int) : Int := 5 * 2 ^ 40 * 125 + 625 * rate

/-- The slew's part of one TCLK edge: 2.5 ns × 50 × 10^-6 (R143). -/
def slewIncr : Nat := 2 ^ 35

/-- What a slew absorbs at one TCLK edge, with its sign. -/
def slewPart (left : Int) : Int :=
  if left = 0 then 0
  else if 0 < left then min left slewIncr else max left (-(slewIncr : Int))

/-- An instant of PPS out: the output rises, or stays high for a further WIDTH (R150). -/
def State.ppsInstant (s : State) : State :=
  { s with cad := { s.cad with pps := true, ppsPulses := s.cad.ppsPulses + 1 } }

/-- One TCLK edge (R143); a carry into the seconds is an instant of PPS out in MODE 1 (R150). -/
def State.tclkEdge (s : State) : State :=
  let p := slewPart s.cad.slew
  let tb := ((s.cad.tb : Int) + tbIncr (wordInt (s.rd Reg.cadRate)) + p) % (tbWrap : Int)
  let t := { s with cad := { s.cad with tb := tb.toNat, slew := s.cad.slew - p } }
  if s.fld Reg.cadPpsCfg 1 0 = 1 ∧ t.tbNs / giga ≠ s.tbNs / giga then t.ppsInstant else t

/-! Generators. -/

/-- A generator's state outside its registers. -/
def State.gen (s : State) (g : Nat) : Gen := Store.get (fun _ => {}) s.cad.gens g

/-- The block with a generator's state set, its next instant readable in Cg_NEXT (R151). -/
def State.setGen (s : State) (g : Nat) (v : Gen) : State :=
  let t := { s with cad := { s.cad with gens := Store.set (fun _ => {}) s.cad.gens g v } }
  let ns := match v.next with
    | some i => i.whole
    | none => 0
  (t.wr (Reg.cNextNs g) (BitVec.ofNat 32 (ns % giga))).wr (Reg.cNextSec g) (BitVec.ofNat 32 (ns / giga))

/-- Is a period `n / d` seconds legal: at least 1 µs, and d nonzero (R151)? -/
def periodLegal (n d : Nat) : Bool := decide (d ≠ 0) && decide (d ≤ 1000000 * n)

/-- The origin of a generator's grid (R151). -/
def State.genOrigin (s : State) (g : Nat) : Instant :=
  if getBit (s.liveRd (Reg.cCfg g)) 1 then
    nsInstant ((s.liveRd (Reg.cEpochSec g)).toNat * giga + (s.liveRd (Reg.cEpochNs g)).toNat)
  else (s.gen g).origin

/-- The generator's first grid point at or after `x`, when it is enabled with a legal period. -/
def State.genFrom (s : State) (g : Nat) (x : Instant) : Option Instant :=
  let n := (s.liveRd (Reg.cN g)).toNat
  let d := (s.liveRd (Reg.cD g)).toNat
  if getBit (s.liveRd (Reg.cCfg g)) 0 && periodLegal n d then some (gridFrom (s.genOrigin g) n d x) else none

/-- The generator's first grid point after `x`. -/
def State.genAfter (s : State) (g : Nat) (x : Instant) : Option Instant :=
  let n := (s.liveRd (Reg.cN g)).toNat
  let d := (s.liveRd (Reg.cD g)).toNat
  if getBit (s.liveRd (Reg.cCfg g)) 0 && periodLegal n d then some (gridAfter (s.genOrigin g) n d x) else none

/-- The registers of a generator with RWB fields (R152). -/
def genRegs (g : Nat) : List Nat := [Reg.cCfg g, Reg.cN g, Reg.cD g, Reg.cEpochNs g, Reg.cEpochSec g]

/-- A boundary at `b` applies generator `g`'s pending settings: an illegal period leaves all five
unchanged (R152). -/
def State.genApply (s : State) (g : Nat) (b : Instant) (vals : List (Nat × Word)) : State :=
  let offs := genRegs g
  if offs.all (fun o => (vals.lookup o).isNone) then s
  else
    let ok := periodLegal (capturedOr vals s (Reg.cN g)).toNat (capturedOr vals s (Reg.cD g)).toNat
    let t := offs.foldl (fun t o =>
      let c := capturedOr vals s o
      t.commitRwb o c (if ok then c else s.liveRd o)) s
    if ok then
      let rise := !getBit (s.liveRd (Reg.cCfg g)) 0 && getBit (t.liveRd (Reg.cCfg g)) 0
      let t := if rise then t.wr (Reg.cCount g) 0 else t
      let t := t.setGen g { origin := b, next := none }
      t.setGen g { origin := b, next := t.genFrom g (b.addNs 1000) }
    else t.cadErr 0

/-! Manual boundaries (R155, R156). -/

/-- The pending instant of a manual boundary. -/
def State.mb (s : State) (i : Nat) : Option Instant := Store.get (fun _ => none) s.cad.mbs i

/-- The block with a manual boundary's pending instant set, as MBi_CTL.PEND reports it. -/
def State.setMb (s : State) (i : Nat) (v : Option Instant) : State :=
  let t := { s with cad := { s.cad with mbs := Store.set (fun _ => none) s.cad.mbs i v } }
  t.setBit (Reg.cadMbCtl i) 3 v.isSome

/-- Is the instant less than 160 ns ahead of the timebase (R156)? -/
def State.tooLate (s : State) (x : Instant) : Bool := x.lt (s.now.addNs 160)

/-- How a fire of a manual boundary is answered (R156): posted or merged, too late, or busy. -/
inductive FireResult where
  | posted
  | late
  | busy
  deriving DecidableEq, Repr

/-- The answer to a fire of manual boundary `i` for instant `x` (R156). -/
def State.mbAnswer (s : State) (i : Nat) (x : Instant) : FireResult :=
  if s.tooLate x then .late
  else match s.mb i with
    | some y => if x.same y then .posted else .busy
    | none => .posted

/-- What each answer does (R156). -/
def State.mbTake (s : State) (i : Nat) (x : Instant) : FireResult → State
  | .posted => if (s.mb i).isSome then s else s.setMb i (some x)
  | .late => s.cadErr 2
  | .busy => s.cadErr 3

/-- A fire of manual boundary `i` for instant `x`, local or from Wale (R156). -/
def State.mbPost (s : State) (i : Nat) (x : Instant) : State := s.mbTake i x (s.mbAnswer i x)

/-- The instant a FIRE write names (R155): MBi_AT when TIMED, with the current upper 16 bits of
seconds; else the timebase plus 200 ns, or plus the system lead with SYSTEM. -/
def State.mbInstant (s : State) (i : Nat) : Instant :=
  let ctl := s.rd (Reg.cadMbCtl i)
  if getBit ctl 1 then
    let hi := s.tbNs / giga / 2 ^ 32
    nsInstant ((hi * 2 ^ 32 + (s.rd (Reg.cadMbAtSec i)).toNat) * giga + (s.rd (Reg.cadMbAtNs i)).toNat)
  else if getBit ctl 2 then s.now.addNs (s.fld Reg.waleLead 23 0)
  else s.now.addNs 200

/-! Adjustment (R145, R146). -/

/-- Is a boundary of the source announced and not yet delivered (R146)? -/
def State.isAnnounced (s : State) (src : Nat) : Bool := s.cad.announced.any (fun a => a.src == src)

/-- A manual boundary that a forward step skips is dropped (R146). -/
def State.mbSkip (s : State) (i : Nat) (new : Instant) : State :=
  match s.mb i with
  | some x => if x.le new && !s.isAnnounced i then (s.setMb i none).cadErr 2 else s
  | none => s

/-- The timebase is stepped by a signed number of its units (R145, R146).  Announced boundaries are kept, each to
be delivered once at its instant as announced.  An offset tap's pending instant that a forward step skips,
of which R146 says nothing, stays pending (DESIGN CHOICE, assumption 56). -/
def State.tbStep (s : State) (off : Int) : State :=
  let tb := (((s.cad.tb : Int) + off) % (tbWrap : Int)).toNat
  let t := { s with cad := { s.cad with
    tb := tb, slew := 0, announced := s.cad.announced.map (fun (a : Announced) => { a with kept := true }) } }
  let t := t.wr Reg.cadStat (putBit (putBit (t.rd Reg.cadStat) 1 false) 0 true)
  let new := tbInstant tb
  let t := if 0 < off then (List.range 8).foldl (fun t i => t.mbSkip i new) t else t
  (List.range 32).foldl (fun t g =>
    if getBit (t.liveRd (Reg.cCfg g)) 0 then
      t.setGen g { t.gen g with next := t.genFrom g (new.addNs 1000) }
    else t) t

/-- The offset of CAD_ADJ_SEC and CAD_ADJ_NS in nanoseconds (R145). -/
def State.adjOffset (s : State) : Int := wordInt (s.rd Reg.cadAdjSec) * giga + wordInt (s.rd Reg.cadAdjNs)

/-- Do the two words carry opposite signs (R145)? -/
def State.adjOpposed (s : State) : Bool := decide (wordInt (s.rd Reg.cadAdjSec) * wordInt (s.rd Reg.cadAdjNs) < 0)

/-- Wale holds the time: writes to CAD_RATE and CAD_ADJ are ignored (R147). -/
def State.waleTime (s : State) : Bool := s.bit Reg.cadStat 4

/-- GO in step mode (R145). -/
def State.adjStep (s : State) : State :=
  if s.adjOpposed then s.cadErr 1 else (s.tbStep (s.adjOffset * tbUnit)).adjDone

/-- GO in slew mode (R145): refused at 1 s or more; a slew of 0 completes at once. -/
def State.adjSlew (s : State) : State :=
  if s.adjOpposed ∨ giga ≤ s.adjOffset.natAbs then s.cadErr 1
  else if s.adjOffset = 0 then
    ({ s with cad := { s.cad with slew := 0 } }.setBit Reg.cadStat 1 false).adjDone
  else { s with cad := { s.cad with slew := s.adjOffset * tbUnit } }.setBit Reg.cadStat 1 true

/-- A write of CAD_ADJ_CTL (R145, R147). -/
def State.adjWrite (s : State) (v : Word) : State :=
  if s.waleTime then s
  else
    let t := s.plainWrite Reg.cadAdjCtl v
    if !getBit v 0 then t else if getBit v 1 then t.adjSlew else t.adjStep

/-- The meaning of ADJ_STEP: a CAD_ADJ_CTL write of GO with MODE 0. -/
def execAdjStep (_ag : Agent) (s : State) : Host.Outcome State Fault Refusal := .next (s.adjWrite 1#32)

/-- The meaning of ADJ_SLEW: a CAD_ADJ_CTL write of GO with MODE 1. -/
def execAdjSlew (_ag : Agent) (s : State) : Host.Outcome State Fault Refusal := .next (s.adjWrite 3#32)

/-- The meaning of SLEW_DONE (R145): the timebase has taken the whole offset (assumption 8). -/
def execSlewDone (s : State) : Host.Outcome State Fault Refusal :=
  .next (if s.bit Reg.cadStat 1 then
    ({ s with cad := { s.cad with
        tb := (((s.cad.tb : Int) + s.cad.slew) % (tbWrap : Int)).toNat, slew := 0 } }.setBit Reg.cadStat 1 false).adjDone
  else s)

/-! Captures and PPS (R149, R150). -/

/-- The timebase at the capture's resolution of 100 ps (R149). -/
def captureTb (tb : Nat) : Nat := tb / (tbUnit / 10) * (tbUnit / 10)

/-- The meaning of SYNC_CAPTURE on capture `x` (0 SYNC0, 1 SYNC1, 2 PPS in), at a rising or falling
edge (R149). -/
def execSyncCapture (x : Fin 3) (falling : Bool) (s : State) : Host.Outcome State Fault Refusal :=
  let c := s.rd Reg.cadCapCtl
  if getBit c x.val && (getBit c (3 + x.val) == falling) then
    let t := match timeWords (captureTb s.cad.tb) with
      | [f, n, l, h] =>
        (((s.wr (Reg.cadCapFrac x.val) f).wr (Reg.cadCapNs x.val) n).wr (Reg.cadCapSeclo x.val) l).wr (Reg.cadCapSechi x.val) h
      | _ => s
    let c := if getBit c (6 + x.val) then putBit c (9 + x.val) true else c
    .next ((t.wr Reg.cadCapCtl (putBit c (6 + x.val) true)).raise (264 + x.val))
  else .next s

/-- The upper words of a wide value enter the snapshot (R7). -/
def State.setSnap (s : State) (off : Nat) (v : Word) : State :=
  { s with snap := Store.set (fun _ => 0#32) s.snap off v }

/-- A read of CAD_CAPx_FRAC: NEWx clears and the other words enter the snapshot (R149, R7). -/
def State.captureRead (s : State) (x : Nat) : Word × State :=
  let t := [Reg.cadCapNs x, Reg.cadCapSeclo x, Reg.cadCapSechi x].foldl (fun t o => t.setSnap o (s.rd o)) s
  (s.rd (Reg.cadCapFrac x), t.setBit Reg.cadCapCtl (6 + x) false)

/-- The meaning of CAPTURE_READ. -/
def execCaptureRead (ag : Agent) (x : Fin 3) (s : State) : Host.Outcome State Fault Refusal :=
  let r := s.captureRead x.val
  .next (r.2.emit (.read ag [r.1]))

/-- The meaning of PPS_IN_LOST (R149). -/
def execPpsInLost (s : State) : Host.Outcome State Fault Refusal :=
  .next (if s.bit Reg.cadCapCtl 2 then (s.setBit Reg.cadCapCtl 12 true).raise 267 else s)

/-- Does PPS out take its instants from the boundaries of the source (R150, R157, R160)? -/
def State.ppsFrom (s : State) (src : Nat) : Bool :=
  decide (s.fld Reg.cadPpsCfg 1 0 = 2) && decide (s.fld Reg.cadPpsCfg 7 2 = src) && decide (src < 56)

/-- The meaning of PPS_OUT_PULSE (R150): the output rises at a seconds carry in MODE 1, or with a delivery of a
source that fires in MODE 2; an output that is already high stays. -/
def execPpsOutPulse (s : State) : Host.Outcome State Fault Refusal :=
  .next (if !s.cad.pps ∧ (s.fld Reg.cadPpsCfg 1 0 = 1 ∨ s.ppsFrom (s.fld Reg.cadPpsCfg 7 2)) then s.ppsInstant else s)

/-- The meaning of PPS_OUT_PULSE_END (R150): the WIDTH of an instant ends, and the output falls when no later
instant's WIDTH is left. -/
def execPpsOutPulseEnd (s : State) : Host.Outcome State Fault Refusal :=
  .next { s with cad := { s.cad with pps := decide (1 < s.cad.ppsPulses), ppsPulses := s.cad.ppsPulses - 1 } }

/-! Wide values read through a snapshot (R7). -/

/-- The upper words a read of a wide value's least significant word captures. -/
def snapUppers (off : Nat) : List Nat :=
  if off = Reg.cadTimeFrac then [Reg.cadTimeNs, Reg.cadTimeSeclo, Reg.cadTimeSechi]
  else if 0x40114 ≤ off ∧ off < 0x40500 ∧ (off - 0x40114) % 0x20 = 0 then [off + 4]
  else if off = Reg.sndSigLo ∨ off = Reg.sndRefLo then [off + 4]
  else if 0x52010 ≤ off ∧ off < 0x52200 ∧ (off - 0x52010) % 0x20 = 0 then [off + 4]
  else if 0x100054 ≤ off ∧ off < 0x140000 ∧ (off - 0x100054) % 0x1000 = 0 then [off + 4]
  else []

/-- Is the register an upper word that a read takes from the snapshot? -/
def isSnapUpper (off : Nat) : Bool :=
  off == Reg.cadTimeNs || off == Reg.cadTimeSeclo || off == Reg.cadTimeSechi ||
    (decide (0x40060 ≤ off) && decide (off < 0x40090) && decide (off % 0x10 ≠ 0)) ||
    decide (off ≥ 4 ∧ snapUppers (off - 4) = [off])

/-- What a register of a wide value holds now: CAD_TIME is the timebase itself (R143). -/
def State.wideNow (s : State) (off : Nat) : Word :=
  if 0x40010 ≤ off ∧ off < 0x40020 then (timeWords s.cad.tb).getD ((off - 0x40010) / 4) 0 else s.rd off

/-- The block as a read of a wide value's least significant word finds it: FMm_RUN counts on within a window
(R140). -/
def State.wideTick (s : State) (off : Nat) : State :=
  if 0x52010 ≤ off ∧ off < 0x52200 ∧ (off - 0x52010) % 0x20 = 0 then s.fmTick ((off - 0x52010) / 0x20) else s

/-- A read of a register of a wide value (R7). -/
def State.snapRead (s0 : State) (off : Nat) : Word × State :=
  let s := s0.wideTick off
  if isSnapUpper off then (Store.get (fun _ => 0#32) s.snap off, s)
  else (s.wideNow off, (snapUppers off).foldl (fun t o => t.setSnap o (s.wideNow o)) s)

/-- The meaning of SNAPSHOT_READ of the register at a manager offset. -/
def execSnapshotRead (ag : Agent) (off : Nat) (s : State) : Host.Outcome State Fault Refusal :=
  let r := s.snapRead off
  .next (r.2.emit (.read ag [r.1]))

/-! Offset taps (R154). -/

/-- The pending instant of an offset tap. -/
def State.tap (s : State) (i : Nat) : Option Instant := Store.get (fun _ => none) s.cad.taps i

/-- The block with an offset tap's pending instant set. -/
def State.setTap (s : State) (i : Nat) (v : Option Instant) : State :=
  { s with cad := { s.cad with taps := Store.set (fun _ => none) s.cad.taps i v } }

/-- An event of generator `g` at `t` schedules tap `i`, or overruns it (R154). -/
def State.tapSchedule (s : State) (i g : Nat) (t : Instant) : State :=
  let cfg := s.rd (Reg.otCfg i)
  if getBit cfg 8 && getBits cfg 4 0 == g then
    if (s.tap i).isSome then s.cadErr 4
    else s.setTap i (some (t.addNs (s.liveRd (Reg.otOfs i)).toNat))
  else s

/-- The instant of a tap whose latch point comes before its parent event: the event is announced, and OFS, as the
event applies it, is shorter than 160 ns (R154, R158). -/
def State.tapEarly (s : State) (i : Nat) : Option Instant :=
  let cfg := s.rd (Reg.otCfg i)
  if !getBit cfg 8 then none
  else match s.cad.announced.find? (fun a => a.src == 8 + getBits cfg 4 0) with
    | some a =>
      let ofs := ((a.vals.lookup (Reg.otOfs i)).getD (s.liveRd (Reg.otOfs i))).toNat
      if ofs < 160 then some (a.at_.addNs ofs) else none
    | none => none

/-- The next instant of a boundary source, by its code (R157). -/
def State.sourceNext (s : State) (src : Nat) : Option Instant :=
  if src < 8 then s.mb src
  else if src < 40 then (if getBit (s.liveRd (Reg.cCfg (src - 8))) 0 then (s.gen (src - 8)).next else none)
  else if src < 56 then (if (s.tap (src - 40)).isSome then s.tap (src - 40) else s.tapEarly (src - 40))
  else none

/-! Fabric boundary registers (R163, R164). -/

/-- A boundary applies FBR `n`'s pending values (R160, R163, R164). -/
def State.fbrApply (s : State) (n : Nat) (vals : List (Nat × Word)) : State :=
  let t := match vals.lookup (Reg.cadFbr n) with
    | some v => (s.commitRwb (Reg.cadFbr n) v v).wr (Reg.cadFbrLive n) v
    | none => s
  match vals.lookup (Reg.cadFbrCfg n) with
  | some v => t.commitRwb (Reg.cadFbrCfg n) v v
  | none => t

/-- Does a boundary with these values touch FBR `n`? -/
def fbrTouched (vals : List (Nat × Word)) (n : Nat) : Bool :=
  (vals.lookup (Reg.cadFbr n)).isSome || (vals.lookup (Reg.cadFbrCfg n)).isSome

/-- The port of FBR `n` once every FBR has its values, `s` being the block before: a new value or a new driver
waits for the port's clock, and is presented at once in INIT hold; a port left with no driver presents
nothing (R163, R164). -/
def State.fbrPresent (s t : State) (n : Nat) (vals : List (Nat × Word)) : State :=
  let t := match s.fbrPort n with
    | some (p, _) => if (t.fbrDriver p).isNone then t.setBport p {} else t
    | none => t
  match t.fbrPort n with
  | some (p, _) =>
    if t.fbrDriver p = some n ∧ (fbrTouched vals n ∨ s.fbrDriver p ≠ some n) then
      (if t.initHold (p / 4) then t.setBport p { val := t.liveRd (Reg.cadFbr n) } else t.setBport p { t.bport p with wait := true })
    else t
  | none => t

/-- A boundary applies the pending values of the FBRs (R160, R163): the conflict test is made where BAY, PORT or
STAKE was applied. -/
def State.fbrsApply (s : State) (vals : List (Nat × Word)) : State :=
  let t := (List.range 256).foldl (fun t n => t.fbrApply n vals) s
  let t := (s.fbrListed ++ t.fbrListed).eraseDups.foldl (fun t n => s.fbrPresent t n vals) t
  if (List.range 256).any (fun n => (vals.lookup (Reg.cadFbrCfg n)).isSome) && t.fbrConflict then t.cadErr 5 else t

/-- A write of a CAD register other than MBi_CTL (R144, R145, R147). -/
def State.cadWrite (s : State) (off : Nat) (v : Word) : State :=
  if off = Reg.cadAdjCtl then s.adjWrite v
  else if (off = Reg.cadRate ∨ off = Reg.cadAdjNs ∨ off = Reg.cadAdjSec) ∧ s.waleTime then s
  else s.plainWrite off v

end Sys2Proof.Machine
end

