-- ==== Sys2Proof/Machine/Fabric.lean ====
section
/-! DEFINITION. Cells, control sets, flip-flops, INIT, the carry chain, memory bricks and bridges at an
edge of a stake net (chapter 02_logic_cells_and_weave.md). -/
namespace Sys2Proof.Machine

/-! Tiles of the live plane. -/

/-- The listing of the tile at logic column `l`, row `r` of a bay, in the live plane. -/
def State.tile (s : State) (bay l r : Nat) : Nat → Bool := fun b => s.bayBit bay (logicPos l) (Config.tileBit r b)

/-- The block with one listed bit of a tile written in the live plane: LUT-RAM and shift registers live
in the truth tables of the live latch (R48). -/
def State.setTileBit (s : State) (bay l r b : Nat) (v : Bool) : State :=
  let lin := Config.tileBit r b
  let key := frameKeyOf (bayBand bay) (bayPos bay (logicPos l)) (lin / 10240)
  let f := s.frameIn (s.liveLatch bay) key
  let m : BitVec 10240 := BitVec.ofNat 10240 (2 ^ (lin % 10240))
  s.setFrame (s.liveLatch bay) key (if v then f ||| m else f &&& ~~~m)

/-- The logic columns of a bay whose live plane holds a nonzero frame: in any other column every CLK
field is 0 and every INIT bit is 0. -/
def State.activeColumns (s : State) (bay : Nat) : List Nat :=
  (List.range 112).filter (fun l =>
    s.planes.frames.any (fun e => decide (e.1 / 2 ^ 7 =
      s.liveLatch bay * 2 ^ 14 + bayBand bay * 2 ^ 10 + bayPos bay (logicPos l))))

/-! Cells (R37 to R40). -/

/-- The input pins of a cell: A1 to A6 as a number, AX and BX (R37). -/
structure CellPins where
  a : Fin 64
  ax : Bool
  bx : Bool
  deriving DecidableEq, Repr

/-- What the multiplexers of a bay's tiles bring to its cells, to the CE and SR of its control sets and to its
bridges at an edge (R55, R67): by logic column, row, and cell or control set; by row. -/
structure FabricPins where
  cell : Nat → Nat → Nat → CellPins
  ctl : Nat → Nat → Nat → Bool × Bool
  bridge : Nat → Word

/-- The upper function: all six inputs, A6 seen as 1 when tied (R38). -/
def cellUpper (t : Nat → Bool) (c a : Nat) (tie : Bool) : Bool := t (oLut c (if tie then a % 32 + 32 else a % 64))

/-- The lower function: A6 taken as 0 (R38). -/
def cellLower (t : Nat → Bool) (c a : Nat) : Bool := t (oLut c (a % 32))

/-- The mode of brick `b` with the hardware effect of illegal codes (R52, R62): 0 LOGIC, 1 STORE, 2
SHIFT. -/
def brickMode (t : Nat → Bool) (b : Nat) : Nat :=
  let m := fieldAt t (oBrick b) 2
  if b = 0 ∨ m = 3 then 0 else m

/-- The CARRY code of brick `b` of tile row `r`, an illegal one read as constant 0 (R51, R62). -/
def brickCarry (t : Nat → Bool) (b r : Nat) : Nat :=
  let c := fieldAt t (oBrick b + 2) 2
  if c = 1 ∧ b = 0 ∧ r = 0 then 2 else c

/-- Outputs X and Y of a cell with the chain off (R39, R54). -/
def cellOff (t : Nat → Bool) (mode c a : Nat) : Bool × Bool :=
  let x := if mode = 2 then t (oLut c 31) else cellUpper t c a (t (oCell c))
  (x, cellLower t c a)

/-- Sum and carry-out of a cell with the chain on (R50). -/
def cellOn (t : Nat → Bool) (c a : Nat) (ax ci : Bool) : Bool × Bool :=
  let p := cellUpper t c a true
  let g := if t (oCell c + 7) then ax else cellLower t c a
  (p != ci, if p then ci else g)

/-- The outputs of cells `c`, `c + 1`, … of a brick with the chain on, and the carry-out. -/
def chainRun (t : Nat → Bool) (pins : Nat → CellPins) : Nat → Nat → Bool → List (Bool × Bool) × Bool
  | 0, _, ci => ([], ci)
  | n + 1, c, ci =>
    let o := cellOn t c (pins c).a.val (pins c).ax ci
    let r := chainRun t pins n (c + 1) o.2
    (o :: r.1, r.2)

/-- The carry into brick `k` of a column (brick `k % 2` of row `k / 2`), and from it the carry-out of
each brick below (R49, R51).  The carry-out of a brick whose chain is off has no stated value: `free`. -/
def carryInto (tile : Nat → Nat → Bool) (pins : Nat → Nat → CellPins) (free : Nat → Bool) : Nat → Bool
  | 0 => brickCarry (tile 0) 0 0 == 3
  | k + 1 =>
    match brickCarry (tile ((k + 1) / 2)) ((k + 1) % 2) ((k + 1) / 2) with
    | 1 =>
      if brickCarry (tile (k / 2)) (k % 2) (k / 2) = 0 then free k
      else (chainRun (tile (k / 2)) (pins (k / 2)) 8 (8 * (k % 2)) (carryInto tile pins free k)).2
    | 3 => true
    | _ => false

/-- Outputs X and Y of the eight cells of brick `k` of a column.  R54 gives X and Y of a SHIFT brick to its
stages and R39 gives them to the chain where CARRY is not 0; in a SHIFT brick with its chain on the chain's
outputs stand (DESIGN CHOICE, assumption 53). -/
def brickOuts (tile : Nat → Nat → Bool) (pins : Nat → Nat → CellPins) (free : Nat → Bool) (k : Nat) : List (Bool × Bool) :=
  let t := tile (k / 2)
  if brickCarry t (k % 2) (k / 2) = 0 then
    (List.range 8).map (fun i => cellOff t (brickMode t (k % 2)) (8 * (k % 2) + i) (pins (k / 2) (8 * (k % 2) + i)).a.val)
  else (chainRun t (pins (k / 2)) 8 (8 * (k % 2)) (carryInto tile pins free k)).1

/-! Control sets and flip-flops (R41 to R44). -/

/-- A control set's fields (R41). -/
structure CtlCfg where
  clk : Nat
  inv : Bool
  ceUse : Bool
  srUse : Bool
  srSync : Bool
  srVal : Bool
  deriving DecidableEq, Repr

/-- Control set `k` of brick `b`. -/
def ctlCfg (t : Nat → Bool) (b k : Nat) : CtlCfg :=
  let o := oCs b k
  { clk := fieldAt t o 5, inv := t (o + 5), ceUse := t (o + 6), srUse := t (o + 7), srSync := t (o + 8), srVal := t (o + 9) }

/-- Does an edge of stake net `net` clock an element with this CLK code and CLKINV (R41, R62)? -/
def clocks (clk : Nat) (inv : Bool) (net : Nat) (rising : Bool) : Bool := decide (clk = net + 1) && (inv != rising)

/-- The next value of a flip-flop, by the order of R43 below INIT hold. -/
def ffNext (c : CtlCfg) (edge ce sr data old : Bool) : Bool :=
  if c.srUse && !c.srSync && sr then c.srVal
  else if edge && c.srUse && c.srSync && sr then c.srVal
  else if edge && (!c.ceUse || ce) then data else old

/-- The data input of QA (R40, R62). -/
def dataA (t : Nat → Bool) (c : Nat) (o : Bool × Bool) (ax : Bool) : Bool :=
  match fieldAt t (oCell c + 1) 2 with
  | 0 => o.1 | 1 => ax | 2 => o.2 | _ => false

/-- The data input of QB (R40, R62). -/
def dataB (t : Nat → Bool) (c : Nat) (o : Bool × Bool) (bx : Bool) : Bool :=
  match fieldAt t (oCell c + 3) 2 with
  | 0 => o.2 | 1 => bx | 2 => o.1 | _ => false

/-- The index of a flip-flop in the state. -/
def ffIndex (bay l r c : Nat) (b : Bool) : Nat := ((bay * 112 + l) * 60 + r) * 32 + 2 * c + b.toNat

/-- A flip-flop as the fabric sees it: INIT of the live plane in INIT hold (R44). -/
def State.ff (s : State) (bay l r c : Nat) (b : Bool) : Bool :=
  if s.initHold bay then s.tile bay l r (oCell c + 5 + b.toNat)
  else Store.get (fun _ => false) s.fab.ffs (ffIndex bay l r c b)

/-- The block with a flip-flop's value set. -/
def State.setFf (s : State) (i : Nat) (v : Bool) : State :=
  { s with fab := { s.fab with ffs := Store.set (fun _ => false) s.fab.ffs i v } }

/-- Every flip-flop of a bay loads INIT from the live plane (R47). -/
def State.initLoad (s : State) (bay : Nat) : State :=
  let lo := ffIndex bay 0 0 0 false
  let t := { s with fab := { s.fab with ffs := Store.clearRange s.fab.ffs lo (lo + 112 * 60 * 32) } }
  (s.activeColumns bay).foldl (fun t l =>
    (List.range 60).foldl (fun t r =>
      (List.range 16).foldl (fun t c =>
        (t.setFf (ffIndex bay l r c false) (s.tile bay l r (oCell c + 5))).setFf
          (ffIndex bay l r c true) (s.tile bay l r (oCell c + 6))) t) t) t

/-! One column at an edge. -/

/-- The memory writes of brick 1 of a tile at an edge: listed truth-table bits and their new values
(R53, R54).  Two choices of the model stand here (DESIGN CHOICE, assumption 53): a STORE brick whose CS1 has
CE_USE = 0, which R53 rules out of a design, writes nothing; and cell 7 with A6TIE = 1 is written at the
address on its A1 to A6 pins, while its upper function reads with A6 taken as 1 (R38). -/
def memWrites (t : Nat → Bool) (cs : CtlCfg) (mode : Nat) (ce : Bool) (pins : Nat → CellPins) : List (Nat × Bool) :=
  match mode with
  | 1 =>
    if cs.ceUse && ce then
      (List.range 8).map (fun i => (oLut (8 + i) (pins 15).a.val, (pins (8 + i)).ax))
    else []
  | 2 =>
    if !cs.ceUse || ce then
      (List.range 8).flatMap (fun i =>
        (oLut (8 + i) 0, (pins (8 + i)).ax) ::
          (List.range 31).map (fun k => (oLut (8 + i) (k + 1), t (oLut (8 + i) k))))
    else []
  | _ => []

/-- The carry-out of brick `k` of a column while its chain is off: no rule states it. -/
def State.carryFree (s : State) (bay l k : Nat) : Bool := Config.freeBit s.freeCtr ((112 * bay + l) * 120 + k)

/-- The flip-flops and the memory brick of one tile at an edge; `s` is the block before it. -/
def State.tileEdge (s t : State) (bay l r net : Nat) (rising : Bool) (w : FabricPins) : State :=
  let tile := fun r' => s.tile bay l r'
  let pins := fun r' c => w.cell l r' c
  let free := s.carryFree bay l
  let t := (List.range 2).foldl (fun t b =>
    let outs := brickOuts tile pins free (2 * r + b)
    (List.range 8).foldl (fun t i =>
      let c := 8 * b + i
      let k := 2 * b + i / 4
      let cfg := ctlCfg (tile r) b (i / 4)
      let edge := clocks cfg.clk cfg.inv net rising
      let ctl := w.ctl l r k
      let o := outs.getD i (false, false)
      let upd (t : State) (q data : Bool) : State :=
        t.setFf (ffIndex bay l r c q) (ffNext cfg edge ctl.1 ctl.2 data (s.ff bay l r c q))
      upd (upd t false (dataA (tile r) c o (pins r c).ax)) true (dataB (tile r) c o (pins r c).bx)) t) t
  let cs := ctlCfg (tile r) 1 1
  if clocks cs.clk cs.inv net rising then
    (memWrites (tile r) cs (brickMode (tile r) 1) (w.ctl l r 3).1 (pins r)).foldl
      (fun t e => t.setTileBit bay l r e.1 e.2) t
  else t

/-- The cells of a bay at an edge of one of its stake nets (R43, R53, R54); nothing moves in INIT hold
(R44). -/
def State.cellsEdge (s t : State) (bay net : Nat) (rising : Bool) (w : FabricPins) : State :=
  if s.initHold bay then t
  else
    let u := (s.activeColumns bay).foldl (fun t l =>
      (List.range 60).foldl (fun t r => s.tileEdge t bay l r net rising w) t) t
    { u with freeCtr := u.freeCtr + 1 }

/-- The flip-flops of a bay whose asynchronous set/reset acts take SRVAL, clock or none (R43). -/
def State.asyncBay (s t : State) (bay : Nat) (w : FabricPins) : State :=
  if s.initHold bay then t
  else (s.activeColumns bay).foldl (fun t l => (List.range 60).foldl (fun t r => (List.range 4).foldl (fun t k =>
    let cfg := ctlCfg (s.tile bay l r) (k / 2) (k % 2)
    if cfg.srUse && !cfg.srSync && (w.ctl l r k).2 then
      (List.range 4).foldl (fun t i =>
        (t.setFf (ffIndex bay l r (4 * k + i) false) cfg.srVal).setFf (ffIndex bay l r (4 * k + i) true) cfg.srVal) t
    else t) t) t) t

/-! Bridges (R67 to R70). -/

/-- The index of a bridge register: direction 0 from W0 to W1, stage 0 the sending flip-flops. -/
def bridgeIndex (dir band row stage : Nat) : Nat := ((dir * 8 + band) * 60 + row) * 3 + stage

/-- A bridge register. -/
def State.bridge (s : State) (i : Nat) : Word := Store.get (fun _ => 0#32) s.fab.bridges i

/-- The block with a bridge register set. -/
def State.setBridge (s : State) (i : Nat) (v : Word) : State :=
  { s with fab := { s.fab with bridges := Store.set (fun _ => 0#32) s.fab.bridges i v } }

/-- The listing of a bay's clock column in the live plane. -/
def State.clockCol (s : State) (bay : Nat) : Nat → Bool := fun b => s.bayBit bay clockPos (Config.clockBit b)

/-- Does a panel's isolation clamp a bay (R257)?  ISO_STAT holds the clamp of each panel. -/
def State.isolated (s : State) (bay : Nat) : Bool :=
  (List.range 8).any (fun g => s.bit (Reg.cgCfg g) 17 && s.bit (Reg.cgPctl g) 9 &&
    s.bit (Reg.cgPanel0 g + 4 * (bay / 32)) (bay % 32))

/-- Do the bond cells of a unit clamp (R65, R257)?  A wythe without power holds no bay out of its
holds. -/
def State.clamped (s : State) (u : Nat) : Bool :=
  s.bondHold u || (decide (u < 96) && (s.initHold u || s.isolated u))

/-- The eight bits of group `g` of a word taken from `a`, the others from `b`. -/
def groupMix (g : Nat) (a b : Word) : Word := putBits b (8 * g + 7) (8 * g) (getBits a (8 * g + 7) (8 * g))

/-- The sending bay of a bridge direction in a band, and the receiving bay (R67). -/
def bridgeBays (dir band : Nat) : Nat × Nat :=
  if dir = 0 then (6 * band + 5, 48 + 6 * band + 5) else (48 + 6 * band + 5, 6 * band + 5)

/-- A bridge output as the receiving bay sees it (R68, R70).  R70 gives the mode bit no coding: 1 is RESYNC
(DESIGN CHOICE, assumption 53). -/
def State.bridgeOut (s : State) (dir band row g : Nat) : Nat :=
  let f := s.clockCol (bridgeBays dir band).1
  let o := oBridge row g
  let tx := fieldAt f (o + 1) 5
  let rx := fieldAt f (o + 6) 5
  if tx = 0 ∨ 24 < tx ∨ rx = 0 ∨ 24 < rx then 0
  else getBits (s.bridge (bridgeIndex dir band row (if f o then 2 else 1))) (8 * g + 7) (8 * g)

/-- One bridge group at an edge of stake net `net` of `bay`.  Two choices of the model stand here (DESIGN CHOICE,
assumption 53): the bond cell of a bridge bit lies between its sending and its first receiving flip-flop, so
a clamp reaches the output at the next receiving edge; and a REG group whose selects carry different taps,
which R69 leaves to R14, captures as any other does. -/
def State.groupEdge (s t : State) (bay net dir band row g : Nat) (w : FabricPins) : State :=
  let (tb, rb) := bridgeBays dir band
  let f := s.clockCol tb
  let o := oBridge row g
  let ix := bridgeIndex dir band row
  let t := if bay = tb ∧ fieldAt f (o + 1) 5 = net + 1 then
      t.setBridge (ix 0) (groupMix g (w.bridge row) (t.bridge (ix 0)))
    else t
  if bay = rb ∧ fieldAt f (o + 6) 5 = net + 1 then
    let v := if s.clamped tb || s.clamped rb then 0#32 else s.bridge (ix 0)
    (t.setBridge (ix 2) (groupMix g (s.bridge (ix 1)) (t.bridge (ix 2)))).setBridge (ix 1) (groupMix g v (t.bridge (ix 1)))
  else t

/-- The bridges of a bay at a rising edge of one of its stake nets (R68). -/
def State.bridgesEdge (s t : State) (bay net : Nat) (w : FabricPins) : State :=
  if bayCol bay ≠ 5 then t
  else
    [0, 1].foldl (fun t dir =>
      (List.range 240).foldl (fun t i => s.groupEdge t bay net dir (bay % 48 / 6) (i / 4) (i % 4) w) t) t

/-! Stake nets (R133 to R136). -/

/-- Does the live plane of a bay's clock column hold a nonzero frame?  Without one every stake net is
idle. -/
def State.clockActive (s : State) (bay : Nat) : Bool :=
  s.planes.frames.any (fun e => decide (e.1 / 2 ^ 7 =
    s.liveLatch bay * 2 ^ 14 + bayBand bay * 2 ^ 10 + bayPos bay clockPos))

/-- STKSEL of a stake net (R133): 0 idle, 1 to 32 a rim net of the band-wythe. -/
def State.stksel (s : State) (bay net : Nat) : Nat :=
  let v := fieldAt (s.clockCol bay) (oStksel net) 6
  if 32 < v then 0 else v

/-- Is the gate of a stake net asked to be open (R135)?  In DOZE the power manager stops the nets of
PWR_DOZEGATE (R424). -/
def State.gateOpen (s : State) (bay net : Nat) (sce : BitVec 24) : Bool :=
  getBit (s.liveRd (Reg.clkSgate bay)) net &&
    !(decide (s.mode = 0x8) && getBit (s.rd (Reg.pwrDozegate bay)) net) &&
    (!s.clockCol bay (oFgate net) || sce.getLsbD net)

/-- The block with a stake net's gate shut or open; the table is keyed by `24 * bay + net`. -/
def State.setGate (s : State) (bay net : Nat) (shut : Bool) : State :=
  { s with fab := { s.fab with gateShut := Store.set (fun _ => false) s.fab.gateShut (24 * bay + net) shut } }

/-- Is a stake net's gate shut? -/
def State.gateIsShut (s : State) (bay net : Nat) : Bool := Store.get (fun _ => false) s.fab.gateShut (24 * bay + net)

end Sys2Proof.Machine
end

