-- ==== Sys2Proof/Machine/Floors.lean ====
section
/-! DEFINITION. Effective floors, wythe floors, levels in effect, and the pairs of levels R71 permits
(R71, R246, R247, R419 to R421). -/
namespace Sys2Proof.Machine

/-! Frequencies (R121, R246). -/

/-- The reference of a synthesizer in Hz, none when it is not known (R246). -/
def State.refHz (s : State) (refsrc : Nat) : Option Nat :=
  match refsrc with
  | 1 => some 100000000
  | 2 => some (s.rd Reg.cadRefhz).toNat
  | 4 => some (if s.bit Reg.clkStatus 3 then (s.rd Reg.cadRefhz).toNat else 100000000)
  | _ => none

/-- Does tap `t` of synthesizer `n` run at no more than `lim` MHz (R246)?  An idle tap does. -/
def State.tapWithin (s : State) (n t lim : Nat) : Bool :=
  let c := s.synthLive n
  let w := if t < 2 then c.tap01 else c.tap23
  if !getBit w (16 * (t % 2) + 15) || c.refsrc == 0 then true
  else match s.refHz c.refsrc with
    | some f => decide (f * c.ratioNum ≤ lim * 1000000 * (c.rdiv * max 1 c.den * getBits w (16 * (t % 2) + 8) (16 * (t % 2))))
    | none => false

/-- Does inter-band line `i` of wythe `w` carry no more than `lim` MHz (R130)? -/
def State.lineWithin (s : State) (w i lim : Nat) : Bool :=
  let c := s.liveFld (Reg.clkVsel w (i / 4)) (8 * (i % 4) + 6) (8 * (i % 4))
  if c = 0 ∨ 64 < c then true else s.tapWithin (16 * w + (c - 1) / 4) ((c - 1) % 4) lim

/-- Does rim net `j` of band-wythe `k` carry no more than `lim` MHz (R129)?  A fabric clock counts as
above. -/
def State.rimWithin (s : State) (k j lim : Nat) : Bool :=
  let c := s.liveFld (Reg.clkRim k (j / 4)) (8 * (j % 4) + 5) (8 * (j % 4))
  if c = 0 then true
  else if c ≤ 8 then s.tapWithin (2 * k + (c - 1) / 4) ((c - 1) % 4) lim
  else if c ≤ 16 then s.tapWithin (2 * (if k < 8 then k + 8 else k - 8) + (c - 9) / 4) ((c - 9) % 4) lim
  else if c ≤ 24 then s.lineWithin (k / 8) (c - 17) lim
  else false

/-! Floors. -/

/-- STKSEL of a stake net in a latch (R133). -/
def State.stkselIn (s : State) (latch bay net : Nat) : Nat :=
  let v := fieldAt (fun b => s.colBit latch (bayBand bay) (bayPos bay clockPos) (Config.clockBit b)) (oStksel net) 6
  if 32 < v then 0 else v

/-- The declared floors of a bay's personality in a latch (R230, R259). -/
def State.declaredFloor (s : State) (latch bay : Nat) : Word :=
  s.rd (if s.liveLatch bay = latch then Reg.cfgFloorLive bay else Reg.cfgFloorShadow bay)

/-- The effective floor of a bay's personality in a latch (R246). -/
def State.effFloor (s : State) (latch bay : Nat) : Nat :=
  let w := s.declaredFloor latch bay
  let lim := getBits w 19 8
  if lim ≠ 0 ∧ (List.range 24).all (fun n =>
      let v := s.stkselIn latch bay n
      decide (v = 0) || s.rimWithin (bayBand bay) (v - 1) lim) then getBits w 5 3
  else getBits w 2 0

/-- The highest effective floor of a wythe, with the incoming personality of each bay of `incoming`. -/
def State.floorWith (s : State) (w incoming : Nat) : Nat :=
  (List.range 48).foldl (fun a i =>
    let b := 48 * w + i
    max a (s.effFloor (if incoming.testBit b then s.shadowLatch b else s.liveLatch b) b)) 0

/-- The bays whose incoming floors count as live: COMMITTING and not yet flipped (R247), or of a READY
vote (R356). -/
def State.incomingBays (s : State) : Nat :=
  s.wale.voted.foldl (fun a v => a ||| v.bays) (s.eng.commits.foldl (fun a c => if c.flipped then a else a ||| c.bays) 0)

/-- The wythe floor (R420): live personalities, and the incoming ones that count as live. -/
def State.wytheFloor (s : State) (w : Nat) : Nat := max (s.floorWith w 0) (s.floorWith w s.incomingBays)

/-! Levels. -/

/-- The level of a wythe as PWR_STAT shows it: the old one while it ramps. -/
def State.plw (s : State) (w : Nat) : Nat := s.fld Reg.pwrStat (4 * w + 2) (4 * w)

/-- Does a wythe ramp? -/
def State.ramping (s : State) (w : Nat) : Bool := s.bit Reg.pwrStat (4 * w + 3)

/-- The level a wythe ramps to, else its level. -/
def State.rampTarget (s : State) (w : Nat) : Nat :=
  if s.ramping w then (if w = 0 then s.pwr.tgt0 else s.pwr.tgt1) else s.plw w

/-- The level in effect: the lower of a ramp's two levels (R247). -/
def State.levelNow (s : State) (w : Nat) : Nat := min (s.plw w) (s.rampTarget w)

/-- The level of every floor test at a boundary of `src`: with the level pending on it (R247). -/
def State.levelAt (s : State) (src w : Nat) : Nat :=
  match s.pwr.plan with
  | some (p, a, b) => if p = src then min (s.levelNow w) (if w = 0 then a else b) else s.levelNow w
  | none => s.levelNow w

/-- The lowest and the highest level R71 permits the other wythe. -/
def pairRange (l : Nat) : Nat × Nat :=
  match l with
  | 0 => (0, 1) | 1 => (0, 4) | 2 => (1, 5) | 3 => (1, 7) | 4 => (1, 7) | 5 => (2, 7) | 6 => (3, 7) | _ => (3, 7)

/-- Does R71 permit the pair? -/
def pairOk (a b : Nat) : Bool := decide ((pairRange a).1 ≤ b) && decide (b ≤ (pairRange a).2)

/-- A commit or revert of a set meets the floors at a boundary of `src` (R247). -/
def State.floorsMet (s : State) (src bays : Nat) : Bool :=
  [0, 1].all (fun w => decide (s.floorWith w bays ≤ s.levelAt src w))

end Sys2Proof.Machine
end

