-- ==== Sys2Proof/Machine/Crypto.lean ====
section
/-! DEFINITION. The published functions the spec names and does not restate (00_scope.md: published
standards): the CRC-32 of IEEE 802.3 as R193 gives it, CRC-32C, AES-256 (FIPS 197) and GCM
(SP 800-38D) of R188 to R190, SHA-384 (FIPS 180-4) and ECDSA over P-384 (FIPS 186-5) of R454 to R458. -/
namespace Sys2Proof.Machine

/-! CRCs in the bit-reflected form. -/

/-- One bit of a reflected CRC with polynomial `poly`. -/
def crcBit (poly c : Nat) : Nat := if c % 2 = 1 then (c / 2) ^^^ poly else c / 2

/-- One byte of a reflected CRC. -/
def crcByte (poly c b : Nat) : Nat :=
  let c := c ^^^ b
  crcBit poly (crcBit poly (crcBit poly (crcBit poly (crcBit poly (crcBit poly (crcBit poly (crcBit poly c)))))))

/-- The running value of a reflected CRC over bytes. -/
def crcRun (poly : Nat) (c : Nat) (bs : List Byte) : Nat := bs.foldl (fun c b => crcByte poly c b.toNat) c

/-- The CRC-32 of R193: generator 0x04C11DB7 reflected, initial value and final complement all ones. -/
def crc32 (bs : List Byte) : Nat := crcRun 0xEDB88320 0xFFFFFFFF bs ^^^ 0xFFFFFFFF

/-- The CRC-32C: generator 0x1EDC6F41 reflected, initial value and final complement all ones. -/
def crc32c (bs : List Byte) : Nat := crcRun 0x82F63B78 0xFFFFFFFF bs ^^^ 0xFFFFFFFF

/-! AES-256 (FIPS 197), on bytes as numbers below 256. -/

/-- Multiplication by x in the AES field. -/
def gfXtime (a : Nat) : Nat := if a < 128 then 2 * a else (2 * a) ^^^ 0x11B

/-- Multiplication in the AES field. -/
def gfMul (a b : Nat) : Nat :=
  ((List.range 8).foldl (fun (p : Nat × Nat) i =>
    (if b / 2 ^ i % 2 = 1 then p.1 ^^^ p.2 else p.1, gfXtime p.2)) (0, a)).1

/-- The multiplicative inverse in the AES field, 0 for 0: a to the power 254. -/
def gfInv (a : Nat) : Nat :=
  let a2 := gfMul a a
  let a4 := gfMul a2 a2
  let a8 := gfMul a4 a4
  let a16 := gfMul a8 a8
  let a32 := gfMul a16 a16
  let a64 := gfMul a32 a32
  let a128 := gfMul a64 a64
  gfMul a2 (gfMul a4 (gfMul a8 (gfMul a16 (gfMul a32 (gfMul a64 a128)))))

/-- A byte rotated left. -/
def rotl8 (a n : Nat) : Nat := (a * 2 ^ n) % 256 + a / 2 ^ (8 - n)

/-- The S-box. -/
def aesSub (a : Nat) : Nat :=
  let b := gfInv a
  b ^^^ rotl8 b 1 ^^^ rotl8 b 2 ^^^ rotl8 b 3 ^^^ rotl8 b 4 ^^^ 0x63

/-- Bytewise exclusive-or. -/
def xorBytes (a b : List Nat) : List Nat := List.zipWith (· ^^^ ·) a b

/-- The words of a key schedule, newest first, `n` more of them after `i` (Nk = 8). -/
def aesExpand : Nat → Nat → Nat → List (List Nat) → List (List Nat)
  | 0, _, _, ws => ws
  | n + 1, i, rcon, ws =>
    let prev := ws.headD [0, 0, 0, 0]
    let back := ws.getD 7 [0, 0, 0, 0]
    if i % 8 = 0 then
      let t := (prev.drop 1 ++ prev.take 1).map aesSub
      let t := xorBytes t [rcon, 0, 0, 0]
      aesExpand n (i + 1) (gfXtime rcon) (xorBytes back t :: ws)
    else if i % 8 = 4 then aesExpand n (i + 1) rcon (xorBytes back (prev.map aesSub) :: ws)
    else aesExpand n (i + 1) rcon (xorBytes back prev :: ws)

/-- The list cut into pieces of `k`. -/
def chunk {α : Type} (k : Nat) : Nat → List α → List (List α)
  | 0, _ => []
  | n + 1, l => if l.isEmpty then [] else l.take k :: chunk k n (l.drop k)

/-- The fifteen round keys of a 32-byte key. -/
def aesKeys (key : List Nat) : List (List Nat) :=
  let ws := (aesExpand 52 8 1 (chunk 4 8 key).reverse).reverse
  (chunk 4 15 ws).map List.flatten

/-- ShiftRows on 16 bytes in column order. -/
def aesShift (st : List Nat) : List Nat := (List.range 16).map (fun i => st.getD ((i + 4 * (i % 4)) % 16) 0)

/-- MixColumns on one column. -/
def aesMixCol (c : List Nat) : List Nat :=
  match c with
  | [a, b, d, e] =>
    let m2 := gfXtime
    let m3 (x : Nat) := gfXtime x ^^^ x
    [m2 a ^^^ m3 b ^^^ d ^^^ e, a ^^^ m2 b ^^^ m3 d ^^^ e, a ^^^ b ^^^ m2 d ^^^ m3 e, m3 a ^^^ b ^^^ d ^^^ m2 e]
  | _ => c

/-- The middle and last rounds. -/
def aesRounds : List (List Nat) → List Nat → List Nat
  | [], st => st
  | [k], st => xorBytes (aesShift (st.map aesSub)) k
  | k :: ks, st => aesRounds ks (xorBytes ((chunk 4 4 (aesShift (st.map aesSub))).map aesMixCol).flatten k)

/-- AES-256 on one block with expanded keys. -/
def aesBlock (keys : List (List Nat)) (blk : List Nat) : List Nat :=
  match keys with
  | [] => blk
  | k :: ks => aesRounds ks (xorBytes blk k)

/-! GCM (SP 800-38D). -/

/-- A block as a number, most significant byte first. -/
def beNat (bs : List Nat) : Nat := bs.foldl (fun a b => a * 256 + b) 0

/-- The `n` bytes of a number, most significant first. -/
def beBytes (n v : Nat) : List Nat := (List.range n).map (fun i => v / 256 ^ (n - 1 - i) % 256)

/-- The GHASH product. -/
def ghMul (x y : Nat) : Nat :=
  ((List.range 128).foldl (fun (p : Nat × Nat) i =>
    (if x / 2 ^ (127 - i) % 2 = 1 then p.1 ^^^ p.2 else p.1,
     if p.2 % 2 = 1 then (p.2 / 2) ^^^ (0xE1 * 2 ^ 120) else p.2 / 2)) (0, y)).1

/-- Bytes padded with zeros to whole blocks. -/
def padBlock (bs : List Nat) : List Nat := bs ++ List.replicate ((16 - bs.length % 16) % 16) 0

/-- GHASH of additional data and ciphertext under H. -/
def ghash (h : Nat) (aad ct : List Nat) : Nat :=
  let data := padBlock aad ++ padBlock ct ++ beBytes 8 (8 * aad.length) ++ beBytes 8 (8 * ct.length)
  (chunk 16 (data.length / 16) data).foldl (fun y b => ghMul (y ^^^ beNat b) h) 0

/-- Key-stream block `i` after the initial counter block of a 12-byte IV. -/
def gcmStream (keys : List (List Nat)) (iv : List Nat) (i : Nat) : List Nat :=
  aesBlock keys (iv ++ beBytes 4 (1 + i))

/-- The GCM tag of additional data and ciphertext, as 16 bytes. -/
def gcmTag (key iv aad ct : List Nat) : List Nat :=
  let keys := aesKeys key
  let h := beNat (aesBlock keys (List.replicate 16 0))
  xorBytes (beBytes 16 (ghash h aad ct)) (gcmStream keys iv 0)

/-- GCM's counter-mode transformation of bytes from byte position `16 * from` on. -/
def gcmCrypt (key iv : List Nat) (first : Nat) (data : List Nat) : List Nat :=
  let keys := aesKeys key
  ((chunk 16 (data.length / 16 + 1) data).zipIdx.map (fun (b, i) => xorBytes b (gcmStream keys iv (1 + first + i)))).flatten

/-! SHA-384 (FIPS 180-4). -/

/-- Sixteen round constants. -/
def shaK0 : List Nat := [
  0x428A2F98D728AE22, 0x7137449123EF65CD, 0xB5C0FBCFEC4D3B2F, 0xE9B5DBA58189DBBC,
  0x3956C25BF348B538, 0x59F111F1B605D019, 0x923F82A4AF194F9B, 0xAB1C5ED5DA6D8118,
  0xD807AA98A3030242, 0x12835B0145706FBE, 0x243185BE4EE4B28C, 0x550C7DC3D5FFB4E2,
  0x72BE5D74F27B896F, 0x80DEB1FE3B1696B1, 0x9BDC06A725C71235, 0xC19BF174CF692694]

/-- Sixteen round constants. -/
def shaK1 : List Nat := [
  0xE49B69C19EF14AD2, 0xEFBE4786384F25E3, 0x0FC19DC68B8CD5B5, 0x240CA1CC77AC9C65,
  0x2DE92C6F592B0275, 0x4A7484AA6EA6E483, 0x5CB0A9DCBD41FBD4, 0x76F988DA831153B5,
  0x983E5152EE66DFAB, 0xA831C66D2DB43210, 0xB00327C898FB213F, 0xBF597FC7BEEF0EE4,
  0xC6E00BF33DA88FC2, 0xD5A79147930AA725, 0x06CA6351E003826F, 0x142929670A0E6E70]

/-- Sixteen round constants. -/
def shaK2 : List Nat := [
  0x27B70A8546D22FFC, 0x2E1B21385C26C926, 0x4D2C6DFC5AC42AED, 0x53380D139D95B3DF,
  0x650A73548BAF63DE, 0x766A0ABB3C77B2A8, 0x81C2C92E47EDAEE6, 0x92722C851482353B,
  0xA2BFE8A14CF10364, 0xA81A664BBC423001, 0xC24B8B70D0F89791, 0xC76C51A30654BE30,
  0xD192E819D6EF5218, 0xD69906245565A910, 0xF40E35855771202A, 0x106AA07032BBD1B8]

/-- Sixteen round constants. -/
def shaK3 : List Nat := [
  0x19A4C116B8D2D0C8, 0x1E376C085141AB53, 0x2748774CDF8EEB99, 0x34B0BCB5E19B48A8,
  0x391C0CB3C5C95A63, 0x4ED8AA4AE3418ACB, 0x5B9CCA4F7763E373, 0x682E6FF3D6B2B8A3,
  0x748F82EE5DEFB2FC, 0x78A5636F43172F60, 0x84C87814A1F0AB72, 0x8CC702081A6439EC,
  0x90BEFFFA23631E28, 0xA4506CEBDE82BDE9, 0xBEF9A3F7B2C67915, 0xC67178F2E372532B]

/-- Sixteen round constants. -/
def shaK4 : List Nat := [
  0xCA273ECEEA26619C, 0xD186B8C721C0C207, 0xEADA7DD6CDE0EB1E, 0xF57D4F7FEE6ED178,
  0x06F067AA72176FBA, 0x0A637DC5A2C898A6, 0x113F9804BEF90DAE, 0x1B710B35131C471B,
  0x28DB77F523047D84, 0x32CAAB7B40C72493, 0x3C9EBE0A15C9BEBC, 0x431D67C49C100D4C,
  0x4CC5D4BECB3E42B6, 0x597F299CFC657E2A, 0x5FCB6FAB3AD6FAEC, 0x6C44198C4A475817]

/-- The round constants. -/
def shaK : List Nat := shaK0 ++ shaK1 ++ shaK2 ++ shaK3 ++ shaK4

/-- 64-bit addition and rotation. -/
def add64 (a b : Nat) : Nat := (a + b) % 2 ^ 64
def rotr64 (a n : Nat) : Nat := a / 2 ^ n + a % 2 ^ n * 2 ^ (64 - n)

/-- The message schedule, newest first, `n` more words. -/
def shaSchedule : Nat → List Nat → List Nat
  | 0, ws => ws
  | n + 1, ws =>
    let w2 := ws.getD 1 0
    let w15 := ws.getD 14 0
    let s0 := rotr64 w15 1 ^^^ rotr64 w15 8 ^^^ w15 / 2 ^ 7
    let s1 := rotr64 w2 19 ^^^ rotr64 w2 61 ^^^ w2 / 2 ^ 6
    shaSchedule n (add64 (add64 s1 (ws.getD 6 0)) (add64 s0 (ws.getD 15 0)) :: ws)

/-- One round on the eight working variables. -/
def shaRound (v : List Nat) (kw : Nat × Nat) : List Nat :=
  match v with
  | [a, b, c, d, e, f, g, h] =>
    let s1 := rotr64 e 14 ^^^ rotr64 e 18 ^^^ rotr64 e 41
    let ch := (e &&& f) ^^^ ((2 ^ 64 - 1 - e) &&& g)
    let t1 := add64 (add64 (add64 h s1) ch) (add64 kw.1 kw.2)
    let s0 := rotr64 a 28 ^^^ rotr64 a 34 ^^^ rotr64 a 39
    let mj := (a &&& b) ^^^ (a &&& c) ^^^ (b &&& c)
    [add64 t1 (add64 s0 mj), a, b, c, add64 d t1, e, f, g]
  | _ => v

/-- One 128-byte block. -/
def shaBlock (h : List Nat) (blk : List Nat) : List Nat :=
  let ws := (shaSchedule 64 ((chunk 8 16 blk).map beNat).reverse).reverse
  List.zipWith add64 h ((shaK.zip ws).foldl shaRound h)

/-- The SHA-384 digest of bytes, as 48 bytes. -/
def sha384 (msg : List Nat) : List Nat :=
  let pad := msg ++ [0x80] ++ List.replicate ((240 - (msg.length + 1) % 128) % 128) 0 ++ beBytes 16 (8 * msg.length)
  let h0 := [0xCBBB9D5DC1059ED8, 0x629A292A367CD507, 0x9159015A3070DD17, 0x152FECD8F70E5939,
    0x67332667FFC00B31, 0x8EB44A8768581511, 0xDB0C2E0D64F98FA7, 0x47B5481DBEFA4FA4]
  let h := (chunk 128 (pad.length / 128) pad).foldl shaBlock h0
  ((h.take 6).map (beBytes 8)).flatten

/-! ECDSA over P-384 (FIPS 186-5). -/

/-- The field prime, the order, the coefficient b and the base point of P-384. -/
def p384P : Nat := 2 ^ 384 - 2 ^ 128 - 2 ^ 96 + 2 ^ 32 - 1
def p384N : Nat := 0xFFFFFFFFFFFFFFFFFFFFFFFFFFFFFFFFFFFFFFFFFFFFFFFFC7634D81F4372DDF581A0DB248B0A77AECEC196ACCC52973
def p384B : Nat := 0xB3312FA7E23EE7E4988E056BE3F82D19181D9C6EFE8141120314088F5013875AC656398D8A2ED19D2A85C8EDD3EC2AEF
def p384Gx : Nat := 0xAA87CA22BE8B05378EB1C71EF320AD746E1D3B628BA79B9859F741E082542A385502F25DBF55296C3A545E3872760AB7
def p384Gy : Nat := 0x3617DE4A96262C6F5D9E98BF9292DC29F8F41DBD289A147CE9DA3113B5F0B8C00A60B1CE1D7E819D7A431D7C90EA0E5F

/-- A power modulo `m`, of an exponent below 2^384. -/
def powMod (a e m : Nat) : Nat :=
  (List.range 384).foldl (fun r i => let r := r * r % m; if e / 2 ^ (383 - i) % 2 = 1 then r * a % m else r) 1

/-- An inverse modulo a prime. -/
def invMod (a m : Nat) : Nat := powMod (a % m) (m - 2) m

/-- Point addition on P-384; `none` is the point at infinity. -/
def ecAdd (p q : Option (Nat × Nat)) : Option (Nat × Nat) :=
  match p, q with
  | none, q => q
  | p, none => p
  | some (x1, y1), some (x2, y2) =>
    let m := p384P
    if x1 = x2 ∧ (y1 + y2) % m = 0 then none
    else
      let l := if x1 = x2 then (3 * x1 * x1 + (m - 3)) * invMod (2 * y1) m % m
               else (y2 + m - y1) * invMod (x2 + m - x1) m % m
      let x3 := (l * l + 2 * m - x1 - x2) % m
      some (x3, (l * (x1 + m - x3) + (m - y1)) % m)

/-- A multiple of a point by a number below 2^384. -/
def ecMul (k : Nat) (p : Option (Nat × Nat)) : Option (Nat × Nat) :=
  (List.range 384).foldl (fun r i => let r := ecAdd r r; if k / 2 ^ (383 - i) % 2 = 1 then ecAdd r p else r) none

/-- Is the point on the curve, with both coordinates in the field? -/
def onCurve (x y : Nat) : Bool :=
  decide (x < p384P) && decide (y < p384P) &&
    decide (y * y % p384P = (x * x * x + (p384P - 3) * x + p384B) % p384P)

/-- Does signature (r, s) of the message digest verify under public key (x, y)? -/
def ecdsaVerify (x y r s : Nat) (digest : List Nat) : Bool :=
  onCurve x y && decide (0 < r) && decide (r < p384N) && decide (0 < s) && decide (s < p384N) &&
    (let w := invMod s p384N
     let u1 := beNat digest * w % p384N
     let u2 := r * w % p384N
     match ecAdd (ecMul u1 (some (p384Gx, p384Gy))) (ecMul u2 (some (x, y))) with
     | none => false
     | some (x1, _) => decide (x1 % p384N = r))

end Sys2Proof.Machine
end

