-- ==== Sys2Proof/Machine/FlashDie.lean ====
section
/-! DEFINITION. The flash die's content, the sector table and the ledger (R275, R277, R284, R293 to
R298). -/
namespace Sys2Proof.Machine

/-! Geometry (R275, R277). -/

/-- The flash address of info-block offset `i`. -/
def infoAddr (i : Nat) : Nat := 2 ^ 30 + i

/-- First offset and size of an info sector (R277). -/
def infoSector (i : Nat) : Nat × Nat :=
  match i with
  | 0 => (0x00000, 0x10000) | 1 => (0x10000, 0x10000) | 2 => (0x20000, 0x1000) | 3 => (0x21000, 0x1000)
  | 4 => (0x22000, 0x1E000) | 5 => (0x40000, 0x10000) | 6 => (0x50000, 0x10000) | 7 => (0x60000, 0x10000)
  | 8 => (0x70000, 0x10000) | 9 => (0x80000, 0x40000) | 10 => (0xC0000, 0x40000) | _ => (0x100000, 0)

/-- The info sector an info-block offset lies in. -/
def infoSectorOf (i : Nat) : Nat :=
  if i < 0x10000 then 0 else if i < 0x20000 then 1 else if i < 0x21000 then 2 else if i < 0x22000 then 3
  else if i < 0x40000 then 4 else if i < 0x80000 then 5 + (i - 0x40000) / 0x10000 else 9 + (i - 0x80000) / 0x40000

/-- The sector of a flash address: 0 to 4,095 main, 4,096 + i info sector i. -/
def sectorOf (addr : Nat) : Nat :=
  if addr < 2 ^ 30 then addr / 0x40000 else 4096 + infoSectorOf (addr - 2 ^ 30)

/-- First flash address and size of a sector. -/
def sectorSpan (sec : Nat) : Nat × Nat :=
  if sec < 4096 then (sec * 0x40000, 0x40000)
  else (infoAddr (infoSector (sec - 4096)).1, (infoSector (sec - 4096)).2)

/-! Content. -/

/-- An erased byte reads 0xFF (R275). -/
def erasedByte (_ : Nat) : Byte := 0xFF#8

/-- One more than the token of a byte's undefined content, 0 when its content is defined. -/
def FlashState.junkAt (f : FlashState) (addr : Nat) : Nat :=
  match Store.get (fun _ => 0) f.junkSector (sectorOf addr) with
  | 0 => Store.get (fun _ => 0) f.junkWord (addr / 8)
  | t => t

/-- The byte at a flash address.  Where the spec leaves the content undefined it is a free value, of which the
bits programmed since then read 0 (R283, R286). -/
def FlashState.byte (f : FlashState) (addr : Nat) : Byte :=
  match f.junkAt addr with
  | 0 => Store.get erasedByte f.cells addr
  | t + 1 => Config.flashByte t addr &&& Store.get erasedByte f.cells addr

/-- A number from its bytes, least significant first. -/
def natOfBytes : List Byte → Nat
  | [] => 0
  | b :: bs => b.toNat + 256 * natOfBytes bs

/-- The bytes of a number, least significant first. -/
def bytesOfNat : Nat → Nat → List Byte
  | 0, _ => []
  | n + 1, v => BitVec.ofNat 8 v :: bytesOfNat n (v / 256)

/-- The 64-bit word at a flash address. -/
def FlashState.word (f : FlashState) (addr : Nat) : BitVec 64 :=
  BitVec.ofNat 64 (natOfBytes ((List.range 8).map (fun i => f.byte (addr + i))))

/-- `n` bytes from a flash address on. -/
def FlashState.bytes (f : FlashState) (addr n : Nat) : List Byte := (List.range n).map (fun i => f.byte (addr + i))

/-- The 32-bit word at a flash address. -/
def FlashState.word32 (f : FlashState) (addr : Nat) : Word :=
  BitVec.ofNat 32 (natOfBytes (f.bytes addr 4))

/-- The die with a word stored. -/
def FlashState.putWord (f : FlashState) (addr : Nat) (w : BitVec 64) : FlashState :=
  { f with cells := Store.setList erasedByte f.cells addr (bytesOfNat 8 w.toNat) }

/-- A sector whose content is undefined from now on. -/
def FlashState.spoilSector (f : FlashState) (sec token : Nat) : FlashState :=
  let (a, n) := sectorSpan sec
  { f with
    cells := Store.clearRange f.cells a (a + n)
    junkSector := Store.set (fun _ => 0) f.junkSector sec (token + 1) }

/-- A word whose content is undefined from now on. -/
def FlashState.spoilWord (f : FlashState) (addr token : Nat) : FlashState :=
  { f with
    cells := Store.clearRange f.cells (addr / 8 * 8) (addr / 8 * 8 + 8)
    junkWord := Store.set (fun _ => 0) f.junkWord (addr / 8) (token + 1) }

/-- A word is programmed: every 0 bit of the data clears, an all-ones word gets no pulse (R283, R284),
and the third program of a word leaves it undefined, with `token` (R284). -/
def FlashState.program (f : FlashState) (addr token : Nat) (w : BitVec 64) : FlashState :=
  if w = BitVec.allOnes 64 then f
  else
    let n := Store.get (fun _ => 0) f.programs (addr / 8) + 1
    let f := f.putWord addr (f.word addr &&& w)
    let f := { f with programs := Store.set (fun _ => 0) f.programs (addr / 8) n }
    if n < 3 then f else f.spoilWord addr token

/-- A sector erased: every byte reads 0xFF and no word of it counts as programmed. -/
def FlashState.eraseSector (f : FlashState) (sec : Nat) : FlashState :=
  let (a, n) := sectorSpan sec
  { f with
    cells := Store.clearRange f.cells a (a + n)
    junkSector := Store.set (fun _ => 0) f.junkSector sec 0
    junkWord := Store.clearRange f.junkWord (a / 8) ((a + n) / 8)
    programs := Store.clearRange f.programs (a / 8) ((a + n) / 8) }

/-- The block with the flash state replaced and the free-value counter advanced. -/
def State.withFlash (s : State) (f : FlashState) : State := { s with flash := f, freeCtr := s.freeCtr + 1 }

/-! The sector table (R296, R297). -/

/-- What an unlisted sector's entry is: after a lost ledger, every sector but the ledger halves is
half-erased (R297). -/
def secDefault (lost : Bool) (sec : Nat) : SecEntry :=
  { half := lost && decide (sec ≠ 4096) && decide (sec ≠ 4097) }

/-- A sector's table entry. -/
def FlashState.entry (f : FlashState) (sec : Nat) : SecEntry := Store.get (secDefault f.lost) f.table sec

/-- The die with a sector's table entry set. -/
def FlashState.setEntry (f : FlashState) (sec : Nat) (e : SecEntry) : FlashState :=
  { f with table := Store.set (secDefault f.lost) f.table sec e }

/-- The number of sectors with HALF 1: of those listed, and after a lost ledger of the unlisted too. -/
def FlashState.halfCount (f : FlashState) : Nat :=
  if f.lost then 4105 - (f.table.filter (fun e => !e.2.half && (secDefault true e.1).half)).length
  else (f.table.filter (fun e => e.2.half)).length

/-- The sector FLC_HALF.FIRST names: the lowest main sector with HALF 1, else the lowest such info
sector. -/
def FlashState.halfFirst (f : FlashState) : Option Nat := (List.range 4107).find? (fun i => (f.entry i).half)

/-- FLC_HALF follows the sector table (R296, R304). -/
def State.halfReport (s : State) : State :=
  let n := s.flash.halfCount
  if n = 0 then s.wr Reg.flcHalf 0
  else match s.flash.halfFirst with
    | none => s.wr Reg.flcHalf 0
    | some i =>
      s.wr Reg.flcHalf (BitVec.ofNat 32 (n + (if i < 4096 then i else i - 4096) * 2 ^ 16 + (if i < 4096 then 0 else 2 ^ 28)))

/-! The ledger (R293 to R298). -/

/-- The info-block offset of ledger half `h`. -/
def ledgerBase (h : Nat) : Nat := h * 0x10000

/-- Word `i` of ledger half `h`. -/
def FlashState.ledgerWord (f : FlashState) (h i : Nat) : BitVec 64 := f.word (infoAddr (ledgerBase h + 8 * i))

/-- Is a ledger half complete (R293)?  A half left undefined by an abandoned compaction is not (R298). -/
def FlashState.halfComplete (f : FlashState) (h : Nat) : Bool :=
  let w := (f.ledgerWord h 0).toNat
  decide (w % 2 ^ 32 = 0x7A1ED6E5) && decide (w / 2 ^ 63 = 0) &&
    decide (Store.get (fun _ => 0) f.junkSector (4096 + h) = 0)

/-- SEQ of a ledger half. -/
def FlashState.ledgerSeq (f : FlashState) (h : Nat) : Nat := (f.ledgerWord h 0).toNat / 2 ^ 32 % 2 ^ 16

/-- Is `a` later than `b` under serial arithmetic modulo `m` (R204, R293)? -/
def serialLater (m a b : Nat) : Bool :=
  let d := (a + m - b % m) % m
  decide (1 ≤ d) && decide (d < m / 2)

/-- The active half, if either is complete (R293). -/
def FlashState.activeHalf (f : FlashState) : Option Nat :=
  match f.halfComplete 0, f.halfComplete 1 with
  | true, true => if serialLater (2 ^ 16) (f.ledgerSeq 1) (f.ledgerSeq 0) then some 1 else some 0
  | true, false => some 0
  | false, true => some 1
  | false, false => none

/-- The table entry a summary word gives (R293, R296). -/
def summaryEntry (w : BitVec 64) : SecEntry :=
  let v := w.toNat
  let lo := v % 2 ^ 32
  if v / 2 ^ 32 = 2 ^ 32 - 1 - lo ∧ lo / 2 ^ 18 = 0 then
    { erases := lo % 2 ^ 16, bad := decide (lo / 2 ^ 16 % 2 = 1), half := decide (lo / 2 ^ 17 % 2 = 1) }
  else { erases := 0, bad := false, half := true }

/-- A summary word (R293). -/
def summaryWord (e : SecEntry) : BitVec 64 :=
  let lo := e.erases % 2 ^ 16 + e.bad.toNat * 2 ^ 16 + e.half.toNat * 2 ^ 17
  BitVec.ofNat 64 (lo + (2 ^ 32 - 1 - lo) * 2 ^ 32)

/-- The exclusive-or of bytes 0 to 3 of a word, complemented: ICHK (R294). -/
def logIchk (v : Nat) : Nat :=
  255 - (((v % 256) ^^^ (v / 2 ^ 8 % 256)) ^^^ ((v / 2 ^ 16 % 256) ^^^ (v / 2 ^ 24 % 256)))

/-- CCHK of a pulse count (R294). -/
def logCchk (p : Nat) : Nat := 127 - (((p % 128) ^^^ (p / 128 % 128)) ^^^ (p / 2 ^ 14 % 4))

/-- The intent of a log word: bits [39:0], the rest 1 (R294). -/
def logIntent (sector kind count : Nat) : BitVec 64 :=
  let lo := sector % 2 ^ 12 + kind * 2 ^ 12 + count % 2 ^ 16 * 2 ^ 16
  BitVec.ofNat 64 (lo + logIchk lo * 2 ^ 32 + (2 ^ 24 - 1) * 2 ^ 40)

/-- The completion of a log word: bits [63:40], the rest 1 (R294). -/
def logCompletion (pulses : Nat) : BitVec 64 :=
  BitVec.ofNat 64 (2 ^ 40 - 1 + pulses % 2 ^ 16 * 2 ^ 40 + logCchk (pulses % 2 ^ 16) * 2 ^ 56)

/-- The sector a log word's valid intent names, with its kind and count (R294). -/
def logValid (w : BitVec 64) : Option (Nat × Nat × Nat) :=
  let v := w.toNat
  let sec := v % 2 ^ 12
  let kind := v / 2 ^ 12 % 16
  let count := v / 2 ^ 16 % 2 ^ 16
  if v / 2 ^ 32 % 256 = logIchk (v % 2 ^ 32) then
    (if kind = 4 ∨ kind = 6 then some (sec, kind, count)
     else if (kind = 5 ∨ kind = 7) ∧ sec ≤ 10 then some (4096 + sec, kind, count)
     else none)
  else none

/-- Is a log word's completion valid (R294)? -/
def logDone (w : BitVec 64) : Bool :=
  let v := w.toNat
  decide (v / 2 ^ 63 = 0) && decide (v / 2 ^ 56 % 128 = logCchk (v / 2 ^ 40 % 2 ^ 16))

/-- One log word applied to the sector table (R296). -/
def FlashState.applyLog (f : FlashState) (w : BitVec 64) : FlashState :=
  match logValid w with
  | none => f
  | some (sec, kind, count) =>
    let e := f.entry sec
    if kind = 4 ∨ kind = 5 then f.setEntry sec { e with erases := count, half := !logDone w }
    else if logDone w then f.setEntry sec { e with bad := true } else f

/-- The first blank log word at or after `i` among `n` (R294); 8,192 when none is left. -/
def FlashState.blankFrom (f : FlashState) (h : Nat) : Nat → Nat → Nat
  | _, 0 => 8192
  | i, n + 1 => if f.ledgerWord h i = BitVec.allOnes 64 then i else FlashState.blankFrom f h (i + 1) n

/-- The sector table that ledger half `h` gives: its summary, then its log (R296). -/
def FlashState.ledgerTable (f : FlashState) (h : Nat) : FlashState :=
  let f := { f with table := [], lost := false }
  let g := (List.range 4107).foldl (fun g i => g.setEntry i (summaryEntry (f.ledgerWord h (1 + i)))) f
  (List.range 4084).foldl (fun g i => g.applyLog (g.ledgerWord h (4108 + i))) g

/-- The ledger build where neither half is usable (R296). -/
def State.ledgerLost (s : State) : State :=
  let stat := putBit (putBit (s.rd Reg.flcStat) 11 true) 12 true
  ((({ s with flash := { s.flash with table := [], lost := true, nextLog := 8192 } }.wr Reg.flcStat stat).wr
    Reg.flcLedger 0).halfReport).raise 206

/-- How many blank log words half `h` holds. -/
def FlashState.freeLogs (f : FlashState) (h : Nat) : Nat :=
  ((List.range 4084).filter (fun i => f.ledgerWord h (4108 + i) == BitVec.allOnes 64)).length

/-- The sector table `f` of half `h` comes into use, with `blank` its first blank log word, `free` blank words
left and sequence number `seq` (R296, R297). -/
def State.ledgerUse (s : State) (f : FlashState) (h blank free seq : Nat) : State :=
  let t := { s with flash := { f with nextLog := blank } }
  let stat := putBit (putBit (s.rd Reg.flcStat) 12 false) 11 (decide (f.halfCount ≠ 0))
  ((((t.wr Reg.flcStat stat).halfReport).wr Reg.flcLedger
    (BitVec.ofNat 32 (free + h * 2 ^ 13 + seq * 2 ^ 16)))).raiseIf (decide (f.halfCount ≠ 0)) 206

/-- The ledger build from half `h`. -/
def State.ledgerTake (s : State) (h : Nat) : State :=
  s.ledgerUse (s.flash.ledgerTable h) h ((s.flash.ledgerTable h).blankFrom h 4108 4084)
    ((s.flash.ledgerTable h).freeLogs h) ((s.flash.ledgerTable h).ledgerSeq h)

/-- The ledger build of KEEPER BOOT, and its reports (R296, R297). -/
def State.ledgerBuild (s : State) : State :=
  match s.flash.activeHalf with
  | none => s.ledgerLost
  | some h => s.ledgerTake h

/-- The half FLC_LEDGER.ACTIVE names. -/
def State.activeLedger (s : State) : Nat := s.fld Reg.flcLedger 13 13

/-- A program of the next blank log word; FLC_LEDGER.FREE counts down (R294). -/
def State.logProgram (s : State) (w : BitVec 64) : State :=
  let f := s.flash
  let h := s.activeLedger
  let i := f.nextLog
  let f := f.program (infoAddr (ledgerBase h + 8 * i)) s.freeCtr w
  let f := { f with nextLog := f.blankFrom h (i + 1) (8191 - i) }
  (s.withFlash f).setFld Reg.flcLedger 12 0 (s.fld Reg.flcLedger 12 0 - 1)

/-- A log word whose program did not verify: left as it is, and no longer blank (R295). -/
def State.logSpoil (s : State) : State :=
  let f := s.flash
  let h := s.activeLedger
  let i := f.nextLog
  let f := f.spoilWord (infoAddr (ledgerBase h + 8 * i)) s.freeCtr
  let f := { f with nextLog := f.blankFrom h (i + 1) (8191 - i) }
  (s.withFlash f).setFld Reg.flcLedger 12 0 (s.fld Reg.flcLedger 12 0 - 1)

/-- The word an intent program that is cut short leaves: blank or without a valid intent (R295), and not
otherwise known. -/
def cutIntent (token : Nat) (w : BitVec 64) : BitVec 64 :=
  let v := w ||| BitVec.ofNat 64 ((Config.freeWord token).toNat + 2 ^ 32 * (Config.freeNat token))
  if (logValid v).isSome then BitVec.allOnes 64 else v

/-- The intent of log word `nextLog` of half `h` is cut short: the lowest blank word is looked for again. -/
def FlashState.logCut (f : FlashState) (h token : Nat) (w : BitVec 64) : FlashState :=
  let a := infoAddr (ledgerBase h + 8 * f.nextLog)
  let g := f.putWord a (f.word a &&& cutIntent token w)
  { g with nextLog := g.blankFrom h f.nextLog (8192 - f.nextLog) }

/-- The summary words of the sectors of `l` are programmed into ledger half `h`. -/
def FlashState.summarise (f : FlashState) (h token : Nat) (l : List Nat) : FlashState :=
  l.foldl (fun g i => g.program (infoAddr (ledgerBase h + 8 * (1 + i))) token (summaryWord (f.entry i))) f

/-- The ledger with log words blank from word `n` on. -/
def FlashState.logFrom (f : FlashState) (n : Nat) : FlashState := { f with nextLog := n }

/-- Ledger half `h` after a compaction with sequence number `seq`: erased, the summary, then the header (R298). -/
def FlashState.compacted (f : FlashState) (h seq token : Nat) : FlashState :=
  (((f.eraseSector (4096 + h)).summarise h token (List.range 4107)).program (infoAddr (ledgerBase h)) token
    (BitVec.ofNat 64 (0x7A1ED6E5 + seq * 2 ^ 32 + (2 ^ 15 - 1) * 2 ^ 48))).logFrom 4108

/-- A compaction completes: the other half holds the sector table's summary and becomes active (R298). -/
def State.compact (s : State) : State :=
  let h := 1 - s.activeLedger
  let seq := (s.fld Reg.flcLedger 31 16 + 1) % 2 ^ 16
  ((s.withFlash (s.flash.compacted h seq s.freeCtr)).wr Reg.flcLedger
    (BitVec.ofNat 32 (4084 + h * 2 ^ 13 + seq * 2 ^ 16))).setBit Reg.flcStat 6 false

end Sys2Proof.Machine
end

