-- ==== Sys2Proof/Machine/Journal.lean ====
section
/-! DEFINITION. The boot journal in the flash info block (R224 to R228). -/
namespace Sys2Proof.Machine

/-- FLC_STAT.BUSY: an operation is in progress, suspended or not. -/
def State.flashOpBusy (s : State) : Bool := s.bit Reg.flcStat 0

/-- Is a stream being read from the on-package flash: an image (R208), an opened source (R233)? -/
def State.flashStreaming (s : State) : Bool :=
  (s.boot.reading && decide (s.fld Reg.sysBoot 1 0 = 0)) || decide (s.fld Reg.cfgPsrc 2 0 = 0)

/-! Refusals (R303). -/

/-- A refused command cycle: FLC_ERR, EV204, and the report at a host port; NOT_OWNER is also a
discarded write (R278, R303, R378). -/
def State.flashRefuse (s : State) (ag : Agent) (off code : Nat) : State :=
  let w := putBits (s.rd Reg.flcErr) 3 0 code
  let w := putBit w (if code = 1 then 4 else if code = 2 then 5 else 6) true
  let t := (s.wr Reg.flcErr w).raise 204
  if code = 1 then t.discard ag 1 off else t.portDiscard ag 1 off

/-- Is a sector protected (R277, R302)? -/
def State.flashProtected (s : State) (sec : Nat) : Bool :=
  if sec < 4096 then
    [0, 1, 2, 3].any (fun r =>
      s.bit (Reg.flcProtlo r) 31 && decide (s.fld (Reg.flcProtlo r) 11 0 ≤ sec) && decide (sec ≤ s.fld (Reg.flcProthi r) 11 0))
  else s.bit Reg.flcInfoprot (sec - 4096)

/-- The lowest refusal code of a program of words at `addr`, if any (R303). -/
def State.programRefusal (s : State) (addr : Nat) (words : List (BitVec 64)) : Option Nat :=
  let sec := sectorOf addr
  let e := s.flash.entry sec
  if s.flashProtected sec then some 4
  else if e.bad then some 5
  else if e.half then some 6
  else if (words.zipIdx).any (fun (w, i) => w &&& ~~~(s.flash.word (addr + 8 * i)) ≠ 0#64) then some 7
  else none

/-- Info-block offset of a journal half (R224). -/
def journalBase (h : Nat) : Nat := 0x80000 + 0x40000 * h

/-- The records of a half that hold a byte that is not erased, in ascending order. -/
def FlashState.slotsUsed (f : FlashState) (h : Nat) : List Nat :=
  let lo := infoAddr (journalBase h)
  if Store.get (fun _ => 0) f.junkSector (4105 + h) ≠ 0 then List.range 8192
  else
    let cells := (f.cells.filter (fun e => decide (lo ≤ e.1) && decide (e.1 < lo + 0x40000))).map (fun e => (e.1 - lo) / 32)
    let junk := (f.junkWord.filter (fun e => decide (lo ≤ 8 * e.1) && decide (8 * e.1 < lo + 0x40000))).map (fun e => (8 * e.1 - lo) / 32)
    ((cells ++ junk).insertionSort (· ≤ ·)).dedup

/-- The next record number of a half, 8,192 when it is full (R225). -/
def FlashState.journalNext (f : FlashState) (h : Nat) : Nat :=
  match (f.slotsUsed h).getLast? with
  | none => 0
  | some i => i + 1

/-- The first 24 bytes of a record, as a number, when its CRC matches (R225). -/
def FlashState.record (f : FlashState) (h i : Nat) : Option Nat :=
  let b := f.bytes (infoAddr (journalBase h + 32 * i)) 32
  if crc32 (b.take 24) = natOfBytes ((b.drop 24).take 4) then some (natOfBytes (b.take 24)) else none

/-- The valid records of a half, in order. -/
def FlashState.records (f : FlashState) (h : Nat) : List Nat := (f.slotsUsed h).filterMap (f.record h)

/-- Fields of a record (R224). -/
def recStep (r : Nat) : Nat := r % 2 ^ 8
def recOutcome (r : Nat) : Nat := r / 2 ^ 8 % 2 ^ 8
def recImage (r : Nat) : Nat := r / 2 ^ 24 % 2 ^ 4
def recSource (r : Nat) : Nat := r / 2 ^ 28 % 2 ^ 4
def recBootNum (r : Nat) : Nat := r / 2 ^ 32 % 2 ^ 32
def recArg (r : Nat) : Nat := r / 2 ^ 96 % 2 ^ 16
def recDirSeq (r : Nat) : Nat := r / 2 ^ 160 % 2 ^ 32

/-- The half whose records are the later ones: the half in use (R225). -/
def FlashState.journalHalf (f : FlashState) : Nat :=
  let top (h : Nat) : Option Nat := (f.records h).foldl (fun a r => some (max (a.getD 0) (recBootNum r))) none
  match top 0, top 1 with
  | _, none => 0
  | none, some _ => 1
  | some a, some b => if a < b then 1 else if b < a then 0 else if f.journalNext 0 < 8192 then 0 else 1

/-- Every valid record, the older half first. -/
def FlashState.allRecords (f : FlashState) : List Nat :=
  let h := f.journalHalf
  f.records (1 - h) ++ f.records h

/-- One more than the highest boot number, 0 with no record (R225). -/
def FlashState.nextBootNum (f : FlashState) : Nat := f.allRecords.foldl (fun a r => max a (recBootNum r + 1)) 0

/-- Words 0 to 2 of a record and then word 3 are programmed at record `i` of half `h` (R225). -/
def FlashState.putRecord (f : FlashState) (h i token r : Nat) : FlashState :=
  let a := infoAddr (journalBase h + 32 * i)
  let crc := crc32 (bytesOfNat 24 r)
  let w (k : Nat) : BitVec 64 := BitVec.ofNat 64 (r / 2 ^ (64 * k))
  (((f.program a token (w 0)).program (a + 8) token (w 1)).program (a + 16) token (w 2)).program (a + 24) token
    (BitVec.ofNat 64 crc)

/-- The half and number the next record goes to, none while no blank half has room (R225). -/
def State.journalRoom (s : State) : Option (Nat × Nat) :=
  let h := s.boot.half
  let n := s.flash.journalNext h
  if n < 8192 then some (h, n)
  else if s.flash.slotsUsed (1 - h) = [] then some (1 - h, 0) else none

/-- Can the keeper program the journal now (R225)?  It takes the flash command semaphore for each record, so
not while another agent holds it (R278). -/
def State.journalFree (s : State) : Bool :=
  !s.railDead 9 && !s.flashStreaming && !s.flashOpBusy && (decide (s.semOwner 1 = 0) || s.holds .keeper 1)

/-- Why the controller refuses a record's program: its half is protected, bad or half-erased (R296, R301 to
R303). -/
def State.journalRefusal (s : State) (h : Nat) : Option Nat :=
  let e := s.flash.entry (4105 + h)
  if s.flashProtected (4105 + h) then some 4 else if e.bad then some 5 else if e.half then some 6 else none

/-- One record is written, when there is room.  A record whose program is refused is lost (DESIGN CHOICE,
assumption 58). -/
def State.journalPut (s : State) (r : Nat) : Option State :=
  match s.journalRoom with
  | some (h, i) =>
    some (match s.journalRefusal h with
      | some c => s.flashRefuse .keeper (journalBase h + 32 * i) c
      | none => { s.withFlash (s.flash.putRecord h i s.freeCtr r) with boot := { s.boot with half := h } })
  | none => none

/-- The records held in keeper SRAM are written, oldest first, as far as there is room (R225). -/
def State.journalWriteAll (s : State) : List Nat → State
  | [] => { s with boot := { s.boot with held := [] } }
  | r :: rs =>
    match s.journalPut r with
    | some t => t.journalWriteAll rs
    | none => { s with boot := { s.boot with held := r :: rs } }

/-- The held records are written when the flash is free (R225). -/
def State.journalFlush (s : State) : State := if s.journalFree then s.journalWriteAll s.boot.held else s

/-- A journal record (R224, R225, R226): written at once, or held; FAIL, SKIPPED and ALTERED set
BOOT_FALLBACK and raise EV177. -/
def State.journal (s : State) (step outcome code src addr arg : Nat) : State :=
  let image := s.fld Reg.sysBoot 5 4
  let seq := match s.boot.dir with
    | some d => d.seq
    | none => 0
  let w0 := step + outcome * 2 ^ 8 + code % 2 ^ 8 * 2 ^ 16 + image * 2 ^ 24 + src * 2 ^ 28 + (s.rd Reg.sysBootnum).toNat * 2 ^ 32
  let w1 := addr + arg % 2 ^ 16 * 2 ^ 32
  let w2 := s.bootTicks / 400 % 2 ^ 32 + seq * 2 ^ 32
  let r := w0 + w1 * 2 ^ 64 + w2 * 2 ^ 128
  let held := if s.boot.held.length < 1024 then s.boot.held ++ [r] else s.boot.held
  let t := { s with boot := { s.boot with held := held } }
  let t := t.journalFlush
  if outcome = 0 then t else (t.sysFault 1).raise 177

/-- At an entry to RUN the keeper's erase of the other journal half falls due (R225). -/
def State.eraseTest (s : State) : State :=
  if 7168 < s.flash.journalNext s.boot.half ∧ !(s.flash.slotsUsed (1 - s.boot.half)).isEmpty then
    { s with boot := { s.boot with eraseDue := true } }
  else s

/-! STAGING (R20, R30, R232). -/

/-- RUN becomes STAGING while a staging or a flash operation is active, and STAGING becomes RUN when
neither is (R20). -/
def State.stagingMode (s : State) : State :=
  let active := s.bit Reg.sysMode 9 || s.bit Reg.sysMode 10
  if s.mode = 0x6 ∧ active then s.setMode 0x7
  else if s.mode = 0x7 ∧ !active then (s.setMode 0x6).eraseTest
  else s

/-- Outcome codes (R224). -/
def jPass : Nat := 0
def jFail : Nat := 1
def jSkipped : Nat := 2
def jAltered : Nat := 3

end Sys2Proof.Machine
end

