-- ==== Sys2Proof/Machine/Flash.lean ====
section
/-! DEFINITION. The on-package flash: command cycles, operations, suspends, protection and reads
(chapter 10_on_package_flash.md). -/
namespace Sys2Proof.Machine

/-! Operations. -/

/-- Is the operation in progress suspended by either source (R289)? -/
def State.flashSuspended (s : State) : Bool := s.bit Reg.flcStat 4 || s.bit Reg.flcStat 5

/-- The die is busy from an operation's start to its end, except while suspended (R287). -/
def State.flashBusy (s : State) : Bool := s.flashOpBusy && !s.flashSuspended

/-- An operation starts: BUSY, OP, SUSPCNT.OP cleared, and the mode may become STAGING (R291, R20).  An engine
that is reading the array suspends it (R287, R289). -/
def State.flashStart (s : State) (op : FlashOp) : State :=
  let t := { s with flash := { s.flash with op := some op, seq := .idle, reqFw := false, reqEng := s.flashStreaming } }
  let t := t.wr Reg.flcStat (putBit (putBits (putBit (t.rd Reg.flcStat) 0 true) 3 1 op.kind) 6 (op.stage == .compactThenIntent))
  ((t.setFld Reg.flcSuspcnt 15 0 0).setBit Reg.sysMode 10 true).stagingMode

/-- The operation leaves the controller: BUSY, OP, both suspends and COMPACT clear (R20, R30).  The
keeper frees the semaphore it held for a journal erase, and writes the records it holds (R225). -/
def State.flashEnd (s : State) : State :=
  let keeper := match s.flash.op with
    | some op => decide (4105 ≤ op.sector) && s.holds .keeper 1 && !s.boot.eraseDue
    | none => false
  let t := { s with flash := { s.flash with op := none, reqFw := false, reqEng := false } }
  let t := ((t.setFld Reg.flcStat 6 0 0).setBit Reg.sysMode 10 false).stagingMode
  if keeper then (t.semFree 1).journalFlush else t

/-- FLC_LASTOP of an operation that has ended (R304). -/
def State.lastOp (s : State) (op : FlashOp) (pulses : Nat) (failed : Bool) : State :=
  s.wr Reg.flcLastop (BitVec.ofNat 32 (pulses % 2 ^ 16 + (op.sector % 4096) * 2 ^ 16 + op.kind % 8 * 2 ^ 28 + failed.toNat * 2 ^ 31))

/-- Pulses beyond the threshold of the operation's kind are reported (R300). -/
def State.wearReport (s : State) (op : FlashOp) (pulses : Nat) : State :=
  let th := if op.kind ≤ 2 then s.fld Reg.flcWear 21 16 else s.fld Reg.flcWear 8 0
  if th < pulses then
    (((s.setBit Reg.flcStat 9 true).sysFault 8).wr Reg.flcWearsec
      (BitVec.ofNat 32 (op.sector % 4096 + (if op.sector < 4096 then 0 else 2 ^ 12)))).raise 202
  else s

/-- The BAD or INFO_BAD word of a sector, intent and completion together (R294). -/
def badLogWord (sec count pulses : Nat) : BitVec 64 :=
  logIntent (sec % 4096) (if sec < 4096 then 6 else 7) count &&& logCompletion pulses

/-- The sector table marks the sector of `op` bad and the operation ends (R301); `e` is its entry. -/
def State.badEntry (s : State) (op : FlashOp) (e : SecEntry) : State :=
  let t := s.withFlash ((s.flash.setEntry op.sector { e with bad := true }).spoilSector op.sector s.freeCtr)
  ((((t.setBit Reg.flcErr 7 true).lastOp op op.pulses true).flashEnd).halfReport).raise 201

/-- A failed operation ends: its sector is marked bad with a log word, its content undefined (R301,
R286, R295). -/
def State.markBad (s : State) (op : FlashOp) : State :=
  (s.logProgram (badLogWord op.sector (s.flash.entry op.sector).erases op.pulses)).badEntry op (s.flash.entry op.sector)

/-- A failed operation marks its sector bad, after a compaction when no blank log word is left (R301). -/
def State.failOp (s : State) (op : FlashOp) : State :=
  if s.flash.nextLog < 8192 then s.markBad op
  else
    ({ s with flash := { s.flash with op := some { op with stage := .compactThenBad } } }).setBit Reg.flcStat 6 true

/-- An operation in progress is abandoned (R299): an erase whose intent had verified leaves its sector
half-erased, the compaction before its BAD word among it. -/
def State.flashAbandon (s : State) : State :=
  match s.flash.op with
  | none => s
  | some op =>
    let f := s.flash
    let f := match op.stage with
      | .program => op.words.foldl (fun (p : FlashState × Nat) w =>
          (if w = BitVec.allOnes 64 then p.1 else p.1.spoilWord p.2 s.freeCtr, p.2 + 8)) (f, op.addr) |>.1
      | .erase => (f.setEntry op.sector { f.entry op.sector with half := true }).spoilSector op.sector s.freeCtr
      | .compactThenIntent => f.spoilSector (4096 + (1 - s.activeLedger)) s.freeCtr
      | .compactThenBad =>
        let f := f.spoilSector (4096 + (1 - s.activeLedger)) s.freeCtr
        if op.kind ≤ 2 then f
        else (f.setEntry op.sector { f.entry op.sector with half := true }).spoilSector op.sector s.freeCtr
      | .intent =>
        if f.nextLog < 8192 then
          f.logCut s.activeLedger s.freeCtr (logIntent (op.sector % 4096) (if op.sector < 4096 then 4 else 5)
            (min 0xFFFF ((f.entry op.sector).erases + 1)))
        else f
    let t := s.withFlash f
    let t := if op.stage = .intent then t.setFld Reg.flcLedger 12 0 (f.freeLogs s.activeLedger) else t
    (t.flashEnd).halfReport

/-! Suspend and resume (R289 to R291). -/

/-- A suspend source asks: pending until the pulse ends, or in effect at once when the other source
holds the operation already; with no operation it has no effect (R290, R291). -/
def State.flashSuspend (s : State) (eng : Bool) : State :=
  if s.flashOpBusy then
    (if s.flashSuspended then s.setBit Reg.flcStat (if eng then 5 else 4) true
     else if eng then { s with flash := { s.flash with reqEng := true } }
     else { s with flash := { s.flash with reqFw := true } })
  else s

/-- A suspend source lets go: firmware by 0x30, an engine when its read ends (R289, R290). -/
def State.flashResume (s : State) (eng : Bool) : State :=
  if eng then { s with flash := { s.flash with reqEng := false } }.setBit Reg.flcStat 5 false
  else s.setBit Reg.flcStat 4 false

/-- The meaning of FLASH_SUSPEND_EFFECT (R290, R291). -/
def execFlashSuspendEffect (s : State) : Host.Outcome State Fault Refusal :=
  if s.flashBusy && (s.flash.reqFw || s.flash.reqEng) then
    let t := s.wr Reg.flcStat (putBit (putBit (s.rd Reg.flcStat) 4 s.flash.reqFw) 5 s.flash.reqEng)
    let t := { t with flash := { t.flash with reqFw := false, reqEng := false } }
    let op := min 0xFFFF (s.fld Reg.flcSuspcnt 15 0 + 1)
    let total := min 0xFFFF (s.fld Reg.flcSuspcnt 31 16 + 1)
    let t := t.wr Reg.flcSuspcnt (BitVec.ofNat 32 (op + total * 2 ^ 16))
    if op = max 1 (s.fld Reg.flcCfg 15 0) ∧ s.fld Reg.flcSuspcnt 15 0 ≠ op then .next ((t.setBit Reg.flcStat 10 true).raise 203)
    else .next t
  else .next s

/-! Command cycles' starts (R280, R295). -/

/-- The operation FLC_STAT.OP codes for an erase of a sector. -/
def eraseKind (sec : Nat) : Nat := if sec < 4096 then 3 else 4

/-- The last data cycle starts a program, or refuses it (R280, R283, R286). -/
def State.startProgram (s : State) (ag : Agent) (off : Nat) (line : Bool) (addr : Nat) (words : List (BitVec 64)) : State :=
  let t := { s with flash := { s.flash with seq := .idle } }
  match s.programRefusal addr words with
  | some c => t.flashRefuse ag off c
  | none => t.flashStart { kind := if line then 2 else 1, sector := sectorOf addr, addr := addr, words := words,
                           stage := .program, attempts := 0, logWord := 0, pulses := 0 }

/-- The confirmed erase starts, or is refused (R295, R301, R302). -/
def State.startErase (s : State) (ag : Agent) (off sec : Nat) : State :=
  let t := { s with flash := { s.flash with seq := .idle } }
  if s.flashProtected sec then t.flashRefuse ag off 4
  else if (s.flash.entry sec).bad then t.flashRefuse ag off 5
  else t.flashStart { kind := eraseKind sec, sector := sec, addr := (sectorSpan sec).1, words := [],
                      stage := if s.flash.nextLog < 8192 then .intent else .compactThenIntent,
                      attempts := 0, logWord := 0, pulses := 0 }

/-! Command cycles (R278 to R282). -/

/-- Unlock offsets (R279). -/
def unlockOff1 : Nat := 0x2AAAAAA8
def unlockOff2 : Nat := 0x15555550

/-- The holder is in info mode (R281). -/
def State.infoMode (s : State) : Bool := s.bit Reg.flcStat 8

/-- The flash address a command or data cycle at window offset `off` names; none where info mode has
no location (R281). -/
def State.cycleAddr (s : State) (off : Nat) : Option Nat :=
  if s.infoMode then (if off < 0x100000 then some (infoAddr off) else none)
  else if off < 2 ^ 30 then some off else none

/-- The block with the sequencer at a phase. -/
def State.setSeq (s : State) (q : FlashSeq) : State := { s with flash := { s.flash with seq := q } }

/-- A cycle that does not fit ends the sequence (R280). -/
def State.seqErr (s : State) (ag : Agent) (off : Nat) : State := (s.setSeq .idle).flashRefuse ag off 2

/-- The command cycle that follows a complete unlock (R280, R281, R282). -/
def State.unlockedCycle (s : State) (ag : Agent) (off code : Nat) : State :=
  match s.cycleAddr off with
  | none => s.seqErr ag off
  | some a =>
    if s.flashBusy then (s.setSeq .idle).flashRefuse ag off 3
    else if code = 0x98 then
      ((s.setSeq .idle).wr Reg.flcStat (putBit (putBit (s.rd Reg.flcStat) 7 false) 8 true))
    else if code = 0xA1 ∨ code = 0xA5 ∨ code = 0xE7 then
      (if code = 0xA5 ∧ a % 256 ≠ 0 then s.seqErr ag off
       else if s.flashOpBusy then (s.setSeq .idle).flashRefuse ag off 3
       else if code = 0xE7 then s.setSeq (.eraseSetup (sectorOf a))
       else s.setSeq (.data (code = 0xA5) a [] none))
    else s.seqErr ag off

/-- A command cycle outside a sequence (R280, R281, R282, R289, R290). -/
def State.idleCycle (s : State) (ag : Agent) (off code : Nat) : State :=
  if code = 0xC3 then
    (if off ≠ unlockOff1 then s.seqErr ag off
     else if s.flashBusy then s.flashRefuse ag off 3
     else s.setSeq .unlock1)
  else if s.infoMode ∧ 0x100000 ≤ off then s.seqErr ag off
  else if code = 0xB0 then s.flashSuspend false
  else if code = 0x30 then (if s.bit Reg.flcStat 4 then s.flashResume false else s)
  else if code = 0x70 then s.wr Reg.flcStat (putBit (putBit (s.rd Reg.flcStat) 7 true) 8 false)
  else if code = 0xF0 then s.wr Reg.flcStat (putBit (putBit (s.rd Reg.flcStat) 7 false) 8 false)
  else s.seqErr ag off

/-- A data cycle, or half of one, of a program in progress (R279, R280, R285). -/
def State.dataCycle (s : State) (ag : Agent) (off : Nat) (wide : Bool) (v : BitVec 64)
    (line : Bool) (addr : Nat) (words : List (BitVec 64)) (half : Option Word) : State :=
  match s.cycleAddr off with
  | none => s.seqErr ag off
  | some a =>
    let want := addr + 8 * words.length
    let full (w : BitVec 64) : State :=
      let ws := words ++ [w]
      if ws.length = (if line then 32 else 1) then s.startProgram ag off line addr ws
      else s.setSeq (.data line addr ws none)
    match half with
    | none =>
      if a ≠ want then s.seqErr ag off
      else if wide then full v
      else s.setSeq (.data line addr words (some (v.truncate 32)))
    | some lo => if wide ∨ a ≠ want + 4 then s.seqErr ag off else full ((v.truncate 32) ++ lo)

/-- Does the flash controller serve an agent: not where SAFE HOLD stops it, nor without VFLASH or VHUB (R27, R28,
R412)? -/
def State.flashServes (s : State) (ag : Agent) : Bool :=
  !s.railDead 9 && !s.railDead 1 && (!s.hubClosed || decide (ag = .keeper))

/-- A write into the array window: a command or data cycle (R278 to R282). -/
def State.flashCycle (s : State) (ag : Agent) (off : Nat) (wide : Bool) (v : BitVec 64) : State :=
  if !s.flashServes ag then s
  else if !s.holds ag 1 then s.flashRefuse ag off 1
  else match s.flash.seq with
    | .data line addr words half => s.dataCycle ag off wide v line addr words half
    | q =>
      let code := v.toNat
      if 0x100 ≤ code ∨ off % 8 ≠ 0 then s.seqErr ag off
      else match q with
        | .idle => s.idleCycle ag off code
        | .unlock1 =>
          if code = 0x3C ∧ off = unlockOff2 then
            (if s.flashBusy then (s.setSeq .idle).flashRefuse ag off 3 else s.setSeq .unlocked)
          else s.seqErr ag off
        | .unlocked => s.unlockedCycle ag off code
        | .eraseSetup sec => if code = 0xC3 ∧ off = unlockOff1 then s.setSeq (.eraseUnlock1 sec) else s.seqErr ag off
        | .eraseUnlock1 sec => if code = 0x3C ∧ off = unlockOff2 then s.setSeq (.eraseUnlocked sec) else s.seqErr ag off
        | .eraseUnlocked sec =>
          if code = 0x71 ∧ (s.cycleAddr off).map sectorOf = some sec then s.startErase ag off sec else s.seqErr ag off
        | .data _ _ _ _ => s

/-- The meaning of FLASH_UNLOCK_FIRST (R279). -/
def execFlashUnlockFirst (ag : Agent) (off : Nat) (s : State) : Host.Outcome State Fault Refusal :=
  .next (s.flashCycle ag off true 0xC3#64)

/-- The meaning of FLASH_UNLOCK_SECOND (R279). -/
def execFlashUnlockSecond (ag : Agent) (off : Nat) (s : State) : Host.Outcome State Fault Refusal :=
  .next (s.flashCycle ag off true 0x3C#64)

/-- The meaning of FLASH_PROGRAM_WORD_CMD (R280). -/
def execFlashProgramWordCmd (ag : Agent) (off : Nat) (s : State) : Host.Outcome State Fault Refusal :=
  .next (s.flashCycle ag off true 0xA1#64)

/-- The meaning of FLASH_PROGRAM_LINE_CMD (R285). -/
def execFlashProgramLineCmd (ag : Agent) (off : Nat) (s : State) : Host.Outcome State Fault Refusal :=
  .next (s.flashCycle ag off true 0xA5#64)

/-- The meaning of FLASH_DATA_CYCLE (R279). -/
def execFlashDataCycle (ag : Agent) (off : Nat) (wide : Bool) (v : BitVec 64) (s : State) :
    Host.Outcome State Fault Refusal := .next (s.flashCycle ag off wide v)

/-- The meaning of FLASH_ERASE_SETUP (R280). -/
def execFlashEraseSetup (ag : Agent) (off : Nat) (s : State) : Host.Outcome State Fault Refusal :=
  .next (s.flashCycle ag off true 0xE7#64)

/-- The meaning of FLASH_ERASE_CONFIRM (R295). -/
def execFlashEraseConfirm (ag : Agent) (off : Nat) (s : State) : Host.Outcome State Fault Refusal :=
  .next (s.flashCycle ag off true 0x71#64)

/-- The meaning of FLASH_SUSPEND_CMD (R289). -/
def execFlashSuspendCmd (ag : Agent) (off : Nat) (s : State) : Host.Outcome State Fault Refusal :=
  .next (s.flashCycle ag off true 0xB0#64)

/-- The meaning of FLASH_RESUME_CMD (R290). -/
def execFlashResumeCmd (ag : Agent) (off : Nat) (s : State) : Host.Outcome State Fault Refusal :=
  .next (s.flashCycle ag off true 0x30#64)

/-- The meaning of FLASH_READ_STATUS_CMD (R281). -/
def execFlashReadStatusCmd (ag : Agent) (off : Nat) (s : State) : Host.Outcome State Fault Refusal :=
  .next (s.flashCycle ag off true 0x70#64)

/-- The meaning of FLASH_INFO_ENTRY_CMD (R281). -/
def execFlashInfoEntryCmd (ag : Agent) (off : Nat) (s : State) : Host.Outcome State Fault Refusal :=
  .next (s.flashCycle ag off true 0x98#64)

/-- The meaning of FLASH_RETURN_TO_READ (R281). -/
def execFlashReturnToRead (ag : Agent) (off : Nat) (s : State) : Host.Outcome State Fault Refusal :=
  .next (s.flashCycle ag off true 0xF0#64)

/-! The ends of operations. -/

/-- The pulse limit of an operation (R292). -/
def pulseLimit (kind : Nat) : Nat := if kind = 1 then 50 else if kind = 2 then 64 else 500

/-- The meaning of FLASH_PROGRAM_DONE: a pass after `pulses`, or the pulse limit with VFAIL (R286); more pulses
than the limit are no pass (R292). -/
def execFlashProgramDone (pulses : Nat) (pass : Bool) (s : State) : Host.Outcome State Fault Refusal :=
  match s.flash.op with
  | some op =>
    if op.stage ≠ .program ∨ s.flashSuspended then .next s
    else if pass ∧ pulses ≤ pulseLimit op.kind then
      let f := (op.words.foldl (fun (p : FlashState × Nat) w => (p.1.program p.2 s.freeCtr w, p.2 + 8)) (s.flash, op.addr)).1
      .next (((((s.withFlash f).flashEnd).lastOp op pulses false).wearReport op pulses).raise 200)
    else
      let op := { op with pulses := pulseLimit op.kind }
      let f := (op.words.foldl (fun (p : FlashState × Nat) w =>
        (if w = BitVec.allOnes 64 then p.1 else p.1.spoilWord p.2 s.freeCtr, p.2 + 8)) (s.flash, op.addr)).1
      .next (((s.withFlash f).wearReport op op.pulses).failOp op)
  | none => .next s

/-- A number of failed intent programs: each leaves its log word as it is (R295). -/
def State.spoilLogs (s : State) : Nat → State
  | 0 => s
  | n + 1 => State.spoilLogs s.logSpoil n

/-- The erase is refused with LEDGER_FAIL (R295, R303). -/
def State.ledgerFail (s : State) : State :=
  let w := putBit (putBits (s.rd Reg.flcErr) 3 0 8) 6 true
  (((s.wr Reg.flcErr w).flashEnd).raise 204).raise 201

/-- The meaning of FLASH_INTENT_RECORDED after `fails` failed programs: the eighth failure refuses the
erase; with no blank word left a compaction runs first (R295). -/
def execFlashIntentRecorded (fails : Fin 9) (s : State) : Host.Outcome State Fault Refusal :=
  match s.flash.op with
  | some op =>
    if op.stage ≠ .intent ∨ s.flashSuspended then .next s
    else
      let free := s.fld Reg.flcLedger 12 0
      let bad := min (min fails.val (8 - op.attempts)) free
      let t := s.spoilLogs bad
      if 8 ≤ op.attempts + bad then .next t.ledgerFail
      else if t.flash.nextLog < 8192 then
        let e := t.flash.entry op.sector
        let word := t.flash.nextLog
        let t := t.logProgram (logIntent (op.sector % 4096) (if op.sector < 4096 then 4 else 5) (min 0xFFFF (e.erases + 1)))
        .next { t with flash := { t.flash with op := some { op with stage := .erase, logWord := word } } }
      else
        .next (({ t with flash := { t.flash with op := some { op with stage := .compactThenIntent, attempts := op.attempts + bad } } }).setBit Reg.flcStat 6 true)
  | none => .next s

/-- The operation goes on at a stage. -/
def State.opStage (s : State) (op : FlashOp) (st : FlashStage) : State :=
  { s with flash := { s.flash with op := some { op with stage := st } } }

/-- The meaning of FLASH_COMPACTION_DONE (R298). -/
def execFlashCompactionDone (s : State) : Host.Outcome State Fault Refusal :=
  match s.flash.op with
  | some op =>
    if s.flashSuspended then .next s
    else match op.stage with
      | .compactThenIntent => .next (s.compact.opStage op .intent)
      | .compactThenBad => .next (s.compact.markBad op)
      | _ => .next s
  | none => .next s

/-- The completion is programmed in the erase's own log word (R294, R295). -/
def State.logComplete (s : State) (op : FlashOp) (pulses : Nat) : State :=
  let a := infoAddr (ledgerBase s.activeLedger + 8 * op.logWord)
  s.withFlash (s.flash.program a s.freeCtr (logCompletion pulses))

/-- The meaning of FLASH_ERASE_DONE: the verify passed after `pulses`, or the limit was reached (R295,
R300, R301). -/
def execFlashEraseDone (pulses : Nat) (pass : Bool) (s : State) : Host.Outcome State Fault Refusal :=
  match s.flash.op with
  | some op =>
    if op.stage ≠ .erase ∨ s.flashSuspended then .next s
    else
      let e := s.flash.entry op.sector
      let done : SecEntry := { e with erases := min 0xFFFF (e.erases + 1), half := false }
      if pass ∧ pulses ≤ 500 then
        let t := s.logComplete op pulses
        let t := { t with flash := (t.flash.eraseSector op.sector).setEntry op.sector done }
        .next (((((t.flashEnd).halfReport).lastOp op pulses false).wearReport op pulses).raise 200)
      else
        let t := s.logComplete op 500
        let t := { t with flash := t.flash.setEntry op.sector done }
        let op := { op with pulses := 500 }
        .next ((t.wearReport op 500).failOp op)
  | none => .next s

/-! Reads (R281, R287, R288). -/

/-- Does an agent's read of the flash see busy reads as a host port's: host ports, the gateway and
inbound Wale accesses (R287, R407)? -/
def hostReader : Agent → Bool
  | .hostPcie _ => true
  | .hostSpi _ => true
  | .gateway => true
  | .wale _ => true
  | _ => false

/-- A host read of a busy die or a suspended erase's sector (R287, R288). -/
def State.busyRead (s : State) : State := (s.setBit Reg.flcErr 8 true).raise 205

/-- Is a suspended erase's sector read (R288)? -/
def State.erasedUnder (s : State) (addr : Nat) : Bool :=
  match s.flash.op with
  | some op => (op.kind == 3 || op.kind == 4) && s.flashSuspended && op.sector == sectorOf addr
  | none => false

/-- What an engine or the gang sender reads at a flash address (R288); past the array's end the word is free
(assumption 58). -/
def State.flashEngine (s : State) (addr : Nat) : Word :=
  if 2 ^ 30 ≤ addr then Config.freeWord addr
  else if s.erasedUnder addr then 0xFFFFFFFF#32 else s.flash.word32 addr

/-- What a 32-bit read of window offset `off` returns, none while the reader stalls (R281, R287, R288).  The
keeper's path knows no modes (R276).  Where the controller does not serve the agent the word is free
(assumption 61). -/
def State.flashRead (s : State) (ag : Agent) (off : Nat) : Option Word × State :=
  let mine := s.holds ag 1 && decide (ag ≠ .keeper)
  if !s.flashServes ag then (some s.freshWord.1, s.freshWord.2)
  else if mine && s.bit Reg.flcStat 7 then
    (some (if off / 4 % 2 = 0 then s.rd Reg.flcStat else s.rd Reg.flcErr), s)
  else if s.flashBusy then
    (if hostReader ag then (some 0xFFFFFFFF#32, s.busyRead) else (none, s))
  else
    let a := if mine && s.infoMode then (if off < 0x100000 then some (infoAddr off) else none)
             else if off < 2 ^ 30 then some off else none
    match a with
    | none => (some 0xFFFFFFFF#32, s)
    | some a =>
      if s.erasedUnder a then (some 0xFFFFFFFF#32, if hostReader ag then s.busyRead else s)
      else (some (s.flash.word32 a), s)

/-- The meaning of FLASH_HOST_READ_BUSY: a host read, at once all ones while the flash is busy. -/
def execFlashHostReadBusy (ag : Agent) (off : Nat) (s : State) : Host.Outcome State Fault Refusal :=
  match s.flashRead ag off with
  | (some w, t) => .next (t.emit (.read ag [w]))
  | (none, t) => .next t

/-- The meaning of FLASH_STALLED_READ_DONE: a stalled read completes once the die is not busy. -/
def execFlashStalledReadDone (ag : Agent) (off : Nat) (s : State) : Host.Outcome State Fault Refusal :=
  match s.flashRead ag off with
  | (some w, t) => .next (t.emit (.read ag [w]))
  | (none, t) => .next t

/-- FLC_SECINFO shows the entry FLC_SECQ names (R304). -/
def State.secInfo (s : State) : Word :=
  let q := s.fld Reg.flcSecq 11 0
  let sec := if s.bit Reg.flcSecq 12 then 4096 + q else q
  if s.bit Reg.flcSecq 12 && decide (10 < q) then 0
  else
    let e := s.flash.entry sec
    BitVec.ofNat 32 (e.erases % 2 ^ 16 + e.bad.toNat * 2 ^ 16 + e.half.toNat * 2 ^ 17 + (s.flashProtected sec).toNat * 2 ^ 18)

end Sys2Proof.Machine
end

