-- ==== Sys2Proof/Machine/Keys.lean ====
section
/-! DEFINITION. Fuses, the life-cycle state, keys, and the checks of a signed request (chapter
18_life_cycle_and_keys.md).  The commands stand in LifeCycle.lean. -/
namespace Sys2Proof.Machine

/-! Fuses. -/

/-- The state codeword of a state code (R450). -/
def stateWord (code : Nat) : Word :=
  match code with
  | 1 => 0xF#32 | 2 => 0xFF#32 | 3 => 0xFFF#32 | 4 => 0xFFFF#32 | 5 => 0xFFFFFF#32 | _ => 0#32

/-- The state a pair of fuse reads and a unit identity decode to (R450, R451); 0xF is LOCKED. -/
def decodeState (a b : Word) (uid : Nat) : Nat :=
  if a ≠ b then 0xF
  else match [0, 1, 2, 3, 4, 5].find? (fun c => stateWord c == a) with
    | none => 0xF
    | some c => if (c = 0 ∧ uid ≠ 0) ∨ (c ≠ 0 ∧ uid = 0) then 0xF else c

/-- Has every other pair equal halves (R451)? -/
def Fuses.pairsWhole (f : Fuses) : Bool :=
  (f.killA == f.killB) && (f.testA == f.testB) && (f.debugA == f.debugB) &&
    [f.owner, f.key].all (fun t => [0, 1].all (fun i =>
      let e := Store.get (fun _ => {}) t i
      e.validA == e.validB))

/-- The state the fuses decode to when both senses agree (R451). -/
def Fuses.state (f : Fuses) : Nat := if f.pairsWhole then decodeState f.stateA f.stateB f.uid else 0xF

/-- Owner slot `i`. -/
def Fuses.ownerSlot (f : Fuses) (i : Nat) : FuseSlot := Store.get (fun _ => {}) f.owner i

/-- KEY_FUSE slot `i`. -/
def Fuses.keySlot (f : Fuses) (i : Nat) : FuseSlot := Store.get (fun _ => {}) f.key i

/-- The bytes of a number, least significant first. -/
def leBytes (n v : Nat) : List Byte := bytesOfNat n v

/-- Is a slot of `n` bytes valid: VALID blown and the check matches (R454)? -/
def FuseSlot.valid (e : FuseSlot) (n : Nat) : Bool :=
  e.validA && e.validB && decide (e.check = crc32 (leBytes n e.value))

/-- Is no fuse of the slot blown? -/
def FuseSlot.blank (e : FuseSlot) : Bool := decide (e = {})

/-- The lower valid owner slot's hash (R455). -/
def Fuses.ownerHash (f : Fuses) : Option Nat :=
  ([0, 1].find? (fun i => (f.ownerSlot i).valid 48)).map (fun i => (f.ownerSlot i).value)

/-- Is KILL blown (R455)? -/
def Fuses.kill (f : Fuses) : Bool := f.killA && f.killB

/-- The lower valid KEY_FUSE slot's key, whatever KILL says. -/
def Fuses.keyFuse (f : Fuses) : Option Nat :=
  ([0, 1].find? (fun i => (f.keySlot i).valid 32)).map (fun i => (f.keySlot i).value)

/-- Bit `b` of a number set. -/
def setNatBit (v b : Nat) : Nat := v ||| 2 ^ b

/-- A slot with one of its fuses blown; the value has `n` bits. -/
def FuseSlot.blow (e : FuseSlot) (n bit : Nat) : FuseSlot :=
  if bit < n then { e with value := setNatBit e.value bit }
  else if bit < n + 32 then { e with check := setNatBit e.check (bit - n) }
  else if bit = n + 32 then { e with validA := true }
  else { e with validB := true }

/-- The fuse array with one more fuse blown (R452). -/
def Fuses.blow (f : Fuses) : FuseRef → Fuses
  | .counter => { f with counter := f.counter + 1 }
  | .policy i => { f with policy := setNatBit f.policy i }
  | .state i half =>
    if half then { f with stateB := putBit f.stateB i true } else { f with stateA := putBit f.stateA i true }
  | .kill half => if half then { f with killB := true } else { f with killA := true }
  | .owner i b => { f with owner := Store.set (fun _ => {}) f.owner i ((f.ownerSlot i).blow 384 b) }
  | .key i b => { f with key := Store.set (fun _ => {}) f.key i ((f.keySlot i).blow 256 b) }
  | .testToken i half =>
    if half then { f with testB := putBit f.testB i true } else { f with testA := putBit f.testA i true }
  | .debugToken i half =>
    if half then { f with debugB := putBit f.debugB i true } else { f with debugA := putBit f.debugA i true }

/-- The block with fuses blown, in order. -/
def State.blow (s : State) (fs : List FuseRef) : State :=
  { s with keys := { s.keys with fuses := fs.foldl Fuses.blow s.keys.fuses } }

/-! What the LC registers show. -/

/-- The check value of a key entry (R466). -/
def keyCheck (k : Option Nat) : Word :=
  match k with
  | none => 0#32
  | some v =>
    match aesBlock (aesKeys ((leBytes 32 v).map BitVec.toNat)) (List.replicate 16 0) with
    | a :: b :: c :: _ => BitVec.ofNat 32 (a + b * 256 + c * 65536)
    | _ => 0#32

/-- LC_STATE.STATE, the state in effect (R448). -/
def State.lcState (s : State) : Nat := s.fld Reg.lcState 3 0

/-- POLICY in effect (R449, R459). -/
def State.lcPolicy (s : State) (i : Nat) : Bool := s.bit Reg.lcState (12 + i)

/-- The fields of LC_STATE and LC_TOKENS that follow the fuses and KEY_BBR at once, and the key check
values (R466, R469). -/
def State.lcRefresh (s : State) : State :=
  let f := s.keys.fuses
  let w := s.rd Reg.lcState
  let w := putBit w 9 f.ownerHash.isSome
  let w := putBit w 10 (f.keyFuse.isSome && !f.kill)
  let w := putBit w 11 (decide (s.keys.bbr ≠ 0))
  let w := putBits w 24 16 f.counter
  let tk := BitVec.ofNat 32 ((f.testA &&& f.testB).toNat % 2 ^ 16 + (f.debugA &&& f.debugB).toNat % 2 ^ 8 * 2 ^ 16)
  (((s.wr Reg.lcState w).wr Reg.lcTokens tk).wr Reg.lcKcv (keyCheck s.keys.entryFuse)).wr Reg.lcKcvb
    (keyCheck s.keys.entryBbr)

/-- The keeper's decode at KEEPER BOOT (R448, R451): the state and POLICY in effect, and the unit
identity.  `agree`: the two senses of the array agree. -/
def State.lcDecode (s : State) (agree : Bool) : State :=
  let f := s.keys.fuses
  let st := if agree then f.state else 0xF
  let w := putBits (putBits (putBit (s.rd Reg.lcState) 8 false) 3 0 st) 7 4 st
  let s := s.wr Reg.lcState (putBits w 14 12 f.policy)
  ((List.range 4).foldl (fun s i => s.wr (Reg.lcUid i) (BitVec.ofNat 32 (f.uid / 2 ^ (32 * i)))) s).lcRefresh

/-! The key register (R463). -/

/-- The key register is cleared. -/
def State.keyClear (s : State) : State :=
  let t := { s with keys := { s.keys with entryFuse := none, entryBbr := none } }
  t.lcRefresh

/-- The keeper loads both entries from their sources (R463). -/
def State.keyLoad (s : State) : State :=
  let f := s.keys.fuses
  let k := { s.keys with
    entryFuse := if f.kill then none else f.keyFuse,
    entryBbr := if s.keys.bbr = 0 then none else some s.keys.bbr }
  let t := { s with keys := k }
  t.lcRefresh

/-- KEY_BBR and its entry are zeroised, with the cause's bit and EV315 (R464).  A stream under KEY_BBR
is ended by the caller (R465). -/
def State.zeroiseKey (s : State) (cause : Nat) : State :=
  let k := { s.keys with
    bbr := 0, entryBbr := none, req := s.keys.req.map (fun r => { r with tampered := true }) }
  let s := { s with keys := k }
  ((s.setBit Reg.lcZcause cause true).lcRefresh).raise 315

/-- The entry a stream's KEYSEL names, when it holds a key (R463, R448). -/
def State.streamKey (s : State) (keysel : Nat) : Option Nat :=
  if keysel = 1 then s.keys.entryFuse else if keysel = 2 then s.keys.entryBbr else none

/-! Signed requests (R456 to R461). -/

/-- The little-endian number in `n` bytes from offset `o` of a request (R456). -/
def reqField (b : List Byte) (o n : Nat) : Nat := natOfBytes ((b.drop o).take n)

/-- Bytes of a request, as numbers. -/
def reqBytes (b : List Byte) (o n : Nat) : List Nat := ((b.drop o).take n).map BitVec.toNat

/-- The type, target and POLICY fields (R456). -/
def reqType (b : List Byte) : Nat := reqField b 4 4
def reqTarget (b : List Byte) : Nat := reqField b 8 4
def reqPolicy (b : List Byte) : Nat := reqField b 12 4

/-- Is the request a token? -/
def reqToken (b : List Byte) : Bool := reqType b == 0x10 || reqType b == 0x11

/-- Check 1: MAGIC, a listed TYPE and the zero fields (R456, R458, R462). -/
def reqFormatOk (b : List Byte) : Bool :=
  let t := reqType b
  decide (reqField b 0 4 = 0x4C435251) && [1, 2, 3, 4, 5, 0x10, 0x11].contains t &&
    (t == 1 || reqToken b || decide (reqTarget b = 0)) &&
    (if t = 1 ∧ reqTarget b = 3 then decide (reqPolicy b < 8)
     else if t = 0x11 then decide (reqPolicy b < 4) else decide (reqPolicy b = 0)) &&
    (t == 3 || t == 4 || decide (reqField b 0x24 32 = 0)) && decide (reqField b 0x44 12 = 0)

/-- Has the fuse array a valid owner slot? -/
def Fuses.owned (f : Fuses) : Bool := f.ownerHash.isSome

/-- The permitted transitions, given the state in effect (R459). -/
def transitionOk (f : Fuses) (st target policy : Nat) : Bool :=
  match st, target with
  | 0, 1 => true
  | 1, 2 => decide (f.uid ≠ 0)
  | 2, 3 => f.owned
  | 3, 3 => decide (f.policy ||| policy ≠ f.policy)
  | 2, 4 => true
  | 3, 4 => true
  | 0, 5 => true
  | 1, 5 => true
  | 2, 5 => true
  | 3, 5 => true
  | 4, 5 => true
  | _, _ => false

/-- Check 4: are TYPE and TARGET permitted in state `st` (R457, R459)?  `jtag`: the request is LC_TOKEN's, a
TEST_TOKEN in RETURN and a DEBUG_TOKEN in SEALED (R461). -/
def reqPermitted (f : Fuses) (st : Nat) (jtag : Bool) (b : List Byte) : Bool :=
  match reqType b with
  | 1 => !jtag && transitionOk f st (reqTarget b) (reqPolicy b)
  | 2 => !jtag && st == 2 && !f.owned
  | 3 => !jtag && st == 2 && f.owned && f.keyFuse.isNone
  | 4 => !jtag && [2, 3, 4].contains st
  | 5 => !jtag && [2, 3, 4].contains st
  | 0x10 => jtag && st == 4
  | 0x11 => st == 3
  | _ => false

/-- Must Grenric have signed (R457, R459)? -/
def signerGrenric (f : Fuses) (st : Nat) (b : List Byte) : Bool :=
  match reqType b with
  | 1 => if st = 2 ∨ st = 3 then decide (st = 2) && !f.owned else true
  | 4 => (st == 4) || (st == 2 && !f.owned)
  | 5 => (st == 4) || (st == 2 && !f.owned)
  | 0x10 => true
  | _ => false

/-- The hash of PUB as a number, its first byte least significant. -/
def pubHash (b : List Byte) : Nat := natOfBytes ((sha384 (reqBytes b 0x50 96)).map (BitVec.ofNat 8))

/-- Check 5: is PUB the required signer's key (R458)? -/
def reqKeyOk (f : Fuses) (st : Nat) (b : List Byte) : Bool :=
  if reqType b = 2 then true
  else if signerGrenric f st b then decide (pubHash b = Config.grenricHash)
  else f.ownerHash == some (pubHash b)

/-- Check 6: does SIG verify (R456)? -/
def reqSigOk (b : List Byte) : Bool :=
  ecdsaVerify (beNat (reqBytes b 0x50 48)) (beNat (reqBytes b 0x80 48)) (beNat (reqBytes b 0xB0 48))
    (beNat (reqBytes b 0xE0 48)) (sha384 (reqBytes b 0 0xB0))

/-- Check 7: the result code when no blank slot serves the request, 0 when one does (R457, R460). -/
def reqSlot (f : Fuses) (b : List Byte) : Nat :=
  match reqType b with
  | 2 => if [0, 1].any (fun i => (f.ownerSlot i).blank) then 0 else 0x17
  | 3 => if [0, 1].any (fun i => (f.keySlot i).blank) then 0 else 0x17
  | 0x10 => if 16 ≤ reqTarget b then 0x17
            else if getBit (f.testA ||| f.testB) (reqTarget b) then 0x16 else 0
  | 0x11 => if 8 ≤ reqTarget b then 0x17
            else if getBit (f.debugA ||| f.debugB) (reqTarget b) then 0x16 else 0
  | _ => 0

/-- Is the request a transition to SCRAP? -/
def reqScrap (b : List Byte) : Bool := reqType b == 1 && reqTarget b == 5

/-- The checks of R458 in their order: the first failure's result, none when the request passes. -/
def reqCheck (f : Fuses) (st : Nat) (jtag : Bool) (b : List Byte) (vinOk : Bool) : Option Nat :=
  if !reqFormatOk b then some 0x10
  else if reqField b 0x10 16 ≠ f.uid then some 0x11
  else if reqField b 0x20 4 ≠ (if reqToken b then 0xFFFFFFFF else f.counter) then some 0x12
  else if !reqPermitted f st jtag b then some 0x15
  else if !reqKeyOk f st b then some 0x13
  else if !reqSigOk b then some 0x14
  else if reqSlot f b ≠ 0 then some (reqSlot f b)
  else if 255 ≤ f.counter && !reqScrap b && !reqToken b then some 0x18
  else if !vinOk then some 0x19
  else none

/-- The fuses of a slot that hold ones, in the order they burn, VALID last (R454). -/
def slotFuses (mk : Nat → FuseRef) (bytes value : Nat) : List FuseRef :=
  let n := 8 * bytes
  let chk := crc32 (leBytes bytes value)
  ((List.range n).filter (fun i => value.testBit i)).map mk ++
    ((List.range 32).filter (fun i => chk.testBit i)).map (fun i => mk (n + i)) ++ [mk (n + 32), mk (n + 33)]

/-- The first blank slot of two. -/
def firstBlank (slot : Nat → FuseSlot) : Nat := if (slot 0).blank then 0 else 1

/-- The state bits a transition burns, in descending order, each pair one fuse then the other
(R450). -/
def stateFuses (f : Fuses) (target : Nat) : List FuseRef :=
  let want := stateWord target
  ((List.range 32).reverse.filter (fun i => getBit want i)).flatMap (fun i =>
    (if getBit f.stateA i then [] else [.state i false]) ++ (if getBit f.stateB i then [] else [.state i true]))

/-- The fuses a request burns, in order, the counter or token pair first (R453, R457, R459, R460). -/
def reqFuses (f : Fuses) (b : List Byte) : List FuseRef :=
  let ctr := if f.counter < 256 then [FuseRef.counter] else []
  match reqType b with
  | 1 =>
    let pol := if reqTarget b = 3 then
        ((List.range 3).filter (fun i => (reqPolicy b).testBit i && !f.policy.testBit i)).map FuseRef.policy
      else []
    let kill := if reqTarget b = 4 then [FuseRef.kill false, FuseRef.kill true] else []
    ctr ++ kill ++ pol ++ stateFuses f (reqTarget b)
  | 2 => ctr ++ slotFuses (.owner (firstBlank f.ownerSlot)) 48 (pubHash b)
  | 3 => ctr ++ slotFuses (.key (firstBlank f.keySlot)) 32 (reqField b 0x24 32)
  | 0x10 => [.testToken (reqTarget b) false, .testToken (reqTarget b) true]
  | 0x11 => [.debugToken (reqTarget b) false, .debugToken (reqTarget b) true]
  | _ => ctr

/-- LC_REQSTAT with a result recorded (R458, R469). -/
def State.lcResult (s : State) (jtag : Bool) (code : Nat) : State :=
  let w := putBit (putBit (s.rd Reg.lcReqstat) 0 false) 1 jtag
  s.wr Reg.lcReqstat (putBit (putBits w 15 8 code) 31 true)

/-- LC_DEBUG with the session's scope widened and OPEN set, and EV314 (R462). -/
def State.debugOpen (s : State) (scope : Nat) : State :=
  (s.orReg Reg.lcDebug (BitVec.ofNat 32 (scope % 4 + 4))).raise 314

/-- The debug session ends (R462). -/
def State.debugEnd (s : State) : State := s.wr Reg.lcDebug 0

end Sys2Proof.Machine
end

