-- ==== Sys2Proof/Machine/WaleLine.lean ====
section
/-! DEFINITION. The line code of the Wale ports: K symbols, columns, control sets, blocks and their CRC-32C, as a port
sends them and as it reads them (R336 to R339). -/
namespace Sys2Proof.Machine

/-! Symbols (R336): a K flag with the byte its name gives (R321). -/

/-- The Wale K symbols. -/
def kIdl : LineSym := (true, 0xBC)
def kSkp : LineSym := (true, 0x3C)
def kSob : LineSym := (true, 0xFB)
def kEob : LineSym := (true, 0xFD)
def kEbb : LineSym := (true, 0xFE)
def kPad : LineSym := (true, 0xF7)
def kAck : LineSym := (true, 0x7C)
def kTsy : LineSym := (true, 0x1C)
def kLmg : LineSym := (true, 0xDC)
def kTrn : LineSym := (true, 0x9C)

/-- The `n` data bytes of a number, little-endian. -/
def dataSyms (n v : Nat) : List LineSym := (List.range n).map (fun i => (false, v / 256 ^ i % 256))

/-- The number of some bytes, little-endian. -/
def bytesNat : List Nat → Nat
  | [] => 0
  | b :: bs => b % 256 + 256 * bytesNat bs

/-! What a port sends (R337, R338). -/

/-- A control set: its K symbol, then seven data bytes. -/
def setSyms (k : LineSym) (v : Nat) : List LineSym := k :: dataSyms 7 v

/-- Bytes 1 to 7 of a TRN set. -/
def trnBytes (t : TrnSet) : Nat :=
  t.dev.val + 2 ^ 9 * t.port.val + 2 ^ 12 * t.lane.val + 2 ^ 15 * t.rdy.toNat + 2 ^ 16 * t.width.val + 2 ^ 24 * t.epoch.val

/-- The code of a TYPE (R338). -/
def kindCode : WaleKind → Nat
  | .link => 0
  | .write => 1
  | .read => 2
  | .completion => 3
  | .message => 4
  | .gang => 5
  | .sysctl => 6

/-- The payload words of a block: what the spec lists of a system message or a follow-up, in words it does not lay
out (assumption 66). -/
def blockPayload (b : WaleBlock) : List Word :=
  match b.body with
  | .words ws => ws.take 128
  | .sys m => (Config.sysWords m).take 128
  | .followUp xn t2 t3 => (Config.followUpWords xn t2 t3).take 128

/-- LEN: the payload's words, or what a READ asks for (R338). -/
def blockLen (b : WaleBlock) : Nat := if b.kind = .read then b.len.val else (blockPayload b).length

/-- The four words of the header (R338). -/
def blockHeader (b : WaleBlock) : List Nat := [
  b.seq.val + 2 ^ 12 * kindCode b.kind + 2 ^ 16 * b.src.val,
  b.dest.val + 2 ^ 9 * b.hops.val + 2 ^ 14 * blockLen b + 2 ^ 22 * b.bcast.toNat + 2 ^ 23 * b.first.toNat +
    2 ^ 24 * b.last.toNat + 2 ^ 25 * b.ackreq.toNat + 2 ^ 26 * b.sub.val,
  b.addr.toNat % 2 ^ 32,
  b.addr.toNat / 2 ^ 32 + 2 ^ 8 * b.tag.val + 2 ^ 16 * b.epoch.val + 2 ^ 24 * b.status.val]

/-- The header and payload bytes, in order. -/
def blockBytes (b : WaleBlock) : List Nat :=
  ((blockHeader b ++ (if b.kind = .read then [] else (blockPayload b).map BitVec.toNat)).flatMap (dataSyms 4)).map Prod.snd

/-- The CRC-32C of some bytes (R339). -/
def lineCrc (bs : List Nat) : Nat := crc32c (bs.map (BitVec.ofNat 8))

/-- A block on the line: SOB, header, payload, CRC, EOB (R338). -/
def blockSyms (b : WaleBlock) : List LineSym :=
  [kSob] ++ (blockBytes b).map (fun x => (false, x)) ++ dataSyms 4 (lineCrc (blockBytes b)) ++ [kEob]

/-- The symbols of what a port sends; IDL columns carry none of their own. -/
def WaleOut.syms : WaleOut → List LineSym
  | .block b => blockSyms b
  | .ack a n => setSyms kAck (a % 2 ^ 12 + 2 ^ 12 * n.toNat)
  | .tsy r x => setSyms kTsy (r.toNat + 2 ^ 8 * (x % 2 ^ 16))
  | .lmg op m => setSyms kLmg (op % 2 ^ 8 + 2 ^ 8 * (m % 2 ^ 8))
  | .trn _ t => setSyms kTrn (trnBytes t)
  | .idl _ => []

/-- Symbols in columns of `n` lanes, from port lane 0 on; PAD fills the last (R336). -/
def columns (n : Nat) (ys : List LineSym) : List (List LineSym) :=
  (List.range ((ys.length + n - 1) / n)).map (fun c => (List.range n).map (fun l => ys.getD (n * c + l) kPad))

/-- The columns of what a port sends on `n` lanes. -/
def WaleOut.columns (n : Nat) : WaleOut → List (List LineSym)
  | .idl k => List.replicate k (List.replicate n kIdl)
  | o => Machine.columns n o.syms

/-- A SKP column stands in every 1,024 columns; `at_` columns have passed since the last (R336). -/
def withSkips (n at_ : Nat) (cs : List (List LineSym)) : List (List LineSym) :=
  cs.zipIdx.flatMap (fun c => if (at_ + c.2 + 1) % 1023 = 0 then [List.replicate n kSkp, c.1] else [c.1])

/-! What a port reads (R336 to R339).  A received symbol is `none` when it is no valid symbol. -/

/-- A symbol as the decoder gives it; K28.2 and K28.7 are treated as invalid (R336). -/
def rxSym (k : Bool) (b : Nat) (cerr : Bool) : Option LineSym :=
  if cerr || (k && (b == 0x5C || b == 0xFC)) then none else some (k, b)

/-- What a port has read: an ACK, TSY or LMG set, a TRN set, each with `junk` for a set that is discarded (R337); a
block, a bad block, or one with a reserved TYPE or bit and its SEQ (R339). -/
inductive WaleIn where
  | ack (aseq : Nat) (nak junk : Bool)
  | tsy (resp : Bool) (xn : Nat) (junk : Bool)
  | lmg (op set : Nat) (junk : Bool)
  | trn (t : TrnSet)
  | block (b : WaleBlock)
  | bad
  | format (seq : Nat)
  deriving DecidableEq, Repr

/-- The reader between two symbols: the block being read, as its bytes and whether a symbol of it was invalid, and the
control set being read. -/
structure LineRd where
  blk : Option (List Nat × Bool) := none
  set : Option (Nat × List Nat) := none
  deriving DecidableEq, Repr

/-- A complete control set: its K byte and its seven bytes as a number (R337). -/
def readSet (k v : Nat) : WaleIn :=
  if k = 0x7C then .ack (v % 2 ^ 12) (v.testBit 12) (decide (2 ^ 13 ≤ v))
  else if k = 0x1C then .tsy (v.testBit 0) (v / 2 ^ 8 % 2 ^ 16) (decide (v / 2 % 2 ^ 7 ≠ 0) || decide (2 ^ 24 ≤ v))
  else if k = 0xDC then .lmg (v % 2 ^ 8) (v / 2 ^ 8 % 2 ^ 8) (decide (v % 2 ^ 8 = 0 ∨ 4 < v % 2 ^ 8) || decide (2 ^ 16 ≤ v))
  else .trn
    { dev := Fin.ofNat 512 v, port := Fin.ofNat 8 (v / 2 ^ 9), lane := Fin.ofNat 8 (v / 2 ^ 12), rdy := v.testBit 15
      width := Fin.ofNat 4 (v / 2 ^ 16), epoch := Fin.ofNat 256 (v / 2 ^ 24)
      junk := decide (v / 2 ^ 18 % 2 ^ 6 ≠ 0) || decide (2 ^ 32 ≤ v) }

/-- The TYPE of a code; 7 to 15 are reserved. -/
def kindOf : Nat → Option WaleKind
  | 0 => some .link
  | 1 => some .write
  | 2 => some .read
  | 3 => some .completion
  | 4 => some .message
  | 5 => some .gang
  | 6 => some .sysctl
  | _ => none

/-- The body of a block of a TYPE and SUB. -/
def readBody (k : WaleKind) (sub : Nat) (ws : List Word) : WaleBody :=
  match k with
  | .sysctl => match Config.sysRead sub ws with
    | some m => .sys m
    | none => .words ws
  | .link => match Config.followUpRead ws with
    | some (xn, t2, t3) => .followUp xn t2 t3
    | none => .words ws
  | _ => .words ws

/-- The words of some bytes. -/
def bytesWords (bs : List Nat) : List Nat := (List.range (bs.length / 4)).map (fun i => bytesNat ((bs.drop (4 * i)).take 4))

/-- A block that ends with EOB (R339). -/
def readBlock (bs : List Nat) (invalid : Bool) : WaleIn :=
  let n := bs.length - 4
  let ws := bytesWords (bs.take n)
  let w (i : Nat) : Nat := ws.getD i 0
  let typ := w 0 / 2 ^ 12 % 16
  let len := w 1 / 2 ^ 14 % 256
  let data := (ws.drop 4).map (BitVec.ofNat 32)
  if invalid ∨ bs.length < 20 ∨ n % 4 ≠ 0 ∨ bytesNat (bs.drop n) ≠ lineCrc (bs.take n) ∨ 128 < len ∨
      data.length ≠ (if typ = 2 then 0 else len) then .bad
  else match kindOf typ with
    | none => .format (w 0 % 2 ^ 12)
    | some k =>
      if w 0 / 2 ^ 25 ≠ 0 ∨ w 1 / 2 ^ 13 % 2 ≠ 0 ∨ w 3 / 2 ^ 28 ≠ 0 then .format (w 0 % 2 ^ 12)
      else .block
        { seq := Fin.ofNat 4096 (w 0), kind := k, src := Fin.ofNat 512 (w 0 / 2 ^ 16), dest := Fin.ofNat 512 (w 1)
          hops := Fin.ofNat 16 (w 1 / 2 ^ 9), len := Fin.ofNat 256 len, bcast := (w 1).testBit 22
          first := (w 1).testBit 23, last := (w 1).testBit 24, ackreq := (w 1).testBit 25
          sub := Fin.ofNat 64 (w 1 / 2 ^ 26), addr := BitVec.ofNat 40 (w 2 + 2 ^ 32 * (w 3 % 2 ^ 8))
          tag := Fin.ofNat 256 (w 3 / 2 ^ 8), epoch := Fin.ofNat 256 (w 3 / 2 ^ 16), status := Fin.ofNat 16 (w 3 / 2 ^ 24)
          body := readBody k (w 1 / 2 ^ 26) data }

/-- A K symbol outside a control set: ACK, TSY and SKP may stand inside a block, LMG and TRN end it as a bad one, EBB
abandons it; IDL, SKP and PAD say nothing. -/
def LineRd.readK (st : LineRd) (b : Nat) : LineRd × List WaleIn :=
  let cut : List WaleIn := if st.blk.isSome then [.bad] else []
  if b = 0xFB then ({ blk := some ([], false) }, cut)
  else if b = 0xFD then (match st.blk with
    | some (bs, i) => ({}, [readBlock bs i])
    | none => ({}, []))
  else if b = 0xFE then ({}, cut)
  else if b = 0x7C ∨ b = 0x1C then ({ st with set := some (b, []) }, [])
  else if b = 0xDC ∨ b = 0x9C then ({ set := some (b, []) }, cut)
  else (st, [])

/-- A symbol that is not of a control set. -/
def LineRd.readFree (st : LineRd) : Option LineSym → LineRd × List WaleIn
  | none => ({ st with blk := st.blk.map (fun p => (p.1, true)) }, [])
  | some (false, b) => ({ st with blk := st.blk.map (fun p => (p.1 ++ [b], p.2)) }, [])
  | some (true, b) => st.readK b

/-- A symbol: a control set takes seven data bytes; one that anything else cuts short is lost. -/
def LineRd.read (st : LineRd) (y : Option LineSym) : LineRd × List WaleIn :=
  match st.set, y with
  | some (k, bs), some (false, b) =>
    if bs.length = 6 then ({ st with set := none }, [readSet k (bytesNat (bs ++ [b]))])
    else ({ st with set := some (k, bs ++ [b]) }, [])
  | _, _ => ({ st with set := none } : LineRd).readFree y

/-- Everything a port reads from received symbols, port lane 0 of each column first. -/
def LineRd.readAll (st : LineRd) : List (Option LineSym) → LineRd × List WaleIn
  | [] => (st, [])
  | y :: ys =>
    let r := st.read y
    let q := r.1.readAll ys
    (q.1, r.2 ++ q.2)

/-! What is read, as the commands of the block. -/

/-- The command of a SYSCTL subtype (R352). -/
def sysCommand (p : Fin 6) (b : WaleBlock) : Instr :=
  match b.sub.val with
  | 1 => .waleAdvert p b
  | 2 => .waleJoin p b
  | 3 => .waleBnd p b
  | 4 => .waleBndref p b
  | 5 => .waleVote p b
  | 6 => .waleVerdict p b
  | 7 => .waleDoneUp p b
  | 8 => .waleSysdone p b
  | 9 => .waleSleepMsg p b
  | 10 => .waleAwake p b
  | 11 => .waleWake p b
  | 12 => .waleAlarm p b
  | _ => .waleBlockBad p (some b.seq)

/-- The command of what port `p` reads on lane `lane`; `mem` is what the hamper's check would report, `fine` the
place in the clock period, `turn` the time to the answer (R353). -/
def WaleIn.command (p : Fin 6) (lane : Fin 8) (mem : Fin 4) (fine : Fin 2500) (turn : Nat) : WaleIn → Instr
  | .ack a false j => .waleAck p (Fin.ofNat 4096 a) j
  | .ack a true j => .waleNak p (Fin.ofNat 4096 a) j
  | .tsy false x j => .waleTsyRequest p (Fin.ofNat 65536 x) fine turn j
  | .tsy true x j => .waleTsyResponse p (Fin.ofNat 65536 x) fine j
  | .lmg 1 m j => .waleLmgDrop p (BitVec.ofNat 8 m) j
  | .lmg 2 m j => .waleLmgReadmit p (BitVec.ofNat 8 m) j
  | .lmg 3 _ j => .waleLmgSleep p j
  | .lmg _ _ j => .waleLmgDown p j
  | .trn t => .waleTrnSet p lane t
  | .bad => .waleBlockBad p none
  | .format q => .waleBlockBad p (some (Fin.ofNat 4096 q))
  | .block b => match b.kind with
    | .link => .waleTimeFollowUp p b
    | .write => .waleWrite p b mem
    | .read => .waleRead p b mem
    | .completion => .waleCompletion p b
    | .message => .waleMessage p b
    | .gang => .waleGangBlock p b
    | .sysctl => sysCommand p b

/-- The columns that arrive at a port, as commands at the end of its queue. -/
def State.lineIn (s : State) (p : Fin 6) (mem : Fin 4) (fine : Fin 2500) (turn : Nat)
    (cs : List (List (Option LineSym))) : State :=
  { s with pending := s.pending ++ ((({} : LineRd).readAll cs.flatten).2.map (WaleIn.command p 0 mem fine turn)) }

end Sys2Proof.Machine
end

