-- ==== Sys2Proof/Machine/WaleTree.lean ====
section
/-! DEFINITION. Wale ports: what they send, the system tree, and the loss of a link (R340, R341, R345,
R352, R353). -/
namespace Sys2Proof.Machine

/-! Accessors. -/

/-- The block with the Wale controller's hidden state replaced. -/
def State.setWale (s : State) (w : WaleSt) : State := { s with wale := w }

/-- What a port holds outside its registers. -/
def State.wp (s : State) (p : Nat) : WpSt := Store.get (fun _ => {}) s.wale.ports p

/-- The block with a port's hidden state replaced. -/
def State.setWp (s : State) (p : Nat) (v : WpSt) : State :=
  s.setWale { s.wale with ports := Store.set (fun _ => {}) s.wale.ports p v }

/-- The device's identifier; 511 is unassigned (R344). -/
def State.devid (s : State) : Nat := s.fld Reg.waleId 8 0

/-- The device's epoch (R351). -/
def State.epoch (s : State) : Nat := s.fld Reg.waleId 31 24

/-- WP_STAT.STATE: 0 DOWN, 1 TRAINING, 2 UP, 3 SLEEP. -/
def State.wpState (s : State) (p : Nat) : Nat := s.fld (Reg.wpStat p) 1 0

/-- Is the port UP? -/
def State.wpUp (s : State) (p : Nat) : Bool := decide (s.wpState p = 2)

/-- The ports that are UP. -/
def State.upPorts (s : State) : List Nat := (List.range 6).filter s.wpUp

/-- The neighbour on a port. -/
def State.peerId (s : State) (p : Nat) : Nat := s.fld (Reg.wpStat p) 26 18

/-- A port event `EV(128 + 3p + i)`, when WP_EVEN enables it (R362). -/
def State.wpEvent (s : State) (p i : Nat) : State := s.raiseIf (s.bit (Reg.wpEven p) i) (128 + 3 * p + i)

/-- Hardware sets a WP_ERR bit; bits 4 to 10 raise EV(130 + 3p) (R362). -/
def State.wpFault (s : State) (p i : Nat) : State :=
  let t := s.setBit (Reg.wpErr p) i true
  if 4 ≤ i then t.wpEvent p 2 else t

/-- Hardware sets a WALE_SYS_ERR bit: 0 NOROUTE, 1 STALE_EPOCH, 2 LATE_CPL, 3 MQ_DROP, 4 GANG_COLL,
5 ASLEEP_DROP (R362). -/
def State.waleErr (s : State) (i : Nat) : State := s.setBit Reg.waleSysErr i true

/-- A port sends something: in columns of its transmit lane set, TRN sets on their own lane.  How many columns have
passed since the last SKP column is a free value (R336; assumption 66). -/
def State.waleEmit (s : State) (p : Nat) (o : WaleOut) : State :=
  let lanes := ((List.range 8).filter (s.fld (Reg.wpStat p) 9 2).testBit).length
  let n := match o with
    | .trn .. => 1
    | _ => max 1 lanes
  let r := s.freshNat
  r.2.emit (.wale p o (withSkips n (r.1 % 1023) (o.columns n)))

/-- What a port keeps of its hidden state when its link goes. -/
def State.wpClear (s : State) (p : Nat) : State := s.setWp p { width := (s.wp p).width }

/-- The TRN set that a port sends on a lane: RDY on the lanes of its receive set (R337, R342). -/
def State.trnOf (s : State) (p lane : Nat) : TrnSet where
  dev := Fin.ofNat 512 s.devid
  port := Fin.ofNat 8 p
  lane := Fin.ofNat 8 lane
  rdy := (s.fld (Reg.wpStat p) 17 10).testBit lane
  width := Fin.ofNat 4 (s.wp p).width
  epoch := Fin.ofNat 256 s.epoch
  junk := false

/-- May a port train in the mode (R361)? -/
def State.waleModes (s : State) : Bool := decide (4 ≤ s.mode) && decide (s.mode ≤ 8)

/-! Sending (R340). -/

/-- A block is sent, or waits while 64 are unacknowledged. -/
def State.linkSend (s : State) (p : Nat) (b : WaleBlock) : State :=
  let w := s.wp p
  if 64 ≤ w.buf.length then s.setWp p { w with queue := w.queue ++ [b] }
  else
    let b := { b with seq := Fin.ofNat 4096 w.txSeq }
    ((s.setWp p { w with buf := w.buf ++ [b], txSeq := (w.txSeq + 1) % 4096 }).bumpSat (Reg.wpCntTx p)).waleEmit p
      (.block b)

/-- The blocks that waited are sent as far as there is room. -/
def State.linkDrain (s : State) (p : Nat) : State :=
  let q := (s.wp p).queue
  q.foldl (fun t b => t.linkSend p b) (s.setWp p { s.wp p with queue := [] })

/-- A block this device originates (R338, R345). -/
def State.ownBlock (s : State) (kind : WaleKind) (dest sub : Nat) (bcast : Bool) (body : WaleBody) : WaleBlock :=
  { seq := 0, kind := kind, src := Fin.ofNat 512 s.devid, dest := Fin.ofNat 512 dest, hops := 15
    len := 0, bcast := bcast, first := false, last := false, ackreq := false, sub := Fin.ofNat 64 sub
    addr := 0, tag := 0, epoch := Fin.ofNat 256 s.epoch, status := 0, body := body }

/-- SUB of a system message (R352). -/
def msgSub : SysMsg → Nat
  | .advert .. => 1
  | .join _ => 2
  | .bnd .. => 3
  | .bndref .. => 4
  | .vote .. => 5
  | .verdict .. => 6
  | .doneUp _ => 7
  | .sysdone .. => 8
  | .sleep _ => 9
  | .awake => 10
  | .wake _ => 11
  | .alarm .. => 12

/-- The upstream port, 7 none; the children's ports (R352). -/
def State.upPort (s : State) : Nat := s.fld Reg.waleTree 15 13
def State.isChild (s : State) (p : Nat) : Bool := s.bit Reg.waleTree (17 + p)
def State.isRoot (s : State) : Bool := s.bit Reg.waleTree 16

/-- The tree ports that are UP (R352). -/
def State.treePorts (s : State) : List Nat := s.upPorts.filter (fun p => p == s.upPort || s.isChild p)

/-- A broadcast block goes out on every tree port but the one it came in on (R345). -/
def State.bcastOut (s : State) (from_ : Option Nat) (b : WaleBlock) : State :=
  (s.treePorts.filter (fun p => some p != from_)).foldl (fun t p => t.linkSend p b) s

/-- A broadcast of this device's own (R352). -/
def State.sysBcast (s : State) (m : SysMsg) : State := s.bcastOut none (s.ownBlock .sysctl 0 (msgSub m) true (.sys m))

/-- A message to a neighbour (R352). -/
def State.sysNeighbour (s : State) (p : Nat) (m : SysMsg) : State :=
  s.linkSend p (s.ownBlock .sysctl (s.peerId p) (msgSub m) false (.sys m))

/-! The system tree (R352). -/

/-- The ADVERT of this device on a port. -/
def State.advertise (s : State) (p : Nat) : State :=
  if s.devid = 511 ∨ !s.wpUp p then s
  else
    let up := if s.upPort = 7 then s.devid else s.peerId s.upPort
    s.sysNeighbour p (.advert (Fin.ofNat 512 (s.fld Reg.waleTree 8 0)) (Fin.ofNat 16 (s.fld Reg.waleTree 12 9))
      (Fin.ofNat 512 up) (s.bit Reg.waleTime 1) (s.bit Reg.waleTree 23))

/-- An ADVERT on each UP port. -/
def State.advertiseAll (s : State) : State := s.upPorts.foldl (fun t p => t.advertise p) s

/-- The ADVERT a port holds. -/
def State.advOf (s : State) (p : Nat) : Option Advert := if s.wpUp p then (s.wp p).adv else none

/-- TLOCK changes (R353). -/
def State.setTlock (s : State) (b : Bool) : State :=
  if s.bit Reg.waleTime 0 = b then s else (s.setBit Reg.waleTime 0 b).raise 148

/-- CHAIN: 1 at the root, else TLOCK with the upstream's CHAIN (R353); a change is advertised. -/
def State.chainRefresh (s : State) : State :=
  let up := match s.advOf s.upPort with
    | some a => a.chain
    | none => false
  let c := s.isRoot || (s.bit Reg.waleTime 0 && up)
  if s.bit Reg.waleTime 1 = c then s else (s.setBit Reg.waleTime 1 c).advertiseAll

/-- CAD_STAT.WALE_TIME: 1 on every device that is not the root and has TIME_EN (R147, R353). -/
def State.waleTimeRefresh (s : State) : State := s.setBit Reg.cadStat 4 (s.bit Reg.waleSysCfg 0 && !s.isRoot)

/-- The best upstream: the least of (distance, neighbour, port) among the ports of `ps`. -/
def bestUp (ps : List (Nat × Advert)) : Option (Nat × Advert) :=
  ps.foldl (fun best e => match best with
    | none => some e
    | some b => if e.2.dist < b.2.dist ∨ (e.2.dist = b.2.dist ∧ e.2.src < b.2.src) then some e else best) none

/-- The position in the tree: root, distance, upstream port (R352). -/
def State.treeChoice (s : State) : Nat × Nat × Nat :=
  let advs := (List.range 6).filterMap (fun p => (s.advOf p).map (fun a => (p, a)))
  if s.devid = 511 then
    match s.upPorts.filter (fun p => s.peerId p != 511) with
    | p :: _ => match s.advOf p with
      | some a => (a.root, (a.dist + 1) % 16, p)
      | none => (0, 0, p)
    | [] => (0, 0, 7)
  else
    let near := advs.filter (fun e => decide (e.2.dist ≤ 14))
    let root := near.foldl (fun a e => min a e.2.root) s.devid
    if root = s.devid then (root, 0, 7)
    else match bestUp (near.filter (fun e => e.2.root == root)) with
      | some e => (root, e.2.dist + 1, e.1)
      | none => (s.devid, 0, 7)

/-- The tree is worked out again; a change raises EV149 and is advertised, a new upstream ends time lock and has no
DONE_UP yet (R352, R353, R357). -/
def State.treeRefresh (s : State) : State :=
  let (root, dist, up) := s.treeChoice
  let kids := (List.range 6).filter (fun p => match s.advOf p with
    | some a => a.up == s.devid && s.devid != 511
    | none => false)
  let isRoot := decide (up = 7) && decide (s.devid ≠ 511)
  let old := s.rd Reg.waleTree
  let w := putBits (putBits (putBits (putBits old 8 0 root) 12 9 dist) 15 13 up) 22 16
    (isRoot.toNat + 2 * (kids.map (2 ^ ·)).sum)
  let oldUp := if s.upPort = 7 then none else some (s.peerId s.upPort)
  let newUp := if up = 7 then none else some (s.peerId up)
  let t := s.wr Reg.waleTree w
  let t := (List.range 6).foldl (fun t p =>
    (t.setBit (Reg.wpStat p) 30 (p == up)).setBit (Reg.wpStat p) 31 (kids.contains p)) t
  let t := if oldUp = newUp then t
    else ((t.setWale { t.wale with stepNext := true, nearX := 0, farX := 0, exch := none }).setBit Reg.waleTree 24 false).setTlock
      false
  let t := t.waleTimeRefresh
  if old = w then t.chainRefresh else ((t.raise 149).chainRefresh).advertiseAll

/-! Link down (R341). -/

/-- Every unit of a Wale device's semaphores is released once no port is UP (R376). -/
def State.waleSemRelease (s : State) : State :=
  if s.upPorts = [] then
    (List.range 64).foldl (fun t n => if 0x200 ≤ t.semOwner n then t.semFree n else t) s
  else s

/-- The link of a port goes down, the end of a gang stream apart (R341). -/
def State.linkDrop (s : State) (p cause : Nat) : State :=
  if s.wpState p = 0 then s
  else
    let t := if s.wpUp p then s.waleEmit p (.lmg 4 0) else s
    let t := (t.wpClear p).wr (Reg.wpStat p) (putBits (putBits (t.rd (Reg.wpStat p)) 17 2 0) 1 0 0)
    let t := (t.setFld (Reg.wpErr p) 2 0 cause).setBit (Reg.wpErr p) 3 true
    let t := if cause = 5 then t.wpFault p 9 else if cause = 6 then t.wpFault p 8 else t
    (((t.sysFault 7).wpEvent p 0).treeRefresh).waleSemRelease

/-- Every port goes down with cause DISABLED on entry to POWER-UP, KEEPER BOOT and SAFE HOLD, where no
gang stream is read (R361). -/
def State.walePortsDrop (s : State) : State :=
  (List.range 6).foldl (fun t p => t.linkDrop p 4) (s.setWale { s.wale with gangRx := none, gangWords := [], gangEnded := false })

end Sys2Proof.Machine
end

