-- ==== Sys2Proof/Machine/Modes.lean ====
section
/-! DEFINITION. What several chapters' modes share: rails, holds of the whole device, DONE, core
resets, SAFE HOLD, and image attempts (R19 to R29, R211 to R216, R220, R376, R401, R412). -/
namespace Sys2Proof.Machine

/-- The block with its boot state changed. -/
def State.setBoot (s : State) (b : BootSt) : State := { s with boot := b }

/-- The mode changes, and SYS_FAULT.SAFE_HOLD follows it (R30). -/
def State.enterMode (s : State) (m : Nat) : State := (s.setMode m).setBit Reg.sysFault 0 (m == 0xB)

/-- The device leaves only when VIN falls: in POWER-UP, and in STANDBY after a fault on VAON (R20, R25). -/
def State.powerStopped (s : State) : Bool := s.mode == 1 || (s.mode == 0xA && s.bit (Reg.pwrRail 0) 18)

/-- Does the device drive FAULT_N low: in POWER-UP and KEEPER BOOT, after a VAON fault in STANDBY, and while an
unmasked SYS_FAULT bit is 1, but not in FACTORY TEST (R25, R29)? -/
def State.faultLow (s : State) : Bool :=
  s.powerStopped || s.mode == 2 ||
    (s.mode != 0xC && decide ((s.rd Reg.sysFault &&& ~~~(s.rd Reg.sysFaultMask)).toNat ≠ 0))

/-- FAULT_N: `none` where it floats, `some true` where it is driven low, `some false` where it is released.  No
command tells when VIN returns after its fall, so the pin is then a free choice of the two (R29). -/
def State.faultPin (s : State) : Option Bool :=
  if !s.boot.vin && decide (Config.freeNat s.freeCtr % 2 = 0) then none else some s.faultLow

/-- A rail is switched (R412): its measured voltage is a free value. -/
def State.setRail (s : State) (r : Nat) (on : Bool) : State :=
  let w := s.freshWord
  w.2.wr (Reg.pwrRail r) (putBits (putBit (s.rd (Reg.pwrRail r)) 16 on) 15 0 (if on then w.1.toNat else 0))

/-- Is a rail on? -/
def State.railOn (s : State) (r : Nat) : Bool := s.bit (Reg.pwrRail r) 16

/-- The owner of quad `k`: 0 none, 1 and 2 the host ports, 3 Wale (R305, R334, R363, R365). -/
def State.quadOwner (s : State) (k : Nat) : Nat :=
  if !s.railOn (4 + k / 8) then 0
  else if k ≤ 1 then
    (if !s.hubClosed && s.bit (Reg.hpCtl 0) 0 && (k == 0 || s.fld (Reg.hpCtl 0) 5 4 == 3) then 1 else 0)
  else if 14 ≤ k then
    (if !s.hubClosed && s.bit (Reg.hpCtl 1) 0 && (k == 15 || s.fld (Reg.hpCtl 1) 5 4 == 3) then 2 else 0)
  else
    let p := (k - 2) / 2
    if s.bit (Reg.wpCtl p) 0 && (k % 2 == 0 || (s.wp p).width == 3) then 3 else 0

/-- Several rails switched, in order. -/
def State.setRails (s : State) (rs : List Nat) (on : Bool) : State := rs.foldl (fun t r => t.setRail r on) s

/-- The rails of the user banks (R412). -/
def bankRails : List Nat := (List.range 16).map (fun b => 10 + b)

/-- The levels of both wythes set (R416, R435). -/
def State.setLevels (s : State) (a b : Nat) : State := (s.setFld Reg.pwrStat 2 0 a).setFld Reg.pwrStat 6 4 b

/-- DONE is driven low or released (R220); SYS_MODE.DONE_PIN shows the pin's level. -/
def State.driveDone (s : State) (low : Bool) : State := s.setBoot { s.boot with doneLow := low }

/-- Every flip-flop, creel output, slice register and bridge register of the device at 0 (R44, R87,
R105, R218). -/
def State.fabricZero (s : State) : State :=
  { s with fab := { s.fab with ffs := [], bridges := [], creels := [], slices := [], gateShut := [], netHigh := [] } }

/-- Every bay in bond hold and INIT hold, edge columns frozen, outputs off (R65, R164, R218). -/
def State.holdDevice (s : State) : State :=
  let t := s.bportsHold (fun _ => true)
  ({ t with planes := { t.planes with bondFree := [], initFree := [], outEn := [] } }).fabricZero

/-- Every shadow state CLEAR, every declared floor 0 (R177, R231, R246). -/
def State.clearShadows (s : State) : State :=
  let t := allUnits.foldl (fun t u => t.setShState u 0) s
  (List.range 96).foldl (fun t b => (t.wr (Reg.cfgFloorLive b) 0).wr (Reg.cfgFloorShadow b) 0) t

/-- The engine clears both planes (R21, R177). -/
def State.clearConfig (s : State) : State := s.clearPlanes.clearShadows

/-- Every commit group emptied and idle, the direct-write buffer empty, no source open (R21). -/
def State.clearGroups (s : State) : State :=
  let t := (List.range 8).foldl (fun t g =>
    ([Reg.cgMask0 g, Reg.cgMask1 g, Reg.cgMask2 g, Reg.cgEdge g, Reg.cgLast0 g, Reg.cgLast1 g, Reg.cgLast2 g].foldl
      (fun t o => t.wr o 0) t).setFld (Reg.cgStat g) 6 0 0) s
  let t := (t.setFld Reg.cfgPsrc 2 0 7).setBit Reg.cfgStgstat 15 false
  let t := t.wr Reg.cfgDwctl (putBit (putBits (t.rd Reg.cfgDwctl) 20 16 0) 8 false)
  { t with eng := { piso := t.eng.piso } }

/-- SYS_MODE.STAGE_ACTIVE and the modes RUN and STAGING follow the shadow states (R20, R30, R232) and a
reload from its read to its release (R271). -/
def State.stageRefresh (s : State) : State :=
  let units := allUnits.any (fun u => decide (1 ≤ s.shState u) && decide (s.shState u ≤ 3))
  let rev := (List.range 8).any (fun g => decide (1 ≤ s.fld (Reg.cgStat g) 1 0) && s.bit (Reg.cgStat g) 2)
  let reload := match s.pnt.reload with
    | some r => decide (r.step ≠ .waiting)
    | none => false
  (s.setBit Reg.sysMode 9 (units || rev || reload)).stagingMode

/-- Is the waiting access one of core `c`'s bus? -/
def WaitItem.ofCore (c : Nat) : WaitItem → Bool
  | .bus k _ => k.val == c
  | _ => false

/-- A core that is reset drops the accesses it waits for. -/
def State.busDrop (s : State) (c : Nat) : State := { s with waits := s.waits.filter (fun i => !i.ofCore c) }

/-- Core `c` is put into reset, or taken out of it (R376, R401). -/
def State.coreReset (s : State) (c : Nat) : State :=
  ((((s.busDrop c).setBit Reg.sysClstat c false).setBit Reg.sysClctl c false)).semAutoRelease (0x10 + c)

/-- Every core is held in reset (R28, R401). -/
def State.clusterHold (s : State) : State := (List.range 4).foldl (fun t c => t.coreReset c) s

/-- The stream source BOOTSRC selects, coded as CFG_ERR.SOURCE (R199, R202). -/
def State.bootSource (s : State) : Nat :=
  match s.fld Reg.sysBoot 1 0 with
  | 0 => 0 | 1 => 1 | 2 => 2 | _ => 4

/-- Entry to SAFE HOLD (R27, R28, R220, R463): the cause is recorded, the cluster held in reset, the
key register cleared, DONE driven low, Wale ports down (R361).  The state of the power domains is the
caller's. -/
def State.safeHold (s : State) (cause : Nat) : State :=
  let t := s.journal 0x0B jFail 0 s.bootSource 0 cause
  let t := (t.enterMode 0xB).setFld Reg.sysMode 23 16 cause
  let t := (((t.driveDone true).clusterHold).keyClear).walePortsDrop
  (t.setBoot { t.boot with attempt := false, reading := false, attemptDue := false, rel := .idle, prioJob := none,
                           mainJob := none }).flashResume true

/-! Image attempts (R210 to R216). -/

/-- The priority part is deferred to the main commit, and the journal says why (R215, R227). -/
def State.prioDefer (s : State) (outcome : Nat) : State :=
  let t := (s.setBit Reg.sysBoot 8 true).setBoot { s.boot with prioPhase := .waitDone }
  t.journal 0x06 outcome 0 t.bootSource 0 0

/-- The entries still to try, in order: those not skipped, then the skipped (R211). -/
def State.imageOrder (s : State) : List Nat :=
  match s.boot.dir with
  | none => []
  | some d =>
    let ok (i : Nat) : Bool := match d.images[i]? with
      | some e => e.valid && !s.boot.tried.contains i
      | none => false
    let skip (i : Nat) : Bool := s.bit Reg.sysBootadj i
    ([0, 1, 2, 3].filter (fun i => ok i && !skip i)) ++ ([0, 1, 2, 3].filter (fun i => ok i && skip i))

/-- The image entry of the attempt in progress (R211). -/
def State.imageEntry (s : State) : Option BootImage :=
  match s.boot.dir with
  | none => none
  | some d => d.images[s.fld Reg.sysBoot 5 4]?

/-- The engine's sync search starts at byte address `at_` with `words` words to come (R208, R212, R233). -/
def State.feed (s : State) (at_ words : Nat) : State :=
  { s with eng := { s.eng with
    queue := [], unread := [], todo := none, phase := .search, gang := .none, left := 0, skip := 0, st := {}
    feedAt := at_, feedLeft := words } }

/-- The part of an image that a stream takes, as its byte address and its words (R212). -/
def BootImage.part (e : BootImage) (prio main : Bool) : Nat × Nat :=
  if prio then (e.offset, e.prioLen / 4)
  else if main then (e.offset + e.prioLen, (e.length - e.prioLen) / 4)
  else (e.offset, e.length / 4)

/-- The xSPI master resets the device and reads an image (R209). -/
def State.xspiStart (s : State) (e : BootImage) : State :=
  let x := (s.boot.dir.map BootDir.xspi).getD 0
  let octal := decide (x % 4 = 1)
  (s.emit .xspiReset).emit (.xspiRead
    { octal := octal, dummy := if octal then x / 4 % 32 else 8, mhz := if octal then 200 else 50
      addr := BitVec.ofNat 32 e.offset, words := e.length / 4 })

/-- An attempt begins to read: sync search, no word yet.  An image in the on-package flash suspends an operation
there (R287, R289). -/
def State.attemptReads (s : State) (image : Nat) (prio : Bool) : State :=
  let t := (s.setFld Reg.sysBoot 5 4 image).setBoot { s.boot with
    attempt := true, reading := true, attemptDue := false, inPrio := prio, prioClk := [], prioBound := 0, prioEdge := 0,
    prioJob := none, mainJob := none, prioPhase := .idle, committed := false }
  match t.bootSource, t.imageEntry with
  | 0, some e => (t.feed (e.part prio false).1 (e.part prio false).2).flashSuspend true
  | 1, some e => (t.feed (e.part prio false).1 (e.part prio false).2).xspiStart e
  | _, _ => t.feed 0 0

/-- The keeper starts the next image attempt, or enters SAFE HOLD with cause 0x01 when none is left
(R208, R210, R211).  While PROGRAM_N is held low it waits in LOADING (R21). -/
def State.nextAttempt (s : State) : State :=
  if s.boot.programLow then s.setBoot { s.boot with attemptDue := true }
  else if s.fld Reg.sysBoot 1 0 ≤ 1 then
    match s.imageOrder with
    | [] => s.safeHold 1
    | i :: _ =>
      let prio := match s.boot.dir with
        | some d => (d.images[i]?.map BootImage.prio).getD false
        | none => false
      s.attemptReads i prio
  else if 4 ≤ s.boot.tried.length then s.safeHold 1
  else s.attemptReads s.boot.tried.length false

/-- A failed attempt (R213, R216): it is recorded, live priority bays return to their holds, both planes
are cleared, and the next attempt begins. -/
def State.failAttempt (s : State) (code : Nat) (place : Word) : State :=
  let i := s.fld Reg.sysBoot 5 4
  let t := (s.setBoot { s.boot with attempt := false, reading := false, tried := i :: s.boot.tried }).flashResume true
  let t := t.journal 0x05 jFail code t.bootSource place.toNat 0
  let t := (t.holdDevice.setBit Reg.sysMode 8 false).clearConfig
  t.stageRefresh.nextAttempt

end Sys2Proof.Machine
end

