-- ==== Sys2Proof/Machine/Hamper.lean ====
section
/-! DEFINITION. The hamper memory, its ports and its controller (chapter 14, R383 to R396). -/
namespace Sys2Proof.Machine

/-! The stack. -/

/-- A byte of the stack. -/
def HampSt.byte (h : HampSt) (a : Nat) : Byte := Store.get (Config.hampByte h.token) h.cells a

/-- The stack with a byte written. -/
def HampSt.putByte (h : HampSt) (a : Nat) (b : Byte) : HampSt := { h with cells := Store.insert h.cells a b }

/-- Every byte undefined, under a new name (R384, R391). -/
def HampSt.scramble (h : HampSt) (token : Nat) : HampSt := { h with cells := [], token := token }

/-- The block with the hamper's hidden state replaced. -/
def State.setHamp (s : State) (h : HampSt) : State := { s with hamp := h }

/-- The stack's content becomes undefined. -/
def State.hampScramble (s : State) : State := ({ s with freeCtr := s.freeCtr + 1 }).setHamp (s.hamp.scramble s.freeCtr)

/-- HAMP_STAT.STATE: 0 TRAINING, 1 READY, 2 OFF, 3 SELF_REFRESH. -/
def State.hampState (s : State) : Nat := s.fld Reg.hampStat 1 0

/-- The pseudo-channel of a hamper address under the map in use (R384). -/
def State.hampChannel (s : State) (a : Nat) : Nat :=
  if s.bit Reg.hampStat 3 then a / 2 ^ 29 % 32 else (a / 2 ^ 8 % 32) ^^^ (a / 2 ^ 17 % 32)

/-- New requests of every agent are held (R393, R395). -/
def State.hampHeld (s : State) : Bool := s.hamp.phase ≠ .idle || s.hamp.quiesce

/-- Does the hamper serve the hub's own agents now (R392)? -/
def State.hampServes (s : State) : Bool := decide (s.hampState = 1) && !s.hampHeld

/-- `n` bytes from hamper address `a` on. -/
def State.hampLoad (s : State) (a n : Nat) : List Byte := (List.range n).map (fun i => s.hamp.byte (a + i))

/-- The bytes written from hamper address `a` on. -/
def State.hampStore (s : State) (a : Nat) : List Byte → State
  | [] => s
  | b :: bs => (s.setHamp (s.hamp.putByte a b)).hampStore (a + 1) bs

/-- What the stack reports for an access of an agent (HAMP_ELOG.AGENT) at a hamper address, and what
the controller does about it (R390): the status and the block. -/
def State.hampReport (s : State) (agent a : Nat) (write : Bool) (sev : Nat) : Nat × State :=
  match sev, write with
  | 3, _ => (3, (s.setBit Reg.hampErr 2 true).raise 212)
  | 2, false =>
    let t := s.bumpSat Reg.hampEcntUe
    let t := if s.bit Reg.hampErr 0 then t
      else (t.wr Reg.hampElogLo (BitVec.ofNat 32 a)).wr Reg.hampElogHi
        (BitVec.ofNat 32 (a / 2 ^ 32 % 4 + s.hampChannel a * 4 + agent * 256))
    (2, (t.setBit Reg.hampErr 0 true).raise 210)
  | 1, false =>
    let t := s.bumpSat Reg.hampEcntCe
    let th := s.fld Reg.hampCfg 31 16
    (1, if th ≠ 0 ∧ (s.rd Reg.hampEcntCe).toNat + 1 = th then (t.setBit Reg.hampErr 1 true).raise 211 else t)
  | _, _ => (0, s)

/-! Ports (R385, R386). -/

/-- The bay of hamper port `n` (R385). -/
def hampBay (n : Nat) : Nat := 48 * (n / 16) + 6 * (n / 2 % 8) + 1 + 3 * (n % 2)

/-- The hamper port in a bay's clock column. -/
def hampOfBay (bay : Nat) : Option Nat :=
  if bay % 6 = 1 then some (2 * (bay / 6)) else if bay % 6 = 4 then some (2 * (bay / 6) + 1) else none

/-- PCLK of a port in the live plane, 0 while PEN is 0 (R385). -/
def State.hampClk (s : State) (n : Nat) : Nat :=
  let f := s.clockCol (hampBay n)
  if f oPortEn then fieldAt f oPortClk 5 else 0

/-- HAMP_PSTATn.ENABLED (R396). -/
def State.hampEnabled (s : State) (n : Nat) : Bool := decide (s.hampClk n ≠ 0) && decide (s.hampClk n ≤ 24)

/-- What a port holds outside its registers. -/
def State.hampPort (s : State) (n : Nat) : HampPortSt := Store.get (fun _ => {}) s.hamp.ports n

/-- Requests outstanding: accesses not done, and responses the fabric has not taken (R386). -/
def HampPortSt.outst (p : HampPortSt) : Nat :=
  p.reqs.length + (p.rq.filter HampResp.last).length + p.bq.length

/-- The block with a port's state replaced; HAMP_PSTATn.OUTST follows. -/
def State.setHampPort (s : State) (n : Nat) (p : HampPortSt) : State :=
  (s.setHamp { s.hamp with ports := Store.set (fun _ => {}) s.hamp.ports n p }).setFld (Reg.hampPstat n) 6 0 p.outst

/-- A port's hard-block gate is applied (R138). -/
def State.hampGated (s : State) (n : Nat) : Bool := s.blockGated (16 + n)

/-- RQ_READY of a port (R386, R392, R393). -/
def State.hampReqReady (s : State) (n : Nat) : Bool :=
  let p := s.hampPort n
  (s.hampState == 1 || s.hampState == 2) && !s.hampHeld &&
    decide (p.rqHeld + p.rqFreed.sum < 32) && decide (p.outst < 64)

/-- The hamper address of a request, and its bytes. -/
def rqAddr (r : HampRq) : Nat := 32 * r.addr.val
def rqSize (r : HampRq) : Nat := 32 * (r.len.val + 1)

/-- A request that crosses a 256-byte boundary (R385). -/
def rqCrosses (r : HampRq) : Bool := decide (256 < rqAddr r % 256 + rqSize r)

/-- Do two requests share a byte? -/
def rqOverlap (a b : HampRq) : Bool :=
  decide (rqAddr a < rqAddr b + rqSize b) && decide (rqAddr b < rqAddr a + rqSize a)

/-- Beats of read space used: beats in the response queue and those reserved for the reads the hub has
taken (R386). -/
def HampPortSt.readSpace (p : HampPortSt) (taken : Nat) : Nat :=
  p.rq.length + (((p.reqs.take taken).filter (fun r => !r.write)).map (fun r => r.len.val + 1)).sum

/-- Requests the hub has taken. -/
def HampPortSt.taken (p : HampPortSt) : Nat := p.reqs.length - p.rqHeld

/-- The hub takes the next request and the next write beat of a port's queues, when it can (R386). -/
def HampPortSt.hubTakes (p : HampPortSt) : HampPortSt :=
  let rq := decide (0 < p.rqHeld) && decide (p.readSpace (p.taken + 1) ≤ 64)
  let w := decide (0 < p.wHeld)
  { p with
    rqHeld := p.rqHeld - rq.toNat, rqFreed := (rq.toNat :: p.rqFreed).take 3
    wHeld := p.wHeld - w.toNat, wFreed := (w.toNat :: p.wFreed).take 3 }

/-- The response queues one edge older (R386). -/
def agedResps (l : List HampResp) : List HampResp := l.map (fun r => { r with age := min 3 (r.age + 1) })

/-- The head of a response queue leaves when VALID and READY meet. -/
def popResp (l : List HampResp) (ready : Bool) : Option HampResp × List HampResp :=
  match l with
  | r :: rs => if r.age = 3 ∧ ready then (some r, rs) else (none, r :: rs)
  | [] => (none, [])

/-- A hamper port at an edge of its clock (R386). -/
def State.hampEdge (s : State) (n : Nat) (pins : HampPins) : State :=
  let p := s.hampPort n
  let p1 := match pins.w with
    | some b => if p.wHeld + p.wFreed.sum < 64 then { p with beats := p.beats ++ [b], wHeld := p.wHeld + 1 } else p
    | none => p
  let (r, rq) := popResp p1.rq pins.rReady
  let (b, bq) := popResp p1.bq pins.bReady
  let p2 : HampPortSt := { p1 with rq := agedResps rq, bq := agedResps bq }
  let p3 := if s.hampGated n || s.hampState == 0 || s.hampState == 3 then
      { p2 with rqFreed := (0 :: p2.rqFreed).take 3, wFreed := (0 :: p2.wFreed).take 3 }
    else p2.hubTakes
  let t := s.setHampPort n p3
  let t := match r with
    | some x => t.emit (.hampR n x.err x.tag x.data x.last)
    | none => t
  match b with
  | some x => t.emit (.hampB n x.err x.tag)
  | none => t

/-- The hamper port of a bay at an edge of one of the bay's stake nets (R385, R250). -/
def State.hampBayEdge (s : State) (bay net : Nat) (pins : HampPins) : State :=
  match hampOfBay bay with
  | some n => if s.hampEnabled n ∧ s.hampClk n = net + 1 ∧ !s.clamped bay then s.hampEdge n pins else s
  | none => s

/-- The beats of the oldest write, up to its W_LAST, and the beats after them; none while it is
incomplete. -/
def takeWrite : List HampBeat → Option (List HampBeat × List HampBeat)
  | [] => none
  | b :: bs => if b.last then some ([b], bs) else (takeWrite bs).map (fun q => (b :: q.1, q.2))

/-- The enabled bytes of write beats stored from an address on, at most `n` beats (R385). -/
def State.hampPutBeats (s : State) (a : Nat) : Nat → List HampBeat → State
  | 0, _ => s
  | _, [] => s
  | n + 1, b :: bs =>
    let t := (List.range 32).foldl (fun t i =>
      if b.be.getLsbD i then t.setHamp (t.hamp.putByte (a + i) (b.data.extractLsb' (8 * i) 8)) else t) s
    t.hampPutBeats (a + 32) n bs

/-- A beat of 32 bytes at an address. -/
def State.hampBeat (s : State) (a : Nat) : BitVec 256 :=
  (s.hampLoad a 32).foldr (fun b (w : BitVec 256) => (w <<< 8) ||| b.setWidth 256) 0

/-- The position of the oldest request of a kind, with the request. -/
def HampPortSt.oldest (p : HampPortSt) (write : Bool) : Option (Nat × HampRq) :=
  (p.reqs.zipIdx.find? (fun e => e.1.write == write)).map (fun e => (e.2, e.1))

/-- The request at `i` is done: it and every request before it have left the request queue (R386). -/
def HampPortSt.finish (p : HampPortSt) (i : Nat) : HampPortSt :=
  let held := min p.rqHeld (p.reqs.length - (i + 1))
  { p with reqs := p.reqs.eraseIdx i, rqHeld := held
           rqFreed := match p.rqFreed with
             | f :: fs => (f + (p.rqHeld - held)) :: fs
             | [] => [p.rqHeld - held] }

/-- The written beats leave the write queue. -/
def HampPortSt.dropBeats (p : HampPortSt) (rest : List HampBeat) : HampPortSt :=
  let held := min p.wHeld rest.length
  { p with beats := rest, wHeld := held
           wFreed := match p.wFreed with
             | f :: fs => (f + (p.wHeld - held)) :: fs
             | [] => [p.wHeld - held] }

/-- Does a request end with FAULT and no access (R385, R392)? -/
def State.hampFaults (s : State) (r : HampRq) : Bool := rqCrosses r || decide (s.hampState ≠ 1)

/-- The oldest write of a port is done (R385, R387, R390). -/
def State.hampWriteDone (s : State) (n sev : Nat) : State :=
  let p := s.hampPort n
  match p.oldest true, takeWrite p.beats with
  | some (i, r), some (bs, rest) =>
    let q := (p.finish i).dropBeats rest
    let (err, t) := if s.hampFaults r then (3, s) else s.hampReport n (rqAddr r) true sev
    let t := if err = 3 then t else t.hampPutBeats (rqAddr r) (r.len.val + 1) bs
    t.setHampPort n { q with bq := q.bq ++ [⟨0, err, r.tag.val, 0, true⟩] }
  | _, _ => s

/-- The oldest read of a port is done (R385, R387, R390): it waits for an older write to an overlapping
address, and for space in the response queue.  Data of an uncorrected or faulting read are free. -/
def State.hampReadDone (s : State) (n sev : Nat) : State :=
  let p := s.hampPort n
  match p.oldest false with
  | some (i, r) =>
    if (p.reqs.take i).any (fun w => w.write && rqOverlap w r && !rqCrosses w) ∨
        64 < p.readSpace (max p.taken (i + 1)) then s
    else
      let q := p.finish i
      let (err, t) := if s.hampFaults r then (3, s) else s.hampReport n (rqAddr r) false sev
      let beat (j : Nat) : HampResp := ⟨0, err, r.tag.val,
        if 2 ≤ err then BitVec.ofNat 256 (Config.freeNat (s.freeCtr + j)) else s.hampBeat (rqAddr r + 32 * j), j == r.len.val⟩
      let t := { t with freeCtr := t.freeCtr + 8 }
      t.setHampPort n { q with rq := q.rq ++ (List.range (r.len.val + 1)).map beat }
  | none => s

/-- A port whose bay enters bond hold flushes (R394): a complete write is carried out, everything else
is cancelled or discarded, and FLUSH counts it. -/
def State.hampFlush (s : State) (bay : Nat) : State :=
  match hampOfBay bay with
  | none => s
  | some n =>
    let p := s.hampPort n
    let writes := p.reqs.filter HampRq.write
    let t := writes.foldl (fun t _ => t.hampWriteDone n 0) s
    let t := t.setHampPort n {}
    if p.outst = 0 then t
    else
      let c := min 0xFFFF (s.fld (Reg.hampPstat n) 31 16 + p.outst)
      ((t.setFld (Reg.hampPstat n) 31 16 c).setBit Reg.hampErr 3 true).raise 216

/-- HAMPER_PORT_REQUEST (R385, R386): the handshake takes place while RQ_READY is 1 and the bay's bond
cells let the request through (R250). -/
def execHamperPortRequest (n : Fin 32) (rq : HampRq) (s : State) : Host.Outcome State Fault Refusal :=
  .next (if s.hampEnabled n.val ∧ !s.clamped (hampBay n.val) ∧ s.hampReqReady n.val then
    let p := s.hampPort n.val
    s.setHampPort n.val { p with reqs := p.reqs ++ [rq], rqHeld := p.rqHeld + 1 }
  else s)

/-- HAMPER_ACCESS_DONE (R387, R390): the oldest read or write of a port, or a read of the gang sender.
The stack's report is `sev`: 0 OK, 1 corrected, 2 uncorrected, 3 a parity error that its repeat kept. -/
def execHamperAccessDone (src : HampSrc) (sev : Fin 4) (s : State) : Host.Outcome State Fault Refusal :=
  .next (match src with
    | .port n write =>
      if s.hampGated n.val then s
      else if write then s.hampWriteDone n.val sev.val else s.hampReadDone n.val sev.val
    | .gang a => if s.hampState = 1 then (s.hampReport 34 a.toNat false sev.val).2 else s)

/-! Training (R391, R392). -/

/-- The hamper is disabled (R391 step 5). -/
def State.hampDisable (s : State) : State :=
  let t := (s.setFld Reg.hampStat 1 0 2).setHamp { s.hamp with training := false, phase := .idle }
  let t := ((t.sysFault 6).raise 208).raise 209
  let t := t.journal 0x08 jFail (s.bit Reg.hampStat 2).toNat 0 0 0
  t.setBoot { t.boot with hampDone := true }

/-- Boot training passed (R391 step 4): the map of HAMP_CFG comes into use (R384). -/
def State.hampReady (s : State) : State :=
  let cons := s.bit Reg.hampStat 2
  let t := (s.setFld Reg.hampStat 1 0 1).setBit Reg.hampStat 3 (s.bit Reg.hampCfg 0)
  let t := ((t.setHamp { t.hamp with training := false }).hampScramble).raise 208
  let t := t.journal 0x08 (if cons then jAltered else jPass) cons.toNat 0 0 0
  t.setBoot { t.boot with hampDone := true }

/-- HAMPER_TRAIN_DONE (R391, R392). -/
def execHamperTrainDone (pass : Bool) (s : State) : Host.Outcome State Fault Refusal :=
  .next (if !s.hamp.training then s else if pass then s.hampReady else s.hampDisable)

/-- HAMPER_TRAIN_TIMEOUT (R217, R391). -/
def execHamperTrainTimeout (s : State) : Host.Outcome State Fault Refusal :=
  .next (if s.hamp.training then s.hampDisable else s)

/-- Every access asked for is done (R393, R395). -/
def State.hampDrained (s : State) : Bool := s.hamp.ports.all (fun e => e.2.reqs.isEmpty)

/-- A write of HAMP_CTL.TRAIN = 1 (R393). -/
def State.hampTrainWrite (s : State) : State :=
  if s.hampState = 1 ∧ s.hamp.phase = .idle then s.setHamp { s.hamp with phase := .draining } else s

/-- HAMPER_RETRAIN (R393). -/
def execHamperRetrain (_ag : Agent) (s : State) : Host.Outcome State Fault Refusal := .next s.hampTrainWrite

/-- HAMPER_RETRAIN_DRAINED (R393 steps 2 and 3). -/
def execHamperRetrainDrained (s : State) : Host.Outcome State Fault Refusal :=
  .next (if s.hamp.phase = .draining ∧ s.hampDrained then s.setHamp { s.hamp with phase := .training } else s)

/-- HAMPER_DRAIN_TIMEOUT (R393, R32): a drain that has ended wins. -/
def execHamperDrainTimeout (s : State) : Host.Outcome State Fault Refusal :=
  .next (if s.hamp.phase ≠ .draining then s
    else if s.hampDrained then s.setHamp { s.hamp with phase := .training }
    else (s.setHamp { s.hamp with phase := .idle }).setBit Reg.hampErr 4 true)

/-- HAMPER_RETRAIN_DONE (R393 step 4). -/
def execHamperRetrainDone (s : State) : Host.Outcome State Fault Refusal :=
  .next (if s.hamp.phase = .training then (s.setHamp { s.hamp with phase := .idle }).raise 217 else s)

/-! Refresh and temperature (R389). -/

/-- The refresh rate code for a reading, with the 3 °C hysteresis downward (R389). -/
def refreshFor (old : Nat) (temp : Int) : Nat :=
  if 95 < temp ∨ (old = 2 ∧ 92 < temp) then 2
  else if 85 < temp ∨ (1 ≤ old ∧ 82 < temp) then 1
  else 0

/-- HAMPER_TEMP_READ (R389): while the controller runs. -/
def execHamperTempRead (temp : BitVec 8) (s : State) : Host.Outcome State Fault Refusal :=
  .next (if 2 ≤ s.hampState then s else
    let v := temp.toInt
    let old := signExtend 8 (s.fld Reg.hampTemp 15 8)
    let m := if s.hamp.tempSeen then max old v else v
    let t := s.wr Reg.hampTemp (BitVec.ofNat 32 (temp.toNat + 256 * toField 8 m))
    let t := t.setHamp { t.hamp with rate := refreshFor s.hamp.rate v, tempSeen := true }
    if 95 < v ∧ !s.bit Reg.hampStat 6 then (t.setBit Reg.hampStat 6 true).raise 214 else t)

/-- HAMPER_REFRESH (R389): a change of rate takes effect. -/
def execHamperRefresh (s : State) : Host.Outcome State Fault Refusal :=
  .next (if s.hampState = 1 ∧ s.fld Reg.hampStat 5 4 ≠ s.hamp.rate then
    (s.setFld Reg.hampStat 5 4 s.hamp.rate).raise 213
  else s)

/-! Self-refresh (R395). -/

/-- The stack enters self-refresh (R395 step 3); a hamper that is OFF stays off. -/
def State.hampSleep (s : State) : State :=
  let t := s.setHamp { s.hamp with quiesce := false }
  if s.hampState = 1 then (t.setFld Reg.hampStat 1 0 3).raise 215 else t

/-- The stack leaves self-refresh, and the map of HAMP_CFG comes into use (R384, R395). -/
def State.hampWake (s : State) : State :=
  let t := s.setFld Reg.hampStat 1 0 1
  let t := if s.bit Reg.hampStat 3 = s.bit Reg.hampCfg 0 then t
    else (t.setBit Reg.hampStat 3 (s.bit Reg.hampCfg 0)).hampScramble
  t.raise 215

/-- HAMPER_SELF_REFRESH_EXIT (R395): during a wake from SLEEP. -/
def execHamperSelfRefreshExit (s : State) : Host.Outcome State Fault Refusal :=
  .next (if s.hampState = 3 ∧ s.pwr.waking then s.hampWake else s)

/-- Training starts at step 6 of the boot (R391); content becomes undefined and HAMP_CONS decides the
timing (R227). -/
def State.hampTrainStart (s : State) (cons : Bool) : State :=
  let t := s.wr Reg.hampStat (putBit 0 2 cons)
  let t := t.setHamp { t.hamp with training := true, phase := .idle, quiesce := false, rate := 0, tempSeen := false, ports := [] }
  let t := (List.range 32).foldl (fun t n => t.setFld (Reg.hampPstat n) 6 0 0) t
  t.hampScramble

end Sys2Proof.Machine
end

