-- ==== Sys2Proof/Machine/Float.lean ====
section
/-! DEFINITION. Binary32 sums of products with one rounding, as R108 to R111 of
03_creels_and_arithmetic_slices.md state them (IEEE 754-2019 apart from their list). -/
namespace Sys2Proof.Machine

/-- A floating-point datum: a NaN (signalling or not), an infinity, or `±m * 2^x`. -/
inductive FpVal where
  | nan (signalling : Bool)
  | inf (neg : Bool)
  | fin (neg : Bool) (m : Nat) (x : Int)
  deriving DecidableEq, Repr

/-- The datum of 32 bits; `flush`: a subnormal is read as a zero of its sign (R110). -/
def fpDecode (v : Nat) (flush : Bool) : FpVal :=
  let neg : Bool := v / 2 ^ 31 % 2 == 1
  let e : Nat := v / 2 ^ 23 % 2 ^ 8
  let f : Nat := v % 2 ^ 23
  if e = 255 then (if f = 0 then .inf neg else .nan (decide (f < 2 ^ 22)))
  else if e = 0 then .fin neg (if flush then 0 else f) (-149)
  else .fin neg (2 ^ 23 + f) ((e : Int) - 150)

/-- The datum with its sign inverted under a condition. -/
def fpNegIf (c : Bool) : FpVal → FpVal
  | .nan s => .nan s
  | .inf n => .inf (n != c)
  | .fin n m x => .fin (n != c) m x

/-- An exact product; infinity times zero is a NaN that raises NV, coded as a signalling one (R110). -/
def fpMul : FpVal → FpVal → FpVal
  | .nan a, .nan b => .nan (a || b)
  | .nan a, _ => .nan a
  | _, .nan b => .nan b
  | .inf a, .inf b => .inf (a != b)
  | .inf a, .fin b m _ => if m = 0 then .nan true else .inf (a != b)
  | .fin a m _, .inf b => if m = 0 then .nan true else .inf (a != b)
  | .fin a m x, .fin b n y => .fin (a != b) (m * n) (x + y)

/-- Does rounding to `q` or `q + 1` go up?  `r` of `2^k` is the part below. -/
def fpRoundUp (mode : Nat) (neg : Bool) (q r k : Nat) : Bool :=
  match mode with
  | 0 => decide (2 ^ k < 2 * r) || (decide (2 * r = 2 ^ k) && q % 2 == 1)
  | 2 => !neg && decide (r ≠ 0)
  | 3 => neg && decide (r ≠ 0)
  | _ => false

/-- `m * 2^x` as a multiple `q` of `2^e`, rounded, and whether that was inexact. -/
def fpQuant (mode : Nat) (neg : Bool) (m : Nat) (x e : Int) : Nat × Bool :=
  if x < e then
    let k := (e - x).toNat
    let q := m / 2 ^ k
    let r := m % 2 ^ k
    (if fpRoundUp mode neg q r k then q + 1 else q, decide (r ≠ 0))
  else (m * 2 ^ (x - e).toNat, false)

/-- Flags NV, OF, UF, NX in bits 3 to 0 (R110). -/
def fpFlags (nv ovf uf nx : Bool) : Nat := 8 * nv.toNat + 4 * ovf.toNat + 2 * uf.toNat + nx.toNat

/-- The binary32 result and flags of a nonzero `±m * 2^x` (R108, R110). -/
def fpRound (mode : Nat) (ftz neg : Bool) (m : Nat) (x : Int) : Nat × Nat :=
  let len : Int := ((Nat.log2 m + 1 : Nat) : Int)
  let free := len + x - 24
  let sgn := neg.toNat * 2 ^ 31
  let e := max free (-149)
  let (q, nx) := fpQuant mode neg m x e
  let (q, e) := if q = 2 ^ 24 then (2 ^ 23, e + 1) else (q, e)
  let tiny := decide (((fpQuant mode neg m x free).1 : Nat) < 2 ^ 24 ∧ free < -149) ||
    decide ((fpQuant mode neg m x free).1 = 2 ^ 24 ∧ free + 1 < -149)
  if 104 < e then
    let big := match mode with
      | 0 => true | 2 => !neg | 3 => neg | _ => false
    (sgn + (if big then 0x7F800000 else 0x7F7FFFFF), fpFlags false true false true)
  else if q < 2 ^ 23 then
    if ftz ∧ q ≠ 0 then (sgn, fpFlags false false true true)
    else (sgn + q, fpFlags false false (tiny && nx) nx)
  else (sgn + (e + 150).toNat * 2 ^ 23 + (q - 2 ^ 23), fpFlags false false (tiny && nx) nx)

/-- The exact sum of finite terms, as an integer multiple of `2^x`. -/
def fpSumExact (ts : List FpVal) : Int × Int :=
  let x := ts.foldl (fun a t => match t with
    | .fin _ _ y => min a y
    | _ => a) 0
  (ts.foldl (fun a t => match t with
    | .fin n m y => a + (if n then -1 else 1) * ((m * 2 ^ (y - x).toNat : Nat) : Int)
    | _ => a) 0, x)

/-- Is some term a NaN, or a signalling one? -/
def fpAnyNan (ts : List FpVal) : Bool := ts.any (fun t => match t with
  | .nan _ => true
  | _ => false)

/-- Does the list hold an infinity of this sign? -/
def fpAnyInf (neg : Bool) (ts : List FpVal) : Bool := ts.any (fun t => t == .inf neg)

/-- The sum of terms rounded once, and its flags (R108, R110, R111).  A quiet NaN addend beside products of
+infinity and -infinity gives the quiet NaN with no NV: R110 names NV with a quiet NaN addend for infinity
times zero only (DESIGN CHOICE, assumption 57). -/
def fpSum (mode : Nat) (ftz : Bool) (ts : List FpVal) : Nat × Nat :=
  let sig := ts.any (fun t => t == .nan true)
  if fpAnyNan ts then (0x7FC00000, fpFlags sig false false false)
  else if fpAnyInf true ts && fpAnyInf false ts then (0x7FC00000, fpFlags true false false false)
  else if fpAnyInf true ts then (0xFF800000, 0)
  else if fpAnyInf false ts then (0x7F800000, 0)
  else
    let (v, x) := fpSumExact ts
    if v = 0 then
      let allNeg := ts.all (fun t => match t with
        | .fin n m _ => n && decide (m = 0)
        | _ => false)
      let allPos := ts.all (fun t => match t with
        | .fin n m _ => !n && decide (m = 0)
        | _ => false)
      ((if allNeg ∨ (!allPos ∧ mode = 3) then 0x80000000 else 0), 0)
    else fpRound mode ftz (decide (v < 0)) v.natAbs x

/-- A bfloat16 value as 32 bits (R111). -/
def bfWiden (v : Nat) : Nat := v % 2 ^ 16 * 2 ^ 16

/-- One floating-point operation (R108, R111): FP32 when `dot` is false; `z` the addend, if any.  SUB negates
each product before the sum, which tells apart from a negated sum only the sign of an exact zero (DESIGN
CHOICE, assumption 57). -/
def fpOp (dot : Bool) (mode : Nat) (ftz sub : Bool) (fa fb : Nat) (z : Option Nat) : Nat × Nat :=
  let prods :=
    if dot then
      [fpMul (fpDecode (bfWiden fa) true) (fpDecode (bfWiden fb) true),
       fpMul (fpDecode (bfWiden (fa / 2 ^ 16)) true) (fpDecode (bfWiden (fb / 2 ^ 16)) true)]
    else [fpMul (fpDecode fa ftz) (fpDecode fb ftz)]
  let add := match z with
    | some v => [fpDecode v ftz]
    | none => []
  fpSum mode ftz (prods.map (fpNegIf sub) ++ add)

end Sys2Proof.Machine
end

