-- ==== Sys2Proof/Machine/Slices.lean ====
section
/-! DEFINITION. Arithmetic slices: pipeline, integer and floating-point modes, rounding, links (R103 to
R113 of 03_creels_and_arithmetic_slices.md). -/
namespace Sys2Proof.Machine

/-- The fields of slice `n` (numbered as creels, R78) in the live plane. -/
def State.sliceCfg (s : State) (n : Nat) : SliceCfg :=
  sliceCfgOf (fun b => s.bayBit (n / 120) (slicePos (n % 120 / 30)) (Config.sliceBit (n % 30) b))

/-- The registers of slice `n`. -/
def State.slice (s : State) (n : Nat) : SliceSt := Store.get (fun _ => {}) s.fab.slices n

/-- The block with a slice's registers set. -/
def State.setSlice (s : State) (n : Nat) (v : SliceSt) : State :=
  { s with fab := { s.fab with slices := Store.set (fun _ => {}) s.fab.slices n v } }

/-! The fields with the hardware effect of illegal values (R103). -/

/-- Is pipeline stage `i` present?  Stage 4 counts only with a pre-adder (R104). -/
def SliceCfg.stage (c : SliceCfg) (i : Nat) : Bool :=
  if c.fp then true else c.pipe.testBit i && (i != 4 || c.pre == 1 || c.pre == 2)

/-- PRE: off where it is illegal. -/
def SliceCfg.preOp (c : SliceCfg) : Nat := if c.fp ∨ c.pre = 3 then 0 else c.pre

/-- JSIGN and GSIGN: signed in AUD48. -/
def SliceCfg.js (c : SliceCfg) : Bool := c.jsign || c.smode == 4
def SliceCfg.gs (c : SliceCfg) : Bool := c.gsign || c.smode == 4

/-! Integer arithmetic (R106, R107, R112). -/

/-- A `w`-bit operand, signed or not. -/
def operand (signed : Bool) (w v : Nat) : Int := if signed then signExtend w v else ((v % 2 ^ w : Nat) : Int)

/-- The pre-adder: 27 bits, wrapping (R106). -/
def preAdd (op h j : Nat) : Nat :=
  match op with
  | 1 => (h + j) % 2 ^ 27
  | 2 => (h + 2 ^ 27 - j % 2 ^ 27) % 2 ^ 27
  | _ => j % 2 ^ 27

/-- The value clamped to `w` signed bits, and whether the clamp acted. -/
def clampSigned (w : Nat) (v : Int) : Int × Bool :=
  let hi : Int := 2 ^ (w - 1) - 1
  let lo : Int := -(2 ^ (w - 1))
  if hi < v then (hi, true) else if v < lo then (lo, true) else (v, false)

/-- The product X, and SATF of AUD48's product (R106, R112).  AUD48 with PRE nonzero, of which R112 says nothing,
multiplies the low 24 bits of the pre-adder's result (DESIGN CHOICE, assumption 57). -/
def sliceProduct (c : SliceCfg) (p j1 g : Nat) : Int × Bool :=
  match c.smode with
  | 0 => (operand c.js 27 p * operand c.gs 18 g + operand c.js 27 j1 * operand c.gs 18 (g / 2 ^ 18), false)
  | 1 => (operand c.js 27 p * operand c.gs 36 g, false)
  | 4 => clampSigned 48 (2 * (signExtend 24 p * signExtend 24 g))
  | _ => (0, false)

/-- Z by ZSEL, as a signed number of `w` bits; `v` the accumulator's own value (R106, R112). -/
def sliceZ (w zsel v e ali : Nat) : Int :=
  match zsel with
  | 1 => signExtend w v
  | 2 => signExtend 48 e
  | 3 => signExtend w ali
  | 4 => signExtend w ali / 2 ^ 18
  | 5 => signExtend w ali / 2 ^ 27
  | _ => 0

/-- The new accumulator with OVF and SATF (R106, R112). -/
def sliceSum (c : SliceCfg) (x : Int) (xsat : Bool) (zs v e ali : Nat) : Nat × Bool × Bool :=
  let sub := zs / 8 % 2 == 1
  if c.smode = 4 then
    let z := sliceZ 48 (zs % 8) v e ali
    let r := clampSigned 48 (if sub then z - x else z + x)
    (toField 64 r.1, false, r.2 || xsat)
  else if 4 < c.smode then (0, false, false)
  else
    let z := sliceZ 64 (zs % 8) v e ali
    let t := if sub then z - x else z + x
    (toField 64 t, decide (t < -(2 ^ 63) ∨ 2 ^ 63 ≤ t), false)

/-- V rounded to a multiple of `2^k` (R107). -/
def sliceRound (rnd k : Nat) (v : Int) : Int :=
  let d : Int := 2 ^ k
  match rnd with
  | 1 => (2 * v + d) / (2 * d) * d
  | 2 =>
    let q := (2 * v + d) / (2 * d)
    (if (2 * v + d) % (2 * d) = 0 ∧ q % 2 ≠ 0 then q - 1 else q) * d
  | 3 => v.tdiv d * d
  | _ => v

/-- RES and SATF from the unrounded accumulator (R107, R112). -/
def sliceResult (c : SliceCfg) (v : Nat) : Nat × Bool :=
  let w := sliceRound (if c.rndpos = 0 then 0 else c.rnd) c.rndpos (signExtend 64 v)
  let r := if 2 ≤ c.satw then clampSigned c.satw w else (w, false)
  let q := if c.smode = 4 then clampSigned 48 r.1 else (r.1, false)
  (toField 64 q.1, r.2 || q.2)

/-! One slice between edges. -/

/-- What a slice hands to the one above: JLO, GLO, ALO (R113). -/
structure SliceLink where
  j : Nat := 0
  g : Nat := 0
  a : Nat := 0
  deriving DecidableEq, Repr

/-- The values on the inputs of a slice's stages. -/
structure SliceComb where
  jIn : Nat
  gIn : Nat
  eIn : Nat
  /-- After the input stages. -/
  j : Nat
  j1 : Nat
  h : Nat
  g : Nat
  e : Nat
  zs : Nat
  /-- At stage 4's input and after it. -/
  p : Nat
  p4 : Nat
  j14 : Nat
  g4 : Nat
  e4 : Nat
  zs4 : Nat
  /-- At stage 5's input and after it. -/
  x : Nat
  x5 : Nat
  e5 : Nat
  zs5 : Nat
  /-- The accumulator's input, and the accumulator as ALO and RES take it. -/
  vNew : Nat
  ovfNew : Bool
  satNew : Bool
  v : Nat
  ovf : Bool
  sat : Bool
  link : SliceLink
  deriving DecidableEq, Repr

/-- The value of a stage: its register, or its input where the stage is absent (R104). -/
def pick {α : Type} (present : Bool) (reg inp : α) : α := if present then reg else inp

/-- The combinational values of a slice in an integer mode, or the front of one in a floating-point
mode; `free` stands for an accumulator loop with no register in it, whose value no rule states. -/
def sliceComb (c : SliceCfg) (row : Nat) (st : SliceSt) (p : SlicePins) (li : SliceLink) (free : Nat) : SliceComb :=
  let jIn := if c.jsrc ∧ row ≠ 0 then li.j else p.j0.val
  let gIn := if c.gsrc ∧ row ≠ 0 then li.g else p.g.val
  let eIn := toField 64 (signExtend 48 p.e.val) % 2 ^ 48
  let j := pick (c.stage 0) st.j0 jIn
  let j1 := pick (c.stage 0) st.j1 p.j1.val
  let h := pick (c.stage 1) st.h p.h.val
  let g := pick (c.stage 2) st.g gIn
  let e := pick (c.stage 3) st.e eIn
  let zs := pick (c.stage 0) st.zs (p.zsel.val + 8 * p.sub.toNat)
  let pr := preAdd c.preOp h j
  let p4 := pick (c.stage 4) st.p4 pr
  let j14 := pick (c.stage 4) st.j14 j1
  let g4 := pick (c.stage 4) st.g4 g
  let e4 := pick (c.stage 4) st.e4 e
  let zs4 := pick (c.stage 4) st.zs4 zs
  let prod := sliceProduct c p4 j14 g4
  let x := toField 64 prod.1 + 2 ^ 64 * prod.2.toNat
  let x5 := pick (c.stage 5) st.x5 x
  let e5 := pick (c.stage 5) st.e5 e4
  let zs5 := pick (c.stage 5) st.zs5 zs4
  let own := if c.stage 6 then st.v else free % 2 ^ 64
  let ali := if row = 0 then 0 else li.a
  let n := sliceSum c (signExtend 64 (x5 % 2 ^ 64)) (decide (2 ^ 64 ≤ x5)) zs5 own e5 ali
  let v := pick (c.stage 6) st.v n.1
  { jIn := jIn, gIn := gIn, eIn := eIn, j := j, j1 := j1, h := h, g := g, e := e, zs := zs,
    p := pr, p4 := p4, j14 := j14, g4 := g4, e4 := e4, zs4 := zs4, x := x, x5 := x5, e5 := e5, zs5 := zs5,
    vNew := n.1, ovfNew := n.2.1, satNew := n.2.2, v := v,
    ovf := pick (c.stage 6) st.ovf n.2.1, sat := pick (c.stage 6) st.satf n.2.2,
    link := { j := j, g := g, a := if c.fp then ((st.hist.headD (0, 0)).1) else if 4 < c.smode then 0 else v } }

/-- The addend of a floating-point operation (R108, R109). -/
def fpAddend (zsel fc ali : Nat) (hist : List (Nat × Nat)) : Option Nat :=
  match zsel with
  | 1 => some (hist.getD 3 (0, 0)).1
  | 2 => some fc
  | 3 => some (ali % 2 ^ 32)
  | _ => none

/-- A slice's registers after an active edge; `ali` the link accumulator below (R104, R108). -/
def sliceStep (c : SliceCfg) (row : Nat) (st : SliceSt) (p : SlicePins) (k : SliceComb) (li : SliceLink) : SliceSt :=
  if p.rst then {}
  else
    let en (i : Nat) : Bool := p.sten.val.testBit i
    let t := if en 0 then { st with j0 := k.jIn, j1 := p.j1.val, zs := p.zsel.val + 8 * p.sub.toNat } else st
    let t := if en 1 then { t with h := p.h.val } else t
    let t := if en 2 then { t with g := k.gIn } else t
    let t := if en 3 then { t with e := k.eIn } else t
    let t := if en 4 then
        { t with
          p4 := k.p, j14 := k.j1, g4 := k.g, e4 := k.e, zs4 := k.zs,
          fp4 := { fa := k.j1 % 2 ^ 5 * 2 ^ 27 + k.j % 2 ^ 27, fb := k.g % 2 ^ 32, fc := k.e % 2 ^ 32, zsub := k.zs } }
      else t
    let t := if en 5 then { t with x5 := k.x, e5 := k.e4, zs5 := k.zs4, fp5 := st.fp4, fp5b := st.fp5 } else t
    if !en 6 then t
    else if c.fp then
      let op := st.fp5b
      let ali := if row = 0 then 0 else li.a
      let r := fpOp (c.smode == 3) c.fprm c.ftz (op.zsub / 8 % 2 == 1) op.fa op.fb
        (fpAddend (op.zsub % 8) op.fc ali st.hist)
      { t with hist := (r :: st.hist).take 4, v := r.1 }
    else { t with v := k.vNew, ovf := k.ovfNew, satf := k.satNew }

/-- RES and FLAGS of a slice (R107, R108, R110). -/
def sliceOutput (c : SliceCfg) (st : SliceSt) (k : SliceComb) : Nat × Nat :=
  if c.fp then st.hist.headD (0, 0)
  else if 4 < c.smode then (0, 0)
  else
    let r := sliceResult c k.v
    (r.1, k.ovf.toNat + 2 * (k.sat || r.2).toNat)

/-- An unlisted slice's pins are low. -/
def lowSlice : SlicePins := ⟨0, 0, 0, 0, 0, 0, false, 0, false⟩

/-- The combinational values of the slices of a column, from row 0 up, each with the link it receives. -/
def State.sliceColumn (s : State) (base : Nat) (pins : Nat → SlicePins) : Nat → List (SliceComb × SliceLink)
  | 0 => []
  | r + 1 =>
    let below := s.sliceColumn base pins r
    let li := match below.getLast? with
      | some k => k.1.link
      | none => {}
    below ++ [(sliceComb (s.sliceCfg (base + r)) r (s.slice (base + r)) (pins r) li (Config.freeNat (s.freeCtr + base + r)), li)]

/-- A column of slices at an edge of a stake net of its bay. -/
def State.sliceColumnEdge (s : State) (base net : Nat) (rising : Bool) (pins : Nat → SlicePins) : State :=
  let ks := s.sliceColumn base pins 30
  let t := (ks.zip (List.range 30)).foldl (fun t e =>
    let n := base + e.2
    let c := s.sliceCfg n
    if clocks c.clk c.inv net rising then t.setSlice n (sliceStep c e.2 (s.slice n) (pins e.2) e.1.1 e.1.2) else t) s
  ((t.sliceColumn base pins 30).zip (List.range 30)).foldl (fun t e =>
    let n := base + e.2
    let o := sliceOutput (t.sliceCfg n) (t.slice n) e.1.1
    t.setSlice n { t.slice n with res := o.1, flags := o.2 }) t

/-- The slice columns of a bay whose live plane holds a nonzero frame. -/
def State.activeSlices (s : State) (bay : Nat) : List Nat :=
  [0, 1, 2, 3].filter (fun c => s.planes.frames.any (fun e => decide (e.1 / 2 ^ 7 =
    s.liveLatch bay * 2 ^ 14 + bayBand bay * 2 ^ 10 + bayPos bay (slicePos c))))

/-- The slices of a bay at an edge of one of its stake nets; nothing moves in INIT hold (R105). -/
def State.slicesEdge (s : State) (bay net : Nat) (rising : Bool) (p : EdgePins) : State :=
  if s.initHold bay then s
  else
    let t := (s.activeSlices bay).foldl (fun t c =>
      t.sliceColumnEdge (120 * bay + 30 * c) net rising (fun r => (p.slices.lookup (30 * c + r)).getD lowSlice)) s
    { t with freeCtr := t.freeCtr + 1 }

/-- Every slice register of a bay is 0, as at its commit edge and in INIT hold (R105). -/
def State.sliceLoad (s : State) (bay : Nat) : State :=
  { s with fab := { s.fab with slices := Store.clearRange s.fab.slices (120 * bay) (120 * (bay + 1)) } }

end Sys2Proof.Machine
end

