-- ==== Sys2Proof/Machine/Creels.lean ====
section
/-! DEFINITION. Creels: ports, collisions, ECC, scrub and FIFO mode (chapter
03_creels_and_arithmetic_slices.md). -/
namespace Sys2Proof.Machine

/-! Configuration and state of a creel. -/

/-- The fields of creel `n` in the live plane. -/
def State.creelCfg (s : State) (n : Nat) : CreelCfg :=
  creelCfgOf (fun b => s.bayBit (n / 120) (creelPos (n % 120 / 30)) (Config.creelBit (n % 30) b))

/-- The registers of creel `n`. -/
def State.creel (s : State) (n : Nat) : CreelSt := Store.get (fun _ => {}) s.fab.creels n

/-- The block with a creel's registers set. -/
def State.setCreel (s : State) (n : Nat) (c : CreelSt) : State :=
  { s with fab := { s.fab with creels := Store.set (fun _ => {}) s.fab.creels n c } }

/-- Width A and width B with the hardware effect of illegal ones: none disables the port (R82). -/
def CreelCfg.port (c : CreelCfg) (isB : Bool) : Option Nat :=
  let w := if isB then c.widthB else c.widthA
  let o := if isB then c.widthA else c.widthB
  if c.cmode = 3 ∨ c.widthBad w o then none else some w

/-- The encoder and the decoder, off where they are illegal (R82). -/
def CreelCfg.enc (c : CreelCfg) : Bool := c.eccEnc && c.eccMode
def CreelCfg.dec (c : CreelCfg) : Bool := c.eccDec && c.eccMode

/-- SCRUB, off where it is illegal (R82). -/
def CreelCfg.scrubOn (c : CreelCfg) : Bool := c.scrub != 0 && c.scrubOk && c.eccMode

/-- FWFT, off where it is illegal (R82). -/
def CreelCfg.fall (c : CreelCfg) : Bool := c.fwft && c.cmode == 2

/-- Do both ports use one clock (R88)? -/
def CreelCfg.oneClock (c : CreelCfg) : Bool := c.clkA == c.clkB && c.invA == c.invB

/-! The array through a port (R79). -/

/-- The name of a bit of the array. -/
def bitName (word b : Nat) : Nat := 64 * word + b

/-- The nine bits of lane `n` of a word, data first (R79). -/
def laneBits (word n : Nat) : List Nat := (List.range 8).map (fun i => bitName word (8 * n + i)) ++ [bitName word (32 + n)]

/-- The order of width 6 is that of R79, words 2a and 2a + 1 each with its parity bits; where the encoder or the
decoder is on it is that of R91, which puts the check bits above the 64 data bits (DEDUCED, assumption
19). -/
def CreelCfg.coded (c : CreelCfg) : Bool := c.enc || c.dec

/-- The bits of the array that a port address reaches, in the port's order (R79, R91); `coded`: the order of
R91 at width 6. -/
def portBits (coded : Bool) (w a : Nat) : List Nat :=
  match w with
  | 0 => [bitName (a % 2 ^ 15 / 32) (a % 32)]
  | 1 => (List.range 2).map (fun i => bitName (a % 2 ^ 14 / 16) (2 * (a % 16) + i))
  | 2 => (List.range 4).map (fun i => bitName (a % 2 ^ 13 / 8) (4 * (a % 8) + i))
  | 3 => laneBits (a % 2 ^ 12 / 4) (a % 4)
  | 4 => laneBits (a % 2 ^ 11 / 2) (2 * (a % 2)) ++ laneBits (a % 2 ^ 11 / 2) (2 * (a % 2) + 1)
  | 5 => (List.range 4).flatMap (laneBits (a % 2 ^ 10))
  | _ =>
    let d := 2 * (a % 2 ^ 9)
    if !coded then (List.range 36).map (bitName d) ++ (List.range 36).map (bitName (d + 1))
    else (List.range 32).map (bitName d) ++ (List.range 32).map (bitName (d + 1)) ++
      (List.range 4).map (fun i => bitName d (32 + i)) ++ (List.range 4).map (fun i => bitName (d + 1) (32 + i))

/-- Does the port's WE write its `i`-th bit (chapter 03, "Creel ports")? -/
def weBit (w : Nat) (we : Fin 16) (i : Nat) : Bool := if w = 4 ∨ w = 5 then we.val.testBit (i / 9) else we.val.testBit 0

/-- A named bit of creel `n`. -/
def State.creelBit (s : State) (n nm : Nat) : Bool := (s.creelWord n (nm / 64)).getLsbD (nm % 64)

/-- The block with a named bit of creel `n` written. -/
def State.setCreelBit (s : State) (n nm : Nat) (v : Bool) : State :=
  let old := s.creelWord n (nm / 64)
  let m : BitVec 36 := BitVec.ofNat 36 (2 ^ (nm % 64))
  s.setCreelWord n (nm / 64) (if v then old ||| m else old &&& ~~~m)

/-- The number that named bits hold, the first least significant. -/
def State.creelBits (s : State) (n : Nat) (bs : List Nat) : Nat :=
  bs.foldr (fun b a => (s.creelBit n b).toNat + 2 * a) 0

/-- The 9-bit lane a named bit lies in. -/
def laneOf (nm : Nat) : Nat := 4 * (nm / 64) + (if nm % 64 < 32 then nm % 64 / 8 else nm % 64 - 32)

/-! ECC (R91, R92). -/

/-- The positions of d0 to d63: 1 to 71 but for powers of two (R91). -/
def eccPositions : List Nat := (List.range 72).filter (fun p => !(List.contains [0, 1, 2, 4, 8, 16, 32, 64] p))

/-- The exclusive-or of the bits `i` of `d` for which `f` holds of the position of d`i`. -/
def eccXor (d : Nat) (f : Nat → Bool) : Bool :=
  (eccPositions.zip (List.range 64)).foldl (fun a pi => a != (f pi.1 && d.testBit pi.2)) false

/-- Check bits c0 to c6 of 64 data bits (R91). -/
def eccLow (d : Nat) : Nat :=
  (List.range 7).foldl (fun a i => if eccXor d (fun p => p.testBit i) then a + 2 ^ i else a) 0

/-- The parity of the low `n` bits. -/
def parityOf (n v : Nat) : Bool := (List.range n).foldl (fun a i => a != v.testBit i) false

/-- The eight check bits of 64 data bits (R91). -/
def eccCheck (d : Nat) : Nat :=
  let c := eccLow d
  if parityOf 64 d != parityOf 7 c then c + 128 else c

/-- The 72 bits a port writes with the encoder on: data in 0 to 63, check bits above (R91). -/
def eccEncode (di : Nat) : Nat := di % 2 ^ 64 + 2 ^ 64 * eccCheck (di % 2 ^ 64)

/-- What the decoder makes of 72 stored bits: output, SBE, DBE (R92). -/
def eccDecode (v : Nat) : Nat × Bool × Bool :=
  let d := v % 2 ^ 64
  let c := v / 2 ^ 64 % 2 ^ 8
  let syn := eccLow d ^^^ (c % 128)
  let odd := parityOf 72 v
  if !odd then (v, false, decide (syn ≠ 0))
  else if syn = 0 then (v ^^^ 2 ^ 71, true, false)
  else match [1, 2, 4, 8, 16, 32, 64].findIdx? (· == syn) with
    | some i => (v ^^^ 2 ^ (64 + i), true, false)
    | none => match eccPositions.findIdx? (· == syn) with
      | some i => (v ^^^ 2 ^ i, true, false)
      | none => (v, false, true)

/-- The decoder stage's value for a latch: flags of undefined data are free (R89, R92). -/
def decodeStage (ctr n : Nat) (o : DOut) : DOut :=
  let r := eccDecode o.d
  if o.und then { d := r.1, sbe := Config.freeBit ctr (4 * n), dbe := Config.freeBit ctr (4 * n + 1), und := true }
  else { d := r.1, sbe := r.2.1, dbe := r.2.2 }

/-! A port's registers (R85). -/

/-- A port's registers after an edge: the pipeline moves with EN, and ORST clears the output register. -/
def portStep (dec oreg en orst : Bool) (ctr n : Nat) (p : CreelPort) (latch : DOut) : CreelPort :=
  let q := if en then
      { p with latch := latch, dec := decodeStage ctr n p.latch, oreg := if dec then p.dec else p.latch }
    else p
  if orst && oreg then { q with oreg := {} } else q

/-- DO of a port, with SBE and DBE (R85). -/
def portOut (dec oreg : Bool) (p : CreelPort) : DOut := if oreg then p.oreg else if dec then p.dec else p.latch

/-- DO of port B in FIFO mode with first-word fall-through: the head word, decoded where asked (R96). -/
def fallOut (dec : Bool) (ctr n : Nat) (p : CreelPort) : DOut := if dec then decodeStage ctr n p.latch else p.latch

/-- DO, SBE and DBE of a port of creel `n` as the fabric sees them (R85, R87, R92, R96). -/
def State.creelOut (s : State) (n : Nat) (isB : Bool) : DOut :=
  if s.initHold (n / 120) then {}
  else
    let c := s.creelCfg n
    let st := s.creel n
    if isB then
      (if c.fall then fallOut c.dec s.freeCtr n st.b else portOut c.dec c.oregB st.b)
    else portOut false c.oregA st.a

/-! A port access at an edge. -/

/-- What a port does at an edge: the bits it reaches, and the ones it writes with their new values. -/
structure PortJob where
  bits : List Nat := []
  writes : List (Nat × Bool) := []
  deriving DecidableEq, Repr

/-- The job of a port in TDP or SDP72 mode: none when it is disabled or EN is 0 (R85, R90, R91). -/
def portJob (c : CreelCfg) (isB : Bool) (p : CreelPortPins) : Option PortJob :=
  match c.port isB with
  | none => none
  | some w =>
    if !p.en then none
    else
      let bits := portBits c.coded w p.addr
      let di := if c.enc && !isB then eccEncode p.di else p.di
      let may (i : Nat) : Bool := if c.cmode = 1 then !isB && p.we.val.testBit 0 else weBit w p.we i
      let ws := ((bits.zip (List.range bits.length)).filter (fun e => may e.2)).map (fun e => (e.1, di.testBit e.2))
      some { bits := bits, writes := ws }

/-- The writes of port B that stand beside port A's at one edge: a lane both write takes A's (R88). -/
def besideA (a b : List (Nat × Bool)) : List (Nat × Bool) :=
  b.filter (fun e => !a.any (fun f => laneOf f.1 == laneOf e.1))

/-- The new latch of a port (R85, R86): `s` before the edge, `t` after every write of it. -/
def latchAfter (s t : State) (n wmode : Nat) (old : DOut) (j : PortJob) : DOut :=
  if j.writes = [] then { d := s.creelBits n j.bits }
  else match wmode with
    | 0 => { d := t.creelBits n j.bits }
    | 1 => { d := s.creelBits n j.bits }
    | _ => old

/-- Does the latch take a read at this edge? -/
def jobReads (wmode : Nat) (j : PortJob) : Bool := j.writes == [] || decide (wmode ≤ 1)

/-- A write that falls within 400 ps of the other port's write: each bit both write is either's (R89). -/
def mixWrites (ctr n : Nat) (other : PortAcc) (s : State) (ws : List (Nat × Bool)) : List (Nat × Bool) :=
  ws.map (fun e =>
    if other.writes.any (fun f => f.1 == e.1) then
      (e.1, if Config.freeBit ctr (1024 * n + e.1 % 1024) then e.2 else s.creelBit n e.1)
    else e)

/-- A read that falls within 400 ps of the other port's write: each written bit is old or new (R89). -/
def mixRead (ctr : Nat) (other : PortAcc) (bits : List Nat) (o : DOut) : DOut :=
  if bits.any (fun b => other.writes.any (fun f => f.1 / 64 == b / 64)) then
    { d := (bits.zip (List.range bits.length)).foldl (fun a e =>
        match other.writes.find? (fun f => f.1 == e.1) with
        | some f => if Config.freeBit ctr (4096 + e.2) then a else
            (if f.2 then a ||| 2 ^ e.2 else a &&& (2 ^ 72 - 1 - 2 ^ e.2))
        | none => a) o.d,
      und := true }
  else o

/-- A write that falls within 400 ps of the other port's read: that port's output takes each written
bit old or new (R89). -/
def mixLatch (ctr : Nat) (ws : List (Nat × Bool)) (p : CreelPort) : CreelPort :=
  if p.acc.reads.any (fun b => ws.any (fun w => w.1 / 64 == b / 64)) then
    let d := (p.acc.reads.zip (List.range p.acc.reads.length)).foldl (fun a e =>
      match ws.find? (fun w => w.1 == e.1) with
      | some w => if Config.freeBit ctr (8192 + e.2) then
          (if w.2 then a ||| 2 ^ e.2 else a &&& (2 ^ 72 - 1 - 2 ^ e.2)) else a
      | none => a) p.latch.d
    { p with latch := { d := d, und := true } }
  else p

/-- The writes of a job applied. -/
def State.applyWrites (s : State) (n : Nat) (ws : List (Nat × Bool)) : State :=
  ws.foldl (fun t w => t.setCreelBit n w.1 w.2) s

/-- A pending scrub write-back is cancelled by a write of its word (R93). -/
def scrubCancel (c : CreelSt) (ws : List (Nat × Bool)) : CreelSt :=
  match c.scrubWrite with
  | some (a, _) => if ws.any (fun w => w.1 / 128 == a) then { c with scrubWrite := none } else c
  | none => c

/-- What an access leaves in the port's record. -/
def accOf (s : State) (n wmode : Nat) (j : PortJob) (ws : List (Nat × Bool)) : PortAcc :=
  { reads := if jobReads wmode j then j.bits else [], writes := ws.map (fun w => (w.1, s.creelBit n w.1)) }

/-- WMODE with the hardware effect of an illegal one (R82). -/
def wmodeOf (v : Nat) : Nat := min v 2

/-- A creel in TDP or SDP72 mode at an edge that clocks the ports `fa`, `fb` (R85 to R92). -/
def State.portsEdge (s : State) (n : Nat) (c : CreelCfg) (fa fb : Bool) (p : CreelPins) : State :=
  let st := s.creel n
  let ja := if fa then portJob c false p.a else none
  let jb := if fb then portJob c true p.b else none
  let near := p.near400 && !c.oneClock
  let wa0 := (ja.map PortJob.writes).getD []
  let wb0 := if c.oneClock then besideA wa0 ((jb.map PortJob.writes).getD []) else (jb.map PortJob.writes).getD []
  let wa := if near then mixWrites s.freeCtr n st.b.acc s wa0 else wa0
  let wb := if near then mixWrites s.freeCtr n st.a.acc s wb0 else wb0
  let t := (s.applyWrites n wb).applyWrites n wa
  let ma := wmodeOf c.wmodeA
  let mb := wmodeOf c.wmodeB
  let pa := match ja with
    | some j =>
      let l := latchAfter s t n ma st.a.latch j
      let l := if near && jobReads ma j then mixRead s.freeCtr st.b.acc j.bits l else l
      { (portStep false c.oregA true p.a.orst s.freeCtr n st.a l) with acc := accOf s n ma j wa }
    | none => if fa then { (portStep false c.oregA false p.a.orst s.freeCtr n st.a st.a.latch) with acc := {} } else st.a
  let pb := match jb with
    | some j =>
      let l := latchAfter s t n mb st.b.latch j
      let l := if near && jobReads mb j then mixRead s.freeCtr st.a.acc j.bits l else l
      { (portStep c.dec c.oregB true p.b.orst s.freeCtr n st.b l) with acc := accOf s n mb j wb }
    | none => if fb then { (portStep c.dec c.oregB false p.b.orst s.freeCtr n st.b st.b.latch) with acc := {} } else st.b
  let pa := if near && fb then mixLatch s.freeCtr wb pa else pa
  let pb := if near && fa then mixLatch s.freeCtr wa pb else pb
  let st := scrubCancel { st with a := pa, b := pb, scrubPulse := none } (wa ++ wb)
  { t.setCreel n st with freeCtr := s.freeCtr + 1 }

/-! FIFO mode (R94 to R97). -/

/-- The difference of two pointers of a FIFO of depth `d`. -/
def fifoDiff (d a b : Nat) : Nat := (a + 2 * d - b) % (2 * d)

/-- A threshold flag: held at 1 when the threshold is above the depth (R82). -/
def thFlag (d th : Nat) (v : Bool) : Bool := v || decide (d < th)

/-- The flags of the write side for an occupancy (R95). -/
def FifoSt.wrFlags (f : FifoSt) (d th : Nat) : FifoSt :=
  { f with full := f.wrcount == d, afull := thFlag d th (decide (d - f.wrcount ≤ th)) }

/-- The flags of the read side, EMPTY apart (R95). -/
def FifoSt.rdFlags (f : FifoSt) (d th : Nat) (empty : Bool) : FifoSt :=
  { f with empty := empty, aempty := thFlag d th (decide (f.rdcount ≤ th)) }

/-- The write side at its edge; `push` when the word is taken. -/
def FifoSt.writeEdge (f : FifoSt) (c : CreelCfg) (en near : Bool) : FifoSt × Bool :=
  let d := fifoDepth c.widthA
  if 0 < f.rstW then
    let g := { f with rstW := f.rstW - 1, wrerr := false, wrcount := 0 }
    (if g.rstW = 0 then g.wrFlags d c.afTh else g, false)
  else
    let push := en && !f.full
    let g := { f with
      wPrev := f.wptr, wptr := if push then (f.wptr + 1) % (2 * d) else f.wptr,
      ws1 := if near then f.rPrev else f.rptr, ws2 := f.ws1, wrerr := f.wrerr || (en && f.full) }
    (({ g with wrcount := fifoDiff d g.wptr f.ws2 }).wrFlags d c.afTh, push)

/-- The read side at its edge; `pop` when a word is taken. -/
def FifoSt.readEdge (f : FifoSt) (c : CreelCfg) (en near : Bool) : FifoSt × Bool :=
  let d := fifoDepth c.widthA
  if 0 < f.rstR then
    let g := { f with rstR := f.rstR - 1, rderr := false, rdcount := 0 }
    (if g.rstR = 0 then g.rdFlags d c.aeTh true else g, false)
  else
    let pop := en && !f.empty
    let g := { f with
      rPrev := f.rptr, rptr := if pop then (f.rptr + 1) % (2 * d) else f.rptr,
      rs1 := if near then f.wPrev else f.wptr, rs2 := f.rs1, rderr := f.rderr || (en && f.empty) }
    let n := fifoDiff d f.rs2 g.rptr
    (({ g with rdcount := n }).rdFlags d c.aeTh (n == 0 || (c.fall && f.rdcount == 0)), pop)

/-- The bits of the word a pointer names. -/
def fifoBits (c : CreelCfg) (ptr : Nat) : List Nat := portBits c.coded c.widthA (ptr % fifoDepth c.widthA)

/-- A creel in FIFO mode at an edge that clocks the write side `fw` or the read side `fr`. -/
def State.fifoEdge (s : State) (n : Nat) (c : CreelCfg) (fw fr : Bool) (p : CreelPins) : State :=
  let st := s.creel n
  if p.rst then s.setCreel n { st with fifo := {}, scrubPulse := none }
  else
    let near := p.near150 && !c.oneClock
    let (f1, push) := if fw then st.fifo.writeEdge c p.a.en near else (st.fifo, false)
    let bits := fifoBits c st.fifo.wptr
    let di := if c.enc then eccEncode p.a.di else p.a.di
    let ws := if push then (bits.zip (List.range bits.length)).map (fun e => (e.1, di.testBit e.2)) else []
    let t := s.applyWrites n ws
    let (r, pop) := if fr then st.fifo.readEdge c p.b.en near else (st.fifo, false)
    let f2 := if fr then
        { f1 with
          rptr := r.rptr, rPrev := r.rPrev, rs1 := r.rs1, rs2 := r.rs2, rdcount := r.rdcount,
          empty := r.empty, aempty := r.aempty, rderr := r.rderr, rstR := r.rstR }
      else f1
    let b := if !fr then st.b
      else if c.fall then
        (if f2.empty then st.b else { st.b with latch := { d := t.creelBits n (fifoBits c f2.rptr) } })
      else portStep c.dec c.oregB (p.b.en && 0 == st.fifo.rstR) p.b.orst s.freeCtr n st.b
        (if pop then { d := s.creelBits n (fifoBits c st.fifo.rptr) } else st.b.latch)
    t.setCreel n (scrubCancel { st with fifo := f2, b := b, scrubPulse := none } ws)

/-- Creel `n` at an edge of stake net `net` of its bay (R85 to R97): nothing moves in INIT hold (R87). -/
def State.creelEdge (s : State) (n net : Nat) (rising : Bool) (p : CreelPins) : State :=
  let c := s.creelCfg n
  let fa := clocks c.clkA c.invA net rising
  let fb := clocks c.clkB c.invB net rising
  if fa || fb then
    let t := if c.cmode = 3 then s
      else if c.cmode = 2 then (if (c.port false).isSome then s.fifoEdge n c fa fb p else s)
      else s.portsEdge n c fa fb p
    if fa && p.a.en && p.staleClr then t.staleOff n else t
  else s

/-- An unlisted creel's pins are low. -/
def lowCreel : CreelPins := ⟨⟨false, 0, 0, 0, false⟩, ⟨false, 0, 0, 0, false⟩, false, false, false, false⟩

/-- The creel columns of a bay whose live plane holds a nonzero frame. -/
def State.activeCreels (s : State) (bay : Nat) : List Nat :=
  (List.range 120).filter (fun i => s.planes.frames.any (fun e => decide (e.1 / 2 ^ 7 =
    s.liveLatch bay * 2 ^ 14 + bayBand bay * 2 ^ 10 + bayPos bay (creelPos (i / 30)))))

/-- The creels of a bay at an edge of one of its stake nets. -/
def State.creelsEdge (s : State) (bay net : Nat) (rising : Bool) (p : EdgePins) : State :=
  if s.initHold bay then s
  else (s.activeCreels bay).foldl (fun t i =>
    t.creelEdge (120 * bay + i) net rising ((p.creels.lookup i).getD lowCreel)) s

/-- RST is sampled asynchronously: while it is 1 a FIFO stands in its reset, clock or none (R97). -/
def State.fifoReset (s : State) (bay : Nat) (p : EdgePins) : State :=
  if s.initHold bay then s
  else (s.activeCreels bay).foldl (fun t i =>
    let n := 120 * bay + i
    if (s.creelCfg n).cmode = 2 ∧ ((p.creels.lookup i).getD lowCreel).rst then t.setCreel n { t.creel n with fifo := {} } else t) s

/-- The creels of a bay at its commit edge, or in INIT hold: outputs 0, FIFOs empty, no scrub in progress
(R87). -/
def State.creelLoad (s : State) (bay : Nat) : State :=
  (List.range 120).foldl (fun t i =>
    let c := t.creel (120 * bay + i)
    t.setCreel (120 * bay + i) { c with a := {}, b := {}, fifo := {}, scrubWrite := none, scrubPulse := none }) s

/-! Scrub (R93). -/

/-- The 72 bits of a pair of words, data first (R91). -/
def State.creelPair (s : State) (n a : Nat) : Nat := s.creelBits n (portBits true 6 a)

/-- The meaning of CREEL_SCRUB_STEP: the next pair is read and checked (R93). -/
def execCreelScrubStep (n : Fin 11520) (s : State) : Host.Outcome State Fault Refusal :=
  let c := s.creelCfg n.val
  if s.activeCreels (n.val / 120) = [] ∨ s.initHold (n.val / 120) ∨ !c.scrubOn then .next s
  else
    let st := s.creel n.val
    let a := st.scrubPos % 512
    let r := eccDecode (s.creelPair n.val a)
    let st := { st with scrubPos := (a + 1) % 512 }
    .next (s.setCreel n.val (
      if r.2.1 then { st with scrubWrite := some (a, r.1), scrubPulse := some (false, a) }
      else if r.2.2 then { st with scrubPulse := some (true, a) }
      else { st with scrubPulse := none }))

/-- The meaning of CREEL_SCRUB_WRITE_BACK: the corrected pair is written (R93); none in INIT hold, and none once
SCRUB is off (R87). -/
def execCreelScrubWriteBack (n : Fin 11520) (s : State) : Host.Outcome State Fault Refusal :=
  if s.initHold (n.val / 120) ∨ !(s.creelCfg n.val).scrubOn then .next s
  else match (s.creel n.val).scrubWrite with
  | some (a, v) =>
    let bits := portBits true 6 a
    let t := s.applyWrites n.val ((bits.zip (List.range 72)).map (fun e => (e.1, v.testBit e.2)))
    .next (t.setCreel n.val { t.creel n.val with scrubWrite := none })
  | none => .next s

end Sys2Proof.Machine
end

