-- ==== Sys2Proof/Machine/Stream.lean ====
section
/-! DEFINITION. The configuration engine on its streams (chapter 06_configuration_stream.md, R235 to
R237): one packet at a time, each error with the state it leaves. -/
namespace Sys2Proof.Machine

/-- A stream error: its code, CFG_ERRPLACE and CFG_ERRWORD (R198). -/
structure StreamErr where
  code : Nat
  place : Word := 0
  word : Nat := 0

/-- What an action of the engine gives: the block, and an error that ends the stream. -/
abbrev Acted := State × Option StreamErr

/-- The packet header's fields (R168). -/
def hdrOp (h : Word) : Nat := getBits h 31 28
def hdrReg (h : Word) : Nat := getBits h 27 23
def hdrDyn (h : Word) : Bool := getBit h 22
def hdrCount (h : Word) : Nat := getBits h 19 0

/-- The header of a WRITE of `n` words to a register, with DYN. -/
def writeHdr (reg n : Nat) (dyn : Bool) : Word := BitVec.ofNat 32 (2 ^ 28 + reg * 2 ^ 23 + dyn.toNat * 2 ^ 22 + n % 2 ^ 20)

/-- The header of a packet without REG. -/
def opHdr (op n : Nat) (dyn : Bool) : Word := BitVec.ofNat 32 (op * 2 ^ 28 + dyn.toNat * 2 ^ 22 + n % 2 ^ 20)

/-- The header of a READ. -/
def readHdr (reg n : Nat) : Word := BitVec.ofNat 32 (2 * 2 ^ 28 + reg * 2 ^ 23 + n % 2 ^ 20)

/-! The engine's state. -/

/-- The stream being processed. -/
def State.st (s : State) : StreamSt := s.eng.st

/-- The block with the stream's state changed. -/
def State.setSt (s : State) (st : StreamSt) : State := { s with eng := { s.eng with st := st } }

/-- Have the quads of the image source reached their calibration outcome, and those of host port A passed
(R210)?  A Wale port of a failed quad carries nothing. -/
def State.sourceReady (s : State) : Bool :=
  decide (s.boot.calPend &&& s.boot.srcQuads = 0) &&
    (s.bootSource != 2 || (List.range 16).all (fun q => !s.boot.srcQuads.testBit q || s.bit (Reg.qstat q) 3))

/-- The source whose words the engine reads, coded as CFG_ERR.SOURCE, none when no source is open
(R208, R233, R21). -/
def State.engSource (s : State) : Option Nat :=
  if s.mode = 4 then
    (if s.boot.reading && !s.boot.programLow && s.sourceReady then some s.bootSource else none)
  else if s.mode = 6 ∨ s.mode = 7 ∨ s.mode = 8 then
    let c := s.fld Reg.cfgPsrc 2 0
    if c = 0 ∨ (2 ≤ c ∧ c ≤ 5) then some c else none
  else none

/-- FORM's bits (R174). -/
def StreamSt.full (t : StreamSt) : Bool := getBit t.form 0
def StreamSt.prio (t : StreamSt) : Bool := getBit t.form 1
def StreamSt.crcOnly (t : StreamSt) : Bool := getBit t.form 2

/-- Is a register written in this stream? -/
def StreamSt.has (t : StreamSt) (r : Nat) : Bool := t.written.contains r

/-- The stream's state with a register recorded as written. -/
def StreamSt.wrote (t : StreamSt) (r : Nat) : StreamSt := { t with written := r :: t.written }

/-- BOUND as it applies: every bay and EDGE bit in a full stream that did not write it (R175). -/
def StreamSt.bayMask (t : StreamSt) : Nat := if t.full && !t.has 7 then 2 ^ 96 - 1 else t.bays
def StreamSt.edgeMask (t : StreamSt) : Nat := if t.full && !t.has 7 then 2 ^ 16 - 1 else t.edge

/-- Is a unit in a set of bays and edge columns? -/
def inSet (bays edge u : Nat) : Bool := if u < 96 then bays.testBit u else edge.testBit (u - 96)

/-- The units of a set. -/
def unitsOf (bays edge : Nat) : List Nat := allUnits.filter (inSet bays edge)

/-- Is the engine stalled (R176, R370, R440)? -/
def State.stalled (s : State) : Bool := s.st.stall || s.eng.todo.isSome || !s.eng.unread.isEmpty

/-- STAT as a READ returns it (R178). -/
def StreamSt.stat (t : StreamSt) : Word :=
  BitVec.ofNat 32 (t.err % 256 + t.inBody.toNat * 2 ^ 8 + t.staged.toNat * 2 ^ 9 + t.finished.toNat * 2 ^ 10)

/-! Errors. -/

/-- ORDER, with PLACE when STAGE was accepted (R198). -/
def StreamSt.order (t : StreamSt) : StreamErr := { code := 0x08, place := if t.staged then t.place else 0 }

/-- Nothing went wrong. -/
def fine (s : State) : Acted := (s, none)

/-- The stream ends with an error. -/
def stop (s : State) (code : Nat) : Acted := (s, some { code := code })

/-- CFG_ERR and its companions record an error, and EV176 is raised (R199). -/
def State.recordErr (s : State) (src : Nat) (h : Word) (pos : Nat) (e : StreamErr) : State :=
  let w := e.code + src * 2 ^ 8 + hdrOp h * 2 ^ 12 + hdrReg h * 2 ^ 16 + s.st.staged.toNat * 2 ^ 21 + s.st.full.toNat * 2 ^ 22 +
    ((s.bit Reg.cfgErr 31 || s.bit Reg.cfgErr 30).toNat) * 2 ^ 30 + 2 ^ 31
  let t := s.wr Reg.cfgErr (BitVec.ofNat 32 w)
  let t := ((t.wr Reg.cfgErrplace e.place).wr Reg.cfgErrpos (BitVec.ofNat 32 pos)).wr Reg.cfgErrword (BitVec.ofNat 32 (e.word % 2 ^ 16))
  t.raise 176

/-- A set leaves a commit group (R239, R241). -/
def State.leaveGroup (s : State) (g bays edge : Nat) : State :=
  if 8 ≤ g then s
  else
    let cut (t : State) (off : Nat) (m : Nat) : State := t.wr off (t.rd off &&& ~~~(BitVec.ofNat 32 m))
    cut (cut (cut (cut s (Reg.cgMask0 g) bays) (Reg.cgMask1 g) (bays / 2 ^ 32)) (Reg.cgMask2 g) (bays / 2 ^ 64)) (Reg.cgEdge g)
      (edge % 2 ^ 16)

/-- A set joins a commit group (R241). -/
def State.joinGroup (s : State) (g bays edge : Nat) : State :=
  if 8 ≤ g then s
  else
    (((s.orReg (Reg.cgMask0 g) (BitVec.ofNat 32 bays)).orReg (Reg.cgMask1 g) (BitVec.ofNat 32 (bays / 2 ^ 32))).orReg
      (Reg.cgMask2 g) (BitVec.ofNat 32 (bays / 2 ^ 64))).orReg (Reg.cgEdge g) (BitVec.ofNat 32 (edge % 2 ^ 16))

/-- Units take a shadow state. -/
def State.setUnits (s : State) (us : List Nat) (v : Nat) : State := us.foldl (fun t u => t.setShState u v) s

/-- A partial staging ends without a result of its own: its units are INVALID and leave the group, and
CFG_STGSTAT.RESULT takes the code (R198, R231, R239, R241). -/
def State.dropStaging (s : State) (g bays edge code : Nat) : State :=
  let t := (s.setUnits (unitsOf bays edge) 5).leaveGroup g bays edge
  ((t.setBit Reg.cfgStgstat 15 false).setFld Reg.cfgStgstat 7 0 code).stageRefresh

/-- Is the stream in progress, or in its staged-verify pass, a reload's own (R271)?  A reload that waits, or that
has armed, leaves the streams of other sources alone. -/
def State.reloadReads (s : State) : Bool :=
  match s.pnt.reload with
  | some r => decide (r.step = .reading) || decide (r.step = .verifying)
  | none => false

/-- The group a partial staging joins; 8 stands for a reload's own set (R271). -/
def State.stagingGroup (s : State) : Nat := if s.reloadReads then 8 else s.st.group

/-- The log registers show the head entry, the depth and whether it is valid (R273, R274). -/
def State.logShow (s : State) : State :=
  let n := s.pnt.log.length
  match s.pnt.log with
  | [] => ((s.wr Reg.pntLogPlace 0).wr Reg.pntLogInfo 0).wr Reg.pntLogTime 0
  | e :: _ =>
    ((s.wr Reg.pntLogPlace e.place).wr Reg.pntLogInfo (putBit (putBits e.info 24 20 n) 31 true)).wr Reg.pntLogTime e.time

/-- A log entry of the pointing engine, or its overflow (R273). -/
def State.pntLog (s : State) (e : LogEntry) : State :=
  if s.pnt.log.length < 16 then ({ s with pnt := { s.pnt with log := s.pnt.log ++ [e] } }).logShow
  else (s.setBit Reg.pntStat 2 true).raise 198

/-- A reload takes a bay on: step 1 of R271. -/
def State.reloadStart (s : State) (bay : Nat) : State :=
  let t := { s with pnt := { s.pnt with reload := some { bay := bay, step := .waiting },
                                        wants := s.pnt.wants &&& (2 ^ 96 - 1 - 2 ^ bay) } }
  (t.setBit Reg.pntStat 1 true).setFld Reg.pntStat 14 8 bay

/-- The lowest waiting bay, if there is one, is taken on next (R271). -/
def State.reloadNext (s : State) : State :=
  match (List.range 96).find? s.pnt.wants.testBit with
  | some b => s.reloadStart b
  | none => s

/-- The log time of an error found now (R273). -/
def State.logTime (s : State) : Word := BitVec.ofNat 32 (s.cad.tb / (2 ^ 41 * 125) % 1000000000)

/-- A reload fails (R271 step 7): the bay stays held, the code is recorded, EV196 is raised, and what
the reload left WRITING or STAGED becomes INVALID. -/
def State.reloadFail (s : State) (code : Nat) : State :=
  match s.pnt.reload with
  | none => s
  | some r =>
    let s := if r.step = .reading then s.flashResume true else s
    let us := (unitsOf r.bays r.edge).filter (fun u => decide (1 ≤ s.shState u) && decide (s.shState u ≤ 2))
    let t := s.setUnits us 5
    let t := t.wr Reg.pntRlstat (BitVec.ofNat 32 (code + r.bay * 2 ^ 8 + 2 ^ 31))
    let t := { (t.setBit Reg.pntStat 1 false) with pnt := { t.pnt with reload := none, fire := false } }
    let t := if r.step = .reading ∨ r.step = .verifying then
        let u := (t.setFld Reg.cfgPsrc 2 0 7).setBit Reg.cfgStgstat 15 false
        { u with eng := { u.eng with
          verify := none, queue := [], unread := [], todo := none, phase := .search, gang := .none, left := 0, skip := 0
          arrived := false, feedLeft := 0, st := {} } }
      else t
    let t := t.pntLog { place := mkPlace false 0 (bayBand r.bay) (bayPos r.bay 0) 0, info := 0xC000#32, time := t.logTime }
    ((t.raise 196).stageRefresh).reloadNext

/-- An error ends the stream (R198): it is recorded, the engine ignores further words, and an accepted
staging is discarded. -/
def State.streamError (s : State) (src : Nat) (h : Word) (pos : Nat) (e : StreamErr) : State :=
  let st := s.st
  let t := s.recordErr src h pos e
  let t := { t with eng := { t.eng with phase := .dead, todo := none, unread := [], st := { st with err := e.code, stall := false } } }
  if st.passed then t
  else if st.full then t
  else
    let g := s.stagingGroup
    let t := if st.staged then t.dropStaging g st.bays st.edge e.code else t
    if s.pnt.reload.isSome && decide (s.pnt.reload.map Reload.step = some .reading) then
      let u := t.reloadFail e.code
      { u with eng := { u.eng with st := {}, phase := .search } }
    else t

/-! Header checks (R170). -/

/-- May a stream register be named by a WRITE? -/
def writable (r : Nat) : Bool := decide (1 ≤ r) && decide (r ≤ 15)

/-- Is the packet one that writes frames (R168, R169)? -/
def frameWriting (op reg : Nat) : Bool := (op == 1 && reg == 13) || op == 3 || op == 4 || op == 5

/-- Is the COUNT one that R169 and the register table permit? -/
def countOk (op reg n : Nat) : Bool :=
  match op with
  | 1 => match reg with
    | 5 => n == 3
    | 7 => n == 4
    | 10 => decide (2 ≤ n) && decide (n ≤ 1024) && n % 2 == 0
    | 13 => decide (320 ≤ n) && decide (n ≤ 1048320) && n % 320 == 0
    | 14 => n == 4
    | _ => n == 1
  | 2 => if reg = 13 then decide (320 ≤ n) && n % 320 == 0 else n == 1
  | 3 => decide (1 ≤ n)
  | 4 => decide (1 ≤ n)
  | 5 => decide (1 ≤ n)
  | 7 => n == 2
  | _ => n == 0

/-- The error a header carries in itself (R170, R183, R196), given its source. -/
def headerErr (src : Nat) (h : Word) : Option Nat :=
  let op := hdrOp h
  let reg := hdrReg h
  if (8 ≤ op ∧ op ≤ 14) ∨ getBits h 21 20 ≠ 0 then some 2
  else if op ≠ 1 ∧ op ≠ 2 ∧ reg ≠ 0 then some 2
  else if hdrDyn h ∧ !frameWriting op reg then some 2
  else if op = 2 ∧ src ≠ 2 ∧ src ≠ 3 ∧ src ≠ 5 then some 2
  else if op = 1 ∧ !writable reg then some 3
  else if op = 2 ∧ reg ≠ 12 ∧ reg ≠ 13 ∧ reg ≠ 16 then some 3
  else if !countOk op reg (hdrCount h) then some 4
  else none

/-! Register writes outside frames. -/

/-- The mode accepts the stream's kind (R174). -/
def State.kindOk (s : State) (full : Bool) : Bool := if full then s.mode == 4 else s.mode == 6 || s.mode == 7

/-- The IDCODE write (R173). -/
def State.writeIdcode (s : State) (v : Word) : Acted :=
  let d := s.rd Reg.cfgIdcode
  if getBits v 27 0 = getBits d 27 0 ∧ (getBits v 31 28 = getBits d 31 28 ∨ getBits v 31 28 = 15) then
    fine (s.setSt ({ s.st with idOk := true }.wrote 1))
  else stop s 7

/-- May step 3's registers be written now (R186)? -/
def StreamSt.early (t : StreamSt) : Bool := !t.inBody && !t.bodyDone && !t.begun

/-- KEYSEL.SLOT and FORM contradict each other: a sealed stream needs a key, a CRC-only stream none (R172,
R174). -/
def slotClash (form : Word) (slot : Nat) : Bool := getBit form 2 != (slot == 0)

/-- The FORM write (R172, R174, R212).  Once KEYSEL has been written too, a value that contradicts it is
BAD_VALUE; where one of the two is never written, STAGE refuses the stream (R176). -/
def State.writeForm (s : State) (v : Word) : Acted :=
  let t := s.st
  if t.has 2 ∨ !t.early ∨ (getBit v 2 && (t.has 5 || t.has 6)) then (s, some t.order)
  else if 8 ≤ v.toNat ∨ (getBit v 1 && !getBit v 0) ∨ (getBit v 2 && getBit v 0) ∨ (t.has 3 && slotClash v t.keysel) then stop s 5
  else if !s.kindOk (getBit v 0) then (s, some t.order)
  else if s.mode = 4 ∧ s.bootSource ≤ 1 ∧ getBit v 1 ≠ s.boot.inPrio then (s, some t.order)
  else fine (s.setSt ({ t with form := v }.wrote 2))

/-- The KEYSEL write (R172, R174). -/
def State.writeKeysel (s : State) (v : Word) : Acted :=
  let t := s.st
  if t.has 3 ∨ !t.early then (s, some t.order)
  else if 3 ≤ v.toNat ∨ (t.has 2 && slotClash t.form v.toNat) then stop s 5
  else fine (s.setSt ({ t with keysel := v.toNat }.wrote 3))

/-- The SID write. -/
def State.writeSid (s : State) (v : Word) : Acted :=
  let t := s.st
  if t.has 4 ∨ !t.early then (s, some t.order) else fine (s.setSt ({ t with sid := v }.wrote 4))

/-- The IV write (R188). -/
def State.writeIv (s : State) (ws : List Word) : Acted :=
  let t := s.st
  if t.has 5 ∨ !t.early ∨ t.crcOnly then (s, some t.order) else fine (s.setSt ({ t with iv := ws }.wrote 5))

/-- The BODYLEN write (R189). -/
def State.writeBodylen (s : State) (v : Word) : Acted :=
  let t := s.st
  if t.has 6 ∨ !t.early ∨ t.crcOnly then (s, some t.order)
  else if v.toNat = 0 ∨ v.toNat % 4 ≠ 0 then stop s 5
  else fine (s.setSt ({ t with bodylen := v.toNat }.wrote 6))

/-- May step 5's packets come now (R186)? -/
def StreamSt.mid (t : StreamSt) : Bool := (t.inBody || (t.crcOnly && !t.passed)) && !t.finished

/-- The bay of band-wythe `k` beside its edge columns (R236). -/
def edgeBay (k : Nat) : Nat := 48 * (k / 8) + 6 * (k % 8)

/-- The BOUND write (R175, R236). -/
def State.writeBound (s : State) (ws : List Word) : Acted :=
  let t := s.st
  let bays := (ws.getD 0 0).toNat + (ws.getD 1 0).toNat * 2 ^ 32 + (ws.getD 2 0).toNat * 2 ^ 64
  let edge := (ws.getD 3 0).toNat
  if t.has 7 ∨ !t.mid ∨ t.staged then (s, some t.order)
  else if 2 ^ 16 ≤ edge ∨ (!t.full ∧ (List.range 16).any (fun k => edge.testBit k && !bays.testBit (edgeBay k))) then stop s 5
  else fine (s.setSt ({ t with bays := bays, edge := edge, begun := true }.wrote 7))

/-- The GROUP write. -/
def State.writeGroup (s : State) (v : Word) : Acted :=
  let t := s.st
  if t.has 8 ∨ !t.mid ∨ t.staged then (s, some t.order)
  else if 8 ≤ v.toNat then stop s 5
  else fine (s.setSt ({ t with group := v.toNat, begun := true }.wrote 8))

/-- The PLFLOOR write. -/
def State.writePlfloor (s : State) (v : Word) : Acted :=
  let t := s.st
  if t.has 9 ∨ !t.mid ∨ t.staged then (s, some t.order)
  else if getBits v 7 6 ≠ 0 ∨ getBits v 31 20 ≠ 0 ∨ getBits v 2 0 < getBits v 5 3 ∨
      (getBits v 19 8 = 0 ∧ getBits v 5 3 ≠ 0) then stop s 5
  else fine (s.setSt ({ t with floor := v, begun := true }.wrote 9))

/-- The register a CLKSET offset names, when it is one of R178's. -/
def clksetReg (off : Nat) : Option Nat :=
  let o := 0x50000 + off
  if off % 4 ≠ 0 then none
  else if 0x50100 ≤ o ∧ o < 0x50900 ∧ (o - 0x50100) % 0x40 < 0x18 then some o
  else if 0x51000 ≤ o ∧ o < 0x51220 then some o
  else if 0x51400 ≤ o ∧ o < 0x51580 then some o
  else none

/-- Does a CLKSET value keep every field of its register in range, with no illegal code and no value a
boundary would clamp (R178)? -/
def clksetValueOk (o : Nat) (v : Word) : Bool :=
  let spare := match regRow? o with
    | some r => decide (v &&& ~~~(BitVec.ofNat 32 (r.rw ||| r.rwb)) = 0)
    | none => false
  spare &&
    (if o < 0x50900 then
      (match (o - 0x50100) % 0x40 with
       | 0 => decide (getBits v 2 0 ≤ 4) && decide (getBits v 17 8 ≠ 0)
       | 4 => decide (32 ≤ getBits v 8 0)
       | 0x10 => clampTap v == v
       | 0x14 => clampTap v == v
       | _ => true)
     else if o < 0x51200 then rimLegal v else if o < 0x51220 then vselLegal v else true)

/-- The pairs of a CLKSET packet. -/
def pairsOf : List Word → List (Word × Word)
  | a :: b :: r => (a, b) :: pairsOf r
  | _ => []

/-- Is one CLKSET pair in order (R178, R212)? -/
def State.clksetOk (s : State) (p : Word × Word) : Bool :=
  decide (getBits p.1 31 16 = 0) &&
    (match clksetReg (getBits p.1 15 0) with
     | some o => clksetValueOk o p.2 && (s.st.prio || !s.boot.prioClk.contains o)
     | none => false)

/-- The CLKSET write (R178).  The index of a failing pair counts over the stream's pairs. -/
def State.writeClkset (s : State) (ws : List Word) : Acted :=
  let t := s.st
  if !t.mid ∨ t.staged ∨ !t.full then (s, some t.order)
  else
    let ps := pairsOf ws
    match ps.findIdx? (fun p => !s.clksetOk p) with
    | some i => (s, some { code := 0x15, word := t.clkset.length + i })
    | none =>
      fine (s.setSt ({ t with clkset := t.clkset ++ ps.map (fun (p : Word × Word) => (0x50000 + getBits p.1 15 0, p.2)), begun := true }.wrote 10))

/-- A pending write-back of a frame is dropped: it is read again in the next pass (R268). -/
def State.dropWriteBack (s : State) (hit : Nat → Bool) : State :=
  { s with pnt := { s.pnt with writeBack := s.pnt.writeBack.filter (fun e => !hit e.2.1) } }

/-! STAGE (R176, R235). -/

/-- Does life-cycle policy permit the stream (R448)? -/
def State.policyOk (s : State) (crc : Bool) (keysel : Nat) : Bool :=
  match s.lcState with
  | 2 => true
  | 3 => if crc then s.lcPolicy 1 else keysel == 1 || !s.lcPolicy 2
  | 4 => true
  | _ => false

/-- Does life-cycle policy permit READ packets (R448)? -/
def State.readbackOk (s : State) : Bool :=
  match s.lcState with
  | 2 => true
  | 3 => s.bit Reg.lcDebug 1 && s.bit Reg.lcDebug 2
  | 4 => true
  | _ => false

/-- The bays of three mask registers. -/
def State.maskAt (s : State) (r0 r1 r2 : Nat) : Nat := (s.rd r0).toNat + (s.rd r1).toNat * 2 ^ 32 + (s.rd r2).toNat * 2 ^ 64

/-- CGg_MASK, LAST and PANEL as sets of bays; EDGE and LASTEDGE (R241, R256, R259). -/
def State.cgBays (s : State) (g : Nat) : Nat := s.maskAt (Reg.cgMask0 g) (Reg.cgMask1 g) (Reg.cgMask2 g)
def State.cgLast (s : State) (g : Nat) : Nat := s.maskAt (Reg.cgLast0 g) (Reg.cgLast1 g) (Reg.cgLast2 g)
def State.cgPanel (s : State) (g : Nat) : Nat := s.maskAt (Reg.cgPanel0 g) (Reg.cgPanel1 g) (Reg.cgPanel2 g)
def State.cgEdgeSet (s : State) (g : Nat) : Nat := s.fld (Reg.cgEdge g) 15 0
def State.cgLastEdge (s : State) (g : Nat) : Nat := s.fld (Reg.cgEdge g) 31 16

/-- STAGE_BUSY (R235). -/
def State.stageBusy (s : State) (src : Nat) : Bool :=
  let t := s.st
  let own := s.pnt.reload.isSome && decide (s.pnt.reload.map Reload.step = some .reading)
  s.bit Reg.cfgStgstat 15 ||
    (unitsOf t.bays t.edge).any (fun u => decide (1 ≤ s.shState u) && decide (s.shState u ≤ 3)) ||
    (!own && decide (s.fld (Reg.cgStat t.group) 1 0 ≠ 0)) ||
    (!own && s.bit (Reg.cgCfg t.group) 17 && decide (t.bays ≠ s.cgPanel t.group)) ||
    (src == 5 && t.bays.testBit (s.fld Reg.cfgIpctl 6 0)) ||
    (List.range 16).any (fun k => t.edge.testBit k && decide (s.quadOwner k ≠ 0)) ||
    (!own && (match s.pnt.reload with
      | some r => t.bays.testBit r.bay
      | none => false))

/-- The last value the stream gives a register, else what the register holds (R178). -/
def State.clksetLast (s : State) (o : Nat) : Word :=
  match (s.st.clkset.reverse.lookup o) with
  | some v => v
  | none => s.rd o

/-- The index of the last pair that wrote either field of the first synthesizer whose NUM and DEN break
their relation (R178). -/
def State.clksetRelation (s : State) : Option Nat :=
  let c := s.st.clkset
  ((List.range 32).find? (fun n =>
    c.any (fun p => p.1 == Reg.fsNum n || p.1 == Reg.fsDen n) &&
      (decide ((s.clksetLast (Reg.fsDen n)).toNat = 0) || decide ((s.clksetLast (Reg.fsDen n)).toNat ≤ (s.clksetLast (Reg.fsNum n)).toNat)))).map
    (fun n => c.length - 1 - (c.reverse.findIdx (fun p => p.1 == Reg.fsNum n || p.1 == Reg.fsDen n)))

/-- The error STAGE meets (R174 to R176, R178, R192, R235, R271). -/
def State.stageErr (s : State) (src : Nat) : Option StreamErr :=
  let t := s.st
  if t.staged ∨ !t.mid ∨ !s.kindOk t.full ∨ (!t.full ∧ t.bays = 0) then some t.order
  else if t.crcOnly ≠ (t.keysel == 0) ∨ (t.keysel ≠ 0 ∧ (s.streamKey t.keysel).isNone) then some { code := 9 }
  else if !s.policyOk t.crcOnly t.keysel then some { code := 0x0A }
  else if !t.full ∧ s.stageBusy src then some { code := 0x0B }
  else match s.clksetRelation with
    | some i => some { code := 0x15, word := i }
    | none => none

/-- An accepted STAGE (R176, R231, R232, R241). -/
def State.stageAccept (s : State) (src : Nat) : State :=
  let t := s.st
  let bays := t.bayMask
  let edge := t.edgeMask
  let us := unitsOf bays edge
  let g := s.stagingGroup
  let u := s.setSt { t with bays := bays, edge := edge, staged := true, begun := true, stall := !t.full }
  if t.full then (u.setUnits us 1).stageRefresh
  else
    let u := us.foldl (fun u k => u.clearLatch k (u.shadowLatch k)) u
    let u := u.dropWriteBack (fun k => us.any (fun n => keyInLatch n (u.shadowLatch n) k))
    let u := (u.setUnits us 1).joinGroup g bays edge
    let u := (u.wr Reg.cfgStgstat (BitVec.ofNat 32 (src * 2 ^ 8 + t.group * 2 ^ 12 + 2 ^ 15 + (u.bit Reg.cfgStgstat 16).toNat * 2 ^ 16))).wr
      Reg.cfgStgsid t.sid
    let u := { u with pnt := { u.pnt with reload := u.pnt.reload.map (fun (r : Reload) =>
      if r.step = ReloadStep.reading then { (r) with bays := bays, edge := edge } else r) } }
    u.stageRefresh

/-- STEP STAGE. -/
def State.doStage (s : State) (src : Nat) : Acted :=
  match s.stageErr src with
  | some e => (s, some e)
  | none =>
    match s.pnt.reload with
    | some r =>
      if r.step = .reading ∧ !s.st.bays.testBit r.bay then (s.reloadFail 0x31, none) else fine (s.stageAccept src)
    | none => fine (s.stageAccept src)

/-- STEP FINISH (R176, R187). -/
def State.doFinish (s : State) : Acted :=
  let t := s.st
  if !t.mid ∨ !t.staged then (s, some t.order)
  else if t.full ∧ !t.prio ∧
      ((s.boot.prioBound &&& t.bays) ≠ 0 ∨ (s.boot.prioEdge &&& t.edge) ≠ 0 ∨
        (s.boot.prioBound ||| t.bays) ≠ 2 ^ 96 - 1 ∨ (s.boot.prioEdge ||| t.edge) ≠ 2 ^ 16 - 1) then stop s 0x16
  else fine (s.setSt { t with finished := true })

/-- The STEP write (R172, R176). -/
def State.writeStep (s : State) (src : Nat) (v : Word) : Acted :=
  let t := s.st
  match v.toNat with
  | 0 => if t.bodyDone ∨ t.finished then (s, some t.order) else fine s
  | 1 => s.doStage src
  | 2 => s.doFinish
  | 3 => (s, some { code := 0x19, place := t.place })
  | _ => if t.bodyDone ∨ t.finished then (s, some t.order) else stop s 5

/-! Frames (R179 to R185). -/

/-- May frames be written now? -/
def StreamSt.framesOk (t : StreamSt) : Bool := t.mid && t.staged

/-- The PLACE write (R179). -/
def State.writePlace (s : State) (v : Word) : Acted :=
  let t := s.st
  if !t.framesOk then (s, some t.order)
  else if placeBad v then (s, some { code := 0x0C, place := v })
  else fine (s.setSt { t with place := v, past := false })

/-- PLACE advances (R181). -/
def StreamSt.advance (t : StreamSt) : StreamSt :=
  match nextPlace t.place with
  | some p => { t with place := p }
  | none => { t with past := true }

/-- Does an in-service sounding involve creel `n` (R237)? -/
def State.soundingCreel (s : State) (n : Nat) : Bool := decide (s.fld Reg.sndStat 2 0 ≠ 0) && decide (s.snd.creel = n)

/-- Is creel `n` free for a content frame (R237)? -/
def State.creelFree (s : State) (n : Nat) : Bool :=
  s.st.full || ((s.creelCfg n).clkA == 0 && (s.creelCfg n).clkB == 0 && !s.soundingCreel n)

/-- A content frame (R183, R237). -/
def State.contentStep (s : State) (dyn : Bool) (f : BitVec 10240) : Acted :=
  let t := s.st
  let p := t.place
  if dyn then stop s 2
  else if !inSet t.bays t.edge (plUnit p) then (s, some { code := 0x0E, place := p })
  else if (contentCreels p).any (fun n => !s.creelFree n) then (s, some { code := 0x10, place := p })
  else
    let u := (contentCreels p).foldl (fun u n => u.staleOff n) (s.putContent p f)
    fine (u.setSt (StreamSt.advance { t with last := some f }))

/-- A structure frame (R183). -/
def State.structStep (s : State) (dyn : Bool) (f : BitVec 10240) : Acted :=
  let t := s.st
  let p := t.place
  let latch := s.shadowLatch (plUnit p)
  if !inSet t.bays t.edge (plUnit p) then (s, some { code := 0x0E, place := p })
  else if t.crcOnly ∧ 4096 ≤ t.frames then (s, some { code := 0x11, place := p })
  else match s.legality latch p f with
    | some w => (s, some { code := 0x0F, place := p, word := w })
    | none =>
      let u := (s.putFrame latch (frameKey p) f dyn).dropWriteBack (· == latchKey latch (frameKey p))
      fine (u.setSt (StreamSt.advance { t with last := some f, frames := t.frames + 1 }))

/-- Frames are written from PLACE on; a frame of a bay whose LOADING sounding has not ended stalls the
stream with the frames still to come (R440).  `h` and `pos` are the packet's header and offset. -/
def State.writeFrames (s : State) (h : Word) (pos : Nat) : List (BitVec 10240) → Acted
  | [] => fine { s with eng := { s.eng with todo := none } }
  | f :: fs =>
    let t := s.st
    let p := t.place
    if t.past then (s, some { code := 0x0D, place := p })
    else if getBit p 31 ∨ placeBad p then (s, some { code := 0x0C, place := p })
    else if plUnit p < 96 ∧ inSet t.bays t.edge (plUnit p) ∧ s.boot.unsounded.testBit (plUnit p) then
      fine { s with eng := { s.eng with todo := some { hdr := h, pos := pos, frames := f :: fs } } }
    else
      let r := if plKind p = 1 then s.contentStep (hdrDyn h) f else s.structStep (hdrDyn h) f
      match r.2 with
      | some _ => r
      | none => r.1.writeFrames h pos fs

/-- The frames of a FRAMES packet. -/
def framesOfWords : Nat → List Word → List (BitVec 10240)
  | 0, _ => []
  | n + 1, ws => frameOfWords ws :: framesOfWords n (ws.drop 320)

/-- A frame with one word replaced (R185). -/
def patchWord (f : BitVec 10240) (i : Nat) (w : Word) : BitVec 10240 :=
  (f &&& ~~~(BitVec.ofNat 10240 (0xFFFFFFFF * 2 ^ (32 * i)))) ||| BitVec.ofNat 10240 (w.toNat * 2 ^ (32 * i))

/-- The frames a packet writes, or the error that stops it before the first one (R172, R182, R185). -/
def State.packetFrames (s : State) (op n : Nat) (d : List Word) : Except StreamErr (List (BitVec 10240)) :=
  let t := s.st
  if !t.framesOk then .error t.order
  else match op with
    | 1 => .ok (framesOfWords (n / 320) d)
    | 3 => .ok (List.replicate n 0)
    | 4 => match t.last with
      | none => .error t.order
      | some f => .ok (List.replicate n f)
    | _ => match t.last with
      | none => .error t.order
      | some f =>
        let ps := pairsOf d
        if ps.any (fun p => decide (320 ≤ p.1.toNat)) then .error { code := 5 }
        else .ok [ps.foldl (fun f p => patchWord f p.1.toNat p.2) f]

/-- A frame-writing packet. -/
def State.doFrames (s : State) (h : Word) (d : List Word) : Acted :=
  match s.packetFrames (hdrOp h) (hdrCount h) d with
  | .error e => (s, some e)
  | .ok fs => s.writeFrames h s.st.pos fs

/-! BODY, SEAL, CRCV (R188 to R193). -/

/-- A key of the key register as bytes, its first byte least significant (R456). -/
def keyBytes (k : Nat) : List Nat := (leBytes 32 k).map BitVec.toNat

/-- Words as bytes in stream order (R166). -/
def streamBytes (ws : List Word) : List Byte := ws.flatMap wordBytes

/-- BODY (R174, R186, R188, R189). -/
def State.doBody (s : State) : Acted :=
  let t := s.st
  if !t.early ∨ t.crcOnly ∨ !t.has 5 ∨ !t.has 6 ∨ !s.kindOk t.full then (s, some t.order)
  else if (s.streamKey t.keysel).isNone then stop s 9
  else fine (s.setSt { t with inBody := true })

/-- The tag a sealed stream must carry: GCM over the words before the body and the ciphertext of its
plaintext (R188). -/
def State.sealTag (s : State) : List Nat :=
  let t := s.st
  let key := keyBytes ((s.streamKey t.keysel).getD 0)
  let iv := (streamBytes t.iv).map BitVec.toNat
  let aad := (streamBytes t.seen.reverse).map BitVec.toNat
  gcmTag key iv aad (gcmCrypt key iv 0 ((streamBytes t.body.reverse).map BitVec.toNat))

/-- The block after every CLKSET pair has been written and taken effect at once (R178). -/
def State.clksetApply (s : State) : State :=
  s.st.clkset.foldl (fun t p =>
    let o := p.1
    let u := t.plainWrite o p.2
    let vals := [(o, p.2)]
    if o < 0x50900 then u.synthApply (synthOfOff o) vals
    else if o < 0x51200 then u.rimApply ((o - 0x51000) / 0x20) ((o - 0x51000) % 0x20 / 4) vals
    else if o < 0x51220 then u.vselApply ((o - 0x51200) / 0x10) ((o - 0x51200) % 0x10 / 4) vals
    else u.commitRwb o p.2 p.2) s

/-- Is every synthesizer that has an enabled tap locked (R178)?  A synthesizer with no reference is
off. -/
def State.tapsLocked (s : State) : Bool :=
  (List.range 32).all (fun n => !s.anyTap n || s.bit (Reg.fsStat n) 0)

/-- A stream's check has passed (R197): a partial staging goes to its staged-verify pass, a part of a
full image to its lock wait and pass (R214, R217, R239). -/
def State.checkPassed (s : State) (src : Nat) : State :=
  let t := s.st
  let u := s.setSt { t with passed := true }
  if t.full then
    let u := u.clksetApply
    let job : PartJob := { bays := t.bays, edge := t.edge, floor := t.floor, locking := true, verifying := true }
    if t.prio then
      let u := u.setBoot { u.boot with
        prioJob := some job, prioBound := t.bays, prioEdge := t.edge, prioClk := t.clkset.map Prod.fst }
      if u.bit Reg.sysBootadj 4 then u.prioDefer jAltered
      else if t.bays ≠ u.boot.prioBays ∨ u.boot.prioLate then u.prioDefer jFail
      else u
    else u.setBoot { u.boot with mainJob := some job }
  else
    let u := { u with eng := { u.eng with verify := some { bays := t.bays, edge := t.edge, group := s.stagingGroup, floor := t.floor, src := src, place := t.place } } }
    { u with pnt := { u.pnt with reload := u.pnt.reload.map (fun (r : Reload) => if r.step = ReloadStep.reading then { (r) with step := .verifying } else r) } }

/-- The SEAL write (R190). -/
def State.writeSeal (s : State) (src : Nat) (ws : List Word) : Acted :=
  let t := s.st
  if !t.bodyDone ∨ !t.finished then (s, some t.order)
  else if (streamBytes ws).map BitVec.toNat = s.sealTag then fine (s.checkPassed src)
  else stop s 0x13

/-- The CRCV write; `crc` is the CRC-32 of the words through its header (R193). -/
def State.writeCrcv (s : State) (src crc : Nat) (v : Word) : Acted :=
  let t := s.st
  if !t.crcOnly ∨ !t.finished then (s, some t.order)
  else if v.toNat = crc then fine (s.checkPassed src) else stop s 0x12

/-! READ (R196, R370). -/

/-- The words of the frame at PLACE. -/
def State.readFrame (s : State) (p : Word) : List Word :=
  if plKind p = 1 then (List.range 320).map (s.contentWord p)
  else
    let u := plUnit p
    let latch := if getBit p 31 then s.shadowLatch u else s.liveLatch u
    (List.range 320).map (frameWord (s.frameIn latch (frameKey p)))

/-- Frames are read from PLACE on. -/
def State.readFrames (s : State) (acc : List Word) : Nat → State × List Word × Option StreamErr
  | 0 => (s, acc, none)
  | n + 1 =>
    let t := s.st
    if t.past then (s, acc, some { code := 0x0D, place := t.place })
    else if placeBad t.place then (s, acc, some { code := 0x0C, place := t.place })
    else (s.setSt t.advance).readFrames (acc ++ s.readFrame t.place) n

/-- The return queue takes as many of the waiting words as fit (R370). -/
def State.refillReturn (s : State) (p : Fin 2) : State :=
  let h := s.port p
  let room := 1024 - h.retQueue.length
  let q := h.retQueue ++ s.eng.unread.take room
  let t := { s with eng := { s.eng with unread := s.eng.unread.drop room } }
  (t.setPort p { h with retQueue := q }).wr (Reg.hpSrcnt p.val) (BitVec.ofNat 32 q.length)

/-- Words leave on the source's return path (R196, R234, R370). -/
def State.returnWords (s : State) (src : Nat) (ws : List Word) : State :=
  match src with
  | 2 => ({ s with eng := { s.eng with unread := s.eng.unread ++ ws } }).refillReturn 0
  | 3 => ({ s with eng := { s.eng with unread := s.eng.unread ++ ws } }).refillReturn 1
  | _ => { s with eng := { s.eng with innerRet := s.eng.innerRet ++ ws } }

/-- A READ packet. -/
def State.doRead (s : State) (src reg n : Nat) : Acted :=
  let t := s.st
  if t.inBody ∨ t.bodyDone ∨ t.finished then (s, some t.order)
  else if !s.readbackOk then stop s 0x0A
  else match reg with
    | 12 => fine (s.returnWords src [t.place])
    | 16 => fine (s.returnWords src [t.stat])
    | _ =>
      let r := s.readFrames [] (n / 320)
      (r.1.returnWords src r.2.1, r.2.2)

/-! Gang sections (R194, R195). -/

/-- Does a section select this device (R195)? -/
def State.selected (s : State) (w : Word) : Bool :=
  let id := s.fld Reg.waleId 8 0
  getBit w 31 || (decide (getBits w 8 0 ≤ id) && decide (id ≤ getBits w 17 9)) || getBit w (18 + s.fld Reg.waleId 11 9)

/-- A SECTION packet between sections, or first after the outer sync word (R194, R195): the words of a section
that does not select this device are passed over. -/
def State.doSection (s : State) (d : List Word) : Acted :=
  let w := d.getD 0 0
  if getBits w 30 26 ≠ 0 then stop s 5
  else if s.selected w then
    fine { s with eng := { s.eng with gang := .inside, left := (d.getD 1 0).toNat, phase := .search, st := {} } }
  else fine { s with eng := { s.eng with gang := .between, skip := (d.getD 1 0).toNat } }

/-- END (R167, R194, R197). -/
def State.doEnd (s : State) : Acted :=
  if s.st.passed then
    fine { s with eng := { s.eng with phase := .search, gang := if s.eng.gang = .inside then .rest else s.eng.gang } }
  else (s, some s.st.order)

/-! One packet. -/

/-- A WRITE to a stream register; `crc` as for CRCV. -/
def State.doWrite (s : State) (src crc : Nat) (h : Word) (d : List Word) : Acted :=
  let v := d.getD 0 0
  match hdrReg h with
  | 1 => (s, some s.st.order)
  | 2 => s.writeForm v
  | 3 => s.writeKeysel v
  | 4 => s.writeSid v
  | 5 => s.writeIv d
  | 6 => s.writeBodylen v
  | 7 => s.writeBound d
  | 8 => s.writeGroup v
  | 9 => s.writePlfloor v
  | 10 => s.writeClkset d
  | 11 => s.writeStep src v
  | 12 => s.writePlace v
  | 13 => s.doFrames h d
  | 14 => s.writeSeal src d
  | _ => s.writeCrcv src crc v

/-- What a header with no error of its own does (R169, R173, R186, R189, R194, R197). -/
def State.dispatchPacket (s : State) (src crc : Nat) (h : Word) (d : List Word) : Acted :=
  let t := s.st
  let op := hdrOp h
  if s.eng.gang = .between ∨ s.eng.gang = .spaced then
    (if op = 7 ∧ s.eng.gang = .between then s.doSection d
     else if op = 15 then stop s 0x17
     else if op = 0 then fine { s with eng := { s.eng with gang := .spaced } }
     else (s, some t.order))
  else if op = 0 then (if t.bodyDone ∧ !t.passed then (s, some t.order) else fine s)
  else if t.passed then (if op = 15 then s.doEnd else (s, some t.order))
  else if !t.idOk then
    (if op = 1 ∧ hdrReg h = 1 then s.writeIdcode (d.getD 0 0)
     else if op = 7 then (if t.pos = 1 ∧ s.eng.gang = .none then s.doSection d else (s, some t.order))
     else stop s 6)
  else if t.bodyDone ∧ !(op = 1 ∧ (hdrReg h = 14 ∨ (hdrReg h = 11 ∧ d.getD 0 0 = 3))) then (s, some t.order)
  else match op with
    | 1 => s.doWrite src crc h d
    | 2 => s.doRead src (hdrReg h) (hdrCount h)
    | 3 => s.doFrames h d
    | 4 => s.doFrames h d
    | 5 => s.doFrames h d
    | 6 => s.doBody
    | 7 => (s, some t.order)
    | _ => s.doEnd

/-- The packet's words enter the stream's record, and PLACE in the stream advances (R188, R193).  The
CRC of R193 runs through the header of the CRCV write. -/
def StreamSt.take (t : StreamSt) (h : Word) (d : List Word) : StreamSt :=
  let n := 1 + d.length
  if t.inBody then
    let b := d.reverse ++ h :: t.body
    let done := decide (t.bodylen ≤ b.length)
    { t with body := b, pos := t.pos + n, inBody := !done, bodyDone := done }
  else { t with seen := d.reverse ++ h :: t.seen, pos := t.pos + n }

/-- A packet the engine processes now, with its error if it meets one. -/
def State.actPacket (s : State) (src : Nat) (h : Word) (d : List Word) : Acted :=
  let t := s.st
  match headerErr src h with
  | some c => stop s c
  | none =>
    let crc := if hdrOp h = 1 ∧ hdrReg h = 15 then crc32 (streamBytes (h :: t.seen).reverse) else 0
    if t.inBody ∧ t.bodylen < t.body.length + 1 + d.length then (s, some t.order)
    else
      let r := s.dispatchPacket src crc h d
      match r.2 with
      | some _ => r
      | none =>
        if r.1.eng.phase = .search ∧ s.eng.phase = .packets then r
        else (r.1.setSt (if t.inBody then
            let b := { r.1.st with inBody := true }.take h d
            b
          else if r.1.st.inBody then { ({ r.1.st with inBody := false }.take h d) with inBody := true }
          else r.1.st.take h d), none)

/-- The words of a section run down. -/
def State.sectionTake (s : State) (n : Nat) : State := { s with eng := { s.eng with left := s.eng.left - n } }

/-- A full load's attempt fails on a bad seal at once where the keeper reads the image itself, and so stops
reading; every other error waits for the source's end (R198, R213, R216). -/
def State.afterError (s : State) (e : StreamErr) : State :=
  if s.st.full ∧ e.code = 0x13 ∧ s.bootSource ≤ 1 then s.failAttempt 0x13 e.place else s

/-- The section's words have run out before its stream was finished (R195). -/
def State.sectionShort (s : State) (src : Nat) (h : Word) (pos : Nat) : State :=
  s.streamError src h pos { code := 0x14, place := s.st.place }

/-- Words that the engine passes over in a section (R195). -/
def State.passOver (s : State) (n : Nat) : State :=
  { s with eng := { s.eng with skip := s.eng.skip - n, st := { s.eng.st with pos := s.eng.st.pos + n } } }

/-- A packet of the gang stream after this device's section: SECTION packets and what follows them are passed over
up to the outer END (R195). -/
def State.restPacket (s : State) (h : Word) (d : List Word) : State :=
  if hdrOp h = 15 then { s with eng := { s.eng with gang := .none, phase := .search } }
  else if hdrOp h = 7 then { s with eng := { s.eng with skip := (d.getD 1 0).toNat } }
  else s

/-- After a packet of this device's section: what its END leaves of LENGTH is passed over, and a section that has
no words left before its stream is finished is TRUNCATED (R195). -/
def State.sectionStep (s : State) (src n : Nat) : State :=
  if s.eng.gang = .rest then { s with eng := { s.eng with phase := .packets, skip := s.eng.left - n, left := 0 } }
  else
    let t := s.sectionTake n
    if t.eng.left = 0 ∧ !t.st.passed ∧ t.eng.phase = .packets then t.sectionShort src 0 t.st.pos else t

/-- A packet of a stream acts, with what its error does. -/
def State.streamPacket (s : State) (src : Nat) (h : Word) (d : List Word) : State :=
  let r := s.actPacket src h d
  match r.2 with
  | some e => (r.1.streamError src h s.st.pos e).afterError e
  | none => if s.eng.gang = .inside then r.1.sectionStep src (1 + d.length) else r.1

/-- The engine reads one packet.  One whose words lie only partly among those passed over is no packet to it. -/
def State.enginePacket (s : State) (src : Nat) (h : Word) (d : List Word) : State :=
  let n := 1 + d.length
  match s.eng.phase with
  | .dead => s
  | .search =>
    if s.eng.gang ≠ .inside then s
    else if s.eng.left < n then s.sectionShort src 0 0
    else s.sectionTake n
  | .packets =>
    if s.eng.skip ≠ 0 then (if n ≤ s.eng.skip then s.passOver n else s)
    else if s.eng.gang = .rest then s.restPacket h d
    else if s.eng.gang = .inside ∧ s.eng.left < n then
      (if !s.st.passed then s.sectionShort src h s.st.pos
       else if s.eng.left = 0 then ({ s with eng := { s.eng with gang := .rest } }).restPacket h d
       else { s with eng := { s.eng with gang := .rest, skip := s.eng.left, left := 0 } })
    else s.streamPacket src h d

/-- The sync word (R167, R171): in sync search the stream registers reset; elsewhere it is a header like any
other. -/
def State.engineSync (s : State) (src : Nat) : State :=
  match s.eng.phase with
  | .search =>
    if s.eng.gang = .inside ∧ s.eng.left = 0 then s.sectionShort src 0 0
    else
      let t := { s with eng := { s.eng with phase := .packets, skip := 0, st := { seen := [0x7E96A55A#32], pos := 1 } } }
      if s.eng.gang = .inside then t.sectionStep src 1 else t
  | _ => s.enginePacket src 0x7E96A55A#32 []

/-! The end of a source (R197, R210 to R213, R233). -/

/-- What the stream's end means for it: an error, none when it had passed its check or had already
ended. -/
def State.endErr (s : State) : Option StreamErr :=
  match s.eng.phase with
  | .dead => none
  | .search =>
    if s.st.passed ∨ s.eng.gang = .rest then none
    else if s.eng.gang = .inside then some { code := 0x14 } else some { code := 0x01 }
  | .packets =>
    if s.st.passed ∨ s.eng.gang = .rest then none
    else some { code := 0x14, place := s.st.place }

/-- The engine is ready for another stream. -/
def State.engineIdle (s : State) : State :=
  { s with eng := { s.eng with
    queue := [], todo := none, unread := [], phase := .search, gang := .none, left := 0, skip := 0, arrived := false, st := {}
    feedLeft := 0 } }

/-- The source ends the stream in LOADING: the priority part gives way to the main part, the main part
waits for its commit, and a failed one ends the attempt (R212, R213). -/
def State.loadSourceEnd (s : State) (src : Nat) : State :=
  let code := s.st.err
  let dead := s.eng.phase = .dead
  match s.endErr with
  | some e => ((s.streamError src 0 s.st.pos e).engineIdle).failAttempt e.code e.place
  | none =>
    if dead ∧ !s.st.passed then (s.engineIdle).failAttempt code (s.rd Reg.cfgErrplace)
    else
      let more := s.boot.inPrio || s.st.prio
      let t := ((s.engineIdle).setBoot { s.boot with inPrio := false, reading := false }).journalFlush
      if !more then t.flashResume true
      else
        let t := t.setBoot { t.boot with reading := true }
        match t.bootSource, t.imageEntry with
        | 0, some e => t.feed (e.part false true).1 (e.part false true).2
        | 1, some e => t.feed (e.part false true).1 (e.part false true).2
        | _, _ => t

/-- The source that delivers a partial stream ends it (R197, R233, R382); a reload keeps CFG_PSRC.SRC
at 0 until its verify ends (R271). -/
def State.partSourceEnd (s : State) (src : Nat) : State :=
  let t := match s.endErr with
    | some e => s.streamError src 0 s.st.pos e
    | none => s
  let own := s.pnt.reload.isSome && decide (t.pnt.reload.map Reload.step = some .verifying)
  let t := if own then t.engineIdle else (t.engineIdle).setFld Reg.cfgPsrc 2 0 7
  match src with
  | 0 => (t.flashResume true).journalFlush
  | 2 => t.portEvent 0 3
  | 3 => t.portEvent 1 3
  | _ => t

/-- The source's end has been taken, and what is left of its words is gone. -/
def State.sourceReset (s : State) (src : Nat) : State :=
  match src with
  | 2 => s.setPort 0 { s.port 0 with window := [], ended := false }
  | 3 => s.setPort 1 { s.port 1 with window := [], ended := false }
  | 4 => { s with wale := { s.wale with gangWords := [], gangEnded := false, gangRx := none } }
  | 5 => { s with eng := { s.eng with inner := [], innerEnded := false } }
  | _ => { s with eng := { s.eng with feedLeft := 0 } }

/-- The source ends the stream. -/
def State.engineSourceEnd (s : State) : State :=
  match s.engSource with
  | none => s
  | some src =>
    if s.mode = 4 then
      let t := (s.sourceReset src).loadSourceEnd src
      (if src = 2 then t.portEvent 0 3 else t)
    else (s.sourceReset src).partSourceEnd src

/-! What a source hands over: the words that wait at it, from which the engine reads one item at a time. -/

/-- The words that wait at a source with a queue of its own (R234, R359, R369). -/
def State.sourceQueue (s : State) (src : Nat) : List Word :=
  match src with
  | 2 => (s.port 0).window
  | 3 => (s.port 1).window
  | 4 => s.wale.gangWords
  | 5 => s.eng.inner
  | _ => []

/-- The next `n` words of a source, where it has them: those of its queue, or of the flash (R208, R233). -/
def State.sourceWords (s : State) (src n : Nat) : Option (List Word) :=
  if src = 0 then
    (if n ≤ s.eng.feedLeft then some ((List.range n).map (fun i => s.flashEngine (s.eng.feedAt + 4 * i))) else none)
  else if n ≤ (s.sourceQueue src).length then some ((s.sourceQueue src).take n) else none

/-- The bytes in which words of the stream stand at the source: the ciphertext of a body (R188, R190), elsewhere
the words themselves. -/
def State.carried (s : State) (ws : List Word) : List Nat :=
  let t := s.st
  let plain := (streamBytes ws).map BitVec.toNat
  if s.eng.phase = .packets ∧ t.inBody then
    let pad := 4 * (t.body.length % 4)
    (gcmCrypt (keyBytes ((s.streamKey t.keysel).getD 0)) ((streamBytes t.iv).map BitVec.toNat) (t.body.length / 4)
      (List.replicate pad 0 ++ plain)).drop pad
  else plain

/-- How far a sync word lies from byte address `a` of the flash, within `n` words. -/
def State.flashSync (s : State) (a : Nat) : Nat → Option Nat
  | 0 => none
  | n + 1 => if s.flashEngine a = 0x7E96A55A#32 then some 0 else (s.flashSync (a + 4) n).map (· + 1)

/-- How many words a sync search passes over before the sync word, none where there is no sync word (R167).  The
xSPI device's words are not state of this block. -/
def State.syncAhead (s : State) (src : Nat) : Option Nat :=
  if src = 0 then s.flashSync s.eng.feedAt s.eng.feedLeft
  else if src = 1 then (if s.eng.feedLeft = 0 then none else some 0)
  else (s.sourceQueue src).findIdx? (· == 0x7E96A55A#32)

/-- The words of an item. -/
def EngItem.words : EngItem → List Word
  | .sync => [0x7E96A55A#32]
  | .packet h d => h :: d
  | .sourceEnd => []

/-- Do the next words at the source spell the item?  What the xSPI device holds, the command says. -/
def State.spells (s : State) (src : Nat) (i : EngItem) : Bool :=
  if src = 1 then decide (i.words.length ≤ s.eng.feedLeft)
  else match s.sourceWords src i.words.length with
    | some ws => (streamBytes ws).map BitVec.toNat == s.carried i.words
    | none => false

/-- How many words the engine takes with an item, none where the source does not hold it next. -/
def State.offers (s : State) (src : Nat) (i : EngItem) : Option Nat :=
  if i = .sync ∧ s.eng.phase = .search then (s.syncAhead src).map (· + 1)
  else if s.spells src i then some i.words.length else none

/-- A source gives up the words the engine takes. -/
def State.windowTake (s : State) (src n : Nat) : State :=
  match src with
  | 2 => s.setPort 0 { s.port 0 with window := (s.port 0).window.drop n }
  | 3 => s.setPort 1 { s.port 1 with window := (s.port 1).window.drop n }
  | 4 => { s with wale := { s.wale with gangWords := s.wale.gangWords.drop n } }
  | 5 => { s with eng := { s.eng with inner := s.eng.inner.drop n } }
  | _ => { s with eng := { s.eng with feedAt := s.eng.feedAt + 4 * n, feedLeft := s.eng.feedLeft - n } }

/-- The words that a stream after its error, or a sync search that holds no sync word, leaves at the source are
read and ignored (R167, R198). -/
def State.sourceDrain (s : State) (src : Nat) : State :=
  if src ≤ 1 then s
  else if s.eng.phase = .dead ∨ (s.eng.phase = .search ∧ s.eng.gang ≠ .inside ∧ s.syncAhead src = none) then
    s.windowTake src (s.sourceQueue src).length
  else s

/-- The source has ended its stream and the engine has taken every word of it. -/
def State.sourceSpent (s : State) (src : Nat) : Bool :=
  match src with
  | 2 => (s.port 0).ended && (s.port 0).window.isEmpty
  | 3 => (s.port 1).ended && (s.port 1).window.isEmpty
  | 4 => s.wale.gangEnded && s.wale.gangWords.isEmpty
  | 5 => s.eng.innerEnded && s.eng.inner.isEmpty
  | _ => decide (s.eng.feedLeft = 0)

/-- The source's end reaches the engine once its last word has been taken. -/
def State.spentEnd (s : State) (src : Nat) : State :=
  let t := s.sourceDrain src
  if !t.stalled && t.engSource == some src && t.sourceSpent src then t.engineSourceEnd else t

/-- What STREAM_SOURCE_END marks as the end of a source with a queue: it takes effect after every word in it. -/
def State.sourceEnded (s : State) (src : Nat) : State :=
  match src with
  | 2 => s.setPort 0 { s.port 0 with ended := true }
  | 3 => s.setPort 1 { s.port 1 with ended := true }
  | 4 => { s with wale := { s.wale with gangEnded := true } }
  | _ => { s with eng := { s.eng with innerEnded := true } }

/-- The words of a packet, by its header. -/
def packetSize (h : Word) : Nat :=
  1 + (if hdrOp h = 1 then hdrCount h else if hdrOp h = 5 then 2 * hdrCount h else if hdrOp h = 7 then 2 else 0)

/-- Is what is left of an image no sync word and no whole packet, so that only its end can follow (R197)? -/
def State.feedBarren (s : State) (src : Nat) : Bool :=
  match s.eng.phase with
  | .dead => true
  | .search => s.syncAhead src == none || src == 1
  | .packets =>
    src == 1 || (match s.sourceWords src 1 with
      | some ws =>
        let b := if s.st.inBody then s.carried ws else (streamBytes ws).map BitVec.toNat
        decide (s.eng.feedLeft < packetSize (BitVec.ofNat 32 (natOfBytes (b.map (BitVec.ofNat 8)))))
      | none => true)

/-- The engine takes an item from its source, when the source holds it next. -/
def State.engineTake (s : State) (src : Nat) (i : EngItem) : State :=
  match i, s.offers src i with
  | .sync, some n => ({ s.windowTake src n with eng := { (s.windowTake src n).eng with arrived := true } }).engineSync src
  | .packet h d, some n => ({ s.windowTake src n with eng := { (s.windowTake src n).eng with arrived := true } }).enginePacket src h d
  | .sourceEnd, _ =>
    if 2 ≤ src then s.sourceEnded src
    else if s.feedBarren src then { s with eng := { s.eng with feedLeft := 0 } } else s
  | _, none => s

/-- The items that waited, in order, until the engine stalls again. -/
def State.engineDrain (s : State) : List EngItem → State
  | [] => { s with eng := { s.eng with queue := [] } }
  | i :: is =>
    if s.stalled then { s with eng := { s.eng with queue := i :: is } }
    else match s.engSource with
      | none => { s with eng := { s.eng with queue := [] } }
      | some src => ((s.engineTake src i).spentEnd src).engineDrain is

/-- The stall ends: frames that waited are written, then the items behind them; a source that has nothing left
ends. -/
def State.engineResume (s : State) : State :=
  let q := s.eng.queue
  let t := match s.eng.todo, s.engSource with
    | some j, some src =>
      let r := ({ s with eng := { s.eng with todo := none } }).writeFrames j.hdr j.pos j.frames
      (match r.2 with
       | some e => r.1.streamError src j.hdr j.pos e
       | none => r.1)
    | _, _ => s
  let t := t.engineDrain q
  match t.engSource with
  | some src => t.spentEnd src
  | none => t

/-- Words through a source that is not open are discarded (R233). -/
def State.unopened (s : State) : State :=
  if s.mode = 6 ∨ s.mode = 7 ∨ s.mode = 8 then s.setBit Reg.cfgStgstat 16 true else s

/-- The engine reads an item from the open source; while the hub clocks run from FIO no stream is read (R120), and
while the stream stalls the item waits at its source. -/
def State.deliver (s : State) (i : EngItem) : State :=
  match s.engSource with
  | none => if i = .sourceEnd then s else s.unopened
  | some src =>
    if !s.hubOnSynth then s
    else if s.stalled then { s with eng := { s.eng with queue := s.eng.queue ++ [i] } }
    else (s.engineTake src i).spentEnd src

/-- A sealed stream under KEY_BBR ends when KEY_BBR is zeroised (R465). -/
def State.keyLost (s : State) : State :=
  match s.engSource with
  | some src =>
    if s.eng.phase = .packets ∧ s.st.keysel = 2 ∧ s.st.idOk ∧ !s.st.passed then
      s.streamError src 0 s.st.pos { code := 9 }
    else s
  | none => s

/-! The commands. -/

/-- The meaning of SYNC_WORD. -/
def execSyncWord (s : State) : Host.Outcome State Fault Refusal := .next (s.deliver .sync)

/-- The meaning of PACKET_BAD_HEADER (R170): a header that no other row spells. -/
def execPacketBadHeader (h : Word) (s : State) : Host.Outcome State Fault Refusal :=
  .next (if (headerErr ((s.engSource).getD 0) h).isSome then s.deliver (.packet h []) else s)

/-- The meaning of NOP. -/
def execNop (s : State) : Host.Outcome State Fault Refusal := .next (s.deliver (.packet (opHdr 0 0 false) []))

/-- The meaning of WRITE_IDCODE. -/
def execWriteIdcode (ws : List Word) (s : State) : Host.Outcome State Fault Refusal :=
  .next (s.deliver (.packet (writeHdr 1 ws.length false) ws))

/-- The meaning of WRITE_FORM. -/
def execWriteForm (ws : List Word) (s : State) : Host.Outcome State Fault Refusal :=
  .next (s.deliver (.packet (writeHdr 2 ws.length false) ws))

/-- The meaning of WRITE_KEYSEL. -/
def execWriteKeysel (ws : List Word) (s : State) : Host.Outcome State Fault Refusal :=
  .next (s.deliver (.packet (writeHdr 3 ws.length false) ws))

/-- The meaning of WRITE_SID. -/
def execWriteSid (ws : List Word) (s : State) : Host.Outcome State Fault Refusal :=
  .next (s.deliver (.packet (writeHdr 4 ws.length false) ws))

/-- The meaning of WRITE_IV. -/
def execWriteIv (ws : List Word) (s : State) : Host.Outcome State Fault Refusal :=
  .next (s.deliver (.packet (writeHdr 5 ws.length false) ws))

/-- The meaning of WRITE_BODYLEN. -/
def execWriteBodylen (ws : List Word) (s : State) : Host.Outcome State Fault Refusal :=
  .next (s.deliver (.packet (writeHdr 6 ws.length false) ws))

/-- The meaning of WRITE_BOUND. -/
def execWriteBound (ws : List Word) (s : State) : Host.Outcome State Fault Refusal :=
  .next (s.deliver (.packet (writeHdr 7 ws.length false) ws))

/-- The meaning of WRITE_GROUP. -/
def execWriteGroup (ws : List Word) (s : State) : Host.Outcome State Fault Refusal :=
  .next (s.deliver (.packet (writeHdr 8 ws.length false) ws))

/-- The meaning of WRITE_PLFLOOR. -/
def execWritePlfloor (ws : List Word) (s : State) : Host.Outcome State Fault Refusal :=
  .next (s.deliver (.packet (writeHdr 9 ws.length false) ws))

/-- The meaning of WRITE_CLKSET. -/
def execWriteClkset (ws : List Word) (s : State) : Host.Outcome State Fault Refusal :=
  .next (s.deliver (.packet (writeHdr 10 ws.length false) ws))

/-- The meaning of STEP_NONE: a STEP write whose value is none of STAGE, FINISH and ABORT (R172, R176). -/
def execStepNone (v : Word) (s : State) : Host.Outcome State Fault Refusal :=
  .next (if v = 1 ∨ v = 2 ∨ v = 3 then s else s.deliver (.packet (writeHdr 11 1 false) [v]))

/-- The meaning of STEP_STAGE. -/
def execStepStage (s : State) : Host.Outcome State Fault Refusal := .next (s.deliver (.packet (writeHdr 11 1 false) [1]))

/-- The meaning of STAGE_CLEAR_DONE (R176): the stall ends. -/
def execStageClearDone (s : State) : Host.Outcome State Fault Refusal :=
  .next (if s.st.stall then (s.setSt { s.st with stall := false }).engineResume else s)

/-- The meaning of STEP_FINISH. -/
def execStepFinish (s : State) : Host.Outcome State Fault Refusal := .next (s.deliver (.packet (writeHdr 11 1 false) [2]))

/-- The meaning of STEP_ABORT. -/
def execStepAbort (s : State) : Host.Outcome State Fault Refusal := .next (s.deliver (.packet (writeHdr 11 1 false) [3]))

/-- The meaning of WRITE_PLACE. -/
def execWritePlace (ws : List Word) (s : State) : Host.Outcome State Fault Refusal :=
  .next (s.deliver (.packet (writeHdr 12 ws.length false) ws))

/-- The meaning of WRITE_FRAMES. -/
def execWriteFrames (dyn : Bool) (ws : List Word) (s : State) : Host.Outcome State Fault Refusal :=
  .next (s.deliver (.packet (writeHdr 13 ws.length dyn) ws))

/-- The meaning of ZERO. -/
def execZero (dyn : Bool) (n : BitVec 20) (s : State) : Host.Outcome State Fault Refusal :=
  .next (s.deliver (.packet (opHdr 3 n.toNat dyn) []))

/-- The meaning of REPEAT. -/
def execRepeat (dyn : Bool) (n : BitVec 20) (s : State) : Host.Outcome State Fault Refusal :=
  .next (s.deliver (.packet (opHdr 4 n.toNat dyn) []))

/-- The meaning of PATCH: pairs of a word index and a word. -/
def execPatch (dyn : Bool) (ps : List (Word × Word)) (s : State) : Host.Outcome State Fault Refusal :=
  .next (s.deliver (.packet (opHdr 5 ps.length dyn) (ps.flatMap (fun p => [p.1, p.2]))))

/-- The meaning of BODY. -/
def execBody (s : State) : Host.Outcome State Fault Refusal := .next (s.deliver (.packet (opHdr 6 0 false) []))

/-- The meaning of WRITE_SEAL. -/
def execWriteSeal (ws : List Word) (s : State) : Host.Outcome State Fault Refusal :=
  .next (s.deliver (.packet (writeHdr 14 ws.length false) ws))

/-- The meaning of WRITE_CRCV. -/
def execWriteCrcv (ws : List Word) (s : State) : Host.Outcome State Fault Refusal :=
  .next (s.deliver (.packet (writeHdr 15 ws.length false) ws))

/-- The meaning of READ_FRAMES. -/
def execReadFrames (n : BitVec 20) (s : State) : Host.Outcome State Fault Refusal :=
  .next (s.deliver (.packet (readHdr 13 n.toNat) []))

/-- The meaning of READ_PLACE. -/
def execReadPlace (s : State) : Host.Outcome State Fault Refusal := .next (s.deliver (.packet (readHdr 12 1) []))

/-- The meaning of READ_STAT. -/
def execReadStat (s : State) : Host.Outcome State Fault Refusal := .next (s.deliver (.packet (readHdr 16 1) []))

/-- The meaning of SECTION. -/
def execSection (sel len : Word) (s : State) : Host.Outcome State Fault Refusal :=
  .next (s.deliver (.packet (opHdr 7 2 false) [sel, len]))

/-- The meaning of END. -/
def execEnd (s : State) : Host.Outcome State Fault Refusal := .next (s.deliver (.packet (opHdr 15 0 false) []))

/-- The meaning of STREAM_SOURCE_END. -/
def execStreamSourceEnd (s : State) : Host.Outcome State Fault Refusal := .next (s.deliver .sourceEnd)

/-- The meaning of UNOPENED_SOURCE_WORDS (R233). -/
def execUnopenedSourceWords (s : State) : Host.Outcome State Fault Refusal := .next s.unopened

/-- The lock wait of a part ends (R178): it is locked, or a bound has passed and the attempt fails with
CLK_LOCK: at once where the keeper reads the image itself or its source has ended, otherwise when the source
ends (R198, R213). -/
def State.lockWaitEnd (s : State) : State :=
  let waiting := [s.boot.prioJob, s.boot.mainJob].any (fun j => (j.map PartJob.locking).getD false)
  if !waiting then s
  else if s.tapsLocked then
    let done := Option.map (fun (j : PartJob) => { j with locking := false })
    s.setBoot { s.boot with prioJob := done s.boot.prioJob, mainJob := done s.boot.mainJob }
  else
    let n := ((List.range 32).find? (fun n => s.anyTap n && !s.bit (Reg.fsStat n) 0)).getD 0
    let st : StreamSt := { s.st with form := s.st.form ||| 1#32, staged := true }
    let t := (s.setSt st).recordErr s.bootSource 0 s.st.pos { code := 0x18, word := n }
    if 2 ≤ s.bootSource ∧ s.boot.reading then
      let t := t.setBoot { t.boot with prioJob := none, mainJob := none }
      { t with eng := { t.eng with phase := .dead, todo := none, unread := [], st := { st with err := 0x18, passed := false, stall := false } } }
    else (t.engineIdle).failAttempt 0x18 0

/-- The meaning of CLKSET_LOCK_WAIT_END. -/
def execClksetLockWaitEnd (s : State) : Host.Outcome State Fault Refusal := .next s.lockWaitEnd

end Sys2Proof.Machine
end

