-- ==== Sys2Proof/Machine/Staged.lean ====
section
/-! DEFINITION. Opening a source, staged-verify passes, commit groups, commits and reverts, direct
writes, panels (chapter 08_staged_reconfiguration.md). -/
namespace Sys2Proof.Machine

/-! Opening a source (R233, R271). -/

/-- CFG_PSRC.SRC takes a code. -/
def State.openSource (s : State) (c : Nat) : State :=
  let old := s.fld Reg.cfgPsrc 2 0
  if c = 1 ∨ c = 6 ∨ c = old ∨ s.reloadReads ∨ s.eng.arrived then s
  else
    let t := (s.setFld Reg.cfgPsrc 2 0 c).engineIdle
    if c = 0 then
      let t := t.feed (t.fld Reg.cfgPflashAddr 29 0 / 4 * 4) (t.fld Reg.cfgPflashLen 29 0 / 4)
      (t.flashSuspend true).spentEnd 0
    else if old = 0 then (t.flashResume true).journalFlush else t

/-- The meaning of PSRC_OPEN. -/
def execPsrcOpen (ag : Agent) (c : Fin 8) (s : State) : Host.Outcome State Fault Refusal :=
  .next (s.rws ag Reg.cfgPsrc (s.openSource c.val))

/-! The pointing engine's log of frames, and the check tables' entries as a read finds them (R261, R273, R274). -/

/-- The address of a frame by its key. -/
def placeOfKey (k : Nat) : Word := BitVec.ofNat 32 (k * 256)

/-- The address of a frame of a latch: bit 31 gives the plane. -/
def State.placeIn (s : State) (latch key : Nat) : Word :=
  putBit (placeOfKey key) 31 (s.liveLatch (keyUnit key) != latch)

/-- A log entry about a frame of a latch, detected at `time`. -/
def State.logFrame (s : State) (latch key bit kind action : Nat) (time : Word) : State :=
  let shadow := s.liveLatch (keyUnit key) != latch
  s.pntLog { place := s.placeIn latch key, time := time,
             info := BitVec.ofNat 32 (bit + kind * 2 ^ 14 + shadow.toNat * 2 ^ 16 + (s.dynIn latch key).toNat * 2 ^ 17 + action * 2 ^ 18) }

/-- What the code of a check-table entry shows at a read (R261): nothing; one bit, corrected; two bits, and the entry
is rebuilt from the frame; or more bits than the code can tell, which leave the entry at a free value. -/
def State.entryRead (s : State) (latch key : Nat) (entry : Fin 4) : State :=
  match entry with
  | 0 => s
  | 1 => s.setBit Reg.pntStat 3 true
  | 2 =>
    let t := (s.setBit Reg.pntStat 3 true).setChk latch key (frameCheck key (s.dynIn latch key) (s.frameIn latch key))
    (t.logFrame latch key 0 2 0 t.logTime).raise 199
  | 3 => let w := s.freshWord; w.2.setChk latch key w.1

/-! Readback of a shadow (R239, R252). -/

/-- Check-table entries that a verify pass reads with an error, each by its PLACE. -/
abbrev EntryErrs := List (Word × Fin 4)

/-- The shadow check table after the entries a pass reads: those of its units' structure frames. -/
def State.entriesRead (s : State) (bays edge : Nat) (es : EntryErrs) : State :=
  es.foldl (fun t e =>
    let p := e.1
    if placeBad p ∨ plKind p ≠ 0 ∨ !inSet bays edge (plUnit p) then t
    else t.entryRead (t.shadowLatch (plUnit p)) (frameKey p) e.2) s

/-- Bits of shadow frames that an upset inverted, each by its PLACE and bit. -/
abbrev Upsets := List (Word × Fin 10240)

/-- A frame with one bit inverted. -/
def flipBit (f : BitVec 10240) (i : Nat) : BitVec 10240 := f ^^^ BitVec.ofNat 10240 (2 ^ i)

/-- The shadow frames of a set after upsets; other places are not read here. -/
def State.upsetShadow (s : State) (bays edge : Nat) (us : Upsets) : State :=
  us.foldl (fun t u =>
    let p := u.1
    if placeBad p ∨ plKind p ≠ 0 ∨ !inSet bays edge (plUnit p) then t
    else
      let l := t.shadowLatch (plUnit p)
      t.setFrame l (frameKey p) (flipBit (t.frameIn l (frameKey p)) u.2.val)) s

/-- The keys of a unit's latch that any table lists, rising; every other frame is zero and matches. -/
def State.listedKeys (s : State) (u latch : Nat) : List Nat :=
  let ks := s.planes.frames.map Prod.fst ++ s.planes.chk.map Prod.fst
  (((ks.filter (keyInLatch u latch)).map (· % 2 ^ 21)).insertionSort (· ≤ ·)).dedup

/-- Does a frame of a latch match its check word (R184, R262)? -/
def State.frameMatches (s : State) (latch key : Nat) : Bool :=
  frameCheck key (s.dynIn latch key) (s.frameIn latch key) == s.chkIn latch key

/-- The first shadow frame of the units that does not match, as its key; dynamic frames are left out of
a revert's pass (R252). -/
def State.firstMismatch (s : State) (us : List Nat) (skipDyn : Bool) : Option Nat :=
  us.findSome? (fun u =>
    let l := s.shadowLatch u
    (s.listedKeys u l).find? (fun k => !(skipDyn && s.dynIn l k) && !s.frameMatches l k))

/-! Groups. -/

/-- A group's STATE: 0 idle, 1 armed, 2 COMMITTING. -/
def State.cgState (s : State) (g : Nat) : Nat := s.fld (Reg.cgStat g) 1 0

/-- AMODE: the group is armed for a revert. -/
def State.cgRevert (s : State) (g : Nat) : Bool := s.bit (Reg.cgStat g) 2

/-- A result is recorded in a group (R259). -/
def State.cgResult (s : State) (g code : Nat) : State := (s.setFld (Reg.cgStat g) 15 8 code).raise (168 + g)

/-- The group is no longer armed. -/
def State.cgDisarm (s : State) (g : Nat) : State :=
  let t := s.setFld (Reg.cgStat g) 1 0 0
  ({ t with eng := { t.eng with revVerify := t.eng.revVerify.filter (· != g) } }).stageRefresh

/-- The members of a group, and of its LAST. -/
def State.cgUnits (s : State) (g : Nat) : List Nat := unitsOf (s.cgBays g) (s.cgEdgeSet g)
def State.lastUnits (s : State) (g : Nat) : List Nat := unitsOf (s.cgLast g) (s.cgLastEdge g)

/-- The refusal an arming meets (R242). -/
def State.armRefusal (s : State) (g : Nat) (revert : Bool) : Option Nat :=
  let none_ := s.cgBays g == 0 && s.cgEdgeSet g == 0
  if s.cgState g ≠ 0 then some 0x0A
  else if !revert then (if none_ then some 6 else none)
  else if s.lastUnits g = [] ∨ !none_ ∨ (s.lastUnits g).any (fun u => s.shState u != 4) then some 7
  else none

/-- An arming (R242, R252). -/
def State.cgArm (s : State) (g : Nat) (revert : Bool) : State :=
  match s.armRefusal g revert with
  | some c => s.cgResult g c
  | none =>
    let w := s.rd (Reg.cgStat g)
    let t := s.wr (Reg.cgStat g) (putBits (putBit (putBits w 1 0 1) 2 revert) 6 4 0)
    (if revert then { t with eng := { t.eng with revVerify := g :: t.eng.revVerify } } else t).stageRefresh

/-- A set leaves the LAST of every group but one (R241, R271). -/
def State.leaveLast (s : State) (keep bays edge : Nat) : State :=
  (List.range 8).foldl (fun t g =>
    if g = keep then t
    else
      let cut (t : State) (off m : Nat) : State := t.wr off (t.rd off &&& ~~~(BitVec.ofNat 32 m))
      cut (cut (cut (cut t (Reg.cgLast0 g) bays) (Reg.cgLast1 g) (bays / 2 ^ 32)) (Reg.cgLast2 g) (bays / 2 ^ 64))
        (Reg.cgEdge g) (edge % 2 ^ 16 * 2 ^ 16)) s

/-- DISARM (R245). -/
def State.cgCancel (s : State) (g : Nat) : State :=
  if s.cgState g = 2 then s.cgResult g 9 else (s.cgDisarm g).cgResult g 4

/-- A staging into group `g` between its STAGE and the end of its verify ends with ABORTED (R245). -/
def State.abortInto (s : State) (g : Nat) : State :=
  let st := s.st
  match s.eng.verify with
  | some j =>
    if j.group = g then
      let t := (s.setSt { st with staged := true, form := 0 }).recordErr j.src 0 st.pos { code := 0x19, place := j.place }
      let t := (t.setSt st).dropStaging g j.bays j.edge 0x19
      { t with eng := { t.eng with verify := none } }
    else s
  | none =>
    if s.bit Reg.cfgStgstat 15 && st.staged && !st.full && s.stagingGroup == g && !st.passed then
      s.streamError ((s.engSource).getD 7) 0 st.pos { code := 0x19, place := st.place }
    else s

/-- DISCARD (R245). -/
def State.cgDiscard (s : State) (g : Nat) : State :=
  if s.cgState g = 2 then s.cgResult g 9
  else
    let us := s.cgUnits g
    let t := ((s.abortInto g).cgDisarm g).setUnits us 5
    let t := [Reg.cgMask0 g, Reg.cgMask1 g, Reg.cgMask2 g].foldl (fun t o => t.wr o 0) t
    ((t.setFld (Reg.cgEdge g) 15 0 0).cgResult g 5).stageRefresh

/-- A write of CGg_CTL (R242, R245). -/
def State.cgCtlWrite (s : State) (g : Nat) (v : Word) : State :=
  let t := s.plainWrite (Reg.cgCtl g) v
  if getBit v 3 then t.cgDiscard g
  else if getBit v 2 then t.cgCancel g
  else if getBit v 0 then t.cgArm g (getBit v 1) else t

/-- The meaning of CG_ARM_COMMIT. -/
def execCgArmCommit (ag : Agent) (g : Fin 8) (s : State) : Host.Outcome State Fault Refusal :=
  .next (s.rws ag (Reg.cgCtl g.val) (s.cgCtlWrite g.val 1))

/-- The meaning of CG_ARM_REVERT. -/
def execCgArmRevert (ag : Agent) (g : Fin 8) (s : State) : Host.Outcome State Fault Refusal :=
  .next (s.rws ag (Reg.cgCtl g.val) (s.cgCtlWrite g.val 3))

/-- The meaning of CG_DISARM; `mode` is the written MODE bit. -/
def execCgDisarm (ag : Agent) (g : Fin 8) (mode : Bool) (s : State) : Host.Outcome State Fault Refusal :=
  .next (s.rws ag (Reg.cgCtl g.val) (s.cgCtlWrite g.val (BitVec.ofNat 32 (4 + 2 * mode.toNat))))

/-- The meaning of CG_DISCARD; `mode` is the written MODE bit. -/
def execCgDiscard (ag : Agent) (g : Fin 8) (mode : Bool) (s : State) : Host.Outcome State Fault Refusal :=
  .next (s.rws ag (Reg.cgCtl g.val) (s.cgCtlWrite g.val (BitVec.ofNat 32 (8 + 2 * mode.toNat))))

/-- The meaning of CG_DEADLINE_EXPIRY (R244): only an armed group with a limit. -/
def execCgDeadlineExpiry (g : Fin 8) (s : State) : Host.Outcome State Fault Refusal :=
  .next (if s.cgState g.val = 1 ∧ s.fld (Reg.cgDeadline g.val) 23 0 ≠ 0 then (s.cgDisarm g.val).cgResult g.val 3 else s)

/-- A shadow's multi-bit error makes a unit INVALID; an armed group that holds it fails with SHADOW_ERR
(R240, R253, R269). -/
def State.shadowLost (s : State) (u : Nat) : State :=
  (List.range 8).foldl (fun t g =>
    let hit := if t.cgRevert g then (t.lastUnits g).contains u else (t.cgUnits g).contains u
    if t.cgState g = 1 ∧ hit then (t.cgDisarm g).cgResult g 8 else t) (s.setShState u 5)

/-! Direct writes (R254, R255). -/

/-- The direct-write buffer's state changed, COUNT with it. -/
def State.setDw (s : State) (d : DwSt) : State :=
  ({ s with eng := { s.eng with dw := d } }).setFld Reg.cfgDwctl 20 16 d.buf.length

/-- Buffered frames of the units are lost, those an apply has written already excepted (R255). -/
def State.dwLose (s : State) (us : List Nat) : State :=
  let keep := s.eng.dw.buf.filter (fun e => !us.contains (plUnit e.1))
  if s.eng.dw.phase = .writing then s
  else if keep.length = s.eng.dw.buf.length then s
  else ((s.setDw { s.eng.dw with buf := keep }).setBit Reg.cfgDwstat 8 true).raise 181

/-- Does policy permit direct writes (R448)? -/
def State.dwPolicy (s : State) : Bool :=
  match s.lcState with
  | 2 => true
  | 3 => s.lcPolicy 0
  | 4 => true
  | _ => false

/-- The refusal of a complete frame (R255). -/
def State.dwRefusal (s : State) (p : Word) (f : BitVec 10240) : Option Nat :=
  let u := plUnit p
  if !s.dwPolicy then some 6
  else if getBit p 31 ∨ placeBad p ∨ plKind p ≠ 0 then some 2
  else if 16 ≤ s.eng.dw.buf.length then some 5
  else if (s.legality (s.liveLatch u) p f).isSome then some 1
  else if s.dynIn (s.liveLatch u) (frameKey p) then some 3
  else if 1 ≤ s.shState u ∧ s.shState u ≤ 3 then some 4
  else none

/-- CFG_DWSTAT.ERR takes a code, and EV181 is raised. -/
def State.dwRefuse (s : State) (c : Nat) : State := (s.setFld Reg.cfgDwstat 3 0 c).raise 181

/-- A write of CFG_DWPLACE: a new frame starts. -/
def State.dwPlace (s : State) (p : Word) : State :=
  ((s.plainWrite Reg.cfgDwplace p).setFld Reg.cfgDwstat 3 0 0).setDw { s.eng.dw with place := p, words := [], full := false }

/-- A write of CFG_DWDATA. -/
def State.dwData (s : State) (w : Word) : State :=
  let d := s.eng.dw
  if d.full then s.dwRefuse 7
  else
    let ws := w :: d.words
    if ws.length < 320 then s.setDw { d with words := ws }
    else
      let f := frameOfWords ws.reverse
      match s.dwRefusal d.place f with
      | some c => (s.setDw { d with words := [], full := true }).dwRefuse c
      | none => s.setDw { d with words := [], full := true, buf := d.buf ++ [(d.place, f)] }

/-- A write of CFG_DWCTL.  From the APPLY write to the apply's end a write with CLRBUF is ignored, and the apply
keeps the source that BSEL named at its APPLY write (DEDUCED, assumption 60). -/
def State.dwCtl (s : State) (v : Word) : State :=
  let d := s.eng.dw
  let t := s.plainWrite Reg.cfgDwctl v
  if d.phase ≠ .none then (if getBit v 9 then s else t)
  else if getBit v 8 then (t.setBit Reg.cfgDwctl 8 true).setDw { d with phase := .queued, src := getBits v 5 0 }
  else if getBit v 9 then t.setDw { d with buf := [] } else t

/-- The meaning of DW_PLACE_WRITE. -/
def execDwPlaceWrite (ag : Agent) (p : Word) (s : State) : Host.Outcome State Fault Refusal :=
  .next (s.rws ag Reg.cfgDwplace (s.dwPlace p))

/-- The meaning of DW_DATA_WRITE. -/
def execDwDataWrite (ag : Agent) (w : Word) (s : State) : Host.Outcome State Fault Refusal :=
  .next (s.rws ag Reg.cfgDwdata (s.dwData w))

/-- The meaning of DW_APPLY: a CFG_DWCTL write with APPLY. -/
def execDwApply (ag : Agent) (bsel : Fin 64) (s : State) : Host.Outcome State Fault Refusal :=
  .next (s.rws ag Reg.cfgDwctl (s.dwCtl (BitVec.ofNat 32 (2 ^ 8 + bsel.val))))

/-- The meaning of DW_CLEAR_BUFFER: a CFG_DWCTL write with CLRBUF. -/
def execDwClearBuffer (ag : Agent) (bsel : Fin 64) (s : State) : Host.Outcome State Fault Refusal :=
  .next (s.rws ag Reg.cfgDwctl (s.dwCtl (BitVec.ofNat 32 (2 ^ 9 + bsel.val))))

/-- At a latch point of its source a queued apply is bound to the boundary; not while the hub clocks run from FIO
(R120). -/
def State.dwLatch (s : State) (src : Nat) : State :=
  if s.eng.dw.phase = .queued ∧ s.eng.dw.src = src ∧ s.hubOnSynth then s.setDw { s.eng.dw with phase := .latched } else s

/-- At the delivery edge the frames are written to the live plane (R120, R254). -/
def State.dwDeliver (s : State) (src : Nat) : State :=
  if s.eng.dw.phase = .latched ∧ s.eng.dw.src = src ∧ s.hubOnSynth then
    let t := s.setDw { s.eng.dw with phase := .writing }
    t.eng.dw.buf.foldl (fun t e =>
      let l := t.liveLatch (plUnit e.1)
      let k := frameKey e.1
      (t.putFrame l k e.2 (t.dynIn l k)).dropWriteBack (· == latchKey l k)) t
  else s

/-- The meaning of DW_APPLY_END. -/
def execDwApplyEnd (s : State) : Host.Outcome State Fault Refusal :=
  .next (if s.eng.dw.phase = .writing then
    ((s.setDw { s.eng.dw with phase := .none, buf := [] }).setBit Reg.cfgDwctl 8 false).raise 181
  else s)

/-! The commit (R248). -/

/-- A ready set becomes COMMITTING at its latch point (R248, R255, R258, R268). -/
def State.beginCommit (s : State) (c : Commit) : State :=
  let us := unitsOf c.bays c.edge
  let t := (s.setUnits us 3).dwLose us
  let t := { t with eng := { t.eng with commits := t.eng.commits ++ [c] } }
  (t.dropWriteBack (fun k => us.contains (keyUnit (k % 2 ^ 21)))).stageRefresh

/-- The UPD strobes of a bay's boundary ports are held at 0 (R164, R250). -/
def State.holdPorts (s : State) (bay : Nat) : State :=
  [0, 1, 2, 3].foldl (fun t i => t.setBport (4 * bay + i) { t.bport (4 * bay + i) with upd := false }) s

/-- The gateway port of a bay (R405). -/
def gwOfBay (bay : Nat) : Option Nat := [2, 3, 50, 51].findIdx? (· == bay)

/-- The tag of a gateway port's request. -/
def WaleOrigin.gateTag : WaleOrigin → Nat
  | .gate _ tag => tag
  | .slot _ => 0

/-- A Wale request of gateway port `p` that no longer has anyone to answer: port 4 stands for nobody. -/
def WaleReq.disown (r : WaleReq) (p : Nat) : WaleReq :=
  match r.origin with
  | .gate q tag => if q = p then { r with origin := .gate 4 tag } else r
  | .slot _ => r

/-- A gateway port whose bay enters bond hold: responses on their way to it are discarded (R250, R408). -/
def State.gwFlush (s : State) (bay : Nat) : State :=
  match gwOfBay bay with
  | none => s
  | some p =>
    let g := Store.get (fun _ => {}) s.gws p
    { s with
      gws := Store.set (fun _ => {}) s.gws p { g with tags := [], done := [] }
      wale := { s.wale with
        reqs := s.wale.reqs.map (fun r => r.disown p)
        waiting := s.wale.waiting.map (fun e => if e.1 = .gate p e.1.gateTag then (.gate 4 e.1.gateTag, e.2) else e)
        gwDone := s.wale.gwDone.filter (fun e => e.1 != p) } }

/-- The gateway's semaphores are released once every bay with a gateway port is held (R376). -/
def State.gwSems (s : State) : State :=
  if [2, 3, 50, 51].all (fun b => s.bondHold b || s.initHold b) then s.semAutoRelease 0x30 else s

/-- Cycle 0: bond cells clamp, edge columns freeze, hamper and gateway ports flush (R394, R408). -/
def State.bondStart (s : State) (us : List Nat) : State :=
  (us.foldl (fun t u => (if u < 96 then ((t.holdPorts u).hampFlush u).gwFlush u else t).setBond u true) s).gwSems

/-- A bay's stake selects begin their switch from the other latch's values (R134). -/
def State.stakeSwitch (s : State) (bay : Nat) : State :=
  (List.range 24).foldl (fun t n =>
    t.netChange (528 + 24 * bay + n) (s.stkselIn (s.shadowLatch bay) bay n) (s.stkselIn (s.liveLatch bay) bay n)) s

/-- A bay enters INIT hold: flip-flops load INIT, creel outputs and slice registers clear (R44, R47, R87,
R105). -/
def State.bayInit (s : State) (bay : Nat) : State := (((s.setInit bay true).initLoad bay).creelLoad bay).sliceLoad bay

/-- The commit edge of one unit. -/
def State.commitUnit (s : State) (u : Nat) : State :=
  let t := s.flipUnit u
  if u < 96 then (t.stakeSwitch u).bayInit u else t

/-- Cycle 0 and the commit edge of every COMMITTING set whose source is the boundary's. -/
def State.commitEdge (s : State) (us : List Nat) : State := us.foldl (fun t u => t.commitUnit u) (s.bondStart us)

/-- The phase FIFOs of a band-wythe's lanes re-centre, losing up to four words (R325, R330). -/
def State.lanesCentre (s : State) (k : Nat) : State :=
  { s with lanes := s.lanes.map (fun e =>
      if e.1 / 4 = k then (e.1, { e.2 with rxFifo := e.2.rxFifo.drop (e.2.rxFifo.length - 4) }) else e) }

/-- The units leave INIT hold and bond hold on one edge, and a hold of R270 ends with them. -/
def State.releaseUnits (s : State) (us : List Nat) : State :=
  us.foldl (fun t u =>
    let t := t.setBond u false
    if u < 96 then (t.setInit u false).setBit (Reg.pntHold (u / 32)) (u % 32) false else t.lanesCentre (u - 96)) s

/-- The mask registers of a commit group's LAST take a set. -/
def State.setLast (s : State) (g bays edge : Nat) : State :=
  (((s.wr (Reg.cgLast0 g) (BitVec.ofNat 32 bays)).wr (Reg.cgLast1 g) (BitVec.ofNat 32 (bays / 2 ^ 32))).wr (Reg.cgLast2 g)
    (BitVec.ofNat 32 (bays / 2 ^ 64))).setFld (Reg.cgEdge g) 31 16 edge

/-- A commit ends for the engine: its record goes, its bays wait for no reload (R271). -/
def State.dropCommit (s : State) (c : Commit) : State :=
  { s with eng := { s.eng with commits := s.eng.commits.filter (fun d => d.group != c.group) },
           pnt := { s.pnt with wants := s.pnt.wants &&& (2 ^ 96 - 1 - c.bays % 2 ^ 96) } }

/-- Members still COMMITTING become PREVIOUS.  One whose shadow a multi-bit error made INVALID meanwhile (R240) stays
INVALID (DEDUCED, assumption 59). -/
def State.becomePrevious (s : State) (us : List Nat) : State := s.setUnits (us.filter (fun u => s.shState u == 3)) 4

/-- A waiting reload ends with its bay's hold (R271). -/
def State.reloadUnheld (s : State) (us : List Nat) : State :=
  match s.pnt.reload with
  | some r =>
    if us.contains r.bay ∧ r.step = .waiting then
      (({ s with pnt := { s.pnt with reload := none } }).setBit Reg.pntStat 1 false).reloadNext
    else s
  | none => s

/-- The release of a group (R241, R248, R252, R271). -/
def State.groupRelease (s : State) (c : Commit) : State :=
  let us := unitsOf c.bays c.edge
  let g := c.group
  let t := (((s.releaseUnits us).becomePrevious us).dropCommit c).reloadUnheld us
  let t := (t.leaveLast g c.bays c.edge).setLast g c.bays c.edge
  let t := [Reg.cgMask0 g, Reg.cgMask1 g, Reg.cgMask2 g].foldl (fun t o => t.wr o 0) t
  let t := (t.setFld (Reg.cgEdge g) 15 0 0).setFld (Reg.cgStat g) 1 0 0
  ((t.setBit (Reg.cgStat g) 16 true).cgResult g (if c.revert then 2 else 1)).stageRefresh

/-- The release of a reload's set (R271 step 6). -/
def State.reloadRelease (s : State) (c : Commit) : State :=
  let us := unitsOf c.bays c.edge
  let t := ((s.releaseUnits us).becomePrevious us).dropCommit c
  let t := t.leaveLast 8 c.bays c.edge
  let t := match t.pnt.reload with
    | some r => (t.setShState r.bay 5).pntLog
        { place := mkPlace false 0 (bayBand r.bay) (bayPos r.bay 0) 0, info := 0xC000#32, time := t.logTime }
    | none => t
  let t := { t with pnt := { t.pnt with reload := none, fire := false } }
  (((t.setBit Reg.pntStat 1 false).raise 195).stageRefresh).reloadNext

/-- The meaning of COMMIT_RELEASE of group `g`; 8 is the reload's own set. -/
def execCommitRelease (g : Fin 9) (s : State) : Host.Outcome State Fault Refusal :=
  .next (match s.eng.commits.find? (fun c => c.group == g.val && c.flipped) with
    | some c => if g.val = 8 then s.reloadRelease c else s.groupRelease c
    | none => s)

/-! The test at a latch point (R243). -/

/-- The conditions not met, as WAIT shows them; `wale` is the system's readiness. -/
def State.groupWait (s : State) (src g : Nat) (wale : Bool) : Nat :=
  let rev := s.cgRevert g
  let us := if rev then s.lastUnits g else s.cgUnits g
  let members := us.all (fun u => s.shState u == (if rev then 4 else 2)) && !(rev && s.eng.revVerify.contains g)
  (!members).toNat + 2 * (!s.floorsMet src (if rev then s.cgLast g else s.cgBays g)).toNat +
    4 * (s.bit (Reg.cgCfg g) 16 && !wale).toNat

/-- A group at a latch point of source `src`: it becomes COMMITTING, fails, or stays armed.  Nothing commits while
the hub clocks run from FIO (R120). -/
def State.groupLatch (s : State) (src g : Nat) (wale : Bool) : State :=
  if s.cgState g ≠ 1 ∨ s.fld (Reg.cgCfg g) 5 0 ≠ src ∨ !s.hubOnSynth then s
  else if s.cgRevert g && (s.lastUnits g).any (fun u => s.shState u != 4) then (s.cgDisarm g).cgResult g 7
  else
    let w := s.groupWait src g wale
    let t := s.setFld (Reg.cgStat g) 6 4 w
    if w = 0 then
      let rev := s.cgRevert g
      (t.setFld (Reg.cgStat g) 1 0 2).beginCommit
        (Commit.mk g rev (if rev then s.cgLast g else s.cgBays g) (if rev then s.cgLastEdge g else s.cgEdgeSet g) false)
    else t

/-- The source of a commit record. -/
def State.commitSource (s : State) (c : Commit) : Nat :=
  if c.group = 8 then s.fld Reg.pntCfg 21 16 else s.fld (Reg.cgCfg c.group) 5 0

/-- Cycles 0 and 1 of the commits latched on a boundary of `src`; all take the commit edge together, not while the
hub clocks run from FIO (R120). -/
def State.deliverCommits (s : State) (src : Nat) : State :=
  if !s.hubOnSynth then s else
  let cs := s.eng.commits.filter (fun c => !c.flipped && s.commitSource c == src)
  let t := s.commitEdge (cs.flatMap (fun c => unitsOf c.bays c.edge))
  { t with eng := { t.eng with commits := t.eng.commits.map (fun c =>
      if !c.flipped && s.commitSource c == src then { (c) with flipped := true } else c) } }

/-! Ends of verify passes. -/

/-- PLFLOOR as the floor registers hold it (R259). -/
def floorWord (v : Word) : Word := v &&& 0x000FFF3F#32

/-- A personality's floor becomes the shadow floor of its bays. -/
def State.setFloors (s : State) (bays : Nat) (v : Word) : State :=
  (unitsOf bays 0).foldl (fun t b => t.wr (Reg.cfgFloorShadow b) (floorWord v)) s

/-- A panel with PFIRE is armed, and its manual boundary fired (R256). -/
def State.panelFire (s : State) (g : Nat) : State :=
  let i := s.fld (Reg.cgCfg g) 5 0
  if s.bit (Reg.cgCfg g) 17 && s.bit (Reg.cgCfg g) 18 && decide (i ≤ 7) then
    (s.cgArm g false).mbPost i (s.now.addNs 200)
  else s

/-- The verify pass of a partial staging has passed (R239). -/
def State.verifyPass (s : State) (j : VerifyJob) : State :=
  let t := (s.setUnits (unitsOf j.bays j.edge) 2).setFloors j.bays j.floor
  let t := { t with eng := { t.eng with verify := none } }
  let t := ((t.setFld Reg.cfgStgstat 7 0 1).setBit Reg.cfgStgstat 15 false).raise 180
  if j.group < 8 then (t.panelFire j.group).stageRefresh
  else
    let t := { t with pnt := { t.pnt with fire := true, reload := t.pnt.reload.map (fun (r : Reload) => { (r) with step := .armed }) } }
    (t.setFld Reg.cfgPsrc 2 0 7).stageRefresh

/-- The verify pass of a partial staging has met a mismatch (R239, R271). -/
def State.verifyFail (s : State) (j : VerifyJob) (key : Nat) : State :=
  let t := { s with eng := { s.eng with verify := none } }
  let t := ((t.dropStaging j.group j.bays j.edge 0x20).wr Reg.cfgErrplace (placeOfKey key)).raise 180
  if j.group < 8 then t else t.reloadFail 0x20

/-- The pass over one part of a full image ends: it becomes STAGED, or the attempt fails (R213, R214,
R217). -/
def State.loadVerifyEnd (s : State) (j : PartJob) (prio : Bool) : State :=
  match s.firstMismatch (unitsOf j.bays j.edge) false with
  | some k => (s.wr Reg.cfgErrplace (placeOfKey k)).failAttempt (if prio then 0x21 else 0x20) (placeOfKey k)
  | none =>
    let t := (s.setUnits (unitsOf j.bays j.edge) 2).setFloors j.bays j.floor
    let done : Option PartJob := some { (j) with verifying := false }
    t.setBoot (if prio then { t.boot with prioJob := done } else { t.boot with mainJob := done })

/-- The block as a verify pass over the units of a set finds it. -/
def State.passRead (s : State) (bays edge : Nat) (us : Upsets) (es : EntryErrs) : State :=
  (s.upsetShadow bays edge us).entriesRead bays edge es

/-- A staged-verify pass ends. -/
def State.verifyEnd (s : State) (us : Upsets) (es : EntryErrs) : State :=
  match s.eng.verify with
  | some j =>
    let t := s.passRead j.bays j.edge us es
    (match t.firstMismatch (unitsOf j.bays j.edge) false with
     | some k => t.verifyFail j k
     | none => t.verifyPass j)
  | none =>
    match s.boot.prioJob.filter PartJob.verifying, s.boot.mainJob.filter PartJob.verifying with
    | some j, _ => (s.passRead j.bays j.edge us es).loadVerifyEnd j true
    | none, some j => (s.passRead j.bays j.edge us es).loadVerifyEnd j false
    | none, none => s

/-- The meaning of STAGED_VERIFY_END; `us` is what the pass reads wrong. -/
def execStagedVerifyEnd (us : PassErrs) (s : State) : Host.Outcome State Fault Refusal := .next (s.verifyEnd us.bits us.entries)

/-- The verify of a revert ends (R252). -/
def State.revertVerifyEnd (s : State) (g : Nat) (us : Upsets) (es : EntryErrs) : State :=
  if s.eng.revVerify.contains g then
    let t := s.passRead (s.cgLast g) (s.cgLastEdge g) us es
    let bad := (t.lastUnits g).filter (fun u => (t.firstMismatch [u] true).isSome)
    let t := { t with eng := { t.eng with revVerify := t.eng.revVerify.filter (· != g) } }
    if bad = [] then t else ((t.setUnits bad 5).cgDisarm g).cgResult g 8
  else s

/-- The meaning of REVERT_VERIFY_END. -/
def execRevertVerifyEnd (g : Fin 8) (us : PassErrs) (s : State) : Host.Outcome State Fault Refusal :=
  .next (s.revertVerifyEnd g.val us.bits us.entries)

/-! Panels (R256, R257). -/

/-- ISO_STAT follows CGg_PCTL.ISO and the controller bay's PISO (R257). -/
def State.isoRefresh (s : State) (g : Nat) : State :=
  let ctl := s.fld (Reg.cgPctl g) 6 0
  let piso := decide (ctl ≤ 95) && !(s.cgPanel g).testBit ctl && Store.get (fun _ => false) s.eng.piso g
  s.setBit (Reg.cgPctl g) 9 (s.bit (Reg.cgCfg g) 17 && (s.bit (Reg.cgPctl g) 8 || piso))

/-- A write of CGg_PCTL. -/
def State.pctlWrite (s : State) (g : Nat) (v : Word) : State := (s.plainWrite (Reg.cgPctl g) v).isoRefresh g

/-- The meaning of PANEL_ISO_WRITE. -/
def execPanelIsoWrite (ag : Agent) (g : Fin 8) (v : Word) (s : State) : Host.Outcome State Fault Refusal :=
  .next (s.rws ag (Reg.cgPctl g.val) (s.pctlWrite g.val v))

/-- The meaning of PISO_CHANGE: the level of panel `g`'s PISO input. -/
def execPisoChange (g : Fin 8) (level : Bool) (s : State) : Host.Outcome State Fault Refusal :=
  .next (({ s with eng := { s.eng with piso := Store.set (fun _ => false) s.eng.piso g.val level } }).isoRefresh g.val)

/-- A write of register `k` of commit group `g` (R242, R244, R258). -/
def State.groupWrite (s : State) (off : Nat) (v : Word) (g k : Nat) : State :=
  match k with
  | 0x10 => s.cgCtlWrite g v
  | 0x14 => if s.cgState g = 0 then (s.plainWrite off v).isoRefresh g else s
  | 0x38 => s.pctlWrite g v
  | 0x2C | 0x30 | 0x34 =>
    if s.cgUnits g = [] ∧ s.lastUnits g = [] then (s.plainWrite off v).isoRefresh g else s
  | _ => s.plainWrite off v

/-- A write of a CFG register by firmware or a host, its semaphore held (R233, R242, R254 to R259). -/
def State.cfgWrite (s : State) (off : Nat) (v : Word) : State :=
  if off = Reg.cfgPsrc then s.openSource (getBits v 2 0)
  else if off = Reg.cfgDwplace then s.dwPlace v
  else if off = Reg.cfgDwdata then s.dwData v
  else if off = Reg.cfgDwctl then s.dwCtl v
  else if 0x20100 ≤ off ∧ off < 0x20300 then s.groupWrite off v ((off - 0x20100) / 0x40) ((off - 0x20100) % 0x40)
  else s.plainWrite off v

end Sys2Proof.Machine
end

