-- ==== Sys2Proof/Machine/Pointing.lean ====
section
/-! DEFINITION. The pointing engine: background passes, classification, holds, reloads, the error log
(chapter 09_pointing_engine.md). -/
namespace Sys2Proof.Machine

/-! Frame order of a wythe (R181, R263). -/

/-- Structure frames of a band-wythe and of a wythe. -/
def bandFrames : Nat := 8448
def wytheFrames : Nat := 67584

/-- The column and minor of structure frame `r` of a band-wythe, from column `c` on. -/
def frameAt : Nat → Nat → Nat → Nat × Nat
  | 0, c, r => (c, r)
  | n + 1, c, r => if r < framesOf 0 c then (c, r) else frameAt n (c + 1) (r - framesOf 0 c)

/-- The key of structure frame `n` of wythe `w`. -/
def wytheKey (w n : Nat) : Nat :=
  let p := frameAt 727 0 (n % bandFrames)
  frameKeyOf (8 * w + n / bandFrames) p.1 p.2

/-! Running (R120, R263, R265). -/

/-- May the background pass run now? -/
def State.pntRuns (s : State) : Bool :=
  s.bit Reg.pntCtl 0 && (s.mode == 6 || s.mode == 7 || s.mode == 8) && s.hubOnSynth && !s.blockGated 56 &&
    !(s.pwr.drained && decide (s.pwr.entering ≠ 0))

/-- Is a unit's shadow in the pass (R240, R263)? -/
def State.shadowInPass (s : State) (u : Nat) : Bool :=
  let v := s.shState u
  v == 2 || v == 3 || (v == 4 && s.bit Reg.pntCtl 1)

/-- The first shadow frame of wythe `w` at or after position `n` that is in the pass. -/
def State.nextShadow (s : State) (w n : Nat) : Option Nat :=
  (List.range (wytheFrames - n)).findSome? (fun i => if s.shadowInPass (keyUnit (wytheKey w (n + i))) then some (n + i) else none)

/-- One more than the shadow position of a wythe, 0 while it reads live frames. -/
def State.shadowPos (s : State) (w : Nat) : Nat := Store.get (fun _ => 0) s.pnt.shadowPos w

/-- The block with a wythe's shadow position set. -/
def State.setShadowPos (s : State) (w n : Nat) : State :=
  { s with pnt := { s.pnt with shadowPos := Store.set (fun _ => 0) s.pnt.shadowPos w n } }

/-- A wythe's pass ends (R263). -/
def State.passEnd (s : State) (w : Nat) : State :=
  (((s.setShadowPos w 0).wr (Reg.pntPos w) 0).wr (Reg.pntPass w) (s.rd (Reg.pntPass w) + 1)).raise 197

/-- The pass moves on to shadow position `n` or ends. -/
def State.passShadow (s : State) (w n : Nat) : State :=
  match s.nextShadow w n with
  | some m => s.setShadowPos w (m + 1)
  | none => s.passEnd w

/-- The pass moves on after a read. -/
def State.passNext (s : State) (w : Nat) : State :=
  if s.shadowPos w = 0 then
    let n := (s.rd (Reg.pntPos w)).toNat + 1
    if n < wytheFrames then s.wr (Reg.pntPos w) (BitVec.ofNat 32 n)
    else (s.wr (Reg.pntPos w) 0).passShadow w 0
  else match s.nextShadow w (s.shadowPos w - 1) with
    | some n => s.passShadow w (n + 1)
    | none => s.passEnd w

/-- The frame a pass reads next: its latch and key. -/
def State.passFrame (s : State) (w : Nat) : Option (Nat × Nat) :=
  if s.shadowPos w = 0 then
    let k := wytheKey w (s.rd (Reg.pntPos w)).toNat
    some (s.liveLatch (keyUnit k), k)
  else (s.nextShadow w (s.shadowPos w - 1)).map (fun n => (s.shadowLatch (keyUnit (wytheKey w n)), wytheKey w n))

/-! Classification (R266). -/

/-- What a frame read is. -/
inductive FrameClass where
  | clean
  | single (bit : Nat)
  | multi
  deriving DecidableEq, Repr

/-- The class of a frame of a latch. -/
def State.classify (s : State) (latch key : Nat) : FrameClass :=
  let f := s.frameIn latch key
  let dyn := s.dynIn latch key
  let r := frameCheck key dyn f
  let st := s.chkIn latch key
  let loc := getBits r 14 0 ^^^ getBits st 14 0
  if r = st then .clean
  else if getBit r 15 ≠ getBit st 15 ∧ 1 ≤ loc ∧ loc ≤ 10240 ∧
      getBits (frameCheck key dyn (flipBit f (loc - 1))) 31 16 = getBits st 31 16 ∧
      !(dyn && (dynMask key).getLsbD (loc - 1)) then .single (loc - 1)
  else .multi

/-! Holds (R270). -/

/-- Is a bay held? -/
def State.held (s : State) (bay : Nat) : Bool := s.bit (Reg.pntHold (bay / 32)) (bay % 32)

/-- A bay is held: bond hold, INIT hold, PNT_HOLD. -/
def State.holdBay (s : State) (bay : Nat) : State :=
  ((s.bondStart [bay]).bayInit bay).setBit (Reg.pntHold (bay / 32)) (bay % 32) true

/-- A reload is wanted: it begins, or waits behind the one in progress (R271). -/
def State.wantReload (s : State) (bay : Nat) : State :=
  if s.pnt.reload.isNone then s.reloadStart bay
  else { s with pnt := { s.pnt with wants := s.pnt.wants ||| 2 ^ bay } }

/-- A write of PNT_HOLDCLR with its key for a held bay (R270, R271). -/
def State.holdClear (s : State) (bay : Nat) : State :=
  if 96 ≤ bay ∨ !s.held bay then s
  else
    let t := s.releaseUnits [bay]
    ({ t with pnt := { t.pnt with wants := t.pnt.wants &&& (2 ^ 96 - 1 - 2 ^ bay) } }).reloadUnheld [bay]

/-- The meaning of PNT_HOLD_CLEAR. -/
def execPntHoldClear (ag : Agent) (v : Word) (s : State) : Host.Outcome State Fault Refusal :=
  .next (s.rws ag Reg.pntHoldclr (if getBits v 31 16 = 0x3C5A then s.holdClear (getBits v 6 0) else s))

/-! Errors (R267, R269). -/

/-- The policy of a bay (R269). -/
def State.bayPolicy (s : State) (bay : Nat) : Nat := s.fld (Reg.pntBaypol (bay / 4)) (8 * (bay % 4) + 1) (8 * (bay % 4))

/-- The reload slot of a bay. -/
def State.baySlot (s : State) (bay : Nat) : Nat := s.fld (Reg.pntBaypol (bay / 4)) (8 * (bay % 4) + 4) (8 * (bay % 4) + 2)

/-- A multi-bit error in a frame of a latch (R240, R269). -/
def State.multiBit (s : State) (latch key : Nat) : State :=
  let u := keyUnit key
  let t := s.bumpSat Reg.pntMbecnt
  if s.liveLatch u ≠ latch then (((t.logFrame latch key 0 1 0 t.logTime).raise 194).shadowLost u).stageRefresh
  else
    let pol := if u < 96 ∧ !s.held u then s.bayPolicy u else 0
    let t := (((t.logFrame latch key 0 1 (if pol = 1 then 2 else if pol = 2 then 3 else 1) t.logTime).raise 193).sysFault 2)
    match pol with
    | 1 => t.holdBay u
    | 2 => (t.holdBay u).wantReload u
    | _ => t

/-- The write-back of a wythe in progress: the frame's store key, the bit, and when it was found. -/
def State.writeBack (s : State) (w : Nat) : Option (Nat × Nat × Word) := s.pnt.writeBack.lookup w

/-- The frame of a latch with upset bits. -/
def State.upsetFrame (s : State) (latch key : Nat) (bits : List (Fin 10240)) : State :=
  if bits = [] then s else s.setFrame latch key (bits.foldl (fun f b => flipBit f b.val) (s.frameIn latch key))

/-- What the class of a frame leads to. -/
def State.frameAct (t : State) (w latch key : Nat) : FrameClass → State
  | .clean => t
  | .single b => { t with pnt := { t.pnt with writeBack := Store.insert t.pnt.writeBack w (latchKey latch key, b, t.logTime) } }
  | .multi => t.multiBit latch key

/-- The engine reads the frame with its entry and acts on its class; a rebuilt entry is not compared (R261). -/
def State.frameRead (s : State) (w latch key : Nat) (entry : Fin 4) : State :=
  let t := s.entryRead latch key entry
  if entry = 2 then t else t.frameAct w latch key (t.classify latch key)

/-- The meaning of PNT_FRAME_READ in wythe `w`: `upset` are the bits of the frame inverted since it was
written, `entry` what its check-table entry's code shows (0 none, 1 one bit corrected, 2 two bits, 3 more bits than
it can tell). -/
def execPntFrameRead (w : Fin 2) (upset : List (Fin 10240)) (entry : Fin 4) (s : State) : Host.Outcome State Fault Refusal :=
  .next (if !s.pntRuns || (s.writeBack w.val).isSome then s
    else match s.passFrame w.val with
      | none => s.passEnd w.val
      | some (l, k) => ((s.upsetFrame l k upset).passNext w.val).frameRead w.val l k entry)

/-- The meaning of PNT_SBE_WRITE_BACK_DONE in wythe `w`; `upset` is what reads wrong at the
re-read: a rebuilt entry leaves nothing to compare (R261, R267). -/
def execPntSbeWriteBackDone (w : Fin 2) (upset : FrameErrs) (s : State) : Host.Outcome State Fault Refusal :=
  match s.writeBack w.val with
  | none => .next s
  | some (lk, b, time) =>
    let l := lk / 2 ^ 21
    let k := lk % 2 ^ 21
    let t := { s with pnt := { s.pnt with writeBack := Store.erase s.pnt.writeBack w.val } }
    let t := ((t.setFrame l k (flipBit (t.frameIn l k) b)).upsetFrame l k upset.bits).entryRead l k upset.entry
    .next (if t.frameMatches l k then ((t.logFrame l k b 0 0 time).bumpSat Reg.pntSbecnt).raise 192
      else t.multiBit l k)

/-! PNT_CTL, the log's head (R263, R273). -/

/-- A write of PNT_CTL. -/
def State.pntCtlWrite (s : State) (v : Word) : State :=
  let t := s.plainWrite Reg.pntCtl v
  if getBit v 2 then
    ({ t with pnt := { t.pnt with shadowPos := [] } }.wr (Reg.pntPos 0) 0).wr (Reg.pntPos 1) 0
  else t

/-- The meaning of PNT_RESTART: a PNT_CTL write with RESTART; `en` and `shadow` are its other bits. -/
def execPntRestart (ag : Agent) (en shadow : Bool) (s : State) : Host.Outcome State Fault Refusal :=
  .next (s.rws ag Reg.pntCtl (s.pntCtlWrite (BitVec.ofNat 32 (4 + 2 * shadow.toNat + en.toNat))))

/-- The head entry of the log is removed. -/
def State.logPop (s : State) : State := ({ s with pnt := { s.pnt with log := s.pnt.log.drop 1 } }).logShow

/-- The meaning of PNT_LOG_POP. -/
def execPntLogPop (ag : Agent) (s : State) : Host.Outcome State Fault Refusal := .next (s.rws ag Reg.pntLogPop s.logPop)

/-! Reloads (R271). -/

/-- The meaning of PNT_RELOAD_OPEN: step 2. -/
def execPntReloadOpen (s : State) : Host.Outcome State Fault Refusal :=
  match s.pnt.reload with
  | some r =>
    if r.step ≠ .waiting ∨ s.bit Reg.cfgStgstat 15 ∨ s.fld Reg.cfgPsrc 2 0 ≠ 7 ∨ !(s.mode == 6 || s.mode == 7 || s.mode == 8) then .next s
    else if s.fld (Reg.pntRlLen (s.baySlot r.bay)) 29 0 = 0 then .next (s.reloadFail 0x32)
    else
      let t := ((s.setFld Reg.cfgPsrc 2 0 0).engineIdle).feed (s.fld (Reg.pntRlAddr (s.baySlot r.bay)) 29 0 / 4 * 4)
        (s.fld (Reg.pntRlLen (s.baySlot r.bay)) 29 0 / 4)
      let t := t.flashSuspend true
      .next ({ t with pnt := { t.pnt with reload := some { (r) with step := .reading } } }.stageRefresh)
  | none => .next s

/-- The meaning of PNT_RELOAD_FIRE: step 5 where RLBSEL names a manual boundary. -/
def execPntReloadFire (s : State) : Host.Outcome State Fault Refusal :=
  let i := s.fld Reg.pntCfg 21 16
  let x := s.now.addNs 200
  .next (if s.pnt.fire && decide (i ≤ 7) then
    (if s.mbAnswer i x = .posted then ({ s with pnt := { s.pnt with fire := false } }).mbPost i x else s.mbPost i x)
  else s)

/-- The meaning of PNT_RELOAD_WAIT_EXPIRY: RLWAIT no longer acts once the bays are found ready. -/
def execPntReloadWaitExpiry (s : State) : Host.Outcome State Fault Refusal :=
  .next (match s.pnt.reload with
    | some r => if r.step = .committing then s else s.reloadFail 0x30
    | none => s)

/-- A reload's bays at a latch point of RLBSEL: they become COMMITTING, or the engine fires again. -/
def State.reloadLatch (s : State) (src : Nat) : State :=
  match s.pnt.reload with
  | some r =>
    if r.step ≠ .armed ∨ s.fld Reg.pntCfg 21 16 ≠ src then s
    else if (unitsOf r.bays r.edge).all (fun u => s.shState u == 2) && s.floorsMet src r.bays then
      ({ s with pnt := { s.pnt with reload := some { (r) with step := .committing }, fire := false } }).beginCommit
        (Commit.mk 8 false r.bays r.edge false)
    else { s with pnt := { s.pnt with fire := true } }
  | none => s

/-- Entry to LOADING: every hold ends, reloads are abandoned, the pass is at frame 0 (R265, R270). -/
def State.pntLoading (s : State) : State :=
  let t := { s with pnt := { s.pnt with shadowPos := [], writeBack := [], reload := none, wants := 0, fire := false } }
  let t := [Reg.pntHold 0, Reg.pntHold 1, Reg.pntHold 2, Reg.pntPos 0, Reg.pntPos 1].foldl (fun t o => t.wr o 0) t
  t.setBit Reg.pntStat 1 false

/-- A write of a PNT register. -/
def State.pntWrite (s : State) (off : Nat) (v : Word) : State :=
  if off = Reg.pntCtl then s.pntCtlWrite v
  else if off = Reg.pntHoldclr then (if getBits v 31 16 = 0x3C5A then s.holdClear (getBits v 6 0) else s)
  else if off = Reg.pntLogPop then (if getBit v 0 then s.logPop else s)
  else s.plainWrite off v

end Sys2Proof.Machine
end

