-- ==== Sys2Proof/Machine/Cluster.lean ====
section
/-! DEFINITION. Cluster control and watchdogs, the gateway's window side, the event controller (R397 to
R410, R489). -/
namespace Sys2Proof.Machine

/-! Cores (R401). -/

/-- Does the mode keep every core in reset (R401)? -/
def State.coresHeld (s : State) : Bool := s.mode ≤ 3 || s.mode == 0xA || s.mode == 0xB

/-- Core `c` is released: it starts at BOOTVEC. -/
def State.coreRelease (s : State) (c : Nat) : State := (s.setBit Reg.sysClctl c true).setBit Reg.sysClstat c true

/-- Is core `c` out of reset? -/
def State.coreRuns (s : State) (c : Nat) : Bool := s.bit Reg.sysClstat c

/-- A write of SYS_CLCTL (R401). -/
def State.clctlWrite (s : State) (v : Word) : State :=
  if getBits v 31 16 ≠ 0x3CA5 ∨ s.coresHeld then s
  else (List.range 4).foldl (fun t c =>
    if getBit v c then t.coreRelease c else if t.coreRuns c then t.coreReset c else t) s

/-- The meaning of CLUSTER_RUN_WRITE. -/
def execClusterRunWrite (_ag : Agent) (v : Word) (s : State) : Host.Outcome State Fault Refusal := .next (s.clctlWrite v)

/-! Watchdogs (R403). -/

/-- A watchdog. -/
def State.wd (s : State) (i : Nat) : WdSt := Store.get (fun _ => {}) s.wds i

/-- The block with a watchdog set. -/
def State.setWd (s : State) (i : Nat) (w : WdSt) : State := { s with wds := Store.set (fun _ => {}) s.wds i w }

/-- The count a watchdog starts from, in configuration-clock cycles. -/
def WdSt.full (w : WdSt) : Nat := 400 * max 1 w.load.toNat

/-- A write of WDi_EN. -/
def State.wdEnable (s : State) (i : Nat) (on : Bool) : State :=
  let w := s.wd i
  if on && !w.en then s.setWd i { w with en := true, count := w.full, stage := false } else s

/-- A write of the kick register. -/
def State.wdKick (s : State) (i : Nat) (v : Word) : State :=
  let w := s.wd i
  if getBits v 31 16 = 0x6A95 ∧ w.en then s.setWd i { w with count := w.full, stage := false } else s

/-- A core reset by a watchdog starts again at BOOTVEC. -/
def State.wdCore (s : State) (c : Nat) : State :=
  if s.coreRuns c then ((s.busDrop c).setBit Reg.sysClstat (4 + c) true).semAutoRelease (0x10 + c) else s

/-- A watchdog expires, in RUN and STAGING. -/
def State.wdExpire (s : State) (i : Nat) : State :=
  let w := s.wd i
  if !w.en ∨ (s.mode ≠ 6 ∧ s.mode ≠ 7) then s
  else if !w.stage then
    (s.setWd i { w with stage := true, fired := true, count := w.full }).raise (352 + i)
  else
    let t := s.setWd i { w with stage := false, reset := true, count := w.full }
    if i = 4 then (List.range 4).foldl (fun t c => t.wdCore c) t else t.wdCore i

/-- The meaning of WD_ENABLE. -/
def execWdEnable (i : Fin 5) (s : State) : Host.Outcome State Fault Refusal := .next (s.wdEnable i.val true)

/-- The meaning of WD_KICK. -/
def execWdKick (i : Fin 5) (v : Word) (s : State) : Host.Outcome State Fault Refusal := .next (s.wdKick i.val v)

/-- The meaning of WD_EXPIRY. -/
def execWdExpiry (i : Fin 5) (s : State) : Host.Outcome State Fault Refusal := .next (s.wdExpire i.val)

/-- The watchdogs count down by one configuration-clock cycle, in RUN and STAGING. -/
def State.wdTick (s : State) : State :=
  if s.mode = 6 ∨ s.mode = 7 then
    (List.range 5).foldl (fun t i =>
      let w := t.wd i
      if w.en then t.setWd i { w with count := w.count - 1 } else t) s
  else s

/-- What a watchdog register reads, by its offset. -/
def State.wdRead (s : State) (i o : Nat) : Word :=
  let w := s.wd i
  match o with
  | 0x00 => BitVec.ofNat 32 w.en.toNat
  | 0x04 => w.load
  | 0x0C => BitVec.ofNat 32 (if w.en then (w.count + 399) / 400 else 0)
  | 0x10 => BitVec.ofNat 32 (w.fired.toNat + 2 * w.reset.toNat)
  | _ => 0

/-- A write of a watchdog register, by its offset. -/
def State.wdWrite (s : State) (i o : Nat) (v : Word) : State :=
  let w := s.wd i
  match o with
  | 0x00 => s.wdEnable i (getBit v 0)
  | 0x04 => if w.en then s else s.setWd i { w with load := v }
  | 0x08 => s.wdKick i v
  | 0x10 => s.setWd i { w with fired := w.fired && !getBit v 0, reset := w.reset && !getBit v 1 }
  | _ => s

/-! The gateway's window side (R405, R406, R408). -/

/-- What a gateway port holds outside its registers. -/
def State.gw (s : State) (p : Nat) : GwSt := Store.get (fun _ => {}) s.gws p

/-- The block with a gateway port's state set. -/
def State.setGw (s : State) (p : Nat) (g : GwSt) : State := { s with gws := Store.set (fun _ => {}) s.gws p g }

/-- The bay of a gateway port. -/
def gwBay (p : Nat) : Nat := [2, 3, 50, 51].getD p 2

/-- GCLK of a port in the live plane, 0 while GEN is 0. -/
def State.gwClk (s : State) (p : Nat) : Nat :=
  let f := s.clockCol (gwBay p)
  if f oPortEn then fieldAt f oPortClk 5 else 0

/-- Is the port available (R405)? -/
def State.gwAvail (s : State) (p : Nat) : Bool :=
  decide (s.gwClk p ≠ 0) && decide (s.gwClk p ≤ 24) && decide (6 ≤ s.mode) && decide (s.mode ≤ 8) &&
    !s.clamped (gwBay p)

/-- A gateway error (R408): its bit, its port, EV358. -/
def State.gwErr (s : State) (p i : Nat) : State := ((s.setBit Reg.sysGwerr i true).setFld Reg.sysGwerr 5 4 p).raise 358

/-- The words of beats of 8 bytes. -/
def beatWords (bs : List (BitVec 64)) : List Word := bs.flatMap (fun b => [b.extractLsb' 0 32, b.extractLsb' 32 32])

/-- A window read completes (R406, R408). -/
def State.gwAnswer (s : State) (o : GwOrigin) (bs : List (BitVec 64)) : State :=
  match o with
  | .agent ag => s.emit (.read ag (beatWords bs))
  | .wale b part => { s with wale := { s.wale with gwAnswers := s.wale.gwAnswers ++ [(b, part, beatWords bs)] } }

/-- All ones in place of read data. -/
def onesBeats (n : Nat) : List (BitVec 64) := List.replicate n (BitVec.allOnes 64)

/-- A window access (R406, R408): none while the port's queue or its 32 reads are taken up. -/
def State.gwAccess (s : State) (o : GwOrigin) (req : WindowReq) : Option State :=
  let p := req.offset / 2 ^ 34
  if !s.gwAvail p then
    let t := s.gwErr p 1
    some (if req.write then t else t.gwAnswer o (onesBeats req.beats))
  else
    let g := s.gw p
    if 16 ≤ g.queue.length then none
    else if req.write then some (s.setGw p { g with queue := g.queue ++ [(0, req)] })
    else if 32 ≤ g.reads.length ∨ g.reads.any (fun r => r.tag == req.tag.val) then none
    else some (s.setGw p { g with
      queue := g.queue ++ [(0, req)], reads := g.reads ++ [⟨req.tag.val, req.beats, o, false⟩] })

/-- A free window tag of a port. -/
def State.gwTag (s : State) (p : Nat) : Option Nat :=
  (List.range 32).find? (fun t => !(s.gw p).reads.any (fun r => r.tag == t))

/-- A gateway port at an edge of its clock: the head request leaves when T_VALID and T_READY meet (R406,
R407). -/
def State.gwEdge (s : State) (p : Nat) (ready : Bool) : State :=
  let g := s.gw p
  let age (q : List (Nat × WindowReq)) : List (Nat × WindowReq) := q.map (fun e => (min 3 (e.1 + 1), e.2))
  match g.queue with
  | (a, r) :: q =>
    if a = 3 ∧ ready then
      (s.setGw p { g with
        queue := age q
        reads := g.reads.map (fun x => if !r.write && x.tag == r.tag.val then { (x) with sent := true } else x) }).emit
        (.gwWindow p r)
    else s.setGw p { g with queue := age g.queue }
  | [] => s

/-- The gateway port of a bay at an edge of one of the bay's stake nets. -/
def State.gwBayEdge (s : State) (bay net : Nat) (ready : Bool) : State :=
  match gwOfBay bay with
  | some p => if s.gwAvail p ∧ s.gwClk p = net + 1 then s.gwEdge p ready else s
  | none => s

/-- A read of a port ends. -/
def State.gwReadEnd (s : State) (p : Nat) (r : GwRead) (bs : List (BitVec 64)) : State :=
  let g := s.gw p
  (s.setGw p { g with
    reads := g.reads.filter (fun x => x.tag != r.tag)
    queue := g.queue.filter (fun e => e.2.write || e.2.tag.val != r.tag) }).gwAnswer r.origin bs

/-- The meaning of GW_WINDOW_RESPONSE: TR_ERR makes the access return all ones (R406). -/
def execGwWindowResponse (port : Fin 4) (tag : Fin 32) (data : List (BitVec 64)) (err : Bool) (s : State) :
    Host.Outcome State Fault Refusal :=
  .next (if !s.gwAvail port.val then s
    else match (s.gw port.val).reads.find? (fun r => r.tag == tag.val && r.sent) with
      | none => s
      | some r =>
        if err then (s.gwErr port.val 2).gwReadEnd port.val r (onesBeats r.beats)
        else s.gwReadEnd port.val r (data.take r.beats))

/-- The meaning of GW_WINDOW_TIMEOUT (R408). -/
def execGwWindowTimeout (port : Fin 4) (tag : Fin 32) (s : State) : Host.Outcome State Fault Refusal :=
  .next (match (s.gw port.val).reads.find? (fun r => r.tag == tag.val) with
    | none => s
    | some r => (s.gwErr port.val 0).gwReadEnd port.val r (onesBeats r.beats))

/-! Events (R409, R410, R489). -/

/-- The meaning of EVENT_RAISE. -/
def execEventRaise (n : Fin 448) (s : State) : Host.Outcome State Fault Refusal := .next (s.raise n.val)

/-- The meaning of USER_EVENT_EDGE: UEV reads low while its bay's bond cells clamp (R250, R409). -/
def execUserEventEdge (w : Fin 2) (j : Fin 32) (s : State) : Host.Outcome State Fault Refusal :=
  .next (if s.clamped (48 * w.val + 6 * (j.val % 8) + j.val / 8) then s else s.raise (384 + 32 * w.val + j.val))

/-- The source a claim by core `c` returns: the highest priority, the lowest number among equals. -/
def State.claimOf (s : State) (c : Nat) : Option Nat :=
  (List.range 448).foldl (fun (best : Option Nat) n =>
    if s.presented n c then
      match best with
      | none => some n
      | some b => if s.fld (Reg.evtSrc b) 2 0 < s.fld (Reg.evtSrc n) 2 0 then some n else best
    else best) none

/-- A read of EVT_CLAIMc. -/
def State.claim (s : State) (c : Nat) : Word × State :=
  match s.claimOf c with
  | none => (0, s)
  | some n => (BitVec.ofNat 32 (n + 2 ^ 31), s.setBit (Reg.evtSrc n) 31 false)

/-- The meaning of EVT_CLAIM. -/
def execEvtClaim (ag : Agent) (c : Fin 4) (s : State) : Host.Outcome State Fault Refusal :=
  let r := s.claim c.val
  .next (r.2.emit (.read ag [r.1]))

/-- A write of EVT_RAISE; a reserved source's PEND sets too (R489). -/
def State.evtRaise (s : State) (v : Word) : State := if getBits v 8 0 ≤ 447 then s.raise (getBits v 8 0) else s

/-- The meaning of EVT_RAISE_WRITE. -/
def execEvtRaiseWrite (_ag : Agent) (v : Word) (s : State) : Host.Outcome State Fault Refusal := .next (s.evtRaise v)

/-- A write of EVT_SRCn: a source that becomes presented to a host port sends its vector. -/
def State.evtSrcWrite (s : State) (n : Nat) (v : Word) : State := State.msixAfter s n (s.plainWrite (Reg.evtSrc n) v)

/-- A write of EVT_THRt. -/
def State.evtThrWrite (s : State) (t : Nat) (v : Word) : State :=
  (List.range 448).foldl (fun u n => State.msixAfter s n u) (s.plainWrite (Reg.evtThr t) v)

/-- EVT_PENDr (R410). -/
def State.evtPend (s : State) (r : Nat) : Word := wordOf (fun i => s.bit (Reg.evtSrc (32 * r + i)) 31)

/-- The machine external interrupt of core `c` (R410). -/
def State.coreIrq (s : State) (c : Nat) : Bool := (List.range 448).any (fun n => s.presented n c)

/-- The fabric event line FEV[l] (R410). -/
def State.fev (s : State) (l : Nat) : Bool :=
  (List.range 448).any (fun n => s.presented n 6 && s.fld (Reg.evtSrc n) 18 16 == l)

/-- A port's vectors are flushed after a write of the MSI-X table (R410). -/
def State.msixTableWrite (s : State) (p : Fin 2) (k : Nat) (v : Word) : State :=
  let h := s.port p
  (s.setPort p { h with msixTable := Store.set msixDefault h.msixTable k v }).msixFlush p

end Sys2Proof.Machine
end

