-- ==== Sys2Proof/Machine/LineCode.lean ====
section
/-! DEFINITION. Line codes of the lanes: 8b/10b (R321), the GB66 scrambler (R323), test patterns (R329). -/
namespace Sys2Proof.Machine

/-! 8b/10b (IEEE 802.3 Clause 36).  A symbol is a number whose bit 0 is bit a, sent first. -/

/-- Sub-blocks a to i of D.x under negative disparity, written a first. -/
def code6 : List Nat := [
  0b100111, 0b011101, 0b101101, 0b110001, 0b110101, 0b101001, 0b011001, 0b111000,
  0b111001, 0b100101, 0b010101, 0b110100, 0b001101, 0b101100, 0b011100, 0b010111,
  0b011011, 0b100011, 0b010011, 0b110010, 0b001011, 0b101010, 0b011010, 0b111010,
  0b110011, 0b100110, 0b010110, 0b110110, 0b001110, 0b101110, 0b011110, 0b101011]

/-- Sub-blocks f to j of D.x.y under negative disparity, written f first; entry 8 is A7. -/
def code4 : List Nat := [0b1011, 0b1001, 0b0101, 0b1100, 0b1101, 0b1010, 0b0110, 0b1110, 0b0111]

/-- Sub-blocks f to j of K28.y after the six bits 001111. -/
def codeK28 : List Nat := [0b0100, 0b1001, 0b0101, 0b0011, 0b0010, 0b1010, 0b0110, 0b1000]

/-- The number of ones among `n` bits. -/
def ones (n v : Nat) : Nat := (List.range n).foldl (fun a i => a + (v.testBit i).toNat) 0

/-- `n` bits in the other order. -/
def bitRev (n v : Nat) : Nat := (List.range n).foldl (fun a i => if v.testBit i then a + 2 ^ (n - 1 - i) else a) 0

/-- Six bits of D.x under a disparity, positive when `rd`. -/
def enc6 (rd : Bool) (x : Nat) : Nat :=
  let c := code6.getD x 0
  if rd && (ones 6 c != 3 || x == 7) then 63 - c else c

/-- Four bits of D.x.y under the disparity after the six. -/
def enc4 (rd : Bool) (x y : Nat) : Nat :=
  let alt := y == 7 && (if rd then x == 11 || x == 13 || x == 14 else x == 17 || x == 18 || x == 20)
  let c := code4.getD (if alt then 8 else y) 0
  if rd && (ones 4 c != 2 || y == 3) then 15 - c else c

/-- Is a byte with its K flag one of the twelve K symbols? -/
def isK (b : Nat) : Bool := b % 32 == 28 || (b / 32 == 7 && (b % 32 == 23 || b % 32 == 27 || b % 32 == 29 || b % 32 == 30))

/-- The ten bits, a first, of a byte under a disparity. -/
def encTen (rd k : Bool) (b : Nat) : Nat :=
  let x := b % 32
  let y := b / 32 % 8
  if k then
    let c := if x = 28 then 0b001111 * 16 + codeK28.getD y 0 else code6.getD x 0 * 16 + 0b1000
    if rd then 1023 - c else c
  else
    let c6 := enc6 rd x
    let mid := if ones 6 c6 = 3 then rd else !rd
    c6 * 16 + enc4 mid x y

/-- The symbol of a byte; a K flag on a byte that names no K symbol sends K30.7 (R321). -/
def encSym (rd k : Bool) (b : Nat) : Nat := bitRev 10 (if k && !isK b then encTen rd true 0xFE else encTen rd k b)

/-- The disparity after a symbol: its own when it is not balanced. -/
def rdAfter (rd : Bool) (sym : Nat) : Bool := if ones 10 sym = 5 then rd else decide (5 < ones 10 sym)

/-- The byte and K flag a symbol stands for under a disparity. -/
def decUnder (rd : Bool) (sym : Nat) : Option (Nat × Bool) :=
  match (List.range 256).find? (fun b => encSym rd false b == sym) with
  | some b => some (b, false)
  | none => ((List.range 256).find? (fun b => isK b && encSym rd true b == sym)).map (fun b => (b, true))

/-- A received symbol: the byte, its K flag, RXCERR, RXDERR and the disparity after it (R321). -/
def decSym (rd : Bool) (sym : Nat) : Nat × Bool × Bool × Bool × Bool :=
  match decUnder rd sym with
  | some (b, k) => (b, k, false, false, rdAfter rd sym)
  | none => match decUnder (!rd) sym with
    | some (b, k) => (b, k, false, true, rdAfter rd sym)
    | none => (0xFE, true, true, false, rdAfter rd sym)

/-! Shift-register codes: bit 0 of a state is the latest bit. -/

/-- `n` bits through the scrambler x^58 + x^39 + 1: the output bits and the state (R323). -/
def scramble : Nat → Nat → Nat → Nat → Nat × Nat
  | 0, _, st, _ => (0, st)
  | n + 1, v, st, i =>
    let o := v.testBit 0 != (st.testBit 38 != st.testBit 57)
    let r := scramble n (v / 2) ((2 * st + o.toNat) % 2 ^ 58) (i + 1)
    (o.toNat + 2 * r.1, r.2)

/-- `n` bits through the descrambler. -/
def descramble : Nat → Nat → Nat → Nat × Nat
  | 0, _, st => (0, st)
  | n + 1, v, st =>
    let o := v.testBit 0 != (st.testBit 38 != st.testBit 57)
    let r := descramble n (v / 2) ((2 * st + v % 2) % 2 ^ 58)
    (o.toNat + 2 * r.1, r.2)

/-- The next bit of pattern `p` after the bits of `st` (R329; the polynomials of ITU-T O.150). -/
def prbsBit (p st : Nat) : Bool :=
  match p with
  | 1 => st.testBit 5 != st.testBit 6
  | 2 => st.testBit 4 != st.testBit 8
  | 3 => st.testBit 13 != st.testBit 14
  | 4 => st.testBit 17 != st.testBit 22
  | 5 => st.testBit 27 != st.testBit 30
  | _ => !st.testBit 0

/-- `n` bits of a pattern, first bit least significant, and the state after them. -/
def prbsRun (p : Nat) : Nat → Nat → Nat × Nat
  | 0, st => (0, st)
  | n + 1, st =>
    let b := prbsBit p st
    let r := prbsRun p n ((2 * st + b.toNat) % 2 ^ 31)
    (b.toNat + 2 * r.1, r.2)

/-- The state after `n` received bits. -/
def bitsInto : Nat → Nat → Nat → Nat
  | 0, _, st => st
  | n + 1, v, st => bitsInto n (v / 2) ((2 * st + v % 2) % 2 ^ 31)

end Sys2Proof.Machine
end

