-- ==== Sys2Proof/Machine/Lanes.lean ====
section
/-! DEFINITION. Serial lanes and their quads (chapter 11_serial_lanes.md). -/
namespace Sys2Proof.Machine

/-! Lanes' state, errors, status events (R333). -/

/-- A lane's state outside its registers. -/
def State.lane (s : State) (n : Nat) : LaneSt := Store.get (fun _ => {}) s.lanes n

/-- The block with a lane's state set. -/
def State.setLane (s : State) (n : Nat) (l : LaneSt) : State := { s with lanes := Store.set (fun _ => {}) s.lanes n l }

/-- Hardware sets a LANE_ERR bit: EV(2n + 1) when it was 0 and is enabled (R333). -/
def State.laneErr (s : State) (n i : Nat) : State :=
  let new := !s.bit (Reg.laneErr n) i && s.bit (Reg.laneEven n) (16 + i)
  (s.setBit (Reg.laneErr n) i true).raiseIf new (2 * n + 1)

/-- A status condition: EV(2n) when LANE_EVEN.ST_EN enables it (R333). -/
def State.laneStatus (s : State) (n i : Nat) : State := s.raiseIf (s.bit (Reg.laneEven n) i) (2 * n)

/-- Does a port own the lane's quad (R305)? -/
def State.laneOwned (s : State) (n : Nat) : Bool := decide (s.quadOwner (n / 4) ≠ 0)

/-- Are the lane's rails on (R412)? -/
def State.lanePowered (s : State) (n : Nat) : Bool := s.railOn (4 + n / 32) && s.railOn 6

/-! Settings in effect (R307, R320). -/

/-- WIDTH in bits. -/
def widthBits (c : Nat) : Nat := match c with | 0 => 20 | 1 => 32 | 2 => 40 | 3 => 64 | _ => 80

/-- The fields of a lane's LANE_CFG in effect. -/
def State.lanePll (s : State) (n : Nat) : Nat := s.liveFld (Reg.laneCfg n) 0 0
def State.lanePcs (s : State) (n : Nat) : Nat := s.liveFld (Reg.laneCfg n) 6 4
def State.laneWidth (s : State) (n : Nat) : Nat := widthBits (s.liveFld (Reg.laneCfg n) 9 7)
def State.laneScr (s : State) (n : Nat) : Bool := s.liveFld (Reg.laneCfg n) 12 12 == 1

/-- Is a LANE_CFG value legal (R320)? -/
def laneCfgLegal (v : Word) : Bool :=
  let pcs := getBits v 6 4
  let w := getBits v 9 7
  decide (getBits v 3 1 ≤ 4) && decide (w ≤ 4) && decide (getBits v 11 10 ≤ 2) &&
    (match pcs with
     | 0 => true
     | 1 => w == 0 || w == 2 || w == 4
     | 2 => w == 3
     | 3 => w == 3
     | 4 => w == 3
     | _ => false) &&
    (decide (getBits v 11 10 = 0) || pcs == 1) && (!getBit v 12 || pcs == 2)

/-- The quads that a link of a width uses at a host port (R305, R363). -/
def portQuads (p width : Nat) : List Nat :=
  if p = 0 then (if width = 3 then [0, 1] else [0]) else (if width = 3 then [14, 15] else [15])

/-- Does a host port use the lane: the width its link has, or MAXW while the link is down; a narrow link takes the
lanes of its quad from lane 0 upward (R305, R366; DEDUCED, assumption 62)? -/
def State.hostUses (s : State) (p n : Nat) : Bool :=
  let w := if s.bit (Reg.hpStat p) 0 then s.fld (Reg.hpStat p) 5 4 else s.fld (Reg.hpCtl p) 5 4
  (portQuads p w).contains (n / 4) && (decide (2 ≤ w) || decide (n % 4 < 2 ^ w))

/-- Does PWR hold a lane OFF, IDLE or ON (R332)?  An owned lane that its port's width does not use is held off
(R305); the hosts' controllers set PWR to values the spec does not give (assumption 62). -/
def State.lanePwr (s : State) (n : Nat) : Nat :=
  match s.quadOwner (n / 4) with
  | 1 => if s.hostUses 0 n then 2 else 0
  | 2 => if s.hostUses 1 n then 2 else 0
  | _ => s.fld (Reg.laneCtl n) 1 0 % 3

/-- Is the lane powered, its quad not held down, and PWR not OFF (R328, R332)? -/
def State.laneUp (s : State) (n : Nat) : Bool :=
  s.lanePowered n && !s.bit (Reg.qstat (n / 4)) 5 && s.lanePwr n != 0

/-- Is the lane on: up, with PWR = ON? -/
def State.laneOn (s : State) (n : Nat) : Bool := s.laneUp n && s.lanePwr n == 2

/-- Is the PLL the lane selects locked?  Which one a host port's lane takes the spec does not say. -/
def State.lanePllOk (s : State) (n : Nat) : Bool :=
  match s.quadOwner (n / 4) with
  | 1 => s.bit (Reg.qstat (n / 4)) 0 || s.bit (Reg.qstat (n / 4)) 1
  | 2 => s.bit (Reg.qstat (n / 4)) 0 || s.bit (Reg.qstat (n / 4)) 1
  | _ => s.bit (Reg.qstat (n / 4)) (s.lanePll n)

/-- The listing of the lane interface column of band-wythe `k` in the live plane. -/
def State.laneCol (s : State) (k : Nat) : Nat → Bool := fun b => s.colBit (s.edgeLatch k) k 1 (Config.edgeBit true b)

/-- TXCLK and RXCLK of a lane, as stake net plus 1; 0 leaves the side unconnected (R325). -/
def State.txClk (s : State) (n : Nat) : Nat := fieldAt (s.laneCol (n / 4)) (oTxclk (n % 4)) 5
def State.rxClk (s : State) (n : Nat) : Nat := fieldAt (s.laneCol (n / 4)) (oRxclk (n % 4)) 5

/-- Does the transmitter send nothing: lane off or IDLE, TXIDLE, TXIDLE_F, PLL not locked, outputs of the edge
columns not enabled (R311, R330)? -/
def State.txStopped (s : State) (n : Nat) : Bool :=
  !s.laneOn n || s.bit (Reg.laneCtl n) 7 || !s.lanePllOk n ||
    (!s.laneOwned n && (!s.outputsOn (n / 4) || ((s.lane n).idleF && s.txClk n != 0)))

/-- Is the transmitter in electrical idle: it sends nothing, or loopback 2 keeps its signal inside the die
(R311, R329)? -/
def State.elecIdle (s : State) (n : Nat) : Bool := s.txStopped n || s.fld (Reg.laneCtl n) 6 4 == 2

/-- A receiver that is off has no lock, no alignment and no words (DEDUCED from R328, R331, R332). -/
def State.rxOff (s : State) (n : Nat) : State :=
  (s.wr (Reg.laneStat n) (putBits (putBit (s.rd (Reg.laneStat n)) 0 false) 4 3 0)).setLane n
    { s.lane n with rxFifo := [], rxOut := {} }

/-- LANE_STAT's TXIDLE and PLLOK follow; a transmitter that stops ends TXRDY, a lane that is off its receiver. -/
def State.laneRefresh (s : State) (n : Nat) : State :=
  let t := s.wr (Reg.laneStat n) (putBit (putBit (s.rd (Reg.laneStat n)) 2 (s.elecIdle n)) 6 (s.lanePllOk n))
  let t := if s.txStopped n then t.setLane n { t.lane n with ready := false } else t
  if s.laneUp n then t else t.rxOff n

/-- The lanes of a quad refreshed. -/
def State.quadRefresh (s : State) (q : Nat) : State := (List.range 4).foldl (fun t i => t.laneRefresh (4 * q + i)) s

/-- Every lane refreshed. -/
def State.lanesRefresh (s : State) : State := (List.range 64).foldl (fun t n => t.laneRefresh n) s

/-- The receiver loses lock without an error (R308, R309). -/
def State.cdrDrop (s : State) (n : Nat) : State := s.setBit (Reg.laneStat n) 0 false

/-! Last-good coefficients (R319). -/

/-- The last-good set is no longer valid. -/
def State.lgForget (s : State) (n : Nat) : State := s.setBit (Reg.laneLg n) 8 false

/-- The last-good set is loaded, or the calibration values. -/
def State.lgLoad (s : State) (n : Nat) : State :=
  let ok := s.bit (Reg.laneLg n) 8
  let t := s.setFld (Reg.laneRxeq n) 11 8 (if ok then s.fld (Reg.laneLg n) 3 0 else s.fld (Reg.laneRxeq n) 3 0)
  (List.range 3).foldl (fun t i => t.wr (Reg.laneDfe n i) (if ok then t.rd (Reg.laneLgdfe n i) else 0)) t

/-- The taps in use, as LANE_DFE reads them: zero with DFE_EN = 0 (R318, R332). -/
def State.dfeRead (s : State) (n i : Nat) : Word := if s.bit (Reg.laneRxeq n) 5 then s.rd (Reg.laneDfe n i) else 0

/-- The coefficients in use become the last-good set. -/
def State.lgSave (s : State) (n : Nat) : State :=
  let rise := !s.bit (Reg.laneLg n) 8
  let t := (s.setFld (Reg.laneLg n) 3 0 (s.fld (Reg.laneRxeq n) 11 8)).setBit (Reg.laneLg n) 8 true
  let t := (List.range 3).foldl (fun t i => t.wr (Reg.laneLgdfe n i) (t.dfeRead n i)) t
  if rise then t.laneStatus n 3 else t

/-! Eye windows (R316 to R319). -/

/-- A tap moved by one step and held in its range (R318, R332). -/
def tapStep (i : Nat) (v : Nat) (d : Nat) : Nat :=
  let lim : Int := if i = 0 then 127 else 31
  toField 8 (max (-lim) (min lim (signExtend 8 v + ((d : Int) - 1))))

/-- The adaptation's step (R318): with DFE_EN = 0 the taps stay off. -/
def State.adaptStep (s : State) (n : Nat) (e : EyeWindow) : State :=
  let c := s.fld (Reg.laneRxeq n) 11 8
  let t := s.setFld (Reg.laneRxeq n) 11 8 (min 15 (c + e.ctleStep.val - 1))
  if !s.bit (Reg.laneRxeq n) 5 then t
  else (List.range 12).foldl (fun t i =>
    let r := Reg.laneDfe n (i / 4)
    let lo := 8 * (i % 4)
    t.setFld r (lo + 7) lo (tapStep i (t.fld r (lo + 7) lo) ((e.tapSteps.getD i 1).val))) t

/-- LANE_EYE.REVHOLD and the count of windows left. -/
def State.setRevHold (s : State) (n k : Nat) : State :=
  (s.setLane n { s.lane n with revHold := k }).setBit (Reg.laneEye n) 27 (decide (k ≠ 0))

/-- A floor revert (R319). -/
def State.floorRevert (s : State) (n : Nat) : State :=
  let t := (s.lgLoad n).laneErr n 3
  let t := t.setFld (Reg.laneLg n) 23 16 (min 255 (t.fld (Reg.laneLg n) 23 16 + 1))
  t.setRevHold n (t.fld (Reg.laneAdapt n) 23 16)

/-- Is the window frozen (R317)? -/
def State.windowFrozen (s : State) (n : Nat) (e : EyeWindow) : Bool :=
  e.frozen || s.bit (Reg.laneStat n) 1 || !s.bit (Reg.laneStat n) 0 || s.bit (Reg.laneRxeq n) 6 ||
    (e.idleSet && (s.lanePcs n == 1 || s.lanePcs n == 2))

/-- Is the window qualified, when it is not frozen? -/
def State.windowQualified (s : State) (n : Nat) (e : EyeWindow) : Bool :=
  decide (s.fld (Reg.laneQual n) 6 0 ≤ e.density.val) && decide (e.density.val ≤ s.fld (Reg.laneQual n) 14 8) &&
    decide (s.fld (Reg.laneQual n) 27 16 ≤ e.leastPattern)

/-- The end of a window that is not frozen, with ADAPT = 1. -/
def State.adaptEnd (s : State) (n eye : Nat) (qual : Bool) (e : EyeWindow) : State :=
  let floor := s.fld (Reg.laneAdapt n) 7 0
  let good := max (s.fld (Reg.laneAdapt n) 15 8) (floor + 1)
  let hold := (s.lane n).revHold
  let t := if qual ∧ good ≤ eye then s.lgSave n else s
  if hold ≠ 0 then (if qual then t.setRevHold n (hold - 1) else t)
  else if floor ≠ 0 ∧ eye < floor then t.floorRevert n
  else if qual then t.adaptStep n e else t

/-- An eye window ends. -/
def State.eyeEnd (s : State) (n : Nat) (e : EyeWindow) : State :=
  let idle := e.idleSet && (s.lanePcs n == 1 || s.lanePcs n == 2)
  let w := s.rd (Reg.laneEye n)
  if s.windowFrozen n e then s.wr (Reg.laneEye n) (putBit (putBits w 25 24 2) 26 idle)
  else
    let eye := min e.hfig.val e.vfig.val
    let qual := s.windowQualified n e
    let v := putBits (putBits (putBits w 7 0 eye) 15 8 e.hfig.val) 23 16 e.vfig.val
    let t := s.wr (Reg.laneEye n) (putBits (putBit v 24 qual) 26 25 0)
    if s.bit (Reg.laneRxeq n) 4 then t.adaptEnd n eye qual e else t

/-- The meaning of EYE_WINDOW_END; a lane that is off measures nothing. -/
def execEyeWindowEnd (n : Fin 64) (e : EyeWindow) (s : State) : Host.Outcome State Fault Refusal :=
  .next (if s.laneUp n.val then s.eyeEnd n.val e else s)

/-! Registers of a lane (R306, R310, R318, R329). -/

/-- A LANE_TXEQ write (R310). -/
def State.txeqWrite (s : State) (n : Nat) (v : Word) : State :=
  let pre := getBits v 3 0
  let main := getBits v 9 4
  let post := getBits v 14 10
  if pre + main + post = 63 ∧ pre + post + 8 ≤ main then s.plainWrite (Reg.laneTxeq n) v else s.laneErr n 7

/-- A LANE_RXEQ write (R318, R319). -/
def State.rxeqWrite (s : State) (n : Nat) (v : Word) : State :=
  let t := s.plainWrite (Reg.laneRxeq n) v
  let t := if getBit v 7 then t.lgLoad n else t
  if getBit v 4 then t else t.setFld (Reg.laneRxeq n) 11 8 (getBits v 3 0)

/-- A LANE_DFE write: ignored with ADAPT = 1, clamped (R318, R332). -/
def State.dfeWrite (s : State) (n i : Nat) (v : Word) : State :=
  if s.bit (Reg.laneRxeq n) 4 then s
  else s.wr (Reg.laneDfe n i) ((List.range 4).foldl (fun a k =>
    putBits a (8 * k + 7) (8 * k) (tapStep (4 * i + k) (getBits v (8 * k + 7) (8 * k)) 1)) 0)

/-- A LANE_PRBS write (R329). -/
def State.prbsWrite (s : State) (n : Nat) (v : Word) : State :=
  let t := s.plainWrite (Reg.lanePrbs n) v
  let t := if getBits v 6 4 ≠ s.fld (Reg.lanePrbs n) 6 4 then t.setBit (Reg.lanePrbs n) 9 false else t
  if getBit v 8 then ((t.wr (Reg.laneCntErr n) 0).wr (Reg.laneCntBitsLo n) 0).wr (Reg.laneCntBitsHi n) 0 else t

/-- Quad calibration starts (R328). -/
def State.calStart (s : State) (q : Nat) : State :=
  if s.quadOwner q = 0 ∧ (List.range 4).all (fun i => let p := s.fld (Reg.laneCtl (4 * q + i)) 1 0; p == 0 || p == 3) then
    s.setBit (Reg.qstat q) 2 true
  else s

/-- A write of a quad register, at its offset 0x800 to 0x814. -/
def State.quadWrite (s : State) (q o : Nat) (v : Word) : State :=
  let t := s.plainWrite (0x100000 + 0x4000 * q + o) v
  let t := t.setBit (Reg.qstat q) 7 ([Reg.qplllCfg q, Reg.qplllFrac q, Reg.qpllhCfg q, Reg.qpllhFrac q, Reg.qctl q].any t.pends)
  if o = 0x810 ∧ getBit v 8 then t.calStart q else t

/-- Is offset `o` of a lane's block a register of R306? -/
def ownedReg (o : Nat) : Bool := decide (o < 0x1C) || o == 0x60 || decide (0x800 ≤ o)

/-- A write of a register of lane `n` at offset `o` (R306, R332). -/
def State.laneWrite (s : State) (n o : Nat) (v : Word) : State :=
  let off := 0x100000 + 0x1000 * n + o
  if 0x800 ≤ o ∧ n % 4 ≠ 0 then s
  else if ownedReg o && s.laneOwned n then s.laneErr n 10
  else if o = 0 then (s.plainWrite off v).laneRefresh n
  else if o = 4 then
    let t := s.plainWrite off v
    t.setBit (Reg.laneStat n) 5 (t.pends off)
  else if o = 8 then s.txeqWrite n v
  else if o = 0xC then s.rxeqWrite n v
  else if 0x10 ≤ o ∧ o < 0x1C then s.dfeWrite n ((o - 0x10) / 4) v
  else if o = 0x60 then s.prbsWrite n v
  else if 0x800 ≤ o then s.quadWrite (n / 4) o v
  else s.plainWrite off v

/-- The meaning of LANE_TXEQ_WRITE. -/
def execLaneTxeqWrite (_ag : Agent) (n : Fin 64) (v : Word) (s : State) : Host.Outcome State Fault Refusal :=
  .next (s.laneWrite n.val 8 v)

/-- The meaning of LANE_LOADLG: a LANE_RXEQ write that keeps its other fields. -/
def execLaneLoadlg (_ag : Agent) (n : Fin 64) (s : State) : Host.Outcome State Fault Refusal :=
  .next (s.laneWrite n.val 0xC (putBit (s.rd (Reg.laneRxeq n.val)) 7 true))

/-- The meaning of PRBS_CLEAR: a LANE_PRBS write that keeps its patterns. -/
def execPrbsClear (_ag : Agent) (n : Fin 64) (s : State) : Host.Outcome State Fault Refusal :=
  .next (s.laneWrite n.val 0x60 (putBit (s.rd (Reg.lanePrbs n.val)) 8 true))

/-- The meaning of QUAD_CAL_START: a QCTL write that keeps its other fields. -/
def execQuadCalStart (_ag : Agent) (q : Fin 16) (s : State) : Host.Outcome State Fault Refusal :=
  .next (s.laneWrite (4 * q.val) 0x810 (putBit (s.rd (Reg.qctl q.val)) 8 true))

/-! Calibration (R328, R217). -/

/-- Calibration ends; at boot the keeper waits for it no longer. -/
def State.calEnd (s : State) (q : Nat) (pass : Bool) : State :=
  if !s.bit (Reg.qstat q) 2 then s
  else
    let w := s.rd (Reg.qstat q)
    let t := s.setBoot { s.boot with calPend := s.boot.calPend &&& (2 ^ 16 - 1 - 2 ^ q) }
    let t := (List.range 4).foldl (fun t i => t.lgForget (4 * q + i)) t
    if pass then (t.wr (Reg.qstat q) (putBits (putBits w 4 2 2) 6 5 0)).quadRefresh q
    else
      let t := ((t.wr (Reg.qstat q) (putBit (putBits w 4 2 4) 5 true)).laneErr (4 * q) 9).quadRefresh q
      if s.boot.calPend.testBit q then t.journal 0x07 jFail 0 t.bootSource 0 q else t

/-- The meaning of QUAD_CAL_DONE. -/
def execQuadCalDone (q : Fin 16) (pass : Bool) (s : State) : Host.Outcome State Fault Refusal := .next (s.calEnd q.val pass)

/-- The meaning of QUAD_CAL_TIMEOUT. -/
def execQuadCalTimeout (q : Fin 16) (s : State) : Host.Outcome State Fault Refusal := .next (s.calEnd q.val false)

/-! Quad PLLs (R307, R308). -/

/-- The lanes of quad `q` that select PLL `h`. -/
def State.pllLanes (s : State) (q h : Nat) : List Nat := ((List.range 4).map (4 * q + ·)).filter (fun n => s.lanePll n == h)

/-- Does PLL `h` of quad `q` relock? -/
def State.pllRelocks (s : State) (q h : Nat) : Bool := Store.get (fun _ => false) s.qrelock (2 * q + h)

/-- The block with a PLL's relock set. -/
def State.setRelock (s : State) (q h : Nat) (b : Bool) : State :=
  { s with qrelock := Store.set (fun _ => false) s.qrelock (2 * q + h) b }

/-- A PLL is no longer locked: its lanes' transmitters idle, their receivers unlock. -/
def State.pllUnlock (s : State) (q h : Nat) : State :=
  let t := (s.setRelock q h true).setBit (Reg.qstat q) h false
  ((t.pllLanes q h).foldl (fun t n => t.cdrDrop n) t).quadRefresh q

/-- A change of a PLL's settings: none, glide or relock (R308). -/
def qpllGlides (cfg cfg' frac frac' : Word) (ssc ssc' : Bool) : Bool :=
  let f (c n : Word) : Nat := getBits c 13 4 * 2 ^ 24 + getBits n 23 0
  decide (cfg = cfg') && (ssc == ssc') &&
    decide (((f cfg frac : Int) - f cfg' frac').natAbs * 1000000 ≤ 2000 * f cfg frac)

/-- NI as a boundary applies it. -/
def clampNi (w : Word) : Word := if getBits w 13 4 < 16 then putBits w 13 4 16 else w

/-- A boundary applies a quad's pending fields together (R308). -/
def State.qpllApply (s : State) (q : Nat) (vals : List (Nat × Word)) : State :=
  let offs := [Reg.qplllCfg q, Reg.qplllFrac q, Reg.qpllhCfg q, Reg.qpllhFrac q, Reg.qctl q]
  if offs.all (fun o => (vals.lookup o).isNone) then s
  else
    let t := offs.foldl (fun t o =>
      let c := capturedOr vals s o
      t.commitRwb o c (if o = Reg.qplllCfg q ∨ o = Reg.qpllhCfg q then clampNi c else c)) s
    let t := [0, 1].foldl (fun t h =>
      let cfg := if h = 0 then Reg.qplllCfg q else Reg.qpllhCfg q
      let same := decide (s.liveRd cfg = t.liveRd cfg) && decide (s.liveRd (cfg + 4) = t.liveRd (cfg + 4)) &&
        (getBit (s.liveRd (Reg.qctl q)) (9 + h) == getBit (t.liveRd (Reg.qctl q)) (9 + h))
      if same || qpllGlides (s.liveRd cfg) (t.liveRd cfg) (s.liveRd (cfg + 4)) (t.liveRd (cfg + 4))
          (getBit (s.liveRd (Reg.qctl q)) (9 + h)) (getBit (t.liveRd (Reg.qctl q)) (9 + h)) then t
      else t.pllUnlock q h) t
    t.setBit (Reg.qstat q) 7 (offs.any t.pends)

/-- Is PLL `h` of quad `q` running? -/
def State.pllOn (s : State) (q h : Nat) : Bool :=
  s.lanePowered (4 * q) && !s.bit (Reg.qstat q) 5 && getBit (s.liveRd (if h = 0 then Reg.qplllCfg q else Reg.qpllhCfg q)) 15

/-- Does a PLL of a host port's quad run?  The port sets the quad's registers, to values the spec does not give
(R306; DESIGN CHOICE, assumption 62). -/
def State.pllHosted (s : State) (q h : Nat) : Bool :=
  (s.quadOwner q == 1 || s.quadOwner q == 2) && s.lanePowered (4 * q) && !s.bit (Reg.qstat q) 5 && !s.bit (Reg.qstat q) h

/-- Can a controller use the quad's lanes: powered, calibrated, a PLL locked (R18, R328)? -/
def State.quadReady (s : State) (q : Nat) : Bool :=
  s.lanePowered (4 * q) && s.bit (Reg.qstat q) 3 && !s.bit (Reg.qstat q) 5 && !s.blockGated q && (s.bit (Reg.qstat q) 0 || s.bit (Reg.qstat q) 1)

/-- The meaning of QPLL_LOCK. -/
def execQpllLock (q : Fin 16) (h : Fin 2) (s : State) : Host.Outcome State Fault Refusal :=
  .next (if (s.pllRelocks q.val h.val ∧ s.pllOn q.val h.val) ∨ s.pllHosted q.val h.val then
    ((s.setRelock q.val h.val false).setBit (Reg.qstat q.val) h.val true).quadRefresh q.val
  else s)

/-- The meaning of QPLL_LOSS_OF_LOCK. -/
def execQpllLossOfLock (q : Fin 16) (h : Fin 2) (s : State) : Host.Outcome State Fault Refusal :=
  .next (if s.bit (Reg.qstat q.val) h.val then
    (s.pllLanes q.val h.val).foldl (fun t n => t.laneErr n 0) (s.pllUnlock q.val h.val)
  else s)

/-- A boundary applies LANE_CFG (R309, R319, R320). -/
def State.laneCfgApply (s : State) (n : Nat) (vals : List (Nat × Word)) : State :=
  match vals.lookup (Reg.laneCfg n) with
  | none => s
  | some v =>
    let old := s.liveRd (Reg.laneCfg n)
    let ok := laneCfgLegal v
    let t := s.commitRwb (Reg.laneCfg n) v (if ok then v else old)
    let t := t.setBit (Reg.laneStat n) 5 (t.pends (Reg.laneCfg n))
    if !ok then t.laneErr n 6
    else
      let rate := decide (getBits v 3 0 ≠ getBits old 3 0)
      let t := if rate then (t.cdrDrop n).setLane n { t.lane n with ready := false } else t
      let t := if rate ∨ getBits v 6 4 ≠ getBits old 6 4 then t.lgForget n else t
      t.laneRefresh n

/-! Transmitter and receiver events. -/

/-- The raw words of the wake burst: K28.5 under the running disparity in 8B10B, else groups of 1010101010, sent
first bit first (R312).  The burst's 64 symbols leave the disparity as it was. -/
def State.burstRaw (s : State) (n : Nat) : Nat :=
  let w := s.laneWidth n
  if s.lanePcs n = 1 then
    let y := encSym (s.lane n).txRd true 0xBC
    let z := encSym (!(s.lane n).txRd) true 0xBC
    ((List.range (w / 20)).map (fun i => (y + 1024 * z) * 2 ^ (20 * i))).sum
  else ((List.range (w / 2)).map (fun i => 2 ^ (2 * i))).sum

/-- Data as TXPOL has it leave (R310). -/
def State.txPol (s : State) (n v : Nat) : Nat :=
  let w := s.laneWidth n
  if s.bit (Reg.laneCtl n) 2 then 2 ^ w - 1 - v % 2 ^ w else v

/-- The meaning of LANE_WAKE_BURST_END (R312). -/
def execLaneWakeBurstEnd (n : Fin 64) (s : State) : Host.Outcome State Fault Refusal :=
  let t := s.laneRefresh n.val
  .next (if t.txStopped n.val ∨ (t.lane n.val).ready then t
    else t.setLane n.val { t.lane n.val with ready := true, txRaw := t.txPol n.val (t.burstRaw n.val) })

/-- The meaning of CDR_LOCK_ACQUIRED (R314). -/
def execCdrLockAcquired (n : Fin 64) (s : State) : Host.Outcome State Fault Refusal :=
  .next (if s.laneUp n.val ∧ s.lanePllOk n.val ∧ !s.bit (Reg.laneStat n.val) 0 then
    (s.setBit (Reg.laneStat n.val) 0 true).laneStatus n.val 0
  else s)

/-- The meaning of CDR_LOCK_LOST (R314). -/
def execCdrLockLost (n : Fin 64) (s : State) : Host.Outcome State Fault Refusal :=
  .next (if s.bit (Reg.laneStat n.val) 0 then (s.cdrDrop n.val).laneErr n.val 0 else s)

/-- The meaning of RXIDLE_CHANGE (R315). -/
def execRxidleChange (n : Fin 64) (idle : Bool) (s : State) : Host.Outcome State Fault Refusal :=
  .next (if s.bit (Reg.laneStat n.val) 1 = idle then s else (s.setBit (Reg.laneStat n.val) 1 idle).laneStatus n.val 2)

/-- The meaning of COMMA_ALIGN (R322). -/
def execCommaAlign (n : Fin 64) (s : State) : Host.Outcome State Fault Refusal :=
  .next (if s.lanePcs n.val = 1 ∧ s.liveFld (Reg.laneCfg n.val) 11 10 ≠ 0 ∧ s.bit (Reg.laneStat n.val) 0 then
    let rise := !s.bit (Reg.laneStat n.val) 3
    let t := (s.setLane n.val { s.lane n.val with newAlign := true }).setBit (Reg.laneStat n.val) 3 true
    if rise then t.laneStatus n.val 1 else t
  else s)

/-- The meaning of ALIGN_LOST (R322). -/
def execAlignLost (n : Fin 64) (s : State) : Host.Outcome State Fault Refusal :=
  .next (if s.bit (Reg.laneStat n.val) 3 then s.setBit (Reg.laneStat n.val) 3 false else s)

/-- The meaning of BLOCK_LOCK_ACQUIRED (R323). -/
def execBlockLockAcquired (n : Fin 64) (s : State) : Host.Outcome State Fault Refusal :=
  .next (if 2 ≤ s.lanePcs n.val ∧ s.bit (Reg.laneStat n.val) 0 ∧ !s.bit (Reg.laneStat n.val) 4 then
    (s.setBit (Reg.laneStat n.val) 4 true).laneStatus n.val 1
  else s)

/-- The meaning of BLOCK_LOCK_LOST (R323). -/
def execBlockLockLost (n : Fin 64) (s : State) : Host.Outcome State Fault Refusal :=
  .next (if s.bit (Reg.laneStat n.val) 4 then (s.setBit (Reg.laneStat n.val) 4 false).laneErr n.val 11 else s)

/-- A phase FIFO faults: it re-centres, losing up to four words (R325). -/
def State.fifoFault (s : State) (n : Nat) (tx : Bool) : State :=
  if tx then s.laneErr n 4
  else (s.setLane n { s.lane n with rxFifo := (s.lane n).rxFifo.drop 4 }).laneErr n 5

/-- The meaning of PHASE_FIFO_FAULT. -/
def execPhaseFifoFault (n : Fin 64) (tx : Bool) (s : State) : Host.Outcome State Fault Refusal := .next (s.fifoFault n.val tx)

/-- The meaning of PRBS_CHECKER_LOCK (R329). -/
def execPrbsCheckerLock (n : Fin 64) (s : State) : Host.Outcome State Fault Refusal :=
  let p := s.fld (Reg.lanePrbs n.val) 6 4
  .next (if 1 ≤ p ∧ p ≤ 6 ∧ s.bit (Reg.laneStat n.val) 0 then s.setBit (Reg.lanePrbs n.val) 9 true else s)

/-! A received word (R321, R323, R329). -/

/-- The byte lanes of a word of 8b/10b symbols from lane `i` on: data, K, RXCERR, RXDERR, disparity. -/
def decWord : Nat → Nat → Nat → Bool → Nat × Nat × Nat × Nat × Bool
  | 0, _, _, rd => (0, 0, 0, 0, rd)
  | m + 1, v, i, rd =>
    let (b, k, ce, de, rd') := decSym rd (v % 1024)
    let (d, ks, cs, ds, r) := decWord m (v / 1024) (i + 1) rd'
    (b + 256 * d, k.toNat + 2 * ks, ce.toNat + 2 * cs, de.toNat + 2 * ds, r)

/-- LANE_CNT_ERR counts `k` more errors and stops at its largest value. -/
def State.countErr (s : State) (n k : Nat) : State :=
  s.wr (Reg.laneCntErr n) (BitVec.ofNat 32 (min 0xFFFFFFFF ((s.rd (Reg.laneCntErr n)).toNat + k)))

/-- `laneErr` under a condition. -/
def State.laneErrIf (s : State) (c : Bool) (n i : Nat) : State := if c then s.laneErr n i else s

/-- Is a sync header valid in a gearbox mode (R323)? -/
def headerOk (pcs : Nat) (h : BitVec 4) : Bool :=
  if pcs = 4 then Config.gb132Header h else h.toNat % 4 == 1 || h.toNat % 4 == 2

/-- The pattern checker compares a word's bits (R329). -/
def State.prbsCheck (s : State) (n width raw : Nat) : State :=
  let p := s.fld (Reg.lanePrbs n) 6 4
  if p = 0 ∨ p = 7 then s
  else if !s.bit (Reg.lanePrbs n) 9 then s.setLane n { s.lane n with prbsRx := bitsInto width raw (s.lane n).prbsRx }
  else
    let r := prbsRun p width (s.lane n).prbsRx
    let bad := ones width (r.1 ^^^ raw % 2 ^ width)
    let bits := (s.rd (Reg.laneCntBitsHi n)).toNat * 2 ^ 32 + (s.rd (Reg.laneCntBitsLo n)).toNat + width
    let t := (s.setLane n { s.lane n with prbsRx := r.2 }).countErr n bad
    ((t.wr (Reg.laneCntBitsLo n) (BitVec.ofNat 32 bits)).wr (Reg.laneCntBitsHi n) (BitVec.ofNat 32 (bits / 2 ^ 32))).laneErrIf
      (decide (0 < bad)) n 8

/-- The decoded word, with the disparity and the descrambler's state after it. -/
def State.rxDecode (s : State) (n raw : Nat) (w : LaneRx) : RxOut × LaneSt :=
  let l := s.lane n
  match s.lanePcs n with
  | 0 => ({ d := raw % 2 ^ s.laneWidth n, valid := true }, l)
  | 1 =>
    let m := s.laneWidth n / 10
    let (d, k, ce, de, rd) := decWord m raw 0 l.rxRd
    ({ d := d, k := k, cerr := if l.newAlign then 2 ^ m - 1 else ce, derr := de, valid := true },
      { l with rxRd := rd, newAlign := false })
  | p =>
    let v := raw % 2 ^ 64
    let r := if p = 2 ∧ s.laneScr n then descramble 64 v l.scrRx else (v, l.scrRx)
    ({ d := r.1, hdr := if w.sob then w.hdr.toNat else 0, sob := w.sob, valid := true }, { l with scrRx := r.2 })

/-- The raw word the receiver takes (R329): loopback 1 the transmit PCS's, past both polarities, loopback 2 the
transmitter's, else the line's; RXPOL inverts what comes through the PMA (R310). -/
def State.rxRaw (s : State) (n : Nat) (w : LaneRx) : Nat :=
  let width := s.laneWidth n
  let own := (s.lane n).txRaw
  let loop := s.fld (Reg.laneCtl n) 6 4
  if loop = 1 then s.txPol n own
  else
    let line := if loop = 2 then own else w.raw.toNat
    if s.bit (Reg.laneCtl n) 3 then 2 ^ width - 1 - line % 2 ^ width else line % 2 ^ width

/-- A parallel word is received; loopback 3 sends the line's word again. -/
def State.rxWord (s : State) (n : Nat) (w : LaneRx) : State :=
  let loop := s.fld (Reg.laneCtl n) 6 4
  let w := if loop = 1 ∨ loop = 2 then { w with hdr := BitVec.ofNat 4 (s.lane n).txHdr } else w
  let raw := s.rxRaw n w
  let t := s.prbsCheck n (s.laneWidth n) raw
  let pcs := s.lanePcs n
  let (o, l) := t.rxDecode n raw w
  let l := if loop = 3 then { l with txRaw := w.raw.toNat % 2 ^ s.laneWidth n } else l
  let full8 := decide (8 ≤ l.rxFifo.length)
  let q := if full8 then l.rxFifo.drop 4 else l.rxFifo
  let t := t.setLane n { l with rxFifo := q ++ [o] }
  let t := t.laneErrIf full8 n 5
  let t := t.countErr n (if pcs = 1 then ones 8 (o.cerr ||| o.derr) else if 2 ≤ pcs ∧ w.sob ∧ !headerOk pcs w.hdr then 1 else 0)
  (t.laneErrIf (decide (o.cerr ≠ 0)) n 1).laneErrIf (decide (o.derr ≠ 0)) n 2

/-- The meaning of LANE_RX_WORD: while CDR_LOCK is 0 no word is valid (R314), and the clock of a gated quad's PCS
stands (R138). -/
def execLaneRxWord (n : Fin 64) (w : LaneRx) (s : State) : Host.Outcome State Fault Refusal :=
  .next (if s.bit (Reg.laneStat n.val) 0 ∧ !s.blockGated (n.val / 4) then s.rxWord n.val w else s)

/-! The fabric side at an edge of a stake net (R325, R330). -/

/-- The TX cycles of a gearbox: its period and the cycles in it that take no word (R323). -/
def gearPeriod (pcs : Nat) : Nat := match pcs with | 2 => 33 | 3 => 65 | 4 => 66 | _ => 1
def gearGap (pcs cyc : Nat) : Bool :=
  match pcs with
  | 2 => cyc % 33 == 32
  | 3 => cyc % 65 == 64
  | 4 => decide (64 ≤ cyc % 66)
  | _ => false

/-- TXRDY at this edge (R312, R323, R329). -/
def State.txReady (s : State) (n : Nat) : Bool :=
  (s.lane n).ready && s.fld (Reg.laneCtl n) 6 4 != 3 && (s.fld (Reg.lanePrbs n) 2 0 == 0 || s.fld (Reg.lanePrbs n) 2 0 == 7) &&
    !gearGap (s.lanePcs n) (s.lane n).txCyc

/-- The symbols of a word's byte lanes, and the disparity after them. -/
def encWord : Nat → Nat → Nat → Bool → Nat × Bool
  | 0, _, _, rd => (0, rd)
  | m + 1, d, k, rd =>
    let y := encSym rd (k % 2 == 1) (d % 256)
    let r := encWord m (d / 256) (k / 2) (rdAfter rd y)
    (y + 1024 * r.1, r.2)

/-- TXSOB at this edge: the word is the first of its block; a block takes one word in GB66, two in GB130 and GB132
(R320, R323). -/
def State.txSob (s : State) (n : Nat) : Bool :=
  s.txReady n && (s.lanePcs n == 2 || (decide (3 ≤ s.lanePcs n) && (s.lane n).txCyc % 2 == 0))

/-- The raw word of fabric data. -/
def State.txEncode (s : State) (n : Nat) (p : LanePins) : LaneSt :=
  let l := s.lane n
  let w := s.laneWidth n
  match s.lanePcs n with
  | 0 => { l with txRaw := s.txPol n (p.txd.toNat % 2 ^ w) }
  | 1 =>
    let r := encWord (w / 10) p.txd.toNat p.txk.toNat l.txRd
    { l with txRaw := s.txPol n r.1, txRd := r.2 }
  | q =>
    let v := p.txd.toNat % 2 ^ 64
    let r := if q = 2 ∧ s.laneScr n then scramble 64 v l.scrTx 0 else (v, l.scrTx)
    { l with txRaw := s.txPol n r.1, scrTx := r.2, txHdr := if s.txSob n then p.txhdr.toNat else l.txHdr }

/-- The transmit side at an edge of its stake net: a bond hold repeats the last word, TXIDLE_F is sampled. -/
def State.txEdge (s : State) (n : Nat) (p : LanePins) : State :=
  let pat := s.fld (Reg.lanePrbs n) 2 0
  if s.bondHold (96 + n / 4) then s
  else
    let s := (s.setLane n { s.lane n with idleF := p.txidle }).laneRefresh n
    let next (l : LaneSt) : LaneSt := { l with txCyc := (l.txCyc + 1) % gearPeriod (s.lanePcs n) }
    if !(s.lane n).ready ∨ s.fld (Reg.laneCtl n) 6 4 = 3 then s
    else if 1 ≤ pat ∧ pat ≤ 6 then
      let r := prbsRun pat (s.laneWidth n) (s.lane n).prbsTx
      s.setLane n (next { s.lane n with txRaw := s.txPol n r.1, prbsTx := r.2 })
    else if s.txReady n then s.setLane n (next (s.txEncode n p))
    else s.setLane n (next (s.lane n))

/-- The receive side at an edge of its stake net: the next word of the phase FIFO is presented. -/
def State.rxEdge (s : State) (n : Nat) : State :=
  let l := s.lane n
  match l.rxFifo with
  | [] => s.setLane n { l with rxOut := {} }
  | o :: q => s.setLane n { l with rxFifo := q, rxOut := if s.bit (Reg.laneStat n) 0 then o else {} }

/-- No pin of a lane is driven. -/
def lowLane : LanePins := ⟨0, 0, 0, false⟩

/-- The four lanes of band-wythe `k` at a rising edge of stake net `net` of its bay column 0; an owned
quad takes nothing from the fabric (R306), and a gated one nothing before its gate opens (R139). -/
def State.lanesEdge (s : State) (k net : Nat) (p : EdgePins) : State :=
  if s.quadOwner k ≠ 0 ∨ !s.outputsOn k ∨ s.blockGated k then s
  else
    (List.range 4).foldl (fun t i =>
      let n := 4 * k + i
      let t := if s.txClk n = net + 1 then t.txEdge n ((p.lanes.lookup n).getD lowLane) else t
      if s.rxClk n = net + 1 then t.rxEdge n else t) s

/-- A lane's outputs toward the fabric (R325): RXD in 0 to 79, RXK from 80, RXCERR from 88, RXDERR from 96, RXHDR
from 104, RXVALID at 108, RXSOB, RXIDLE, RXLOCK, RXALIGN, TXRDY, TXSOB at 114.  An owned lane's read 0 (R306), and
so do all before the outputs of the edge columns are first enabled; a bond hold clamps the RX side (R330); a side
without a clock stays low. -/
def State.laneOut (s : State) (n b : Nat) : Bool :=
  let st := s.rd (Reg.laneStat n)
  let o := (s.lane n).rxOut
  if s.laneOwned n || !s.outputsOn (n / 4) then false
  else if b = 113 then s.txClk n != 0 && s.txReady n
  else if b = 114 then s.txClk n != 0 && s.txSob n
  else if s.rxClk n = 0 || s.bondHold (96 + n / 4) then false
  else if b = 110 then getBit st 1
  else if b = 111 then getBit st 0
  else if b = 112 then getBit st 3 || getBit st 4
  else if !getBit st 0 then false
  else if b < 80 then o.d.testBit b
  else if b < 88 then o.k.testBit (b - 80)
  else if b < 96 then o.cerr.testBit (b - 88)
  else if b < 104 then o.derr.testBit (b - 96)
  else if b < 108 then o.hdr.testBit (b - 104)
  else if b = 108 then o.valid
  else b == 109 && o.sob

end Sys2Proof.Machine
end

