-- ==== Sys2Proof/Machine/HostPorts.lean ====
section
/-! DEFINITION. Host ports, semaphores and mailboxes (R363 to R382, R410). -/
namespace Sys2Proof.Machine

/-! Links (R364 to R366, R376). -/

/-- Does the mode let the endpoint work (R365)? -/
def State.pcieModes (s : State) : Bool :=
  decide (4 ≤ s.mode) && decide (s.mode ≤ 8) || (s.mode == 0xB && !s.hubClosed)

/-- The open stream transfer of a port is cut off (R366, R370). -/
def State.portStreamCut (s : State) (p : Fin 2) : State :=
  if s.engSource = some (2 + p.val) then s.deliver .sourceEnd else s

/-- The link leaves DL_Active (R364, R370, R376). -/
def State.pcieDown (s : State) (p : Fin 2) : State :=
  let h := s.port p
  if !h.linkUp then s
  else
    let t := s.setPort p { h with linkUp := false }
    let t := t.wr (Reg.hpStat p.val) (putBits (t.rd (Reg.hpStat p.val)) 8 0 0)
    let t := t.portEvent p 1
    let t := if (s.mode = 6 ∨ s.mode = 7 ∨ s.mode = 8) ∧ !s.pwr.drained then t.semAutoRelease (0x20 + p.val) else t
    t.portStreamCut p

/-- The endpoint's configuration space returns to its reset values, and the PBA clears (R366, R410). -/
def State.epReset (s : State) (p : Fin 2) : State :=
  let t := s.setPort p { s.port p with cfg := ⟨false, false, false⟩, pba := 0 }
  t.setFld (Reg.hpStat p.val) 8 6 0

/-- A Function Level Reset (R366, R376). -/
def State.pcieFlr (s : State) (p : Fin 2) : State :=
  if !(s.port p).linkUp then s
  else ((s.epReset p).semAutoRelease (0x20 + p.val)).portStreamCut p

/-- The meaning of PCIE_LINK_UP: the negotiated generation and width keep to MAXGEN and MAXW (R366), and the quads
of the link's lanes are available (R18). -/
def execPcieLinkUp (port : Fin 2) (gen : BitVec 3) (width : BitVec 2) (s : State) : Host.Outcome State Fault Refusal :=
  let c := s.rd (Reg.hpCtl port.val)
  let maxg := if 1 ≤ getBits c 3 1 ∧ getBits c 3 1 ≤ 5 then getBits c 3 1 else 5
  .next (if getBit c 0 ∧ s.pcieModes ∧ !s.blockGated (54 + port.val) ∧ !(s.port port).linkUp ∧ 1 ≤ gen.toNat ∧ gen.toNat ≤ maxg ∧
      width.toNat ≤ getBits c 5 4 ∧ (portQuads port.val width.toNat).all s.quadReady then
    let t := s.setPort port { s.port port with linkUp := true }
    let w := t.rd (Reg.hpStat port.val)
    let t := t.wr (Reg.hpStat port.val) (putBits (putBits (putBit w 0 true) 3 1 gen.toNat) 5 4 width.toNat)
    (t.portEvent port 0).msixFlush port
  else s)

/-- The meaning of PCIE_LINK_DOWN. -/
def execPcieLinkDown (port : Fin 2) (s : State) : Host.Outcome State Fault Refusal := .next (s.pcieDown port)

/-- The meaning of PCIE_FLR. -/
def execPcieFlr (port : Fin 2) (s : State) : Host.Outcome State Fault Refusal := .next (s.pcieFlr port)

/-- The meaning of PCIE_HOT_RESET: it acts as a Function Level Reset. -/
def execPcieHotReset (port : Fin 2) (s : State) : Host.Outcome State Fault Refusal := .next (s.pcieFlr port)

/-- The meaning of PCIE_PERST: the endpoint is reset, and with it its link and its MSI-X table. -/
def execPciePerst (port : Fin 2) (s : State) : Host.Outcome State Fault Refusal :=
  let t := (s.pcieDown port).epReset port
  .next (t.setPort port { t.port port with msixTable := [], pba := 0 })

/-- The meaning of PCIE_POWER_STATE_CHANGE (R366, R382, R410). -/
def execPciePowerStateChange (port : Fin 2) (d3hot l1 : Bool) (cfg : EndpointCfg) (s : State) :
    Host.Outcome State Fault Refusal :=
  .next (if !(s.port port).linkUp then s
    else
      let old := s.rd (Reg.hpStat port.val)
      let new := putBit (putBits old 7 6 (if d3hot then 3 else 0)) 8 l1
      let t := (s.wr (Reg.hpStat port.val) new).setPort port { s.port port with cfg := cfg }
      let t := if old = new then t else t.portEvent port 4
      t.msixFlush port)

/-- A write of HPx_CTL (R363, R376, R381). -/
def State.hpCtlWrite (s : State) (ag : Agent) (p : Fin 2) (v : Word) : State :=
  let old := s.bit (Reg.hpCtl p.val) 0
  let t := s.plainWrite (Reg.hpCtl p.val) v
  let t := if old && !getBit v 0 then t.pcieDown p else t
  let t := if p.val = 0 then (t.quadRefresh 0).quadRefresh 1 else (t.quadRefresh 14).quadRefresh 15
  let other : Bool := match ag with
    | .core _ => true
    | .hostPcie q => q != p
    | .hostSpi q => q != p
    | _ => false
  if getBit v 7 ∧ other then t.semAutoRelease (0x22 + p.val) else t

/-- The meaning of HP_SPIREL. -/
def execHpSpirel (ag : Agent) (port : Fin 2) (s : State) : Host.Outcome State Fault Refusal :=
  .next (s.hpCtlWrite ag port (putBit (s.rd (Reg.hpCtl port.val)) 7 true))

/-! The stream window (R369, R370). -/

/-- Words for the window: the SPI buffer holds 1,024, and words that overflow it are lost. -/
def State.windowWrite (s : State) (p : Fin 2) (spi : Bool) (ws : List Word) : State :=
  let h := s.port p
  if ws = [] then s
  else if s.engSource ≠ some (2 + p.val) ∨ h.ended then s.unopened
  else
    let ws := if spi then ws.take (1024 - h.window.length) else ws
    ({ s.setPort p { h with window := h.window ++ ws } with eng := { s.eng with arrived := true } }).spentEnd (2 + p.val)

/-- Does the agent come through the port? -/
def viaPort (ag : Agent) (p : Fin 2) : Bool :=
  match ag with
  | .hostPcie q => q == p
  | .hostSpi q => q == p
  | _ => false

/-- A write of HPx_SEND (R370): END takes effect after every earlier word of the window. -/
def State.hpSend (s : State) (ag : Agent) (p : Fin 2) (v : Word) : State :=
  if getBits v 31 16 ≠ 0xE5D0 ∨ !getBit v 0 ∨ !viaPort ag p ∨ s.engSource ≠ some (2 + p.val) then s
  else (s.setPort p { s.port p with ended := true }).spentEnd (2 + p.val)

/-- The meaning of HP_SEND_END. -/
def execHpSendEnd (ag : Agent) (port : Fin 2) (v : Word) (s : State) : Host.Outcome State Fault Refusal :=
  .next (s.hpSend ag port v)

/-- A read of HPx_SRET removes the head of the return queue (R370, R381). -/
def State.sretRead (s : State) (p : Fin 2) : Word × State :=
  let h := s.port p
  match h.retQueue with
  | [] => (0, s)
  | w :: ws =>
    let t := (s.setPort p { h with retQueue := ws }).wr (Reg.hpSrcnt p.val) (BitVec.ofNat 32 ws.length)
    if s.engSource = some (2 + p.val) then
      let u := t.refillReturn p
      (w, if u.stalled then u else u.engineResume)
    else (w, t)

/-- The meaning of HP_SRET_READ. -/
def execHpSretRead (ag : Agent) (port : Fin 2) (s : State) : Host.Outcome State Fault Refusal :=
  let r := s.sretRead port
  .next (r.2.emit (.read ag [r.1]))

/-! Service SPI (R371, R372). -/

/-- The status word of a STATUS frame. -/
def State.spiStatus (s : State) (p : Fin 2) : Word :=
  let h := s.port p
  BitVec.ofNat 32 (h.linkUp.toNat + 2 * h.spiFrameErr.toNat + 4 * h.spiDiscard.toNat +
    256 * ((1024 - h.window.length) / 16))

/-- A STATUS frame is answered, and reading it clears bits 1 and 2. -/
def State.spiAnswer (s : State) (p : Fin 2) : State :=
  (s.setPort p { s.port p with spiFrameErr := false, spiDiscard := false }).emit (.read (.hostSpi p) [s.spiStatus p])

/-- A frame error (R372). -/
def State.spiError (s : State) (p : Fin 2) : State :=
  ((s.setPort p { s.port p with spiFrameErr := true }).setBit (Reg.hpStat p.val) 11 true).portEvent p 5

/-- The meaning of SPI_FRAME_ERROR. -/
def execSpiFrameError (port : Fin 2) (s : State) : Host.Outcome State Fault Refusal := .next (s.spiError port)

/-! Semaphores (R374 to R379). -/

/-- A write of SEMn (R374, R378): records held for the flash are written when SEM1 becomes free (R225). -/
def State.semWrite (s : State) (ag : Agent) (n : Nat) (v : Word) : State :=
  if getBit v 31 then
    if s.holds ag n then (let t := s.semFree n; if n = 1 then t.journalFlush else t)
    else s.discard ag 0 (Reg.sem n)
  else if getBit v 30 then
    if s.semOwner n = 0 then s.setFld (Reg.sem n) 15 0 (agentIdent ag)
    else if s.holds ag n then s
    else s.setBit (Reg.sem n) 16 true
  else s

/-- The meaning of SEM_ACQUIRE. -/
def execSemAcquire (ag : Agent) (n : Fin 64) (s : State) : Host.Outcome State Fault Refusal :=
  .next (s.semWrite ag n.val 0x40000000#32)

/-- The meaning of SEM_RELEASE. -/
def execSemRelease (ag : Agent) (n : Fin 64) (s : State) : Host.Outcome State Fault Refusal :=
  .next (s.semWrite ag n.val 0x80000000#32)

/-- A write of SEM_FORCE (R377). -/
def State.semForce (s : State) (ag : Agent) (v : Word) : State :=
  if getBits v 31 16 ≠ 0xC35A then s
  else
    let n := getBits v 5 0
    let t := (s.wr Reg.semFrclog (BitVec.ofNat 32 (agentIdent ag + 2 ^ 16 * n))).raise 378
    if t.semOwner n = 0 then t else (let u := t.semFree n; if n = 1 then u.journalFlush else u)

/-- The meaning of SEM_FORCE. -/
def execSemForce (ag : Agent) (v : Word) (s : State) : Host.Outcome State Fault Refusal := .next (s.semForce ag v)

/-! Mailboxes (R380). -/

/-- A write of MBm_CTL: a ring wins over an ACK in the same write. -/
def State.mailCtl (s : State) (ag : Agent) (m : Nat) (v : Word) : State :=
  let t := s.plainWrite (Reg.mbCtl m) v
  if getBit v 0 then
    ((t.setBit (Reg.mbCtl m) 2 true).setFld (Reg.mbCtl m) 31 16 (agentIdent ag)).raise (360 + m)
  else if getBit v 1 then t.setBit (Reg.mbCtl m) 2 false
  else t

/-- A write of a mailbox data word. -/
def State.mailData (s : State) (m i : Nat) (v : Word) : State :=
  if s.bit (Reg.mbCtl m) 2 then (s.setBit (Reg.mbCtl m) 3 true).raise 379 else s.wr (Reg.mbData m i) v

/-- The meaning of MB_RING. -/
def execMbRing (ag : Agent) (m : Fin 16) (s : State) : Host.Outcome State Fault Refusal := .next (s.mailCtl ag m.val 1#32)

/-- The meaning of MB_ACK. -/
def execMbAck (ag : Agent) (m : Fin 16) (s : State) : Host.Outcome State Fault Refusal := .next (s.mailCtl ag m.val 2#32)

/-- The meaning of MB_DATA_WRITE. -/
def execMbDataWrite (_ag : Agent) (m : Fin 16) (i : Fin 8) (v : Word) (s : State) : Host.Outcome State Fault Refusal :=
  .next (s.mailData m.val i.val v)

end Sys2Proof.Machine
end

