-- ==== Sys2Proof/Machine/Domains.lean ====
section
/-! DEFINITION. Power domains that switch off, entry to SAFE HOLD with its state, trips and regulator
faults, and what a restart of the keeper keeps (R10, R25, R27, R28, R412 to R415, R431, R461). -/
namespace Sys2Proof.Machine

/-- The units of a wythe. -/
def wytheUnits (w : Nat) : List Nat := (List.range 48).map (48 * w + ·) ++ (List.range 8).map (96 + 8 * w + ·)

/-- The bay in which a stage of a bridge register stands (R67). -/
def bridgeBay (i : Nat) : Nat :=
  let b := bridgeBays (i / 180 / 8) (i / 180 % 8)
  if i % 3 = 0 then b.1 else b.2

/-- The bay a creel array stands in. -/
def arrayBay (a : Nat) : Nat := if a < 11520 then a / 120 else (a - 11520) / 4

/-- A wythe's fabric state is lost, and its creel arrays with it. -/
def FabState.without (f : FabState) (w : Nat) : FabState :=
  let keep (bay : Nat) : Bool := decide (bay / 48 ≠ w)
  { f with
    ffs := f.ffs.filter (fun e => keep (e.1 / (112 * 60 * 32)))
    gateShut := f.gateShut.filter (fun e => keep (e.1 / 24))
    netHigh := f.netHigh.filter (fun e => keep (e.1 / 24))
    bridges := f.bridges.filter (fun e => keep (bridgeBay e.1))
    arrays := f.arrays.filter (fun e => keep (arrayBay (e.1 / 1024)))
    creels := f.creels.filter (fun e => keep (e.1 / 120))
    slices := f.slices.filter (fun e => keep (e.1 / 120)) }

/-- A wythe's core switches off: both planes and the fabric lose their content, every bay returns to its
holds (R65, R412, R415). -/
def State.wytheOff (s : State) (w : Nat) : State :=
  let t := s.setRail (2 + w) false
  let t := (wytheUnits w).foldl (fun t u =>
    let t := ((t.clearLatch u 0).clearLatch u 1).setBond u true
    if u < 96 then t.setInit u true else t.setOut (u - 96) false) t
  { t with fab := t.fab.without w }

/-- Lane rails switch off: the PLLs of the quads without power lose their lock. -/
def State.lanesOff (s : State) (rs : List Nat) : State :=
  let t := (s.setRails rs false).lanesRefresh
  (List.range 16).foldl (fun t q => if t.lanePowered (4 * q) then t else (t.pllUnlock q 0).pllUnlock q 1) t

/-- The hamper loses its power, and its content (R395, R412). -/
def State.hampOff (s : State) : State := ((s.setRails [8, 7] false).setFld Reg.hampStat 1 0 2).hampScramble

/-- The faulted rail and the domain it feeds switch off (R413). -/
def State.railOff (s : State) (r : Nat) : State :=
  if r = 2 ∨ r = 3 then s.wytheOff (r - 2)
  else if 4 ≤ r ∧ r ≤ 6 then s.lanesOff [r]
  else if r = 7 ∨ r = 8 then s.hampOff
  else if 10 ≤ r then (s.setRail r false).setBoot { s.boot with repower := s.boot.repower.filter (· != r - 10) }
  else if r = 9 then (s.setRail 9 false).flashAbandon
  else s.setRail r false

/-- What SAFE HOLD's cause switches off, in reverse order (R27, R414); `r` is the faulted rail. -/
def State.domainsOff (s : State) (cause r : Nat) : State :=
  match cause with
  | 6 => ((((s.setRails bankRails false).setBoot { s.boot with repower := [] }).lanesOff [6, 5, 4]).wytheOff 1).wytheOff 0
  | 7 => s.railOff r
  | 1 => s
  | 5 => s
  | _ => (s.wytheOff 1).wytheOff 0

/-- Level and mode requests, ramps back and wakes in progress are given up. -/
def PwrSt.dropped (p : PwrSt) : PwrSt :=
  { p with asked := none, plan := none, breach := none, waiting := 0, entering := 0, drained := false,
           undoze := false, waking := false, reload := 0 }

/-- Every bay in bond hold and INIT hold, every output off. -/
def State.fabricHeld (s : State) : State :=
  let t := (List.range 96).foldl (fun t b => t.bayInit b) (s.bondStart allUnits)
  (List.range 16).foldl (fun t k => t.setOut k false) t

/-- Entry to SAFE HOLD with the state its cause holds: only the bays that cause 0x05 leaves live run on (R19, R27,
R28, R365). -/
def State.enterSafe (s : State) (cause r : Nat) : State :=
  let t := s.domainsOff cause r
  let t := if cause = 5 then t else t.fabricHeld
  let t := t.safeHold cause
  let t := { t with pwr := t.pwr.dropped }
  let t := (t.setFld Reg.pwrStat 10 8 0)
  if cause = 1 ∨ cause = 5 then t else (t.pcieDown 0).pcieDown 1

/-- A critical thermal trip (cause 6) or a fault of rail `r` (cause 7) in each mode (R25). -/
def State.trip (s : State) (cause r : Nat) : State :=
  match s.mode with
  | 0x1 => if cause = 7 then s.railOff r else s
  | 0xA => if cause = 7 then s.railOff r else s
  | 0xC => ((s.domainsOff cause r).setFld Reg.sysMode 23 16 cause)
  | 0xB =>
    if s.safeCause = 1 ∨ s.safeCause = 5 ∨ s.safeCause = 6 then s.enterSafe cause r
    else (s.domainsOff cause r).journal 0x0B jFail 0 s.bootSource 0 cause
  | _ => s.enterSafe cause r

/-! Restarts of the keeper. -/

/-- The fuses a life-cycle burn had reached when the power or the keeper went: their number is free
(R451, R453). -/
def State.burnCut (s : State) : State :=
  match s.keys.req with
  | some { burning := some fs, .. } => let n := s.freshNat; n.2.blow (fs.take (n.1 % (fs.length + 1)))
  | _ => s

/-- A repair fuse burn that is cut short: the entry is blown or not (R445). -/
def State.repairCut (s : State) : State :=
  match s.snd.burn with
  | some e =>
    let n := s.freshNat
    if n.1 % 2 = 1 then { n.2 with snd := { n.2.snd with fuses := n.2.snd.fuses ++ [e] } } else n.2
  | none => s

/-- What a restart of the keeper keeps: flash, fuses, KEY_BBR, the pins' levels, what has left the block,
the queue.  Every register takes its reset value (R10), and held journal records are lost (R225). -/
def State.restart (s : State) : State :=
  let t := (({ s with boot := { s.boot with held := [] } }.flashAbandon).burnCut).repairCut
  { State.reset with
    flash := { t.flash with
      seq := .idle, op := none, reqFw := false, reqEng := false, table := [], lost := false, nextLog := State.reset.flash.nextLog }
    keys := { fuses := t.keys.fuses, bbr := t.keys.bbr, ir := t.keys.ir, token := t.keys.token }
    snd := { fuses := t.snd.fuses }
    boot := { programLow := t.boot.programLow, resetLow := t.boot.resetLow, vin := t.boot.vin }
    sramTok := t.freeCtr
    sent := t.sent, freeCtr := t.freeCtr + 1, pending := t.pending }

/-- The registers of the always-on domain that a restart keeps: LC_ZCAUSE, and with it PWR_WAKE_CAUSE or
the FAULT bits of the rails (R412, R413, R431, R469). -/
def State.keepRegs (s t : State) (offs : List Nat) : State := offs.foldl (fun u o => u.wr o (s.rd o)) t

/-- The rail registers. -/
def railRegs : List Nat := (List.range 26).map Reg.pwrRail

end Sys2Proof.Machine
end

