-- ==== Sys2Proof/Machine/Sounding.lean ====
section
/-! DEFINITION. The sounding engine and repair (R436 to R447, R98 to R102). -/
namespace Sys2Proof.Machine

/-! The registers of the engine. -/

/-- SND_STAT.PHASE: 0 IDLE, 1 COPY, 2 TEST, 3 BACK, 4 WAIT. -/
def State.sndPhase (s : State) : Nat := s.fld Reg.sndStat 2 0

/-- PHASE changes. -/
def State.setPhase (s : State) (p : Nat) : State := s.setFld Reg.sndStat 2 0 p

/-- SND_STAT records a result (R442 to R444). -/
def State.sndResult (s : State) (code : Nat) : State := (s.setFld Reg.sndStat 15 8 code).setBit Reg.sndStat 31 true

/-- The engine's hidden state replaced. -/
def State.setSnd (s : State) (v : SndSt) : State := { s with snd := v }

/-- SND_SPARE: does the spare of creel column `col` hold a repair, or did it fail its sounding? -/
def State.spareUsed (s : State) (col : Nat) : Bool := s.bit (Reg.sndSpare (col / 32)) (col % 32)

/-- The spare of a column is marked used. -/
def State.useSpare (s : State) (col : Nat) : State := s.setBit (Reg.sndSpare (col / 32)) (col % 32) true

/-- The spare serves a creel, or the original does (R99). -/
def State.setSteer (s : State) (n : Nat) (b : Bool) : State :=
  { s with fab := { s.fab with steer := Store.set (fun _ => false) s.fab.steer n b } }

/-- User writes of a creel go to both arrays, or no longer (R101). -/
def State.setCopying (s : State) (n : Nat) (b : Bool) : State :=
  { s with fab := { s.fab with copying := Store.set (fun _ => false) s.fab.copying n b } }

/-! Repairs (R98, R99, R439, R445). -/

/-- The spare row-pairs of a creel in use. -/
def State.rowsUsed (s : State) (n : Nat) : Nat := (s.snd.rowPairs.filter (fun e => e.1 == n)).length

/-- A spare row-pair of a creel replaces row-pair `rp`; there are two (R98). -/
def State.rowRepair (s : State) (n rp : Nat) : State :=
  if s.snd.rowPairs.contains (n, rp) ∨ 2 ≤ s.rowsUsed n then s
  else s.setSnd { s.snd with rowPairs := s.snd.rowPairs ++ [(n, rp)] }

/-- Repairs of `k` row-pairs of a creel of which the sounding names only the first, if any: the others are free. -/
def State.rowRepairs (s : State) (n k : Nat) (first : Option Nat) : State :=
  let r := s.freshNat
  let t := match first with
    | some rp => s.rowRepair n rp
    | none => r.2.rowRepair n (r.1 % 256)
  if k ≤ 1 then t else let q := t.freshNat; q.2.rowRepair n (q.1 % 256)

/-- A spare row-pair that replaces one in service holds nothing: the spec states no content (DESIGN CHOICE,
assumption 63: free words). -/
def State.rowLost (s : State) (n rp : Nat) : State :=
  (List.range 4).foldl (fun t i => let v := t.freshNat; v.2.setArrayWord n (4 * rp + i) (BitVec.ofNat 36 v.1)) s

/-- A spare repair of a creel. -/
def State.spareRepair (s : State) (n : Nat) : State := (s.setSteer n true).useSpare (n / 30)

/-- FUSED and FREE follow the repair fuses. -/
def State.fuseCount (s : State) : State :=
  let n := s.snd.fuses.length
  (s.setFld Reg.sndBoot 23 16 (min n 255)).setFld Reg.sndFusestat 24 16 (256 - n)

/-- The keeper applies the repairs that the fuses held at KEEPER BOOT (R438, R445). -/
def State.fuseRepairs (s : State) : State :=
  (s.snd.fuses.take s.snd.applied).foldl (fun t e =>
    if e.1 = 0 then t.rowRepair e.2.1 e.2.2 else if e.1 = 1 then t.spareRepair e.2.1 else t) s

/-- The keeper reads and applies the repair fuses (R438 steps 1 and 2). -/
def State.fuseBoot (s : State) : State :=
  ((s.setSnd { s.snd with applied := s.snd.fuses.length }).fuseRepairs).fuseCount

/-- Is an UNREPAIRED mark among the fuses (R438)? -/
def State.unrepairedMark (s : State) : Bool := s.snd.fuses.any (fun e => e.1 == 2)

/-- A soft repair found by a sounding of bays (R439). -/
def State.softRepair (s : State) : State :=
  (s.setFld Reg.sndBoot 7 0 (min 255 (s.fld Reg.sndBoot 7 0 + 1))).raise 307

/-- A failing creel is repaired in the order of R439; false when it cannot be. -/
def State.repairCreel (s : State) (badSpares : List Nat) (n rowpairs : Nat) : Bool × State :=
  if rowpairs = 0 then (true, s)
  else if rowpairs + s.rowsUsed n ≤ 2 then (true, (s.rowRepairs n rowpairs none).softRepair)
  else if badSpares.contains (n / 30) || s.spareUsed (n / 30) then (false, s)
  else (true, (s.spareRepair n).softRepair)

/-- Repairs over the failing creels; the bays that cannot be repaired are collected. -/
def State.repairAll (s : State) (badSpares : List Nat) : List CreelFail → State × List Nat
  | [] => (s, [])
  | c :: cs =>
    let r := s.repairCreel badSpares c.creel.val c.rowpairs.toNat
    let q := r.2.repairAll badSpares cs
    (q.1, if r.1 then q.2 else (c.creel.val / 120) :: q.2)

/-- The sounding of bays has ended with a report: repairs, and the lowest bay that cannot be repaired
(R439).  The bays' planes and creel arrays are 0. -/
def State.soundBays (s : State) (bays : List Nat) (rep : SoundReport) : State × List Nat :=
  let t := bays.foldl (fun t b =>
    let t := (t.clearLatch b 0).clearLatch b 1
    let t := (List.range 120).foldl (fun t i => t.clearArray (120 * b + i)) t
    (List.range 4).foldl (fun t c => t.clearArray (11520 + 4 * b + c)) t) s
  let bad := (rep.spares.map Fin.val).filter (fun c => bays.contains (c / 4))
  let r := t.repairAll bad (rep.fails.filter (fun c => bays.contains (c.creel.val / 120)))
  let t := bad.foldl (fun t c => (t.useSpare c).setSnd { t.snd with spareFailed := c :: t.snd.spareFailed }) r.1
  (t, (r.2 ++ (rep.broken.map Fin.val).filter bays.contains).eraseDups)

/-- The bays of the next batch of the LOADING sounding: up to 8 per wythe, in ascending order (R440). -/
def State.nextBatch (s : State) : List Nat :=
  let w (k : Nat) : List Nat := (((List.range 48).map (48 * k + ·)).filter s.boot.unsounded.testBit).take 8
  w 0 ++ w 1

/-- An unrepairable failure found during LOADING (R441). -/
def State.unrepairable (s : State) (bay : Nat) : State :=
  let t := if s.snd.fuses.length + s.snd.burn.toList.length < 256 then (s.setSnd { s.snd with fuses := s.snd.fuses ++ [(2, bay, 0)] }).fuseCount else s
  let t := (t.setFld Reg.sndBoot 14 8 bay).setBit Reg.sndBoot 15 true
  (t.raise 305).journal 0x02 jFail 0 t.bootSource 0 0

/-- LOADING_SOUNDING_BATCH_DONE (R440, R441): frame writes that waited go on. -/
def execLoadingSoundingBatchDone (rep : SoundReport) (s : State) : Host.Outcome State Fault Refusal :=
  .next (if s.mode ≠ 4 ∨ s.boot.unsounded = 0 then s
  else
    let bays := s.nextBatch
    let soft := s.fld Reg.sndBoot 7 0
    let r := s.soundBays bays rep
    let t := r.2.foldl State.unrepairable r.1
    let t := if t.fld Reg.sndBoot 7 0 = soft then t else t.journal 0x02 jAltered 0 t.bootSource 0 0
    let t := t.setBoot { t.boot with unsounded := bays.foldl (fun m b => m &&& (2 ^ 96 - 1 - 2 ^ b)) t.boot.unsounded }
    t.engineResume)

/-! In-service sounding (R442 to R444). -/

/-- A request is refused: its code is recorded and EV306 raised (R442). -/
def State.sndRefuse (s : State) (code : Nat) : State := (s.sndResult code).raise 306

/-- Is a burn of a spare repair in progress in a creel column: its spare is not free (R99; DESIGN CHOICE,
assumption 63)? -/
def State.spareBurning (s : State) (col : Nat) : Bool :=
  match s.snd.burn with
  | some e => e.1 == 1 && decide (e.2.1 / 30 = col)
  | none => false

/-- The first reason to refuse a request, none when it is accepted (R442). -/
def State.sndCheck (s : State) (n algo : Nat) : Option Nat :=
  if 11520 ≤ n then some 0x13
  else if s.sndPhase ≠ 0 then some 0x11
  else if s.spareUsed (n / 30) || s.spareBurning (n / 30) then some 0x10
  else if s.mode ≠ 6 ∧ s.mode ≠ 7 ∧ s.mode ≠ 8 then some 0x12
  else if algo = 3 then some 0x13
  else if s.shState (n / 120) = 1 then some 0x14
  else none

/-- An accepted request starts: the original is copied to the spare, and user writes go to both (R101,
R443 step 1). -/
def State.sndStart (s : State) : State :=
  let n := s.snd.creel
  (((s.copyArray n (spareArray n)).setCopying n true).setBit Reg.sndStat 3 false).setPhase 1

/-- A GO: refused, started, or waiting for the engine's gate to open (R139, R442). -/
def State.sndGo (s : State) (v : Word) : State :=
  let n := getBits v 13 0
  let algo := getBits v 17 16
  match s.sndCheck n algo with
  | some code => s.sndRefuse code
  | none =>
    let t := s.setSnd { s.snd with creel := n, algo := algo, again := false, res := 0 }
    if t.blockGated 57 then t.setPhase 4 else t.sndStart

/-- The move back starts: the spare is copied to the original, and user writes go to both (R101, R443
step 3). -/
def State.sndBack (s : State) (res : Nat) : State :=
  let n := s.snd.creel
  (((s.setSnd { s.snd with res := res }).copyArray (spareArray n) n).setCopying n true).setPhase 3

/-- A sounding is ended early by ABORT or an accepted SLEEP or STANDBY request (R444). -/
def State.sndAbort (s : State) : State :=
  if s.sndPhase = 1 then ((s.setCopying s.snd.creel false).setPhase 0).sndRefuse 0x15
  else if s.sndPhase = 2 then (s.sndBack 0).sndRefuse 0x15
  else s

/-- Entry to LOADING ends a sounding in any phase and releases the spare (R444). -/
def State.sndEnd (s : State) : State :=
  if s.sndPhase = 0 then s
  else
    let n := s.snd.creel
    ((((s.setCopying n false).setSteer n false).setPhase 0)).sndRefuse 0x15

/-- A write of SND_REQ: ABORT, and GO, which is refused with BUSY when ABORT ended a sounding in the
same write (R442, R444). -/
def State.sndReqWrite (s : State) (v : Word) : State :=
  let t := s.plainWrite Reg.sndReq v
  let busy := decide (s.sndPhase ≠ 0)
  let t := if getBit v 30 then t.sndAbort else t
  if getBit v 31 then (if busy then t.sndRefuse 0x11 else t.sndGo v) else t

/-- The meaning of SOUNDING_REQUEST: a SND_REQ write with GO. -/
def execSoundingRequest (_ag : Agent) (v : Word) (s : State) : Host.Outcome State Fault Refusal :=
  .next (s.sndReqWrite (putBit v 31 true))

/-- The meaning of SOUNDING_ABORT: a SND_REQ write with ABORT alone. -/
def execSoundingAbort (_ag : Agent) (s : State) : Host.Outcome State Fault Refusal :=
  .next (s.sndReqWrite (putBit (putBit (s.rd Reg.sndReq) 30 true) 31 false))

/-- The meaning of SOUNDING_COPY_DONE: each port switches to the spare and the test starts (R101, R443
step 2). -/
def execSoundingCopyDone (s : State) : Host.Outcome State Fault Refusal :=
  .next (if s.sndPhase = 1 then ((s.setCopying s.snd.creel false).setSteer s.snd.creel true).setPhase 2 else s)

/-- What a run leaves in the registers (R437, R447). -/
def State.sndRun (s : State) (r : SoundRun) : State :=
  let t := ((s.wr Reg.sndSigLo (r.sig.extractLsb' 0 32)).wr Reg.sndSigHi (r.sig.extractLsb' 32 32))
  let t := ((t.wr Reg.sndRefLo (r.ref.extractLsb' 0 32)).wr Reg.sndRefHi (r.ref.extractLsb' 32 32))
  let t := (t.wr Reg.sndPat r.patterns).setBit Reg.sndStat 3 true
  t.wr Reg.sndFail (BitVec.ofNat 32 (if r.rowpairs = 0 then 0
    else r.word.toNat + r.bit.toNat * 2 ^ 10 + r.rowpairs.toNat * 2 ^ 16))

/-- The meaning of SOUNDING_RUN_DONE (R443 steps 3 to 5). -/
def execSoundingRunDone (r : SoundRun) (s : State) : Host.Outcome State Fault Refusal :=
  .next (if s.sndPhase ≠ 2 then s
  else
    let n := s.snd.creel
    let t := s.sndRun r
    if r.rowpairs = 0 ∧ r.sig = r.ref then t.sndBack (if s.snd.again then 3 else 1)
    else if 1 ≤ r.rowpairs.toNat ∧ r.rowpairs.toNat ≤ 2 ∧ !s.snd.again ∧ s.rowsUsed n = 0 then
      let u := t.rowRepairs n r.rowpairs.toNat (some (r.word.toNat / 4))
      (u.setSnd { u.snd with again := true }).setBit Reg.sndStat 3 false
    else (((t.useSpare (n / 30)).setPhase 0).sndResult 2).raise 305)

/-- The meaning of SOUNDING_MOVE_BACK_DONE (R443, R444). -/
def execSoundingMoveBackDone (s : State) : Host.Outcome State Fault Refusal :=
  .next (if s.sndPhase ≠ 3 then s
  else
    let n := s.snd.creel
    let t := ((s.setSteer n false).setCopying n false).setPhase 0
    if s.snd.res = 0 then t
    else (t.sndResult s.snd.res).raise (if s.snd.res = 3 then 307 else 304))

/-! Fuse repair and STALE (R445, R446). -/

/-- Does a repair of another creel hold the spare of creel `n`'s column, or has a sounding that is in progress
taken it (R99; for the sounding DESIGN CHOICE, assumption 63)? -/
def State.spareTaken (s : State) (n : Nat) : Bool :=
  (decide (s.sndPhase ≠ 0) && decide (s.snd.creel / 30 = n / 30)) || (List.range 30).any (fun i =>
    let m := n / 30 * 30 + i
    decide (m ≠ n) && (s.steered m || s.snd.fuses.any (fun e => e.1 == 1 && e.2.1 == m)))

/-- A write of SND_FUSEGO (R445): RESULT 2 POLICY, 3 FULL, 4 SPARE_TAKEN, 5 KIND. -/
def State.fuseGo (s : State) (v : Word) : State :=
  if getBits v 31 16 ≠ 0x96C3 ∨ !getBit v 0 ∨ s.bit Reg.sndFusestat 0 then s
  else
    let n := s.fld Reg.sndFuse 13 0
    let kind := s.fld Reg.sndFuse 15 14
    let refuse (c : Nat) : State := s.setFld Reg.sndFusestat 3 1 c
    if s.lcState ≠ 2 ∧ s.lcState ≠ 3 ∧ s.lcState ≠ 4 then refuse 2
    else if 256 ≤ s.snd.fuses.length then refuse 3
    else if 2 ≤ kind ∨ 11520 ≤ n then refuse 5
    else if kind = 1 ∧ s.spareTaken n then refuse 4
    else
      ((s.setFld Reg.sndFusestat 3 1 0).setBit Reg.sndFusestat 0 true).setSnd
        { s.snd with burn := some (kind, n, s.fld Reg.sndFuse 23 16) }

/-- The meaning of FUSE_BURN. -/
def execFuseBurn (_ag : Agent) (v : Word) (s : State) : Host.Outcome State Fault Refusal := .next (s.fuseGo v)

/-- A fuse repair takes effect at once as a soft repair (R445, R446, R102); a third row-pair of a creel finds no
spare row-pair (R98). -/
def State.fuseEffect (s : State) (e : Nat × Nat × Nat) : State :=
  if e.1 = 0 then
    (if s.snd.rowPairs.contains e.2 ∨ 2 ≤ s.rowsUsed e.2.1 then s
     else ((s.rowRepair e.2.1 e.2.2).rowLost e.2.1 e.2.2).raise 307)
  else if s.steered e.2.1 then s.useSpare (e.2.1 / 30)
  else (((s.clearArray (spareArray e.2.1)).spareRepair e.2.1).makeStale e.2.1).raise 307

/-- The meaning of FUSE_BURN_DONE. -/
def execFuseBurnDone (s : State) : Host.Outcome State Fault Refusal :=
  .next (match s.snd.burn with
  | none => s
  | some e =>
    let t := (s.setSnd { s.snd with burn := none, fuses := s.snd.fuses ++ [e] }).fuseCount
    let t := (t.setBit Reg.sndFusestat 0 false).setFld Reg.sndFusestat 3 1 1
    (t.fuseEffect e).raise 308)

/-- A write of SND_STALECLR (R446). -/
def State.staleClrWrite (s : State) (v : Word) : State :=
  if getBits v 31 16 = 0x5AC3 ∧ getBits v 13 0 < 11520 then s.staleClear (getBits v 13 0) else s

/-- The meaning of STALE_CLEAR. -/
def execStaleClear (_ag : Agent) (v : Word) (s : State) : Host.Outcome State Fault Refusal := .next (s.staleClrWrite v)

/-! Entry to LOADING (R439, R440, R444). -/

/-- A reload drops soft repairs and keeps those of the fuses; every bay is to be sounded. -/
def State.sndReload (s : State) : State :=
  let t := s.sndEnd
  let t := { t with fab := { t.fab with steer := [], copying := [] } }
  let t := (t.setSnd { t.snd with rowPairs := [], spareFailed := [] })
  let t := (List.range 12).foldl (fun t r => t.wr (Reg.sndSpare r) 0) t
  (t.setFld Reg.sndBoot 15 0 0).fuseRepairs

end Sys2Proof.Machine
end

