-- ==== Sys2Proof/Machine/WaleLink.lean ====
section
/-! DEFINITION. Wale ports: training, lanes, the link layer, routing and requests (R334 to R351, R360). -/
namespace Sys2Proof.Machine

/-- The gang stream being received ends (R359). -/
def State.gangEnd (s : State) : State :=
  if s.wale.gangRx.isSome && !s.wale.gangEnded then
    (s.setWale { s.wale with gangEnded := true }).spentEnd 4
  else s

/-- The link of a port goes down, and with the upstream link the gang stream it carries (R341, R359). -/
def State.linkDown (s : State) (p cause : Nat) : State :=
  if s.wpState p = 0 then s
  else
    let t := s.linkDrop p cause
    if s.upPort = p then t.gangEnd else t

/-- Every port goes down with cause DISABLED (R361). -/
def State.walePortsDown (s : State) : State := (List.range 6).foldl (fun t p => t.linkDown p 4) s

/-! Training (R334, R335, R342). -/

/-- NI, RATEDIV and the WIDTH code of a RATE (R335). -/
def waleRate (r : Nat) : Nat × Nat × Nat :=
  match r with
  | 0 => (100, 3, 2) | 1 => (100, 2, 2) | 2 => (100, 1, 2) | 3 => (160, 1, 2) | 4 => (125, 0, 4) | _ => (160, 0, 4)

/-- The widest set that the WIDTH of this training allows, in lanes. -/
def State.wpWidth (s : State) (p : Nat) : Nat := 2 ^ (s.wp p).width

/-- A register and its value in effect, set by the owning controller. -/
def State.ownSet (s : State) (off : Nat) (v : Word) : State := (s.wr off v).liveWr off v

/-- The controller takes the quads of a port and sets its lanes and PLL-H (R334, R335); lanes that the width does not
use are held off (R305). -/
def State.wpTake (s : State) (p : Nat) : State :=
  let r := waleRate (s.fld (Reg.wpCtl p) 5 3)
  let quads := if (s.wp p).width = 3 then [2 * p + 2, 2 * p + 3] else [2 * p + 2]
  let cfg : Word := BitVec.ofNat 32 (1 + 2 * r.2.1 + 16 + 128 * r.2.2 + 2048)
  quads.foldl (fun t q =>
    let pll : Word := BitVec.ofNat 32 (16 * r.1 + 2 ^ 15)
    let same := decide (t.liveRd (Reg.qpllhCfg q) = pll) && decide (t.liveRd (Reg.qpllhFrac q) = 0)
    let t := (t.ownSet (Reg.qpllhCfg q) pll).ownSet (Reg.qpllhFrac q) 0
    let t := if same then t else t.pllUnlock q 1
    let t := (List.range 4).foldl (fun t i =>
      let n := 4 * q + i
      let used := decide (n - (8 * p + 8) < s.wpWidth p)
      ((t.ownSet (Reg.laneCfg n) cfg).wr (Reg.laneCtl n) (if used then 0x3F02 else 0x3F00)).wr (Reg.lanePrbs n) 0) t
    t.quadRefresh q) s

/-- Training starts, with the WIDTH that WP_CTL now holds (R342 step 1, R362). -/
def State.wpTrain (s : State) (p : Nat) : State :=
  let t := (s.setWp p { width := s.fld (Reg.wpCtl p) 2 1 }).wpTake p
  (t.wr (Reg.wpStat p) (putBits (putBits (t.rd (Reg.wpStat p)) 17 2 0) 1 0 1)).wpEvent p 0

/-- Does a gate of the port or of its quads stand (R138)? -/
def State.wpGated (s : State) (p : Nat) : Bool :=
  s.blockGated (48 + p) || s.blockGated (2 * p + 2) || (s.fld (Reg.wpCtl p) 2 1 == 3 && s.blockGated (2 * p + 3))

/-- Training starts, or waits until the gate opens (R139). -/
def State.wpStart (s : State) (p : Nat) : State :=
  if s.wpGated p then s.setWp p { s.wp p with trainDue := true } else s.wpTrain p

/-- A training that waited for a gate starts. -/
def State.wpDue (s : State) (p : Nat) : State :=
  if (s.wp p).trainDue ∧ !s.wpGated p ∧ s.bit (Reg.wpCtl p) 0 ∧ s.waleModes then s.wpTrain p else s

/-- A write of WP_CTL (R334, R341, R342, R361, R362). -/
def State.wpCtlWrite (s : State) (p : Nat) (v : Word) : State :=
  if 6 ≤ getBits v 5 3 then s
  else
    let old := s.bit (Reg.wpCtl p) 0
    let t := s.plainWrite (Reg.wpCtl p) v
    if getBit v 0 then
      (if !old then
        (let u := t.setWp p { t.wp p with width := getBits v 2 1 }
         if u.waleModes then u.wpStart p else u)
       else if getBit v 8 then (let u := t.linkDown p 4; if u.waleModes then u.wpStart p else u)
       else t)
    else if old then
      ((t.linkDown p 4).wpClear p).quadRefresh (2 * p + 2) |>.quadRefresh (2 * p + 3)
    else t

/-- The largest set of a width that the good lanes fill, in ascending order (R342 step 3). -/
def chooseSet (good width : Nat) : Nat :=
  let ls := (List.range 8).filter good.testBit
  match [8, 4, 2, 1].find? (fun n => decide (n ≤ width) && decide (n ≤ ls.length)) with
  | some n => ((ls.take n).map (2 ^ ·)).sum
  | none => 0

/-- A lane's CDR_LOCK and ALIGNED, by port lane (R342). -/
def State.laneLocked (s : State) (p lane : Nat) : Bool :=
  s.bit (Reg.laneStat (8 * p + 8 + lane)) 0 && s.bit (Reg.laneStat (8 * p + 8 + lane)) 3

/-- The lanes good for a set: those that became good and still have CDR_LOCK and ALIGNED (R342 steps 2 and 3). -/
def State.goodLanes (s : State) (p : Nat) : Nat :=
  (((List.range 8).filter (fun l => (s.wp p).good.testBit l && s.laneLocked p l)).map (2 ^ ·)).sum

/-- A TRN set on a lane counts toward the 64 consecutive valid ones that make it good (R342 step 2). -/
def State.trnCount (s : State) (p lane : Nat) (t : TrnSet) : State :=
  let w := s.wp p
  let n := if !t.junk ∧ t.lane.val = lane ∧ s.laneLocked p lane ∧ lane < s.wpWidth p then
      min 64 (Store.get (fun _ => 0) w.trn lane + 1) else 0
  let bar := (w.dropped ||| w.quar).testBit lane
  s.setWp p { w with
    trn := Store.set (fun _ => 0) w.trn lane n
    good := if n = 64 ∧ !bar then w.good ||| 2 ^ lane else w.good }

/-- What a TRN set does while the port trains (R342 steps 2 to 4). -/
def State.trnTraining (s : State) (p lane : Nat) (t : TrnSet) : State :=
  let u := s.trnCount p lane t
  let u := u.setWp p { u.wp p with peerWidth := t.width.val }
  let tx := u.fld (Reg.wpStat p) 9 2
  let tx := if t.rdy then tx ||| 2 ^ lane else tx &&& (255 - 2 ^ lane)
  let rx := chooseSet (u.goodLanes p) (min (u.wpWidth p) (2 ^ t.width.val))
  let u := u.setFld (Reg.wpStat p) 9 2 tx
  let u := u.setFld (Reg.wpStat p) 17 10 rx
  (u.setFld (Reg.wpStat p) 26 18 t.dev.val).setFld (Reg.wpStat p) 29 27 t.port.val

/-- WALE_TRN_SET (R337, R342, R343, R360): a port in SLEEP trains again; a discarded set ends a run of valid ones. -/
def State.trnSet (s : State) (p lane : Nat) (t : TrnSet) : State :=
  if s.wpState p = 0 ∨ !s.waleModes then s
  else if t.junk then (s.trnCount p lane t).wpFault p 6
  else
    let u := if s.wpState p = 3 then s.wpTrain p else s
    if u.wpState p = 1 ∧ t.dev.val = u.devid ∧ u.devid ≠ 511 then u.linkDown p 6
    else if u.wpState p = 1 then u.trnTraining p lane t
    else u.trnCount p lane t

/-! The peer table and epochs (R351). -/

/-- The entry of a device as the peer table records it. -/
def State.peerRecord (s : State) (x epoch : Nat) : State :=
  (s.setFld (Reg.walePeer x) 7 0 epoch).setBit (Reg.walePeer x) 8 true

/-- A request ends for whoever asked (R348, R350). -/
def State.originEnd (s : State) (o : WaleOrigin) (status : Nat) (read : Bool) (ws : List Word) : State :=
  match o with
  | .slot n =>
    let t := if read && status == 0 then
        (ws.zipIdx.foldl (fun t e => if e.2 < 128 then t.wr (Reg.waleRqData n e.2) e.1 else t) s)
      else s
    let c := t.rd (Reg.waleRqCtl n)
    (t.wr (Reg.waleRqCtl n) (putBit (putBits (putBit c 13 false) 19 16 status) 20 true)).raise 147
  | .gate p tag =>
    if p < 4 then s.setWale { s.wale with gwDone := s.wale.gwDone ++ [(p, tag, status, if status = 0 then ws else [])] }
    else s

/-- An outstanding request ends, and a block of it that was held is given up. -/
def State.reqEnd (s : State) (r : WaleReq) (status : Nat) (ws : List Word) : State :=
  let t := s.setWale { s.wale with
    reqs := s.wale.reqs.filter (fun q => q.tag != r.tag)
    held := s.wale.held.filter (fun h => !(h.2.src.val == s.devid && h.2.tag.val == r.tag &&
      (h.2.ackreq || h.2.kind == .read))) }
  t.originEnd r.origin status r.read ws

/-- Every outstanding request that `f` picks ends with EPOCH (R351). -/
def State.reqsEpoch (s : State) (f : WaleReq → Bool) : State :=
  (s.wale.reqs.filter f).foldl (fun t r => t.reqEnd r 5 []) s

/-- The device broadcasts JOIN, also on the port that came up (R351). -/
def State.sendJoin (s : State) (p : Nat) : State :=
  let m := SysMsg.join (Fin.ofNat 256 s.epoch)
  let t := s.sysBcast m
  if t.treePorts.contains p then t else t.linkSend p (t.ownBlock .sysctl 0 2 true (.sys m))

/-- A port comes UP (R342 step 5, R351, R352, R360). -/
def State.linkUp (s : State) (p : Nat) : State :=
  let first := decide (s.upPorts = [])
  let w := s.wp p
  let t := s.setWp p { w with
    fixed := ((List.range 8).filter (s.fld (Reg.wpStat p) 17 10).testBit).length
    txSeq := 0, rxSeq := 0, buf := [], queue := [], nak := false, got := false, resends := 0, pend := none, skip := 0 }
  let t := (t.setFld (Reg.wpStat p) 1 0 2).wpEvent p 0
  let t := if first then
      let t := if t.wale.wasUp then t.setFld Reg.waleId 31 24 (t.epoch + 1) else t
      let t := t.setWale { t.wale with wasUp := true }
      let t := if t.devid = 511 then t else t.peerRecord t.devid t.epoch
      (t.sendJoin p).reqsEpoch (fun _ => true)
    else t
  let t := if t.wale.slept then
      let u := t.sysBcast .awake
      let u := if u.treePorts.contains p then u else u.linkSend p (u.ownBlock .sysctl 0 10 true (.sys .awake))
      u.setWale { u.wale with slept := false }
    else t
  (t.treeRefresh).advertise p

/-! Acknowledgement (R340, R341). -/

/-- An ACK acknowledges every block up to ASEQ, or is ignored (R340). -/
def State.ackDrop (s : State) (p aseq : Nat) : State :=
  let w := s.wp p
  match w.buf.findIdx? (fun b => b.seq.val == aseq) with
  | some i => s.setWp p { w with buf := w.buf.drop (i + 1), resends := 0 }
  | none => s

/-- An ACK: blocks that waited for room are sent. -/
def State.ackTake (s : State) (p aseq : Nat) : State := (s.ackDrop p aseq).linkDrain p

/-- A resend; the eighth in a row takes the link down (R341). -/
def State.linkResend (s : State) (p : Nat) : State :=
  let w := s.wp p
  if w.buf = [] then s
  else
    let t := s.bumpSat (Reg.wpCntResend p)
    if 8 ≤ w.resends + 1 then t.linkDown p 1
    else (w.buf.foldl (fun t b => t.waleEmit p (.block b)) (t.setWp p { w with resends := w.resends + 1 }))

/-- One ACK with NAK = 1 until the expected block arrives (R340). -/
def State.nakOnce (s : State) (p : Nat) : State :=
  let w := s.wp p
  if w.nak then s
  else (s.setWp p { w with nak := true }).waleEmit p (.ack ((w.rxSeq + 4095) % 4096) true)

/-- The receiver's test of a block with a good CRC: true when it is accepted (R340). -/
def State.linkRx (s : State) (p seq : Nat) : Bool × State :=
  let w := s.wp p
  if !s.wpUp p then (false, s)
  else if seq ≠ w.rxSeq then (false, s.nakOnce p)
  else (true, (s.setWp p { w with rxSeq := (w.rxSeq + 1) % 4096, nak := false, got := true }).bumpSat (Reg.wpCntRx p))

/-! Lane sets (R343). -/

/-- A lane set changes: four exchanges are discarded (R353). -/
def State.lanesChanged (s : State) (p : Nat) : State := s.setWp p { s.wp p with skip := 4 }

/-- The receiver asks for a new set. -/
def State.askSet (s : State) (p op set : Nat) : State :=
  ((s.setWp p { s.wp p with pend := some set }).waleEmit p (.lmg op set)).wpEvent p 1

/-- A receiving lane fails (R343). -/
def State.laneFail (s : State) (p lane : Nat) : State :=
  let w := s.wp p
  let rx := s.fld (Reg.wpStat p) 17 10
  if !s.wpUp p ∨ !(rx.testBit lane) then s
  else
    let now := s.boot.ticks
    let drops := (w.drops.filter (fun d => decide (now < d.2 + 400000000))) ++ [(lane, now)]
    let held := decide (4 ≤ (drops.filter (fun d => d.1 == lane)).length)
    let good := w.good &&& (255 - 2 ^ lane)
    let t := s.setWp p { w with
      good := good, dropped := w.dropped ||| 2 ^ lane, drops := drops, trn := Store.erase w.trn lane
      quar := if held then w.quar ||| 2 ^ lane else w.quar }
    let t := t.wpFault p 7
    let t := if held then t.wpFault p 10 else t
    let set := chooseSet (t.goodLanes p) w.fixed
    if set = 0 then (t.wpEvent p 1).linkDown p 2 else t.askSet p 1 set

/-- A dropped lane is good again (R343). -/
def State.laneReadmit (s : State) (p lane : Nat) : State :=
  let w := s.wp p
  if !s.wpUp p ∨ !w.dropped.testBit lane ∨ w.quar.testBit lane ∨ !s.laneLocked p lane ∨
      Store.get (fun _ => 0) w.trn lane ≠ 64 then s
  else
    let good := w.good ||| 2 ^ lane
    let t := s.setWp p { w with good := good, dropped := w.dropped &&& (255 - 2 ^ lane) }
    let old := (w.pend).getD (s.fld (Reg.wpStat p) 17 10)
    let set := chooseSet (t.goodLanes p) w.fixed
    let n (m : Nat) : Nat := ((List.range 8).filter m.testBit).length
    if n old < n set then t.askSet p 2 set else t

/-- An LMG DROP or READMIT: the echo of this port's own, or the far receiver's new set (R343). -/
def State.lmgSet (s : State) (p op set : Nat) : State :=
  if !s.wpUp p then s
  else if (s.wp p).pend = some set then
    (s.setWp p { s.wp p with pend := none }).setFld (Reg.wpStat p) 17 10 set |>.lanesChanged p
  else
    let t := if op = 1 then s.wpFault p 7 else s
    ((((t.waleEmit p (.lmg op set)).waleEmit p (.idl 16)).setFld (Reg.wpStat p) 9 2 set).lanesChanged p).wpEvent p 1

/-! Routing (R345) and sleeping targets (R360). -/

/-- WALE_RT of a device. -/
def State.routeOf (s : State) (x : Nat) : Nat := if x = s.devid then 6 else s.fld (Reg.waleRt x) 2 0

/-- A block dropped by the route table (R345). -/
def State.dropBlock (s : State) : State := (s.bumpSat Reg.waleCntDrop).waleErr 0

/-- The completion of a request (R338, R348). -/
def State.completionOf (s : State) (b : WaleBlock) (status : Nat) (ws : List Word) : WaleBlock :=
  { s.ownBlock .completion b.src.val 0 false (.words ws) with
    tag := b.tag, status := Fin.ofNat 16 status, len := Fin.ofNat 256 ws.length }

/-- A completion reaches its request, or comes late (R348).  ASLEEP and UNREACH come from a device on the way (R345,
R360), every other status from the target. -/
def State.completionIn (s : State) (b : WaleBlock) : State :=
  match s.wale.reqs.find? (fun r => r.tag == b.tag.val && (r.dest == b.src.val || b.status == 2 || b.status == 3)) with
  | some r => s.reqEnd r b.status.val (match b.body with
    | .words ws => ws
    | _ => [])
  | none => (s.bumpSat Reg.waleCntLate).waleErr 2

/-- The block leaves on its route's port, none when that port cannot take it (R345). -/
def State.toPort (s : State) (from_ : Option Nat) (b : WaleBlock) : Option State :=
  let p := s.routeOf b.dest.val
  if p < 6 ∧ some p ≠ from_ ∧ s.wpUp p then some (s.linkSend p b) else none

/-- A request is answered (R348). -/
def State.answer (s : State) (b : WaleBlock) (status : Nat) (ws : List Word) : State :=
  let c := s.completionOf b status ws
  if s.routeOf b.src.val = 6 then s.completionIn c
  else match s.toPort none c with
    | some t => t
    | none => if status = 3 then s else s.dropBlock

/-- Does the block ask for a completion (R348)? -/
def wantsAnswer (b : WaleBlock) : Bool := b.kind == .read || (b.ackreq && (b.kind == .write || b.kind == .message))

/-- WAKE goes toward a sleeping device; at a port in SLEEP state it becomes TRN on lane 0 (R360). -/
def State.wakeToward (s : State) (x : Nat) (b : WaleBlock) : State :=
  let p := s.routeOf x
  if p < 6 ∧ s.wpState p = 3 then s.waleEmit p (.trn 0 (s.trnOf p 0))
  else if p < 6 ∧ s.wpUp p then s.linkSend p b
  else s

/-- A block meets a sleeping device `x` (R360). -/
def State.sleepHandle (s : State) (x : Nat) (b : WaleBlock) : State :=
  if s.bit (Reg.walePeer x) 10 then
    let t := s.setWale { s.wale with held := s.wale.held ++ [(x, b)] }
    t.wakeToward x (t.ownBlock .sysctl x 11 false (.sys (.wake (Fin.ofNat 512 x))))
  else if wantsAnswer b then s.answer b 2 []
  else s.waleErr 5

/-- A block that is not for this device is sent on, or dropped (R345). -/
def State.routeOn (s : State) (from_ : Option Nat) (b : WaleBlock) : State :=
  let p := s.routeOf b.dest.val
  if p < 6 ∧ s.wpState p = 3 ∧ some p ≠ from_ then s.sleepHandle (s.peerId p) b
  else
    let r := if from_.isSome ∧ b.hops = 0 then none
      else s.toPort from_ (if from_.isSome then { b with hops := b.hops - 1 } else b)
    match r with
    | some t => t
    | none => if wantsAnswer b then s.dropBlock.answer b 3 [] else s.dropBlock

/-! Messages (R350). -/

/-- WALE_MQ_STAT follows the queue. -/
def State.mqRefresh (s : State) : State :=
  s.wr Reg.waleMqStat (match s.wale.mq with
    | [] => 0
    | (src, ws) :: _ => BitVec.ofNat 32 (s.wale.mq.length + 2 ^ 8 * src + 2 ^ 17 * ws.length))

/-- A word of the WALE_MQ_DATA window. -/
def State.mqWord (s : State) (i : Nat) : Word :=
  match s.wale.mq with
  | (_, ws) :: _ => ws.getD i 0
  | [] => 0

/-- The words of a payload. -/
def bodyWords (b : WaleBlock) : List Word :=
  match b.body with
  | .words ws => ws
  | _ => []

/-- A message arrives (R350). -/
def State.messageIn (s : State) (b : WaleBlock) : State :=
  if 16 ≤ s.wale.mq.length then
    let t := s.waleErr 3
    if b.ackreq then t.answer b 4 [] else t
  else
    let t := ((s.setWale { s.wale with mq := s.wale.mq ++ [(b.src.val, bodyWords b)] }).mqRefresh).raise 146
    if b.ackreq then t.answer b 0 [] else t

/-- A block for this device: requests wait in the inbox to be executed (R346). -/
def State.localIn (s : State) (b : WaleBlock) (mem : Nat) : State :=
  match b.kind with
  | .write => s.setWale { s.wale with inbox := s.wale.inbox ++ [(b, mem)] }
  | .read => s.setWale { s.wale with inbox := s.wale.inbox ++ [(b, mem)] }
  | .message => s.messageIn b
  | .completion => s.completionIn b
  | .gang => s
  | .sysctl => s
  | .link => s

/-- A block this device originates (R345, R360). -/
def State.originate (s : State) (b : WaleBlock) : State :=
  if s.routeOf b.dest.val = 6 then s.localIn b 0
  else if s.bit (Reg.walePeer b.dest.val) 9 then s.sleepHandle b.dest.val b
  else s.routeOn none b

/-- A request tag that no outstanding request has (R348). -/
def State.freeTag (s : State) : Option Nat := (List.range 256).find? (fun t => !s.wale.reqs.any (fun r => r.tag == t))

/-- A request is sent under a tag (R348). -/
def State.requestSend (s : State) (o : WaleOrigin) (b : WaleBlock) (tag : Nat) : State :=
  (s.setWale { s.wale with reqs := s.wale.reqs ++ [⟨tag, b.dest.val, b.kind == .read, o⟩] }).originate
    { b with tag := Fin.ofNat 256 tag }

/-- A transaction of a slot or a gateway port (R348, R350); an unassigned device issues none (R344). -/
def State.waleIssue (s : State) (o : WaleOrigin) (kind : WaleKind) (dest addr len : Nat) (ack : Bool)
    (ws : List Word) : State :=
  if s.devid = 511 then s.originEnd o 3 false []
  else
    let b := { s.ownBlock kind dest 0 false (.words ws) with
      len := Fin.ofNat 256 len, ackreq := ack, addr := BitVec.ofNat 40 addr }
    if wantsAnswer b then
      match s.freeTag with
      | some tag => s.requestSend o b tag
      | none => s.setWale { s.wale with waiting := s.wale.waiting ++ [(o, b)] }
    else (s.originate b).originEnd o 0 false []

/-- The oldest request that waits for a tag is sent, once one is free. -/
def State.tagNext (s : State) : Option State :=
  match s.wale.waiting, s.freeTag with
  | (o, b) :: q, some tag => some ((s.setWale { s.wale with waiting := q }).requestSend o b tag)
  | _, _ => none

/-! Receiving (R339, R340, R345, R351). -/

/-- The epoch test of a block: true when it is fresh (R351). -/
def State.epochTest (s : State) (b : WaleBlock) : Bool × State :=
  let x := b.src.val
  if x = s.devid ∨ s.devid = 511 ∧ x = 511 then (true, s)
  else if !s.bit (Reg.walePeer x) 8 then (true, s.peerRecord x b.epoch.val)
  else if s.fld (Reg.walePeer x) 7 0 = b.epoch.val then (true, s)
  else (false, (s.bumpSat Reg.waleCntStale).waleErr 1)

/-- A block arrives on a port.  `here` marks messages between neighbours and those each device passes
upstream itself; `join` skips the epoch test. -/
def State.blockIn (s : State) (p : Nat) (b : WaleBlock) (here join : Bool) (act : State → State) : State :=
  match s.linkRx p b.seq.val with
  | (false, t) => t
  | (true, t) =>
    match if join then (true, t) else t.epochTest b with
    | (false, t) => t
    | (true, t) =>
      if here then act t
      else if b.bcast then
        act (if b.hops = 0 ∨ t.devid = 511 then t else t.bcastOut (some p) { b with hops := b.hops - 1 })
      else if t.devid = 511 then t.dropBlock
      else if t.routeOf b.dest.val = 6 then act t
      else t.routeOn (some p) b

/-! The commands. -/

/-- The meaning of WP_ENABLE. -/
def execWpEnable (_ag : Agent) (p : Fin 6) (s : State) : Host.Outcome State Fault Refusal :=
  .next (s.wpCtlWrite p.val (putBit (s.rd (Reg.wpCtl p.val)) 0 true))

/-- The meaning of WP_DISABLE. -/
def execWpDisable (_ag : Agent) (p : Fin 6) (s : State) : Host.Outcome State Fault Refusal :=
  .next (s.wpCtlWrite p.val (putBit (s.rd (Reg.wpCtl p.val)) 0 false))

/-- The meaning of WP_RETRAIN. -/
def execWpRetrain (_ag : Agent) (p : Fin 6) (s : State) : Host.Outcome State Fault Refusal :=
  .next (s.wpCtlWrite p.val (putBit (s.rd (Reg.wpCtl p.val)) 8 true))

/-- The meaning of WALE_TRN_SET. -/
def execWaleTrnSet (p : Fin 6) (lane : Fin 8) (t : TrnSet) (s : State) : Host.Outcome State Fault Refusal :=
  .next (s.trnSet p.val lane.val t)

/-- The meaning of WALE_TRAIN_TIMEOUT. -/
def execWaleTrainTimeout (p : Fin 6) (s : State) : Host.Outcome State Fault Refusal :=
  .next (if s.wpState p.val = 1 then s.linkDown p.val 5 else s)

/-- The meaning of WALE_LINK_UP: both directions have lanes (R342). -/
def execWaleLinkUp (p : Fin 6) (s : State) : Host.Outcome State Fault Refusal :=
  .next (if s.wpState p.val = 1 ∧ s.fld (Reg.wpStat p.val) 9 2 ≠ 0 ∧ s.fld (Reg.wpStat p.val) 17 10 ≠ 0 then
    s.linkUp p.val else s)

/-- The meaning of WALE_AUTO_RETRAIN. -/
def execWaleAutoRetrain (p : Fin 6) (s : State) : Host.Outcome State Fault Refusal :=
  .next (if s.wpState p.val = 0 ∧ s.bit (Reg.wpCtl p.val) 0 ∧ s.bit (Reg.wpCtl p.val) 6 ∧ s.waleModes then
    s.wpStart p.val else s)

/-- The meaning of WALE_BLOCK_BAD: a bad block, or one with a reserved TYPE or bit and its SEQ (R339). -/
def execWaleBlockBad (p : Fin 6) (fmt : Option (Fin 4096)) (s : State) : Host.Outcome State Fault Refusal :=
  .next (if !s.wpUp p.val then s
    else match fmt with
      | none => ((s.bumpSat (Reg.wpCntBad p.val)).wpFault p.val 4).nakOnce p.val
      | some q => match s.linkRx p.val q.val with
        | (true, t) => t.wpFault p.val 5
        | (false, t) => t)

/-- The meaning of WALE_ACK. -/
def execWaleAck (p : Fin 6) (aseq : Fin 4096) (junk : Bool) (s : State) : Host.Outcome State Fault Refusal :=
  .next (if !s.wpUp p.val then s else if junk then s.wpFault p.val 6 else s.ackTake p.val aseq.val)

/-- The meaning of WALE_NAK. -/
def execWaleNak (p : Fin 6) (aseq : Fin 4096) (junk : Bool) (s : State) : Host.Outcome State Fault Refusal :=
  .next (if !s.wpUp p.val then s else if junk then s.wpFault p.val 6
    else ((s.ackDrop p.val aseq.val).linkResend p.val).linkDrain p.val)

/-- The meaning of WALE_ACK_SEND. -/
def execWaleAckSend (p : Fin 6) (s : State) : Host.Outcome State Fault Refusal :=
  .next (if s.wpUp p.val ∧ (s.wp p.val).got then s.waleEmit p.val (.ack (((s.wp p.val).rxSeq + 4095) % 4096) false) else s)

/-- The meaning of WALE_ACK_TIMER_EXPIRY. -/
def execWaleAckTimerExpiry (p : Fin 6) (s : State) : Host.Outcome State Fault Refusal :=
  .next (if s.wpUp p.val then s.linkResend p.val else s)

/-- The meaning of WALE_LANE_FAIL. -/
def execWaleLaneFail (p : Fin 6) (lane : Fin 8) (s : State) : Host.Outcome State Fault Refusal :=
  .next (s.laneFail p.val lane.val)

/-- The meaning of WALE_LANE_READMIT_READY. -/
def execWaleLaneReadmitReady (p : Fin 6) (lane : Fin 8) (s : State) : Host.Outcome State Fault Refusal :=
  .next (s.laneReadmit p.val lane.val)

/-- The meaning of WALE_LMG_DROP. -/
def execWaleLmgDrop (p : Fin 6) (set : BitVec 8) (junk : Bool) (s : State) : Host.Outcome State Fault Refusal :=
  .next (if junk ∧ s.wpUp p.val then s.wpFault p.val 6 else s.lmgSet p.val 1 set.toNat)

/-- The meaning of WALE_LMG_READMIT. -/
def execWaleLmgReadmit (p : Fin 6) (set : BitVec 8) (junk : Bool) (s : State) : Host.Outcome State Fault Refusal :=
  .next (if junk ∧ s.wpUp p.val then s.wpFault p.val 6 else s.lmgSet p.val 2 set.toNat)

/-- The meaning of WALE_LMG_SLEEP: SLEEP is no link down (R360). -/
def execWaleLmgSleep (p : Fin 6) (junk : Bool) (s : State) : Host.Outcome State Fault Refusal :=
  .next (if !s.wpUp p.val then s else if junk then s.wpFault p.val 6
    else ((s.setFld (Reg.wpStat p.val) 1 0 3).wpEvent p.val 0).treeRefresh)

/-- The meaning of WALE_LMG_DOWN. -/
def execWaleLmgDown (p : Fin 6) (junk : Bool) (s : State) : Host.Outcome State Fault Refusal :=
  .next (if !s.wpUp p.val then s else if junk then s.wpFault p.val 6 else s.linkDown p.val 3)

/-- The meaning of WALE_COMPLETION. -/
def execWaleCompletion (p : Fin 6) (b : WaleBlock) (s : State) : Host.Outcome State Fault Refusal :=
  let b := { b with kind := .completion }
  .next (s.blockIn p.val b false false (fun t => t.completionIn b))

/-- The meaning of WALE_MESSAGE. -/
def execWaleMessage (p : Fin 6) (b : WaleBlock) (s : State) : Host.Outcome State Fault Refusal :=
  let b := { b with kind := .message }
  .next (s.blockIn p.val b false false (fun t => t.messageIn b))

/-- The meaning of WALE_REQUEST_DEADLINE. -/
def execWaleRequestDeadline (tag : Fin 256) (s : State) : Host.Outcome State Fault Refusal :=
  .next (match s.wale.reqs.find? (fun r => r.tag == tag.val) with
    | some r => s.reqEnd r 7 []
    | none => s)

/-- A write of WALE_MQ_POP (R350). -/
def State.mqPop (s : State) : State := (s.setWale { s.wale with mq := s.wale.mq.drop 1 }).mqRefresh

/-- The meaning of WALE_MQ_POP. -/
def execWaleMqPop (_ag : Agent) (s : State) : Host.Outcome State Fault Refusal := .next s.mqPop

end Sys2Proof.Machine
end

