-- ==== Sys2Proof/Machine/Wale.lean ====
section
/-! DEFINITION. The Wale system: gang streams, the tree's messages, time, system boundaries and
readiness, system DONE, sleep (R351 to R361). -/
namespace Sys2Proof.Machine

/-! Gang streams (R358, R359). -/

/-- The words of a block of the stream, and its end. -/
def State.gangTake (s : State) (b : WaleBlock) : State :=
  if s.wale.gangEnded then s
  else
    let ws := bodyWords b
    let t := { (s.setWale { s.wale with gangWords := s.wale.gangWords ++ ws }) with
      eng := { s.eng with arrived := s.eng.arrived || !ws.isEmpty } }
    if b.last then t.gangEnd else t.spentEnd 4

/-- A GANG block reaches the configuration engine, or is discarded. -/
def State.gangIn (s : State) (b : WaleBlock) : State :=
  if s.engSource ≠ some 4 then s.unopened
  else
    match s.wale.gangRx with
    | some x => if x = b.src.val then s.gangTake b else s.waleErr 4
    | none => if b.first then (s.setWale { s.wale with gangRx := some b.src.val }).gangTake b else s

/-- The bytes of the gang sender's source from its offset `off` in words on, as words (R358). -/
def State.gangWordsAt (s : State) (off n : Nat) : List Word :=
  let a := (s.rd Reg.waleGangAddrLo).toNat + s.fld Reg.waleGangAddrHi 1 0 * 2 ^ 32
  (List.range n).map (fun i =>
    let x := a + 4 * (off + i)
    if s.bit Reg.waleGangCtl 2 then
      bytesWord (s.hamp.byte x) (s.hamp.byte (x + 1)) (s.hamp.byte (x + 2)) (s.hamp.byte (x + 3))
    else s.flashEngine x)

/-- A GANG block of this device leaves. -/
def State.gangOut (s : State) (off : Nat) (ws : List Word) (first last abort : Bool) : State :=
  let b := { s.ownBlock .gang (s.fld Reg.waleGangCtl 12 4) abort.toNat (s.bit Reg.waleGangCtl 3) (.words ws) with
    addr := BitVec.ofNat 40 off, first := first, last := last, len := Fin.ofNat 256 ws.length }
  if b.bcast then s.bcastOut none b
  else match s.toPort none b with
    | some t => t
    | none => s

/-- The next `n` blocks of the stream are sent; `keep`: the last block of the stream is kept back. -/
def State.gangSend (s : State) (keep : Bool) : Nat → State
  | 0 => s
  | n + 1 =>
    match s.wale.gangTx with
    | none => s
    | some (off, ab) =>
      let total := (s.rd Reg.waleGangLen).toNat / 4
      let k := min 128 (total - off)
      if k = 0 ∨ (keep ∧ total ≤ off + k) then s
      else
        let t := s.gangOut off (s.gangWordsAt off k) (off == 0) (total == off + k) false
        (t.setWale { t.wale with gangTx := some (off + k, ab) }).gangSend keep n

/-- A write of WALE_GANG_CTL with GO (R358). -/
def State.gangGo (s : State) : State :=
  if s.bit Reg.waleGangCtl 16 ∨ s.devid = 511 then s
  else if !s.bit Reg.waleGangCtl 2 && s.flashOpBusy then s.setFld Reg.waleGangCtl 19 17 2
  else ((s.setFld Reg.waleGangCtl 19 17 0).setBit Reg.waleGangCtl 16 true).setWale { s.wale with gangTx := some (0, false) }

/-- A write of ABORT after `blocks` more blocks (R358). -/
def State.gangAbort (s : State) (blocks : Nat) : State :=
  match s.wale.gangTx with
  | some (_, false) =>
    let t := s.gangSend true (min blocks ((s.rd Reg.waleGangLen).toNat / 512 + 1))
    match t.wale.gangTx with
    | some (off, _) =>
      let u := t.gangOut off [] (off == 0) true true
      u.setWale { u.wale with gangTx := some (off, true) }
    | none => t
  | _ => s

/-- A write of WALE_GANG_CTL (R358, R362): the settings hold still while a transfer runs. -/
def State.gangCtlWrite (s : State) (v : Word) : State :=
  let t := if s.bit Reg.waleGangCtl 16 then s else s.plainWrite Reg.waleGangCtl v
  let t := if getBit v 1 then t.gangAbort 0 else t
  if getBit v 0 then t.gangGo else t

/-- Has the gang stream a port to leave on? -/
def State.gangRoute (s : State) : Bool :=
  if s.bit Reg.waleGangCtl 3 then !s.treePorts.isEmpty
  else
    let p := s.routeOf (s.fld Reg.waleGangCtl 12 4)
    decide (p < 6) && s.wpUp p

/-- The transfer ends with a result (R358). -/
def State.gangResult (s : State) (r : Nat) : State :=
  (((s.setFld Reg.waleGangCtl 19 17 r).setBit Reg.waleGangCtl 16 false).setWale { s.wale with gangTx := none }).raise 151

/-- The meaning of WALE_GANG_BLOCK. -/
def execWaleGangBlock (p : Fin 6) (b : WaleBlock) (s : State) : Host.Outcome State Fault Refusal :=
  let b := { b with kind := .gang }
  .next (s.blockIn p.val b false false (fun t => t.gangIn b))

/-- The meaning of WALE_GANG_GO: the settings with GO. -/
def execWaleGangGo (_ag : Agent) (hamper bcast : Bool) (dest : Fin 512) (s : State) : Host.Outcome State Fault Refusal :=
  .next (s.gangCtlWrite (BitVec.ofNat 32 (1 + 4 * hamper.toNat + 8 * bcast.toNat + 16 * dest.val)))

/-- The meaning of WALE_GANG_ABORT: `blocks` blocks have left since the last command on the transfer. -/
def execWaleGangAbort (_ag : Agent) (blocks : Nat) (s : State) : Host.Outcome State Fault Refusal :=
  .next (s.gangAbort blocks)

/-- The meaning of WALE_GANG_SEND_END: the rest of the stream has been sent, or the abort, or the link is
gone; while the hamper holds requests the read waits (R358, R393). -/
def execWaleGangSendEnd (s : State) : Host.Outcome State Fault Refusal :=
  .next (match s.wale.gangTx with
    | none => s
    | some (_, true) => s.gangResult 3
    | some (_, false) =>
      if !s.gangRoute then s.gangResult 4
      else if s.bit Reg.waleGangCtl 2 && s.hampState != 2 && !s.hampServes then s
      else (s.gangSend false ((s.rd Reg.waleGangLen).toNat / 512 + 1)).gangResult 1)

/-- The meaning of WALE_GANG_STREAM_TIMEOUT. -/
def execWaleGangStreamTimeout (s : State) : Host.Outcome State Fault Refusal := .next s.gangEnd

/-! The tree's messages (R351, R352). -/

/-- A message of another form than its subtype's counts as a format fault (R339). -/
def State.badBody (s : State) (p : Nat) : State := s.wpFault p 5

/-- The meaning of WALE_ADVERT. -/
def execWaleAdvert (p : Fin 6) (b : WaleBlock) (s : State) : Host.Outcome State Fault Refusal :=
  .next (s.blockIn p.val { b with kind := .sysctl } true false (fun t =>
    match b.body with
    | .sys (.advert root dist up chain sysdone) =>
      (t.setWp p.val { t.wp p.val with adv := some ⟨b.src.val, root.val, dist.val, up.val, chain, sysdone⟩ }).treeRefresh
    | _ => t.badBody p.val))

/-- The meaning of WALE_ADVERT_TIMER. -/
def execWaleAdvertTimer (s : State) : Host.Outcome State Fault Refusal := .next s.advertiseAll

/-- The meaning of WALE_ADVERT_EXPIRY. -/
def execWaleAdvertExpiry (p : Fin 6) (s : State) : Host.Outcome State Fault Refusal :=
  .next ((s.setWp p.val { s.wp p.val with adv := none }).treeRefresh)

/-- A JOIN from device `x` (R351, R376). -/
def State.joinIn (s : State) (x epoch : Nat) : State :=
  let new := !s.bit (Reg.walePeer x) 8 || decide (s.fld (Reg.walePeer x) 7 0 ≠ epoch)
  let t := (s.peerRecord x epoch).reqsEpoch (fun r => r.dest == x)
  if new then t.semAutoRelease (0x200 + x) else t

/-- The meaning of WALE_JOIN. -/
def execWaleJoin (p : Fin 6) (b : WaleBlock) (s : State) : Host.Outcome State Fault Refusal :=
  let b := { b with kind := .sysctl, bcast := true }
  .next (s.blockIn p.val b false true (fun t =>
    match b.body with
    | .sys (.join e) => t.joinIn b.src.val e.val
    | _ => t.badBody p.val))

/-! Time (R353). -/

/-- A time stamp in picoseconds: the timebase, the place within the TCLK period, the corrections. -/
def State.stampPs (s : State) (kind p : Nat) (fine : Int) : Int :=
  ((s.cad.tb * 1000 / tbUnit : Nat) : Int) + fine +
    Config.stampCorrection kind (signExtend 16 (s.fld (Reg.wpAsym p) 15 0))

/-- A number held in a signed 32-bit register, saturating. -/
def satWord (v : Int) : Word := BitVec.ofInt 32 (max (-2147483648) (min 2147483647 v))

/-- The timebase is stepped by −o, or the loop steers CAD_RATE to a rate the spec leaves open. -/
def State.timeCorrect (s : State) (o : Int) : State :=
  if s.wale.stepNext ∨ 10000000 < o.natAbs then
    (s.tbStep (-o * ((tbUnit / 1000 : Nat) : Int))).setWale { s.wale with stepNext := false }
  else
    let r := s.freshWord
    r.2.wr Reg.cadRate r.1

/-- TLOCK after an exchange with offset `o` (R353). -/
def State.timeLock (s : State) (o : Int) : State :=
  let near := if o.natAbs ≤ 250 then s.wale.nearX + 1 else 0
  let far := if 1000 < o.natAbs then s.wale.farX + 1 else 0
  let t := s.setWale { s.wale with nearX := min 16 near, farX := min 4 far }
  let t := if 16 ≤ near then t.setTlock true else if 4 ≤ far then t.setTlock false else t
  t.chainRefresh

/-- A complete exchange on port `p` (R353). -/
def State.timeUpdate (s : State) (p : Nat) (t1 t2 t3 t4 : Int) : State :=
  let d := ((t4 - t1) - (t3 - t2)) / 2
  let o := t1 - t2 + d
  let t := (s.wr (Reg.wpDelay p) (BitVec.ofInt 32 d)).wr Reg.waleTimeOfs (satWord o)
  (t.timeCorrect o).timeLock o

/-- The meaning of WALE_TIME_EXCHANGE_START. -/
def execWaleTimeExchangeStart (fine : Fin 2500) (s : State) : Host.Outcome State Fault Refusal :=
  let p := s.upPort
  .next (if p = 7 ∨ !s.wpUp p ∨ !s.bit Reg.waleSysCfg 0 then s
    else
      let xn := (s.wale.xn + 1) % 65536
      (s.setWale { s.wale with xn := xn, exch := some ⟨p, xn, s.stampPs 1 p fine.val, none⟩ }).waleEmit p (.tsy false xn))

/-- The meaning of WALE_TSY_REQUEST: the response leaves `turn` picoseconds after the arrival, the
follow-up behind it. -/
def execWaleTsyRequest (p : Fin 6) (xn : Fin 65536) (fine : Fin 2500) (turn : Nat) (junk : Bool) (s : State) :
    Host.Outcome State Fault Refusal :=
  .next (if !s.wpUp p.val then s else if junk then s.wpFault p.val 6
    else
      let t2 := s.stampPs 2 p.val fine.val
      let t3 := s.stampPs 3 p.val (fine.val + turn : Nat)
      (s.waleEmit p.val (.tsy true xn.val)).linkSend p.val
        (s.ownBlock .link (s.peerId p.val) 1 false (.followUp xn t2 t3)))

/-- The meaning of WALE_TSY_RESPONSE. -/
def execWaleTsyResponse (p : Fin 6) (xn : Fin 65536) (fine : Fin 2500) (junk : Bool) (s : State) :
    Host.Outcome State Fault Refusal :=
  .next (if !s.wpUp p.val then s else if junk then s.wpFault p.val 6
    else match s.wale.exch with
      | some e =>
        if e.port = p.val ∧ e.xn = xn.val then
          s.setWale { s.wale with exch := some { e with t4 := some (s.stampPs 4 p.val fine.val) } }
        else s
      | none => s)

/-- A follow-up reaches its exchange; one of the four after a change of lane set is discarded. -/
def State.followUpIn (s : State) (p xn : Nat) (t2 t3 : Int) : State :=
  match s.wale.exch with
  | some ⟨q, y, t1, some t4⟩ =>
    if q = p ∧ y = xn then
      let t := s.setWale { s.wale with exch := none }
      let w := t.wp p
      if 0 < w.skip then t.setWp p { w with skip := w.skip - 1 } else t.timeUpdate p t1 t2 t3 t4
    else s
  | _ => s

/-- The meaning of WALE_TIME_FOLLOW_UP. -/
def execWaleTimeFollowUp (p : Fin 6) (b : WaleBlock) (s : State) : Host.Outcome State Fault Refusal :=
  .next (s.blockIn p.val { b with kind := .link } true false (fun t =>
    match b.body with
    | .followUp xn t2 t3 => t.followUpIn p.val xn.val t2 t3
    | _ => t.badBody p.val))

/-- The meaning of WALE_FOLLOW_UP_TIMEOUT. -/
def execWaleFollowUpTimeout (s : State) : Host.Outcome State Fault Refusal :=
  .next (s.setWale { s.wale with exch := none })

/-! System boundaries (R355). -/

/-- An instant of a message. -/
def msgInstant (num den : Nat) : Instant := { num := num, den := max 1 den }

/-- A fire with SYSTEM = 1 that this device accepted goes to every device (R355). -/
def State.bndSend (s : State) (i : Nat) (x : Instant) : State := s.sysBcast (.bnd (Fin.ofNat 8 i) x.num x.den)

/-- A BND posts a fire here, or its refusal is broadcast (R355). -/
def State.bndIn (s : State) (orig i : Nat) (x : Instant) : State :=
  let t := s.mbPost i x
  if s.mbAnswer i x = .posted then t
  else t.sysBcast (.bndref (Fin.ofNat 512 orig) (Fin.ofNat 8 i) (Fin.ofNat 512 s.devid))

/-- The meaning of WALE_BND. -/
def execWaleBnd (p : Fin 6) (b : WaleBlock) (s : State) : Host.Outcome State Fault Refusal :=
  let b := { b with kind := .sysctl, bcast := true }
  .next (s.blockIn p.val b false false (fun t =>
    match b.body with
    | .sys (.bnd i num den) => t.bndIn b.src.val i.val (msgInstant num den)
    | _ => t.badBody p.val))

/-- A refusal reaches the originator (R355). -/
def State.bndrefIn (s : State) (orig refusing : Nat) : State :=
  if orig ≠ s.devid then s
  else
    let w := s.rd Reg.waleBndref
    let w := if getBit w 31 then w else putBits w 8 0 refusing
    (s.wr Reg.waleBndref (putBit (putBits w 23 16 (min 255 (getBits w 23 16 + 1))) 31 true)).raise 150

/-- The meaning of WALE_BNDREF. -/
def execWaleBndref (p : Fin 6) (b : WaleBlock) (s : State) : Host.Outcome State Fault Refusal :=
  let b := { b with kind := .sysctl, bcast := true }
  .next (s.blockIn p.val b false false (fun t =>
    match b.body with
    | .sys (.bndref orig _ r) => t.bndrefIn orig.val r.val
    | _ => t.badBody p.val))

/-! Readiness (R356). -/

/-- The groups armed with WREADY = 1 on a source. -/
def State.wreadyGroups (s : State) (src : Nat) : List Nat :=
  (List.range 8).filter (fun g => s.cgState g == 1 && s.bit (Reg.cgCfg g) 16 && s.fld (Reg.cgCfg g) 5 0 == src)

/-- The root tallies a vote. -/
def State.tallyVote (s : State) (x : Instant) (dev : Nat) (ready : Bool) : State :=
  s.setWale { s.wale with tally := s.wale.tally ++ [(x, dev, ready)] }

/-- A vote goes toward the root. -/
def State.voteOn (s : State) (x : Instant) (dev : Nat) (ready : Bool) : State :=
  if s.isRoot then s.tallyVote x dev ready
  else if s.upPort = 7 then s
  else s.sysNeighbour s.upPort (.vote x.num x.den ready (Fin.ofNat 512 dev))

/-- The meaning of WALE_VOTE_CUTOFF: for the source's next instant. -/
def execWaleVoteCutoff (src : Fin 64) (s : State) : Host.Outcome State Fault Refusal :=
  .next (match s.sourceNext src.val with
    | none => s
    | some x =>
      let gs := s.wreadyGroups src.val
      if gs = [] then s
      else
        let ready := gs.all (fun g => s.groupWait src.val g true == 0)
        let bays := gs.foldl (fun a g => a ||| (if s.cgRevert g then s.cgLast g else s.cgBays g)) 0
        let t := if ready then s.setWale { s.wale with voted := s.wale.voted ++ [⟨src.val, x, bays⟩] } else s
        t.voteOn x s.devid ready)

/-- The meaning of WALE_VOTE. -/
def execWaleVote (p : Fin 6) (b : WaleBlock) (s : State) : Host.Outcome State Fault Refusal :=
  .next (s.blockIn p.val { b with kind := .sysctl } true false (fun t =>
    match b.body with
    | .sys (.vote num den ready dev) => if t.devid = 511 then t else t.voteOn (msgInstant num den) dev.val ready
    | _ => t.badBody p.val))

/-- A verdict is recorded for the latch-point test. -/
def State.verdictIn (s : State) (x : Instant) (ready : Bool) : State :=
  (s.setBit Reg.waleRdy 0 ready).setWale { s.wale with
    verdicts := s.wale.verdicts.filter (fun v => !v.1.same x) ++ [(x, ready)] }

/-- Is a device in the roster? -/
def State.inRoster (s : State) (d : Nat) : Bool := s.bit (Reg.waleRoster (d / 32)) (d % 32)

/-- The verdict the root forms for `x`. -/
def State.verdictFor (s : State) (x : Instant) : Bool :=
  let vs := s.wale.tally.filter (fun v => v.1.same x)
  vs.all (fun v => v.2.2) && (List.range 512).all (fun d => !s.inRoster d || vs.any (fun v => v.2.1 == d))

/-- The meaning of WALE_VERDICT_TIMER: at the root, for an instant that votes have come in for. -/
def execWaleVerdictTimer (num den : Nat) (s : State) : Host.Outcome State Fault Refusal :=
  let x := msgInstant num den
  .next (if s.isRoot ∧ s.wale.tally.any (fun v => v.1.same x) then
    let r := s.verdictFor x
    let t := s.setWale { s.wale with tally := s.wale.tally.filter (fun v => !v.1.same x) }
    (t.sysBcast (.verdict x.num x.den r)).verdictIn x r
  else s)

/-- The meaning of WALE_VERDICT. -/
def execWaleVerdict (p : Fin 6) (b : WaleBlock) (s : State) : Host.Outcome State Fault Refusal :=
  let b := { b with kind := .sysctl, bcast := true }
  .next (s.blockIn p.val b false false (fun t =>
    match b.body with
    | .sys (.verdict num den r) => t.verdictIn (msgInstant num den) r
    | _ => t.badBody p.val))

/-- The verdict that has arrived for an instant. -/
def State.verdictOf (s : State) (x : Instant) : Option Bool := (s.wale.verdicts.find? (fun v => v.1.same x)).map Prod.snd

/-- What a latch point of `src` at `x` reports after the groups' test `after` (R356): MISS without a
verdict, BROKEN and ALARM when a READY verdict meets a group that fails. -/
def State.readyReport (s after : State) (src : Nat) (x : Instant) : State :=
  let gs := s.wreadyGroups src
  let t := after.setWale { after.wale with
    voted := after.wale.voted.filter (fun v => !(v.src == src && v.at_.same x))
    verdicts := after.wale.verdicts.filter (fun v => !v.1.same x) }
  if gs = [] then t
  else match s.verdictOf x with
    | none => (t.setBit Reg.waleRdy 1 true).raise 150
    | some false => t
    | some true =>
      if gs.all (fun g => after.cgState g == 2) then t
      else ((t.setBit Reg.waleRdy 2 true).raise 150).sysBcast (.alarm x.num x.den (Fin.ofNat 512 s.devid))

/-- The meaning of WALE_ALARM. -/
def execWaleAlarm (p : Fin 6) (b : WaleBlock) (s : State) : Host.Outcome State Fault Refusal :=
  let b := { b with kind := .sysctl, bcast := true }
  .next (s.blockIn p.val b false false (fun t =>
    match b.body with
    | .sys (.alarm _ _ dev) => ((t.setFld Reg.waleRdy 16 8 dev.val).setBit Reg.waleRdy 3 true).raise 150
    | _ => t.badBody p.val))

/-! System DONE (R357). -/

/-- The conditions for DONE_UP. -/
def State.doneConditions (s : State) : Bool :=
  (!s.boot.doneLow || s.mode == 6) &&
    (List.range 6).all (fun p => !s.bit Reg.waleId (12 + p) || s.wpUp p) &&
    (List.range 6).all (fun p => !s.isChild p || (s.wp p).kidDone)

/-- The root declares system DONE: SYSDONE with root time + LEAD. -/
def State.sysdoneSend (s : State) : State :=
  let x := s.now.addNs (s.fld Reg.waleLead 23 0)
  let t := s.sysBcast (.sysdone x.num x.den)
  t.setWale { t.wale with sysSent := true, sysAt := if t.bit Reg.waleTree 23 then t.wale.sysAt else some x }

/-- The roster takes every device the peer table marks PRESENT. -/
def State.rosterTake (s : State) : State :=
  (List.range 16).foldl (fun t n => t.wr (Reg.waleRoster n) (wordOf (fun i => s.bit (Reg.walePeer (32 * n + i)) 8))) s

/-- The meaning of WALE_DONE_UP_SEND. -/
def execWaleDoneUpSend (s : State) : Host.Outcome State Fault Refusal :=
  .next (if !s.doneConditions then s
    else if s.isRoot then (if s.wale.sysSent then s else s.rosterTake.sysdoneSend)
    else if s.upPort = 7 ∨ s.bit Reg.waleTree 24 then s
    else (s.sysNeighbour s.upPort (.doneUp (Fin.ofNat 512 s.devid))).setBit Reg.waleTree 24 true)

/-- The meaning of WALE_DONE_UP. -/
def execWaleDoneUp (p : Fin 6) (b : WaleBlock) (s : State) : Host.Outcome State Fault Refusal :=
  .next (s.blockIn p.val { b with kind := .sysctl } true false (fun t =>
    match b.body with
    | .sys (.doneUp _) =>
      let t := t.setWp p.val { t.wp p.val with kidDone := true }
      if t.isRoot ∧ t.wale.sysSent then t.sysdoneSend else t
    | _ => t.badBody p.val))

/-- The meaning of WALE_SYSDONE. -/
def execWaleSysdone (p : Fin 6) (b : WaleBlock) (s : State) : Host.Outcome State Fault Refusal :=
  let b := { b with kind := .sysctl, bcast := true }
  .next (s.blockIn p.val b false false (fun t =>
    match b.body with
    | .sys (.sysdone num den) =>
      if t.bit Reg.waleTree 23 then t else t.setWale { t.wale with sysAt := some (msgInstant num den) }
    | _ => t.badBody p.val))

/-- The meaning of WALE_SYSTEM_DONE_INSTANT. -/
def execWaleSystemDoneInstant (s : State) : Host.Outcome State Fault Refusal :=
  .next (if s.wale.sysAt.isSome then
    let t := (s.setWale { s.wale with sysAt := none }).setBoot { s.boot with sysDone := true }
    (((t.setBit Reg.waleTree 23 true).raise 149).advertiseAll)
  else s)

/-! Sleep (R360). -/

/-- The meaning of WALE_SLEEP_MSG. -/
def execWaleSleepMsg (p : Fin 6) (b : WaleBlock) (s : State) : Host.Outcome State Fault Refusal :=
  let b := { b with kind := .sysctl, bcast := true }
  .next (s.blockIn p.val b false false (fun t =>
    match b.body with
    | .sys (.sleep w) => (t.setBit (Reg.walePeer b.src.val) 9 true).setBit (Reg.walePeer b.src.val) 10 w
    | _ => t.badBody p.val))

/-- A device is awake: the blocks held for it are sent in their order. -/
def State.awakeIn (s : State) (x : Nat) : State :=
  let t := (s.setBit (Reg.walePeer x) 9 false).setBit (Reg.walePeer x) 10 false
  let mine := t.wale.held.filter (fun h => h.1 == x)
  let t := t.setWale { t.wale with held := t.wale.held.filter (fun h => h.1 != x) }
  mine.foldl (fun t h => t.routeOn none h.2) t

/-- The meaning of WALE_AWAKE. -/
def execWaleAwake (p : Fin 6) (b : WaleBlock) (s : State) : Host.Outcome State Fault Refusal :=
  let b := { b with kind := .sysctl, bcast := true }
  .next (s.blockIn p.val b false false (fun t =>
    match b.body with
    | .sys .awake => t.awakeIn b.src.val
    | _ => t.badBody p.val))

/-- The meaning of WALE_WAKE. -/
def execWaleWake (p : Fin 6) (b : WaleBlock) (s : State) : Host.Outcome State Fault Refusal :=
  .next (s.blockIn p.val { b with kind := .sysctl } true false (fun t =>
    match b.body with
    | .sys (.wake x) =>
      if t.devid = 511 ∨ x.val = t.devid ∨ b.hops = 0 ∨ t.routeOf x.val = p.val then t
      else t.wakeToward x.val { b with kind := .sysctl, hops := b.hops - 1 }
    | _ => t.badBody p.val))

/-- Before SLEEP: SLEEP is broadcast, each link told, the lanes idle (R360). -/
def State.waleSleep (s : State) : State :=
  let t := s.sysBcast (.sleep (s.bit Reg.waleSysCfg 4))
  let t := t.upPorts.foldl (fun t p => (((t.waleEmit p (.lmg 3 0)).wpClear p).setFld (Reg.wpStat p) 1 0 3).wpEvent p 0) t
  t.setWale { t.wale with slept := true, exch := none }

/-- After a wake from SLEEP every enabled port trains (R360). -/
def State.waleWake (s : State) : State :=
  (List.range 6).foldl (fun t p => if t.bit (Reg.wpCtl p) 0 then t.wpStart p else t) s

/-- A write of WALE_SYS_CFG (R353, R362). -/
def State.waleCfgWrite (s : State) (v : Word) : State := (s.plainWrite Reg.waleSysCfg v).waleTimeRefresh

end Sys2Proof.Machine
end

