-- ==== Sys2Proof/Machine/Loading.lean ====
section
/-! DEFINITION. The boot sequence: restarts, KEEPER BOOT, START TEST, LOADING with its priority stage and
main commit, RELEASE, and the journal's erase (R20, R21, R200 to R229, R438). -/
namespace Sys2Proof.Machine

/-! The boot directory (R204 to R206). -/

/-- The word at an offset of directory copy `c`. -/
def FlashState.dirWord (f : FlashState) (c o : Nat) : Nat := (f.word32 (infoAddr (0x20000 + 0x1000 * c + o))).toNat

/-- The image entries of a copy. -/
def FlashState.dirImages (f : FlashState) (c : Nat) : List BootImage :=
  (List.range 4).map (fun i =>
    let w (o : Nat) : Nat := f.dirWord c (0x40 + 0x20 * i + o)
    { valid := (w 0).testBit 0, prio := (w 0).testBit 1, offset := w 4, length := w 8, prioLen := w 12 })

/-- Is an image entry legal (R206)?  `flash`: BOOTSRC is 0b00. -/
def BootImage.legal (e : BootImage) (flash : Bool) : Bool :=
  !e.valid || (decide (e.offset % 4 = 0) && decide (e.length % 4 = 0) && decide (e.length ≠ 0) &&
    (if e.prio then decide (e.prioLen % 4 = 0) && decide (4 ≤ e.prioLen) && decide (e.prioLen + 4 ≤ e.length)
     else decide (e.prioLen = 0)) &&
    (!flash || decide (e.offset + e.length ≤ 2 ^ 30)))

/-- Are a copy's fields legal, its reserved fields 0 (R204, R205)? -/
def FlashState.dirLegal (f : FlashState) (c bootsrc : Nat) (refsel : Bool) : Bool :=
  let w := f.dirWord c
  let nibbles (v : Nat) : Bool := (List.range 8).all (fun i => decide (v / 16 ^ i % 16 ≤ 5))
  nibbles (w 0xC) && nibbles (w 0x10) &&
    decide (w 0x14 % 2 = 0) && decide (w 0x14 < 512) && decide (w 0x18 < 2 ^ 22) &&
    (!refsel || (decide (10000000 ≤ w 0x1C) && decide (w 0x1C ≤ 200000000))) &&
    decide (w 0x20 < 2 ^ 18) && decide (w 0x24 < 2 ^ 23) && decide (w 0x24 / 2 ^ 16 % 4 ≤ 1) &&
    (decide (w 0x24 / 2 ^ 16 % 4 = 0) || decide (4 ≤ w 0x24 / 2 ^ 18 % 32)) &&
    [0x34, 0x38, 0x3C].all (fun o => decide (w o = 0)) &&
    (List.range 4).all (fun i => decide (w (0x40 + 0x20 * i) < 4) &&
      [0x10, 0x14, 0x18, 0x1C].all (fun o => decide (w (0x40 + 0x20 * i + o) = 0))) &&
    (f.dirImages c).all (fun e => e.legal (bootsrc == 0)) &&
    (List.range 975).all (fun i => decide (w (0xC0 + 4 * i) = 0))

/-- Is a copy valid (R204)? -/
def FlashState.dirValid (f : FlashState) (c bootsrc : Nat) (refsel : Bool) : Bool :=
  decide (f.dirWord c 0 = 0x6D4B0E27) && decide (f.dirWord c 4 = 1) &&
    decide (f.dirWord c 0xFFC = crc32 (f.bytes (infoAddr (0x20000 + 0x1000 * c)) 0xFFC)) && f.dirLegal c bootsrc refsel

/-- A copy's fields (R205). -/
def FlashState.dirOf (f : FlashState) (c : Nat) : BootDir :=
  let w := f.dirWord c
  { copy := c, seq := w 8, bankv := w 0xC + w 0x10 * 2 ^ 32, faultMask := w 0x14 / 2, doneWait := w 0x18 % 2 ^ 16
    doneFilter := w 0x18 / 2 ^ 16 % 16, doneLate := (w 0x18).testBit 20, waleDone := (w 0x18).testBit 21
    refhz := w 0x1C, devid := w 0x20 % 2 ^ 9, gclass := w 0x20 / 2 ^ 9 % 8, ports := w 0x20 / 2 ^ 12 % 64
    srcWait := w 0x24 % 2 ^ 16, xspi := w 0x24 / 2 ^ 16
    prioBays := w 0x28 + w 0x2C * 2 ^ 32 + w 0x30 * 2 ^ 64, images := f.dirImages c }

/-- The copy the keeper takes (R204). -/
def FlashState.dirPick (f : FlashState) (bootsrc : Nat) (refsel : Bool) : Option BootDir :=
  match f.dirValid 0 bootsrc refsel, f.dirValid 1 bootsrc refsel with
  | true, true => some (f.dirOf (if serialLater (2 ^ 32) (f.dirWord 1 8) (f.dirWord 0 8) then 1 else 0))
  | true, false => some (f.dirOf 0)
  | false, true => some (f.dirOf 1)
  | false, false => none

/-- The keeper reads the directory and records the outcome (R204, R226). -/
def State.readDir (s : State) : State :=
  let d := s.flash.dirPick (s.fld Reg.sysBoot 1 0) (s.bit Reg.clkStatus 0)
  let copy := (d.map BootDir.copy).getD 0
  let t := s.setBoot { s.boot with dir := d, prioBays := (d.map BootDir.prioBays).getD 0 }
  let t := (t.setBit Reg.sysBoot 6 d.isSome).setBit Reg.sysBoot 7 (copy == 1)
  t.journal 0x03 (if d.isSome then jPass else jFail) 0 t.bootSource 0 copy

/-- A field of the directory in use, `none` giving the values of R208. -/
def State.dirField {α : Type} (s : State) (f : BootDir → α) (other : α) : α := (s.boot.dir.map f).getD other

/-! Restarts of the keeper (R10, R20, R201, R203). -/

/-- The straps are latched, the pull-ups go off and the XWAIT time starts (R202, R203, R26, R115). -/
def State.strapLatch (s : State) (v : BitVec 7) : State :=
  let refsel := v.getLsbD 4
  let t := s.setFld Reg.sysBoot 3 0 (v.toNat % 16)
  let w := putBits (putBit (t.rd Reg.clkStatus) 0 refsel) 2 1 (v.toNat / 32)
  let t := t.wr Reg.clkStatus (putBit (putBit w 3 refsel) 8 (!refsel))
  t.setBoot { t.boot with straps := v.toNat, pullups := false, latchDue := false, xwaitDone := !refsel }

/-- KEEPER BOOT starts with a boot cause (R201). -/
def State.keeperStart (s : State) (cause : Nat) : State := s.restart.setFld Reg.sysBoot 15 12 cause

/-- The meaning of VIN_FALL: POWER-UP begins, also from POWER-UP, where it clears the fault that stopped the
power-up order (R25, R435). -/
def execVinFall (s : State) : Host.Outcome State Fault Refusal :=
  let t := s.restart
  let t := { t with keys := { t.keys with ir := 1, token := none }, boot := { t.boot with vin := false } }
  .next (t.wr Reg.sysMode (BitVec.ofNat 32 (1 + 16 * s.mode)))

/-- The meaning of POWER_UP_COMPLETE: not while a regulator fault stops the power-up order (R25).  The boot's times
go on from the start of POWER-UP (R201). -/
def execPowerUpComplete (straps : BitVec 7) (s : State) : Host.Outcome State Fault Refusal :=
  .next (if s.mode ≠ 1 ∨ railRegs.any (fun o => s.bit o 18) then s
  else
    let t := s.keeperStart 0
    (t.setBoot { t.boot with ticks := s.boot.ticks, start := s.boot.start, vin := true }).strapLatch straps)

/-- The meaning of RESET_N_FALL (R203, R299, R361). -/
def execResetNFall (s : State) : Host.Outcome State Fault Refusal :=
  .next (((s.setBoot { s.boot with resetLow := true, pullups := true }).walePortsDrop).flashAbandon)

/-- The meaning of RESET_N_RISE. -/
def execResetNRise (s : State) : Host.Outcome State Fault Refusal :=
  .next (if !s.boot.resetLow then s
  else
    let t := s.setBoot { s.boot with resetLow := false }
    if s.powerStopped then t
    else State.keepRegs s (t.keeperStart 1) [Reg.lcZcause] |> fun u =>
      railRegs.foldl (fun u o => u.setBit o 18 (s.bit o 18)) u)

/-- The meaning of STRAP_LATCH. -/
def execStrapLatch (straps : BitVec 7) (s : State) : Host.Outcome State Fault Refusal :=
  .next (if s.mode = 2 ∧ s.boot.latchDue then s.strapLatch straps else s)

/-- The meaning of XWAIT_EXPIRY (R117). -/
def execXwaitExpiry (present : Bool) (s : State) : Host.Outcome State Fault Refusal :=
  .next (if s.boot.xwaitDone then s
  else
    let t := (s.setBoot { s.boot with xwaitDone := true }).setBit Reg.clkStatus 8 true
    if present then t.setBit Reg.clkStatus 4 true
    else
      let t := ((t.setBit Reg.clkStatus 3 false).setBit Reg.clkStatus 5 true).raise 255
      t.journal 0x04 jFail 0 t.bootSource 0 0)

/-! KEEPER BOOT and START TEST (R200 steps 2 to 5). -/

/-- The registers that show the boot's number `num` and the vendor (R225, R344, R366). -/
def State.bootNames (s : State) (num : Nat) : State :=
  let t := s.wr Reg.sysBootnum (BitVec.ofNat 32 num)
  let t := t.wr Reg.waleId (BitVec.ofNat 32 (511 + 0x3F * 2 ^ 12 + num % 256 * 2 ^ 24))
  [0, 1].foldl (fun t p => t.setFld (Reg.hpId p) 15 0 Config.vendorId.toNat) t

/-- What the keeper does in KEEPER BOOT before its records: clocks, fuses and the flash ledger. -/
def State.keeperReads (s : State) (agree xref : Bool) : State :=
  let t := s.setRails [0, 1, 9] true
  let t := ((t.setBit Reg.clkStatus 9 xref).setBit Reg.clkStatus 7 true).hubClockSwitch
  ((t.lcDecode agree).fuseBoot).ledgerBuild

/-- What the keeper does in KEEPER BOOT whatever the life cycle is. -/
def State.keeperWork (s : State) (agree xref : Bool) : State :=
  let t := s.keeperReads agree xref
  let t := (t.setBoot { t.boot with half := t.flash.journalHalf }).bootNames (t.flash.nextBootNum % 2 ^ 32)
  t.journal 0x01 jPass (t.fld Reg.sysBoot 15 12) 0 0 0

/-- A test token that is complete in LC_TOKEN is evaluated (R461): true when FACTORY TEST follows. -/
def State.testToken (s : State) (vinOk : Bool) : Bool × State :=
  match s.keys.token with
  | none => (false, s)
  | some b =>
    match reqCheck s.keys.fuses 4 true b vinOk with
    | some code => (false, (s.lcResult true code).raise 313)
    | none =>
      let t := (s.blow (reqFuses s.keys.fuses b)).zeroiseKey 4
      (true, (((t.lcRefresh).lcResult true 1).raise 314).raise 312)

/-- Entry to FACTORY TEST (R468, R361). -/
def State.factory (s : State) : State := (s.enterMode 0xC).walePortsDrop

/-- START TEST begins: both wythes are powered at PL7 and the key register is cleared (R414, R463). -/
def State.startTest (s : State) : State :=
  (((s.readDir.enterMode 3).setRails [2, 3] true).setLevels 7 7).keyClear

/-- The end of KEEPER BOOT: the mode that the life-cycle state gives (R20, R448, R461). -/
def State.keeperEnds (s : State) (vinOk : Bool) : State :=
  match s.lcState with
  | 0 => s.factory
  | 1 => s.factory
  | 2 => s.startTest
  | 3 => s.startTest
  | 4 => (match s.testToken vinOk with
    | (true, u) => u.factory
    | (false, u) => u.startTest)
  | 5 => s.enterSafe 4 0
  | _ => s.enterSafe 3 0

/-- The meaning of KEEPER_BOOT_COMPLETE: `agree`, the two senses of the fuse array agree; `xref`, XREF is
present; `vinOk`, VIN has been high enough for a token's burn. -/
def execKeeperBootComplete (agree xref vinOk : Bool) (s : State) : Host.Outcome State Fault Refusal :=
  .next (if s.mode ≠ 2 ∨ s.boot.latchDue then s else (s.keeperWork agree xref).keeperEnds vinOk)

/-! LOADING, step 6 (R21, R200, R207, R217, R227, R440). -/

/-- The adjustments that the journal gives (R227): IMG_SKIP, PRIO_DEFER, HAMP_CONS, QUAD_DEFER as
SYS_BOOTADJ holds them.  A failed attempt over a host port or Wale names no entry. -/
def State.adjustments (s : State) : Word :=
  match s.boot.dir with
  | none => 0
  | some d =>
    let rs := s.flash.allRecords
    let after := (rs.reverse.takeWhile (fun r => decide (recStep r ≠ 0x0C))).filter
      (fun r => decide (recDirSeq r = d.seq) && decide (recOutcome r = 1))
    after.foldl (fun w r => match recStep r with
      | 5 => if recImage r < 4 ∧ recSource r ≤ 1 then putBit w (recImage r) true else w
      | 6 => putBit w 4 true
      | 7 => if recArg r < 16 then putBit w (16 + recArg r) true else w
      | 8 => putBit w 5 true
      | _ => w) 0

/-- The banks take the directory's codes: a bank in the 1 ms off of an earlier change stays off until it ends
(R207). -/
def State.applyBanks (s : State) : State :=
  let new := s.dirField BootDir.bankv 0
  let t := (List.range 16).foldl (fun t b =>
    let o := s.boot.bankv / 16 ^ b % 16
    let n := new / 16 ^ b % 16
    if n = 0 then (t.setRail (10 + b) false).setBoot { t.boot with repower := t.boot.repower.filter (· != b) }
    else if t.boot.repower.contains b then t
    else if o = n ∧ t.railOn (10 + b) then t
    else if t.railOn (10 + b) then (t.setRail (10 + b) false).setBoot { t.boot with repower := t.boot.repower ++ [b] }
    else t.setRail (10 + b) true) s
  t.setBoot { t.boot with bankv := new }

/-- The meaning of BANK_REPOWER. -/
def execBankRepower (b : Fin 16) (s : State) : Host.Outcome State Fault Refusal :=
  .next (if s.boot.repower.contains b.val then
    (s.setRail (10 + b.val) true).setBoot { s.boot with repower := s.boot.repower.filter (· != b.val) }
  else s)

/-- The Wale boot settings, and the ports named in PORTS (R207, R344, R361). -/
def State.applyWale (s : State) : State :=
  let ports := s.dirField BootDir.ports 0x3F
  let t := ((s.setFld Reg.waleId 8 0 (s.dirField BootDir.devid 511)).setFld Reg.waleId 11 9 (s.dirField BootDir.gclass 0)).setFld
    Reg.waleId 17 12 ports
  let t := (List.range 6).foldl (fun t p =>
    if ports.testBit p then
      let t := t.setBit (Reg.wpCtl p) 0 true
      if t.wpState p = 0 then t.wpStart p else t
    else t) t
  t.treeRefresh

/-- The quads the stream source uses (R210, R217). -/
def State.sourceQuads (s : State) : Nat :=
  match s.fld Reg.sysBoot 1 0 with
  | 2 => if s.fld (Reg.hpCtl 0) 5 4 = 3 then 3 else 1
  | 3 => (List.range 6).foldl (fun m p =>
      if (s.dirField BootDir.ports 0x3F).testBit p then m ||| (if s.fld (Reg.wpCtl p) 2 1 = 3 then 3 else 1) * 2 ^ (2 * p + 2) else m) 0
  | _ => 0

/-- The quads that are never deferred (R217). -/
def State.keptQuads (s : State) : Nat :=
  (List.range 96).foldl (fun m b => if s.boot.prioBays.testBit b then m ||| 2 ^ bayBand b else m) s.sourceQuads

/-- The calibration of every quad that is not deferred starts (R217, R227). -/
def State.startCals (s : State) : State :=
  let kept := s.keptQuads
  let t := s.setBoot { s.boot with srcQuads := s.sourceQuads, calPend := 0 }
  (List.range 16).foldl (fun t q =>
    if t.bit Reg.sysBootadj (16 + q) && !kept.testBit q then
      ((t.setFld (Reg.qstat q) 6 2 24).quadRefresh q).journal 0x07 jSkipped 0 t.bootSource 0 q
    else
      let pd := if t.bit (Reg.qstat q) 3 then 0 else 8
      ((t.setFld (Reg.qstat q) 6 2 (1 + pd)).quadRefresh q).setBoot { t.boot with calPend := t.boot.calPend ||| 2 ^ q }) t

/-- The keeper erases the journal half that is not in use (R225). -/
def State.journalErase (s : State) : State :=
  let t := (s.setBoot { s.boot with eraseDue := false }).setFld (Reg.sem 1) 15 0 (agentIdent .keeper)
  let t := t.startErase .keeper 0 (4105 + (1 - s.boot.half))
  if t.flash.op.isSome then t else t.semFree 1

/-- Is an erase of the other half to be made at step 6 (R225)? -/
def State.eraseAtStep6 (s : State) : Bool :=
  s.boot.eraseDue || (decide (s.flash.journalNext s.boot.half = 8192) && !(s.flash.slotsUsed (1 - s.boot.half)).isEmpty)

/-- The first image attempt, with a record for each image passed over (R208, R211). -/
def State.firstAttempt (s : State) : State :=
  let skipped := match s.boot.dir with
    | some d => if s.fld Reg.sysBoot 1 0 ≤ 1 then
        [0, 1, 2, 3].filter (fun i => s.bit Reg.sysBootadj i && ((d.images[i]?).map BootImage.valid).getD false) else []
    | none => []
  (skipped.foldl (fun t i => (t.setFld Reg.sysBoot 5 4 i).journal 0x05 jSkipped 0 t.bootSource 0 0) s).nextAttempt

/-- Step 6 of the boot sequence, its directory read. -/
def State.step6 (s : State) (sounded : Nat) : State :=
  let adj := s.adjustments
  let t := (s.wr Reg.sysBootadj adj).setBit Reg.sysBoot 8 (getBit adj 4)
  let t := (t.setFld Reg.sysFaultMask 8 1 (t.dirField BootDir.faultMask 0)).wr Reg.cadRefhz (BitVec.ofNat 32 (t.dirField BootDir.refhz 0))
  let t := ((t.applyBanks).setRails [4, 5, 6] true).setRails [7, 8] true
  let t := (t.lanesRefresh).hampTrainStart (getBit adj 5)
  let t := t.setBoot { t.boot with
    hampDone := false, unsounded := 2 ^ 96 - 1 - sounded % 2 ^ 96, tried := [], prioLate := false, committed := false
    rel := .idle, attempt := false, reading := false, prioPhase := .idle, prioJob := none, mainJob := none }
  let t := ((t.startCals).applyWale).coreRelease 0
  (if t.eraseAtStep6 then t.journalErase else t).firstAttempt

/-- Entry to LOADING (R21, R30, R220, R265, R299, R376). -/
def State.loadingEntry (s : State) : State :=
  let t := s.setBoot { s.boot with attempt := false, reading := false, attemptDue := false, rel := .idle }
  let t := (t.flashAbandon).enterMode 4
  let t := (((t.setBit Reg.sysMode 8 false).holdDevice).clearGroups).clearConfig
  let t := (t.driveDone true).semAllFree
  let t := { t.pntLoading with pwr := t.pwr.dropped }
  (t.setFld Reg.pwrStat 10 8 0).stageRefresh

/-- Does R27 let a reload leave the mode?  With cause 0x06, once every sensor reads below 100 °C on a boot
whose START TEST passed. -/
def State.reloadAllowed (s : State) : Bool :=
  match s.mode with
  | 4 => true
  | 5 => true
  | 6 => true
  | 7 => true
  | 0xB => s.safeCause == 1 || s.safeCause == 5 ||
      (s.safeCause == 6 && s.boot.tested && s.pwr.temps.all (fun t => decide (t.toInt < 100)))
  | _ => false

/-- A reload: LOADING from step 6, with the domains and keys that SAFE HOLD took restored (R21, R200, R201,
R415, R463). -/
def State.reloadNow (s : State) (cause : Nat) : State :=
  if !s.reloadAllowed then s
  else
    let back := s.mode == 0xB && s.safeCause == 6
    let t := s.sndReload.loadingEntry
    let t := if back then (t.setRails [2, 3] true).setLevels 7 7 else t
    let t := (t.setFld Reg.sysBoot 15 12 cause).setBoot { t.boot with start := t.boot.ticks }
    let t := ((t.wr Reg.sysTPrio 0).wr Reg.sysTRun 0).setBit Reg.waleTree 24 false
    let t := t.journalFlush
    let t := t.wr Reg.sysBootnum (BitVec.ofNat 32 (t.flash.nextBootNum % 2 ^ 32))
    let t := (t.setFld Reg.sndBoot 7 0 0).journal 0x01 jPass cause 0 0 0
    ((t.keyLoad).readDir).step6 0

/-- The meaning of START_TEST_COMPLETE: `hub`, the hub passed; `rep`, what the sounding of the priority
bays found (R438, R439, R463). -/
def execStartTestComplete (hub : Bool) (rep : SoundReport) (s : State) : Host.Outcome State Fault Refusal :=
  .next (if s.mode ≠ 3 then s
  else
    let bays := (List.range 96).filter s.boot.prioBays.testBit
    let r := s.soundBays bays rep
    if !hub ∨ s.unrepairedMark ∨ r.2 ≠ [] then
      (((r.1.raise 305).journal 0x02 jFail 0 r.1.bootSource 0 0)).enterSafe 2 0
    else
      let soft := decide (r.1.fld Reg.sndBoot 7 0 ≠ 0)
      let t := r.1.journal 0x02 (if soft then jAltered else jPass) 0 r.1.bootSource 0 0
      let t := (t.keyLoad).setBoot { t.boot with tested := true }
      (t.loadingEntry).step6 s.boot.prioBays)

/-- The meaning of SRC_WAIT_EXPIRY (R210): not while PROGRAM_N is held low (R21). -/
def execSrcWaitExpiry (s : State) : Host.Outcome State Fault Refusal :=
  .next (if s.mode = 4 ∧ !s.boot.programLow ∧ 2 ≤ s.fld Reg.sysBoot 1 0 ∧ s.dirField BootDir.srcWait 0 ≠ 0 ∧ s.boot.reading ∧
      s.boot.tried = [] ∧ !s.eng.arrived ∧ s.boot.calPend &&& s.boot.srcQuads = 0 then s.enterSafe 1 0
  else s)

/-! The priority stage (R214 to R216). -/

/-- A part is ready to commit: its lock wait and its staged-verify pass have ended. -/
def PartJob.ready (j : PartJob) : Bool := !j.locking && !j.verifying

/-- The microseconds since the boot start. -/
def State.bootUs (s : State) : Word := BitVec.ofNat 32 (s.bootTicks / 400)

/-- A full load's part commits: its units flip, go CLEAR and stay in INIT hold (R214, R217, R251). -/
def State.partCommit (s : State) (j : PartJob) : State :=
  let us := unitsOf j.bays j.edge
  ((s.commitEdge us).setUnits us 0).stageRefresh

/-- The meaning of PRIORITY_COMMIT: cycle 0, the bond cells of the priority bays stop clamping. -/
def execPriorityCommit (s : State) : Host.Outcome State Fault Refusal :=
  .next (match s.boot.prioJob with
  | some j =>
    if s.mode = 4 ∧ j.ready ∧ s.boot.prioPhase = .idle ∧ s.hubOnSynth then
      let t := s.partCommit j
      let t := (unitsOf j.bays j.edge).foldl (fun t u => t.setBond u false) t
      t.setBoot { t.boot with prioPhase := .bond, prioJob := none }
    else s
  | none => s)

/-- Bays leave INIT hold. -/
def State.leaveInit (s : State) (bays : Nat) : State :=
  (unitsOf bays 0).foldl (fun t b => (t.setInit b false).setBit (Reg.pntHold (b / 32)) (b % 32) false) s

/-- The edge columns' outputs are enabled. -/
def State.enableOuts (s : State) (edge : Nat) : State :=
  ((List.range 16).filter edge.testBit).foldl (fun t k => t.setOut k true) s

/-- The meaning of PRIORITY_INIT_LEAVE: cycle 8. -/
def execPriorityInitLeave (s : State) : Host.Outcome State Fault Refusal :=
  .next (if s.mode = 4 ∧ s.boot.prioPhase = .bond then
    (s.leaveInit s.boot.prioBound).setBoot { s.boot with prioPhase := .init }
  else s)

/-- The meaning of PRIORITY_OUTPUT_ENABLE: cycle 16, the priority bays are live. -/
def execPriorityOutputEnable (s : State) : Host.Outcome State Fault Refusal :=
  .next (if s.mode = 4 ∧ s.boot.prioPhase = .init then
    let t := s.setBoot { s.boot with prioPhase := .outputs }
    let t := (((t.enableOuts s.boot.prioEdge).setBit Reg.sysMode 8 true).wr Reg.sysTPrio s.bootUs).raise 178
    t.journal 0x06 jPass 0 t.bootSource 0 0
  else s)

/-- The meaning of PRIORITY_STAGE_TIMEOUT (R215): bays that had committed return to their holds and are
released with the others. -/
def execPriorityStageTimeout (s : State) : Host.Outcome State Fault Refusal :=
  .next (if s.mode ≠ 4 ∨ s.boot.prioLate then s
  else
    let t := s.setBoot { s.boot with prioLate := true }
    match s.boot.prioPhase with
    | .outputs => t
    | .waitDone => t
    | .idle => if s.boot.prioJob.isSome then t.prioDefer jFail else t
    | _ =>
      let us := unitsOf s.boot.prioBound s.boot.prioEdge
      ((unitsOf s.boot.prioBound 0).foldl (fun t b => t.bayInit b) (t.bondStart us)).prioDefer jFail)

/-! The main commit (R217). -/

/-- The parts that commit together, when every wait of R217 has ended. -/
def State.mainReady (s : State) : Option (List PartJob) :=
  match s.boot.mainJob with
  | none => none
  | some m =>
    let prioOk : Bool := match s.boot.prioPhase with
      | .idle => s.boot.prioJob.isNone
      | .outputs => true
      | .waitDone => (s.boot.prioJob.map PartJob.ready).getD true
      | _ => false
    if s.mode = 4 ∧ !s.boot.committed ∧ m.ready ∧ prioOk ∧ s.boot.hampDone ∧ s.boot.calPend = 0 ∧ s.hubOnSynth then
      some (m :: s.boot.prioJob.toList)
    else none

/-- The meaning of MAIN_COMMIT. -/
def execMainCommit (s : State) : Host.Outcome State Fault Refusal :=
  .next (match s.mainReady with
  | none => s
  | some js =>
    let t := js.foldl State.partCommit s
    let t := t.setBoot { t.boot with committed := true, attempt := false, reading := false, mainJob := none, prioJob := none }
    (t.journalFlush).journal 0x05 jPass 0 t.bootSource 0 0)

/-! RELEASE (R220 to R223). -/

/-- The units RELEASE acts on: those not live already (R222). -/
def State.releaseSets (s : State) : Nat × Nat :=
  if s.bit Reg.sysMode 8 then (2 ^ 96 - 1 - s.boot.prioBound, 2 ^ 16 - 1 - s.boot.prioEdge) else (2 ^ 96 - 1, 2 ^ 16 - 1)

/-- The bond release phase. -/
def State.bondRelease (s : State) : State :=
  let t := (unitsOf s.boot.relBays s.boot.relEdge).foldl (fun t u => t.setBond u false) s
  t.setBoot { t.boot with rel := .bond }

/-- Entry to RUN (R20, R226, R229): the journal's erase falls due (R225). -/
def State.enterRun (s : State) : State :=
  let t := s.journal 0x09 jPass 0 s.bootSource 0 0
  let t := (((t.enterMode 6).wr Reg.sysTRun t.bootUs).raise 179).setBoot { t.boot with rel := .idle }
  let t := t.journal 0x0A jPass 0 t.bootSource 0 0
  (t.eraseTest).stagingMode

/-- The meaning of RELEASE_START. -/
def execReleaseStart (s : State) : Host.Outcome State Fault Refusal :=
  .next (if s.mode = 4 ∧ s.boot.committed ∧ s.boot.xwaitDone then
    let r := s.releaseSets
    let t := (s.enterMode 5).setBoot { s.boot with relBays := r.1, relEdge := r.2, rel := .waitDone }
    if s.dirField BootDir.doneLate false then t.driveDone false else t.bondRelease
  else s)

/-- The meaning of RELEASE_INIT_LEAVE. -/
def execReleaseInitLeave (s : State) : Host.Outcome State Fault Refusal :=
  .next (if s.mode = 5 ∧ s.boot.rel = .bond then (s.leaveInit s.boot.relBays).setBoot { s.boot with rel := .init } else s)

/-- The meaning of RELEASE_OUTPUT_ENABLE: in LATE order RUN follows. -/
def execReleaseOutputEnable (s : State) : Host.Outcome State Fault Refusal :=
  .next (if s.mode = 5 ∧ s.boot.rel = .init then
    let t := (s.enableOuts s.boot.relEdge).setBoot { s.boot with rel := .outputs }
    if s.dirField BootDir.doneLate false then t.enterRun else t
  else s)

/-- The meaning of RELEASE_DONE_RELEASE: cycle 24 of EARLY order. -/
def execReleaseDoneRelease (s : State) : Host.Outcome State Fault Refusal :=
  .next (if s.mode = 5 ∧ s.boot.rel = .outputs then
    (s.driveDone false).setBoot { (s.driveDone false).boot with rel := .waitDone }
  else s)

/-- The meaning of DONE_HIGH (R221, R222). -/
def execDoneHigh (s : State) : Host.Outcome State Fault Refusal :=
  .next (if s.mode = 5 ∧ s.boot.rel = .waitDone ∧ (!s.dirField BootDir.waleDone false ∨ s.boot.sysDone) then
    if s.dirField BootDir.doneLate false then s.bondRelease else s.enterRun
  else s)

/-- The meaning of DONE_WAIT_EXPIRY (R223). -/
def execDoneWaitExpiry (s : State) : Host.Outcome State Fault Refusal :=
  .next (if s.mode = 5 ∧ s.boot.rel = .waitDone ∧ s.dirField BootDir.doneWait 0 ≠ 0 then
    let t := s.bondStart (unitsOf s.boot.relBays s.boot.relEdge)
    let t := (unitsOf s.boot.relBays 0).foldl (fun t b => t.bayInit b) t
    let t := ((List.range 16).filter s.boot.relEdge.testBit).foldl (fun t k => t.setOut k false) t
    (t.journal 0x09 jFail 0 t.bootSource 0 0).enterSafe 5 0
  else s)

/-! The journal (R225, R228). -/

/-- The meaning of JOURNAL_ERASE_START: the keeper writes ACQ to SEM1, waits for it while another agent holds it,
and holds it until BUSY is 0. -/
def execJournalEraseStart (s : State) : Host.Outcome State Fault Refusal :=
  .next (if !s.boot.eraseDue ∨ s.mode = 4 then s
  else if s.semOwner 1 ≠ 0 ∧ !s.holds .keeper 1 then s.setBit (Reg.sem 1) 16 true
  else
    let t := s.setFld (Reg.sem 1) 15 0 (agentIdent .keeper)
    if t.flashOpBusy then t else t.journalErase)

/-- A write of SYS_BOOTCLR (R228). -/
def State.bootClrWrite (s : State) (v : Word) : State :=
  if getBits v 31 16 = 0x5A3C ∧ getBit v 0 then s.journal 0x0C jPass 0 s.bootSource 0 0 else s

/-- The meaning of BOOT_CLEAR. -/
def execBootClear (_ag : Agent) (v : Word) (s : State) : Host.Outcome State Fault Refusal := .next (s.bootClrWrite v)

end Sys2Proof.Machine
end

