-- ==== Sys2Proof/Machine/Power.lean ====
section
/-! DEFINITION. The power manager: level requests and ramps, DOZE, SLEEP and STANDBY, wake sources,
monitors and trips, and the two requests for a reload (R22, R71, R72, R411 to R435). -/
namespace Sys2Proof.Machine

/-- The power manager's hidden state replaced. -/
def State.setPwr (s : State) (p : PwrSt) : State := { s with pwr := p }

/-- PWR_RESULT takes a code, its KIND and DOMAIN; a refusal raises EV241 (R417, R422, R435). -/
def State.pwrResult (s : State) (code kind domain : Nat) : State :=
  (s.wr Reg.pwrResult (BitVec.ofNat 32 (code + 256 * kind + 512 * domain + 2 ^ 31))).raiseIf (decide (0x10 ≤ code)) 241

/-- PWR_STAT.PLPEND follows the pending request. -/
def State.setAsked (s : State) (v : Option Word) : State :=
  (s.setPwr { s.pwr with asked := v }).setBit Reg.pwrStat 8 v.isSome

/-- PWR_STAT.MSTATE: 0 idle, 1 draining, 2 entering. -/
def State.setMstate (s : State) (v : Nat) : State := s.setFld Reg.pwrStat 10 9 v

/-! Low-power modes and ramps (R418, R422 to R425). -/

/-- The levels raised to the floors, and the other wythe to the lowest level R71 permits (R421). -/
def raiseLevels (l f : Nat × Nat) : Nat × Nat :=
  let a := max l.1 f.1
  let b := max l.2 f.2
  if pairOk a b then (a, b) else if a > b then (a, (pairRange a).1) else ((pairRange b).1, b)

/-- The wythe floors. -/
def State.floors (s : State) : Nat × Nat := (s.wytheFloor 0, s.wytheFloor 1)

/-- The levels in effect before a ramp. -/
def State.levels (s : State) : Nat × Nat := (s.plw 0, s.plw 1)

/-- A ramp starts toward two levels; `byReq`: it carries out a level request. -/
def State.rampTo (s : State) (l : Nat × Nat) (byReq : Bool) : State :=
  let t := s.setPwr { s.pwr with tgt0 := l.1, tgt1 := l.2, byReq := byReq }
  (t.setBit Reg.pwrStat 3 (l.1 != s.plw 0)).setBit Reg.pwrStat 7 (l.2 != s.plw 1)

/-- Does either wythe ramp? -/
def State.ramps (s : State) : Bool := s.ramping 0 || s.ramping 1

/-- The first part of a ramp's end: the levels, EV240 and the result of a request (R418). -/
def State.rampLevels (s : State) : State :=
  let t := (s.setLevels s.pwr.tgt0 s.pwr.tgt1).setBit Reg.pwrStat 3 false |>.setBit Reg.pwrStat 7 false
  let t := if s.ramping 0 && s.railOn 2 then t.setRail 2 true else t
  let t := if s.ramping 1 && s.railOn 3 then t.setRail 3 true else t
  let t := (t.setPwr { t.pwr with byReq := false }).raise 240
  if s.pwr.byReq then t.pwrResult 1 0 0 else t

/-- New requests are held from the start of a drain (R423). -/
def State.drainStart (s : State) (mode : Nat) : State :=
  let t := s.setPwr { s.pwr with waiting := 0, entering := mode, drained := false }
  ({ t with hamp := { t.hamp with quiesce := true } }).setMstate 1

/-- Held requests are released. -/
def State.drainEnd (s : State) : State :=
  let t := s.setPwr { s.pwr with entering := 0, drained := false }
  ({ t with hamp := { t.hamp with quiesce := false } }).setMstate 0

/-- DOZE is entered: the levels ramp (R424). -/
def State.dozeEnter (s : State) : State :=
  let t := s.setPwr { s.pwr with back0 := s.plw 0, back1 := s.plw 1, waiting := 0, undoze := false }
  let t := ((t.enterMode 8).raise 242).pwrResult 2 1 0
  let l := (t.fld Reg.pwrDoze 2 0, t.fld Reg.pwrDoze 6 4)
  if l = t.levels then t else t.rampTo l false

/-- Why the levels in PWR_DOZE cannot be entered, if they cannot (R71, R422). -/
def State.dozeCheck (s : State) : Option Nat :=
  let d0 := s.fld Reg.pwrDoze 2 0
  let d1 := s.fld Reg.pwrDoze 6 4
  if d0 = 0 ∨ d1 = 0 then some 0x14
  else if d0 < s.wytheFloor 0 ∨ d1 < s.wytheFloor 1 then some 0x11
  else if !pairOk d0 d1 then some 0x12 else none

/-- An accepted mode request begins; a device that has left RUN meanwhile refuses it (R422), and so does one whose
PWR_DOZE has since taken levels that R71 or a floor forbids (DEDUCED, assumption 64). -/
def State.modeBegin (s : State) (mode : Nat) : State :=
  if s.mode ≠ 6 then (s.setPwr { s.pwr with waiting := 0 }).pwrResult 0x10 1 0
  else if mode = 8 then
    (match s.dozeCheck with
     | some code => (s.setPwr { s.pwr with waiting := 0 }).pwrResult code 1 0
     | none => s.dozeEnter)
  else s.drainStart mode

/-- RUN after a wake: EV243, and the reload that a PROGRAM_N edge asked for (R22, R424, R428). -/
def State.wokenRun (s : State) : State :=
  let cause := s.pwr.reload
  let t := s.setPwr { s.pwr with undoze := false, waking := false, reload := 0 }
  let t := ((t.enterMode 6).raise 243).eraseTest
  if cause = 0 then t.stagingMode else (t.stagingMode).reloadNow cause

/-- A ramp ends, and what waited for it follows. -/
def State.rampEnd (s : State) : State :=
  let t := s.rampLevels
  if t.pwr.undoze then t.wokenRun
  else if t.pwr.waiting ≠ 0 then t.modeBegin t.pwr.waiting
  else t

/-- The meaning of PL_RAMP_DONE. -/
def execPlRampDone (s : State) : Host.Outcome State Fault Refusal := .next (if s.ramps then s.rampEnd else s)

/-! Level requests (R417, R420, R421). -/

/-- A write of PWR_PLREQ. -/
def State.plReqWrite (s : State) (v : Word) : State :=
  let t := s.plainWrite Reg.pwrPlreq v
  if !getBit v 16 then t
  else if s.pwr.asked.isSome || s.ramps then t.pwrResult 0x15 0 0
  else if s.mode ≠ 6 ∧ s.mode ≠ 7 then t.pwrResult 0x16 0 0
  else if (!getBit v 3 && !getBit v 7) || (getBit v 3 && getBits v 2 0 == 0) || (getBit v 7 && getBits v 6 4 == 0) ||
      decide (56 ≤ getBits v 13 8) then t.pwrResult 0x14 0 0
  else t.setAsked (some v)

/-- The meaning of PL_REQUEST: a PWR_PLREQ write with GO. -/
def execPlRequest (ag : Agent) (v : Word) (s : State) : Host.Outcome State Fault Refusal :=
  .next (s.rws ag Reg.pwrPlreq (s.plReqWrite (putBit v 16 true)))

/-- The test of a pending request at the latch point of a boundary of its source (R417). -/
def State.plLatch (s : State) (src : Nat) : State :=
  match s.pwr.asked with
  | none => s
  | some v =>
    if getBits v 13 8 ≠ src ∨ s.pwr.plan.isSome ∨ s.pwr.drained ∨ (s.mode ≠ 6 ∧ s.mode ≠ 7) then s
    else
      let a := if getBit v 3 then getBits v 2 0 else s.rampTarget 0
      let b := if getBit v 7 then getBits v 6 4 else s.rampTarget 1
      if !pairOk a b then (s.setAsked none).pwrResult 0x12 0 0
      else if (getBit v 3 && decide (a < s.wytheFloor 0)) || (getBit v 7 && decide (b < s.wytheFloor 1)) then
        (s.setAsked none).pwrResult 0x11 0 0
      else s.setPwr { s.pwr with plan := some (src, a, b) }

/-- The floors worked out from the pending clock values, `t`, against the levels at the latch point
(R421). -/
def State.breachTest (s t : State) (src : Nat) : State :=
  if s.mode ≠ 6 ∧ s.mode ≠ 7 ∧ s.mode ≠ 8 then s
  else if s.levelAt src 0 < t.wytheFloor 0 ∨ s.levelAt src 1 < t.wytheFloor 1 then
    s.setPwr { s.pwr with breach := some (src, t.wytheFloor 0, t.wytheFloor 1) }
  else s

/-- The level requests and breaches of a boundary take effect (R417, R421, R424). -/
def State.plDeliver (s : State) (src : Nat) : State :=
  let (go, s) := match s.pwr.plan with
    | some (p, a, b) => if p = src then (some (a, b), (s.setAsked none).setPwr { (s.setAsked none).pwr with plan := none })
                        else (none, s)
    | none => (none, s)
  match s.pwr.breach with
  | some (p, f0, f1) =>
    if p ≠ src then (match go with
      | some l => if l = s.levels then (s.pwrResult 1 0 0).raise 240 else s.rampTo l true
      | none => s)
    else
      let t := s.setPwr { s.pwr with breach := none }
      let t := (t.setBit Reg.pwrErr 0 true).raise 245
      let bk := raiseLevels (t.pwr.back0, t.pwr.back1) (f0, f1)
      let t := if t.mode = 8 then t.setPwr { t.pwr with back0 := bk.1, back1 := bk.2 } else t
      let l := raiseLevels (go.getD (t.rampTarget 0, t.rampTarget 1)) (f0, f1)
      if l = t.levels ∧ !t.ramps then t else t.rampTo l (go.isSome || t.pwr.byReq)
  | none => match go with
    | some l => if l = s.levels then (s.pwrResult 1 0 0).raise 240 else s.rampTo l true
    | none => s

/-! Mode requests (R422, R426). -/

/-- Can wake source `i` act in a mode (R427)? -/
def wakeActs (i mode : Nat) : Bool := decide (mode ≠ 0xA) || decide (i < 5)

/-- The first reason to refuse a mode request, none when it is accepted: an armed group is BUSY (R258, R422). -/
def State.modeCheck (s : State) (m : Nat) : Option Nat :=
  if s.mode = 7 ∨ s.pwr.waiting ≠ 0 ∨ s.pwr.entering ≠ 0 ∨ (List.range 8).any (fun g => decide (s.fld (Reg.cgStat g) 1 0 ≠ 0)) then
    some 0x10
  else if s.mode ≠ 6 then some 0x16
  else if m = 0 then some 0x14
  else if m = 1 then s.dozeCheck
  else if (List.range 8).any (fun i => s.bit Reg.pwrWakeen i && wakeActs i (7 + m)) then none
  else some 0x17

/-- A write of PWR_MREQ.  MODE 1, 2, 3 lead to the mode codes 8, 9, 0xA. -/
def State.mreqWrite (s : State) (v : Word) : State :=
  let t := s.plainWrite Reg.pwrMreq v
  if !getBit v 4 then t
  else
    let m := getBits v 1 0
    match t.modeCheck m with
    | some code => t.pwrResult code 1 0
    | none =>
      let t := if t.pwr.asked.isSome then
          let u := t.setAsked none
          (u.setPwr { u.pwr with plan := none }).pwrResult 0x19 0 0
        else t
      let t := if 2 ≤ m then t.sndAbort else t
      if t.ramps then t.setPwr { t.pwr with waiting := 7 + m } else t.modeBegin (7 + m)

/-- The meaning of MODE_REQUEST_DOZE. -/
def execModeRequestDoze (ag : Agent) (s : State) : Host.Outcome State Fault Refusal :=
  .next (s.rws ag Reg.pwrMreq (s.mreqWrite 0x11#32))

/-- The meaning of MODE_REQUEST_SLEEP. -/
def execModeRequestSleep (ag : Agent) (s : State) : Host.Outcome State Fault Refusal :=
  .next (s.rws ag Reg.pwrMreq (s.mreqWrite 0x12#32))

/-- The meaning of MODE_REQUEST_STANDBY. -/
def execModeRequestStandby (ag : Agent) (s : State) : Host.Outcome State Fault Refusal :=
  .next (s.rws ag Reg.pwrMreq (s.mreqWrite 0x13#32))

/-! The drain and the entries (R423, R425, R431). -/

/-- The domains that have not drained, as far as the block's own state shows it. -/
def State.undrained (s : State) : List Nat :=
  [(1, s.hampDrained),
   (2, s.gws.all (fun e => e.2.reads.isEmpty && e.2.tags.isEmpty)),
   (3, (s.wale.ports.all (fun e => e.2.buf.isEmpty)) && (List.range 4).all (fun n => !s.bit (Reg.waleRqCtl n) 13) &&
     s.wale.gangTx.isNone && s.wale.gangRx.isNone),
   (4, decide (s.fld Reg.cfgPsrc 2 0 ≠ 2) && decide (s.fld Reg.cfgPsrc 2 0 ≠ 3))].filterMap
    (fun e => if e.2 then none else some e.1)

/-- The fabric synthesizers and the quad PLLs stop: they relock after the wake (R425 step 4). -/
def State.clocksStop (s : State) : State :=
  let t := (List.range 32).foldl (fun t n =>
    if (t.synthLive n).refsrc = 0 then t else t.synthBegin n .relock) s
  let t := (List.range 16).foldl (fun t q => (t.pllUnlock q 0).pllUnlock q 1) t
  t.setBit Reg.clkStatus 7 false

/-- Steps 1 to 5 of the SLEEP entry (R425). -/
def State.sleepSteps (s : State) : State :=
  let t := (s.setPwr { s.pwr with drained := true, plan := none, back0 := s.plw 0, back1 := s.plw 1 }).setMstate 2
  let t := ((t.waleSleep).pcieDown 0).pcieDown 1
  let t := ((t.hampSleep).clocksStop).lanesOff [6, 5, 4]
  t.rampTo (0, 0) false

/-- The registers of the always-on domain that STANDBY keeps. -/
def standbyRegs : List Nat :=
  [Reg.pwrWakeen, Reg.pwrWakepin, Reg.pwrWakeCause, Reg.pwrWtimer, Reg.lcZcause, Reg.lcTamper]

/-- STANDBY is entered: every domain but always-on is off (R431). -/
def State.standbyEnter (s : State) : State :=
  let t := ((s.sysBcast (.sleep false)).walePortsDrop).keyClear
  let u := State.keepRegs t t.restart standbyRegs
  (u.setRail 0 true).wr Reg.sysMode (BitVec.ofNat 32 (0xA + 16 * 6))

/-- The drain is over: the entry proceeds, unless the device has left RUN (R423). -/
def State.quiesced (s : State) : State :=
  if s.mode ≠ 6 then (s.drainEnd).pwrResult 0x10 1 0
  else if s.pwr.entering = 9 then s.sleepSteps
  else s.standbyEnter

/-- The meaning of QUIESCE_DONE. -/
def execQuiesceDone (s : State) : Host.Outcome State Fault Refusal :=
  .next (if s.pwr.entering ≠ 0 ∧ !s.pwr.drained ∧ s.undrained = [] then s.quiesced else s)

/-- The meaning of QUIESCE_TIMEOUT; bit `i` of `busy`: domain `i + 1` has work that the block's state does
not show.  A drain that has ended wins (R32). -/
def execQuiesceTimeout (busy : BitVec 4) (s : State) : Host.Outcome State Fault Refusal :=
  .next (if s.pwr.entering = 0 ∨ s.pwr.drained then s
  else match [1, 2, 3, 4].find? (fun d => s.undrained.contains d || busy.getLsbD (d - 1)) with
    | some d => (s.drainEnd).pwrResult 0x13 1 d
    | none => s.quiesced)

/-! Wake sources (R427 to R430). -/

/-- PWR_WAKE_CAUSE records a source; `first`: no wake is in progress. -/
def State.wakeRecord (s : State) (first : Bool) (src port from_ : Nat) : State :=
  let w := s.rd Reg.pwrWakeCause
  let w := putBit (putBit w src true) 31 true
  s.wr Reg.pwrWakeCause (if first then
    putBit (putBits (putBits w 11 8 src) 15 12 from_) 16 (decide (src = 4 ∨ src = 5) && decide (port = 1)) else w)

/-- Steps 1 to 3 of the wake from SLEEP: the hub clocks run from FIO, both wythes ramp to their levels at
entry, raised to the floors now in effect (R421, R428). -/
def State.sleepWake (s : State) : State :=
  let t := s.setPwr { s.pwr with waking := true }
  let t := (t.setBit Reg.clkHub 16 false).setBit Reg.clkStatus 7 false
  let back := (t.pwr.back0, t.pwr.back1)
  let l := raiseLevels back t.floors
  let t := if l = back then t else (t.setBit Reg.pwrErr 0 true).raise 245
  ((t.setRails [4, 5, 6] true).lanesRefresh).rampTo l false

/-- The meaning of SLEEP_ENTERED; a source that fired after the drain wakes the device at once. -/
def execSleepEntered (s : State) : Host.Outcome State Fault Refusal :=
  .next (if s.pwr.entering = 9 ∧ s.pwr.drained ∧ !s.ramps ∧ s.sndPhase ≠ 3 then
    let t := (s.setPwr { s.pwr with entering := 0, drained := false }).setMstate 0
    let t := ((t.enterMode 9).raise 242).pwrResult 2 1 0
    if t.pwr.waking then t.sleepWake else t
  else s)

/-- STANDBY ends in KEEPER BOOT with boot cause 4 (R201, R431). -/
def State.standbyWake (s : State) : State :=
  if s.powerStopped then s
  else
    let t := State.keepRegs s (s.keeperStart 4) [Reg.pwrWakeCause, Reg.lcZcause]
    t.wr Reg.sysMode (BitVec.ofNat 32 (2 + 16 * 0xA))

/-- Does any Wale port watch its lane 0 for a signal (R360)? -/
def State.waleWakes (s : State) : Bool := (List.range 6).any (fun p => s.bit (Reg.wpCtl p) 7)

/-- A wake source fires (R22, R423, R424, R427). -/
def State.wakeSource (s : State) (src port : Nat) : State :=
  let target := if s.mode = 8 ∨ s.mode = 9 ∨ s.mode = 0xA then s.mode else s.pwr.entering
  let on := (s.bit Reg.pwrWakeen src || src == 2 || (src == 7 && target == 8)) && wakeActs src target &&
    !(src == 3 && s.fld Reg.pwrWakepin 7 0 == 0) && (src != 6 || s.waleWakes)
  if target = 0 ∨ !on then s
  else if s.pwr.entering ≠ 0 ∧ !s.pwr.drained then (s.drainEnd).pwrResult 0x18 1 0
  else
    let first := !s.pwr.undoze && !s.pwr.waking
    let t := s.wakeRecord first src port target
    let t := if src = 2 ∧ target ≠ 0xA ∧ t.pwr.reload = 0 then t.setPwr { t.pwr with reload := 2 } else t
    if !first then t
    else if target = 8 then
      let t := t.setPwr { t.pwr with undoze := true }
      let l := (t.pwr.back0, t.pwr.back1)
      if l = t.levels ∧ !t.ramps then t.wokenRun else t.rampTo l false
    else if target = 0xA then t.standbyWake
    else if t.mode = 9 then t.sleepWake
    else t.setPwr { t.pwr with waking := true }

/-- The meaning of WAKE_SOURCE. -/
def execWakeSource (src : Fin 8) (port : Fin 2) (s : State) : Host.Outcome State Fault Refusal :=
  .next (s.wakeSource src.val port.val)

/-- The wake timer reaches 0: it fires once (R427, R435). -/
def State.wakeTimer (s : State) : State := (s.wr Reg.pwrWtimer 0).wakeSource 1 0

/-- The meaning of WAKE_TIMER_EXPIRY. -/
def execWakeTimerExpiry (s : State) : Host.Outcome State Fault Refusal :=
  .next (if s.rd Reg.pwrWtimer = 0 then s else s.wakeTimer)

/-- A bay's retention bank is stale (R429). -/
def State.staleBay (s : State) (b : Nat) : State :=
  let held := s.bondHold b
  let t := (((s.bondStart [b]).initLoad b).creelLoad b).sliceLoad b
  let t := if held then t else t.setBond b false
  ((t.setBit (Reg.pwrStale (b / 32)) (b % 32) true).sysFault 5).raise 244

/-- The cluster island's bank is stale: every core that ran restarts, SRAM content is undefined (R429). -/
def State.staleCluster (s : State) : State :=
  let t := (List.range 4).foldl (fun t c => if t.coreRuns c then (t.coreReset c).coreRelease c else t) s
  let t := { t with sram := [], sramTok := t.freeCtr, freeCtr := t.freeCtr + 1 }
  ((t.setBit Reg.pwrStalehub 0 true).sysFault 5).raise 244

/-- The meaning of SLEEP_WAKE_RUN: the retention checks, then RUN (R428 steps 4 and 5, R429, R360). -/
def execSleepWakeRun (stale : StaleBanks) (s : State) : Host.Outcome State Fault Refusal :=
  .next (if s.mode = 9 ∧ s.pwr.waking ∧ !s.ramps ∧ s.hubOnSynth then
    let t := stale.bays.foldl (fun t b => t.staleBay b.val) s
    let t := stale.creels.foldl (fun t n => (t.makeStale n.val).raise 244) t
    let t := if stale.cluster then t.staleCluster else t
    let t := if t.hampState = 3 then t.hampWake else t
    t.waleWake.wokenRun
  else s)

/-! Monitors (R72, R411, R413, R433). -/

/-- The highest and the lowest of signed readings. -/
def hottest (l : List (BitVec 8)) : Int := l.foldl (fun a t => max a t.toInt) (-128)
def coolest (l : List (BitVec 8)) : Int := l.foldl (fun a t => min a t.toInt) 127

/-- A temperature as a register field holds it. -/
def tempByte (t : Int) : Nat := (BitVec.ofInt 8 t).toNat

/-- NOW and MAX of a temperature register; `old`: MAX holds an earlier reading. -/
def tempReg (w : Word) (old : Bool) (now : Int) : Word :=
  let m := if old then max now (BitVec.ofNat 8 (getBits w 15 8)).toInt else now
  BitVec.ofNat 32 (tempByte now + 256 * tempByte m)

/-- A difference test of R72: its event once, armed again below the second limit. -/
def State.gradientTest (s : State) (i : Nat) (diff limit rearm : Int) : State :=
  if limit < diff ∧ !s.pwr.gradient.contains i then
    let t := (s.setPwr { s.pwr with gradient := i :: s.pwr.gradient }).raise (300 + i)
    if i < 2 then t.sysFault 4 else t
  else if diff < rearm then s.setPwr { s.pwr with gradient := s.pwr.gradient.filter (· != i) }
  else s

/-- The warning of R433. -/
def State.tempWarning (s : State) (top : Int) : State :=
  let lim : Int := s.fld Reg.pwrCfg 23 16
  if lim < top ∧ !s.pwr.warned then
    (((s.setPwr { s.pwr with warned := true }).setBit Reg.pwrErr 4 true).sysFault 3).raise 288
  else if top ≤ lim - 3 then s.setPwr { s.pwr with warned := false }
  else s

/-- The meaning of THERMAL_SAMPLE: readings of the 96 bay sensors and the four hub sensors. -/
def execThermalSample (bays hub : List (BitVec 8)) (s : State) : Host.Outcome State Fault Refusal :=
  .next (if s.mode = 0xA ∨ s.mode = 1 then s
  else
    let old := !s.pwr.temps.isEmpty
    let w (k : Nat) : List (BitVec 8) := (bays.drop (48 * k)).take 48
    let spread (k : Nat) : Int := hottest (w k) - coolest (w k)
    let t := (List.range 64).foldl (fun t n =>
      t.wr (Reg.pwrTemp n) (tempReg (t.rd (Reg.pwrTemp n)) old (bays.getD n 0).toInt)) s
    let t := t.wr Reg.pwrThub (tempReg (t.rd Reg.pwrThub) old (hottest hub))
    let t := t.wr Reg.pwrTstat (BitVec.ofNat 32 (tempByte (hottest (w 0)) + 2 ^ 8 * tempByte (hottest (w 1)) +
      2 ^ 16 * (spread 0).toNat + 2 ^ 24 * (spread 1).toNat))
    let t := t.setPwr { t.pwr with temps := bays ++ hub }
    let t := ((t.gradientTest 0 (spread 0) 20 18).gradientTest 1 (spread 1) 20 18).gradientTest 2
      (hottest (w 0) - hottest (w 1)).natAbs 25 23
    let top := max (hottest bays) (hottest hub)
    let t := t.tempWarning top
    if 115 < top then t.trip 6 0 else t)

/-- The meaning of REGULATOR_FAULT (R25, R413). -/
def execRegulatorFault (r : Fin 26) (s : State) : Host.Outcome State Fault Refusal :=
  let s := s.setBoot { s.boot with vin := true }
  .next (((s.setBit (Reg.pwrRail r.val) 18 true).trip 7 r.val))

/-- The meaning of RAIL_WARNING. -/
def execRailWarning (r : Fin 26) (s : State) : Host.Outcome State Fault Refusal :=
  .next (((s.setBit (Reg.pwrRail r.val) 17 true).setBit Reg.pwrErr 1 true).raise 290)

/-- The meaning of VIN_LOW. -/
def execVinLow (s : State) : Host.Outcome State Fault Refusal := .next ((s.setBit Reg.pwrErr 2 true).raise 291)

/-- The meaning of VBAT_LOW. -/
def execVbatLow (s : State) : Host.Outcome State Fault Refusal :=
  .next (if s.keys.bbr = 0 then s else (s.setBit Reg.pwrErr 3 true).raise 292)

/-! Requests for a reload (R20 to R22). -/

/-- A PROGRAM_N falling edge or a valid SYS_CTL.RELOAD write: a wake source in DOZE, SLEEP, STANDBY and
during a drain or an entry, else a reload where the mode allows it. -/
def State.reloadRequest (s : State) (cause : Nat) : State :=
  if s.mode = 8 ∨ s.mode = 9 ∨ s.mode = 0xA ∨ (s.pwr.entering ≠ 0 ∧ s.pwr.drained) then
    let t := if s.mode ≠ 0xA ∧ s.pwr.reload = 0 then s.setPwr { s.pwr with reload := cause } else s
    t.wakeSource 2 0
  else s.reloadNow cause

/-- The meaning of PROGRAM_N_FALL. -/
def execProgramNFall (s : State) : Host.Outcome State Fault Refusal :=
  .next ((s.setBoot { s.boot with programLow := true }).reloadRequest 2)

/-- The meaning of PROGRAM_N_RISE: an attempt that waited for it begins (R21). -/
def execProgramNRise (s : State) : Host.Outcome State Fault Refusal :=
  let t := s.setBoot { s.boot with programLow := false }
  .next (if t.mode = 4 ∧ t.boot.attemptDue then t.nextAttempt else t)

/-- A write of SYS_CTL (R30, R32). -/
def State.sysCtlWrite (s : State) (v : Word) : State :=
  if getBits v 31 16 = 0xA5C3 ∧ getBit v 0 then s.reloadRequest 3 else s

/-- The meaning of SYS_CTL_RELOAD. -/
def execSysCtlReload (_ag : Agent) (v : Word) (s : State) : Host.Outcome State Fault Refusal := .next (s.sysCtlWrite v)

end Sys2Proof.Machine
end

