-- ==== Sys2Proof/Machine/LifeCycle.lean ====
section
/-! DEFINITION. The life-cycle commands: requests, tokens, tamper, the debug session and the TAP (chapter
18_life_cycle_and_keys.md).  Fuses, keys and the checks of a request stand in Keys.lean. -/
namespace Sys2Proof.Machine

/-! Requests (R456 to R458). -/

/-- The 272 request bytes that LC_REQBUF holds (R456). -/
def State.reqBuffer (s : State) : List Byte :=
  (List.range 68).flatMap (fun i => wordBytes (s.rd (Reg.lcReqbuf i)))

/-- A request is refused: its result is recorded and EV313 is raised (R458). -/
def State.lcRefuse (s : State) (jtag : Bool) (code : Nat) : State := (s.lcResult jtag code).raise 313

/-- The keeper begins to verify a request (R458). -/
def State.lcPresent (s : State) (jtag : Bool) (bytes : List Byte) : State :=
  ({ s with keys := { s.keys with req := some ⟨jtag, bytes, none, false⟩ } }).setBit Reg.lcReqstat 0 true

/-- The modes in which the keeper accepts GO (R458). -/
def State.lcGoMode (s : State) : Bool :=
  s.mode == 6 || s.mode == 7 || s.mode == 0xC ||
    (s.mode == 0xB && (s.safeCause == 1 || s.safeCause == 2 || s.safeCause == 5))

/-- A GO: refused with MODE or BUSY, or the request in LC_REQBUF is verified (R458).  A BUSY refusal leaves
the running request as it is. -/
def State.lcGo (s : State) : State :=
  if !s.lcGoMode then
    let busy := s.bit Reg.lcReqstat 0
    (s.lcRefuse false 0x1D).setBit Reg.lcReqstat 0 busy
  else if s.bit Reg.lcReqstat 0 then (s.lcRefuse false 0x1A).setBit Reg.lcReqstat 0 true
  else s.lcPresent false s.reqBuffer

/-- CLR zeroes LC_REQBUF (R469). -/
def State.lcClear (s : State) : State := (List.range 128).foldl (fun s i => s.wr (Reg.lcReqbuf i) 0) s

/-- A write of LC_REQCTL by the holder of SEM2: GO takes the buffer as it stands, then CLR clears it. -/
def State.reqctlWrite (s : State) (v : Word) : State :=
  let t := if getBit v 0 then s.lcGo else s
  if getBit v 1 then t.lcClear else t

/-- A write of a word of LC_REQBUF: the bytes from 272 on are ignored (R469). -/
def State.reqbufWrite (s : State) (i : Nat) (v : Word) : State := if i < 68 then s.wr (Reg.lcReqbuf i) v else s

/-- A complete LC_TOKEN is evaluated as a DEBUG_TOKEN when the state in effect is SEALED (R461). -/
def State.lcJtagToken (s : State) : State :=
  match s.keys.token with
  | some b =>
    if s.lcState ≠ 3 ∨ s.mode = 1 ∨ s.mode = 0xA then s
    else if s.bit Reg.lcReqstat 0 then (s.lcRefuse true 0x1A).setBit Reg.lcReqstat 0 true
    else s.lcPresent true b
  | none => s

/-- Does the request lead into RETURN or SCRAP (R459)? -/
def reqLeaves (b : List Byte) : Bool := reqType b == 1 && (reqTarget b == 4 || reqTarget b == 5)

/-- KEY_BBR is zeroised, and a stream that uses it ends (R464, R465). -/
def State.zeroise (s : State) (cause : Nat) : State := (s.zeroiseKey cause).keyLost

/-- The burns of a request begin: a transition into RETURN or SCRAP zeroises KEY_BBR and clears the key
register (R459). -/
def State.burnBegins (s : State) (r : LcReq) : State :=
  let q : LcReq := { r with burning := some (reqFuses s.keys.fuses r.bytes) }
  let t : State := { s with keys := { s.keys with req := some q } }
  if reqLeaves r.bytes then (t.zeroise 4).keyClear else t

/-- The keeper's verdict on the request it verifies (R458). -/
def State.lcVerified (s : State) (r : LcReq) (vinOk : Bool) : State :=
  match reqCheck s.keys.fuses s.lcState r.jtag r.bytes vinOk with
  | some code => ({ s with keys := { s.keys with req := none } }).lcRefuse r.jtag code
  | none => s.burnBegins r

/-- May an entry of the key register be loaded now (R463)?  No key is loaded on a boot whose START TEST has
not passed. -/
def State.keyLoads (s : State) : Bool := s.boot.tested

/-- LOAD_KEY_BBR writes KEY_BBR and loads its entry at once (R457). -/
def State.loadBbr (s : State) (k : Nat) : State :=
  { s with keys := { s.keys with
      bbr := k, entryBbr := if s.keyLoads && decide (k ≠ 0) then some k else s.keys.entryBbr } }

/-- SET_KEY_FUSE fills the KEY_FUSE entry: LC_KCV shows the new key's check value when the slot is valid
(chapter 18, "Example"). -/
def State.loadFuseKey (s : State) : State :=
  if s.keyLoads && !s.keys.fuses.kill then
    { s with keys := { s.keys with entryFuse := s.keys.fuses.keyFuse } }
  else s

/-- PENDING and NEXT after a transition (R459). -/
def State.lcPendingState (s : State) (next : Nat) : State :=
  s.wr Reg.lcState (putBit (putBits (s.rd Reg.lcState) 7 4 next) 8 true)

/-- A request ends with DONE and EV312 (R458). -/
def State.lcDone (s : State) (jtag : Bool) : State := (s.lcRefresh.lcResult jtag 1).raise 312

/-- The action of a request whose fuses have burnt (R457, R459, R462, R465). -/
def State.lcAction (s : State) (r : LcReq) : State :=
  match reqType r.bytes with
  | 1 => (s.lcPendingState (reqTarget r.bytes)).lcDone r.jtag
  | 3 => s.loadFuseKey.lcDone r.jtag
  | 4 =>
    if r.tampered then s.lcRefresh.lcRefuse r.jtag 0x1B
    else (s.loadBbr (reqField r.bytes 0x24 32)).lcDone r.jtag
  | 5 => (s.zeroise 5).lcDone r.jtag
  | 0x11 => (s.debugOpen (reqPolicy r.bytes)).lcDone r.jtag
  | _ => s.lcDone r.jtag

/-- The burns end: all of them done, or stopped after `failed` fuses by one that does not read blown
(R452). -/
def State.lcBurnt (s : State) (r : LcReq) (fs : List FuseRef) (failed : Option Nat) : State :=
  let t := { s with keys := { s.keys with req := none } }
  match failed with
  | none => (t.blow fs).lcAction r
  | some k =>
    if k < fs.length then ((t.blow (fs.take k)).lcRefresh).lcRefuse r.jtag 0x1C else s

/-- The meaning of LC_TRANSITION. -/
def execLcTransition (ag : Agent) (s : State) : Host.Outcome State Fault Refusal :=
  .next (s.rws ag Reg.lcReqctl s.lcGo)

/-- The meaning of LC_SET_OWNER. -/
def execLcSetOwner (ag : Agent) (s : State) : Host.Outcome State Fault Refusal :=
  .next (s.rws ag Reg.lcReqctl s.lcGo)

/-- The meaning of LC_SET_KEY_FUSE. -/
def execLcSetKeyFuse (ag : Agent) (s : State) : Host.Outcome State Fault Refusal :=
  .next (s.rws ag Reg.lcReqctl s.lcGo)

/-- The meaning of LC_LOAD_KEY_BBR. -/
def execLcLoadKeyBbr (ag : Agent) (s : State) : Host.Outcome State Fault Refusal :=
  .next (s.rws ag Reg.lcReqctl s.lcGo)

/-- The meaning of LC_CLEAR_KEY_BBR. -/
def execLcClearKeyBbr (ag : Agent) (s : State) : Host.Outcome State Fault Refusal :=
  .next (s.rws ag Reg.lcReqctl s.lcGo)

/-- The meaning of LC_DEBUG_TOKEN: in-band by a GO, or `jtag`, the token that is complete in LC_TOKEN. -/
def execLcDebugToken (ag : Agent) (jtag : Bool) (s : State) : Host.Outcome State Fault Refusal :=
  .next (if jtag then s.lcJtagToken else s.rws ag Reg.lcReqctl s.lcGo)

/-- The meaning of LC_REQBUF_CLEAR. -/
def execLcReqbufClear (ag : Agent) (s : State) : Host.Outcome State Fault Refusal :=
  .next (s.rws ag Reg.lcReqctl s.lcClear)

/-- The meaning of LC_REQUEST_VERIFIED: `vinOk`, VIN has read at least 11,400 mV for 100 ms (R452). -/
def execLcRequestVerified (vinOk : Bool) (s : State) : Host.Outcome State Fault Refusal :=
  .next (match s.keys.req with
    | some r => if r.burning.isNone then s.lcVerified r vinOk else s
    | none => s)

/-- The meaning of LC_BURN_DONE. -/
def execLcBurnDone (failed : Option Nat) (s : State) : Host.Outcome State Fault Refusal :=
  .next (match s.keys.req with
    | some r => (match r.burning with
      | some fs => s.lcBurnt r fs failed
      | none => s)
    | none => s)

/-! Tamper and the debug session (R462, R464, R465). -/

/-- The meaning of TAMPER_EVENT: 0 supply loss, 1 temperature, 2 the pin, when PIN_EN is 1. -/
def execTamperEvent (cause : Fin 3) (s : State) : Host.Outcome State Fault Refusal :=
  .next (if cause.val = 2 ∧ !s.bit Reg.lcTamper 0 then s else s.zeroise cause.val)

/-- A write of LC_TAMPER by the holder of SEM2 (R469). -/
def State.tamperWrite (s : State) (v : Word) : State :=
  if getBit v 2 ∧ getBits v 31 16 ≠ 0x7E3A then s
  else
    let t := s.setFld Reg.lcTamper 1 0 (getBits v 1 0)
    if getBit v 2 then t.zeroise 3 else t

/-- The meaning of ZEROISE_WRITE: a write of LC_TAMPER (R469). -/
def execZeroiseWrite (ag : Agent) (v : Word) (s : State) : Host.Outcome State Fault Refusal :=
  .next (s.rws ag Reg.lcTamper (s.tamperWrite v))

/-- A write of LC_DEBUG by the holder of SEM2: CLOSE ends the session. -/
def State.debugWrite (s : State) (v : Word) : State := if getBit v 3 then s.debugEnd else s

/-- The meaning of DEBUG_CLOSE. -/
def execDebugClose (ag : Agent) (s : State) : Host.Outcome State Fault Refusal :=
  .next (s.rws ag Reg.lcDebug s.debugEnd)

/-! The TAP (R461, R467). -/

/-- The life-cycle state the TAP goes by: the state in effect, and what the fuses decode to until the keeper
has decoded them. -/
def State.tapState (s : State) : Nat := if s.mode = 1 ∨ s.mode = 2 then s.keys.fuses.state else s.lcState

/-- Is a JTAG instruction permitted in the current state (R467)? -/
def State.tapPermits (s : State) (code : Nat) : Bool :=
  let st := s.tapState
  let open_ := st == 2 || st == 4
  let sealed_ := st == 3
  if s.mode = 0xC then true
  else match code with
    | 0x01 => open_ || sealed_
    | 0x02 => open_ || sealed_
    | 0x11 => open_ || sealed_
    | 0x10 => st == 4 || sealed_
    | 0x20 => open_ || (sealed_ && s.bit Reg.lcDebug 2 && s.bit Reg.lcDebug 0)
    | 0x00 => open_ || (sealed_ && !([6, 7, 8, 9] : List Nat).contains s.mode)
    | 0x03 => open_ || (sealed_ && !([6, 7, 8, 9] : List Nat).contains s.mode)
    | 0x04 => open_ || (sealed_ && !([6, 7, 8, 9] : List Nat).contains s.mode)
    | _ => false

/-- The instruction register takes a code; an instruction that is not permitted acts as BYPASS (R467). -/
def State.tapInstr (s : State) (code : Nat) : State :=
  let c := if s.tapPermits code then code else 0xFF
  { s with keys := { s.keys with ir := c } }

/-- The JTAG IDCODE (R467). -/
def idcode : Word := Config.siliconRevision ++ 0x7096#16 ++ Config.jedecCode ++ 1#1

/-- The word a data register captures goes out when its instruction is the one selected. -/
def State.tapCapture (s : State) (code : Nat) (w : Word) : State :=
  if s.keys.ir = code then s.emit (.jtag w) else s

/-- The meaning of JTAG_TAP_RESET: Test-Logic-Reset selects IDCODE and leaves LC_TOKEN empty (R461). -/
def execJtagTapReset (s : State) : Host.Outcome State Fault Refusal :=
  .next { s with keys := { s.keys with ir := 1, token := none } }

/-- The meaning of JTAG_LC_TOKEN_UPDATE: after exactly 2,176 shifts the register is complete (R461). -/
def execJtagLcTokenUpdate (shifts : Nat) (bytes : List Byte) (s : State) : Host.Outcome State Fault Refusal :=
  .next (if s.keys.ir ≠ 0x10 ∨ !s.tapPermits 0x10 then s
  else
    let full := decide (shifts = 2176 ∧ bytes.length = 272)
    let t : State := { s with keys := { s.keys with token := if full then some bytes else none } }
    t.lcJtagToken)

/-- The meaning of JTAG_EXTEST. -/
def execJtagExtest (s : State) : Host.Outcome State Fault Refusal := .next (s.tapInstr 0x00)

/-- The meaning of JTAG_CLAMP. -/
def execJtagClamp (s : State) : Host.Outcome State Fault Refusal := .next (s.tapInstr 0x03)

/-- The meaning of JTAG_HIGHZ. -/
def execJtagHighz (s : State) : Host.Outcome State Fault Refusal := .next (s.tapInstr 0x04)

/-- The meaning of JTAG_IDCODE. -/
def execJtagIdcode (s : State) : Host.Outcome State Fault Refusal :=
  .next ((s.tapInstr 0x01).tapCapture 0x01 idcode)

/-- The meaning of JTAG_SAMPLE_PRELOAD. -/
def execJtagSamplePreload (s : State) : Host.Outcome State Fault Refusal := .next (s.tapInstr 0x02)

/-- The meaning of JTAG_LC_TOKEN. -/
def execJtagLcToken (s : State) : Host.Outcome State Fault Refusal := .next (s.tapInstr 0x10)

/-- The meaning of JTAG_LC_STATUS. -/
def execJtagLcStatus (s : State) : Host.Outcome State Fault Refusal :=
  .next ((s.tapInstr 0x11).tapCapture 0x11 (s.rd Reg.lcState))

/-- The meaning of JTAG_DMI. -/
def execJtagDmi (s : State) : Host.Outcome State Fault Refusal := .next (s.tapInstr 0x20)

/-- The meaning of JTAG_GRENRIC_TEST. -/
def execJtagGrenricTest (code : Fin 16) (s : State) : Host.Outcome State Fault Refusal :=
  .next (s.tapInstr (0x40 + code.val))

/-- The meaning of JTAG_BYPASS. -/
def execJtagBypass (s : State) : Host.Outcome State Fault Refusal := .next (s.tapInstr 0xFF)

end Sys2Proof.Machine
end

