-- ==== Sys2Proof/Machine/Gates.lean ====
section
/-! DEFINITION. Clock gates of hard blocks (R138, R139). -/
namespace Sys2Proof.Machine

/-- CLK_HGREQ0 and CLK_HGREQ1. -/
def hgreq (j : Nat) : Nat := Reg.clkHgreq0 + 4 * j

/-- No lane of the quad drives its line and none holds a word for the fabric (R138). -/
def State.quadIdle (s : State) (q : Nat) : Bool :=
  (List.range 4).all (fun i => (!s.laneOn (4 * q + i) || s.bit (Reg.laneStat (4 * q + i)) 2) && (s.lane (4 * q + i)).rxFifo.isEmpty)

/-- The queues of a hamper port are empty and no read is outstanding (R138). -/
def HampPortSt.quiet (p : HampPortSt) : Bool := p.reqs.isEmpty && p.beats.isEmpty && p.rq.isEmpty && p.bq.isEmpty

/-- Is a hard block at its idle point (R138)? -/
def State.blockIdle (s : State) (i : Nat) : Bool :=
  if i < 16 then s.quadIdle i
  else if i < 48 then (s.hampPort (i - 16)).quiet
  else if i < 54 then decide (s.wpState (i - 48) = 0)
  else if i < 56 then !(s.port (Fin.ofNat 2 (i - 54))).linkUp
  else if i = 56 then s.pnt.writeBack.isEmpty
  else i == 57 && decide (s.sndPhase = 0)

/-- Is `i` a block the writing host reaches the device through (R139)? -/
def State.selfGate (s : State) (ag : Agent) (i : Nat) : Bool :=
  match ag with
  | .hostPcie p => i == 54 + p.val || (decide (i < 16) && decide (s.quadOwner i = 1 + p.val))
  | .hostSpi p => i == 54 + p.val || (decide (i < 16) && decide (s.quadOwner i = 1 + p.val))
  | _ => false

/-- Step 1: a 1 is written to the block's bit. -/
def State.gateRequest (s : State) (ag : Agent) (i : Nat) : State :=
  if 58 ≤ i then s
  else if s.selfGate ag i then s.setBit Reg.clkErr 1 true
  else s.setBit (hgreq (i / 32)) (i % 32) true

/-- Step 2: the gate is applied. -/
def State.gateApply (s : State) (i : Nat) : State := s.setBit (Reg.clkHgstat (i / 32)) (i % 32) true

/-- Is a request waiting for the idle point? -/
def State.gateWaits (s : State) (i : Nat) : Bool := s.bit (hgreq (i / 32)) (i % 32) && !s.blockGated i

/-- Step 3: the wait has expired. -/
def State.gateRefuse (s : State) (i : Nat) : State :=
  ((s.setBit (hgreq (i / 32)) (i % 32) false).setBit (Reg.clkHgref (i / 32)) (i % 32) true).raise 254

/-- Step 4: a 0 is written to the block's bit, and the gate opens; a sounding or a training that waited for it starts. -/
def State.gateOpens (s : State) (i : Nat) : State :=
  if 58 ≤ i then s
  else
    let t := (s.setBit (hgreq (i / 32)) (i % 32) false).setBit (Reg.clkHgstat (i / 32)) (i % 32) false
    if i = 57 ∧ s.sndPhase = 4 then t.sndStart
    else if 2 ≤ i ∧ i < 14 then t.wpDue ((i - 2) / 2)
    else if 48 ≤ i ∧ i < 54 then t.wpDue (i - 48) else t

/-- A write of CLK_HGREQ0 or CLK_HGREQ1: each bit that changes asks for its gate or opens it. -/
def State.hgreqWrite (s : State) (ag : Agent) (j : Nat) (v : Word) : State :=
  (List.range 32).foldl (fun t b =>
    let old := s.bit (hgreq j) b
    if getBit v b ∧ !old then t.gateRequest ag (32 * j + b)
    else if !getBit v b ∧ old then t.gateOpens (32 * j + b) else t) s

/-- The meaning of HARD_BLOCK_GATE_REQUEST. -/
def execHardBlockGateRequest (ag : Agent) (blk : Fin 64) (s : State) : Host.Outcome State Fault Refusal :=
  .next (if s.bit (hgreq (blk.val / 32)) (blk.val % 32) then s else s.gateRequest ag blk.val)

/-- The meaning of HARD_BLOCK_GATE_APPLY. -/
def execHardBlockGateApply (blk : Fin 64) (s : State) : Host.Outcome State Fault Refusal :=
  .next (if s.gateWaits blk.val ∧ s.blockIdle blk.val then s.gateApply blk.val else s)

/-- The meaning of HARD_BLOCK_GATE_REFUSED: a block at its idle point in that cycle is gated (R32). -/
def execHardBlockGateRefused (blk : Fin 64) (s : State) : Host.Outcome State Fault Refusal :=
  .next (if !s.gateWaits blk.val then s
    else if s.blockIdle blk.val then s.gateApply blk.val else s.gateRefuse blk.val)

/-- The meaning of HARD_BLOCK_GATE_OPEN. -/
def execHardBlockGateOpen (_ag : Agent) (blk : Fin 64) (s : State) : Host.Outcome State Fault Refusal :=
  .next (if s.bit (hgreq (blk.val / 32)) (blk.val % 32) then s.gateOpens blk.val else s)

end Sys2Proof.Machine
end

