-- ==== Sys2Proof/Machine/Boundary.lean ====
section
/-! DEFINITION. Manual boundaries fired, and the latch point and the delivery of a boundary (R154 to R161,
R243, R248, R421). -/
namespace Sys2Proof.Machine

/-! MBi_CTL (R155, R156, R355). -/

/-- A write of MBi_CTL: FIRE posts the instant the other fields name; an accepted fire with SYSTEM = 1 goes to
every device. -/
def State.mbWrite (s : State) (i : Nat) (v : Word) : State :=
  let t := s.plainWrite (Reg.cadMbCtl i) v
  if !getBit v 0 then t
  else
    let x := t.mbInstant i
    let u := t.mbPost i x
    if getBit v 2 ∧ t.mbAnswer i x = .posted then u.bndSend i x else u

/-- The meaning of MB_FIRE: a write of MBi_CTL with FIRE = 1. -/
def execMbFire (_ag : Agent) (i : Fin 8) (ctl : Word) (s : State) : Host.Outcome State Fault Refusal :=
  .next (s.mbWrite i.val (putBit ctl 0 true))

/-! The latch point (R158). -/

/-- The boundary source that applies the RWB fields of a register now (R125, R131, R136, R152, R154, R163,
R308, R309); 63 for a register with none. -/
def State.rwbSource (s : State) (off : Nat) : Nat :=
  if 0x40100 ≤ off ∧ off < 0x40500 then s.fld (Reg.cCfg ((off - 0x40100) / 0x20)) 13 8
  else if 0x40500 ≤ off ∧ off < 0x40600 then 8 + s.fld (Reg.otCfg ((off - 0x40500) / 0x10)) 4 0
  else if 0x41000 ≤ off ∧ off < 0x41400 then s.fld (Reg.cadFbrCfg ((off - 0x41000) / 4)) 5 0
  else if 0x41800 ≤ off ∧ off < 0x41C00 then s.fld (Reg.cadFbrCfg ((off - 0x41800) / 4)) 5 0
  else if 0x50100 ≤ off ∧ off < 0x50900 then s.fld (Reg.fsCfg ((off - 0x50100) / 0x40)) 25 20
  else if 0x51000 ≤ off ∧ off < 0x51220 then s.fld Reg.clkBsel 5 0
  else if 0x51400 ≤ off ∧ off < 0x51580 then s.fld Reg.clkBsel 13 8
  else if 0x100000 ≤ off ∧ off < 0x140000 then
    let n := (off - 0x100000) / 0x1000
    if off % 0x1000 = 4 then s.fld (Reg.laneCtl n) 13 8
    else if 0x800 ≤ off % 0x1000 then s.fld (Reg.qctl (n / 4)) 5 0
    else 63
  else 63

/-- Does CAD_HOLD hold a source's RWB values (R161)? -/
def State.cadHeld (s : State) (src : Nat) : Bool := s.bit (Reg.cadHold (src / 32)) (src % 32)

/-- The registers either table lists, each once; every other register reads its reset value and has none
pending. -/
def State.listedRegs (s : State) : List Nat := (s.regs.map Prod.fst ++ s.live.map Prod.fst).eraseDups

/-- The pending RWB values that a boundary of the source fixes at its latch point (R158, R161). -/
def State.rwbFixed (s : State) (src : Nat) : List (Nat × Word) :=
  if s.cadHeld src then []
  else (s.listedRegs.filter (fun o => s.rwbSource o == src && s.pends o)).map (fun o => (o, s.rd o))

/-- The synthesizer, rim and line settings a boundary applies (R125, R131). -/
def State.clockApply (s : State) (vals : List (Nat × Word)) : State :=
  let t := (List.range 32).foldl (fun t n => t.synthApply n vals) s
  let t := (List.range 16).foldl (fun t k => (List.range 8).foldl (fun t j => t.rimApply k j vals) t) t
  [0, 1].foldl (fun t w => [0, 1].foldl (fun t j => t.vselApply w j vals) t) t

/-- Do the values hold synthesizer, rim-net or line settings (R421)? -/
def clockVals (vals : List (Nat × Word)) : Bool := vals.any (fun e => decide (0x50100 ≤ e.1) && decide (e.1 < 0x51220))

/-- Is a boundary of the source announced for this instant? -/
def State.announcedAt (s : State) (src : Nat) (x : Instant) : Bool :=
  s.cad.announced.any (fun a => a.src == src && !a.kept && a.at_.same x)

/-- The latch point of the boundary of `src` at `x`: it is announced, what it applies is fixed, and the level
request, the groups, the reload, the direct writes and the floors are tested. -/
def State.latch (s : State) (src : Nat) (x : Instant) : State :=
  let vals := s.rwbFixed src
  let t : State := { s with cad := { s.cad with announced := s.cad.announced ++ [⟨src, x, vals, false⟩] } }
  let t := t.plLatch src
  let ready := t.verdictOf x == some true
  let u := (List.range 8).foldl (fun u g => u.groupLatch src g ready) t
  let u := t.readyReport u src x
  let u := (u.reloadLatch src).dwLatch src
  if clockVals vals then u.breachTest (u.clockApply vals) src else u

/-- The meaning of BOUNDARY_LATCH. -/
def execBoundaryLatch (src : Fin 64) (s : State) : Host.Outcome State Fault Refusal :=
  .next (match s.sourceNext src.val with
    | some x => if s.announcedAt src.val x then s else s.latch src.val x
    | none => s)

/-! Delivery (R154, R160). -/

/-- The RWB values of the blocks that are no clock settings take effect. -/
def State.rwbApply (s : State) (x : Instant) (vals : List (Nat × Word)) : State :=
  let t := (List.range 96).foldl (fun t b => match vals.lookup (Reg.clkSgate b) with
    | some v => t.commitRwb (Reg.clkSgate b) v v
    | none => t) s
  let t := (List.range 16).foldl (fun t i => match vals.lookup (Reg.otOfs i) with
    | some v => t.commitRwb (Reg.otOfs i) v v
    | none => t) t
  let t := (List.range 32).foldl (fun t g => t.genApply g x vals) t
  let t := t.fbrsApply vals
  let t := (List.range 16).foldl (fun t q => t.qpllApply q vals) t
  (List.range 64).foldl (fun t n => t.laneCfgApply n vals) t

/-- An event of generator `g` at `x`: it counts, its next instant follows unless a step kept the event, and the
synthesizers locked to it measure their phase (R123, R146, R151). -/
def State.genEvent (s : State) (g : Nat) (x : Instant) (kept : Bool) : State :=
  let t := s.wr (Reg.cCount g) (s.rd (Reg.cCount g) + 1)
  let t := match (t.gen g).next with
    | some y => if y.same x && !kept then t.setGen g { t.gen g with next := t.genAfter g x } else t
    | none => t
  (List.range 32).foldl (fun t n => t.synthMeasure g n) t

/-- The source's own instant has come: a manual boundary and a tap no longer pend, a generator goes on, and the
synthesizers locked to it measure (R123). -/
def State.instantOver (s : State) (src : Nat) (x : Instant) (kept : Bool) : State :=
  if src < 8 then (match s.mb src with
    | some y => if y.same x then s.setMb src none else s
    | none => s)
  else if src < 40 then s.genEvent (src - 8) x kept
  else (match s.tap (src - 40) with
    | some y => if y.same x then s.setTap (src - 40) none else s
    | none => s)

/-- The taps of a generator are scheduled by its event, with the offsets now in effect (R154). -/
def State.tapsOf (s : State) (src : Nat) (x : Instant) : State :=
  if 8 ≤ src ∧ src < 40 then (List.range 16).foldl (fun t i => t.tapSchedule i (src - 8) x) s else s

/-- The event lines whose source is `src` (R160). -/
def State.eventLines (s : State) (src : Nat) : State :=
  (List.range 8).foldl (fun t i =>
    t.raiseIf (decide (t.fld (Reg.cadEvsel (i / 4)) (8 * (i % 4) + 5) (8 * (i % 4)) = src)) (256 + i)) s

/-- The boundary takes effect at its receivers. -/
def State.delivery (s : State) (a : Announced) : State :=
  let t : State := { s with cad := { s.cad with announced := s.cad.announced.erase a } }
  let t := t.instantOver a.src a.at_ a.kept
  let vals := if t.cadHeld a.src then [] else a.vals
  let t := (t.clockApply vals).rwbApply a.at_ vals
  let t := t.tapsOf a.src a.at_
  let t := ((t.deliverCommits a.src).dwDeliver a.src).plDeliver a.src
  let t := t.eventLines a.src
  if t.ppsFrom a.src then t.ppsInstant else t

/-- An announced tap event waits for its parent event to be delivered (R154, R158). -/
def State.tapWaits (s : State) (src : Nat) : Bool := decide (40 ≤ src ∧ src < 56) && (s.tap (src - 40)).isNone && (s.tapEarly (src - 40)).isSome

/-- The meaning of BOUNDARY_DELIVERY. -/
def execBoundaryDelivery (src : Fin 64) (s : State) : Host.Outcome State Fault Refusal :=
  .next (match s.cad.announced.find? (fun a => a.src == src.val) with
    | some a => if s.tapWaits src.val then s else s.delivery a
    | none => s)

end Sys2Proof.Machine
end

