-- ==== Sys2Proof/Machine/Pins.lean ====
section
/-! DEFINITION. Package pins and user I/O (R476 to R485). -/
namespace Sys2Proof.Machine

/-! Pin states in each mode (R218, R484). -/

/-- What a group of pins does. -/
inductive PinGroup where
  | floats
  | pullUp
  | pullDown
  /-- High-impedance with no pull. -/
  | noPull
  /-- As the live plane, the wythe's hold or the firmware sets it. -/
  | configured
  /-- Levels and enables held since SLEEP was entered (R432). -/
  | held
  | unpowered
  /-- Lane transmitters in electrical idle. -/
  | idle
  /-- xSPI: reset low, the others high-impedance. -/
  | resetLow
  /-- xSPI: reset and chip select high, and reads from the external flash where it is the boot source. -/
  | reading
  /-- xSPI: reset and chip select high, the others driven low. -/
  | quiet
  deriving DecidableEq, Repr

/-- The pull of a powered bank before its outputs are enabled, by PULLSEL (R203, R218). -/
def State.loadPull (s : State) : PinGroup :=
  match s.fld Reg.sysBoot 3 2 with
  | 1 => .pullDown
  | 2 => .pullUp
  | _ => .noPull

/-- The user pins of band-wythe `k`: a bank that is off floats, and one whose outputs are not enabled has the
PULLSEL pull (R27, R218, R432, R468, R484). -/
def State.userPins (s : State) (k : Nat) : PinGroup :=
  if !s.railOn (10 + k) then .floats
  else if s.mode = 0x9 then .held
  else if s.outputsOn k then .configured else s.loadPull

/-- The lane transmitters of a quad (R330, R331, R484). -/
def State.laneTxPins (s : State) (q : Nat) : PinGroup :=
  if !s.railOn (4 + q / 8) then .unpowered
  else if (List.range 4).all (fun i => s.bit (Reg.laneStat (4 * q + i)) 2) then .idle else .configured

/-- The cluster pins but CP0, CP1 and CP26 to CP33, which stay inputs (R478, R484). -/
def State.clusterPins (s : State) : PinGroup :=
  match s.mode with
  | 0x4 => if s.bit Reg.sysClstat 0 then .configured else .pullUp
  | 0x5 => .configured
  | 0x9 => .held
  | m => if 6 ≤ m ∧ m ≤ 8 then .configured else .pullUp

/-- The xSPI master's pins (R209, R484). -/
def State.xspiPins (s : State) : PinGroup :=
  match s.mode with
  | 0x9 => .held
  | 0xC => .floats
  | 0x4 => .reading
  | 0x5 => .reading
  | m => if 6 ≤ m ∧ m ≤ 8 ∨ m = 0xB then .quiet else .resetLow

/-- PPS_OUT, none where it is high-impedance (R150, R484). -/
def State.ppsOut (s : State) : Option Bool := if s.mode = 0xA then none else some s.cad.pps

/-! User pin fields (R479 to R481). -/

/-- The VCCIO code of a bank that is on, 0 while it is off (R205, R207). -/
def State.bankCode (s : State) (b : Nat) : Nat := if s.railOn (10 + b) then s.boot.bankv / 16 ^ b % 16 else 0

/-- The listing of the user I/O column of band-wythe `k` in the live plane. -/
def State.ioCol (s : State) (k : Nat) : Nat → Bool := fun b => s.colBit (s.edgeLatch k) k 0 (Config.edgeBit false b)

/-- Does the live plane of the column hold a nonzero frame?  Without one every pin is off. -/
def State.ioActive (s : State) (k : Nat) : Bool :=
  s.planes.frames.any (fun e => decide (e.1 / 2 ^ 7 = s.edgeLatch k * 2 ^ 14 + k * 2 ^ 10))

/-- The fields of a pin as the hardware acts on them: an illegal IOSTD turns the pin off, an illegal DIR acts as
input, DRIVE as 8 mA, PULL as none, TERM as off, and an illegal FCLK or PCLK as no clock (R480). -/
def State.pinCfg (s : State) (k i : Nat) : PinCfg :=
  let col := s.ioCol k
  let c := pinCfgOf col i
  { c with
    iostd := if iostdBad i c.iostd (pinCfgOf col (i / 2 * 2)).iostd then 0 else c.iostd
    dir := if c.dir = 3 then 0 else c.dir
    drive := if diffStd c.iostd ∧ c.drive ≠ 0 then 1 else c.drive
    pull := if diffStd c.iostd then 0 else c.pull
    term := c.term && diffStd c.iostd
    fclk := if 24 < c.fclk then 0 else c.fclk
    pclk := if 24 < c.pclk then 0 else c.pclk }

/-- The VCCIO codes at which a standard works as an input, and as an output (R481). -/
def inputCodes (std : Nat) : List Nat := if std = 6 then [1, 2, 3, 4, 5] else if std = 7 then [1, 3] else [std]
def outputCodes (std : Nat) : List Nat := if std = 6 then [3, 4] else if std = 7 then [1] else [std]

/-- Does a pin's standard match the bank's code as an input, and as an output? -/
def State.pinInOk (s : State) (k : Nat) (c : PinCfg) : Bool := (inputCodes c.iostd).contains (s.bankCode k)
def State.pinOutOk (s : State) (k : Nat) (c : PinCfg) : Bool := (outputCodes c.iostd).contains (s.bankCode k)

/-- Does a live pin need another VCCIO than the bank's (R481)? -/
def State.pinMismatch (s : State) (k : Nat) (c : PinCfg) : Bool :=
  decide (c.iostd ≠ 0) && ((c.dir != 1 && !s.pinInOk k c) || (c.dir != 0 && !s.pinOutOk k c))

/-- SYS_IOMIS (R481). -/
def State.iomis (s : State) : Word :=
  wordOf (fun k => decide (k < 16) && s.ioActive k && (List.range 52).any (fun i => s.pinMismatch k (s.pinCfg k i)))

/-! Per-pin SERDES (R482). -/

/-- A user pin's registers. -/
def State.pad (s : State) (n : Nat) : PadSt := Store.get (fun _ => {}) s.fab.pads n

/-- The block with a user pin's registers set. -/
def State.setPad (s : State) (n : Nat) (p : PadSt) : State :=
  { s with fab := { s.fab with pads := Store.set (fun _ => {}) s.fab.pads n p } }

/-- The number a word's bits spell, the first on the line first. -/
def padWord (bits : List Bool) : Nat :=
  let l := if Config.padLsbFirst then bits else bits.reverse
  l.foldr (fun b a => b.toNat + 2 * a) 0

/-- The word of `w` bits with its boundary slipped, out of the last bits. -/
def padSlice (hist : List Bool) (w slip : Nat) : Nat :=
  let l := hist.drop (hist.length - 2 * w)
  padWord ((l.drop (if Config.bitslipLater then slip else (w - slip) % w)).take w)

/-- No signal at a pin. -/
def lowPad : PadPins := ⟨0, false, false, []⟩

/-- The input side at an edge: a word of the deserialiser, or the level at the pad. -/
def PadSt.input (p : PadSt) (w : Nat) (ok : Bool) (pins : PadPins) : PadSt :=
  let hist := p.hist ++ (if ok then pins.rx else pins.rx.map (fun _ => false))
  let hist := hist.drop (hist.length - 16)
  if w = 1 then { p with hist := hist, rx := ((hist.getLast?).getD false).toNat }
  else
    let slip := if pins.bitslip then (p.slip + 1) % w else p.slip % w
    { p with hist := hist, slip := slip, rx := padSlice hist w slip }

/-- The output side at an edge. -/
def PadSt.output (p : PadSt) (w : Nat) (c : PinCfg) (pins : PadPins) : PadSt :=
  { p with tx := pins.out.toNat % 2 ^ w, oe := c.dir == 1 || pins.oe }

/-- Pin `i` of band-wythe `k` at a rising edge of the clock its words move on: PCLK, or FCLK with RATIO 0.  A
frozen column keeps its outputs (R248). -/
def State.padEdge (s : State) (k net i : Nat) (pins : PadPins) : State :=
  let c := s.pinCfg k i
  let w := 2 ^ c.ratio
  if c.iostd = 0 ∨ (if c.ratio = 0 then c.fclk else c.pclk) ≠ net + 1 then s
  else
    let n := 52 * k + i
    let p := s.pad n
    let p := if c.dir ≠ 1 then p.input w (s.pinInOk k c) pins else p
    let p := if c.dir ≠ 0 ∧ !s.bondHold (96 + k) then p.output w c pins else p
    s.setPad n p

/-- The user pins of a band-wythe at a rising edge of stake net `net` of its bay column 0. -/
def State.padsEdge (s : State) (k net : Nat) (p : EdgePins) : State :=
  if !s.ioActive k then s
  else (List.range 52).foldl (fun t i => t.padEdge k net i ((p.pads.lookup i).getD lowPad)) s

/-- Does a pin drive its pad (R222, R480, R481)?  `oe` is the fabric's OE, which a pin that registers nothing
takes as it stands (R482). -/
def State.padDrives (s : State) (k i : Nat) (oe : Bool) : Bool :=
  let c := s.pinCfg k i
  s.outputsOn k && decide (c.iostd ≠ 0) && s.pinOutOk k c &&
    (c.dir == 1 || (c.dir == 2 && (if c.ratio = 0 ∧ c.fclk = 0 then oe else (s.pad (52 * k + i)).oe)))

end Sys2Proof.Machine
end

