-- ==== Sys2Proof/Machine/Manager.lean ====
section
/-! DEFINITION. Manager space (R6 to R9, R365, R375, R378, R488): one path for every write of a register and
one for every read, whoever makes it. -/
namespace Sys2Proof.Machine

/-- Is the block at an offset powered?  Without VHUB the always-on domain serves SYS, LC and PWR (R27, R412;
DESIGN CHOICE, assumption 61). -/
def State.mgrServes (s : State) (off : Nat) : Bool :=
  s.mgrRuns && (!s.railDead 1 || decide (off < 0x20000) || (decide (0x60000 ≤ off) && decide (off < 0x70000)))

/-! Writes of the blocks with effects of their own. -/

/-- A GO of a request slot (R350). -/
def State.rqGo (s : State) (n : Nat) : State :=
  let c := s.rd (Reg.waleRqCtl n)
  let op := getBits c 2 0
  let len := getBits c 11 4
  if getBit c 13 ∨ 128 < len ∨ (op ≠ 1 ∧ op ≠ 2 ∧ op ≠ 4) ∨ (op ≠ 4 ∧ len = 0) then s
  else
    let kind := if op = 1 then WaleKind.write else if op = 2 then .read else .message
    let ws := if op = 2 then [] else (List.range len).map (fun i => s.rd (Reg.waleRqData n i))
    let addr := (s.rd (Reg.waleRqAddrLo n)).toNat + (s.rd (Reg.waleRqAddrHi n)).toNat * 2 ^ 32
    (s.setBit (Reg.waleRqCtl n) 13 true).waleIssue (.slot n) kind (s.fld (Reg.waleRqDest n) 8 0) addr len (getBit c 3) ws

/-- A write of WALE_RQs CTL: a GO while BUSY is 1 is ignored (R350). -/
def State.rqCtlWrite (s : State) (n : Nat) (v : Word) : State :=
  let t := s.plainWrite (Reg.waleRqCtl n) v
  if getBit v 12 then t.rqGo n else t

/-- A write of a WALE register (R350, R358, R362). -/
def State.waleWrite (s : State) (off : Nat) (v : Word) : State :=
  if off < 0x218000 then
    (if off % 0x4000 = 0 then s.wpCtlWrite ((off - 0x200000) / 0x4000) v else s.plainWrite off v)
  else if off = Reg.waleSysCfg then s.waleCfgWrite v
  else if off = Reg.waleGangCtl then s.gangCtlWrite v
  else if off = Reg.waleMqPop then (if getBit v 0 then s.mqPop else s)
  else if off = Reg.waleBndref then (if getBit v 31 then s.wr off (putBits (putBit (s.rd off) 31 false) 23 16 0) else s)
  else if 0x219000 ≤ off ∧ off < 0x21A000 ∧ off % 0x400 = 0 then s.rqCtlWrite ((off - 0x219000) / 0x400) v
  else if off = Reg.waleRt s.devid then s
  else s.plainWrite off v

/-- A write of an LC register by the holder of its semaphore (R469). -/
def State.lcWrite (s : State) (off : Nat) (v : Word) : State :=
  if off = Reg.lcReqctl then s.reqctlWrite v
  else if off = Reg.lcTamper then s.tamperWrite v
  else if off = Reg.lcDebug then s.debugWrite v
  else if 0x10100 ≤ off ∧ off < 0x10300 then s.reqbufWrite ((off - 0x10100) / 4) v
  else s.plainWrite off v

/-- A write of a SYS register (R30, R228, R401). -/
def State.sysWrite (s : State) (off : Nat) (v : Word) : State :=
  if off = Reg.sysCtl then s.sysCtlWrite v
  else if off = Reg.sysBootclr then s.bootClrWrite v
  else if off = Reg.sysClctl then s.clctlWrite v
  else if off = Reg.sysClvecLo ∨ off = Reg.sysClvecHi then
    (if (List.range 4).any s.coreRuns then s else s.plainWrite off v)
  else s.plainWrite off v

/-- A write at offset `o` of mailbox `m` (R380). -/
def State.mailWrite (s : State) (ag : Agent) (m o : Nat) (v : Word) : State :=
  if o < 0x20 then s.mailData m (o / 4) v else if o = 0x20 then s.mailCtl ag m v else s

/-- A write of a SEM register (R374, R377, R380). -/
def State.semBlockWrite (s : State) (ag : Agent) (off : Nat) (v : Word) : State :=
  if off < 0x80100 then s.semWrite ag ((off - 0x80000) / 4) v
  else if off = Reg.semForce then s.semForce ag v
  else if 0x80400 ≤ off ∧ off < 0x80800 then s.mailWrite ag ((off - 0x80400) / 0x40) ((off - 0x80400) % 0x40) v
  else s.plainWrite off v

/-- A write of an EVT register (R409, R410). -/
def State.evtWrite (s : State) (off : Nat) (v : Word) : State :=
  if off < 0x90700 then s.evtSrcWrite ((off - 0x90000) / 4) v
  else if 0x90800 ≤ off ∧ off < 0x9081C then s.evtThrWrite ((off - 0x90800) / 4) v
  else if off = Reg.evtRaise then s.evtRaise v
  else s

/-- A write of a register of host port `p` (R381). -/
def State.hpWrite (s : State) (ag : Agent) (p : Fin 2) (off : Nat) (v : Word) : State :=
  if off % 0x10000 = 0 then s.hpCtlWrite ag p v
  else if off % 0x10000 = 0x10 then s.hpSend ag p v
  else s.plainWrite off v

/-- A write of a PWR register (R417, R422, R435). -/
def State.pwrWrite (s : State) (off : Nat) (v : Word) : State :=
  if off = Reg.pwrPlreq then s.plReqWrite v
  else if off = Reg.pwrMreq then s.mreqWrite v
  else s.plainWrite off v

/-- A write of an SND register (R442, R445, R446). -/
def State.sndWrite (s : State) (off : Nat) (v : Word) : State :=
  if off = Reg.sndReq then s.sndReqWrite v
  else if off = Reg.sndStaleclr then s.staleClrWrite v
  else if off = Reg.sndFusego then s.fuseGo v
  else s.plainWrite off v

/-- A write of a CAD or a CLK register. -/
def State.timeWrite (s : State) (ag : Agent) (off : Nat) (v : Word) : State :=
  if off < 0x50000 then
    (if 0x40600 ≤ off ∧ off < 0x40680 ∧ off % 0x10 = 0 then s.mbWrite ((off - 0x40600) / 0x10) v else s.cadWrite off v)
  else if off = Reg.clkHgreq0 then s.hgreqWrite ag 0 v
  else if off = Reg.clkHgreq1 then s.hgreqWrite ag 1 v
  else s.clkWrite ag off v

/-- What a write of a mapped register does once its ownership test has passed. -/
def State.mgrEffect (s : State) (ag : Agent) (off : Nat) (v : Word) : State :=
  if off < 0x10000 then s.sysWrite off v
  else if off < 0x20000 then s.lcWrite off v
  else if off < 0x30000 then s.cfgWrite off v
  else if off < 0x40000 then s.pntWrite off v
  else if off < 0x60000 then s.timeWrite ag off v
  else if off < 0x70000 then s.pwrWrite off v
  else if off < 0x80000 then s.sndWrite off v
  else if off < 0x90000 then s.semBlockWrite ag off v
  else if off < 0xA0000 then s.evtWrite off v
  else if off < 0xC0000 then s.hpWrite ag (Fin.ofNat 2 ((off - 0xA0000) / 0x10000)) off v
  else if off < 0x200000 then s.laneWrite ((off - 0x100000) / 0x1000) (off % 0x1000) v
  else if off < 0x300000 then s.waleWrite off v
  else if off = Reg.hampCtl then (if getBit v 0 then s.hampTrainWrite else s)
  else s.plainWrite off v

/-- In SAFE HOLD with cause 0x03 or 0x04 service SPI only reads, and only SYS and LC (R365). -/
def State.spiClosed (s : State) (ag : Agent) : Bool :=
  match ag with
  | .hostSpi _ => s.mode == 0xB && (s.safeCause == 3 || s.safeCause == 4)
  | _ => false

/-- An agent writes the register at a manager offset; an offset that no block defines ignores it (R488). -/
def State.mgrWrite (s : State) (ag : Agent) (off : Nat) (v : Word) : State :=
  if !s.mgrServes off || s.spiClosed ag then s
  else match regRow? off with
    | some _ => s.rws ag off (s.mgrEffect ag off v)
    | none => s

/-! Reads. -/

/-- PWR_VIN, the voltage of a rail that is on and the level of DONE are measured: each read takes a free value
(R30, R411, R413).  In KEEPER BOOT PWR_VIN still has its reset value (R10; DESIGN CHOICE, assumption 61), and DONE
is low while the device drives it. -/
def State.measured (s : State) (off : Nat) : Word × State :=
  let w := s.freshWord
  (if off = Reg.pwrVin then (if s.mode = 2 then 0 else w.1)
   else if off = Reg.sysMode then putBit (s.rd off) 11 (!s.boot.doneLow && getBit w.1 0)
   else putBits (s.rd off) 15 0 w.1.toNat, w.2)

/-- The registers whose value follows other state. -/
def State.derived (s : State) (ag : Agent) (off : Nat) : Word :=
  if off = Reg.sysGwstat then wordOf (fun p => decide (p < 4) && s.gwAvail p)
  else if off = Reg.sysIomis then s.iomis
  else if off = Reg.pntStat then putBit (s.rd off) 0 s.pntRuns
  else if off = Reg.semId then BitVec.ofNat 32 (agentIdent ag)
  else if 0x90900 ≤ off ∧ off < 0x90938 then s.evtPend ((off - 0x90900) / 4)
  else if 0x100000 ≤ off ∧ off < 0x140000 then
    let n := (off - 0x100000) / 0x1000
    let o := off % 0x1000
    if 0x10 ≤ o ∧ o < 0x1C then s.dfeRead n ((o - 0x10) / 4)
    else if o = 0x814 then putBits (s.rd off) 9 8 (s.quadOwner (n / 4))
    else s.rd off
  else if 0x218200 ≤ off ∧ off < 0x218400 then s.mqWord ((off - 0x218200) / 4)
  else if 0x300200 ≤ off ∧ off < 0x300280 then putBit (s.rd off) 7 (s.hampEnabled ((off - 0x300200) / 4))
  else if off = Reg.flcSecinfo then s.secInfo
  else s.rd off

/-- An agent reads a mapped register. -/
def State.mgrValue (s : State) (ag : Agent) (off : Nat) : Word × State :=
  if 0x40060 ≤ off ∧ off < 0x40090 ∧ off % 0x10 = 0 then s.captureRead ((off - 0x40060) / 0x10)
  else if isSnapUpper off || !(snapUppers off).isEmpty then s.snapRead off
  else if off = Reg.pwrVin ∨ off = Reg.sysMode then s.measured off
  else if 0x60400 ≤ off ∧ off < 0x60468 ∧ s.bit off 16 then s.measured off
  else if 0x90840 ≤ off ∧ off < 0x90850 then s.claim ((off - 0x90840) / 4)
  else if off = Reg.hpSret 0 then s.sretRead 0
  else if off = Reg.hpSret 1 then s.sretRead 1
  else (s.derived ag off, s)

/-- An agent reads the word at a manager offset; an offset that no block defines reads 0 (R488). -/
def State.mgrRead (s : State) (ag : Agent) (off : Nat) : Word × State :=
  if !s.mgrServes off || (s.spiClosed ag && decide (0x20000 ≤ off)) then (0, s)
  else match regRow? off with
    | some _ => s.mgrValue ag off
    | none => (0, s)

end Sys2Proof.Machine
end

