-- ==== Sys2Proof/Machine/Access.lean ====
section
/-! DEFINITION. Accesses of the hub's memory map: the cluster's own, inbound Wale requests, the gateway's
master side, service SPI, and the host's manager window (R346, R347, R367 to R371, R398, R407). -/
namespace Sys2Proof.Machine

/-! The map (R398). -/

/-- The regions of the cluster's map. -/
inductive Region where
  | sram
  | peripherals
  | manager
  | flash
  | hamper
  | window
  deriving DecidableEq, Repr

/-- The map: base, size, region. -/
def clusterMap : List (Nat × Nat × Region) := [
  (0x0008000000, 2 * 2 ^ 20, .sram),
  (0x000C000000, 64 * 2 ^ 10, .peripherals),
  (0x0010000000, 16 * 2 ^ 20, .manager),
  (0x0200000000, 2 ^ 30, .flash),
  (0x0800000000, 16 * 2 ^ 30, .hamper),
  (0x1000000000, 64 * 2 ^ 30, .window)]

/-- The region that holds the `n` bytes from `a` on, with the offset in it. -/
def regionOf (a n : Nat) : Option (Region × Nat) :=
  (clusterMap.find? (fun e => decide (e.1 ≤ a) && decide (a + n ≤ e.1 + e.2.1))).map (fun e => (e.2.2, a - e.1))

/-! Bytes. -/

/-- Bytes as words, the last one filled up with zeros (R6). -/
def packWords : List Byte → List Word
  | [] => []
  | [a] => [bytesWord a 0 0 0]
  | [a, b] => [bytesWord a b 0 0]
  | [a, b, c] => [bytesWord a b c 0]
  | a :: b :: c :: d :: r => bytesWord a b c d :: packWords r

/-- The bytes of words (R6). -/
def unpackWords (ws : List Word) : List Byte := ws.flatMap wordBytes

/-- `n` bytes of SRAM (R398). -/
def State.sramLoad (s : State) (a n : Nat) : List Byte :=
  (List.range n).map (fun i => Store.get (Config.sramByte s.sramTok) s.sram (a + i))

/-- Bytes written to SRAM. -/
def State.sramStore (s : State) (a : Nat) : List Byte → State
  | [] => s
  | b :: bs => ({ s with sram := Store.insert s.sram a b }).sramStore (a + 1) bs

/-! Runs of registers or flash words, in ascending order. -/

/-- `n` registers read one after another. -/
def State.mgrReads (s : State) (ag : Agent) (off : Nat) : Nat → List Word × State
  | 0 => ([], s)
  | n + 1 =>
    let r := s.mgrRead ag off
    let q := r.2.mgrReads ag (off + 4) n
    (r.1 :: q.1, q.2)

/-- Words written to consecutive registers. -/
def State.mgrWrites (s : State) (ag : Agent) (off : Nat) : List Word → State
  | [] => s
  | w :: ws => (s.mgrWrite ag off w).mgrWrites ag (off + 4) ws

/-- `n` words of the flash array, none while the reader stalls. -/
def State.flashReads (s : State) (ag : Agent) (off : Nat) : Nat → Option (List Word) × State
  | 0 => (some [], s)
  | n + 1 =>
    match s.flashRead ag off with
    | (none, t) => (none, t)
    | (some w, t) =>
      let q := t.flashReads ag (off + 4) n
      (q.1.map (fun ws => w :: ws), q.2)

/-- Words written to the flash array, each a cycle of 32 bits. -/
def State.flashWrites (s : State) (ag : Agent) (off : Nat) : List Word → State
  | [] => s
  | w :: ws => (s.flashCycle ag off false (w.setWidth 64)).flashWrites ag (off + 4) ws

/-! The fabric window (R406). -/

/-- An access of `n` bytes at window offset `o`, split at 512 bytes. -/
def windowParts (o n : Nat) : List (Nat × Nat) :=
  let room := 512 - o % 512
  if n ≤ room then [(o, n)] else [(o, room), (o + room, n - room)]

/-- The beats of `n` bytes at `o`. -/
def beatsOf (o n : Nat) : Nat := (o % 8 + n + 7) / 8

/-- Beat `i` of a write of `bytes` at `o`, with its byte enables. -/
def writeBeat (o : Nat) (bytes : List Byte) (i : Nat) : BitVec 64 × BitVec 8 :=
  let has (j : Nat) : Bool := decide (o % 8 ≤ 8 * i + j) && decide (8 * i + j < o % 8 + bytes.length)
  let byte (j : Nat) : Nat := if has j then (bytes.getD (8 * i + j - o % 8) 0).toNat else 0
  (BitVec.ofNat 64 ((List.range 8).map (fun j => byte j * 2 ^ (8 * j))).sum,
   BitVec.ofNat 8 ((List.range 8).map (fun j => (has j).toNat * 2 ^ j)).sum)

/-- The window request of one part. -/
def windowReq (o n tag : Nat) (data : Option (List Byte)) : WindowReq where
  offset := o / 8 * 8
  write := data.isSome
  beats := beatsOf o n
  tag := Fin.ofNat 32 tag
  data := match data with
    | some bytes => (List.range (beatsOf o n)).map (writeBeat o bytes)
    | none => []

/-- The parts of an access placed one after another, none unless every part has room. -/
def State.windowPlace (s : State) (origin : Nat → GwOrigin) (data : Option (List Byte)) (o0 : Nat) :
    List ((Nat × Nat) × Nat) → Option State
  | [] => some s
  | ((o, n), i) :: ps =>
    match s.gwTag (o / 2 ^ 34) with
    | none => none
    | some tag =>
      match s.gwAccess (origin i) (windowReq o n tag (data.map (fun b => (b.drop (o - o0)).take n))) with
      | none => none
      | some t => t.windowPlace origin data o0 ps

/-- A window access of `n` bytes at `o`. -/
def State.windowAccess (s : State) (origin : Nat → GwOrigin) (o n : Nat) (data : Option (List Byte)) : Option State :=
  s.windowPlace origin data o (windowParts o n).zipIdx

/-! Inbound Wale requests (R346, R347). -/

/-- The end of an inbound request. -/
def State.inboundEnd (s : State) (b : WaleBlock) (status : Nat) (ws : List Word) : State :=
  if wantsAnswer b then s.answer b status ws else s

/-- The bit of WALE_ACCEPT for a region. -/
def acceptBit : Region → Nat
  | .sram => 0
  | .manager => 1
  | .flash => 2
  | .hamper => 3
  | .window => 4
  | .peripherals => 31

/-- The region an inbound request may reach, if any. -/
def State.inboundRegion (s : State) (b : WaleBlock) : Option (Region × Nat) :=
  let a := b.addr.toNat
  let n := 4 * b.len.val
  if b.len.val = 0 ∨ 128 < b.len.val ∨ a % 4 ≠ 0 ∨ 4096 < a % 4096 + n then none
  else match regionOf a n with
    | some (.peripherals, _) => none
    | some (r, o) => if s.bit Reg.waleAccept (acceptBit r) ∧ ¬(r = .flash ∧ b.kind = .write) then some (r, o) else none
    | none => none

/-- An inbound request of SRAM. -/
def State.inboundSram (s : State) (b : WaleBlock) (o mem : Nat) : State :=
  if mem = 2 then (s.raise 359).inboundEnd b 6 []
  else if b.kind = .write then (s.sramStore o (unpackWords (bodyWords b))).inboundEnd b 0 []
  else s.inboundEnd b 0 (packWords (s.sramLoad o (4 * b.len.val)))

/-- An inbound request of the hamper (R347, R390, R392): it waits while the hamper trains or holds requests. -/
def State.inboundHamper (s : State) (b : WaleBlock) (o mem : Nat) : Option State :=
  if s.hampState = 2 then some (s.inboundEnd b 6 [])
  else if !s.hampServes then none
  else
    let write := decide (b.kind = .write)
    let r := s.hampReport 33 o write mem
    some (if 2 ≤ r.1 then r.2.inboundEnd b 6 []
      else if write then (r.2.hampStore o (unpackWords (bodyWords b))).inboundEnd b 0 []
      else r.2.inboundEnd b 0 (packWords (r.2.hampLoad o (4 * b.len.val))))

/-- An inbound request of the fabric window; a read is answered once the fabric has answered. -/
def State.inboundWindow (s : State) (b : WaleBlock) (o : Nat) : Option State :=
  if b.kind = .write then
    (s.windowAccess (.wale b) o (4 * b.len.val) (some (unpackWords (bodyWords b)))).map (fun t => t.inboundEnd b 0 [])
  else s.windowAccess (.wale b) o (4 * b.len.val) none

/-- The target executes a request, none while it has to wait. -/
def State.inbound (s : State) (b : WaleBlock) (mem : Nat) : Option State :=
  let ag := Agent.wale b.src
  match s.inboundRegion b with
  | none => some (s.inboundEnd b 1 [])
  | some (.sram, o) => some (s.inboundSram b o mem)
  | some (.manager, o) =>
    if b.kind = .write then some ((s.mgrWrites ag o (bodyWords b)).inboundEnd b 0 [])
    else
      let r := s.mgrReads ag o b.len.val
      some (r.2.inboundEnd b 0 r.1)
  | some (.flash, o) =>
    match s.flashReads ag o b.len.val with
    | (some ws, t) => some (t.inboundEnd b 0 ws)
    | (none, _) => none
  | some (.hamper, o) => s.inboundHamper b o mem
  | some (.window, o) => s.inboundWindow b o
  | some (.peripherals, _) => some (s.inboundEnd b 1 [])

/-- Are new requests of the cluster, the hosts and Wale held (R423, R424)? -/
def State.hubHeld (s : State) : Bool := decide (s.pwr.entering ≠ 0) || s.mode == 9

/-- The oldest inbound request is executed, none while it waits. -/
def State.inboundNext (s : State) : Option State :=
  match s.wale.inbox with
  | [] => none
  | (b, mem) :: q => if s.hubHeld then none else (s.setWale { s.wale with inbox := q }).inbound b mem

/-- The words of a part's answer that the request asked for. -/
def partWords (p : Nat × Nat) (ws : List Word) : List Word := (ws.drop (p.1 % 8 / 4)).take (p.2 / 4)

/-- The words of an inbound window read, once every part has its answer. -/
def State.windowAnswer (s : State) (b : WaleBlock) : Option (List Word) :=
  let o := b.addr.toNat - 0x1000000000
  ((windowParts o (4 * b.len.val)).zipIdx.mapM (fun e =>
    (s.wale.gwAnswers.find? (fun a => a.1 == b && a.2.1 == e.2)).map (fun a => partWords e.1 a.2.2))).map List.flatten

/-- An inbound window read that is answered ends. -/
def State.answerNext (s : State) : Option State :=
  match s.wale.gwAnswers.find? (fun a => (s.windowAnswer a.1).isSome) with
  | none => none
  | some a =>
    let t := s.setWale { s.wale with gwAnswers := s.wale.gwAnswers.filter (fun x => x.1 != a.1) }
    some (t.inboundEnd a.1 0 ((s.windowAnswer a.1).getD []))

/-! Service SPI (R364, R365, R371). -/

/-- A word of a WRITE frame: `a` is the frame's address with its region. -/
def State.spiApply (s : State) (p : Fin 2) (a : Nat) (w : Word) : State :=
  let ag := Agent.hostSpi p
  let off := a % 2 ^ 30
  if s.spiClosed ag then s
  else match a / 2 ^ 30 % 4 with
    | 0 => s.mgrWrite ag off w
    | 1 => s.flashCycle ag off false (w.setWidth 64)
    | 2 => s.windowWrite p true [w]
    | _ => s

/-- One word of a READ frame; none ends the frame's data. -/
def State.spiReadWord (s : State) (p : Fin 2) (a : Nat) : Option Word × State :=
  let ag := Agent.hostSpi p
  let off := a % 2 ^ 30
  match a / 2 ^ 30 % 4 with
  | 0 => (some (s.mgrRead ag off).1, (s.mgrRead ag off).2)
  | 1 => if s.spiClosed ag then (some 0, s) else s.flashRead ag off
  | 2 => if s.spiClosed ag then (some 0, s) else (some s.freshWord.1, s.freshWord.2)
  | _ => (none, s)

/-- The words of a READ frame. -/
def State.spiReads (s : State) (p : Fin 2) (a : Nat) : Nat → List Word × State
  | 0 => ([], s)
  | n + 1 =>
    match s.spiReadWord p a with
    | (none, t) => ([], t)
    | (some w, t) =>
      let q := t.spiReads p (if a / 2 ^ 30 % 4 = 2 then a else a + 4) n
      (w :: q.1, q.2)

/-- A service SPI access is carried out. -/
def State.spiItem (s : State) (p : Fin 2) : SpiItem → State
  | .word a w => s.spiApply p a w
  | .read a n => (s.spiReads p a n).2.emit (.read (.hostSpi p) (s.spiReads p a n).1)
  | .stream ws => s.windowWrite p true ws
  | .status => s.spiAnswer p

/-- Does a gate or a hold keep service SPI accesses of the port waiting (R139, R423)? -/
def State.spiHeld (s : State) (p : Fin 2) : Bool := s.blockGated (54 + p.val) || s.hubHeld

/-- An access of a frame is carried out, or waits in order. -/
def State.spiTake (s : State) (p : Fin 2) (i : SpiItem) : State :=
  if s.spiHeld p ∨ (s.port p).spiWait ≠ [] then s.setPort p { s.port p with spiWait := (s.port p).spiWait ++ [i] }
  else s.spiItem p i

/-- The oldest access that waits for the port is carried out. -/
def State.spiNext (s : State) (p : Fin 2) : Option State :=
  match (s.port p).spiWait with
  | [] => none
  | i :: q => if s.spiHeld p then none else some ((s.setPort p { s.port p with spiWait := q }).spiItem p i)

/-- The words of a WRITE frame. -/
def State.spiWrites (s : State) (p : Fin 2) (a : Nat) : List Word → State
  | [] => s
  | w :: ws => (s.spiTake p (.word a w)).spiWrites p (if a / 2 ^ 30 % 4 = 2 then a else a + 4) ws

/-- Does the slave run (R28, R365)?  In SLEEP the hub is at retention. -/
def State.spiRuns (s : State) : Bool := s.mgrRuns && s.mode != 9

/-- Does the slave serve a frame: not in PCIe mode (R364), and not where it does not run? -/
def State.spiServes (s : State) (p : Fin 2) : Bool := !(s.port p).linkUp && s.spiRuns

/-- The meaning of SPI_READ: in PCIe mode every ready byte is 0x5A and no word follows (R364), a frame to region 3 is
a frame error, and a word that is not ready within 20 µs ends the data.  A frame that has to wait is answered when it can be (assumption 62). -/
def execSpiRead (port : Fin 2) (addr : Word) (n : Nat) (s : State) : Host.Outcome State Fault Refusal :=
  .next (if !s.spiRuns then s
    else if (s.port port).linkUp then s.emit (.read (.hostSpi port) [])
    else if getBits addr 31 30 = 3 then s.spiError port
    else if addr.toNat % 4 ≠ 0 then s
    else s.spiTake port (.read addr.toNat n))

/-- The meaning of SPI_WRITE. -/
def execSpiWrite (port : Fin 2) (addr : Word) (words : List Word) (s : State) : Host.Outcome State Fault Refusal :=
  .next (if !s.spiServes port then s
    else if getBits addr 31 30 = 3 then s.spiError port
    else if addr.toNat % 4 ≠ 0 then s
    else s.spiWrites port addr.toNat words)

/-- The meaning of SPI_STATUS: a STATUS frame answers in PCIe mode too (R364). -/
def execSpiStatus (port : Fin 2) (s : State) : Host.Outcome State Fault Refusal :=
  .next (if !s.spiRuns then s else s.spiTake port .status)

/-- The meaning of STREAM_WINDOW_WRITE: an SPI frame executes nothing in PCIe mode (R364). -/
def execStreamWindowWrite (port : Fin 2) (spi : Bool) (words : List Word) (s : State) : Host.Outcome State Fault Refusal :=
  .next (if spi then (if s.spiServes port then s.spiTake port (.stream words) else s)
    else if (s.port port).linkUp then s.windowWrite port false words else s)

/-! Writes of manager space (R8, R368). -/

/-- A write through BAR0: offsets past manager space are the stream window and the MSI-X table. -/
def State.barWrite (s : State) (p : Fin 2) (off : Nat) (v : Word) : State :=
  if off < 0x01000000 then s.mgrWrite (.hostPcie p) off v
  else if off < 0x02000000 then s.windowWrite p false [v]
  else if 0x03FF0000 ≤ off ∧ off < 0x03FF0200 then s.msixTableWrite p ((off - 0x03FF0000) / 4) v
  else s

/-! The gateway's master side (R407). -/

/-- The address of a master request: M_ADDR[39:2]. -/
def masterAddr (r : MasterReq) : Nat := r.addr / 4 * 4 % 2 ^ 40

/-- What a local access answers: status, words and the block; none while it waits.  HAMP_ELOG has no agent
code for the gateway, so the one it records is free. -/
def State.masterLocal (s : State) (p : Nat) (r : MasterReq) : Option (Nat × List Word × State) :=
  let write := decide (r.op = .write)
  let ws := r.data.take r.len
  let decErr := some (8, [], s.gwErr p 3)
  if r.op = .message then decErr
  else match regionOf (masterAddr r) (4 * r.len) with
    | none => decErr
    | some (.window, _) => decErr
    | some (.peripherals, _) => decErr
    | some (.sram, o) =>
      if r.mem = 2 then some (6, [], s.raise 359)
      else if write then some (0, [], s.sramStore o (unpackWords ws))
      else some (0, packWords (s.sramLoad o (4 * r.len)), s)
    | some (.manager, o) =>
      if write then some (0, [], s.mgrWrites .gateway o ws)
      else some (0, (s.mgrReads .gateway o r.len).1, (s.mgrReads .gateway o r.len).2)
    | some (.flash, o) =>
      if write then some (0, [], s.flashWrites .gateway o ws)
      else match s.flashReads .gateway o r.len with
        | (some ws, t) => some (0, ws, t)
        | (none, _) => none
    | some (.hamper, o) =>
      if s.hampState = 2 then some (6, [], s)
      else if !s.hampServes then none
      else
        let agent := s.freshNat
        let q := agent.2.hampReport (agent.1 % 256) o write r.mem.val
        some (if 2 ≤ q.1 then (6, [], q.2)
          else if write then (0, [], q.2.hampStore o (unpackWords ws))
          else (0, packWords (q.2.hampLoad o (4 * r.len)), q.2))

/-- Is a response due: to a read, and to what asks for one? -/
def masterAnswered (r : MasterReq) : Bool := r.op == .read || r.ack

/-- A local request is carried out, and its response waits for the port; none while it has to wait. -/
def State.masterHere (s : State) (p : Nat) (r : MasterReq) : Option State :=
  (s.masterLocal p r).map (fun q =>
    if masterAnswered r then
      let g := q.2.2.gw p
      q.2.2.setGw p { g with done := g.done ++ [(r.tag.val, q.1, q.2.1)] }
    else q.2.2)

/-- A remote request goes out as a Wale transaction (R348, R350). -/
def State.masterAway (s : State) (p : Nat) (r : MasterReq) : State :=
  let kind := match r.op with
    | .write => WaleKind.write
    | .read => .read
    | .message => .message
  let ws := if r.op = .read then [] else r.data.take r.len
  if masterAnswered r then
    let g := s.gw p
    (s.setGw p { g with tags := g.tags ++ [r.tag.val] }).waleIssue (.gate p r.tag.val) kind r.dest (masterAddr r) r.len r.ack ws
  else s.waleIssue (.gate 4 r.tag.val) kind r.dest (masterAddr r) r.len r.ack ws

/-- The response to a tag that has come back over Wale is handed to its port. -/
def State.gwCollect (s : State) (p tag : Nat) : Option (Nat × List Word) :=
  match (s.gw p).done.find? (fun d => d.1 == tag) with
  | some d => some (d.2.1, d.2.2)
  | none => (s.wale.gwDone.find? (fun d => d.1 == p && d.2.1 == tag)).map (fun d => (d.2.2.1, d.2.2.2))

/-- The response to a tag leaves. -/
def State.gwRespond (s : State) (p tag : Nat) : State :=
  let g := s.gw p
  let t := s.setGw p { g with tags := g.tags.filter (· != tag), done := g.done.filter (fun d => d.1 != tag) }
  t.setWale { t.wale with gwDone := t.wale.gwDone.filter (fun d => !(d.1 == p && d.2.1 == tag)) }

/-- The meaning of GW_MASTER_DONE: the response leaves on the port once it is there. -/
def execGwMasterDone (port : Fin 4) (tag : Fin 32) (s : State) : Host.Outcome State Fault Refusal :=
  .next (if !s.gwAvail port.val ∨ !(s.gw port.val).tags.contains tag.val then s
    else match s.gwCollect port.val tag.val with
      | some (status, ws) => (s.gwRespond port.val tag.val).emit (.gwMaster port.val tag.val status ws)
      | none => s)

/-! The cluster (R398). -/

/-- A bus error to a core. -/
def State.busError (s : State) (c : Fin 4) : State := (s.emit (.busError c)).raise 359

/-- The store data of an access, least significant byte first. -/
def busBytes (a : BusAccess) : List Byte :=
  (List.range a.size).map (fun i => a.data.extractLsb' (8 * i) 8)

/-- The words that a register or flash access covers: their first offset and their number. -/
def coverOf (o n : Nat) : Nat × Nat := (o / 4 * 4, (o % 4 + n + 3) / 4)

/-- What a load returns, out of the words it covers. -/
def State.loaded (s : State) (c : Fin 4) (o n : Nat) (ws : List Word) : State :=
  s.emit (.read (.core c) (packWords (((unpackWords ws).drop (o % 4)).take n)))

/-- A store of whole registers carries words; a store of part of a register carries none. -/
def busStoreWords (a : BusAccess) (o : Nat) : List Word :=
  if o % 4 = 0 ∧ a.size % 4 = 0 then packWords (busBytes a) else []

/-- An access of SRAM. -/
def State.busSram (s : State) (c : Fin 4) (a : BusAccess) (o : Nat) : State :=
  if a.mem = 2 then s.busError c
  else if a.kind = .store then s.sramStore o (busBytes a)
  else s.emit (.read (.core c) (packWords (s.sramLoad o a.size)))

/-- An access of manager space. -/
def State.busManager (s : State) (c : Fin 4) (a : BusAccess) (o : Nat) : State :=
  if a.kind = .store then s.mgrWrites (.core c) o (busStoreWords a o)
  else
    let v := coverOf o a.size
    let r := s.mgrReads (.core c) v.1 v.2
    r.2.loaded c o a.size r.1

/-- An access of the flash array: a store is a command or data cycle (R278, R279), a load stalls while the
die is busy (R287). -/
def State.busFlash (s : State) (c : Fin 4) (a : BusAccess) (o : Nat) : State :=
  let ag := Agent.core c
  if a.kind = .store then
    (if a.size = 8 then s.flashCycle ag o true a.data
     else if a.size = 4 then s.flashCycle ag o false ((a.data.setWidth 32).setWidth 64)
     else if s.holds ag 1 then s.seqErr ag o else s.flashRefuse ag o 1)
  else
    let v := coverOf o a.size
    match s.flashReads ag v.1 v.2 with
    | (some ws, t) => t.loaded c o a.size ws
    | (none, _) => s

/-- An access of the hamper (R390, R392), none while the hamper trains or holds requests. -/
def State.busHamper (s : State) (c : Fin 4) (a : BusAccess) (o : Nat) : Option State :=
  if s.hampState = 2 then some (s.busError c)
  else if !s.hampServes then none
  else
    let write := decide (a.kind = .store)
    let r := s.hampReport 32 o write a.mem.val
    some (if 2 ≤ r.1 then r.2.busError c
      else if write then r.2.hampStore o (busBytes a)
      else r.2.emit (.read (.core c) (packWords (r.2.hampLoad o a.size))))

/-- An access of the fabric window, none while a port has no room; a load returns the beats that hold it. -/
def State.busWindow (s : State) (c : Fin 4) (a : BusAccess) (o : Nat) : Option State :=
  s.windowAccess (fun _ => .agent (.core c)) o a.size (if a.kind = .store then some (busBytes a) else none)

/-- A read and a write of the watchdog register at a peripheral offset. -/
def State.wdLoad (s : State) (o : Nat) : Word := s.wdRead ((o - 0x5000) / 0x20) ((o - 0x5000) % 0x20)
def State.wdStore (s : State) (o : Nat) (v : Word) : State := s.wdWrite ((o - 0x5000) / 0x20) ((o - 0x5000) % 0x20) v

/-- An access of the watchdogs (R403). -/
def State.busWatchdog (s : State) (c : Fin 4) (a : BusAccess) (o : Nat) : State :=
  if a.kind = .store then (busStoreWords a o).zipIdx.foldl (fun t e => t.wdStore (o + 4 * e.2) e.1) s
  else
    let v := coverOf o a.size
    s.loaded c o a.size ((List.range v.2).map (fun i => s.wdLoad (v.1 + 4 * i)))

/-- Does the access reach a peripheral whose registers the spec does not lay out (R402)? -/
def busUndescribed (a : BusAccess) : Bool :=
  match regionOf a.addr a.size with
  | some (.peripherals, o) => decide (o < 0x5000) || decide (0x50A0 < o + a.size)
  | _ => false

/-- An access of a core is carried out, none while it has to wait. -/
def State.busTry (s : State) (c : Fin 4) (a : BusAccess) : Option State :=
  match regionOf a.addr a.size with
  | none => some (s.busError c)
  | some (.sram, o) => some (s.busSram c a o)
  | some (.manager, o) => some (s.busManager c a o)
  | some (.flash, o) => some (s.busFlash c a o)
  | some (.hamper, o) => s.busHamper c a o
  | some (.window, o) => s.busWindow c a o
  | some (.peripherals, o) => some (s.busWatchdog c a o)

/-! What waits is carried out as soon as it can be. -/

/-- An access is carried out, none while it has to wait: a drain and SLEEP hold every one (R423, R426). -/
def State.waitTry (s : State) (i : WaitItem) : Option State :=
  if s.hubHeld then none
  else match i with
    | .bus c a => s.busTry c a
    | .master p r => s.masterHere p.val r
    | .window ag r => s.gwAccess (.agent ag) r
    | .write ag off v => some (match ag with
      | .hostPcie p => s.barWrite p off v
      | ag => s.mgrWrite ag off v)

/-- The order an access keeps: each core's, each gateway port's, each agent's accesses stay in their order. -/
def WaitItem.line : WaitItem → Nat
  | .bus c _ => c.val
  | .master p _ => 4 + p.val
  | .window ag _ => 8 + agentIdent ag
  | .write ag _ _ => 8 + agentIdent ag

/-- An access is carried out, or waits behind those before it. -/
def State.waitTake (s : State) (i : WaitItem) : State :=
  let held : State := { s with waits := s.waits ++ [i] }
  if s.waits.any (fun j => j.line == i.line) then held else (s.waitTry i).getD held

/-- The first of the accesses `is`, each with its place, that can be carried out: an access passes none of its own
line. -/
def State.waitFirst (s : State) (before : List Nat) : List (WaitItem × Nat) → Option State
  | [] => none
  | (i, k) :: is =>
    if before.contains i.line then s.waitFirst before is
    else match ({ s with waits := s.waits.eraseIdx k } : State).waitTry i with
      | some t => some t
      | none => s.waitFirst (i.line :: before) is

/-- One waiting access is carried out. -/
def State.settleOne (s : State) : Option State :=
  s.answerNext <|> s.inboundNext <|> s.tagNext <|>
  s.spiNext 0 <|> s.spiNext 1 <|> s.waitFirst [] s.waits.zipIdx

/-- Up to `n` waiting accesses are carried out. -/
def State.settle (s : State) : Nat → State
  | 0 => s
  | n + 1 => match s.settleOne with
    | some t => t.settle n
    | none => s

/-- How many waiting accesses one command carries out at most. -/
def settleFuel : Nat := 16

/-- The meaning of WALE_WRITE. -/
def execWaleWrite (p : Fin 6) (b : WaleBlock) (mem : Fin 4) (s : State) : Host.Outcome State Fault Refusal :=
  let b := { b with kind := .write }
  .next ((s.blockIn p.val b false false (fun t => t.localIn b mem.val)).settle settleFuel)

/-- The meaning of WALE_READ. -/
def execWaleRead (p : Fin 6) (b : WaleBlock) (mem : Fin 4) (s : State) : Host.Outcome State Fault Refusal :=
  let b := { b with kind := .read }
  .next ((s.blockIn p.val b false false (fun t => t.localIn b mem.val)).settle settleFuel)

/-- The CTL word of a GO in a request slot (R350). -/
def goWord (op : Nat) (ack : Bool) (len : Nat) : Word := BitVec.ofNat 32 (op + 8 * ack.toNat + 16 * len + 2 ^ 12)

/-- The meaning of WALE_RQ_GO: a request of this device to itself is executed like any other. -/
def execWaleRqGo (_ag : Agent) (n : Fin 4) (op : Fin 8) (ack : Bool) (len : Fin 256) (s : State) :
    Host.Outcome State Fault Refusal :=
  .next ((s.rqCtlWrite n.val (goWord op.val ack len.val)).settle settleFuel)

/-- The meaning of REGISTER_WRITE: a PCIe write that does not enable all four bytes is discarded, with
HPx_STAT.BADACC. -/
def execRegisterWrite (ag : Agent) (off : Nat) (v : Word) (full : Bool) (s : State) : Host.Outcome State Fault Refusal :=
  .next (match ag with
    | .hostPcie p =>
      if !(s.port p).linkUp then s
      else if !full then s.setBit (Reg.hpStat p.val) 10 true
      else s.waitTake (.write ag off v)
    | ag => s.waitTake (.write ag off v))

/-- The meaning of GW_WINDOW_ACCESS: an access that finds the port's queue full waits in the hub (R406). -/
def execGwWindowAccess (ag : Agent) (req : WindowReq) (s : State) : Host.Outcome State Fault Refusal :=
  .next (if 2 ^ 36 ≤ req.offset then s else s.waitTake (.window ag req))

/-- The meaning of GW_MASTER_REQUEST: a port that is not available, or whose tag is in use, accepts none. -/
def execGwMasterRequest (port : Fin 4) (req : MasterReq) (s : State) : Host.Outcome State Fault Refusal :=
  .next (if !s.gwAvail port.val ∨ s.hubHeld ∨ 128 < req.len ∨ (s.gw port.val).tags.contains req.tag.val then s
    else if req.remote then (s.masterAway port.val req).settle settleFuel
    else
      let g := s.gw port.val
      (s.setGw port.val { g with tags := g.tags ++ (if masterAnswered req then [req.tag.val] else []) }).waitTake (.master port req))

/-- The meaning of CLUSTER_BUS_ACCESS: an access of a core that is out of reset, as it reaches the bus. -/
def execClusterBusAccess (core : Fin 4) (acc : BusAccess) (s : State) : Host.Outcome State Fault Refusal :=
  if !s.coreRuns core.val then .next s
  else if busUndescribed acc then .fault .peripheralNotDescribed
  else .next (s.waitTake (.bus core acc))

end Sys2Proof.Machine
end

