-- ==== Sys2Proof/Machine/Weave.lean ====
section
/-! DEFINITION. The weave and mortar: wires, routing multiplexers, bond cells on wires, and what they bring to
the cells, control sets and bridges of a bay (R55 to R61, R65, R67). -/
namespace Sys2Proof.Machine

/-! Outputs of hard blocks that mortar multiplexers can select (R55, R67, R87, R95, R104, R163, R234, R257). -/

/-- The value a boundary port presents: 0 with no driver, the value in effect in INIT hold (R163, R164). -/
def State.bportVal (s : State) (k : Nat) : Word :=
  match s.fbrDriver k with
  | none => 0
  | some n => if s.initHold (k / 4) then s.liveRd (Reg.cadFbr n) else (s.bport k).val

/-- The strobe UPD of a boundary port: 0 with no driver and in INIT hold (R163, R164). -/
def State.bportUpd (s : State) (k : Nat) : Bool :=
  (s.fbrDriver k).isSome && !s.initHold (k / 4) && (s.bport k).upd

/-- IP_READY (R234). -/
def State.innerReady (s : State) : Bool :=
  s.engSource == some 5 && !s.eng.innerEnded && !s.stalled && decide (s.eng.inner.length ≤ 252) &&
    !s.clamped (s.fld Reg.cfgIpctl 6 0)

/-- Bit `b` of the Inner Port's outputs: IP_READY, IP_RVALID, then IP_RDATA (R234). -/
def State.innerOut (s : State) (b : Nat) : Bool :=
  match b with
  | 0 => s.innerReady
  | 1 => !s.eng.innerBeat.isEmpty
  | n + 2 => (s.eng.innerBeat.getD (n / 32) 0).getLsbD (n % 32)

/-- Bit `b` of a creel port's outputs: DO in 0 to 71.  Port A: FULL, AFULL, WRERR, WRCOUNT from 75.  Port B: SBE,
DBE, EMPTY, AEMPTY, RDERR, RDCOUNT from 77, SCRUB_SBE and SCRUB_DBE at 90 and 91, SCRUB_ADDR from 92, and
STALE at 101. -/
def State.creelPin (s : State) (n : Nat) (isB : Bool) (b : Nat) : Bool :=
  let st := s.creel n
  let held := s.initHold (n / 120)
  let o := s.creelOut n isB
  if b < 72 then o.d.testBit b
  else if isB then
    (if b = 72 then o.sbe else if b = 73 then o.dbe else if b = 74 then held || st.fifo.empty
     else if b = 75 then held || st.fifo.aempty else if b = 76 then st.fifo.rderr
     else if b < 90 then st.fifo.rdcount.testBit (b - 77)
     else if b = 90 then (st.scrubPulse.map (fun p => !p.1)).getD false
     else if b = 91 then (st.scrubPulse.map Prod.fst).getD false
     else if b < 101 then ((st.scrubPulse.map Prod.snd).getD 0).testBit (b - 92)
     else Store.get (fun _ => false) s.fab.stale n)
  else
    (if b = 72 then held || st.fifo.full else if b = 73 then held || st.fifo.afull else if b = 74 then st.fifo.wrerr
     else st.fifo.wrcount.testBit (b - 75))

/-- The controller bay of a panel, none where CTLBAY lies inside the panel or above 95 (R257). -/
def State.panelCtl (s : State) (g : Nat) : Option Nat :=
  let b := s.fld (Reg.cgPctl g) 6 0
  if 95 < b ∨ s.bit (Reg.cgPanel0 g + 4 * (b / 32)) (b % 32) then none else some b

/-- The fabric output PACK of panel `g` in a bay (R257). -/
def State.packOut (s : State) (g bay : Nat) : Bool := s.panelCtl g == some bay && s.bit (Reg.cgPctl g) 9

/-- A hard block's output at the tile of a bay's column and row; `lv` gives the levels of the blocks whose
outputs the state does not hold. -/
def State.blockOut (s : State) (lv : Nat → Bool) (bay r : Nat) : BlockPin → Bool
  | .bridge b =>
    if bayCol bay = 5 then
      let dir := 1 - bay / 48
      (s.bridgeOut dir (bay % 48 / 6) r (b.val / 8)).testBit (b.val % 8)
    else false
  | .bport p b => if b.val = 32 then s.bportUpd (4 * bay + p.val) else (s.bportVal (4 * bay + p.val)).getLsbD b.val
  | .inner b => if s.fld Reg.cfgIpctl 6 0 = bay then s.innerOut b else false
  | .pack g => s.packOut g.val bay
  | .creel i isB b => s.creelPin (120 * bay + i.val) isB b
  | .slice i b =>
    if s.initHold bay then false
    else if b.val < 64 then (s.slice (120 * bay + i.val)).res.testBit b.val
    else (s.slice (120 * bay + i.val)).flags.testBit (b.val - 64)
  | .lane i b => if bayCol bay = 0 then s.laneOut (4 * bayBand bay + i.val) b.val else false
  | .level n => lv n

/-! Multiplexers (R55, R60). -/

/-- The pins of a cell, from what its multiplexers give: `mux` by bay, column, row and select. -/
def muxPins (mux : Nat → Nat → Nat → Nat → Bool) (bay l r c : Nat) : CellPins :=
  ⟨Fin.ofNat 64 (fieldAt (fun i => mux bay l r (6 * c + i)) 0 6), mux bay l r (96 + 2 * c), mux bay l r (97 + 2 * c)⟩

/-- An output of a cell: X, Y, QA, QB (R39). -/
def State.cellLine (s : State) (mux : Nat → Nat → Nat → Nat → Bool) (bay l r c o : Nat) : Bool :=
  match o with
  | 2 => s.ff bay l r c false
  | 3 => s.ff bay l r c true
  | _ =>
    let t := s.tile bay l r
    let xy :=
      if brickCarry t (c / 8) r = 0 then cellOff t (brickMode t (c / 8)) c (muxPins mux bay l r c).a.val
      else (brickOuts (s.tile bay l) (muxPins mux bay l) (s.carryFree bay l) (2 * r + c / 8)).getD (c % 8) (false, false)
    if o = 0 then xy.1 else xy.2

/-- The signal of a source at a tile.  A wire passes a bond cell where it leaves its bay, and continues low
while either bay clamps (R59, R65). -/
def State.routeVal (s : State) (lv : Nat → Bool) (mux : Nat → Nat → Nat → Nat → Bool) (bay l r : Nat) : RouteSource → Bool
  | .cell c o => s.cellLine mux bay l r c.val o.val
  | .wire dir cls track far =>
    if wireTracks cls.val ≤ track.val then false
    else match wireStart dir.val (wireReach cls.val far) bay l r with
      | none => false
      | some (b, l', r') =>
        if b ≠ bay ∧ (s.clamped b || s.clamped bay) then false else mux b l' r' (wireDriver cls.val dir.val track.val)
  | .block k => s.blockOut lv bay r (Config.blockPin (bayCol bay) l r k)

/-- The output of routing multiplexer `i` of a tile: low for code 0 and for every illegal code (R60, R61).  The
value of a combinational loop is free: a path longer than every multiplexer of the device repeats one. -/
def State.muxVal (s : State) (lv : Nat → Bool) : (fuel : Nat) → (bay l r i : Nat) → Bool
  | 0, bay, l, r, i => Config.freeBit s.freeCtr (((112 * bay + l) * 60 + r) * 192 + i)
  | n + 1, bay, l, r, i =>
    let code := fieldAt (s.tile bay l r) (oSel i) 4
    if code = 0 ∨ selMax i < code then false
    else s.routeVal lv (s.muxVal lv n) bay l r (Config.routeSource (Fin.ofNat 192 i) (Fin.ofNat 16 code))

/-- The routing multiplexers of the device. -/
def muxCount : Nat := 96 * 112 * 60 * 192

/-- What the tiles of a bay bring to its cells, control sets and bridges, with `levels` at the block outputs
the state does not hold (R55, R67). -/
def State.weave (s : State) (bay : Nat) (levels : List (Nat × Bool)) : FabricPins :=
  let lv := fun n => (levels.lookup n).getD false
  let mux := s.muxVal lv muxCount
  { cell := fun l r c => muxPins mux bay l r c
    ctl := fun l r k => (mux bay l r (128 + 2 * k), mux bay l r (129 + 2 * k))
    bridge := fun r => wordOf (fun b => s.routeVal lv mux bay 111 r (Config.bridgeSource (Fin.ofNat 32 b))) }

/-! Asynchronous set/reset (R43). -/

/-- Every flip-flop of the device whose asynchronous set/reset acts takes SRVAL. -/
def State.asyncStep (s : State) (levels : List (Nat × Bool)) : State :=
  (List.range 96).foldl (fun t bay => s.asyncBay t bay (s.weave bay levels)) s

/-- Asynchronous set/reset acts until no flip-flop changes. -/
def State.asyncSettle (levels : List (Nat × Bool)) : Nat → State → State
  | 0, s => s
  | n + 1, s =>
    let t := s.asyncStep levels
    if t.fab.ffs = s.fab.ffs then s else t.asyncSettle levels n

/-- The flip-flops of the device. -/
def ffCount : Nat := 96 * 112 * 60 * 32

end Sys2Proof.Machine
end

