-- ==== Sys2Proof/Machine/Edge.lean ====
section
/-! DEFINITION. Edges of stake nets and of the hub's own clock (R43, R135, R164, R234, R325, R386, R407). -/
namespace Sys2Proof.Machine

/-! Boundary ports (R163, R164). -/

/-- A boundary port `k` at a passed edge of stake net `net`: a value that waits is presented with UPD, which
stays 0 in a hold. -/
def State.bportEdge (s : State) (k net : Nat) : State :=
  match s.fbrDriver k with
  | none => s.setBport k {}
  | some n =>
    if (s.fbrPort n).map Prod.snd ≠ some (net + 1) then s
    else
      let b := s.bport k
      s.setBport k (if b.wait then ⟨s.liveRd (Reg.cadFbr n), !s.clamped (k / 4), false⟩ else { b with upd := false })

/-- The four boundary ports of a bay. -/
def State.bportsEdge (s : State) (bay net : Nat) : State :=
  [0, 1, 2, 3].foldl (fun t i => t.bportEdge (4 * bay + i) net) s

/-! The Inner Port (R234). -/

/-- The words of a beat. -/
def innerWords (p : InnerPins) : List Word :=
  ((List.range 4).map (fun i => p.data.extractLsb' (32 * i) 32)).take (if p.last then p.wcnt.val + 1 else 4)

/-- Is a passed edge of this stake net an edge of IP_CLK? -/
def State.innerClock (s : State) (bay net : Nat) : Bool :=
  decide (s.fld Reg.cfgIpctl 6 0 = bay) && decide (s.fld Reg.cfgIpctl 12 8 = net + 1)

/-- A beat transfers at an edge of IP_CLK, and the port presents up to four of the words READ packets return. -/
def State.innerEdge (s : State) (bay net : Nat) (p : InnerPins) : State :=
  if !s.innerClock bay net then s
  else
    let e := if p.valid && s.innerReady then
        { s.eng with inner := s.eng.inner ++ innerWords p, innerEnded := p.last, arrived := true }
      else s.eng
    let beat := e.innerRet.take 4
    let t := { s with eng := { e with innerBeat := beat, innerRet := e.innerRet.drop 4 } }
    let t := if t.engSource = some 5 then t.spentEnd 5 else t
    if beat = [] then t else t.emit (.inner beat)

/-! The clock of a stake net, from its tap or fabric clock on (R122, R124, R129 to R134). -/

/-- Does inter-band line `i` of wythe `w` carry a running tap (R130)?  A net in a glitch-free switch is held
low (R132). -/
def State.lineRuns (s : State) (w i : Nat) : Bool :=
  let c := s.liveFld (Reg.clkVsel w (i / 4)) (8 * (i % 4) + 6) (8 * (i % 4))
  decide (s.switching (512 + 8 * w + i) = 0) && decide (c ≠ 0 ∧ c ≤ 64) && s.tapOn (16 * w + (c - 1) / 4) ((c - 1) % 4)

/-- Is the quad of a lane powered?  Its recovered parallel clock then never stops (R324). -/
def State.recoveredRuns (s : State) (lane : Nat) : Bool := s.railOn (4 + lane / 32)

/-- Does fabric clock `f` of the clock column in bay column `c` of band-wythe `k` give a clock (R133, R134)?  FCI0
to FCI3 carry what the weave drives; the recovered clocks and the clock-capable pairs serve bay column 0. -/
def State.fclkRuns (s : State) (k c f : Nat) : Bool :=
  let bay := 48 * (k / 8) + 6 * (k % 8) + c
  let v := fieldAt (s.clockCol bay) (oFcsel f) 4
  !s.bondHold bay && !s.initHold bay && s.clockActive bay &&
    (if v = 0 then false else if v ≤ 4 then true else if c ≠ 0 then false
     else if v ≤ 8 then s.recoveredRuns (4 * k + (v - 5)) else if v ≤ 12 then s.railOn (10 + k) else false)

/-- Does rim net `j` of band-wythe `k` carry a running clock (R129)? -/
def State.rimRuns (s : State) (k j : Nat) : Bool :=
  let c := s.liveFld (Reg.clkRim k (j / 4)) (8 * (j % 4) + 5) (8 * (j % 4))
  decide (s.switching (32 * k + j) = 0) &&
    (if c = 0 then false
     else if c ≤ 8 then s.tapOn (2 * k + (c - 1) / 4) ((c - 1) % 4)
     else if c ≤ 16 then s.tapOn (2 * (if k < 8 then k + 8 else k - 8) + (c - 9) / 4) ((c - 9) % 4)
     else if c ≤ 24 then s.lineRuns (k / 8) (c - 17)
     else if c ≤ 36 then s.fclkRuns k ((c - 25) / 2) ((c - 25) % 2) else false)

/-! Stake nets. -/

/-- Is the fabric clocked at all: not in SLEEP, nor once its entry has stopped the clocks (R425)? -/
def State.fabricAwake (s : State) : Bool := s.mode != 9 && !(s.pwr.entering == 9 && s.pwr.drained)

/-- Does the source of a stake net give edges: it is selected, runs, and is not held low by a switch (R129, R132,
R133)? -/
def State.stakeRuns (s : State) (bay net : Nat) : Bool :=
  s.clockActive bay && decide (s.stksel bay net ≠ 0) && decide (s.switching (528 + 24 * bay + net) = 0) &&
    s.rimRuns (bayBand bay) (s.stksel bay net - 1)

/-- Is a stake net high: its last edge was a rising one that passed? -/
def State.stakeHigh (s : State) (bay net : Nat) : Bool := Store.get (fun _ => false) s.fab.netHigh (24 * bay + net)

/-- The block with a stake net high or low. -/
def State.setHigh (s : State) (bay net : Nat) (high : Bool) : State :=
  { s with fab := { s.fab with netHigh := Store.set (fun _ => false) s.fab.netHigh (24 * bay + net) high } }

/-- The fabric of a bay at a passed edge of one of its stake nets (R43, R53, R68, R85, R105). -/
def State.fabricEdge (s : State) (bay net : Nat) (rising : Bool) (p : EdgePins) : State :=
  let w := s.weave bay p.levels
  let t := s.cellsEdge s bay net rising w
  let t := if rising then s.bridgesEdge t bay net w else t
  (t.creelsEdge bay net rising p).slicesEdge bay net rising p

/-- The hard blocks that a bay's rising edge clocks. -/
def State.portEdges (s : State) (bay net : Nat) (p : EdgePins) : State :=
  let t := (s.bportsEdge bay net).innerEdge bay net p.inner
  let t := (t.hampBayEdge bay net p.hamp).gwBayEdge bay net p.tready
  if bayCol bay = 0 then (t.lanesEdge (bayBand bay) net p).padsEdge (bayBand bay) net p else t

/-- An edge that the net shows: the elements it clocks. -/
def State.stakePass (s : State) (bay net : Nat) (rising : Bool) (p : EdgePins) : State :=
  let t := s.fabricEdge bay net rising p
  (if rising then t.portEdges bay net p else t).setHigh bay net rising

/-- An edge of a stake net's source.  A rising edge passes an open gate; a falling edge shows where the net is
high, and samples the gate (R135).  Of a source that does not run, or that a switch holds off, the net still
shows the fall that ends its last pulse (R132). -/
def State.stakeEdge (s : State) (bay net : Nat) (rising : Bool) (p : EdgePins) : State :=
  let runs := s.stakeRuns bay net
  let pass := if rising then runs && !s.gateIsShut bay net else s.stakeHigh bay net
  let t := if pass then s.stakePass bay net rising p else s
  if !rising && runs then t.setGate bay net (!s.gateOpen bay net p.sce) else t

/-- The meaning of STAKE_NET_EDGE: what acts without a clock stands before and after the edge (R43, R97). -/
def execStakeNetEdge (bay : Fin 96) (net : Fin 24) (rising : Bool) (pins : EdgePins) (s : State) :
    Host.Outcome State Fault Refusal :=
  .next (if !s.fabricAwake then s
    else
      let t := (s.asyncSettle pins.levels ffCount).fifoReset bay.val pins
      (t.stakeEdge bay.val net.val rising pins).asyncSettle pins.levels ffCount)

/-! The configuration clock. -/

/-- The wake timer counts down once in 1 ms (R435). -/
def State.wtimerTick (s : State) : State :=
  if s.boot.ticks % 400000 ≠ 0 ∨ s.rd Reg.pwrWtimer = 0 then s
  else if s.rd Reg.pwrWtimer = 1#32 then s.wakeTimer
  else s.wr Reg.pwrWtimer (s.rd Reg.pwrWtimer - 1)

/-- An event that is presented to a core or a host port ends DOZE, and SLEEP or a drain where it is enabled (R423,
R424, R427). -/
def State.eventWake (s : State) : State :=
  if (s.mode = 8 ∨ s.mode = 9 ∨ s.pwr.entering ≠ 0) ∧ (List.range 448).any (fun n => (List.range 6).any (s.presented n)) then s.wakeSource 7 0
  else s

/-- One cycle of 400 MHz with no command: the timebase, the boot time, the watchdogs and the wake timer count,
and what waits is carried out: journal records whose
program found the flash or SEM1 taken (R225), and accesses. -/
def State.idle (s : State) : State :=
  let t := if s.mode = 1 ∨ s.mode = 0xA then s else s.tclkEdge.wdTick
  let t := t.setBoot { t.boot with ticks := t.boot.ticks + 1 }
  (t.wtimerTick.eventWake).journalFlush.settle settleFuel

end Sys2Proof.Machine
end

