-- ==== Sys2Proof/Machine/Dispatch.lean ====
section
/-! DEFINITION. One arm per command, each a direct call of the command's meaning. -/
namespace Sys2Proof.Machine

/-- The effect of a command on everything but the queue. -/
def exec (i : Instr) (s : State) : Host.Outcome State Fault Refusal :=
  match i with
  | .vinFall => Sys2Proof.Machine.execVinFall s
  | .powerUpComplete straps => Sys2Proof.Machine.execPowerUpComplete straps s
  | .resetNFall => Sys2Proof.Machine.execResetNFall s
  | .resetNRise => Sys2Proof.Machine.execResetNRise s
  | .strapLatch straps => Sys2Proof.Machine.execStrapLatch straps s
  | .keeperBootComplete agree xref vinOk => Sys2Proof.Machine.execKeeperBootComplete agree xref vinOk s
  | .startTestComplete hub rep => Sys2Proof.Machine.execStartTestComplete hub rep s
  | .programNFall => Sys2Proof.Machine.execProgramNFall s
  | .programNRise => Sys2Proof.Machine.execProgramNRise s
  | .sysCtlReload ag v => Sys2Proof.Machine.execSysCtlReload ag v s
  | .thermalSample bays hub => Sys2Proof.Machine.execThermalSample bays hub s
  | .regulatorFault r => Sys2Proof.Machine.execRegulatorFault r s
  | .railWarning r => Sys2Proof.Machine.execRailWarning r s
  | .vinLow => Sys2Proof.Machine.execVinLow s
  | .srcWaitExpiry => Sys2Proof.Machine.execSrcWaitExpiry s
  | .priorityCommit => Sys2Proof.Machine.execPriorityCommit s
  | .priorityInitLeave => Sys2Proof.Machine.execPriorityInitLeave s
  | .priorityOutputEnable => Sys2Proof.Machine.execPriorityOutputEnable s
  | .priorityStageTimeout => Sys2Proof.Machine.execPriorityStageTimeout s
  | .mainCommit => Sys2Proof.Machine.execMainCommit s
  | .xwaitExpiry present => Sys2Proof.Machine.execXwaitExpiry present s
  | .releaseStart => Sys2Proof.Machine.execReleaseStart s
  | .releaseInitLeave => Sys2Proof.Machine.execReleaseInitLeave s
  | .releaseOutputEnable => Sys2Proof.Machine.execReleaseOutputEnable s
  | .releaseDoneRelease => Sys2Proof.Machine.execReleaseDoneRelease s
  | .doneHigh => Sys2Proof.Machine.execDoneHigh s
  | .doneWaitExpiry => Sys2Proof.Machine.execDoneWaitExpiry s
  | .journalEraseStart => Sys2Proof.Machine.execJournalEraseStart s
  | .bootClear ag v => Sys2Proof.Machine.execBootClear ag v s
  | .bankRepower b => Sys2Proof.Machine.execBankRepower b s
  | .refinLost => Sys2Proof.Machine.execRefinLost s
  | .refinRestored => Sys2Proof.Machine.execRefinRestored s
  | .xrefLost => Sys2Proof.Machine.execXrefLost s
  | .xrefRestored => Sys2Proof.Machine.execXrefRestored s
  | .hubSynthLock => Sys2Proof.Machine.execHubSynthLock s
  | .clkHubWrite ag v => Sys2Proof.Machine.execClkHubWrite ag v s
  | .synthGlideDone n => Sys2Proof.Machine.execSynthGlideDone n s
  | .synthDividerDone n => Sys2Proof.Machine.execSynthDividerDone n s
  | .synthLock n => Sys2Proof.Machine.execSynthLock n s
  | .synthLossOfLock n => Sys2Proof.Machine.execSynthLossOfLock n s
  | .synthHoldoverExit n => Sys2Proof.Machine.execSynthHoldoverExit n s
  | .glitchFreeSwitchDone net => Sys2Proof.Machine.execGlitchFreeSwitchDone net s
  | .glitchFreeSwitchForced net => Sys2Proof.Machine.execGlitchFreeSwitchForced net s
  | .rimSelectWrite ag reg v => Sys2Proof.Machine.execRimSelectWrite ag reg v s
  | .hardBlockGateRequest ag blk => Sys2Proof.Machine.execHardBlockGateRequest ag blk s
  | .hardBlockGateApply blk => Sys2Proof.Machine.execHardBlockGateApply blk s
  | .hardBlockGateRefused blk => Sys2Proof.Machine.execHardBlockGateRefused blk s
  | .hardBlockGateOpen ag blk => Sys2Proof.Machine.execHardBlockGateOpen ag blk s
  | .fmWindowEnd m count => Sys2Proof.Machine.execFmWindowEnd m count s
  | .fmSourceWrite ag m v => Sys2Proof.Machine.execFmSourceWrite ag m v s
  | .adjStep ag => Sys2Proof.Machine.execAdjStep ag s
  | .adjSlew ag => Sys2Proof.Machine.execAdjSlew ag s
  | .slewDone => Sys2Proof.Machine.execSlewDone s
  | .syncCapture x falling => Sys2Proof.Machine.execSyncCapture x falling s
  | .captureRead ag x => Sys2Proof.Machine.execCaptureRead ag x s
  | .ppsInLost => Sys2Proof.Machine.execPpsInLost s
  | .ppsOutPulse => Sys2Proof.Machine.execPpsOutPulse s
  | .ppsOutPulseEnd => Sys2Proof.Machine.execPpsOutPulseEnd s
  | .mbFire ag idx ctl => Sys2Proof.Machine.execMbFire ag idx ctl s
  | .boundaryLatch src => Sys2Proof.Machine.execBoundaryLatch src s
  | .boundaryDelivery src => Sys2Proof.Machine.execBoundaryDelivery src s
  | .snapshotRead ag off => Sys2Proof.Machine.execSnapshotRead ag off s
  | .syncWord => Sys2Proof.Machine.execSyncWord s
  | .packetBadHeader h => Sys2Proof.Machine.execPacketBadHeader h s
  | .nop => Sys2Proof.Machine.execNop s
  | .writeIdcode ws => Sys2Proof.Machine.execWriteIdcode ws s
  | .writeForm ws => Sys2Proof.Machine.execWriteForm ws s
  | .writeKeysel ws => Sys2Proof.Machine.execWriteKeysel ws s
  | .writeSid ws => Sys2Proof.Machine.execWriteSid ws s
  | .writeIv ws => Sys2Proof.Machine.execWriteIv ws s
  | .writeBodylen ws => Sys2Proof.Machine.execWriteBodylen ws s
  | .writeBound ws => Sys2Proof.Machine.execWriteBound ws s
  | .writeGroup ws => Sys2Proof.Machine.execWriteGroup ws s
  | .writePlfloor ws => Sys2Proof.Machine.execWritePlfloor ws s
  | .writeClkset ws => Sys2Proof.Machine.execWriteClkset ws s
  | .stepNone v => Sys2Proof.Machine.execStepNone v s
  | .stepStage => Sys2Proof.Machine.execStepStage s
  | .stageClearDone => Sys2Proof.Machine.execStageClearDone s
  | .stepFinish => Sys2Proof.Machine.execStepFinish s
  | .stepAbort => Sys2Proof.Machine.execStepAbort s
  | .writePlace ws => Sys2Proof.Machine.execWritePlace ws s
  | .writeFrames dyn ws => Sys2Proof.Machine.execWriteFrames dyn ws s
  | .zero dyn n => Sys2Proof.Machine.execZero dyn n s
  | .repeatPacket dyn n => Sys2Proof.Machine.execRepeat dyn n s
  | .patch dyn ps => Sys2Proof.Machine.execPatch dyn ps s
  | .body => Sys2Proof.Machine.execBody s
  | .writeSeal ws => Sys2Proof.Machine.execWriteSeal ws s
  | .clksetLockWaitEnd => Sys2Proof.Machine.execClksetLockWaitEnd s
  | .writeCrcv ws => Sys2Proof.Machine.execWriteCrcv ws s
  | .readFrames n => Sys2Proof.Machine.execReadFrames n s
  | .readPlace => Sys2Proof.Machine.execReadPlace s
  | .readStat => Sys2Proof.Machine.execReadStat s
  | .sectionPacket sel len => Sys2Proof.Machine.execSection sel len s
  | .endPacket => Sys2Proof.Machine.execEnd s
  | .streamSourceEnd => Sys2Proof.Machine.execStreamSourceEnd s
  | .stagedVerifyEnd us => Sys2Proof.Machine.execStagedVerifyEnd us s
  | .psrcOpen ag c => Sys2Proof.Machine.execPsrcOpen ag c s
  | .unopenedSourceWords => Sys2Proof.Machine.execUnopenedSourceWords s
  | .cgArmCommit ag g => Sys2Proof.Machine.execCgArmCommit ag g s
  | .cgArmRevert ag g => Sys2Proof.Machine.execCgArmRevert ag g s
  | .cgDisarm ag g mode => Sys2Proof.Machine.execCgDisarm ag g mode s
  | .cgDiscard ag g mode => Sys2Proof.Machine.execCgDiscard ag g mode s
  | .cgDeadlineExpiry g => Sys2Proof.Machine.execCgDeadlineExpiry g s
  | .commitRelease g => Sys2Proof.Machine.execCommitRelease g s
  | .revertVerifyEnd g us => Sys2Proof.Machine.execRevertVerifyEnd g us s
  | .dwPlaceWrite ag p => Sys2Proof.Machine.execDwPlaceWrite ag p s
  | .dwDataWrite ag w => Sys2Proof.Machine.execDwDataWrite ag w s
  | .dwApply ag bsel => Sys2Proof.Machine.execDwApply ag bsel s
  | .dwClearBuffer ag bsel => Sys2Proof.Machine.execDwClearBuffer ag bsel s
  | .dwApplyEnd => Sys2Proof.Machine.execDwApplyEnd s
  | .panelIsoWrite ag g v => Sys2Proof.Machine.execPanelIsoWrite ag g v s
  | .pisoChange g level => Sys2Proof.Machine.execPisoChange g level s
  | .pntFrameRead w upset entry => Sys2Proof.Machine.execPntFrameRead w upset entry s
  | .pntSbeWriteBackDone w upset => Sys2Proof.Machine.execPntSbeWriteBackDone w upset s
  | .pntRestart ag en shadow => Sys2Proof.Machine.execPntRestart ag en shadow s
  | .pntHoldClear ag v => Sys2Proof.Machine.execPntHoldClear ag v s
  | .pntReloadOpen => Sys2Proof.Machine.execPntReloadOpen s
  | .pntReloadFire => Sys2Proof.Machine.execPntReloadFire s
  | .pntReloadWaitExpiry => Sys2Proof.Machine.execPntReloadWaitExpiry s
  | .pntLogPop ag => Sys2Proof.Machine.execPntLogPop ag s
  | .flashUnlockFirst ag off => Sys2Proof.Machine.execFlashUnlockFirst ag off s
  | .flashUnlockSecond ag off => Sys2Proof.Machine.execFlashUnlockSecond ag off s
  | .flashProgramWordCmd ag off => Sys2Proof.Machine.execFlashProgramWordCmd ag off s
  | .flashProgramLineCmd ag off => Sys2Proof.Machine.execFlashProgramLineCmd ag off s
  | .flashDataCycle ag off wide v => Sys2Proof.Machine.execFlashDataCycle ag off wide v s
  | .flashEraseSetup ag off => Sys2Proof.Machine.execFlashEraseSetup ag off s
  | .flashEraseConfirm ag off => Sys2Proof.Machine.execFlashEraseConfirm ag off s
  | .flashSuspendCmd ag off => Sys2Proof.Machine.execFlashSuspendCmd ag off s
  | .flashResumeCmd ag off => Sys2Proof.Machine.execFlashResumeCmd ag off s
  | .flashReadStatusCmd ag off => Sys2Proof.Machine.execFlashReadStatusCmd ag off s
  | .flashInfoEntryCmd ag off => Sys2Proof.Machine.execFlashInfoEntryCmd ag off s
  | .flashReturnToRead ag off => Sys2Proof.Machine.execFlashReturnToRead ag off s
  | .flashSuspendEffect => Sys2Proof.Machine.execFlashSuspendEffect s
  | .flashProgramDone pulses pass => Sys2Proof.Machine.execFlashProgramDone pulses pass s
  | .flashIntentRecorded fails => Sys2Proof.Machine.execFlashIntentRecorded fails s
  | .flashCompactionDone => Sys2Proof.Machine.execFlashCompactionDone s
  | .flashEraseDone pulses pass => Sys2Proof.Machine.execFlashEraseDone pulses pass s
  | .flashHostReadBusy ag off => Sys2Proof.Machine.execFlashHostReadBusy ag off s
  | .flashStalledReadDone ag off => Sys2Proof.Machine.execFlashStalledReadDone ag off s
  | .laneTxeqWrite ag n v => Sys2Proof.Machine.execLaneTxeqWrite ag n v s
  | .laneWakeBurstEnd n => Sys2Proof.Machine.execLaneWakeBurstEnd n s
  | .cdrLockAcquired n => Sys2Proof.Machine.execCdrLockAcquired n s
  | .cdrLockLost n => Sys2Proof.Machine.execCdrLockLost n s
  | .rxidleChange n idle => Sys2Proof.Machine.execRxidleChange n idle s
  | .eyeWindowEnd n e => Sys2Proof.Machine.execEyeWindowEnd n e s
  | .laneLoadlg ag n => Sys2Proof.Machine.execLaneLoadlg ag n s
  | .commaAlign n => Sys2Proof.Machine.execCommaAlign n s
  | .alignLost n => Sys2Proof.Machine.execAlignLost n s
  | .blockLockAcquired n => Sys2Proof.Machine.execBlockLockAcquired n s
  | .blockLockLost n => Sys2Proof.Machine.execBlockLockLost n s
  | .phaseFifoFault n tx => Sys2Proof.Machine.execPhaseFifoFault n tx s
  | .qpllLock q h => Sys2Proof.Machine.execQpllLock q h s
  | .qpllLossOfLock q h => Sys2Proof.Machine.execQpllLossOfLock q h s
  | .quadCalStart ag q => Sys2Proof.Machine.execQuadCalStart ag q s
  | .quadCalDone q pass => Sys2Proof.Machine.execQuadCalDone q pass s
  | .quadCalTimeout q => Sys2Proof.Machine.execQuadCalTimeout q s
  | .prbsClear ag n => Sys2Proof.Machine.execPrbsClear ag n s
  | .prbsCheckerLock n => Sys2Proof.Machine.execPrbsCheckerLock n s
  | .wpEnable ag p => Sys2Proof.Machine.execWpEnable ag p s
  | .wpDisable ag p => Sys2Proof.Machine.execWpDisable ag p s
  | .wpRetrain ag p => Sys2Proof.Machine.execWpRetrain ag p s
  | .waleTrnSet p lane t => Sys2Proof.Machine.execWaleTrnSet p lane t s
  | .waleTrainTimeout p => Sys2Proof.Machine.execWaleTrainTimeout p s
  | .waleLinkUp p => Sys2Proof.Machine.execWaleLinkUp p s
  | .waleAutoRetrain p => Sys2Proof.Machine.execWaleAutoRetrain p s
  | .waleBlockBad p fmt => Sys2Proof.Machine.execWaleBlockBad p fmt s
  | .waleAck p aseq junk => Sys2Proof.Machine.execWaleAck p aseq junk s
  | .waleNak p aseq junk => Sys2Proof.Machine.execWaleNak p aseq junk s
  | .waleAckSend p => Sys2Proof.Machine.execWaleAckSend p s
  | .waleAckTimerExpiry p => Sys2Proof.Machine.execWaleAckTimerExpiry p s
  | .waleLaneFail p lane => Sys2Proof.Machine.execWaleLaneFail p lane s
  | .waleLaneReadmitReady p lane => Sys2Proof.Machine.execWaleLaneReadmitReady p lane s
  | .waleLmgDrop p set junk => Sys2Proof.Machine.execWaleLmgDrop p set junk s
  | .waleLmgReadmit p set junk => Sys2Proof.Machine.execWaleLmgReadmit p set junk s
  | .waleLmgSleep p junk => Sys2Proof.Machine.execWaleLmgSleep p junk s
  | .waleLmgDown p junk => Sys2Proof.Machine.execWaleLmgDown p junk s
  | .waleTimeExchangeStart fine => Sys2Proof.Machine.execWaleTimeExchangeStart fine s
  | .waleTsyRequest p xn fine turn junk => Sys2Proof.Machine.execWaleTsyRequest p xn fine turn junk s
  | .waleTsyResponse p xn fine junk => Sys2Proof.Machine.execWaleTsyResponse p xn fine junk s
  | .waleTimeFollowUp p b => Sys2Proof.Machine.execWaleTimeFollowUp p b s
  | .waleFollowUpTimeout => Sys2Proof.Machine.execWaleFollowUpTimeout s
  | .waleWrite p b mem => Sys2Proof.Machine.execWaleWrite p b mem s
  | .waleRead p b mem => Sys2Proof.Machine.execWaleRead p b mem s
  | .waleCompletion p b => Sys2Proof.Machine.execWaleCompletion p b s
  | .waleMessage p b => Sys2Proof.Machine.execWaleMessage p b s
  | .waleGangBlock p b => Sys2Proof.Machine.execWaleGangBlock p b s
  | .waleAdvert p b => Sys2Proof.Machine.execWaleAdvert p b s
  | .waleAdvertTimer => Sys2Proof.Machine.execWaleAdvertTimer s
  | .waleAdvertExpiry p => Sys2Proof.Machine.execWaleAdvertExpiry p s
  | .waleJoin p b => Sys2Proof.Machine.execWaleJoin p b s
  | .waleBnd p b => Sys2Proof.Machine.execWaleBnd p b s
  | .waleBndref p b => Sys2Proof.Machine.execWaleBndref p b s
  | .waleVoteCutoff src => Sys2Proof.Machine.execWaleVoteCutoff src s
  | .waleVote p b => Sys2Proof.Machine.execWaleVote p b s
  | .waleVerdictTimer num den => Sys2Proof.Machine.execWaleVerdictTimer num den s
  | .waleVerdict p b => Sys2Proof.Machine.execWaleVerdict p b s
  | .waleAlarm p b => Sys2Proof.Machine.execWaleAlarm p b s
  | .waleDoneUpSend => Sys2Proof.Machine.execWaleDoneUpSend s
  | .waleDoneUp p b => Sys2Proof.Machine.execWaleDoneUp p b s
  | .waleSysdone p b => Sys2Proof.Machine.execWaleSysdone p b s
  | .waleSystemDoneInstant => Sys2Proof.Machine.execWaleSystemDoneInstant s
  | .waleSleepMsg p b => Sys2Proof.Machine.execWaleSleepMsg p b s
  | .waleAwake p b => Sys2Proof.Machine.execWaleAwake p b s
  | .waleWake p b => Sys2Proof.Machine.execWaleWake p b s
  | .waleRqGo ag n op ack len => Sys2Proof.Machine.execWaleRqGo ag n op ack len s
  | .waleRequestDeadline tag => Sys2Proof.Machine.execWaleRequestDeadline tag s
  | .waleMqPop ag => Sys2Proof.Machine.execWaleMqPop ag s
  | .waleGangGo ag hamper bcast dest => Sys2Proof.Machine.execWaleGangGo ag hamper bcast dest s
  | .waleGangAbort ag blocks => Sys2Proof.Machine.execWaleGangAbort ag blocks s
  | .waleGangSendEnd => Sys2Proof.Machine.execWaleGangSendEnd s
  | .waleGangStreamTimeout => Sys2Proof.Machine.execWaleGangStreamTimeout s
  | .pcieLinkUp port gen width => Sys2Proof.Machine.execPcieLinkUp port gen width s
  | .pcieLinkDown port => Sys2Proof.Machine.execPcieLinkDown port s
  | .pcieFlr port => Sys2Proof.Machine.execPcieFlr port s
  | .pcieHotReset port => Sys2Proof.Machine.execPcieHotReset port s
  | .pciePerst port => Sys2Proof.Machine.execPciePerst port s
  | .streamWindowWrite port spi words => Sys2Proof.Machine.execStreamWindowWrite port spi words s
  | .hpSendEnd ag port v => Sys2Proof.Machine.execHpSendEnd ag port v s
  | .hpSretRead ag port => Sys2Proof.Machine.execHpSretRead ag port s
  | .hpSpirel ag port => Sys2Proof.Machine.execHpSpirel ag port s
  | .spiRead port addr n => Sys2Proof.Machine.execSpiRead port addr n s
  | .spiWrite port addr words => Sys2Proof.Machine.execSpiWrite port addr words s
  | .spiStatus port => Sys2Proof.Machine.execSpiStatus port s
  | .spiFrameError port => Sys2Proof.Machine.execSpiFrameError port s
  | .semAcquire ag n => Sys2Proof.Machine.execSemAcquire ag n s
  | .semRelease ag n => Sys2Proof.Machine.execSemRelease ag n s
  | .semForce ag v => Sys2Proof.Machine.execSemForce ag v s
  | .mbRing ag m => Sys2Proof.Machine.execMbRing ag m s
  | .mbAck ag m => Sys2Proof.Machine.execMbAck ag m s
  | .mbDataWrite ag m idx v => Sys2Proof.Machine.execMbDataWrite ag m idx v s
  | .hamperTrainDone pass => Sys2Proof.Machine.execHamperTrainDone pass s
  | .hamperTrainTimeout => Sys2Proof.Machine.execHamperTrainTimeout s
  | .hamperPortRequest n rq => Sys2Proof.Machine.execHamperPortRequest n rq s
  | .hamperAccessDone src sev => Sys2Proof.Machine.execHamperAccessDone src sev s
  | .hamperRefresh => Sys2Proof.Machine.execHamperRefresh s
  | .hamperTempRead temp => Sys2Proof.Machine.execHamperTempRead temp s
  | .hamperRetrain ag => Sys2Proof.Machine.execHamperRetrain ag s
  | .hamperRetrainDrained => Sys2Proof.Machine.execHamperRetrainDrained s
  | .hamperDrainTimeout => Sys2Proof.Machine.execHamperDrainTimeout s
  | .hamperRetrainDone => Sys2Proof.Machine.execHamperRetrainDone s
  | .hamperSelfRefreshExit => Sys2Proof.Machine.execHamperSelfRefreshExit s
  | .clusterRunWrite ag v => Sys2Proof.Machine.execClusterRunWrite ag v s
  | .wdEnable idx => Sys2Proof.Machine.execWdEnable idx s
  | .wdKick idx v => Sys2Proof.Machine.execWdKick idx v s
  | .wdExpiry idx => Sys2Proof.Machine.execWdExpiry idx s
  | .gwWindowAccess ag req => Sys2Proof.Machine.execGwWindowAccess ag req s
  | .gwWindowResponse port tag data err => Sys2Proof.Machine.execGwWindowResponse port tag data err s
  | .gwWindowTimeout port tag => Sys2Proof.Machine.execGwWindowTimeout port tag s
  | .gwMasterRequest port req => Sys2Proof.Machine.execGwMasterRequest port req s
  | .gwMasterDone port tag => Sys2Proof.Machine.execGwMasterDone port tag s
  | .eventRaise n => Sys2Proof.Machine.execEventRaise n s
  | .userEventEdge w j => Sys2Proof.Machine.execUserEventEdge w j s
  | .evtClaim ag c => Sys2Proof.Machine.execEvtClaim ag c s
  | .evtRaiseWrite ag v => Sys2Proof.Machine.execEvtRaiseWrite ag v s
  | .plRequest ag v => Sys2Proof.Machine.execPlRequest ag v s
  | .plRampDone => Sys2Proof.Machine.execPlRampDone s
  | .modeRequestDoze ag => Sys2Proof.Machine.execModeRequestDoze ag s
  | .modeRequestSleep ag => Sys2Proof.Machine.execModeRequestSleep ag s
  | .modeRequestStandby ag => Sys2Proof.Machine.execModeRequestStandby ag s
  | .quiesceDone => Sys2Proof.Machine.execQuiesceDone s
  | .quiesceTimeout busy => Sys2Proof.Machine.execQuiesceTimeout busy s
  | .sleepEntered => Sys2Proof.Machine.execSleepEntered s
  | .wakeSource src port => Sys2Proof.Machine.execWakeSource src port s
  | .wakeTimerExpiry => Sys2Proof.Machine.execWakeTimerExpiry s
  | .sleepWakeRun stale => Sys2Proof.Machine.execSleepWakeRun stale s
  | .soundingRequest ag v => Sys2Proof.Machine.execSoundingRequest ag v s
  | .soundingAbort ag => Sys2Proof.Machine.execSoundingAbort ag s
  | .soundingCopyDone => Sys2Proof.Machine.execSoundingCopyDone s
  | .soundingRunDone run => Sys2Proof.Machine.execSoundingRunDone run s
  | .soundingMoveBackDone => Sys2Proof.Machine.execSoundingMoveBackDone s
  | .loadingSoundingBatchDone rep => Sys2Proof.Machine.execLoadingSoundingBatchDone rep s
  | .fuseBurn ag v => Sys2Proof.Machine.execFuseBurn ag v s
  | .fuseBurnDone => Sys2Proof.Machine.execFuseBurnDone s
  | .staleClear ag v => Sys2Proof.Machine.execStaleClear ag v s
  | .creelScrubStep n => Sys2Proof.Machine.execCreelScrubStep n s
  | .creelScrubWriteBack n => Sys2Proof.Machine.execCreelScrubWriteBack n s
  | .lcTransition ag => Sys2Proof.Machine.execLcTransition ag s
  | .lcSetOwner ag => Sys2Proof.Machine.execLcSetOwner ag s
  | .lcSetKeyFuse ag => Sys2Proof.Machine.execLcSetKeyFuse ag s
  | .lcLoadKeyBbr ag => Sys2Proof.Machine.execLcLoadKeyBbr ag s
  | .lcClearKeyBbr ag => Sys2Proof.Machine.execLcClearKeyBbr ag s
  | .lcDebugToken ag jtag => Sys2Proof.Machine.execLcDebugToken ag jtag s
  | .lcReqbufClear ag => Sys2Proof.Machine.execLcReqbufClear ag s
  | .lcRequestVerified vinOk => Sys2Proof.Machine.execLcRequestVerified vinOk s
  | .lcBurnDone failed => Sys2Proof.Machine.execLcBurnDone failed s
  | .tamperEvent cause => Sys2Proof.Machine.execTamperEvent cause s
  | .zeroiseWrite ag v => Sys2Proof.Machine.execZeroiseWrite ag v s
  | .debugClose ag => Sys2Proof.Machine.execDebugClose ag s
  | .jtagTapReset => Sys2Proof.Machine.execJtagTapReset s
  | .jtagLcTokenUpdate shifts bytes => Sys2Proof.Machine.execJtagLcTokenUpdate shifts bytes s
  | .jtagExtest => Sys2Proof.Machine.execJtagExtest s
  | .jtagClamp => Sys2Proof.Machine.execJtagClamp s
  | .jtagHighz => Sys2Proof.Machine.execJtagHighz s
  | .jtagIdcode => Sys2Proof.Machine.execJtagIdcode s
  | .jtagSamplePreload => Sys2Proof.Machine.execJtagSamplePreload s
  | .jtagLcToken => Sys2Proof.Machine.execJtagLcToken s
  | .jtagLcStatus => Sys2Proof.Machine.execJtagLcStatus s
  | .jtagDmi => Sys2Proof.Machine.execJtagDmi s
  | .jtagGrenricTest code => Sys2Proof.Machine.execJtagGrenricTest code s
  | .jtagBypass => Sys2Proof.Machine.execJtagBypass s
  | .registerWrite ag off v full => Sys2Proof.Machine.execRegisterWrite ag off v full s
  | .stakeNetEdge bay net rising pins => Sys2Proof.Machine.execStakeNetEdge bay net rising pins s
  | .laneRxWord n w => Sys2Proof.Machine.execLaneRxWord n w s
  | .vbatLow => Sys2Proof.Machine.execVbatLow s
  | .pciePowerStateChange port d3hot l1 cfg => Sys2Proof.Machine.execPciePowerStateChange port d3hot l1 cfg s
  | .clusterBusAccess core acc => Sys2Proof.Machine.execClusterBusAccess core acc s

end Sys2Proof.Machine
end

