-- ==== Sys2Proof/Safety.lean ====
section
/-! DEFINITION. What counts as a safe run: the terms the statements about every step use. -/
namespace Sys2Proof.Machine

/-- The fuses `g` are the fuses `f` with further fuses blown: no fuse is ever restored (R452). -/
def Grew (f g : Fuses) : Prop := ∃ fs : List FuseRef, g = fs.foldl Fuses.blow f

/-- The canonical form of the flash array: strictly rising addresses, and no listed byte that reads erased. -/
def CellsWf (m : Store Byte) : Prop := Store.wf erasedByte m = true

/-- The three memories are in canonical form: the flash array, the hamper and cluster SRAM.  The unlisted
bytes of the last two are undefined content, so their form is that each defined byte is listed once. -/
def State.MemoriesWf (s : State) : Prop :=
  CellsWf s.flash.cells ∧ Store.rising s.hamp.cells = true ∧ Store.rising s.sram = true

/-- May the agent write the register: no semaphore gates it, or the agent holds the one that does (R375)? -/
def State.mayWrite (s : State) (ag : Agent) (off : Nat) : Bool :=
  match regRow? off with
  | some r => match r.sem with
    | some n => s.holds ag n
    | none => true
  | none => true

/-! The configuration stream: a packet in a stream that is being read. -/

/-- The open source has handed over `n` words. -/
def State.wordsTaken (s : State) (src n : Nat) : State :=
  let t := s.windowTake src n
  { t with eng := { t.eng with arrived := true } }

/-- Source `src` is open, the hub clocks run from the synthesizer, the engine, which is not stalled and not in a gang
stream, is among a stream's packets, and the next words at the source spell the packet with header `h` and words `d`;
`t` is the block when it acts on it. -/
structure State.HandsOver (s t : State) (src : Nat) (h : Word) (d : List Word) : Prop where
  source : s.engSource = some src
  clocks : s.hubOnSynth = true
  ready : s.stalled = false
  offered : s.spells src (.packet h d) = true
  taken : t = s.wordsTaken src (1 + d.length)
  packets : t.eng.phase = .packets
  single : t.eng.gang = .none
  whole : t.eng.skip = 0
  room : t.st.inBody = true → t.st.body.length + (1 + d.length) ≤ t.st.bodylen

/-- The packet comes after the IDCODE write, before the body ends and before the check passes. -/
structure State.InStream (s t : State) (src : Nat) (h : Word) (d : List Word) : Prop extends State.HandsOver s t src h d where
  identified : t.st.idOk = true
  unchecked : t.st.passed = false
  before : t.st.bodyDone = false

/-- `u` is the block after a packet's own effect, from `t`: the packet's words enter the stream's record, and a
source that has ended and has no more words ends the stream. -/
def State.packetDone (t u : State) (src : Nat) (h : Word) (d : List Word) : State :=
  (if u.eng.phase = .search ∧ t.eng.phase = .packets then u
  else u.setSt (if t.st.inBody then ({ u.st with inBody := true }).take h d
    else if u.st.inBody then { ({ u.st with inBody := false }).take h d with inBody := true }
    else u.st.take h d)).spentEnd src

/-! Wale: a block that a port accepts (R340, R345, R351). -/

/-- Port `p` has taken a block: the next one is expected, and the receive counter has counted it. -/
def State.afterRx (s : State) (p : Nat) : State :=
  (s.setWp p { s.wp p with rxSeq := ((s.wp p).rxSeq + 1) % 4096, nak := false, got := true }).bumpSat (Reg.wpCntRx p)

/-- Port `p` is UP, `b` carries the sequence number it expects, and its epoch is fresh; `t` is the block after the
link layer and the epoch test. -/
structure State.Receives (s t : State) (p : Nat) (b : WaleBlock) : Prop where
  up : s.wpUp p = true
  expected : b.seq.val = (s.wp p).rxSeq
  fresh : (s.afterRx p).epochTest b = (true, t)

/-- Port `p` accepts `b`, a block for this device, which is assigned. -/
structure State.ReceivesHere (s t : State) (p : Nat) (b : WaleBlock) : Prop extends State.Receives s t p b where
  single : b.bcast = false
  assigned : t.devid ≠ 511
  here : t.routeOf b.dest.val = 6

/-- A broadcast block that came in on port `p` has gone out on the other tree ports. -/
def State.forwarded (t : State) (p : Nat) (b : WaleBlock) : State :=
  if b.hops = 0 ∨ t.devid = 511 then t else t.bcastOut (some p) { b with hops := b.hops - 1 }

/-- Which commands can change a byte of cluster SRAM: the accesses that reach it (R398), a failed retention
check (R429), and what restarts the block or can come to a restart (R20, R431). -/
def mayWriteSram : Instr → Bool
  | .clusterBusAccess .. => true
  | .gwMasterRequest .. => true
  | .powerUpComplete .. => true
  | .programNFall .. => true
  | .quiesceDone .. => true
  | .quiesceTimeout .. => true
  | .registerWrite .. => true
  | .resetNRise .. => true
  | .sleepWakeRun .. => true
  | .spiWrite .. => true
  | .sysCtlReload .. => true
  | .vinFall .. => true
  | .wakeSource .. => true
  | .wakeTimerExpiry .. => true
  | .waleRead .. => true
  | .waleRqGo .. => true
  | .waleWrite .. => true
  | _ => false

/-- Which commands can change the hamper content: the accesses that reach it (R383), a training or a map
change (R384, R391), and what can end in a SAFE HOLD or a restart, which leave the content undefined. -/
def mayWriteHamper : Instr → Bool
  | .boundaryDelivery .. => true
  | .clusterBusAccess .. => true
  | .doneWaitExpiry .. => true
  | .gwMasterRequest .. => true
  | .hamperAccessDone .. => true
  | .hamperSelfRefreshExit .. => true
  | .hamperTrainDone .. => true
  | .keeperBootComplete .. => true
  | .mainCommit .. => true
  | .plRampDone .. => true
  | .pntFrameRead .. => true
  | .pntSbeWriteBackDone .. => true
  | .powerUpComplete .. => true
  | .priorityCommit .. => true
  | .priorityStageTimeout .. => true
  | .programNFall .. => true
  | .quiesceDone .. => true
  | .quiesceTimeout .. => true
  | .registerWrite .. => true
  | .regulatorFault .. => true
  | .resetNRise .. => true
  | .sleepWakeRun .. => true
  | .spiWrite .. => true
  | .srcWaitExpiry .. => true
  | .startTestComplete .. => true
  | .sysCtlReload .. => true
  | .thermalSample .. => true
  | .vinFall .. => true
  | .wakeSource .. => true
  | .wakeTimerExpiry .. => true
  | .waleRead .. => true
  | .waleRqGo .. => true
  | .waleWrite .. => true
  | _ => false

/-- Which commands can change a byte of the flash array: the ends of flash operations (R283 to R301), and the
commands after which the keeper can write a journal record (R225). -/
def mayWriteFlash : Instr → Bool
  | .body .. => true
  | .bootClear .. => true
  | .clksetLockWaitEnd .. => true
  | .clusterBusAccess .. => true
  | .doneHigh .. => true
  | .doneWaitExpiry .. => true
  | .endPacket .. => true
  | .flashCompactionDone .. => true
  | .flashEraseDone .. => true
  | .flashIntentRecorded .. => true
  | .flashProgramDone .. => true
  | .gwMasterRequest .. => true
  | .hamperTrainDone .. => true
  | .hamperTrainTimeout .. => true
  | .hpSendEnd .. => true
  | .hpSpirel .. => true
  | .hpSretRead .. => true
  | .keeperBootComplete .. => true
  | .loadingSoundingBatchDone .. => true
  | .mainCommit .. => true
  | .nop .. => true
  | .packetBadHeader .. => true
  | .patch .. => true
  | .pcieFlr .. => true
  | .pcieHotReset .. => true
  | .pcieLinkDown .. => true
  | .pciePerst .. => true
  | .plRampDone .. => true
  | .powerUpComplete .. => true
  | .priorityOutputEnable .. => true
  | .priorityStageTimeout .. => true
  | .programNFall .. => true
  | .programNRise .. => true
  | .psrcOpen .. => true
  | .quadCalDone .. => true
  | .quadCalTimeout .. => true
  | .quiesceDone .. => true
  | .quiesceTimeout .. => true
  | .readFrames .. => true
  | .readPlace .. => true
  | .readStat .. => true
  | .registerWrite .. => true
  | .regulatorFault .. => true
  | .releaseOutputEnable .. => true
  | .repeatPacket .. => true
  | .resetNFall .. => true
  | .resetNRise .. => true
  | .sectionPacket .. => true
  | .semAcquire .. => true
  | .semForce .. => true
  | .semRelease .. => true
  | .sleepWakeRun .. => true
  | .spiRead .. => true
  | .spiWrite .. => true
  | .srcWaitExpiry .. => true
  | .stageClearDone .. => true
  | .stakeNetEdge .. => true
  | .stagedVerifyEnd .. => true
  | .startTestComplete .. => true
  | .stepAbort .. => true
  | .stepFinish .. => true
  | .stepNone .. => true
  | .stepStage .. => true
  | .streamSourceEnd .. => true
  | .streamWindowWrite .. => true
  | .syncWord .. => true
  | .sysCtlReload .. => true
  | .thermalSample .. => true
  | .vinFall .. => true
  | .wakeSource .. => true
  | .wakeTimerExpiry .. => true
  | .waleAckTimerExpiry .. => true
  | .waleGangBlock .. => true
  | .waleGangStreamTimeout .. => true
  | .waleLaneFail .. => true
  | .waleLmgDown .. => true
  | .waleNak .. => true
  | .waleRead .. => true
  | .waleRqGo .. => true
  | .waleTrainTimeout .. => true
  | .waleTrnSet .. => true
  | .waleWrite .. => true
  | .wpDisable .. => true
  | .wpEnable .. => true
  | .wpRetrain .. => true
  | .writeBodylen .. => true
  | .writeBound .. => true
  | .writeClkset .. => true
  | .writeCrcv .. => true
  | .writeForm .. => true
  | .writeFrames .. => true
  | .writeGroup .. => true
  | .writeIdcode .. => true
  | .writeIv .. => true
  | .writeKeysel .. => true
  | .writePlace .. => true
  | .writePlfloor .. => true
  | .writeSeal .. => true
  | .writeSid .. => true
  | .xwaitExpiry .. => true
  | .zero .. => true
  | _ => false

/-- Which commands can blow a fuse: the ends of burns (R445, R452), the keeper's token of a SEALED boot (R461),
and a restart that cuts a burn short. -/
def mayBlowFuses : Instr → Bool
  | .clusterBusAccess .. => true
  | .gwMasterRequest .. => true
  | .keeperBootComplete .. => true
  | .lcBurnDone .. => true
  | .powerUpComplete .. => true
  | .programNFall .. => true
  | .quiesceDone .. => true
  | .quiesceTimeout .. => true
  | .registerWrite .. => true
  | .resetNRise .. => true
  | .spiWrite .. => true
  | .sysCtlReload .. => true
  | .vinFall .. => true
  | .wakeSource .. => true
  | .wakeTimerExpiry .. => true
  | .waleRead .. => true
  | .waleRqGo .. => true
  | .waleWrite .. => true
  | _ => false

end Sys2Proof.Machine
end

