-- ==== Sys2Proof/WellFormed.lean ====
section
/-! DEFINITION. Which operands of a command name something: sizes, lengths and offsets that the types leave
open. -/
namespace Sys2Proof

/-- A window access carries beats of 8 bytes, does not cross 512 bytes, and a write has data for each (R406). -/
def wfWindow (r : WindowReq) : Bool :=
  decide (r.offset % 8 = 0) && decide (r.offset < 2 ^ 36) && decide (1 ≤ r.beats) &&
    decide (r.offset % 512 + 8 * r.beats ≤ 512) && decide (r.data.length = if r.write then r.beats else 0)

/-- A master request has a 40-bit address, a device number, and at most 128 words (R407). -/
def wfMaster (r : MasterReq) : Bool :=
  decide (r.addr < 2 ^ 40) && decide (r.addr % 4 = 0) && decide (r.dest < 512) && decide (r.len ≤ 128) &&
    decide (r.data.length = if r.op = .read then 0 else r.len)

/-- An offset of the flash array is below 1 GiB and a multiple of 4 (R276, R279). -/
def wfOffset (off : Nat) : Bool := decide (off < 2 ^ 30) && decide (off % 4 = 0)

/-- A block carries words, as many as LEN says (R338); a READ carries none. -/
def wfWords (b : WaleBlock) : Bool :=
  match b.body with
  | .words ws => b.kind == .read || decide (ws.length = b.len.val)
  | _ => false

/-- A time follow-up (R353). -/
def isFollowUp : WaleBody → Bool
  | .followUp _ _ _ => true
  | _ => false

/-- The pins named at an edge exist. -/
def wfPins (p : EdgePins) : Bool :=
  p.creels.all (fun e => decide (e.1 < 120)) && p.slices.all (fun e => decide (e.1 < 120)) &&
    p.lanes.all (fun e => decide (e.1 < 64)) && p.pads.all (fun e => decide (e.1 < 52))

/-- Does every operand of the command name something? -/
def Instr.wf : Instr → Bool
  | .vinFall => true
  | .powerUpComplete _ => true
  | .resetNFall => true
  | .resetNRise => true
  | .strapLatch _ => true
  | .keeperBootComplete _ _ _ => true
  | .startTestComplete _ _ => true
  | .programNFall => true
  | .programNRise => true
  | .sysCtlReload _ _ => true
  | .thermalSample bays hub => decide (bays.length = 96) && decide (hub.length = 4)
  | .regulatorFault _ => true
  | .railWarning _ => true
  | .vinLow => true
  | .srcWaitExpiry => true
  | .priorityCommit => true
  | .priorityInitLeave => true
  | .priorityOutputEnable => true
  | .priorityStageTimeout => true
  | .mainCommit => true
  | .xwaitExpiry _ => true
  | .releaseStart => true
  | .releaseInitLeave => true
  | .releaseOutputEnable => true
  | .releaseDoneRelease => true
  | .doneHigh => true
  | .doneWaitExpiry => true
  | .journalEraseStart => true
  | .bootClear _ _ => true
  | .bankRepower _ => true
  | .refinLost => true
  | .refinRestored => true
  | .xrefLost => true
  | .xrefRestored => true
  | .hubSynthLock => true
  | .clkHubWrite _ _ => true
  | .synthGlideDone _ => true
  | .synthDividerDone _ => true
  | .synthLock _ => true
  | .synthLossOfLock _ => true
  | .synthHoldoverExit _ => true
  | .glitchFreeSwitchDone _ => true
  | .glitchFreeSwitchForced _ => true
  | .rimSelectWrite _ _ _ => true
  | .hardBlockGateRequest _ _ => true
  | .hardBlockGateApply _ => true
  | .hardBlockGateRefused _ => true
  | .hardBlockGateOpen _ _ => true
  | .fmWindowEnd _ _ => true
  | .fmSourceWrite _ _ _ => true
  | .adjStep _ => true
  | .adjSlew _ => true
  | .slewDone => true
  | .syncCapture _ _ => true
  | .captureRead _ _ => true
  | .ppsInLost => true
  | .ppsOutPulse => true
  | .ppsOutPulseEnd => true
  | .mbFire _ _ _ => true
  | .boundaryLatch _ => true
  | .boundaryDelivery _ => true
  | .snapshotRead _ off => decide (off % 4 = 0) && decide (off < 2 ^ 24)
  | .syncWord => true
  | .packetBadHeader _ => true
  | .nop => true
  | .writeIdcode ws => decide (ws.length < 2 ^ 20)
  | .writeForm ws => decide (ws.length < 2 ^ 20)
  | .writeKeysel ws => decide (ws.length < 2 ^ 20)
  | .writeSid ws => decide (ws.length < 2 ^ 20)
  | .writeIv ws => decide (ws.length < 2 ^ 20)
  | .writeBodylen ws => decide (ws.length < 2 ^ 20)
  | .writeBound ws => decide (ws.length < 2 ^ 20)
  | .writeGroup ws => decide (ws.length < 2 ^ 20)
  | .writePlfloor ws => decide (ws.length < 2 ^ 20)
  | .writeClkset ws => decide (ws.length < 2 ^ 20)
  | .stepNone v => v != 1 && v != 2 && v != 3
  | .stepStage => true
  | .stageClearDone => true
  | .stepFinish => true
  | .stepAbort => true
  | .writePlace ws => decide (ws.length < 2 ^ 20)
  | .writeFrames _ ws => decide (ws.length < 2 ^ 20)
  | .zero _ _ => true
  | .repeatPacket _ _ => true
  | .patch _ ps => decide (ps.length < 2 ^ 20)
  | .body => true
  | .writeSeal ws => decide (ws.length < 2 ^ 20)
  | .clksetLockWaitEnd => true
  | .writeCrcv ws => decide (ws.length < 2 ^ 20)
  | .readFrames _ => true
  | .readPlace => true
  | .readStat => true
  | .sectionPacket _ _ => true
  | .endPacket => true
  | .streamSourceEnd => true
  | .stagedVerifyEnd _ => true
  | .psrcOpen _ _ => true
  | .unopenedSourceWords => true
  | .cgArmCommit _ _ => true
  | .cgArmRevert _ _ => true
  | .cgDisarm _ _ _ => true
  | .cgDiscard _ _ _ => true
  | .cgDeadlineExpiry _ => true
  | .commitRelease _ => true
  | .revertVerifyEnd _ _ => true
  | .dwPlaceWrite _ _ => true
  | .dwDataWrite _ _ => true
  | .dwApply _ _ => true
  | .dwClearBuffer _ _ => true
  | .dwApplyEnd => true
  | .panelIsoWrite _ _ _ => true
  | .pisoChange _ _ => true
  | .pntFrameRead _ _ _ => true
  | .pntSbeWriteBackDone _ _ => true
  | .pntRestart _ _ _ => true
  | .pntHoldClear _ _ => true
  | .pntReloadOpen => true
  | .pntReloadFire => true
  | .pntReloadWaitExpiry => true
  | .pntLogPop _ => true
  | .flashUnlockFirst _ off => wfOffset off
  | .flashUnlockSecond _ off => wfOffset off
  | .flashProgramWordCmd _ off => wfOffset off
  | .flashProgramLineCmd _ off => wfOffset off
  | .flashDataCycle _ off _ _ => wfOffset off
  | .flashEraseSetup _ off => wfOffset off
  | .flashEraseConfirm _ off => wfOffset off
  | .flashSuspendCmd _ off => wfOffset off
  | .flashResumeCmd _ off => wfOffset off
  | .flashReadStatusCmd _ off => wfOffset off
  | .flashInfoEntryCmd _ off => wfOffset off
  | .flashReturnToRead _ off => wfOffset off
  | .flashSuspendEffect => true
  | .flashProgramDone pulses _ => decide (1 ≤ pulses) && decide (pulses ≤ 64)
  | .flashIntentRecorded _ => true
  | .flashCompactionDone => true
  | .flashEraseDone pulses _ => decide (1 ≤ pulses) && decide (pulses ≤ 500)
  | .flashHostReadBusy _ off => wfOffset off
  | .flashStalledReadDone _ off => wfOffset off
  | .laneTxeqWrite _ _ _ => true
  | .laneWakeBurstEnd _ => true
  | .cdrLockAcquired _ => true
  | .cdrLockLost _ => true
  | .rxidleChange _ _ => true
  | .eyeWindowEnd _ e => decide (e.tapSteps.length ≤ 15)
  | .laneLoadlg _ _ => true
  | .commaAlign _ => true
  | .alignLost _ => true
  | .blockLockAcquired _ => true
  | .blockLockLost _ => true
  | .phaseFifoFault _ _ => true
  | .qpllLock _ _ => true
  | .qpllLossOfLock _ _ => true
  | .quadCalStart _ _ => true
  | .quadCalDone _ _ => true
  | .quadCalTimeout _ => true
  | .prbsClear _ _ => true
  | .prbsCheckerLock _ => true
  | .wpEnable _ _ => true
  | .wpDisable _ _ => true
  | .wpRetrain _ _ => true
  | .waleTrnSet _ _ _ => true
  | .waleTrainTimeout _ => true
  | .waleLinkUp _ => true
  | .waleAutoRetrain _ => true
  | .waleBlockBad _ _ => true
  | .waleAck _ _ _ => true
  | .waleNak _ _ _ => true
  | .waleAckSend _ => true
  | .waleAckTimerExpiry _ => true
  | .waleLaneFail _ _ => true
  | .waleLaneReadmitReady _ _ => true
  | .waleLmgDrop _ _ _ => true
  | .waleLmgReadmit _ _ _ => true
  | .waleLmgSleep _ _ => true
  | .waleLmgDown _ _ => true
  | .waleTimeExchangeStart _ => true
  | .waleTsyRequest _ _ _ _ _ => true
  | .waleTsyResponse _ _ _ _ => true
  | .waleTimeFollowUp _ b => isFollowUp b.body
  | .waleFollowUpTimeout => true
  | .waleWrite _ b _ => wfWords b
  | .waleRead _ b _ => wfWords b
  | .waleCompletion _ b => wfWords b
  | .waleMessage _ b => wfWords b
  | .waleGangBlock _ b => wfWords b
  | .waleAdvert _ b => match b.body with | .sys (.advert _ _ _ _ _) => true | _ => false
  | .waleAdvertTimer => true
  | .waleAdvertExpiry _ => true
  | .waleJoin _ b => match b.body with | .sys (.join _) => true | _ => false
  | .waleBnd _ b => match b.body with | .sys (.bnd _ _ _) => true | _ => false
  | .waleBndref _ b => match b.body with | .sys (.bndref _ _ _) => true | _ => false
  | .waleVoteCutoff _ => true
  | .waleVote _ b => match b.body with | .sys (.vote _ _ _ _) => true | _ => false
  | .waleVerdictTimer _ den => decide (den ≠ 0)
  | .waleVerdict _ b => match b.body with | .sys (.verdict _ _ _) => true | _ => false
  | .waleAlarm _ b => match b.body with | .sys (.alarm _ _ _) => true | _ => false
  | .waleDoneUpSend => true
  | .waleDoneUp _ b => match b.body with | .sys (.doneUp _) => true | _ => false
  | .waleSysdone _ b => match b.body with | .sys (.sysdone _ _) => true | _ => false
  | .waleSystemDoneInstant => true
  | .waleSleepMsg _ b => match b.body with | .sys (.sleep _) => true | _ => false
  | .waleAwake _ b => match b.body with | .sys .awake => true | _ => false
  | .waleWake _ b => match b.body with | .sys (.wake _) => true | _ => false
  | .waleRqGo _ _ _ _ _ => true
  | .waleRequestDeadline _ => true
  | .waleMqPop _ => true
  | .waleGangGo _ _ _ _ => true
  | .waleGangAbort _ _ => true
  | .waleGangSendEnd => true
  | .waleGangStreamTimeout => true
  | .pcieLinkUp _ gen _ => decide (1 ≤ gen.toNat) && decide (gen.toNat ≤ 5)
  | .pcieLinkDown _ => true
  | .pcieFlr _ => true
  | .pcieHotReset _ => true
  | .pciePerst _ => true
  | .streamWindowWrite _ _ _ => true
  | .hpSendEnd _ _ _ => true
  | .hpSretRead _ _ => true
  | .hpSpirel _ _ => true
  | .spiRead _ _ _ => true
  | .spiWrite _ _ _ => true
  | .spiStatus _ => true
  | .spiFrameError _ => true
  | .semAcquire _ _ => true
  | .semRelease _ _ => true
  | .semForce _ _ => true
  | .mbRing _ _ => true
  | .mbAck _ _ => true
  | .mbDataWrite _ _ _ _ => true
  | .hamperTrainDone _ => true
  | .hamperTrainTimeout => true
  | .hamperPortRequest _ _ => true
  | .hamperAccessDone _ _ => true
  | .hamperRefresh => true
  | .hamperTempRead _ => true
  | .hamperRetrain _ => true
  | .hamperRetrainDrained => true
  | .hamperDrainTimeout => true
  | .hamperRetrainDone => true
  | .hamperSelfRefreshExit => true
  | .clusterRunWrite _ _ => true
  | .wdEnable _ => true
  | .wdKick _ _ => true
  | .wdExpiry _ => true
  | .gwWindowAccess _ req => wfWindow req
  | .gwWindowResponse _ _ data _ => decide (data.length ≤ 64)
  | .gwWindowTimeout _ _ => true
  | .gwMasterRequest _ req => wfMaster req
  | .gwMasterDone _ _ => true
  | .eventRaise _ => true
  | .userEventEdge _ _ => true
  | .evtClaim _ _ => true
  | .evtRaiseWrite _ _ => true
  | .plRequest _ _ => true
  | .plRampDone => true
  | .modeRequestDoze _ => true
  | .modeRequestSleep _ => true
  | .modeRequestStandby _ => true
  | .quiesceDone => true
  | .quiesceTimeout _ => true
  | .sleepEntered => true
  | .wakeSource _ _ => true
  | .wakeTimerExpiry => true
  | .sleepWakeRun _ => true
  | .soundingRequest _ _ => true
  | .soundingAbort _ => true
  | .soundingCopyDone => true
  | .soundingRunDone _ => true
  | .soundingMoveBackDone => true
  | .loadingSoundingBatchDone _ => true
  | .fuseBurn _ _ => true
  | .fuseBurnDone => true
  | .staleClear _ _ => true
  | .creelScrubStep _ => true
  | .creelScrubWriteBack _ => true
  | .lcTransition _ => true
  | .lcSetOwner _ => true
  | .lcSetKeyFuse _ => true
  | .lcLoadKeyBbr _ => true
  | .lcClearKeyBbr _ => true
  | .lcDebugToken _ _ => true
  | .lcReqbufClear _ => true
  | .lcRequestVerified _ => true
  | .lcBurnDone failed => match failed with | some n => decide (n < 4096) | none => true
  | .tamperEvent _ => true
  | .zeroiseWrite _ _ => true
  | .debugClose _ => true
  | .jtagTapReset => true
  | .jtagLcTokenUpdate _ _ => true
  | .jtagExtest => true
  | .jtagClamp => true
  | .jtagHighz => true
  | .jtagIdcode => true
  | .jtagSamplePreload => true
  | .jtagLcToken => true
  | .jtagLcStatus => true
  | .jtagDmi => true
  | .jtagGrenricTest _ => true
  | .jtagBypass => true
  | .registerWrite ag off _ full => decide (off % 4 = 0) && (match ag with | .hostPcie _ => decide (off < 2 ^ 26) | _ => decide (off < 2 ^ 24) && full)
  | .stakeNetEdge _ _ _ pins => wfPins pins
  | .laneRxWord _ _ => true
  | .vbatLow => true
  | .pciePowerStateChange _ _ _ _ => true
  | .clusterBusAccess _ acc => [1, 2, 4, 8].contains acc.size && decide (acc.addr + acc.size ≤ 2 ^ 40)

/-- The command is well formed. -/
abbrev WellFormed (i : Instr) : Prop := i.wf = true

end Sys2Proof
end

