-- ==== Sys2Proof/Certificates/Slice0/Obligations.lean ====
section
/-! DEFINITION. The statements about the block, for the provers.  An equation of the form `exec c s = .next t`
names the whole next state: whatever `t` does not change is unchanged. -/

open Sys2Proof Sys2Proof.Machine

/-- For every command c, state s and queue q: a step of s with c at the front of its queue, q behind it, is exec of
c on s with the queue q. -/
def Obligations.StepRunsTheFrontCommand : Prop :=
  ∀ (c : Instr) (s : State) (q : List Instr), step { s with pending := c :: q } = exec c { s with pending := q }

/-- With an empty queue a step answers the state after one tick of the configuration clock, and it leaves the queue
empty.  That an empty queue ticks the clock is the model's choice (assumption 2). -/
def Obligations.AnEmptyQueueTicksTheClock : Prop :=
  ∀ s : State, s.pending = [] → step s = .next s.idle ∧ s.idle.pending = []

/-- For every state s: if a step answers a next state, its queue is the queue of s without its front command.  No
command of the 306 changes what is waiting, so the commands are carried out in the order they came. -/
def Obligations.TheQueueIsFirstInFirstOut : Prop :=
  ∀ s t : State, step s = .next t → t.pending = s.pending.tail

/-- For every state s: if a step answers a next state, the life-cycle fuses are those of s with some (possibly no)
fuses blown.  No command, and no tick, restores a fuse. -/
def Obligations.NoFuseIsEverRestored : Prop :=
  ∀ s t : State, step s = .next t → Grew s.keys.fuses t.keys.fuses

/-- A command that mayBlowFuses does not name leaves every fuse as it was.  Named are the ends of burns, the accesses
that can reach a register whose write can restart the block while a burn runs, and the restarts themselves. -/
def Obligations.OnlyBurnsBlowFuses : Prop :=
  ∀ (c : Instr) (s t : State), mayBlowFuses c = false → exec c s = .next t → t.keys.fuses = s.keys.fuses

/-- A command that mayWriteSram does not name leaves the content of cluster SRAM as it was: every address reads after
it what it read before. -/
def Obligations.OnlyAccessesAndRestartsTouchSram : Prop :=
  ∀ (c : Instr) (s t : State), mayWriteSram c = false → exec c s = .next t → t.sram = s.sram

/-- A command that mayWriteHamper does not name leaves the list of the hamper's defined bytes as it was. -/
def Obligations.OnlyTheNamedCommandsTouchTheHamper : Prop :=
  ∀ (c : Instr) (s t : State), mayWriteHamper c = false → exec c s = .next t → t.hamp.cells = s.hamp.cells

/-- A command that mayWriteFlash does not name leaves the content of the flash array as it was.  Named are the ends of
flash operations and the commands after which the keeper can write a journal record (R225). -/
def Obligations.OnlyTheNamedCommandsTouchFlash : Prop :=
  ∀ (c : Instr) (s t : State), mayWriteFlash c = false → exec c s = .next t → t.flash.cells = s.flash.cells

/-- For every state whose three memories are in canonical form (strictly rising addresses; in flash no listed byte
that reads erased): if a step answers a next state, its memories are in canonical form.  So equal contents are
equal data after any sequence of commands. -/
def Obligations.MemoriesStayCanonical : Prop :=
  ∀ s t : State, s.MemoriesWf → step s = .next t → t.MemoriesWf

/-- The block at reset has its three memories in canonical form: nothing is listed in them.  That flash then reads
erased is the model's choice (assumption 6), and that the other two are undefined content is the spec's (R391, R398). -/
def Obligations.MemoriesAreCanonicalAtReset : Prop :=
  State.reset.MemoriesWf

/-- After reset every manager offset reads the Reset column of its register table, and every RWB value in effect is
that value too; the fields the Reset column calls "keeper" read 0 until the keeper loads them (assumption 3). -/
def Obligations.ResetGivesEachRegisterItsResetColumn : Prop :=
  ∀ off : Nat, State.reset.rd off = resetWord off ∧ State.reset.liveRd off = resetWord off

/-- For every state: HUB_SYNTH_LOCK sets HUB_LOCK and moves the hub clocks to the hub synthesizer; the end of a glide
ends the glide alone, clears GLIDE, and LOCK follows the loop; the end of a divider change ends that change alone; a relock
with a reference, out of holdover and, in cadence lock, with its phase error within 100 ps ends with LOCK (that the phase
error tested is T0's, as PHERR holds it, is the model's choice, assumption 55); loss of lock ends a glide, clears LOCK and
GLIDE, sets HOLD and LOL and raises EV252; leaving holdover starts a glide, but a relock in progress goes on;
XREF lost clears XREF_OK, sets its lost bit, raises EV255 and puts TCLK in holdover unless it runs from REFIN; XREF and
REFIN restored undo it; REFIN lost does the same for the users of REFIN. -/
def Obligations.SynthesizerCommandsComplete : Prop :=
  (∀ s : State, exec .hubSynthLock s = .next ((s.setBit Reg.clkStatus 7 true).setBit Reg.clkHub 16 true)) ∧
  (∀ (n : Fin 32) (s : State), (s.synthPhase n.val).glide = true → exec (.synthGlideDone n) s =
    .next (((s.setSynthPhase n.val { s.synthPhase n.val with glide := false, reacquire := false }).setBit (Reg.fsStat n.val) 1
      false).lockRefresh n.val)) ∧
  (∀ (n : Fin 32) (s : State), (s.synthPhase n.val).divider = true →
    exec (.synthDividerDone n) s = .next (s.setSynthPhase n.val { s.synthPhase n.val with divider := false })) ∧
  (∀ (n : Fin 32) (s : State), (s.synthPhase n.val).relock = true → (s.synthLive n.val).refsrc ≠ 0 →
    s.bit (Reg.fsStat n.val) 2 = false → ((s.synthLive n.val).refsrc = 4 → (s.phaseErr n.val).natAbs ≤ 100) →
    exec (.synthLock n) s = .next ((s.setSynthPhase n.val {}).setBit (Reg.fsStat n.val) 0 true)) ∧
  (∀ (n : Fin 32) (s : State), exec (.synthLossOfLock n) s =
    .next (((s.setSynthPhase n.val { s.synthPhase n.val with glide := false, reacquire := false }).wr (Reg.fsStat n.val)
      (putBit (putBits (s.rd (Reg.fsStat n.val)) 2 0 4) 4 true)).raise 252)) ∧
  (∀ (n : Fin 32) (s : State), s.bit (Reg.fsStat n.val) 2 = true → (s.synthPhase n.val).relock = false →
    exec (.synthHoldoverExit n) s =
    .next (((s.setBit (Reg.fsStat n.val) 2 false).setSynthPhase n.val { s.synthPhase n.val with glide := true, reacquire := true }).setBit
      (Reg.fsStat n.val) 1 true)) ∧
  (∀ (n : Fin 32) (s : State), s.bit (Reg.fsStat n.val) 2 = true → (s.synthPhase n.val).relock = true →
    exec (.synthHoldoverExit n) s = .next (s.setBit (Reg.fsStat n.val) 2 false)) ∧
  (∀ s : State, s.bit Reg.clkStatus 3 = true → exec .xrefLost s =
    .next (({ s.wr Reg.clkStatus (putBit (putBit (s.rd Reg.clkStatus) 9 false) 10 true) with
      clk := { s.clk with hubHold := true } } : State).raise 255)) ∧
  (∀ s : State, s.bit Reg.clkStatus 3 = true → exec .xrefRestored s =
    .next { s.setBit Reg.clkStatus 9 true with clk := { s.clk with hubHold := false } }) ∧
  (∀ s : State, s.bit Reg.clkStatus 3 = false → exec .refinLost s =
    .next ((List.range 32).foldl (fun t n => if t.usesRefin n then t.synthLose n else t)
      ((s.wr Reg.clkStatus (putBit (putBit (s.rd Reg.clkStatus) 4 false) 6 true)).raise 255))) ∧
  (∀ s : State, s.bit Reg.clkStatus 3 = true → exec .refinRestored s =
    .next ((s.setBit Reg.clkStatus 4 true).setBit Reg.cadStat 3 false))

/-- A legal rim or inter-band-line select write takes effect as a register write and an illegal one writes nothing and sets
ILLEGAL_SEL; a glitch-free switch ends, forced or not; a gate request sets the block's request bit, its idle point
applies the gate, the expired wait refuses it with EV254, and writing 0 opens it, upon which a Wale training or an
accepted sounding that waited for the gate goes on; CLK_HUB takes DIVs as written, and SRC only with HUB_LOCK (the keeper
alone clears it); a monitor's source write clears VALID and, where the source changes, its running count; a window adds
its count to COUNT and RUN and tests it. -/
def Obligations.ClockNetCommandsComplete : Prop :=
  (∀ (ag : Agent) (k : Fin 16) (j : Fin 8) (v : Word) (s : State), rimLegal v = true →
    exec (.rimSelectWrite ag (.rim k j) v) s = .next (s.plainWrite (Reg.clkRim k.val j.val) v)) ∧
  (∀ (ag : Agent) (k : Fin 16) (j : Fin 8) (v : Word) (s : State), rimLegal v = false →
    exec (.rimSelectWrite ag (.rim k j) v) s = .next (s.setBit Reg.clkErr 0 true)) ∧
  (∀ (ag : Agent) (w j : Fin 2) (v : Word) (s : State), vselLegal v = true →
    exec (.rimSelectWrite ag (.vsel w j) v) s = .next (s.plainWrite (Reg.clkVsel w.val j.val) v)) ∧
  (∀ (net : ClockNet) (s : State), exec (.glitchFreeSwitchDone net) s = .next (s.setSwitching (netKey net) 0)) ∧
  (∀ (net : ClockNet) (s : State), s.switching (netKey net) ≠ 0 →
    exec (.glitchFreeSwitchForced net) s = .next ((s.setSwitching (netKey net) 0).setBit Reg.clkErr 2 true)) ∧
  (∀ (blk : Fin 64) (s : State), blk.val < 58 → s.bit (hgreq (blk.val / 32)) (blk.val % 32) = false →
    exec (.hardBlockGateRequest .keeper blk) s = .next (s.setBit (hgreq (blk.val / 32)) (blk.val % 32) true)) ∧
  (∀ (blk : Fin 64) (s : State), s.gateWaits blk.val = true → s.blockIdle blk.val = true →
    exec (.hardBlockGateApply blk) s = .next (s.setBit (Reg.clkHgstat (blk.val / 32)) (blk.val % 32) true)) ∧
  (∀ (blk : Fin 64) (s : State), s.gateWaits blk.val = true → s.blockIdle blk.val = false →
    exec (.hardBlockGateRefused blk) s = .next (((s.setBit (hgreq (blk.val / 32)) (blk.val % 32) false).setBit
      (Reg.clkHgref (blk.val / 32)) (blk.val % 32) true).raise 254)) ∧
  (∀ (ag : Agent) (blk : Fin 64) (s t : State), s.bit (hgreq (blk.val / 32)) (blk.val % 32) = true → blk.val < 58 →
    t = (s.setBit (hgreq (blk.val / 32)) (blk.val % 32) false).setBit (Reg.clkHgstat (blk.val / 32)) (blk.val % 32) false →
    exec (.hardBlockGateOpen ag blk) s = .next (if blk.val = 57 ∧ s.sndPhase = 4 then t.sndStart
      else if 2 ≤ blk.val ∧ blk.val < 14 then t.wpDue ((blk.val - 2) / 2)
      else if 48 ≤ blk.val ∧ blk.val < 54 then t.wpDue (blk.val - 48) else t)) ∧
  (∀ (v : Word) (s : State), getBit v 16 = true → s.bit Reg.clkStatus 7 = true → exec (.clkHubWrite .keeper v) s =
    .next (s.wr Reg.clkHub (putBit (applyWrite 0x03F3F 0 0 (s.rd Reg.clkHub) v) 16 true))) ∧
  (∀ (ag : Agent) (m : Fin 16) (v : Word) (s : State), fmLegal (getBits v 9 0) = true →
    getBits v 9 0 = s.fld (Reg.fmCfg m.val) 9 0 → exec (.fmSourceWrite ag m v) s =
      .next ((s.plainWrite (Reg.fmCfg m.val) v).setBit (Reg.fmCfg m.val) 17 false)) ∧
  (∀ (ag : Agent) (m : Fin 16) (v : Word) (s : State), fmLegal (getBits v 9 0) = true →
    getBits v 9 0 ≠ s.fld (Reg.fmCfg m.val) 9 0 → exec (.fmSourceWrite ag m v) s =
      .next (((s.plainWrite (Reg.fmCfg m.val) v).setBit (Reg.fmCfg m.val) 17 false).setFmRun m.val 0)) ∧
  (∀ (m : Fin 16) (count : Word) (s : State), s.fld (Reg.fmCfg m.val) 9 0 ≠ 0 →
    ¬ (count < s.rd (Reg.fmMin m.val)) → ¬ (s.rd (Reg.fmMax m.val) < count) → s.bit (Reg.fmCfg m.val) 18 = false →
    exec (.fmWindowEnd m count) s =
      .next (((s.wr (Reg.fmCount m.val) count).wr (Reg.fmCfg m.val)
        (putBit (putBit (s.rd (Reg.fmCfg m.val)) 17 true) 18 false)).setFmRun m.val
          (Store.get (fun _ => 0) s.clk.fmBase m.val + count.toNat)))

/-- With WALE_TIME 0 and offsets that do not oppose the timebase's sign rule, ADJ_STEP steps the timebase at once and ADJ_SLEW of a nonzero offset below 1 s
starts a slew; SLEW_DONE applies the whole offset and ends the slew; an enabled capture stores the timebase truncated
to 100 ps, sets NEW (and OVR if NEW was set) and raises its event; reading a capture clears NEW and fills the snapshots; a lost PPS sets
PPS_LOST with EV267; a low PPS output rises at an instant in MODE 1, and in MODE 2 with a source that fires, and falls when the last WIDTH begun has ended;
a read of a wide counter gives its lower word and snapshots the upper ones (an FMm_RUN first takes the edges counted so far). -/
def Obligations.CadenceCommandsComplete : Prop :=
  (∀ (ag : Agent) (s : State), s.waleTime = false → (s.plainWrite Reg.cadAdjCtl 1#32).adjOpposed = false →
    exec (.adjStep ag) s = .next (((s.plainWrite Reg.cadAdjCtl 1#32).tbStep
      ((s.plainWrite Reg.cadAdjCtl 1#32).adjOffset * tbUnit)).adjDone)) ∧
  (∀ (ag : Agent) (s t : State), t = s.plainWrite Reg.cadAdjCtl 3#32 → s.waleTime = false → t.adjOpposed = false →
    t.adjOffset.natAbs < giga → t.adjOffset ≠ 0 → exec (.adjSlew ag) s =
      .next ({ t with cad := { t.cad with slew := t.adjOffset * tbUnit } }.setBit Reg.cadStat 1 true)) ∧
  (∀ s : State, s.bit Reg.cadStat 1 = true → exec .slewDone s =
    .next ((({ s with cad := { s.cad with tb := (((s.cad.tb : Int) + s.cad.slew) % (tbWrap : Int)).toNat, slew := 0 } } : State).setBit
      Reg.cadStat 1 false).adjDone)) ∧
  (∀ (x : Fin 3) (e : Bool) (s : State) (f n l h : Word), getBit (s.rd Reg.cadCapCtl) x.val = true →
    getBit (s.rd Reg.cadCapCtl) (3 + x.val) = e → getBit (s.rd Reg.cadCapCtl) (6 + x.val) = false →
    timeWords (captureTb s.cad.tb) = [f, n, l, h] → exec (.syncCapture x e) s =
      .next ((((((s.wr (Reg.cadCapFrac x.val) f).wr (Reg.cadCapNs x.val) n).wr (Reg.cadCapSeclo x.val) l).wr (Reg.cadCapSechi x.val) h).wr
        Reg.cadCapCtl (putBit (s.rd Reg.cadCapCtl) (6 + x.val) true)).raise (264 + x.val))) ∧
  (∀ (x : Fin 3) (e : Bool) (s : State) (f n l h : Word), getBit (s.rd Reg.cadCapCtl) x.val = true →
    getBit (s.rd Reg.cadCapCtl) (3 + x.val) = e → getBit (s.rd Reg.cadCapCtl) (6 + x.val) = true →
    timeWords (captureTb s.cad.tb) = [f, n, l, h] → exec (.syncCapture x e) s =
      .next ((((((s.wr (Reg.cadCapFrac x.val) f).wr (Reg.cadCapNs x.val) n).wr (Reg.cadCapSeclo x.val) l).wr (Reg.cadCapSechi x.val) h).wr
        Reg.cadCapCtl (putBit (putBit (s.rd Reg.cadCapCtl) (9 + x.val) true) (6 + x.val) true)).raise (264 + x.val))) ∧
  (∀ (ag : Agent) (x : Fin 3) (s : State), exec (.captureRead ag x) s =
    .next (((((((s.setSnap (Reg.cadCapNs x.val) (s.rd (Reg.cadCapNs x.val))).setSnap (Reg.cadCapSeclo x.val)
      (s.rd (Reg.cadCapSeclo x.val))).setSnap (Reg.cadCapSechi x.val) (s.rd (Reg.cadCapSechi x.val)))).setBit
        Reg.cadCapCtl (6 + x.val) false).emit (.read ag [s.rd (Reg.cadCapFrac x.val)])))) ∧
  (∀ s : State, s.bit Reg.cadCapCtl 2 = true → exec .ppsInLost s = .next ((s.setBit Reg.cadCapCtl 12 true).raise 267)) ∧
  (∀ s : State, s.cad.pps = false → s.fld Reg.cadPpsCfg 1 0 = 1 ∨ (s.fld Reg.cadPpsCfg 1 0 = 2 ∧ s.fld Reg.cadPpsCfg 7 2 < 56) →
    exec .ppsOutPulse s = .next { s with cad := { s.cad with pps := true, ppsPulses := s.cad.ppsPulses + 1 } }) ∧
  (∀ s : State, s.cad.ppsPulses ≤ 1 →
    exec .ppsOutPulseEnd s = .next { s with cad := { s.cad with pps := false, ppsPulses := 0 } }) ∧
  (∀ s : State, 1 < s.cad.ppsPulses →
    exec .ppsOutPulseEnd s = .next { s with cad := { s.cad with pps := true, ppsPulses := s.cad.ppsPulses - 1 } }) ∧
  (∀ (ag : Agent) (off : Nat) (s t : State), t = s.wideTick off → isSnapUpper off = false → exec (.snapshotRead ag off) s =
    .next (((snapUppers off).foldl (fun u o => u.setSnap o (t.wideNow o)) t).emit (.read ag [t.wideNow off]))) ∧
  (∀ (ag : Agent) (off : Nat) (s t : State), t = s.wideTick off → isSnapUpper off = true → exec (.snapshotRead ag off) s =
    .next (t.emit (.read ag [Store.get (fun _ => 0#32) t.snap off])))

/-- A fire whose instant the unit accepts (at least 160 ns ahead, no other instant pending) pends that instant: 200 ns after now for an untimed local fire; one named too
late sets MB_LATE, one against another pending instant sets MB_BUSY, and neither changes what pends.  A source whose next instant is not yet announced
passes its latch point, which announces it with the pending RWB values; the delivery of an announced boundary takes effect at its receivers. -/
def Obligations.BoundaryCommandsComplete : Prop :=
  (∀ (ag : Agent) (i : Fin 8) (ctl : Word) (s t : State), t = s.plainWrite (Reg.cadMbCtl i.val) (putBit ctl 0 true) →
    getBit (putBit ctl 0 true) 0 = true → getBit (putBit ctl 0 true) 2 = false →
    t.mbAnswer i.val (t.mbInstant i.val) = .posted → t.mb i.val = none →
    exec (.mbFire ag i ctl) s = .next (t.setMb i.val (some (t.mbInstant i.val)))) ∧
  (∀ (ag : Agent) (i : Fin 8) (ctl : Word) (s t : State), t = s.plainWrite (Reg.cadMbCtl i.val) (putBit ctl 0 true) →
    getBit (putBit ctl 0 true) 0 = true → t.mbAnswer i.val (t.mbInstant i.val) = .late →
    exec (.mbFire ag i ctl) s = .next (t.cadErr 2)) ∧
  (∀ (ag : Agent) (i : Fin 8) (ctl : Word) (s t : State), t = s.plainWrite (Reg.cadMbCtl i.val) (putBit ctl 0 true) →
    getBit (putBit ctl 0 true) 0 = true → t.mbAnswer i.val (t.mbInstant i.val) = .busy →
    exec (.mbFire ag i ctl) s = .next (t.cadErr 3)) ∧
  (∀ (src : Fin 64) (s : State) (x : Instant), s.sourceNext src.val = some x → s.announcedAt src.val x = false →
    exec (.boundaryLatch src) s = .next (s.latch src.val x)) ∧
  (∀ (src : Fin 64) (s : State) (a : Announced), s.cad.announced.find? (fun a => a.src == src.val) = some a →
    s.tapWaits src.val = false → exec (.boundaryDelivery src) s = .next (s.delivery a))

/-- In a stream that an open source delivers, read from the sync word on: the sync word, which the search finds behind `n` other words, resets the stream registers; an IDCODE that agrees with the device's in PKG, PART
and FAMILY, and in REV or with REV 0xF, identifies the stream; FORM, KEYSEL, SID, IV and BODYLEN, each
written once, with a legal value, before BODY and STAGE (IV and BODYLEN in a sealed stream), take the value written.  A NOP changes nothing.  In each case the
packet's words enter the stream's record and nothing else of the block changes, save that a source's last word ends the stream. -/
def Obligations.StreamHeaderRegistersComplete : Prop :=
  (∀ (s t : State) (src n : Nat), s.engSource = some src → s.hubOnSynth = true → s.stalled = false → s.eng.phase = .search →
    s.syncAhead src = some n → t = s.wordsTaken src (n + 1) → t.eng.phase = .search → t.eng.gang ≠ .inside → exec .syncWord s =
      .next (({ t with eng := { t.eng with phase := .packets, skip := 0, st := { seen := [0x7E96A55A#32], pos := 1 } } } : State).spentEnd src)) ∧
  (∀ (s t : State) (src : Nat), s.HandsOver t src 0#32 [] → (t.st.bodyDone = true → t.st.passed = true) →
    exec .nop s = .next (t.packetDone t src 0#32 [])) ∧
  (∀ (s t : State) (src : Nat) (v : Word), s.HandsOver t src 0x10800001#32 [v] → t.st.passed = false → t.st.idOk = false →
    getBits v 27 0 = getBits (t.rd Reg.cfgIdcode) 27 0 →
    (getBits v 31 28 = getBits (t.rd Reg.cfgIdcode) 31 28 ∨ getBits v 31 28 = 15) → exec (.writeIdcode [v]) s =
      .next (t.packetDone (t.setSt ({ t.st with idOk := true }.wrote 1)) src 0x10800001#32 [v])) ∧
  (∀ (s t : State) (src : Nat) (v : Word), s.InStream t src 0x11000001#32 [v] → t.st.has 2 = false → t.st.early = true → v.toNat < 8 →
    (getBit v 1 = true → getBit v 0 = true) → (getBit v 2 = true → getBit v 0 = false ∧ t.st.has 5 = false ∧ t.st.has 6 = false) →
    (t.st.has 3 = true → slotClash v t.st.keysel = false) → t.kindOk (getBit v 0) = true → (t.mode = 4 → t.bootSource ≤ 1 → getBit v 1 = t.boot.inPrio) → exec (.writeForm [v]) s =
      .next (t.packetDone (t.setSt ({ t.st with form := v }.wrote 2)) src 0x11000001#32 [v])) ∧
  (∀ (s t : State) (src : Nat) (v : Word), s.InStream t src 0x11800001#32 [v] → t.st.has 3 = false → t.st.early = true → v.toNat < 3 →
    (t.st.has 2 = true → slotClash t.st.form v.toNat = false) → exec (.writeKeysel [v]) s = .next (t.packetDone (t.setSt ({ t.st with keysel := v.toNat }.wrote 3)) src 0x11800001#32 [v])) ∧
  (∀ (s t : State) (src : Nat) (v : Word), s.InStream t src 0x12000001#32 [v] → t.st.has 4 = false → t.st.early = true →
    exec (.writeSid [v]) s = .next (t.packetDone (t.setSt ({ t.st with sid := v }.wrote 4)) src 0x12000001#32 [v])) ∧
  (∀ (s t : State) (src : Nat) (a b c : Word), s.InStream t src 0x12800003#32 [a, b, c] → t.st.has 5 = false → t.st.early = true → t.st.crcOnly = false →
    exec (.writeIv [a, b, c]) s =
      .next (t.packetDone (t.setSt ({ t.st with iv := [a, b, c] }.wrote 5)) src 0x12800003#32 [a, b, c])) ∧
  (∀ (s t : State) (src : Nat) (v : Word), s.InStream t src 0x13000001#32 [v] → t.st.has 6 = false → t.st.early = true → t.st.crcOnly = false →
    v.toNat ≠ 0 → v.toNat % 4 = 0 → exec (.writeBodylen [v]) s =
      .next (t.packetDone (t.setSt ({ t.st with bodylen := v.toNat }.wrote 6)) src 0x13000001#32 [v]))

/-- In an identified stream, at the place R171 gives it (in the body, or in a CRC-only stream): BOUND takes the
bay set and edge set written (in a partial stream no edge bit without its bay), GROUP the commit group, PLFLOOR a power-level floor whose fields agree,
CLKSET of a full stream appends its pairs, each in order, as register offset and value, and PLACE after STAGE takes a valid frame address.
Nothing else of the block changes, save that a source's last word ends the stream. -/
def Obligations.StreamBodyRegistersComplete : Prop :=
  (∀ (s t : State) (src : Nat) (a b c e : Word), s.InStream t src 0x13800004#32 [a, b, c, e] → t.st.has 7 = false → t.st.mid = true → t.st.staged = false →
    e.toNat < 2 ^ 16 → (t.st.full = false → ∀ k < 16, e.toNat.testBit k = true →
      (a.toNat + b.toNat * 2 ^ 32 + c.toNat * 2 ^ 64).testBit (edgeBay k) = true) → exec (.writeBound [a, b, c, e]) s =
    .next (t.packetDone (t.setSt ({ t.st with begun := true, edge := e.toNat,
                                              bays := a.toNat + b.toNat * 2 ^ 32 + c.toNat * 2 ^ 64 }.wrote 7)) src 0x13800004#32 [a, b, c, e])) ∧
  (∀ (s t : State) (src : Nat) (v : Word), s.InStream t src 0x14000001#32 [v] → t.st.has 8 = false → t.st.mid = true → t.st.staged = false →
    v.toNat < 8 → exec (.writeGroup [v]) s =
    .next (t.packetDone (t.setSt ({ t.st with group := v.toNat, begun := true }.wrote 8)) src 0x14000001#32 [v])) ∧
  (∀ (s t : State) (src : Nat) (v : Word), s.InStream t src 0x14800001#32 [v] → t.st.has 9 = false → t.st.mid = true → t.st.staged = false →
    getBits v 7 6 = 0 → getBits v 31 20 = 0 → getBits v 5 3 ≤ getBits v 2 0 → (getBits v 19 8 = 0 → getBits v 5 3 = 0) →
    exec (.writePlfloor [v]) s =
    .next (t.packetDone (t.setSt ({ t.st with floor := v, begun := true }.wrote 9)) src 0x14800001#32 [v])) ∧
  (∀ (s t : State) (src : Nat) (ws : List Word), s.InStream t src (writeHdr 10 ws.length false) ws → t.st.full = true → t.st.mid = true →
    t.st.staged = false → 2 ≤ ws.length → ws.length ≤ 1024 → ws.length % 2 = 0 → (∀ p ∈ pairsOf ws, t.clksetOk p = true) →
    exec (.writeClkset ws) s = .next (t.packetDone (t.setSt (
      { t.st with begun := true, clkset := t.st.clkset ++ (pairsOf ws).map (fun (p : Word × Word) => (0x50000 + getBits p.1 15 0, p.2)) }.wrote 10))
      src (writeHdr 10 ws.length false) ws)) ∧
  (∀ (s t : State) (src : Nat) (v : Word), s.InStream t src 0x16000001#32 [v] → t.st.mid = true → t.st.staged = true → placeBad v = false →
    exec (.writePlace [v]) s =
    .next (t.packetDone (t.setSt { t.st with place := v, past := false }) src 0x16000001#32 [v]))

/-- In an identified stream: STEP NONE changes nothing, and a value that is no step is BAD_VALUE; STAGE that meets no error is accepted; FINISH of a staged stream, whose parts in a full image cover the
device exactly, finishes it; ABORT ends the stream with ABORTED and PLACE; BODY of a sealed stream with IV, BODYLEN and a key opens
the body; a SEAL that equals the tag, after the body of a finished stream, and a CRCV that equals the CRC of the words so far, in a finished CRC-only stream, pass the check; END after the
check returns the engine to its search for sync.  A SECTION that selects the device opens it, the words of another are passed over.  The end of the STAGE clear lets the stream go on, and the
end of a source ends the stream once its words are taken (an image's end, once no whole packet is left).  A header that is in error ends the stream with that error.  Words of an unopened source set
UNOPENED.  When the taps are locked the lock wait of each part ends. -/
def Obligations.StreamStepsComplete : Prop :=
  (∀ (s t : State) (src : Nat), s.InStream t src 0x15800001#32 [0#32] → t.st.finished = false →
    exec (.stepNone 0#32) s = .next (t.packetDone t src 0x15800001#32 [0#32])) ∧
  (∀ (s t : State) (src : Nat) (v : Word), s.InStream t src 0x15800001#32 [v] → t.st.finished = false → 3 < v.toNat →
    exec (.stepNone v) s = .next ((t.streamError src 0x15800001#32 t.st.pos { code := 5 }).spentEnd src)) ∧
  (∀ (s t : State) (src : Nat), s.InStream t src 0x15800001#32 [1#32] → t.stageErr src = none → t.pnt.reload = none →
    exec .stepStage s = .next (t.packetDone (t.stageAccept src) src 0x15800001#32 [1#32])) ∧
  (∀ (s t : State) (src : Nat), s.InStream t src 0x15800001#32 [2#32] → t.st.mid = true → t.st.staged = true →
    (t.st.full = true → t.st.prio = false → t.boot.prioBound &&& t.st.bays = 0 ∧ t.boot.prioEdge &&& t.st.edge = 0 ∧
      t.boot.prioBound ||| t.st.bays = 2 ^ 96 - 1 ∧ t.boot.prioEdge ||| t.st.edge = 2 ^ 16 - 1) →
    exec .stepFinish s = .next (t.packetDone (t.setSt { t.st with finished := true }) src 0x15800001#32 [2#32])) ∧
  (∀ (s t : State) (src : Nat), s.InStream t src 0x15800001#32 [3#32] → exec .stepAbort s =
    .next ((t.streamError src 0x15800001#32 t.st.pos { code := 0x19, place := t.st.place }).spentEnd src)) ∧
  (∀ s : State, s.st.stall = true → exec .stageClearDone s = .next (s.setSt { s.st with stall := false }).engineResume) ∧
  (∀ (s t : State) (src : Nat), s.InStream t src 0x60000000#32 [] → t.st.early = true → t.st.crcOnly = false → t.st.has 5 = true → t.st.has 6 = true →
    t.kindOk t.st.full = true → (t.streamKey t.st.keysel).isSome = true →
    exec .body s = .next (t.packetDone (t.setSt { t.st with inBody := true }) src 0x60000000#32 [])) ∧
  (∀ (s t : State) (src : Nat) (a b c d : Word), s.HandsOver t src 0x17000004#32 [a, b, c, d] → t.st.idOk = true → t.st.passed = false → t.st.bodyDone = true →
    t.st.finished = true → (streamBytes [a, b, c, d]).map BitVec.toNat = t.sealTag →
    exec (.writeSeal [a, b, c, d]) s = .next (t.packetDone (t.checkPassed src) src 0x17000004#32 [a, b, c, d])) ∧
  (∀ (s t : State) (src : Nat) (v : Word), s.InStream t src 0x17800001#32 [v] → t.st.crcOnly = true → t.st.finished = true →
    v.toNat = crc32 (streamBytes (0x17800001#32 :: t.st.seen).reverse) →
    exec (.writeCrcv [v]) s = .next (t.packetDone (t.checkPassed src) src 0x17800001#32 [v])) ∧
  (∀ (s t : State) (src : Nat), s.HandsOver t src 0xF0000000#32 [] → t.st.passed = true →
    exec .endPacket s = .next (({ t with eng := { t.eng with phase := .search } } : State).spentEnd src)) ∧
  (∀ (s t : State) (src : Nat) (sel len : Word), s.HandsOver t src 0x70000002#32 [sel, len] → t.st.passed = false → t.st.idOk = false → t.st.pos = 1 →
    getBits sel 30 26 = 0 → t.selected sel = true → exec (.sectionPacket sel len) s =
    .next (({ t with eng := { t.eng with gang := .inside, left := len.toNat, phase := .search, st := {} } } : State).spentEnd src)) ∧
  (∀ (s t : State) (src : Nat) (sel len : Word), s.HandsOver t src 0x70000002#32 [sel, len] → t.st.passed = false → t.st.idOk = false → t.st.pos = 1 →
    getBits sel 30 26 = 0 → t.selected sel = false → exec (.sectionPacket sel len) s =
    .next (t.packetDone { t with eng := { t.eng with gang := .between, skip := len.toNat } } src 0x70000002#32 [sel, len])) ∧
  (∀ (s t : State) (src c : Nat) (h : Word), s.HandsOver t src h [] → headerErr src h = some c → exec (.packetBadHeader h) s =
    .next ((t.streamError src h t.st.pos { code := c }).spentEnd src)) ∧
  (∀ (s : State) (src : Nat), s.engSource = some src → s.hubOnSynth = true → s.stalled = false → 2 ≤ src →
    exec .streamSourceEnd s = .next ((s.sourceEnded src).spentEnd src)) ∧
  (∀ (s : State) (src : Nat), s.engSource = some src → s.hubOnSynth = true → s.stalled = false → src < 2 → s.feedBarren src = true →
    exec .streamSourceEnd s = .next (({ s with eng := { s.eng with feedLeft := 0 } } : State).spentEnd src)) ∧
  (∀ s : State, s.mode = 6 ∨ s.mode = 7 ∨ s.mode = 8 → exec .unopenedSourceWords s = .next (s.setBit Reg.cfgStgstat 16 true)) ∧
  (∀ (s : State) (j : PartJob), s.boot.mainJob = some j → s.boot.prioJob = none → j.locking = true → s.tapsLocked = true →
    exec .clksetLockWaitEnd s = .next (s.setBoot { s.boot with mainJob := some { j with locking := false } }))

/-- Between STAGE and FINISH, where no frame meets an error: FRAMES writes the frames its words hold, ZERO COUNT zero
frames, REPEAT COUNT copies of the last frame data, and PATCH one copy of it with words replaced in order, each from PLACE on.  From a host port or the Inner Port, outside
any body and where policy permits readback, a READ of FRAMES, PLACE or STAT returns its words on the return path. -/
def Obligations.StreamFramesComplete : Prop :=
  (∀ (s t : State) (src k : Nat) (dyn : Bool) (ws : List Word), s.InStream t src (writeHdr 13 ws.length dyn) ws → t.st.mid = true → t.st.staged = true →
    ws.length = 320 * k → 1 ≤ k → k ≤ 3276 → (t.writeFrames (writeHdr 13 ws.length dyn) t.st.pos (framesOfWords k ws)).2 = none → exec (.writeFrames dyn ws) s =
    .next (t.packetDone (t.writeFrames (writeHdr 13 ws.length dyn) t.st.pos (framesOfWords k ws)).1 src (writeHdr 13 ws.length dyn) ws)) ∧
  (∀ (s t : State) (src : Nat) (dyn : Bool) (n : BitVec 20), s.InStream t src (opHdr 3 n.toNat dyn) [] → t.st.mid = true → t.st.staged = true →
    n.toNat ≠ 0 → (t.writeFrames (opHdr 3 n.toNat dyn) t.st.pos (List.replicate n.toNat 0)).2 = none → exec (.zero dyn n) s =
    .next (t.packetDone (t.writeFrames (opHdr 3 n.toNat dyn) t.st.pos (List.replicate n.toNat 0)).1 src (opHdr 3 n.toNat dyn) [])) ∧
  (∀ (s t : State) (src : Nat) (dyn : Bool) (n : BitVec 20) (f : BitVec 10240), s.InStream t src (opHdr 4 n.toNat dyn) [] → t.st.mid = true →
    t.st.staged = true → t.st.last = some f → n.toNat ≠ 0 → (t.writeFrames (opHdr 4 n.toNat dyn) t.st.pos (List.replicate n.toNat f)).2 = none →
    exec (.repeatPacket dyn n) s =
    .next (t.packetDone (t.writeFrames (opHdr 4 n.toNat dyn) t.st.pos (List.replicate n.toNat f)).1 src (opHdr 4 n.toNat dyn) [])) ∧
  (∀ (s t : State) (src : Nat) (dyn : Bool) (ps : List (Word × Word)) (f g : BitVec 10240), s.InStream t src (opHdr 5 ps.length dyn) (ps.flatMap (fun p => [p.1, p.2])) →
    t.st.mid = true → t.st.staged = true → t.st.last = some f → ps ≠ [] → ps.length < 2 ^ 20 → (∀ p ∈ ps, p.1.toNat < 320) →
    g = ps.foldl (fun f p => patchWord f p.1.toNat p.2) f → (t.writeFrames (opHdr 5 ps.length dyn) t.st.pos [g]).2 = none → exec (.patch dyn ps) s =
    .next (t.packetDone (t.writeFrames (opHdr 5 ps.length dyn) t.st.pos [g]).1 src (opHdr 5 ps.length dyn) (ps.flatMap (fun p => [p.1, p.2])))) ∧
  (∀ (s t u : State) (src k : Nat) (n : BitVec 20) (ws : List Word), s.InStream t src (readHdr 13 n.toNat) [] → src = 2 ∨ src = 3 ∨ src = 5 →
    t.st.inBody = false → t.st.finished = false → t.readbackOk = true → n.toNat = 320 * k → 1 ≤ k →
    t.readFrames [] k = (u, ws, none) → exec (.readFrames n) s =
    .next (t.packetDone (u.returnWords src ws) src (readHdr 13 n.toNat) [])) ∧
  (∀ (s t : State) (src : Nat), s.InStream t src 0x26000001#32 [] → src = 2 ∨ src = 3 ∨ src = 5 → t.st.inBody = false →
    t.st.finished = false → t.readbackOk = true → exec .readPlace s =
    .next (t.packetDone (t.returnWords src [t.st.place]) src 0x26000001#32 [])) ∧
  (∀ (s t : State) (src : Nat), s.InStream t src 0x28000001#32 [] → src = 2 ∨ src = 3 ∨ src = 5 → t.st.inBody = false →
    t.st.finished = false → t.readbackOk = true → exec .readStat s =
    .next (t.packetDone (t.returnWords src [t.st.stat]) src 0x28000001#32 []))

/-- Where the agent holds the register's semaphore: a new source code opens that source (the flash source suspends the flash operation and
reads the CFG_PFLASH_LEN bytes from CFG_PFLASH_ADDR, leaving it resumes the operation); an idle group with members arms for a commit, one with a LAST whose units are all PREVIOUS and no members for a revert, WAIT cleared;
DISARM and DISCARD of a group that is not COMMITTING disarm it with DISARMED or empty it with DISCARDED.  An armed group's deadline disarms it with DEADLINE.  A
staged-verify pass that finds every frame matching makes the units STAGED, one that finds a mismatch makes them INVALID, and a
revert's verify disarms its group only on a mismatch; the release of a set that has flipped ends its commit. -/
def Obligations.CommitGroupCommandsComplete : Prop :=
  (∀ (ag : Agent) (c : Fin 8) (s : State), s.mayWrite ag Reg.cfgPsrc = true → c.val ≠ 0 → c.val ≠ 1 → c.val ≠ 6 →
    c.val ≠ s.fld Reg.cfgPsrc 2 0 → s.reloadReads = false → s.eng.arrived = false → s.fld Reg.cfgPsrc 2 0 ≠ 0 →
    exec (.psrcOpen ag c) s = .next (s.setFld Reg.cfgPsrc 2 0 c.val).engineIdle) ∧
  (∀ (ag : Agent) (s t : State), t = (s.setFld Reg.cfgPsrc 2 0 0).engineIdle → s.mayWrite ag Reg.cfgPsrc = true → s.fld Reg.cfgPsrc 2 0 ≠ 0 → s.reloadReads = false →
    s.eng.arrived = false → exec (.psrcOpen ag 0) s =
    .next (((t.feed (t.fld Reg.cfgPflashAddr 29 0 / 4 * 4) (t.fld Reg.cfgPflashLen 29 0 / 4)).flashSuspend true).spentEnd 0)) ∧
  (∀ (ag : Agent) (c : Fin 8) (s : State), s.mayWrite ag Reg.cfgPsrc = true → c.val ≠ 0 → c.val ≠ 1 → c.val ≠ 6 →
    s.reloadReads = false → s.eng.arrived = false → s.fld Reg.cfgPsrc 2 0 = 0 →
    exec (.psrcOpen ag c) s = .next (((s.setFld Reg.cfgPsrc 2 0 c.val).engineIdle.flashResume true).journalFlush)) ∧
  (∀ (ag : Agent) (g : Fin 8) (s t : State), t = s.plainWrite (Reg.cgCtl g.val) 1#32 → s.mayWrite ag (Reg.cgCtl g.val) = true →
    t.cgState g.val = 0 → t.cgBays g.val ≠ 0 ∨ t.cgEdgeSet g.val ≠ 0 → exec (.cgArmCommit ag g) s =
    .next (t.wr (Reg.cgStat g.val) (putBits (putBit (putBits (t.rd (Reg.cgStat g.val)) 1 0 1) 2 false) 6 4 0)).stageRefresh) ∧
  (∀ (ag : Agent) (g : Fin 8) (s t u : State), t = s.plainWrite (Reg.cgCtl g.val) 3#32 → s.mayWrite ag (Reg.cgCtl g.val) = true →
    t.cgState g.val = 0 → t.cgBays g.val = 0 → t.cgEdgeSet g.val = 0 → t.lastUnits g.val ≠ [] →
    (∀ x ∈ t.lastUnits g.val, t.shState x = 4) →
    u = t.wr (Reg.cgStat g.val) (putBits (putBit (putBits (t.rd (Reg.cgStat g.val)) 1 0 1) 2 true) 6 4 0) →
    exec (.cgArmRevert ag g) s = .next ({ u with eng := { u.eng with revVerify := g.val :: u.eng.revVerify } } : State).stageRefresh) ∧
  (∀ (ag : Agent) (g : Fin 8) (m : Bool) (s t : State), t = s.plainWrite (Reg.cgCtl g.val) (BitVec.ofNat 32 (4 + 2 * m.toNat)) →
    s.mayWrite ag (Reg.cgCtl g.val) = true → t.cgState g.val ≠ 2 →
    exec (.cgDisarm ag g m) s = .next ((t.cgDisarm g.val).cgResult g.val 4)) ∧
  (∀ (ag : Agent) (g : Fin 8) (m : Bool) (s t u : State), t = s.plainWrite (Reg.cgCtl g.val) (BitVec.ofNat 32 (8 + 2 * m.toNat)) →
    s.mayWrite ag (Reg.cgCtl g.val) = true → t.cgState g.val ≠ 2 →
    u = (((((t.abortInto g.val).cgDisarm g.val).setUnits (t.cgUnits g.val) 5).wr (Reg.cgMask0 g.val) 0).wr (Reg.cgMask1 g.val) 0).wr
      (Reg.cgMask2 g.val) 0 →
    exec (.cgDiscard ag g m) s = .next ((u.setFld (Reg.cgEdge g.val) 15 0 0).cgResult g.val 5).stageRefresh) ∧
  (∀ (g : Fin 8) (s : State), s.cgState g.val = 1 → s.fld (Reg.cgDeadline g.val) 23 0 ≠ 0 →
    exec (.cgDeadlineExpiry g) s = .next ((s.cgDisarm g.val).cgResult g.val 3)) ∧
  (∀ (g : Fin 9) (s : State) (c : Commit), s.eng.commits.find? (fun c => c.group == g.val && c.flipped) = some c → g.val < 8 →
    exec (.commitRelease g) s = .next (s.groupRelease c)) ∧
  (∀ (s : State) (c : Commit), s.eng.commits.find? (fun c => c.group == 8 && c.flipped) = some c →
    exec (.commitRelease 8) s = .next (s.reloadRelease c)) ∧
  (∀ (us : List (Word × Fin 10240)) (es : List (Word × Fin 4)) (s t : State) (j : VerifyJob), s.eng.verify = some j → t = s.passRead j.bays j.edge us es →
    t.firstMismatch (unitsOf j.bays j.edge) false = none → exec (.stagedVerifyEnd ⟨us, es⟩) s = .next (t.verifyPass j)) ∧
  (∀ (us : List (Word × Fin 10240)) (es : List (Word × Fin 4)) (s t : State) (j : VerifyJob) (k : Nat), s.eng.verify = some j → t = s.passRead j.bays j.edge us es →
    t.firstMismatch (unitsOf j.bays j.edge) false = some k → exec (.stagedVerifyEnd ⟨us, es⟩) s = .next (t.verifyFail j k)) ∧
  (∀ (g : Fin 8) (us : List (Word × Fin 10240)) (es : List (Word × Fin 4)) (s t : State), s.eng.revVerify.contains g.val = true →
    t = s.passRead (s.cgLast g.val) (s.cgLastEdge g.val) us es → (∀ u ∈ t.lastUnits g.val, t.firstMismatch [u] true = none) →
    exec (.revertVerifyEnd g ⟨us, es⟩) s = .next { t with eng := { t.eng with revVerify := t.eng.revVerify.filter (· != g.val) } })

/-- Where the agent holds the register's semaphore: a CFG_DWPLACE write clears ERR and starts a frame; a data word short of
the 320th joins the frame, the 320th of a frame that meets no refusal puts the frame into the buffer, one refused records its code with EV181, and a word after it is refused
with 7 and EV181; APPLY queues the buffer for the boundary BSEL names, CLRBUF empties it; the end of an apply empties the buffer, clears APPLY and raises EV181.  ISO and PISO
set ISO_STAT of a panel. -/
def Obligations.DirectWritesAndPanelsComplete : Prop :=
  (∀ (ag : Agent) (p : Word) (s : State), s.mayWrite ag Reg.cfgDwplace = true → exec (.dwPlaceWrite ag p) s =
    .next (((s.plainWrite Reg.cfgDwplace p).setFld Reg.cfgDwstat 3 0 0).setDw { s.eng.dw with place := p, words := [], full := false })) ∧
  (∀ (ag : Agent) (w : Word) (s : State), s.mayWrite ag Reg.cfgDwdata = true → s.eng.dw.full = false → s.eng.dw.words.length < 319 →
    exec (.dwDataWrite ag w) s = .next (s.setDw { s.eng.dw with words := w :: s.eng.dw.words })) ∧
  (∀ (ag : Agent) (w : Word) (s : State) (f : BitVec 10240), s.mayWrite ag Reg.cfgDwdata = true → s.eng.dw.full = false →
    s.eng.dw.words.length = 319 → f = frameOfWords (w :: s.eng.dw.words).reverse → s.dwRefusal s.eng.dw.place f = none →
    exec (.dwDataWrite ag w) s =
    .next (s.setDw { s.eng.dw with words := [], full := true, buf := s.eng.dw.buf ++ [(s.eng.dw.place, f)] })) ∧
  (∀ (ag : Agent) (w : Word) (s : State) (c : Nat), s.mayWrite ag Reg.cfgDwdata = true → s.eng.dw.full = false →
    s.eng.dw.words.length = 319 → s.dwRefusal s.eng.dw.place (frameOfWords (w :: s.eng.dw.words).reverse) = some c →
    exec (.dwDataWrite ag w) s =
    .next (((s.setDw { s.eng.dw with words := [], full := true }).setFld Reg.cfgDwstat 3 0 c).raise 181)) ∧
  (∀ (ag : Agent) (w : Word) (s : State), s.mayWrite ag Reg.cfgDwdata = true → s.eng.dw.full = true →
    exec (.dwDataWrite ag w) s = .next ((s.setFld Reg.cfgDwstat 3 0 7).raise 181)) ∧
  (∀ (ag : Agent) (b : Fin 64) (s : State), s.mayWrite ag Reg.cfgDwctl = true → s.eng.dw.phase = .none →
    exec (.dwApply ag b) s = .next (((s.plainWrite Reg.cfgDwctl (BitVec.ofNat 32 (2 ^ 8 + b.val))).setBit Reg.cfgDwctl 8 true).setDw
      { s.eng.dw with phase := .queued, src := b.val })) ∧
  (∀ (ag : Agent) (b : Fin 64) (s : State), s.mayWrite ag Reg.cfgDwctl = true → s.eng.dw.phase = .none →
    exec (.dwClearBuffer ag b) s = .next ((s.plainWrite Reg.cfgDwctl (BitVec.ofNat 32 (2 ^ 9 + b.val))).setDw { s.eng.dw with buf := [] })) ∧
  (∀ s : State, s.eng.dw.phase = .writing →
    exec .dwApplyEnd s = .next (((s.setDw { s.eng.dw with phase := .none, buf := [] }).setBit Reg.cfgDwctl 8 false).raise 181)) ∧
  (∀ (ag : Agent) (g : Fin 8) (v : Word) (s : State), s.mayWrite ag (Reg.cgPctl g.val) = true →
    exec (.panelIsoWrite ag g v) s = .next ((s.plainWrite (Reg.cgPctl g.val) v).isoRefresh g.val)) ∧
  (∀ (g : Fin 8) (l : Bool) (s : State), exec (.pisoChange g l) s =
    .next (({ s with eng := { s.eng with piso := Store.set (fun _ => false) s.eng.piso g.val l } } : State).isoRefresh g.val))

/-- While the pass runs and its wythe has no write-back pending: a frame that matches its check word changes nothing but
the position; a single-bit error begins a write-back of that bit; a multi-bit error has its effects; where no frame is left the pass ends.  A
frame whose check-table entry is lost takes a new check word, with a log entry and EV199.  A write-back that leaves the frame right is
logged and counted, with EV192; one that leaves it wrong is a multi-bit error.  RESTART returns both wythes to frame 0, a log pop removes the
head entry, the keyed write of PNT_HOLDCLR releases a held bay and gives up the reload that waits for it, and a reload opens its slot, fires its boundary, or fails on its wait. -/
def Obligations.BackgroundPassCommandsComplete : Prop :=
  (∀ (w : Fin 2) (us : List (Fin 10240)) (e : Fin 4) (s t u v x : State) (l k : Nat), s.pntRuns = true → s.writeBack w.val = none →
    s.passFrame w.val = some (l, k) → t = (s.upsetFrame l k us).passNext w.val → u = t.entryRead l k e → v = t.setBit Reg.pntStat 3 true →
    x = v.setChk l k (frameCheck k (t.dynIn l k) (t.frameIn l k)) →
    (e ≠ 2 → u.classify l k = .clean → exec (.pntFrameRead w us e) s = .next u) ∧
    (∀ b, e ≠ 2 → u.classify l k = .single b → exec (.pntFrameRead w us e) s =
      .next { u with pnt := { u.pnt with writeBack := Store.insert u.pnt.writeBack w.val (latchKey l k, b, u.logTime) } }) ∧
    (e ≠ 2 → u.classify l k = .multi → exec (.pntFrameRead w us e) s = .next (u.multiBit l k)) ∧
    (exec (.pntFrameRead w us 2) s = .next ((x.logFrame l k 0 2 0 x.logTime).raise 199))) ∧
  (∀ (w : Fin 2) (us : List (Fin 10240)) (e : Fin 4) (s : State), s.pntRuns = true → s.writeBack w.val = none →
    s.passFrame w.val = none → exec (.pntFrameRead w us e) s = .next (s.passEnd w.val)) ∧
  (∀ (w : Fin 2) (us : List (Fin 10240)) (e : Fin 4) (s t u : State) (n b l k : Nat) (at_ : Word), s.writeBack w.val = some (n, b, at_) →
    l = n / 2 ^ 21 → k = n % 2 ^ 21 → t = { s with pnt := { s.pnt with writeBack := Store.erase s.pnt.writeBack w.val } } →
    u = ((t.setFrame l k (flipBit (t.frameIn l k) b)).upsetFrame l k us).entryRead l k e →
    (u.frameMatches l k = true → exec (.pntSbeWriteBackDone w ⟨us, e⟩) s =
      .next (((u.logFrame l k b 0 0 at_).bumpSat Reg.pntSbecnt).raise 192)) ∧
    (u.frameMatches l k = false → exec (.pntSbeWriteBackDone w ⟨us, e⟩) s = .next (u.multiBit l k))) ∧
  (∀ (ag : Agent) (en sh : Bool) (s t : State), s.mayWrite ag Reg.pntCtl = true →
    t = s.plainWrite Reg.pntCtl (BitVec.ofNat 32 (4 + 2 * sh.toNat + en.toNat)) → exec (.pntRestart ag en sh) s =
    .next ((({ t with pnt := { t.pnt with shadowPos := [] } } : State).wr (Reg.pntPos 0) 0).wr (Reg.pntPos 1) 0)) ∧
  (∀ (ag : Agent) (v : Word) (s t : State), s.mayWrite ag Reg.pntHoldclr = true → getBits v 31 16 = 0x3C5A → getBits v 6 0 < 96 →
    s.held (getBits v 6 0) = true → t = s.releaseUnits [getBits v 6 0] → exec (.pntHoldClear ag v) s =
    .next (({ t with pnt := { t.pnt with wants := t.pnt.wants &&& (2 ^ 96 - 1 - 2 ^ getBits v 6 0) } } : State).reloadUnheld [getBits v 6 0])) ∧
  (∀ (ag : Agent) (s : State), s.mayWrite ag Reg.pntLogPop = true →
    exec (.pntLogPop ag) s = .next ({ s with pnt := { s.pnt with log := s.pnt.log.drop 1 } } : State).logShow) ∧
  (∀ (s t : State) (r : Reload), s.pnt.reload = some r → r.step = .waiting → s.bit Reg.cfgStgstat 15 = false →
    s.fld Reg.cfgPsrc 2 0 = 7 → s.mode = 6 ∨ s.mode = 7 ∨ s.mode = 8 → s.fld (Reg.pntRlLen (s.baySlot r.bay)) 29 0 ≠ 0 →
    t = (((s.setFld Reg.cfgPsrc 2 0 0).engineIdle).feed (s.fld (Reg.pntRlAddr (s.baySlot r.bay)) 29 0 / 4 * 4)
      (s.fld (Reg.pntRlLen (s.baySlot r.bay)) 29 0 / 4)).flashSuspend true → exec .pntReloadOpen s =
    .next ({ t with pnt := { t.pnt with reload := some { r with step := .reading } } } : State).stageRefresh) ∧
  (∀ s : State, s.pnt.fire = true → s.fld Reg.pntCfg 21 16 ≤ 7 →
    s.mbAnswer (s.fld Reg.pntCfg 21 16) (s.now.addNs 200) = .posted → exec .pntReloadFire s =
    .next (({ s with pnt := { s.pnt with fire := false } } : State).mbPost (s.fld Reg.pntCfg 21 16) (s.now.addNs 200))) ∧
  (∀ (s : State) (r : Reload), s.pnt.reload = some r → r.step ≠ .committing →
    exec .pntReloadWaitExpiry s = .next (s.reloadFail 0x30))

/-- From the agent that holds semaphore 1: the two unlock cycles at their offsets, in order, before a command and again before an erase's confirm; a word or line
program command opens its data cycles; a 64-bit data cycle, or two 32-bit halves, at the next address fills the program, whose last word starts it unless it is refused; erase
setup names its sector, and the confirm there starts the erase unless the sector is protected or bad; suspend asks while an operation runs, resume lets go;
status read, info entry and return to read set the two modes. -/
def Obligations.FlashCommandCyclesComplete : Prop :=
  (∀ (ag : Agent) (s : State), s.flashServes ag = true → s.holds ag 1 = true →
    (s.flash.seq = .idle → s.flashBusy = false → exec (.flashUnlockFirst ag unlockOff1) s = .next (s.setSeq .unlock1)) ∧
    (∀ sec, s.flash.seq = .eraseSetup sec → exec (.flashUnlockFirst ag unlockOff1) s = .next (s.setSeq (.eraseUnlock1 sec))) ∧
    (s.flash.seq = .unlock1 → s.flashBusy = false → exec (.flashUnlockSecond ag unlockOff2) s = .next (s.setSeq .unlocked)) ∧
    (∀ sec, s.flash.seq = .eraseUnlock1 sec → exec (.flashUnlockSecond ag unlockOff2) s = .next (s.setSeq (.eraseUnlocked sec)))) ∧
  (∀ (ag : Agent) (s : State) (off a : Nat), s.flashServes ag = true → s.holds ag 1 = true → s.flash.seq = .unlocked → off % 8 = 0 → s.cycleAddr off = some a →
    (s.flashBusy = false → exec (.flashInfoEntryCmd ag off) s = .next ((s.setSeq .idle).wr Reg.flcStat (putBit (putBit (s.rd Reg.flcStat) 7 false) 8 true))) ∧
    (s.flashOpBusy = false → exec (.flashProgramWordCmd ag off) s = .next (s.setSeq (.data false a [] none)) ∧
      (a % 256 = 0 → exec (.flashProgramLineCmd ag off) s = .next (s.setSeq (.data true a [] none))) ∧
      exec (.flashEraseSetup ag off) s = .next (s.setSeq (.eraseSetup (sectorOf a))))) ∧
  (∀ (ag : Agent) (s : State) (off a : Nat) (line : Bool) (ws : List (BitVec 64)) (v : BitVec 64), s.flashServes ag = true → s.holds ag 1 = true →
    s.flash.seq = .data line a ws none → s.cycleAddr off = some (a + 8 * ws.length) →
    (ws.length + 1 ≠ (if line then 32 else 1) → exec (.flashDataCycle ag off true v) s = .next (s.setSeq (.data line a (ws ++ [v]) none))) ∧
    (ws.length + 1 = (if line then 32 else 1) → s.programRefusal a (ws ++ [v]) = none → exec (.flashDataCycle ag off true v) s =
      .next ((s.setSeq .idle).flashStart { kind := if line then 2 else 1, sector := sectorOf a, addr := a, words := ws ++ [v],
                                           stage := .program, attempts := 0, logWord := 0, pulses := 0 })) ∧
    exec (.flashDataCycle ag off false v) s = .next (s.setSeq (.data line a ws (some (v.truncate 32))))) ∧
  (∀ (ag : Agent) (s : State) (off a : Nat) (lo : Word) (v : BitVec 64), s.flashServes ag = true → s.holds ag 1 = true →
    s.flash.seq = .data false a [] (some lo) → s.cycleAddr off = some (a + 4) → s.programRefusal a [(v.truncate 32) ++ lo] = none →
    exec (.flashDataCycle ag off false v) s =
      .next ((s.setSeq .idle).flashStart { kind := 1, sector := sectorOf a, addr := a, words := [(v.truncate 32) ++ lo],
                                           stage := .program, attempts := 0, logWord := 0, pulses := 0 })) ∧
  (∀ (ag : Agent) (s : State) (off sec : Nat), s.flashServes ag = true → s.holds ag 1 = true → s.flash.seq = .eraseUnlocked sec → off % 8 = 0 →
    (s.cycleAddr off).map sectorOf = some sec → s.flashProtected sec = false → (s.flash.entry sec).bad = false →
    exec (.flashEraseConfirm ag off) s = .next ((s.setSeq .idle).flashStart
      { kind := eraseKind sec, sector := sec, addr := (sectorSpan sec).1, words := [],
        stage := if s.flash.nextLog < 8192 then .intent else .compactThenIntent, attempts := 0, logWord := 0, pulses := 0 })) ∧
  (∀ (ag : Agent) (s : State) (off : Nat), s.flashServes ag = true → s.holds ag 1 = true → s.flash.seq = .idle → off % 8 = 0 → (s.infoMode = true → off < 0x100000) →
    (s.flashOpBusy = true → s.flashSuspended = false →
      exec (.flashSuspendCmd ag off) s = .next { s with flash := { s.flash with reqFw := true } }) ∧
    (s.flashOpBusy = true → s.flashSuspended = true → exec (.flashSuspendCmd ag off) s = .next (s.setBit Reg.flcStat 4 true)) ∧
    (s.bit Reg.flcStat 4 = true → exec (.flashResumeCmd ag off) s = .next (s.setBit Reg.flcStat 4 false)) ∧
    exec (.flashReadStatusCmd ag off) s = .next (s.wr Reg.flcStat (putBit (putBit (s.rd Reg.flcStat) 7 true) 8 false)) ∧
    exec (.flashReturnToRead ag off) s = .next (s.wr Reg.flcStat (putBit (putBit (s.rd Reg.flcStat) 7 false) 8 false)))

/-- A pending suspend takes effect: the sources are shown, both counts rise (saturating), and the operation stays.  A program that passes within its limit of pulses writes its words, ends, records itself and raises
EV200; one at its limit leaves its words spoiled and fails.  An intent programmed at once is followed by the erase; a compaction by the
intent; an erase that passes within 500 pulses completes its log word, erases the sector, counts and raises EV200.  A
read of an idle array returns its word, a host's read of the busy one all ones with EV205. -/
def Obligations.FlashOperationsEnd : Prop :=
  (∀ s t : State, s.flashBusy = true → s.flash.reqFw = true ∨ s.flash.reqEng = true →
    s.fld Reg.flcSuspcnt 15 0 + 1 < max 1 (s.fld Reg.flcCfg 15 0) → s.fld Reg.flcSuspcnt 15 0 < 0xFFFF →
    t = s.wr Reg.flcStat (putBit (putBit (s.rd Reg.flcStat) 4 s.flash.reqFw) 5 s.flash.reqEng) → exec .flashSuspendEffect s =
    .next (({ t with flash := { t.flash with reqFw := false, reqEng := false } } : State).wr Reg.flcSuspcnt
      (BitVec.ofNat 32 (s.fld Reg.flcSuspcnt 15 0 + 1 + min 0xFFFF (s.fld Reg.flcSuspcnt 31 16 + 1) * 2 ^ 16)))) ∧
  (∀ (n : Nat) (s : State) (op : FlashOp) (f : FlashState), s.flash.op = some op → op.stage = .program → s.flashSuspended = false →
    n ≤ pulseLimit op.kind →
    f = (op.words.foldl (fun (p : FlashState × Nat) w => (p.1.program p.2 s.freeCtr w, p.2 + 8)) (s.flash, op.addr)).1 →
    exec (.flashProgramDone n true) s = .next (((((s.withFlash f).flashEnd).lastOp op n false).wearReport op n).raise 200)) ∧
  (∀ (n : Nat) (pass : Bool) (s : State) (op o : FlashOp) (f : FlashState), s.flash.op = some op → op.stage = .program → s.flashSuspended = false →
    pass = false ∨ pulseLimit op.kind < n →
    f = (op.words.foldl (fun (p : FlashState × Nat) w =>
      (if w = BitVec.allOnes 64 then p.1 else p.1.spoilWord p.2 s.freeCtr, p.2 + 8)) (s.flash, op.addr)).1 →
    o = { op with pulses := pulseLimit op.kind } →
    exec (.flashProgramDone n pass) s = .next (((s.withFlash f).wearReport o (pulseLimit op.kind)).failOp o)) ∧
  (∀ (s t : State) (op : FlashOp), s.flash.op = some op → op.stage = .intent → s.flashSuspended = false → op.attempts < 8 →
    s.flash.nextLog < 8192 → t = s.logProgram (logIntent (op.sector % 4096) (if op.sector < 4096 then 4 else 5)
      (min 0xFFFF ((s.flash.entry op.sector).erases + 1))) →
    exec (.flashIntentRecorded 0) s =
      .next { t with flash := { t.flash with op := some { op with stage := .erase, logWord := s.flash.nextLog } } }) ∧
  (∀ (s : State) (op : FlashOp), s.flash.op = some op → op.stage = .compactThenIntent → s.flashSuspended = false →
    exec .flashCompactionDone s = .next (s.compact.opStage op .intent)) ∧
  (∀ (s : State) (op : FlashOp), s.flash.op = some op → op.stage = .compactThenBad → s.flashSuspended = false →
    exec .flashCompactionDone s = .next (s.compact.markBad op)) ∧
  (∀ (n : Nat) (s t u : State) (op : FlashOp) (e : SecEntry), s.flash.op = some op → op.stage = .erase → s.flashSuspended = false →
    n ≤ 500 → t = s.logComplete op n → e = { s.flash.entry op.sector with erases := min 0xFFFF ((s.flash.entry op.sector).erases + 1), half := false } →
    u = { t with flash := (t.flash.eraseSector op.sector).setEntry op.sector e } →
    exec (.flashEraseDone n true) s = .next ((((u.flashEnd.halfReport).lastOp op n false).wearReport op n).raise 200)) ∧
  (∀ (n : Nat) (pass : Bool) (s t u : State) (op o : FlashOp) (e : SecEntry), s.flash.op = some op → op.stage = .erase → s.flashSuspended = false →
    pass = false ∨ 500 < n → t = s.logComplete op 500 → e = { s.flash.entry op.sector with erases := min 0xFFFF ((s.flash.entry op.sector).erases + 1), half := false } →
    u = { t with flash := t.flash.setEntry op.sector e } →
    o = { op with pulses := 500 } → exec (.flashEraseDone n pass) s = .next ((u.wearReport o 500).failOp o)) ∧
  (∀ (ag : Agent) (off : Nat) (s : State), s.flashServes ag = true → s.holds ag 1 = false → s.flashBusy = true → hostReader ag = true →
    exec (.flashHostReadBusy ag off) s = .next (((s.setBit Reg.flcErr 8 true).raise 205).emit (.read ag [0xFFFFFFFF#32]))) ∧
  (∀ (ag : Agent) (off : Nat) (s : State), s.flashServes ag = true → s.holds ag 1 = false → s.flashBusy = false → off < 2 ^ 30 → s.erasedUnder off = false →
    exec (.flashStalledReadDone ag off) s = .next (s.emit (.read ag [s.flash.word32 off])))

/-- On a lane whose quad no port owns: LANE_TXEQ takes coefficients that add to 63 with the main one large enough, LOADLG loads the last-good set, a
pattern clear zeroes the three counters, and CAL of a free quad with every lane off or asleep starts its calibration.  A
calibration that ends forgets the last-good sets and shows PASS or FAIL with LANE_ERR.  An eye window of a lane that is not off ends frozen, or shows its figures and adapts.  A PLL that relocks and
runs locks; a lock lost unlocks its lanes' receivers and records PLL_ERR for each.  The end of the wake burst of a transmitter that is not stopped makes it
ready, the burst's last word sent. -/
def Obligations.LaneAndQuadCommandsComplete : Prop :=
  (∀ (ag : Agent) (n : Fin 64) (v : Word) (s : State), s.laneOwned n.val = false →
    getBits v 3 0 + getBits v 9 4 + getBits v 14 10 = 63 → getBits v 3 0 + getBits v 14 10 + 8 ≤ getBits v 9 4 →
    exec (.laneTxeqWrite ag n v) s = .next (s.plainWrite (Reg.laneTxeq n.val) v)) ∧
  (∀ (ag : Agent) (n : Fin 64) (s t : State) (v : Word), s.laneOwned n.val = false → v = putBit (s.rd (Reg.laneRxeq n.val)) 7 true →
    t = (s.plainWrite (Reg.laneRxeq n.val) v).lgLoad n.val → exec (.laneLoadlg ag n) s =
    .next (if getBit v 4 then t else t.setFld (Reg.laneRxeq n.val) 11 8 (getBits v 3 0))) ∧
  (∀ (ag : Agent) (n : Fin 64) (s : State), s.laneOwned n.val = false → exec (.prbsClear ag n) s =
    .next ((((s.plainWrite (Reg.lanePrbs n.val) (putBit (s.rd (Reg.lanePrbs n.val)) 8 true)).wr (Reg.laneCntErr n.val) 0).wr
      (Reg.laneCntBitsLo n.val) 0).wr (Reg.laneCntBitsHi n.val) 0)) ∧
  (∀ (ag : Agent) (q : Fin 16) (s t : State), s.laneOwned (4 * q.val) = false →
    t = (s.plainWrite (0x100000 + 0x4000 * q.val + 0x810) (putBit (s.rd (Reg.qctl q.val)) 8 true)).setBit (Reg.qstat q.val) 7
      ([Reg.qplllCfg q.val, Reg.qplllFrac q.val, Reg.qpllhCfg q.val, Reg.qpllhFrac q.val, Reg.qctl q.val].any
        (s.plainWrite (0x100000 + 0x4000 * q.val + 0x810) (putBit (s.rd (Reg.qctl q.val)) 8 true)).pends) →
    t.quadOwner q.val = 0 → (∀ i < 4, t.fld (Reg.laneCtl (4 * q.val + i)) 1 0 = 0 ∨ t.fld (Reg.laneCtl (4 * q.val + i)) 1 0 = 3) →
    exec (.quadCalStart ag q) s = .next (t.setBit (Reg.qstat q.val) 2 true)) ∧
  (∀ (q : Fin 16) (s t : State), s.bit (Reg.qstat q.val) 2 = true →
    t = (List.range 4).foldl (fun t i => t.lgForget (4 * q.val + i)) (s.setBoot { s.boot with calPend := s.boot.calPend &&& (2 ^ 16 - 1 - 2 ^ q.val) }) →
    exec (.quadCalDone q true) s =
      .next ((t.wr (Reg.qstat q.val) (putBits (putBits (s.rd (Reg.qstat q.val)) 4 2 2) 6 5 0)).quadRefresh q.val) ∧
    (s.boot.calPend.testBit q.val = false → exec (.quadCalTimeout q) s =
      .next (((t.wr (Reg.qstat q.val) (putBit (putBits (s.rd (Reg.qstat q.val)) 4 2 4) 5 true)).laneErr (4 * q.val) 9).quadRefresh q.val))) ∧
  (∀ (n : Fin 64) (e : EyeWindow) (s : State), s.laneUp n.val = true → s.windowFrozen n.val e = true → exec (.eyeWindowEnd n e) s =
    .next (s.wr (Reg.laneEye n.val) (putBit (putBits (s.rd (Reg.laneEye n.val)) 25 24 2) 26
      (e.idleSet && (s.lanePcs n.val == 1 || s.lanePcs n.val == 2))))) ∧
  (∀ (n : Fin 64) (e : EyeWindow) (s t : State) (y : Nat) (q : Bool), s.laneUp n.val = true → s.windowFrozen n.val e = false →
    y = min e.hfig.val e.vfig.val → q = s.windowQualified n.val e →
    t = s.wr (Reg.laneEye n.val) (putBits (putBit (putBits (putBits (putBits (s.rd (Reg.laneEye n.val)) 7 0 y) 15 8 e.hfig.val) 23 16
      e.vfig.val) 24 q) 26 25 0) →
    exec (.eyeWindowEnd n e) s = .next (if s.bit (Reg.laneRxeq n.val) 4 then t.adaptEnd n.val y q e else t)) ∧
  (∀ (q : Fin 16) (h : Fin 2) (s : State), s.pllRelocks q.val h.val = true → s.pllOn q.val h.val = true → exec (.qpllLock q h) s =
    .next (((s.setRelock q.val h.val false).setBit (Reg.qstat q.val) h.val true).quadRefresh q.val)) ∧
  (∀ (q : Fin 16) (h : Fin 2) (s : State), s.bit (Reg.qstat q.val) h.val = true → exec (.qpllLossOfLock q h) s =
    .next ((s.pllLanes q.val h.val).foldl (fun t n => t.laneErr n 0) (s.pllUnlock q.val h.val))) ∧
  (∀ (n : Fin 64) (s t : State), t = s.laneRefresh n.val → t.txStopped n.val = false → (t.lane n.val).ready = false →
    exec (.laneWakeBurstEnd n) s =
    .next (t.setLane n.val { t.lane n.val with ready := true, txRaw := t.txPol n.val (t.burstRaw n.val) }))

/-- CDR lock comes up on a lane that is not off with its PLL locked, and its loss records CDR_LOSS; RXIDLE follows the line; a comma aligns an 8B10B lane with alignment on, and
the loss of alignment ends it; a gearbox lane's block lock comes and goes; a phase FIFO fault records TXFIFO, or RXFIFO with up to four words lost; the
pattern checker locks under a pattern; and a word received while CDR_LOCK is 1 and the quad is not gated is decoded. -/
def Obligations.LaneReceiverEventsComplete : Prop :=
  (∀ (n : Fin 64) (s : State), s.laneUp n.val = true → s.lanePllOk n.val = true → s.bit (Reg.laneStat n.val) 0 = false →
    exec (.cdrLockAcquired n) s = .next ((s.setBit (Reg.laneStat n.val) 0 true).laneStatus n.val 0)) ∧
  (∀ (n : Fin 64) (s : State), s.bit (Reg.laneStat n.val) 0 = true → exec (.cdrLockLost n) s =
    .next ((s.setBit (Reg.laneStat n.val) 0 false).laneErr n.val 0)) ∧
  (∀ (n : Fin 64) (i : Bool) (s : State), s.bit (Reg.laneStat n.val) 1 ≠ i → exec (.rxidleChange n i) s =
    .next ((s.setBit (Reg.laneStat n.val) 1 i).laneStatus n.val 2)) ∧
  (∀ (n : Fin 64) (s t : State), s.lanePcs n.val = 1 → s.liveFld (Reg.laneCfg n.val) 11 10 ≠ 0 → s.bit (Reg.laneStat n.val) 0 = true →
    t = (s.setLane n.val { s.lane n.val with newAlign := true }).setBit (Reg.laneStat n.val) 3 true →
    exec (.commaAlign n) s = .next (if s.bit (Reg.laneStat n.val) 3 then t else t.laneStatus n.val 1)) ∧
  (∀ (n : Fin 64) (s : State), s.bit (Reg.laneStat n.val) 3 = true → exec (.alignLost n) s =
    .next (s.setBit (Reg.laneStat n.val) 3 false)) ∧
  (∀ (n : Fin 64) (s : State), 2 ≤ s.lanePcs n.val → s.bit (Reg.laneStat n.val) 0 = true → s.bit (Reg.laneStat n.val) 4 = false →
    exec (.blockLockAcquired n) s = .next ((s.setBit (Reg.laneStat n.val) 4 true).laneStatus n.val 1)) ∧
  (∀ (n : Fin 64) (s : State), s.bit (Reg.laneStat n.val) 4 = true → exec (.blockLockLost n) s =
    .next ((s.setBit (Reg.laneStat n.val) 4 false).laneErr n.val 11)) ∧
  (∀ (n : Fin 64) (s : State), exec (.phaseFifoFault n true) s = .next (s.laneErr n.val 4) ∧
    exec (.phaseFifoFault n false) s =
      .next ((s.setLane n.val { s.lane n.val with rxFifo := (s.lane n.val).rxFifo.drop 4 }).laneErr n.val 5)) ∧
  (∀ (n : Fin 64) (s : State), 1 ≤ s.fld (Reg.lanePrbs n.val) 6 4 → s.fld (Reg.lanePrbs n.val) 6 4 ≤ 6 →
    s.bit (Reg.laneStat n.val) 0 = true → exec (.prbsCheckerLock n) s = .next (s.setBit (Reg.lanePrbs n.val) 9 true)) ∧
  (∀ (n : Fin 64) (w : LaneRx) (s : State), s.bit (Reg.laneStat n.val) 0 = true → s.blockGated (n.val / 4) = false →
    exec (.laneRxWord n w) s = .next (s.rxWord n.val w))

/-- With a legal RATE and no gate of the port or its quads standing: EN of a port written 1, in a mode in which a port may train, starts training with the WIDTH
written; RETRAIN takes the link down with cause DISABLED and trains again; a port that is DOWN with AUTO trains again.  A gate makes the training wait.  In any other mode
EN changes no link.  EN written 0 takes the link down with cause DISABLED, forgets the port's state, and gives its quads back. -/
def Obligations.WalePortCommandsComplete : Prop :=
  (∀ (ag : Agent) (p : Fin 6) (s t u : State), s.bit (Reg.wpCtl p.val) 0 = false → s.fld (Reg.wpCtl p.val) 5 3 < 6 →
    t = s.plainWrite (Reg.wpCtl p.val) (putBit (s.rd (Reg.wpCtl p.val)) 0 true) →
    u = t.setWp p.val { t.wp p.val with width := s.fld (Reg.wpCtl p.val) 2 1 } →
    (u.waleModes = true → u.wpGated p.val = false → exec (.wpEnable ag p) s = .next (u.wpTrain p.val)) ∧
    (u.waleModes = true → u.wpGated p.val = true → exec (.wpEnable ag p) s = .next (u.setWp p.val { u.wp p.val with trainDue := true })) ∧
    (u.waleModes = false → exec (.wpEnable ag p) s = .next u)) ∧
  (∀ (ag : Agent) (p : Fin 6) (s t : State), s.bit (Reg.wpCtl p.val) 0 = true → s.fld (Reg.wpCtl p.val) 5 3 < 6 →
    t = s.plainWrite (Reg.wpCtl p.val) (putBit (s.rd (Reg.wpCtl p.val)) 0 false) →
    exec (.wpDisable ag p) s =
      .next ((((t.linkDown p.val 4).wpClear p.val).quadRefresh (2 * p.val + 2)).quadRefresh (2 * p.val + 3))) ∧
  (∀ (ag : Agent) (p : Fin 6) (s t : State), s.bit (Reg.wpCtl p.val) 0 = true → s.fld (Reg.wpCtl p.val) 5 3 < 6 →
    t = (s.plainWrite (Reg.wpCtl p.val) (putBit (s.rd (Reg.wpCtl p.val)) 8 true)).linkDown p.val 4 →
    (t.waleModes = true → t.wpGated p.val = false → exec (.wpRetrain ag p) s = .next (t.wpTrain p.val)) ∧
    (t.waleModes = true → t.wpGated p.val = true → exec (.wpRetrain ag p) s = .next (t.setWp p.val { t.wp p.val with trainDue := true })) ∧
    (t.waleModes = false → exec (.wpRetrain ag p) s = .next t)) ∧
  (∀ (p : Fin 6) (s : State), s.wpState p.val = 0 → s.bit (Reg.wpCtl p.val) 0 = true → s.bit (Reg.wpCtl p.val) 6 = true → s.waleModes = true →
    (s.wpGated p.val = false → exec (.waleAutoRetrain p) s = .next (s.wpTrain p.val)) ∧
    (s.wpGated p.val = true → exec (.waleAutoRetrain p) s = .next (s.setWp p.val { s.wp p.val with trainDue := true })))

/-- While a port trains, a TRN set of another device counts toward the 64 that make its lane good, records the sender's identifier, port
and width, keeps its RDY, and the receive set is chosen anew; one with this device's own assigned identifier takes the port down with cause DUP_ID.  A port in SLEEP trains again on a TRN set.
On a port that is UP a TRN set only counts.  A discarded set ends the lane's run of valid sets and records FRAME.  The training limit takes a training port down with cause
TRAIN; with lanes in both directions a training port comes UP. -/
def Obligations.WaleTrainingComplete : Prop :=
  (∀ (p : Fin 6) (lane : Fin 8) (x : TrnSet) (s : State), s.waleModes = true → s.wpState p.val = 1 → x.junk = false →
    x.dev.val ≠ s.devid ∨ s.devid = 511 → exec (.waleTrnSet p lane x) s = .next (s.trnTraining p.val lane.val x)) ∧
  (∀ (p : Fin 6) (lane : Fin 8) (x : TrnSet) (s : State), s.waleModes = true → s.wpState p.val = 1 → x.junk = false →
    x.dev.val = s.devid → s.devid ≠ 511 → exec (.waleTrnSet p lane x) s = .next (s.linkDown p.val 6)) ∧
  (∀ (p : Fin 6) (lane : Fin 8) (x : TrnSet) (s t : State), s.waleModes = true → s.wpState p.val = 3 → x.junk = false →
    t = s.wpTrain p.val → t.wpState p.val = 1 → x.dev.val ≠ t.devid ∨ t.devid = 511 →
    exec (.waleTrnSet p lane x) s = .next (t.trnTraining p.val lane.val x)) ∧
  (∀ (p : Fin 6) (lane : Fin 8) (x : TrnSet) (s : State), s.waleModes = true → s.wpState p.val = 2 → x.junk = false →
    exec (.waleTrnSet p lane x) s = .next (s.trnCount p.val lane.val x)) ∧
  (∀ (p : Fin 6) (lane : Fin 8) (x : TrnSet) (s : State), s.waleModes = true → s.wpState p.val ≠ 0 → x.junk = true →
    exec (.waleTrnSet p lane x) s = .next ((s.trnCount p.val lane.val x).wpFault p.val 6)) ∧
  (∀ (p : Fin 6) (s : State), s.wpState p.val = 1 → exec (.waleTrainTimeout p) s = .next (s.linkDown p.val 5)) ∧
  (∀ (p : Fin 6) (s : State), s.wpState p.val = 1 → s.fld (Reg.wpStat p.val) 9 2 ≠ 0 → s.fld (Reg.wpStat p.val) 17 10 ≠ 0 →
    exec (.waleLinkUp p) s = .next (s.linkUp p.val))

/-- On a port that is UP: a bad block counts, records BAD_BLOCK and is answered by one NAK until the expected block arrives; a good block of a reserved type
with the expected number is accepted and records a format fault.  ACK frees the blocks it acknowledges, sets the resend count to 0 and lets waiting blocks
go; one that names no unacknowledged block is ignored.  NAK acknowledges and resends what is left, oldest first, as the acknowledge timer does; the eighth resend in a row takes the link down.  The
latest ACK is sent once a block has been accepted.  A set with unknown bits records FRAME. -/
def Obligations.WaleLinkLayerComplete : Prop :=
  (∀ (p : Fin 6) (s t : State), s.wpUp p.val = true → t = (s.bumpSat (Reg.wpCntBad p.val)).wpFault p.val 4 →
    ((t.wp p.val).nak = true → exec (.waleBlockBad p none) s = .next t) ∧
    ((t.wp p.val).nak = false → exec (.waleBlockBad p none) s =
      .next ((t.setWp p.val { t.wp p.val with nak := true }).waleEmit p.val (.ack (((t.wp p.val).rxSeq + 4095) % 4096) true)))) ∧
  (∀ (p : Fin 6) (q : Fin 4096) (s : State), s.wpUp p.val = true → q.val = (s.wp p.val).rxSeq →
    exec (.waleBlockBad p (some q)) s = .next ((s.afterRx p.val).wpFault p.val 5)) ∧
  (∀ (p : Fin 6) (q : Fin 4096) (s t : State) (i : Nat), s.wpUp p.val = true →
    (s.wp p.val).buf.findIdx? (fun b => b.seq.val == q.val) = some i →
    t = s.setWp p.val { s.wp p.val with buf := (s.wp p.val).buf.drop (i + 1), resends := 0 } →
    exec (.waleAck p q false) s = .next ((t.wp p.val).queue.foldl (fun u b => u.linkSend p.val b) (t.setWp p.val { t.wp p.val with queue := [] }))) ∧
  (∀ (p : Fin 6) (q : Fin 4096) (s t u : State), s.wpUp p.val = true → t = s.ackDrop p.val q.val → (t.wp p.val).buf ≠ [] →
    (t.wp p.val).resends < 7 → u = (t.wp p.val).buf.foldl (fun t b => t.waleEmit p.val (.block b))
      ((t.bumpSat (Reg.wpCntResend p.val)).setWp p.val { t.wp p.val with resends := (t.wp p.val).resends + 1 }) →
    exec (.waleNak p q false) s = .next (u.linkDrain p.val)) ∧
  (∀ (p : Fin 6) (q : Fin 4096) (s : State), s.wpUp p.val = true →
    exec (.waleAck p q true) s = .next (s.wpFault p.val 6) ∧ exec (.waleNak p q true) s = .next (s.wpFault p.val 6)) ∧
  (∀ (p : Fin 6) (s : State), s.wpUp p.val = true → (s.wp p.val).got = true →
    exec (.waleAckSend p) s = .next (s.waleEmit p.val (.ack (((s.wp p.val).rxSeq + 4095) % 4096) false))) ∧
  (∀ (p : Fin 6) (s : State), s.wpUp p.val = true → (s.wp p.val).buf ≠ [] → (s.wp p.val).resends < 7 →
    exec (.waleAckTimerExpiry p) s = .next ((s.wp p.val).buf.foldl (fun t b => t.waleEmit p.val (.block b))
      ((s.bumpSat (Reg.wpCntResend p.val)).setWp p.val { s.wp p.val with resends := (s.wp p.val).resends + 1 }))) ∧
  (∀ (p : Fin 6) (s : State), s.wpUp p.val = true → (s.wp p.val).buf ≠ [] → 7 ≤ (s.wp p.val).resends →
    exec (.waleAckTimerExpiry p) s = .next ((s.bumpSat (Reg.wpCntResend p.val)).linkDown p.val 1))

/-- On a port that is UP, a receiving lane that fails is dropped, recorded and, with four drops within 1 s, held out; the set that the lanes still good fill is asked for, and with none the link goes down
with cause NO_LANES.  A dropped lane that is good again, and makes a wider set, is asked back.  A far end's DROP or READMIT is echoed, 16 IDL
columns are sent and the transmit set changes; the echo of this port's own changes the receive set; four time exchanges are discarded either way.  SLEEP makes the port's
state SLEEP, DOWN takes the link down with cause PEER.  A set with unknown bits records FRAME. -/
def Obligations.WaleLaneSetsComplete : Prop :=
  (∀ (p : Fin 6) (lane : Fin 8) (s t u : State) (ds : List (Nat × Nat)) (held : Bool) (set : Nat), s.wpUp p.val = true →
    (s.fld (Reg.wpStat p.val) 17 10).testBit lane.val = true →
    ds = ((s.wp p.val).drops.filter (fun d => decide (s.boot.ticks < d.2 + 400000000))) ++ [(lane.val, s.boot.ticks)] →
    held = decide (4 ≤ (ds.filter (fun d => d.1 == lane.val)).length) →
    t = (s.setWp p.val { s.wp p.val with
      good := (s.wp p.val).good &&& (255 - 2 ^ lane.val), dropped := (s.wp p.val).dropped ||| 2 ^ lane.val, drops := ds
      trn := Store.erase (s.wp p.val).trn lane.val, quar := if held then (s.wp p.val).quar ||| 2 ^ lane.val else (s.wp p.val).quar }).wpFault p.val 7 →
    u = (if held then t.wpFault p.val 10 else t) → set = chooseSet (u.goodLanes p.val) (s.wp p.val).fixed →
    (set ≠ 0 → exec (.waleLaneFail p lane) s = .next (((u.setWp p.val { u.wp p.val with pend := some set }).waleEmit p.val (.lmg 1 set)).wpEvent p.val 1)) ∧
    (set = 0 → exec (.waleLaneFail p lane) s = .next ((u.wpEvent p.val 1).linkDown p.val 2))) ∧
  (∀ (p : Fin 6) (lane : Fin 8) (s t : State) (set : Nat), s.wpUp p.val = true → (s.wp p.val).dropped.testBit lane.val = true →
    (s.wp p.val).quar.testBit lane.val = false → s.laneLocked p.val lane.val = true → Store.get (fun _ => 0) (s.wp p.val).trn lane.val = 64 →
    t = s.setWp p.val { s.wp p.val with good := (s.wp p.val).good ||| 2 ^ lane.val, dropped := (s.wp p.val).dropped &&& (255 - 2 ^ lane.val) } →
    set = chooseSet (t.goodLanes p.val) (s.wp p.val).fixed →
    ((List.range 8).filter ((s.wp p.val).pend.getD (s.fld (Reg.wpStat p.val) 17 10)).testBit).length < ((List.range 8).filter set.testBit).length →
    exec (.waleLaneReadmitReady p lane) s =
      .next (((t.setWp p.val { t.wp p.val with pend := some set }).waleEmit p.val (.lmg 2 set)).wpEvent p.val 1)) ∧
  (∀ (p : Fin 6) (set : BitVec 8) (s : State), s.wpUp p.val = true → (s.wp p.val).pend ≠ some set.toNat →
    exec (.waleLmgDrop p set false) s = .next ((((((s.wpFault p.val 7).waleEmit p.val (.lmg 1 set.toNat)).waleEmit p.val (.idl 16)).setFld
      (Reg.wpStat p.val) 9 2 set.toNat).lanesChanged p.val).wpEvent p.val 1) ∧
    exec (.waleLmgReadmit p set false) s = .next (((((s.waleEmit p.val (.lmg 2 set.toNat)).waleEmit p.val (.idl 16)).setFld
      (Reg.wpStat p.val) 9 2 set.toNat).lanesChanged p.val).wpEvent p.val 1)) ∧
  (∀ (p : Fin 6) (set : BitVec 8) (s t : State), s.wpUp p.val = true → (s.wp p.val).pend = some set.toNat →
    t = ((s.setWp p.val { s.wp p.val with pend := none }).setFld (Reg.wpStat p.val) 17 10 set.toNat).lanesChanged p.val →
    exec (.waleLmgDrop p set false) s = .next t ∧ exec (.waleLmgReadmit p set false) s = .next t) ∧
  (∀ (p : Fin 6) (s : State), s.wpUp p.val = true →
    exec (.waleLmgSleep p false) s = .next (((s.setFld (Reg.wpStat p.val) 1 0 3).wpEvent p.val 0).treeRefresh)) ∧
  (∀ (p : Fin 6) (s : State), s.wpUp p.val = true → exec (.waleLmgDown p false) s = .next (s.linkDown p.val 3)) ∧
  (∀ (p : Fin 6) (set : BitVec 8) (s : State), s.wpUp p.val = true →
    exec (.waleLmgDrop p set true) s = .next (s.wpFault p.val 6) ∧ exec (.waleLmgReadmit p set true) s = .next (s.wpFault p.val 6) ∧
    exec (.waleLmgSleep p true) s = .next (s.wpFault p.val 6) ∧ exec (.waleLmgDown p true) s = .next (s.wpFault p.val 6))

/-- A block accepted on a port that is UP, of fresh epoch and for this device: a WRITE or READ joins the inbox and waiting accesses are carried out; a
COMPLETION ends its request; a MESSAGE joins a queue that has room and raises EV146; a GANG block's words reach the open engine; ADVERT is
held and the tree worked out again; a follow-up updates time.  JOIN, without an epoch test, and the other broadcast messages are also forwarded:
BND posts a fire, BNDREF is recorded at its originator, VOTE goes on toward the root, VERDICT is recorded, ALARM sets its device in WALE_RDY, DONE_UP
marks the child, SYSDONE sets the instant, SLEEP and AWAKE mark the peer, and WAKE goes on toward its target. -/
def Obligations.WaleBlocksComplete : Prop :=
  (∀ (p : Fin 6) (b : WaleBlock) (mem : Fin 4) (s t : State), s.ReceivesHere t p.val b → exec (.waleWrite p b mem) s =
    .next ((t.setWale { t.wale with inbox := t.wale.inbox ++ [({ b with kind := .write }, mem.val)] }).settle settleFuel)) ∧
  (∀ (p : Fin 6) (b : WaleBlock) (mem : Fin 4) (s t : State), s.ReceivesHere t p.val b → exec (.waleRead p b mem) s =
    .next ((t.setWale { t.wale with inbox := t.wale.inbox ++ [({ b with kind := .read }, mem.val)] }).settle settleFuel)) ∧
  (∀ (p : Fin 6) (b : WaleBlock) (ws : List Word) (s t : State) (r : WaleReq), s.ReceivesHere t p.val b → b.body = .words ws →
    t.wale.reqs.find? (fun r => r.tag == b.tag.val && (r.dest == b.src.val || b.status == 2 || b.status == 3)) = some r →
    exec (.waleCompletion p b) s = .next (t.reqEnd r b.status.val ws)) ∧
  (∀ (p : Fin 6) (b : WaleBlock) (ws : List Word) (s t : State), s.ReceivesHere t p.val b → b.body = .words ws → b.ackreq = false →
    t.wale.mq.length < 16 → exec (.waleMessage p b) s =
    .next (((t.setWale { t.wale with mq := t.wale.mq ++ [(b.src.val, ws)] }).mqRefresh).raise 146)) ∧
  (∀ (p : Fin 6) (b : WaleBlock) (ws : List Word) (s t : State), s.ReceivesHere t p.val b → b.body = .words ws → t.engSource = some 4 →
    t.wale.gangRx = some b.src.val → t.wale.gangEnded = false → b.last = false → exec (.waleGangBlock p b) s =
    .next (({ t.setWale { t.wale with gangWords := t.wale.gangWords ++ ws } with
      eng := { t.eng with arrived := t.eng.arrived || !ws.isEmpty } } : State).spentEnd 4)) ∧
  (∀ (p : Fin 6) (b : WaleBlock) (root : Fin 512) (dist : Fin 16) (up : Fin 512) (chain sysdone : Bool) (s t : State), s.Receives t p.val b →
    b.body = .sys (.advert root dist up chain sysdone) → exec (.waleAdvert p b) s =
    .next ((t.setWp p.val { t.wp p.val with adv := some ⟨b.src.val, root.val, dist.val, up.val, chain, sysdone⟩ }).treeRefresh)) ∧
  (∀ (p : Fin 6) (b c : WaleBlock) (e : Fin 256) (s : State), s.wpUp p.val = true → b.seq.val = (s.wp p.val).rxSeq → b.body = .sys (.join e) →
    c = { b with kind := .sysctl, bcast := true } → exec (.waleJoin p b) s = .next (((s.afterRx p.val).forwarded p.val c).joinIn b.src.val e.val)) ∧
  (∀ (p : Fin 6) (b : WaleBlock) (xn : Fin 65536) (t1 t2 t3 t4 : Int) (s t : State), s.Receives t p.val b → b.body = .followUp xn t2 t3 →
    t.wale.exch = some ⟨p.val, xn.val, t1, some t4⟩ → (t.wp p.val).skip = 0 → exec (.waleTimeFollowUp p b) s =
    .next ((t.setWale { t.wale with exch := none }).timeUpdate p.val t1 t2 t3 t4)) ∧
  (∀ (p : Fin 6) (b c : WaleBlock) (i : Fin 8) (num den : Nat) (s t u : State), s.Receives t p.val b → b.body = .sys (.bnd i num den) →
    c = { b with kind := .sysctl, bcast := true } → u = t.forwarded p.val c → u.mbAnswer i.val (msgInstant num den) = .posted →
    exec (.waleBnd p b) s = .next (u.mbPost i.val (msgInstant num den))) ∧
  (∀ (p : Fin 6) (b c : WaleBlock) (orig : Fin 512) (i : Fin 8) (r : Fin 512) (s t u : State), s.Receives t p.val b → b.body = .sys (.bndref orig i r) →
    c = { b with kind := .sysctl, bcast := true } → u = t.forwarded p.val c → orig.val = u.devid → u.bit Reg.waleBndref 31 = false →
    exec (.waleBndref p b) s = .next ((u.wr Reg.waleBndref (putBit (putBits (putBits (u.rd Reg.waleBndref) 8 0 r.val) 23 16
      (min 255 (getBits (putBits (u.rd Reg.waleBndref) 8 0 r.val) 23 16 + 1))) 31 true)).raise 150)) ∧
  (∀ (p : Fin 6) (b : WaleBlock) (num den : Nat) (ready : Bool) (dev : Fin 512) (s t : State), s.Receives t p.val b → t.devid ≠ 511 →
    b.body = .sys (.vote num den ready dev) → exec (.waleVote p b) s = .next (t.voteOn (msgInstant num den) dev.val ready)) ∧
  (∀ (p : Fin 6) (b c : WaleBlock) (num den : Nat) (r : Bool) (s t : State), s.Receives t p.val b → b.body = .sys (.verdict num den r) →
    c = { b with kind := .sysctl, bcast := true } → exec (.waleVerdict p b) s = .next ((t.forwarded p.val c).verdictIn (msgInstant num den) r)) ∧
  (∀ (p : Fin 6) (b c : WaleBlock) (num den : Nat) (dev : Fin 512) (s t : State), s.Receives t p.val b → b.body = .sys (.alarm num den dev) →
    c = { b with kind := .sysctl, bcast := true } → exec (.waleAlarm p b) s =
    .next ((((t.forwarded p.val c).setFld Reg.waleRdy 16 8 dev.val).setBit Reg.waleRdy 3 true).raise 150)) ∧
  (∀ (p : Fin 6) (b : WaleBlock) (dev : Fin 512) (s t u : State), s.Receives t p.val b → b.body = .sys (.doneUp dev) →
    u = t.setWp p.val { t.wp p.val with kidDone := true } → exec (.waleDoneUp p b) s =
    .next (if u.isRoot = true ∧ u.wale.sysSent = true then u.sysdoneSend else u)) ∧
  (∀ (p : Fin 6) (b c : WaleBlock) (num den : Nat) (s t u : State), s.Receives t p.val b → b.body = .sys (.sysdone num den) →
    c = { b with kind := .sysctl, bcast := true } → u = t.forwarded p.val c → u.bit Reg.waleTree 23 = false → exec (.waleSysdone p b) s =
    .next (u.setWale { u.wale with sysAt := some (msgInstant num den) })) ∧
  (∀ (p : Fin 6) (b c : WaleBlock) (w : Bool) (s t : State), s.Receives t p.val b → b.body = .sys (.sleep w) →
    c = { b with kind := .sysctl, bcast := true } → exec (.waleSleepMsg p b) s =
    .next (((t.forwarded p.val c).setBit (Reg.walePeer b.src.val) 9 true).setBit (Reg.walePeer b.src.val) 10 w)) ∧
  (∀ (p : Fin 6) (b c : WaleBlock) (s t : State), s.Receives t p.val b → b.body = .sys .awake →
    c = { b with kind := .sysctl, bcast := true } → exec (.waleAwake p b) s = .next ((t.forwarded p.val c).awakeIn b.src.val)) ∧
  (∀ (p : Fin 6) (b : WaleBlock) (x : Fin 512) (s t : State), s.Receives t p.val b → b.body = .sys (.wake x) → t.devid ≠ 511 → x.val ≠ t.devid →
    b.hops ≠ 0 → t.routeOf x.val ≠ p.val → exec (.waleWake p b) s =
    .next (t.wakeToward x.val { b with kind := .sysctl, hops := b.hops - 1 }))

/-- The advert timer advertises on each port that is UP, and an expiry forgets the neighbour's ADVERT and works the tree out again; a device with an upstream that is UP and
TIME_EN starts an exchange, answers one with its response and follow-up, and keeps the arrival of its own response; a missing follow-up drops
the exchange.  At the cutoff a device votes READY when no armed group waits, else not; the root forms the verdict and broadcasts it.  DONE_UP goes upstream once,
the root declares system DONE, which holds at its instant.  A GO in an idle slot issues its request, a deadline ends it with status 7, POP drops
the oldest message.  GO starts a gang stream when none runs and no flash operation runs, ABORT stops it with a last block, and its end reports SENT, ABORTED or NO LINK; a
stream that is received ends at its timeout. -/
def Obligations.WaleSystemCommandsComplete : Prop :=
  (∀ s : State, exec .waleAdvertTimer s = .next (s.upPorts.foldl (fun t p => t.advertise p) s)) ∧
  (∀ (p : Fin 6) (s : State), exec (.waleAdvertExpiry p) s = .next ((s.setWp p.val { s.wp p.val with adv := none }).treeRefresh)) ∧
  (∀ (fine : Fin 2500) (s : State) (xn : Nat), s.upPort ≠ 7 → s.wpUp s.upPort = true → s.bit Reg.waleSysCfg 0 = true →
    xn = (s.wale.xn + 1) % 65536 → exec (.waleTimeExchangeStart fine) s = .next ((s.setWale { s.wale with
      xn := xn, exch := some ⟨s.upPort, xn, s.stampPs 1 s.upPort fine.val, none⟩ }).waleEmit s.upPort (.tsy false xn))) ∧
  (∀ (p : Fin 6) (xn : Fin 65536) (fine : Fin 2500) (turn : Nat) (s : State), s.wpUp p.val = true → exec (.waleTsyRequest p xn fine turn false) s =
    .next ((s.waleEmit p.val (.tsy true xn.val)).linkSend p.val (s.ownBlock .link (s.peerId p.val) 1 false
      (.followUp xn (s.stampPs 2 p.val fine.val) (s.stampPs 3 p.val (fine.val + turn : Nat)))))) ∧
  (∀ (p : Fin 6) (xn : Fin 65536) (fine : Fin 2500) (t1 : Int) (u : Option Int) (s : State), s.wpUp p.val = true →
    s.wale.exch = some ⟨p.val, xn.val, t1, u⟩ → exec (.waleTsyResponse p xn fine false) s =
    .next (s.setWale { s.wale with exch := some ⟨p.val, xn.val, t1, some (s.stampPs 4 p.val fine.val)⟩ })) ∧
  (∀ s : State, exec .waleFollowUpTimeout s = .next (s.setWale { s.wale with exch := none })) ∧
  (∀ (src : Fin 64) (s : State) (x : Instant), s.sourceNext src.val = some x → s.wreadyGroups src.val ≠ [] →
    (∀ g ∈ s.wreadyGroups src.val, s.groupWait src.val g true = 0) → exec (.waleVoteCutoff src) s =
    .next ((s.setWale { s.wale with voted := s.wale.voted ++ [⟨src.val, x, (s.wreadyGroups src.val).foldl
      (fun a g => a ||| (if s.cgRevert g then s.cgLast g else s.cgBays g)) 0⟩] }).voteOn x s.devid true)) ∧
  (∀ (src : Fin 64) (s : State) (x : Instant), s.sourceNext src.val = some x → (∃ g ∈ s.wreadyGroups src.val, s.groupWait src.val g true ≠ 0) →
    exec (.waleVoteCutoff src) s = .next (s.voteOn x s.devid false)) ∧
  (∀ (num den : Nat) (s t : State) (x : Instant), x = msgInstant num den → s.isRoot = true → s.wale.tally.any (fun v => v.1.same x) = true →
    t = s.setWale { s.wale with tally := s.wale.tally.filter (fun v => !v.1.same x) } → exec (.waleVerdictTimer num den) s =
    .next ((t.sysBcast (.verdict x.num x.den (s.verdictFor x))).verdictIn x (s.verdictFor x))) ∧
  (∀ s : State, s.doneConditions = true → s.isRoot = true → s.wale.sysSent = false →
    exec .waleDoneUpSend s = .next s.rosterTake.sysdoneSend) ∧
  (∀ s : State, s.doneConditions = true → s.isRoot = false → s.upPort ≠ 7 → s.bit Reg.waleTree 24 = false →
    exec .waleDoneUpSend s = .next ((s.sysNeighbour s.upPort (.doneUp (Fin.ofNat 512 s.devid))).setBit Reg.waleTree 24 true)) ∧
  (∀ s : State, s.wale.sysAt.isSome = true → exec .waleSystemDoneInstant s = .next ((((({ s with
    wale := { s.wale with sysAt := none }, boot := { s.boot with sysDone := true } } : State).setBit Reg.waleTree 23 true).raise 149).advertiseAll))) ∧
  (∀ (ag : Agent) (n : Fin 4) (op : Fin 8) (ack : Bool) (len : Fin 256) (s : State), getBit (goWord op.val ack len.val) 12 = true →
    exec (.waleRqGo ag n op ack len) s =
    .next (((s.plainWrite (Reg.waleRqCtl n.val) (goWord op.val ack len.val)).rqGo n.val).settle settleFuel)) ∧
  (∀ (tag : Fin 256) (s : State) (r : WaleReq), s.wale.reqs.find? (fun r => r.tag == tag.val) = some r →
    exec (.waleRequestDeadline tag) s = .next (s.reqEnd r 7 [])) ∧
  (∀ (ag : Agent) (s : State), exec (.waleMqPop ag) s = .next ((s.setWale { s.wale with mq := s.wale.mq.drop 1 }).mqRefresh)) ∧
  (∀ (ag : Agent) (hamper bcast : Bool) (dest : Fin 512) (s t : State), s.bit Reg.waleGangCtl 16 = false →
    t = s.plainWrite Reg.waleGangCtl (BitVec.ofNat 32 (1 + 4 * hamper.toNat + 8 * bcast.toNat + 16 * dest.val)) → t.bit Reg.waleGangCtl 16 = false →
    t.devid ≠ 511 → t.bit Reg.waleGangCtl 2 = true ∨ t.flashOpBusy = false → exec (.waleGangGo ag hamper bcast dest) s =
    .next (((t.setFld Reg.waleGangCtl 19 17 0).setBit Reg.waleGangCtl 16 true).setWale { s.wale with gangTx := some (0, false) })) ∧
  (∀ (ag : Agent) (s : State) (off : Nat), s.wale.gangTx = some (off, false) → exec (.waleGangAbort ag 0) s =
    .next ((s.gangOut off [] (off == 0) true true).setWale { (s.gangOut off [] (off == 0) true true).wale with gangTx := some (off, true) })) ∧
  (∀ (s : State) (off : Nat), s.wale.gangTx = some (off, true) → exec .waleGangSendEnd s = .next (((((s.setFld Reg.waleGangCtl 19 17 3).setBit
    Reg.waleGangCtl 16 false).setWale { s.wale with gangTx := none }).raise 151))) ∧
  (∀ (s : State) (off : Nat), s.wale.gangTx = some (off, false) → s.gangRoute = false → exec .waleGangSendEnd s = .next (((((s.setFld
    Reg.waleGangCtl 19 17 4).setBit Reg.waleGangCtl 16 false).setWale { s.wale with gangTx := none }).raise 151))) ∧
  (∀ (s : State) (off : Nat), s.wale.gangTx = some (off, false) → s.gangRoute = true → s.bit Reg.waleGangCtl 2 = false →
    exec .waleGangSendEnd s = .next ((s.gangSend false ((s.rd Reg.waleGangLen).toNat / 512 + 1)).gangResult 1)) ∧
  (∀ s : State, s.wale.gangRx.isSome = true → s.wale.gangEnded = false →
    exec .waleGangStreamTimeout s = .next ((s.setWale { s.wale with gangEnded := true }).spentEnd 4))

/-- A link that comes up, in a mode and at a rate and width the port allows, sets MODE, GEN and WIDTH and raises port event +0; one that goes down clears them, raises +1,
releases the port's semaphores in RUN, STAGING and DOZE, and cuts off an open stream; a reset of the function restores its configuration space; a change of
power state shows in HPx_STAT and raises +4.  Words of the open window reach the engine, END through the same port ends the transfer after
them, a read of HPx_SRET takes the head word; SPIREL by another agent releases the SPI identity's semaphores; service SPI reads, writes, answers STATUS and records frame errors. -/
def Obligations.HostPortCommandsComplete : Prop :=
  (∀ (p : Fin 2) (gen : BitVec 3) (width : BitVec 2) (s t : State), s.bit (Reg.hpCtl p.val) 0 = true → s.pcieModes = true →
    s.blockGated (54 + p.val) = false → (portQuads p.val width.toNat).all s.quadReady = true → (s.port p).linkUp = false → s.fld (Reg.hpCtl p.val) 3 1 = 5 → 1 ≤ gen.toNat → gen.toNat ≤ 5 →
    width.toNat ≤ s.fld (Reg.hpCtl p.val) 5 4 → t = s.setPort p { s.port p with linkUp := true } → exec (.pcieLinkUp p gen width) s =
    .next (((t.wr (Reg.hpStat p.val) (putBits (putBits (putBit (t.rd (Reg.hpStat p.val)) 0 true) 3 1 gen.toNat) 5 4 width.toNat)).portEvent p 0).msixFlush p)) ∧
  (∀ (p : Fin 2) (s t : State), (s.port p).linkUp = true → s.mode = 6 → s.pwr.drained = false → t = s.setPort p { s.port p with linkUp := false } →
    exec (.pcieLinkDown p) s = .next ((((t.wr (Reg.hpStat p.val) (putBits (t.rd (Reg.hpStat p.val)) 8 0 0)).portEvent p 1).semAutoRelease
      (0x20 + p.val)).portStreamCut p)) ∧
  (∀ (p : Fin 2) (s : State), (s.port p).linkUp = true →
    exec (.pcieFlr p) s = .next (((s.epReset p).semAutoRelease (0x20 + p.val)).portStreamCut p)) ∧
  (∀ (p : Fin 2) (s : State), (s.port p).linkUp = true →
    exec (.pcieHotReset p) s = .next (((s.epReset p).semAutoRelease (0x20 + p.val)).portStreamCut p)) ∧
  (∀ (p : Fin 2) (s t : State), t = (s.pcieDown p).epReset p →
    exec (.pciePerst p) s = .next (t.setPort p { t.port p with msixTable := [], pba := 0 })) ∧
  (∀ (p : Fin 2) (d3 l1 : Bool) (cfg : EndpointCfg) (s : State) (new : Word), (s.port p).linkUp = true →
    new = putBit (putBits (s.rd (Reg.hpStat p.val)) 7 6 (if d3 then 3 else 0)) 8 l1 → s.rd (Reg.hpStat p.val) ≠ new →
    exec (.pciePowerStateChange p d3 l1 cfg) s =
    .next ((((s.wr (Reg.hpStat p.val) new).setPort p { s.port p with cfg := cfg }).portEvent p 4).msixFlush p)) ∧
  (∀ (p : Fin 2) (ws : List Word) (s : State), (s.port p).linkUp = true → s.engSource = some (2 + p.val) → (s.port p).ended = false → ws ≠ [] →
    exec (.streamWindowWrite p false ws) s =
    .next (({ s.setPort p { s.port p with window := (s.port p).window ++ ws } with eng := { s.eng with arrived := true } } : State).spentEnd (2 + p.val))) ∧
  (∀ (p : Fin 2) (ws : List Word) (s : State), s.spiServes p = true → s.spiHeld p = false → (s.port p).spiWait = [] →
    s.engSource = some (2 + p.val) → (s.port p).ended = false → ws ≠ [] →
    exec (.streamWindowWrite p true ws) s = .next (({ s.setPort p { s.port p with window := (s.port p).window ++ ws.take (1024 - (s.port p).window.length) } with
      eng := { s.eng with arrived := true } } : State).spentEnd (2 + p.val))) ∧
  (∀ (p : Fin 2) (ws : List Word) (s : State), s.spiServes p = true → s.spiHeld p = true →
    exec (.streamWindowWrite p true ws) s = .next (s.setPort p { s.port p with spiWait := (s.port p).spiWait ++ [.stream ws] })) ∧
  (∀ (ag : Agent) (p : Fin 2) (v : Word) (s : State), getBits v 31 16 = 0xE5D0 → getBit v 0 = true → viaPort ag p = true →
    s.engSource = some (2 + p.val) → exec (.hpSendEnd ag p v) s = .next ((s.setPort p { s.port p with ended := true }).spentEnd (2 + p.val))) ∧
  (∀ (ag : Agent) (p : Fin 2) (s : State) (w : Word) (ws : List Word), (s.port p).retQueue = w :: ws → s.engSource ≠ some (2 + p.val) →
    exec (.hpSretRead ag p) s = .next (((s.setPort p { s.port p with retQueue := ws }).wr (Reg.hpSrcnt p.val) (BitVec.ofNat 32 ws.length)).emit (.read ag [w]))) ∧
  (∀ (p q : Fin 2) (s t : State) (v : Word), p ≠ q → v = putBit (s.rd (Reg.hpCtl p.val)) 7 true → s.bit (Reg.hpCtl p.val) 0 = true →
    t = s.plainWrite (Reg.hpCtl p.val) v → exec (.hpSpirel (.hostPcie q) p) s = .next (((if p.val = 0 then (t.quadRefresh 0).quadRefresh 1
      else (t.quadRefresh 14).quadRefresh 15)).semAutoRelease (0x22 + p.val))) ∧
  (∀ (p : Fin 2) (a : Word) (n : Nat) (s : State), s.spiServes p = true → getBits a 31 30 ≠ 3 → a.toNat % 4 = 0 → s.spiHeld p = false →
    (s.port p).spiWait = [] →
    exec (.spiRead p a n) s = .next ((s.spiReads p a.toNat n).2.emit (.read (.hostSpi p) (s.spiReads p a.toNat n).1))) ∧
  (∀ (p : Fin 2) (a : Word) (ws : List Word) (s : State), s.spiServes p = true → getBits a 31 30 ≠ 3 → a.toNat % 4 = 0 →
    exec (.spiWrite p a ws) s = .next (s.spiWrites p a.toNat ws)) ∧
  (∀ (p : Fin 2) (s : State), s.spiRuns = true → s.spiHeld p = false → (s.port p).spiWait = [] → exec (.spiStatus p) s = .next ((s.setPort p { s.port p with spiFrameErr := false, spiDiscard := false }).emit
    (.read (.hostSpi p) [BitVec.ofNat 32 ((s.port p).linkUp.toNat + 2 * (s.port p).spiFrameErr.toNat + 4 * (s.port p).spiDiscard.toNat +
      256 * ((1024 - (s.port p).window.length) / 16))]))) ∧
  (∀ (p : Fin 2) (s : State), exec (.spiFrameError p) s =
    .next (((s.setPort p { s.port p with spiFrameErr := true }).setBit (Reg.hpStat p.val) 11 true).portEvent p 5))

/-- An acquire of a free semaphore makes the writer its owner, one by the owner changes nothing, one by another agent only sets WAIT.  A release
by the owner frees the semaphore (the journal's held records follow the release of SEM1); a release by another agent is a discarded write.  A
semaphore freed while it waits clears WAIT and raises EV376, another raises nothing. -/
def Obligations.SemaphoresFollowR374 : Prop :=
  (∀ (ag : Agent) (n : Fin 64) (s : State), s.semOwner n.val = 0 →
    exec (.semAcquire ag n) s = .next (s.setFld (Reg.sem n.val) 15 0 (agentIdent ag))) ∧
  (∀ (ag : Agent) (n : Fin 64) (s : State), s.semOwner n.val = agentIdent ag → exec (.semAcquire ag n) s = .next s) ∧
  (∀ (ag : Agent) (n : Fin 64) (s : State), s.semOwner n.val ≠ 0 → s.holds ag n.val = false →
    exec (.semAcquire ag n) s = .next (s.setBit (Reg.sem n.val) 16 true)) ∧
  (∀ (ag : Agent) (n : Fin 64) (s : State), s.holds ag n.val = true → n.val ≠ 1 → exec (.semRelease ag n) s = .next (s.semFree n.val)) ∧
  (∀ (ag : Agent) (s : State), s.holds ag 1 = true → exec (.semRelease ag 1) s = .next (s.semFree 1).journalFlush) ∧
  (∀ (ag : Agent) (n : Fin 64) (s : State), s.holds ag n.val = false → exec (.semRelease ag n) s = .next (s.discard ag 0 (Reg.sem n.val))) ∧
  (∀ (n : Nat) (s : State), s.bit (Reg.sem n) 16 = true → s.semFree n = ((s.wr (Reg.sem n) 0).semFreed n).raise 376) ∧
  (∀ (n : Nat) (s : State), s.bit (Reg.sem n) 16 = false → s.semFree n = (s.wr (Reg.sem n) 0).semFreed n)

/-- A write of SEM_FORCE by any agent with the key 0xC35A records the agent's identity and the index in SEM_FRCLOG and raises EV378.  A
semaphore that is held is then freed (and the records held for the flash are written when it is SEM1, R225); one that is free stays as it is. -/
def Obligations.ForcedReleaseFollowsR377 : Prop :=
  (∀ (ag : Agent) (v : Word) (s t : State), getBits v 31 16 = 0xC35A →
    t = (s.wr Reg.semFrclog (BitVec.ofNat 32 (agentIdent ag + 2 ^ 16 * getBits v 5 0))).raise 378 → t.semOwner (getBits v 5 0) = 0 →
    exec (.semForce ag v) s = .next t) ∧
  (∀ (ag : Agent) (v : Word) (s t : State), getBits v 31 16 = 0xC35A →
    t = (s.wr Reg.semFrclog (BitVec.ofNat 32 (agentIdent ag + 2 ^ 16 * getBits v 5 0))).raise 378 → t.semOwner (getBits v 5 0) ≠ 0 →
    getBits v 5 0 ≠ 1 → exec (.semForce ag v) s = .next (t.semFree (getBits v 5 0))) ∧
  (∀ (ag : Agent) (v : Word) (s t : State), getBits v 31 16 = 0xC35A →
    t = (s.wr Reg.semFrclog (BitVec.ofNat 32 (agentIdent ag + 2 ^ 16 * getBits v 5 0))).raise 378 → t.semOwner (getBits v 5 0) ≠ 0 →
    getBits v 5 0 = 1 → exec (.semForce ag v) s = .next (t.semFree 1).journalFlush)

/-- A ring sets FULL, records the writer in SENDER and raises EV(360 + m), and wins over an ACK in the same write; an ACK clears FULL; a data word is stored while FULL is 0 and discarded, with OVR and EV379, while
FULL is 1.  No semaphore is asked for. -/
def Obligations.MailboxesFollowR380 : Prop :=
  (∀ (ag : Agent) (m : Fin 16) (s t : State), t = s.plainWrite (Reg.mbCtl m.val) 1#32 → exec (.mbRing ag m) s =
    .next (((t.setBit (Reg.mbCtl m.val) 2 true).setFld (Reg.mbCtl m.val) 31 16 (agentIdent ag)).raise (360 + m.val))) ∧
  (∀ (ag : Agent) (m : Fin 16) (s : State), exec (.mbAck ag m) s =
    .next ((s.plainWrite (Reg.mbCtl m.val) 2#32).setBit (Reg.mbCtl m.val) 2 false)) ∧
  (∀ (ag : Agent) (m : Fin 16) (i : Fin 8) (v : Word) (s : State), s.bit (Reg.mbCtl m.val) 2 = false →
    exec (.mbDataWrite ag m i v) s = .next (s.wr (Reg.mbData m.val i.val) v)) ∧
  (∀ (ag : Agent) (m : Fin 16) (i : Fin 8) (v : Word) (s : State), s.bit (Reg.mbCtl m.val) 2 = true →
    exec (.mbDataWrite ag m i v) s = .next ((s.setBit (Reg.mbCtl m.val) 3 true).raise 379)) ∧
  (∀ (ag : Agent) (m : Nat) (v : Word) (s t : State), getBit v 0 = true → getBit v 1 = true → t = s.plainWrite (Reg.mbCtl m) v →
    s.mailCtl ag m v = ((t.setBit (Reg.mbCtl m) 2 true).setFld (Reg.mbCtl m) 31 16 (agentIdent ag)).raise (360 + m))

/-- A request on an enabled, unclamped port whose RQ_READY is 1 joins its queue.  The oldest write of a port stores its enabled bytes (none when it
faults) and answers in the B queue, the oldest read that no older overlapping write holds back answers with its beats.  Training that passes makes the hamper READY, else or on time-out
it is disabled; a retraining drains, trains and raises EV217, or gives up with HAMP_ERR[4]; a reading sets the temperature and its maximum and chooses the refresh rate, which
takes effect with EV213; self-refresh ends in a wake from SLEEP. -/
def Obligations.HamperCommandsComplete : Prop :=
  (∀ (n : Fin 32) (rq : HampRq) (s : State), s.hampEnabled n.val = true → s.clamped (hampBay n.val) = false → s.hampReqReady n.val = true →
    exec (.hamperPortRequest n rq) s = .next (s.setHampPort n.val { s.hampPort n.val with
      reqs := (s.hampPort n.val).reqs ++ [rq], rqHeld := (s.hampPort n.val).rqHeld + 1 })) ∧
  (∀ (n : Fin 32) (sev : Fin 4) (s t : State) (i err : Nat) (r : HampRq) (bs rest : List HampBeat) (q : HampPortSt), s.hampGated n.val = false →
    (s.hampPort n.val).oldest true = some (i, r) → takeWrite (s.hampPort n.val).beats = some (bs, rest) → s.hampFaults r = false →
    s.hampReport n.val (rqAddr r) true sev.val = (err, t) → err ≠ 3 → q = ((s.hampPort n.val).finish i).dropBeats rest →
    exec (.hamperAccessDone (.port n true) sev) s = .next ((t.hampPutBeats (rqAddr r) (r.len.val + 1) bs).setHampPort n.val
      { q with bq := q.bq ++ [⟨0, err, r.tag.val, 0, true⟩] })) ∧
  (∀ (n : Fin 32) (sev : Fin 4) (s : State) (i : Nat) (r : HampRq) (bs rest : List HampBeat) (q : HampPortSt), s.hampGated n.val = false →
    (s.hampPort n.val).oldest true = some (i, r) → takeWrite (s.hampPort n.val).beats = some (bs, rest) → s.hampFaults r = true →
    q = ((s.hampPort n.val).finish i).dropBeats rest →
    exec (.hamperAccessDone (.port n true) sev) s = .next (s.setHampPort n.val { q with bq := q.bq ++ [⟨0, 3, r.tag.val, 0, true⟩] })) ∧
  (∀ (n : Fin 32) (sev : Fin 4) (s t : State) (i err : Nat) (r : HampRq) (q : HampPortSt), s.hampGated n.val = false →
    (s.hampPort n.val).oldest false = some (i, r) → ((s.hampPort n.val).reqs.take i).any (fun w => w.write && rqOverlap w r && !rqCrosses w) = false →
    (s.hampPort n.val).readSpace (max (s.hampPort n.val).taken (i + 1)) ≤ 64 → s.hampFaults r = false →
    s.hampReport n.val (rqAddr r) false sev.val = (err, t) → err < 2 → q = (s.hampPort n.val).finish i →
    exec (.hamperAccessDone (.port n false) sev) s = .next (({ t with freeCtr := t.freeCtr + 8 } : State).setHampPort n.val { q with
      rq := q.rq ++ (List.range (r.len.val + 1)).map (fun j => ⟨0, err, r.tag.val, s.hampBeat (rqAddr r + 32 * j), j == r.len.val⟩) })) ∧
  (∀ s : State, s.hamp.training = true → exec (.hamperTrainDone true) s = .next s.hampReady) ∧
  (∀ s : State, s.hamp.training = true → exec (.hamperTrainDone false) s = .next s.hampDisable) ∧
  (∀ s : State, s.hamp.training = true → exec .hamperTrainTimeout s = .next s.hampDisable) ∧
  (∀ s : State, s.hampState = 1 → s.fld Reg.hampStat 5 4 ≠ s.hamp.rate →
    exec .hamperRefresh s = .next ((s.setFld Reg.hampStat 5 4 s.hamp.rate).raise 213)) ∧
  (∀ (v : BitVec 8) (s t : State), s.hampState < 2 → s.hamp.tempSeen = false → t = s.wr Reg.hampTemp (BitVec.ofNat 32 (v.toNat + 256 * toField 8 v.toInt)) →
    v.toInt ≤ 95 → exec (.hamperTempRead v) s = .next (t.setHamp { t.hamp with rate := refreshFor s.hamp.rate v.toInt, tempSeen := true })) ∧
  (∀ (v : BitVec 8) (s t : State), s.hampState < 2 → s.hamp.tempSeen = true → t = s.wr Reg.hampTemp (BitVec.ofNat 32 (v.toNat + 256 * toField 8
    (max (signExtend 8 (s.fld Reg.hampTemp 15 8)) v.toInt))) → 95 < v.toInt → s.bit Reg.hampStat 6 = false → exec (.hamperTempRead v) s =
    .next (((t.setHamp { t.hamp with rate := refreshFor s.hamp.rate v.toInt, tempSeen := true }).setBit Reg.hampStat 6 true).raise 214)) ∧
  (∀ (ag : Agent) (s : State), s.hampState = 1 → s.hamp.phase = .idle → exec (.hamperRetrain ag) s = .next (s.setHamp { s.hamp with phase := .draining })) ∧
  (∀ s : State, s.hamp.phase = .draining → (∀ e ∈ s.hamp.ports, e.2.reqs = []) → exec .hamperRetrainDrained s = .next (s.setHamp { s.hamp with phase := .training })) ∧
  (∀ s : State, s.hamp.phase = .draining → (∃ e ∈ s.hamp.ports, e.2.reqs ≠ []) →
    exec .hamperDrainTimeout s = .next ((s.setHamp { s.hamp with phase := .idle }).setBit Reg.hampErr 4 true)) ∧
  (∀ s : State, s.hamp.phase = .training → exec .hamperRetrainDone s = .next ((s.setHamp { s.hamp with phase := .idle }).raise 217)) ∧
  (∀ s : State, s.hampState = 3 → s.pwr.waking = true → s.bit Reg.hampStat 3 = s.bit Reg.hampCfg 0 →
    exec .hamperSelfRefreshExit s = .next ((s.setFld Reg.hampStat 1 0 1).raise 215)) ∧
  (∀ s : State, s.hampState = 3 → s.pwr.waking = true → s.bit Reg.hampStat 3 ≠ s.bit Reg.hampCfg 0 →
    exec .hamperSelfRefreshExit s = .next ((((s.setFld Reg.hampStat 1 0 1).setBit Reg.hampStat 3 (s.bit Reg.hampCfg 0)).hampScramble).raise 215))

/-- SYS_CLCTL with its key releases and resets cores; a watchdog starts and is kicked with a full count, fires first and resets its core at its second expiry.  A core's access reaches SRAM, manager
space, flash, the hamper, the window or a watchdog, and an address of no region is a bus error.  A window access meets an available port's queue, or is answered with all
ones and an error when the port is not available; a response, an error or the limit ends the read.  A master request is carried out here and its response waits, or goes out over Wale. -/
def Obligations.ClusterAndGatewayCommandsComplete : Prop :=
  (∀ (ag : Agent) (v : Word) (s : State), getBits v 31 16 = 0x3CA5 → s.coresHeld = false → exec (.clusterRunWrite ag v) s =
    .next ((List.range 4).foldl (fun t c => if getBit v c then t.coreRelease c else if t.coreRuns c then t.coreReset c else t) s)) ∧
  (∀ (i : Fin 5) (s : State), (s.wd i.val).en = false → exec (.wdEnable i) s =
    .next (s.setWd i.val { s.wd i.val with en := true, count := 400 * max 1 (s.wd i.val).load.toNat, stage := false })) ∧
  (∀ (i : Fin 5) (v : Word) (s : State), getBits v 31 16 = 0x6A95 → (s.wd i.val).en = true → exec (.wdKick i v) s =
    .next (s.setWd i.val { s.wd i.val with count := 400 * max 1 (s.wd i.val).load.toNat, stage := false })) ∧
  (∀ (i : Fin 5) (s : State), (s.wd i.val).en = true → s.mode = 6 ∨ s.mode = 7 → (s.wd i.val).stage = false → exec (.wdExpiry i) s =
    .next ((s.setWd i.val { s.wd i.val with stage := true, fired := true, count := (s.wd i.val).full }).raise (352 + i.val))) ∧
  (∀ (i : Fin 5) (s t : State), (s.wd i.val).en = true → s.mode = 6 ∨ s.mode = 7 → (s.wd i.val).stage = true → i.val < 4 →
    t = s.setWd i.val { s.wd i.val with stage := false, reset := true, count := (s.wd i.val).full } → t.coreRuns i.val = true →
    exec (.wdExpiry i) s = .next (((t.busDrop i.val).setBit Reg.sysClstat (4 + i.val) true).semAutoRelease (0x10 + i.val))) ∧
  (∀ (c : Fin 4) (a : BusAccess) (o : Nat) (s : State), s.coreRuns c.val = true → s.hubHeld = false → (s.waits.any fun j => j.line == c.val) = false →
    regionOf a.addr a.size = some (.sram, o) →
    exec (.clusterBusAccess c a) s = .next (s.busSram c a o)) ∧
  (∀ (c : Fin 4) (a : BusAccess) (o : Nat) (s : State), s.coreRuns c.val = true → s.hubHeld = false → (s.waits.any fun j => j.line == c.val) = false →
    regionOf a.addr a.size = some (.manager, o) →
    exec (.clusterBusAccess c a) s = .next (s.busManager c a o)) ∧
  (∀ (c : Fin 4) (a : BusAccess) (o : Nat) (s : State), s.coreRuns c.val = true → s.hubHeld = false → (s.waits.any fun j => j.line == c.val) = false →
    regionOf a.addr a.size = some (.flash, o) →
    exec (.clusterBusAccess c a) s = .next (s.busFlash c a o)) ∧
  (∀ (c : Fin 4) (a : BusAccess) (o : Nat) (s t : State), s.coreRuns c.val = true → s.hubHeld = false → (s.waits.any fun j => j.line == c.val) = false →
    regionOf a.addr a.size = some (.hamper, o) → s.busHamper c a o = some t → exec (.clusterBusAccess c a) s = .next t) ∧
  (∀ (c : Fin 4) (a : BusAccess) (o : Nat) (s t : State), s.coreRuns c.val = true → s.hubHeld = false → (s.waits.any fun j => j.line == c.val) = false →
    regionOf a.addr a.size = some (.window, o) → s.busWindow c a o = some t → exec (.clusterBusAccess c a) s = .next t) ∧
  (∀ (c : Fin 4) (a : BusAccess) (s : State), s.coreRuns c.val = true → s.hubHeld = false → (s.waits.any fun j => j.line == c.val) = false →
    regionOf a.addr a.size = none → exec (.clusterBusAccess c a) s = .next ((s.emit (.busError c)).raise 359)) ∧
  (∀ (c : Fin 4) (a : BusAccess) (s : State), s.coreRuns c.val = true → busUndescribed a = false →
    s.hubHeld = true ∨ (s.waits.any fun j => j.line == c.val) = true ∨ s.busTry c a = none →
    exec (.clusterBusAccess c a) s = .next { s with waits := s.waits ++ [.bus c a] }) ∧
  (∀ (ag : Agent) (r : WindowReq) (s : State), r.offset < 2 ^ 36 → s.hubHeld = false → (s.waits.any fun j => j.line == 8 + agentIdent ag) = false → 
    s.gwAvail (r.offset / 2 ^ 34) = true → (s.gw (r.offset / 2 ^ 34)).queue.length < 16 →
    r.write = true → exec (.gwWindowAccess ag r) s =
    .next (s.setGw (r.offset / 2 ^ 34) { s.gw (r.offset / 2 ^ 34) with queue := (s.gw (r.offset / 2 ^ 34)).queue ++ [(0, r)] })) ∧
  (∀ (ag : Agent) (r : WindowReq) (s : State), r.offset < 2 ^ 36 → s.hubHeld = false → (s.waits.any fun j => j.line == 8 + agentIdent ag) = false → 
    s.gwAvail (r.offset / 2 ^ 34) = true → (s.gw (r.offset / 2 ^ 34)).queue.length < 16 →
    r.write = false → (s.gw (r.offset / 2 ^ 34)).reads = [] → exec (.gwWindowAccess ag r) s = .next (s.setGw (r.offset / 2 ^ 34) { s.gw (r.offset / 2 ^ 34) with
      queue := (s.gw (r.offset / 2 ^ 34)).queue ++ [(0, r)], reads := [⟨r.tag.val, r.beats, .agent ag, false⟩] })) ∧
  (∀ (ag : Agent) (r : WindowReq) (s : State), r.offset < 2 ^ 36 → s.hubHeld = false → (s.waits.any fun j => j.line == 8 + agentIdent ag) = false → 
    s.gwAvail (r.offset / 2 ^ 34) = false → r.write = false → exec (.gwWindowAccess ag r) s =
    .next ((s.gwErr (r.offset / 2 ^ 34) 1).emit (.read ag (beatWords (List.replicate r.beats (BitVec.allOnes 64)))))) ∧
  (∀ (p : Fin 4) (tag : Fin 32) (data : List (BitVec 64)) (s : State) (r : GwRead), s.gwAvail p.val = true →
    (s.gw p.val).reads.find? (fun r => r.tag == tag.val && r.sent) = some r →
    exec (.gwWindowResponse p tag data false) s = .next (s.gwReadEnd p.val r (data.take r.beats))) ∧
  (∀ (p : Fin 4) (tag : Fin 32) (data : List (BitVec 64)) (s : State) (r : GwRead), s.gwAvail p.val = true →
    (s.gw p.val).reads.find? (fun r => r.tag == tag.val && r.sent) = some r → exec (.gwWindowResponse p tag data true) s =
    .next ((s.gwErr p.val 2).gwReadEnd p.val r (List.replicate r.beats (BitVec.allOnes 64)))) ∧
  (∀ (p : Fin 4) (tag : Fin 32) (s : State) (r : GwRead), (s.gw p.val).reads.find? (fun r => r.tag == tag.val) = some r →
    exec (.gwWindowTimeout p tag) s = .next ((s.gwErr p.val 0).gwReadEnd p.val r (List.replicate r.beats (BitVec.allOnes 64)))) ∧
  (∀ (p : Fin 4) (r : MasterReq) (s u t : State) (status : Nat) (ws : List Word), s.gwAvail p.val = true → s.hubHeld = false → r.len ≤ 128 →
    (s.gw p.val).tags.contains r.tag.val = false → r.remote = false → masterAnswered r = true → (s.waits.any fun j => j.line == 4 + p.val) = false →
    u = s.setGw p.val { s.gw p.val with tags := (s.gw p.val).tags ++ [r.tag.val] } → u.masterLocal p.val r = some (status, ws, t) →
    exec (.gwMasterRequest p r) s = .next (t.setGw p.val { t.gw p.val with done := (t.gw p.val).done ++ [(r.tag.val, status, ws)] })) ∧
  (∀ (p : Fin 4) (r : MasterReq) (s : State), s.gwAvail p.val = true → s.hubHeld = false → r.len ≤ 128 →
    (s.gw p.val).tags.contains r.tag.val = false → r.remote = true →
    exec (.gwMasterRequest p r) s = .next ((s.masterAway p.val r).settle settleFuel)) ∧
  (∀ (p : Fin 4) (tag : Fin 32) (s : State) (status : Nat) (ws : List Word), s.gwAvail p.val = true → (s.gw p.val).tags.contains tag.val = true →
    s.gwCollect p.val tag.val = some (status, ws) → exec (.gwMasterDone p tag) s =
    .next ((s.gwRespond p.val tag.val).emit (.gwMaster p.val tag.val status ws)))

/-- A raise of a source whose PEND is 0, by hardware, a user line whose bay is not clamped or EVT_RAISE, sets PEND and sends what a port newly presented is due; one while PEND is 1
changes nothing.  A claim returns 0 and changes nothing when no source is presented to the core; else it returns, with VALID, a
presented source such that every other presented source has a lower PRI, or an equal PRI and a higher number, and clears its PEND. -/
def Obligations.EventsAreRaisedAndClaimed : Prop :=
  (∀ (n : Fin 448) (s : State), s.eventsRun = true → s.bit (Reg.evtSrc n.val) 31 = false →
    exec (.eventRaise n) s = .next (State.msixAfter s n.val (s.setBit (Reg.evtSrc n.val) 31 true))) ∧
  (∀ (n : Fin 448) (s : State), s.bit (Reg.evtSrc n.val) 31 = true → exec (.eventRaise n) s = .next s) ∧
  (∀ (w : Fin 2) (j : Fin 32) (s : State), s.clamped (48 * w.val + 6 * (j.val % 8) + j.val / 8) = false →
    exec (.userEventEdge w j) s = .next (s.raise (384 + 32 * w.val + j.val))) ∧
  (∀ (ag : Agent) (v : Word) (s : State), getBits v 8 0 ≤ 447 → exec (.evtRaiseWrite ag v) s = .next (s.raise (getBits v 8 0))) ∧
  (∀ (ag : Agent) (c : Fin 4) (s : State), (∀ m < 448, s.presented m c.val = false) → exec (.evtClaim ag c) s = .next (s.emit (.read ag [0]))) ∧
  (∀ (ag : Agent) (c : Fin 4) (s : State) (n : Nat), n < 448 → s.presented n c.val = true →
    (∀ m < 448, s.presented m c.val = true → m ≠ n → s.fld (Reg.evtSrc m) 2 0 < s.fld (Reg.evtSrc n) 2 0 ∨
      s.fld (Reg.evtSrc m) 2 0 = s.fld (Reg.evtSrc n) 2 0 ∧ n < m) →
    exec (.evtClaim ag c) s = .next ((s.setBit (Reg.evtSrc n) 31 false).emit (.read ag [BitVec.ofNat 32 (n + 2 ^ 31)])))

/-- A legal level request with no request pending and no ramp becomes pending; a ramp's end sets the levels.  A mode request that no reason refuses enters DOZE or starts the drain for SLEEP or STANDBY; a drain that
ends proceeds to the entry, one that times out is refused with its domain; SLEEP is entered once the ramps have ended.  A wake source that is enabled records itself and wakes the device; the timer
fires once.  A reading over 115 °C trips, regulator faults and warnings set their bits; a PROGRAM_N edge or SYS_CTL reloads the device. -/
def Obligations.PowerCommandsComplete : Prop :=
  (∀ (ag : Agent) (v w : Word) (s t : State), s.mayWrite ag Reg.pwrPlreq = true → w = putBit v 16 true → t = s.plainWrite Reg.pwrPlreq w →
    s.pwr.asked = none → s.ramps = false → s.mode = 6 ∨ s.mode = 7 → getBit w 3 = true → getBits w 2 0 ≠ 0 → getBit w 7 = true → getBits w 6 4 ≠ 0 →
    getBits w 13 8 < 56 → exec (.plRequest ag v) s = .next (t.setAsked (some w))) ∧
  (∀ (s : State), s.ramps = true → s.rampLevels.pwr.undoze = false → s.rampLevels.pwr.waiting = 0 → exec .plRampDone s = .next s.rampLevels) ∧
  (∀ (ag : Agent) (s t : State), s.mayWrite ag Reg.pwrMreq = true → t = s.plainWrite Reg.pwrMreq 0x11#32 → t.modeCheck 1 = none →
    t.pwr.asked = none → t.ramps = false → t.mode = 6 → exec (.modeRequestDoze ag) s = .next t.dozeEnter) ∧
  (∀ (ag : Agent) (s t : State), s.mayWrite ag Reg.pwrMreq = true → t = s.plainWrite Reg.pwrMreq 0x12#32 → t.modeCheck 2 = none →
    t.pwr.asked = none → t.sndAbort.ramps = false → t.sndAbort.mode = 6 → exec (.modeRequestSleep ag) s = .next (t.sndAbort.drainStart 9)) ∧
  (∀ (ag : Agent) (s t : State), s.mayWrite ag Reg.pwrMreq = true → t = s.plainWrite Reg.pwrMreq 0x13#32 → t.modeCheck 3 = none →
    t.pwr.asked = none → t.sndAbort.ramps = false → t.sndAbort.mode = 6 → exec (.modeRequestStandby ag) s = .next (t.sndAbort.drainStart 0xA)) ∧
  (∀ s : State, s.pwr.entering = 9 → s.pwr.drained = false → s.undrained = [] → s.mode = 6 → exec .quiesceDone s = .next s.sleepSteps) ∧
  (∀ s : State, s.pwr.entering = 0xA → s.pwr.drained = false → s.undrained = [] → s.mode = 6 → exec .quiesceDone s = .next s.standbyEnter) ∧
  (∀ (busy : BitVec 4) (s : State) (d : Nat), s.pwr.entering ≠ 0 → s.pwr.drained = false →
    [1, 2, 3, 4].find? (fun d => s.undrained.contains d || busy.getLsbD (d - 1)) = some d →
    exec (.quiesceTimeout busy) s = .next ((s.drainEnd).pwrResult 0x13 1 d)) ∧
  (∀ s t : State, s.pwr.entering = 9 → s.pwr.drained = true → s.ramps = false → s.sndPhase ≠ 3 →
    t = ((((s.setPwr { s.pwr with entering := 0, drained := false }).setMstate 0).enterMode 9).raise 242).pwrResult 2 1 0 → t.pwr.waking = false →
    exec .sleepEntered s = .next t) ∧
  (∀ (src : Fin 8) (port : Fin 2) (s : State), s.mode = 9 → s.bit Reg.pwrWakeen src.val = true → src.val ≠ 2 → src.val ≠ 3 →
    s.pwr.entering = 0 → s.pwr.undoze = false → s.pwr.waking = false → (src.val = 6 → s.waleWakes = true) → (s.wakeRecord true src.val port.val 9).mode = 9 →
    exec (.wakeSource src port) s = .next (s.wakeRecord true src.val port.val 9).sleepWake) ∧
  (∀ s : State, s.rd Reg.pwrWtimer ≠ 0 → exec .wakeTimerExpiry s = .next ((s.wr Reg.pwrWtimer 0).wakeSource 1 0)) ∧
  (∀ s : State, s.mode = 9 → s.pwr.waking = true → s.ramps = false → s.hubOnSynth = true → s.hampState ≠ 3 →
    exec (.sleepWakeRun ⟨[], [], false⟩) s = .next s.waleWake.wokenRun) ∧
  (∀ (bays hub : List (BitVec 8)) (s t u : State), s.mode ≠ 0xA → s.mode ≠ 1 →
    t = (List.range 64).foldl (fun t n => t.wr (Reg.pwrTemp n) (tempReg (t.rd (Reg.pwrTemp n)) (!s.pwr.temps.isEmpty) (bays.getD n 0).toInt)) s →
    u = (t.wr Reg.pwrThub (tempReg (t.rd Reg.pwrThub) (!s.pwr.temps.isEmpty) (hottest hub))).wr Reg.pwrTstat (BitVec.ofNat 32 (tempByte (hottest ((bays.drop 0).take 48)) +
      2 ^ 8 * tempByte (hottest ((bays.drop 48).take 48)) + 2 ^ 16 * (hottest ((bays.drop 0).take 48) - coolest ((bays.drop 0).take 48)).toNat +
      2 ^ 24 * (hottest ((bays.drop 48).take 48) - coolest ((bays.drop 48).take 48)).toNat)) →
    max (hottest bays) (hottest hub) ≤ 115 → exec (.thermalSample bays hub) s = .next (((((u.setPwr { u.pwr with temps := bays ++ hub }).gradientTest 0
      (hottest ((bays.drop 0).take 48) - coolest ((bays.drop 0).take 48)) 20 18).gradientTest 1 (hottest ((bays.drop 48).take 48) -
      coolest ((bays.drop 48).take 48)) 20 18).gradientTest 2 (hottest ((bays.drop 0).take 48) - hottest ((bays.drop 48).take 48)).natAbs 25 23).tempWarning
      (max (hottest bays) (hottest hub)))) ∧
  (∀ (r : Fin 26) (s t : State), t = s.setBoot { s.boot with vin := true } → exec (.regulatorFault r) s = .next ((t.setBit (Reg.pwrRail r.val) 18 true).trip 7 r.val)) ∧
  (∀ (r : Fin 26) (s : State), exec (.railWarning r) s = .next (((s.setBit (Reg.pwrRail r.val) 17 true).setBit Reg.pwrErr 1 true).raise 290)) ∧
  (∀ s : State, exec .vinLow s = .next ((s.setBit Reg.pwrErr 2 true).raise 291)) ∧
  (∀ s : State, s.keys.bbr ≠ 0 → exec .vbatLow s = .next ((s.setBit Reg.pwrErr 3 true).raise 292)) ∧
  (∀ s t : State, t = { s with boot := { s.boot with programLow := true } } → s.mode = 4 ∨ s.mode = 5 ∨ s.mode = 6 ∨ s.mode = 7 →
    s.pwr.drained = false → exec .programNFall s = .next (t.reloadNow 2)) ∧
  (∀ s t : State, t = { s with boot := { s.boot with programLow := false } } → s.mode = 4 → s.boot.attemptDue = true → exec .programNRise s = .next t.nextAttempt) ∧
  (∀ s t : State, t = { s with boot := { s.boot with programLow := false } } → s.mode ≠ 4 ∨ s.boot.attemptDue = false → exec .programNRise s = .next t) ∧
  (∀ (ag : Agent) (v : Word) (s : State), getBits v 31 16 = 0xA5C3 → getBit v 0 = true → s.mode = 4 ∨ s.mode = 5 ∨ s.mode = 6 ∨ s.mode = 7 →
    s.pwr.drained = false → exec (.sysCtlReload ag v) s = .next (s.reloadNow 3))

/-- A fall of VIN restarts the block in POWER-UP; power-up that completes starts the keeper and latches the straps; RESET_N low drops the ports and the flash operation, its rise starts the keeper again.  The
keeper's boot ends in FACTORY TEST, START TEST or SAFE HOLD by the life-cycle state, START TEST in LOADING or SAFE HOLD.  A ready part commits, leaves INIT hold and enables its outputs in
order; a late priority stage is deferred; the main parts commit together; release follows the same order, ends when DONE is high, or fails into SAFE HOLD. -/
def Obligations.StartAndReleaseCommandsComplete : Prop :=
  (∀ s t : State, t = s.restart → exec .vinFall s =
    .next (({ t with keys := { t.keys with ir := 1, token := none }, boot := { t.boot with vin := false } } : State).wr Reg.sysMode (BitVec.ofNat 32 (1 + 16 * s.mode)))) ∧
  (∀ (straps : BitVec 7) (s t : State), s.mode = 1 → (∀ o ∈ railRegs, s.bit o 18 = false) → t = s.keeperStart 0 → exec (.powerUpComplete straps) s =
    .next ((t.setBoot { t.boot with ticks := s.boot.ticks, start := s.boot.start, vin := true }).strapLatch straps)) ∧
  (∀ s : State, exec .resetNFall s =
    .next (({ s with boot := { s.boot with resetLow := true, pullups := true } } : State).walePortsDrop).flashAbandon) ∧
  (∀ s t : State, s.boot.resetLow = true → t = { s with boot := { s.boot with resetLow := false } } → s.powerStopped = true → exec .resetNRise s = .next t) ∧
  (∀ s t : State, s.boot.resetLow = true → t = { s with boot := { s.boot with resetLow := false } } → s.powerStopped = false → exec .resetNRise s =
    .next (railRegs.foldl (fun u o => u.setBit o 18 (s.bit o 18)) (State.keepRegs s (t.keeperStart 1) [Reg.lcZcause]))) ∧
  (∀ (straps : BitVec 7) (s : State), s.mode = 2 → s.boot.latchDue = true → exec (.strapLatch straps) s = .next (s.strapLatch straps)) ∧
  (∀ (agree xref vinOk : Bool) (s t : State), s.mode = 2 → s.boot.latchDue = false → t = s.keeperWork agree xref →
    exec (.keeperBootComplete agree xref vinOk) s = .next (t.keeperEnds vinOk)) ∧
  (∀ (v : Bool) (s : State), s.lcState < 2 → s.keeperEnds v = s.factory) ∧
  (∀ (v : Bool) (s : State), 2 ≤ s.lcState → s.lcState < 4 → s.keeperEnds v = s.startTest) ∧
  (∀ (v : Bool) (s u : State), s.lcState = 4 → s.testToken v = (true, u) → s.keeperEnds v = u.factory) ∧
  (∀ (v : Bool) (s u : State), s.lcState = 4 → s.testToken v = (false, u) → s.keeperEnds v = u.startTest) ∧
  (∀ (v : Bool) (s : State), s.lcState = 5 → s.keeperEnds v = s.enterSafe 4 0) ∧
  (∀ (v : Bool) (s : State), 5 < s.lcState → s.keeperEnds v = s.enterSafe 3 0) ∧
  (∀ (rep : SoundReport) (s t u : State), s.mode = 3 → s.unrepairedMark = false → s.soundBays ((List.range 96).filter s.boot.prioBays.testBit) rep = (t, []) →
    t.fld Reg.sndBoot 7 0 = 0 → u = (t.journal 0x02 jPass 0 t.bootSource 0 0) → exec (.startTestComplete true rep) s =
    .next (((u.keyLoad).setBoot { u.boot with tested := true }).loadingEntry.step6 s.boot.prioBays)) ∧
  (∀ s : State, s.mode = 4 → s.boot.programLow = false → 2 ≤ s.fld Reg.sysBoot 1 0 → s.dirField BootDir.srcWait 0 ≠ 0 → s.boot.reading = true → s.boot.tried = [] → s.eng.arrived = false →
    s.boot.calPend &&& s.boot.srcQuads = 0 → exec .srcWaitExpiry s = .next (s.enterSafe 1 0)) ∧
  (∀ (s t : State) (j : PartJob), s.boot.prioJob = some j → s.mode = 4 → j.ready = true → s.boot.prioPhase = .idle → s.hubOnSynth = true →
    t = (unitsOf j.bays j.edge).foldl (fun t u => t.setBond u false) (s.partCommit j) →
    exec .priorityCommit s = .next { t with boot := { t.boot with prioPhase := .bond, prioJob := none } }) ∧
  (∀ s : State, s.mode = 4 → s.boot.prioPhase = .bond →
    exec .priorityInitLeave s = .next { s.leaveInit s.boot.prioBound with boot := { s.boot with prioPhase := .init } }) ∧
  (∀ s t : State, s.mode = 4 → s.boot.prioPhase = .init → t = (((({ s with boot := { s.boot with prioPhase := .outputs } } : State).enableOuts
      s.boot.prioEdge).setBit Reg.sysMode 8 true).wr Reg.sysTPrio s.bootUs).raise 178 →
    exec .priorityOutputEnable s = .next (t.journal 0x06 jPass 0 t.bootSource 0 0)) ∧
  (∀ s : State, s.mode = 4 → s.boot.prioLate = false → s.boot.prioPhase = .idle → s.boot.prioJob.isSome = true →
    exec .priorityStageTimeout s = .next (({ s with boot := { s.boot with prioLate := true } } : State).prioDefer jFail)) ∧
  (∀ s t : State, s.mode = 4 → s.boot.prioLate = false → s.boot.prioPhase = .bond → t = { s with boot := { s.boot with prioLate := true } } →
    exec .priorityStageTimeout s = .next (((unitsOf s.boot.prioBound 0).foldl (fun t b => t.bayInit b) (t.bondStart (unitsOf s.boot.prioBound s.boot.prioEdge))).prioDefer jFail)) ∧
  (∀ (s t u : State) (js : List PartJob), s.mainReady = some js → t = js.foldl State.partCommit s →
    u = (t.setBoot { t.boot with committed := true, attempt := false, reading := false, mainJob := none, prioJob := none }) →
    exec .mainCommit s = .next ((u.journalFlush).journal 0x05 jPass 0 u.bootSource 0 0)) ∧
  (∀ s t : State, s.mode = 4 → s.boot.committed = true → s.boot.xwaitDone = true → t = { s.enterMode 5 with
    boot := { s.boot with relBays := s.releaseSets.1, relEdge := s.releaseSets.2, rel := .waitDone } } →
    exec .releaseStart s = .next (if s.dirField BootDir.doneLate false then t.driveDone false else t.bondRelease)) ∧
  (∀ s : State, s.mode = 5 → s.boot.rel = .bond →
    exec .releaseInitLeave s = .next { s.leaveInit s.boot.relBays with boot := { s.boot with rel := .init } }) ∧
  (∀ s t : State, s.mode = 5 → s.boot.rel = .init → t = { s.enableOuts s.boot.relEdge with boot := { s.boot with rel := .outputs } } →
    exec .releaseOutputEnable s = .next (if s.dirField BootDir.doneLate false then t.enterRun else t)) ∧
  (∀ s : State, s.mode = 5 → s.boot.rel = .outputs →
    exec .releaseDoneRelease s = .next ((s.driveDone false).setBoot { (s.driveDone false).boot with rel := .waitDone })) ∧
  (∀ s : State, s.mode = 5 → s.boot.rel = .waitDone → s.dirField BootDir.waleDone false = false → exec .doneHigh s =
    .next (if s.dirField BootDir.doneLate false then s.bondRelease else s.enterRun)) ∧
  (∀ s t : State, s.mode = 5 → s.boot.rel = .waitDone → s.dirField BootDir.doneWait 0 ≠ 0 →
    t = ((List.range 16).filter s.boot.relEdge.testBit).foldl (fun t k => t.setOut k false) ((unitsOf s.boot.relBays 0).foldl (fun t b => t.bayInit b)
      (s.bondStart (unitsOf s.boot.relBays s.boot.relEdge))) → exec .doneWaitExpiry s = .next ((t.journal 0x09 jFail 0 t.bootSource 0 0).enterSafe 5 0)) ∧
  (∀ s t : State, s.boot.eraseDue = true → s.mode ≠ 4 → s.semOwner 1 = 0 ∨ s.holds .keeper 1 = true →
    t = s.setFld (Reg.sem 1) 15 0 (agentIdent .keeper) → t.flashOpBusy = false → exec .journalEraseStart s = .next t.journalErase) ∧
  (∀ s : State, s.boot.eraseDue = true → s.mode ≠ 4 → s.semOwner 1 ≠ 0 → s.holds .keeper 1 = false →
    exec .journalEraseStart s = .next (s.setBit (Reg.sem 1) 16 true)) ∧
  (∀ (ag : Agent) (v : Word) (s : State), exec (.bootClear ag v) s = .next (s.bootClrWrite v)) ∧
  (∀ (b : Fin 16) (s : State), s.boot.repower.contains b.val = true → exec (.bankRepower b) s =
    .next ((s.setRail (10 + b.val) true).setBoot { s.boot with repower := s.boot.repower.filter (· != b.val) })) ∧
  (∀ s : State, s.boot.xwaitDone = false → exec (.xwaitExpiry true) s =
    .next ((({ s with boot := { s.boot with xwaitDone := true } } : State).setBit Reg.clkStatus 8 true).setBit Reg.clkStatus 4 true))

/-- A GO outside a sounding is refused with the first code of R442 that applies and EV306, waits while the engine's gate is applied, or starts the copy; a GO during a
sounding is refused BUSY.  ABORT stops a copy, turns a test into the move back, with ABANDONED and EV306.  When the copy ends the spare serves and the test runs; a run that
passes moves back; one that fails in one or two row-pairs of a creel with no row-pair repair is repaired and runs again; any other failure leaves the spare in, FAILED, with EV305.
The end of the move back returns the original and reports PASS with EV304 or REPAIRED with EV307.  A batch of LOADING repairs what it can, reports the bays it
cannot, marks a soft repair in the journal, removes the bays from those to be sounded and lets the stream go on. -/
def Obligations.SoundingCommandsComplete : Prop :=
  (∀ (ag : Agent) (v : Word) (s t : State) (code : Nat), t = s.plainWrite Reg.sndReq (putBit v 31 true) → getBit v 30 = false → s.sndPhase = 0 →
    t.sndCheck (getBits (putBit v 31 true) 13 0) (getBits (putBit v 31 true) 17 16) = some code →
    exec (.soundingRequest ag v) s = .next ((t.sndResult code).raise 306)) ∧
  (∀ (ag : Agent) (v : Word) (s t : State), t = s.plainWrite Reg.sndReq (putBit v 31 true) → getBit v 30 = false → s.sndPhase ≠ 0 →
    exec (.soundingRequest ag v) s = .next ((t.sndResult 0x11).raise 306)) ∧
  (∀ (ag : Agent) (v : Word) (s t u : State), t = s.plainWrite Reg.sndReq (putBit v 31 true) → getBit v 30 = false → s.sndPhase = 0 →
    t.sndCheck (getBits (putBit v 31 true) 13 0) (getBits (putBit v 31 true) 17 16) = none →
    u = { t with snd := { t.snd with creel := getBits (putBit v 31 true) 13 0, algo := getBits (putBit v 31 true) 17 16, again := false, res := 0 } } →
    exec (.soundingRequest ag v) s = .next (if u.blockGated 57 then u.setFld Reg.sndStat 2 0 4
      else (((u.copyArray u.snd.creel (spareArray u.snd.creel)).setCopying u.snd.creel true).setBit Reg.sndStat 3 false).setFld Reg.sndStat 2 0 1)) ∧
  (∀ (ag : Agent) (s t : State), t = s.plainWrite Reg.sndReq (putBit (putBit (s.rd Reg.sndReq) 30 true) 31 false) → t.sndPhase = 1 →
    exec (.soundingAbort ag) s = .next ((((t.setCopying t.snd.creel false).setFld Reg.sndStat 2 0 0).sndResult 0x15).raise 306)) ∧
  (∀ (ag : Agent) (s t : State), t = s.plainWrite Reg.sndReq (putBit (putBit (s.rd Reg.sndReq) 30 true) 31 false) → t.sndPhase = 2 →
    exec (.soundingAbort ag) s = .next (((t.sndBack 0).sndResult 0x15).raise 306)) ∧
  (∀ s : State, s.sndPhase = 1 →
    exec .soundingCopyDone s = .next (((s.setCopying s.snd.creel false).setSteer s.snd.creel true).setFld Reg.sndStat 2 0 2)) ∧
  (∀ (r : SoundRun) (s t u : State), s.sndPhase = 2 → r.rowpairs = 0 → r.sig = r.ref → t = s.sndRun r →
    u = { t with snd := { t.snd with res := if s.snd.again then 3 else 1 } } →
    exec (.soundingRunDone r) s = .next (((u.copyArray (spareArray t.snd.creel) t.snd.creel).setCopying t.snd.creel true).setFld Reg.sndStat 2 0 3)) ∧
  (∀ (r : SoundRun) (s t u : State), s.sndPhase = 2 → r.rowpairs = 1 ∨ r.rowpairs = 2 → t = s.sndRun r → s.snd.again = false →
    s.rowsUsed s.snd.creel = 0 → u = t.rowRepairs s.snd.creel r.rowpairs.toNat (some (r.word.toNat / 4)) →
    exec (.soundingRunDone r) s = .next (({ u with snd := { u.snd with again := true } } : State).setBit Reg.sndStat 3 false)) ∧
  (∀ (r : SoundRun) (s t : State), s.sndPhase = 2 → 2 < r.rowpairs.toNat → t = s.sndRun r →
    exec (.soundingRunDone r) s = .next ((((t.useSpare (s.snd.creel / 30)).setFld Reg.sndStat 2 0 0).sndResult 2).raise 305)) ∧
  (∀ (r : SoundRun) (s t : State), s.sndPhase = 2 → r.rowpairs ≠ 0 → t = s.sndRun r → s.snd.again = true ∨ s.rowsUsed s.snd.creel ≠ 0 →
    exec (.soundingRunDone r) s = .next ((((t.useSpare (s.snd.creel / 30)).setFld Reg.sndStat 2 0 0).sndResult 2).raise 305)) ∧
  (∀ s t : State, s.sndPhase = 3 → t = ((s.setSteer s.snd.creel false).setCopying s.snd.creel false).setFld Reg.sndStat 2 0 0 →
    exec .soundingMoveBackDone s = .next (if s.snd.res = 0 then t else (t.sndResult s.snd.res).raise (if s.snd.res = 3 then 307 else 304))) ∧
  (∀ (rep : SoundReport) (s t u : State), s.mode = 4 → s.boot.unsounded ≠ 0 →
    t = (s.soundBays s.nextBatch rep).2.foldl State.unrepairable (s.soundBays s.nextBatch rep).1 →
    u = (if t.fld Reg.sndBoot 7 0 = s.fld Reg.sndBoot 7 0 then t else t.journal 0x02 jAltered 0 t.bootSource 0 0) →
    exec (.loadingSoundingBatchDone rep) s = .next ({ u with boot := { u.boot with
      unsounded := s.nextBatch.foldl (fun m b => m &&& (2 ^ 96 - 1 - 2 ^ b)) u.boot.unsounded } } : State).engineResume)

/-- FUSE_BURN with its key while no burn runs is refused with POLICY, FULL, KIND or SPARE_TAKEN, or starts the burn of the kind, creel and row-pair that SND_FUSE holds; without the key nothing
changes.  The end of the burn adds the fuse, counts it, clears BUSY, reports DONE, takes effect as a soft repair and raises EV308.  STALE_CLEAR with its key clears the record
and the output.  A scrub step checks the next pair of words of a creel whose scrub is on: a single-bit error waits for its write-back and pulses SCRUB_SBE, a double-bit
error pulses SCRUB_DBE, and the write-back writes the corrected pair. -/
def Obligations.RepairAndScrubCommandsComplete : Prop :=
  (∀ (ag : Agent) (v : Word) (s : State), getBits v 31 16 ≠ 0x96C3 → exec (.fuseBurn ag v) s = .next s) ∧
  (∀ (ag : Agent) (v : Word) (s : State), getBits v 31 16 = 0x96C3 → getBit v 0 = true → s.bit Reg.sndFusestat 0 = false →
    s.lcState = 2 ∨ s.lcState = 3 ∨ s.lcState = 4 →
    exec (.fuseBurn ag v) s = .next (
      if 256 ≤ s.snd.fuses.length then s.setFld Reg.sndFusestat 3 1 3
      else if 2 ≤ s.fld Reg.sndFuse 15 14 ∨ 11520 ≤ s.fld Reg.sndFuse 13 0 then s.setFld Reg.sndFusestat 3 1 5
      else if s.fld Reg.sndFuse 15 14 = 1 ∧ s.spareTaken (s.fld Reg.sndFuse 13 0) then s.setFld Reg.sndFusestat 3 1 4
      else ((s.setFld Reg.sndFusestat 3 1 0).setBit Reg.sndFusestat 0 true).setSnd
        { s.snd with burn := some (s.fld Reg.sndFuse 15 14, s.fld Reg.sndFuse 13 0, s.fld Reg.sndFuse 23 16) })) ∧
  (∀ (ag : Agent) (v : Word) (s : State), getBits v 31 16 = 0x96C3 → getBit v 0 = true → s.bit Reg.sndFusestat 0 = false →
    s.lcState ≠ 2 → s.lcState ≠ 3 → s.lcState ≠ 4 → exec (.fuseBurn ag v) s = .next (s.setFld Reg.sndFusestat 3 1 2)) ∧
  (∀ (s t u : State) (e : Nat × Nat × Nat), s.snd.burn = some e →
    t = ({ s with snd := { s.snd with burn := none, fuses := s.snd.fuses ++ [e] } } : State).fuseCount →
    u = (t.setBit Reg.sndFusestat 0 false).setFld Reg.sndFusestat 3 1 1 →
    exec .fuseBurnDone s = .next ((
      if e.1 = 0 then (if u.snd.rowPairs.contains e.2 ∨ 2 ≤ u.rowsUsed e.2.1 then u else ((u.rowRepair e.2.1 e.2.2).rowLost e.2.1 e.2.2).raise 307)
      else if u.steered e.2.1 then u.useSpare (e.2.1 / 30)
      else (((u.clearArray (spareArray e.2.1)).spareRepair e.2.1).makeStale e.2.1).raise 307).raise 308)) ∧
  (∀ (ag : Agent) (v : Word) (s : State), getBits v 31 16 = 0x5AC3 → getBits v 13 0 < 11520 →
    exec (.staleClear ag v) s = .next ({ s with fab := { s.fab with stale := Store.set (fun _ => false) s.fab.stale (getBits v 13 0) false, staleRec := Store.set (fun _ => false) s.fab.staleRec (getBits v 13 0) false } } : State).staleReport) ∧
  (∀ (n : Fin 11520) (s : State) (st : CreelSt) (a : Nat) (r : Nat × Bool × Bool), s.activeCreels (n.val / 120) ≠ [] → s.initHold (n.val / 120) = false →
    (s.creelCfg n.val).scrubOn = true → a = (s.creel n.val).scrubPos % 512 → st = { s.creel n.val with scrubPos := (a + 1) % 512 } →
    r = eccDecode (s.creelBits n.val (portBits true 6 a)) → exec (.creelScrubStep n) s = .next (s.setCreel n.val (
      if r.2.1 then { st with scrubWrite := some (a, r.1), scrubPulse := some (false, a) }
      else if r.2.2 then { st with scrubPulse := some (true, a) } else { st with scrubPulse := none }))) ∧
  (∀ (n : Fin 11520) (s t : State) (a v : Nat), s.initHold (n.val / 120) = false → (s.creelCfg n.val).scrubOn = true → (s.creel n.val).scrubWrite = some (a, v) →
    t = s.applyWrites n.val (((portBits true 6 a).zip (List.range 72)).map (fun e => (e.1, v.testBit e.2))) →
    exec (.creelScrubWriteBack n) s = .next (t.setCreel n.val { t.creel n.val with scrubWrite := none }))

/-- A GO by the holder of SEM2, whichever request LC_REQBUF holds, is refused MODE in a mode that accepts none, leaving BUSY as it is, refused BUSY while a request
runs, which goes on, and otherwise takes the 272 bytes for verification with BUSY set; each refusal raises EV313.  A complete token presented by JTAG in SEALED is taken
in the same way with no semaphore.  CLR zeroes LC_REQBUF and CLOSE ends the debug session. -/
def Obligations.RequestsFollowR458 : Prop :=
  (∀ (ag : Agent) (s : State) (c : Instr), c ∈ [Instr.lcTransition ag, .lcSetOwner ag, .lcSetKeyFuse ag, .lcLoadKeyBbr ag, .lcClearKeyBbr ag, .lcDebugToken ag false] →
    s.mayWrite ag Reg.lcReqctl = true → s.lcGoMode = false →
    exec c s = .next (((s.lcResult false 0x1D).raise 313).setBit Reg.lcReqstat 0 (s.bit Reg.lcReqstat 0))) ∧
  (∀ (ag : Agent) (s : State) (c : Instr), c ∈ [Instr.lcTransition ag, .lcSetOwner ag, .lcSetKeyFuse ag, .lcLoadKeyBbr ag, .lcClearKeyBbr ag, .lcDebugToken ag false] →
    s.mayWrite ag Reg.lcReqctl = true → s.lcGoMode = true → s.bit Reg.lcReqstat 0 = true →
    exec c s = .next (((s.lcResult false 0x1A).raise 313).setBit Reg.lcReqstat 0 true)) ∧
  (∀ (ag : Agent) (s : State), s.mayWrite ag Reg.lcReqctl = true → s.lcGoMode = true → s.bit Reg.lcReqstat 0 = false →
    exec (.lcTransition ag) s = .next (({ s with keys := { s.keys with req := some ⟨false, s.reqBuffer, none, false⟩ } } : State).setBit Reg.lcReqstat 0 true) ∧
    exec (.lcSetOwner ag) s = .next (({ s with keys := { s.keys with req := some ⟨false, s.reqBuffer, none, false⟩ } } : State).setBit Reg.lcReqstat 0 true) ∧
    exec (.lcSetKeyFuse ag) s = .next (({ s with keys := { s.keys with req := some ⟨false, s.reqBuffer, none, false⟩ } } : State).setBit Reg.lcReqstat 0 true) ∧
    exec (.lcLoadKeyBbr ag) s = .next (({ s with keys := { s.keys with req := some ⟨false, s.reqBuffer, none, false⟩ } } : State).setBit Reg.lcReqstat 0 true) ∧
    exec (.lcClearKeyBbr ag) s = .next (({ s with keys := { s.keys with req := some ⟨false, s.reqBuffer, none, false⟩ } } : State).setBit Reg.lcReqstat 0 true) ∧
    exec (.lcDebugToken ag false) s = .next (({ s with keys := { s.keys with req := some ⟨false, s.reqBuffer, none, false⟩ } } : State).setBit Reg.lcReqstat 0 true)) ∧
  (∀ (ag : Agent) (s : State) (b : List Byte), s.keys.token = some b → s.lcState = 3 → s.mode ≠ 1 → s.mode ≠ 0xA →
    exec (.lcDebugToken ag true) s = .next (if s.bit Reg.lcReqstat 0 then ((s.lcResult true 0x1A).raise 313).setBit Reg.lcReqstat 0 true
      else ({ s with keys := { s.keys with req := some ⟨true, b, none, false⟩ } } : State).setBit Reg.lcReqstat 0 true)) ∧
  (∀ (ag : Agent) (s : State), s.mayWrite ag Reg.lcReqctl = true →
    exec (.lcReqbufClear ag) s = .next ((List.range 128).foldl (fun t i => t.wr (Reg.lcReqbuf i) 0) s)) ∧
  (∀ (ag : Agent) (s : State), s.mayWrite ag Reg.lcDebug = true → exec (.debugClose ag) s = .next (s.wr Reg.lcDebug 0))

/-- A verified request that a check of R458 fails ends with that check's result and EV313; one that passes begins its burns, and one that leads into RETURN or SCRAP zeroises KEY_BBR and
clears the key register first.  When every fuse has burnt the request acts by its type and ends DONE with EV312: PENDING and NEXT for a transition, the KEY_FUSE
entry filled, KEY_BBR loaded unless a tamper came, which ends it TAMPER, KEY_BBR zeroised, or the debug session opened with EV314.  A fuse that does not read blown
ends it BURN_FAIL with the fuses before it blown.  A tamper source zeroises KEY_BBR with its cause, the pin only while PIN_EN is 1, and so does a firmware write with its key. -/
def Obligations.BurnsFollowR457 : Prop :=
  (∀ (vinOk : Bool) (s : State) (r : LcReq) (code : Nat), s.keys.req = some r → r.burning = none → reqCheck s.keys.fuses s.lcState r.jtag r.bytes vinOk = some code →
    exec (.lcRequestVerified vinOk) s = .next ((({ s with keys := { s.keys with req := none } } : State).lcResult r.jtag code).raise 313)) ∧
  (∀ (vinOk : Bool) (s : State) (r : LcReq), s.keys.req = some r → r.burning = none →
    exec (.lcRequestVerified vinOk) s = .next (match reqCheck s.keys.fuses s.lcState r.jtag r.bytes vinOk with
      | some code => (({ s with keys := { s.keys with req := none } } : State).lcResult r.jtag code).raise 313
      | none => if reqLeaves r.bytes then
          ((({ s with keys := { s.keys with req := some { r with burning := some (reqFuses s.keys.fuses r.bytes) } } } : State).zeroiseKey 4).keyLost).keyClear
        else { s with keys := { s.keys with req := some { r with burning := some (reqFuses s.keys.fuses r.bytes) } } })) ∧
  (∀ (s t : State) (r : LcReq) (fs : List FuseRef), s.keys.req = some r → r.burning = some fs →
    t = ({ s with keys := { s.keys with req := none } } : State).blow fs → reqType r.bytes = 1 →
    exec (.lcBurnDone none) s = .next (((t.wr Reg.lcState (putBit (putBits (t.rd Reg.lcState) 7 4 (reqTarget r.bytes)) 8 true)).lcRefresh.lcResult r.jtag 1).raise 312)) ∧
  (∀ (s t : State) (r : LcReq) (fs : List FuseRef), s.keys.req = some r → r.burning = some fs →
    t = ({ s with keys := { s.keys with req := none } } : State).blow fs → reqType r.bytes = 2 ∨ reqType r.bytes = 0x10 →
    exec (.lcBurnDone none) s = .next ((t.lcRefresh.lcResult r.jtag 1).raise 312)) ∧
  (∀ (s t : State) (r : LcReq) (fs : List FuseRef), s.keys.req = some r → r.burning = some fs →
    t = ({ s with keys := { s.keys with req := none } } : State).blow fs → reqType r.bytes = 3 → s.boot.tested = true → t.keys.fuses.kill = false →
    exec (.lcBurnDone none) s = .next ((({ t with keys := { t.keys with entryFuse := t.keys.fuses.keyFuse } } : State).lcRefresh.lcResult r.jtag 1).raise 312)) ∧
  (∀ (s t : State) (r : LcReq) (fs : List FuseRef), s.keys.req = some r → r.burning = some fs →
    t = ({ s with keys := { s.keys with req := none } } : State).blow fs → reqType r.bytes = 4 → r.tampered = true →
    exec (.lcBurnDone none) s = .next ((t.lcRefresh.lcResult r.jtag 0x1B).raise 313)) ∧
  (∀ (s t : State) (r : LcReq) (fs : List FuseRef) (k : Nat), s.keys.req = some r → r.burning = some fs →
    t = ({ s with keys := { s.keys with req := none } } : State).blow fs → reqType r.bytes = 4 → r.tampered = false → k = reqField r.bytes 0x24 32 → k ≠ 0 →
    s.boot.tested = true →
    exec (.lcBurnDone none) s = .next ((({ t with keys := { t.keys with bbr := k, entryBbr := some k } } : State).lcRefresh.lcResult r.jtag 1).raise 312)) ∧
  (∀ (s t : State) (r : LcReq) (fs : List FuseRef), s.keys.req = some r → r.burning = some fs →
    t = ({ s with keys := { s.keys with req := none } } : State).blow fs → reqType r.bytes = 5 →
    exec (.lcBurnDone none) s = .next ((((t.zeroiseKey 5).keyLost).lcRefresh.lcResult r.jtag 1).raise 312)) ∧
  (∀ (s t : State) (r : LcReq) (fs : List FuseRef), s.keys.req = some r → r.burning = some fs →
    t = ({ s with keys := { s.keys with req := none } } : State).blow fs → reqType r.bytes = 0x11 →
    exec (.lcBurnDone none) s = .next ((((t.orReg Reg.lcDebug (BitVec.ofNat 32 (reqPolicy r.bytes % 4 + 4))).raise 314).lcRefresh.lcResult r.jtag 1).raise 312)) ∧
  (∀ (s t : State) (r : LcReq) (fs : List FuseRef) (k : Nat), s.keys.req = some r → r.burning = some fs → k < fs.length →
    t = ({ s with keys := { s.keys with req := none } } : State).blow (fs.take k) →
    exec (.lcBurnDone (some k)) s = .next ((t.lcRefresh.lcResult r.jtag 0x1C).raise 313)) ∧
  (∀ (cause : Fin 3) (s : State), cause.val ≠ 2 ∨ s.bit Reg.lcTamper 0 = true → exec (.tamperEvent cause) s = .next ((s.zeroiseKey cause.val).keyLost)) ∧
  (∀ s : State, s.bit Reg.lcTamper 0 = false → exec (.tamperEvent 2) s = .next s) ∧
  (∀ (ag : Agent) (v : Word) (s : State), s.mayWrite ag Reg.lcTamper = true → getBit v 2 = true → getBits v 31 16 = 0x7E3A →
    exec (.zeroiseWrite ag v) s = .next (((s.setFld Reg.lcTamper 1 0 (getBits v 1 0)).zeroiseKey 3).keyLost)) ∧
  (∀ (ag : Agent) (v : Word) (s : State), s.mayWrite ag Reg.lcTamper = true → getBit v 2 = true → getBits v 31 16 ≠ 0x7E3A →
    exec (.zeroiseWrite ag v) s = .next s)

/-- Each JTAG instruction is selected when the state permits it (R467: every one in FACTORY TEST, Grenric test nowhere else, EXTEST, CLAMP and HIGHZ in SEALED only
outside RUN, STAGING, DOZE and SLEEP, DMI in SEALED only with the DEBUG scope) and acts as BYPASS otherwise; a permitted IDCODE or LC_STATUS captures its word.  Test-Logic-Reset selects
IDCODE and empties LC_TOKEN.  At Update-DR of LC_TOKEN exactly 2,176 shifts complete the register, and any other count empties it. -/
def Obligations.JtagCommandsComplete : Prop :=
  (∀ s : State, exec .jtagTapReset s = .next { s with keys := { s.keys with ir := 1, token := none } }) ∧
  (∀ s : State, s.mode = 0xC → exec .jtagExtest s = .next { s with keys := { s.keys with ir := 0x00 } } ∧ exec .jtagClamp s = .next { s with keys := { s.keys with ir := 0x03 } } ∧
    exec .jtagHighz s = .next { s with keys := { s.keys with ir := 0x04 } } ∧ exec .jtagSamplePreload s = .next { s with keys := { s.keys with ir := 0x02 } } ∧
    exec .jtagLcToken s = .next { s with keys := { s.keys with ir := 0x10 } } ∧ exec .jtagDmi s = .next { s with keys := { s.keys with ir := 0x20 } } ∧
    (∀ c : Fin 16, exec (.jtagGrenricTest c) s = .next { s with keys := { s.keys with ir := 0x40 + c.val } })) ∧
  (∀ (s : State) (st : Nat), st = (if s.mode = 1 ∨ s.mode = 2 then s.keys.fuses.state else s.lcState) → s.mode ≠ 0xC → st = 2 ∨ st = 4 →
    exec .jtagExtest s = .next { s with keys := { s.keys with ir := 0x00 } } ∧ exec .jtagClamp s = .next { s with keys := { s.keys with ir := 0x03 } } ∧
    exec .jtagHighz s = .next { s with keys := { s.keys with ir := 0x04 } } ∧ exec .jtagSamplePreload s = .next { s with keys := { s.keys with ir := 0x02 } } ∧
    exec .jtagLcToken s = .next { s with keys := { s.keys with ir := if st = 4 then 0x10 else 0xFF } } ∧
    exec .jtagDmi s = .next { s with keys := { s.keys with ir := 0x20 } } ∧
    (∀ c : Fin 16, exec (.jtagGrenricTest c) s = .next { s with keys := { s.keys with ir := 0xFF } })) ∧
  (∀ (s : State), s.mode ≠ 0xC → (if s.mode = 1 ∨ s.mode = 2 then s.keys.fuses.state else s.lcState) = 3 →
    exec .jtagExtest s = .next { s with keys := { s.keys with ir := if 6 ≤ s.mode ∧ s.mode ≤ 9 then 0xFF else 0x00 } } ∧
    exec .jtagClamp s = .next { s with keys := { s.keys with ir := if 6 ≤ s.mode ∧ s.mode ≤ 9 then 0xFF else 0x03 } } ∧
    exec .jtagHighz s = .next { s with keys := { s.keys with ir := if 6 ≤ s.mode ∧ s.mode ≤ 9 then 0xFF else 0x04 } } ∧
    exec .jtagSamplePreload s = .next { s with keys := { s.keys with ir := 0x02 } } ∧ exec .jtagLcToken s = .next { s with keys := { s.keys with ir := 0x10 } } ∧
    exec .jtagDmi s = .next { s with keys := { s.keys with ir := if s.bit Reg.lcDebug 2 ∧ s.bit Reg.lcDebug 0 then 0x20 else 0xFF } } ∧
    (∀ c : Fin 16, exec (.jtagGrenricTest c) s = .next { s with keys := { s.keys with ir := 0xFF } })) ∧
  (∀ s : State, s.mode = 0xC ∨ (if s.mode = 1 ∨ s.mode = 2 then s.keys.fuses.state else s.lcState) ∈ [2, 3, 4] →
    exec .jtagIdcode s = .next (({ s with keys := { s.keys with ir := 0x01 } } : State).emit (.jtag (Config.siliconRevision ++ 0x7096#16 ++ Config.jedecCode ++ 1#1))) ∧
    exec .jtagLcStatus s = .next (({ s with keys := { s.keys with ir := 0x11 } } : State).emit (.jtag (s.rd Reg.lcState)))) ∧
  (∀ s : State, s.mode ≠ 0xC → (if s.mode = 1 ∨ s.mode = 2 then s.keys.fuses.state else s.lcState) ∉ [2, 3, 4] →
    ∀ c ∈ [Instr.jtagExtest, .jtagClamp, .jtagHighz, .jtagIdcode, .jtagSamplePreload, .jtagLcToken, .jtagLcStatus, .jtagDmi],
      exec c s = .next { s with keys := { s.keys with ir := 0xFF } }) ∧
  (∀ s : State, exec .jtagBypass s = .next { s with keys := { s.keys with ir := 0xFF } }) ∧
  (∀ (bytes : List Byte) (s : State), s.keys.ir = 0x10 → s.tapPermits 0x10 = true → bytes.length = 272 → s.lcState ≠ 3 →
    exec (.jtagLcTokenUpdate 2176 bytes) s = .next { s with keys := { s.keys with token := some bytes } }) ∧
  (∀ (bytes : List Byte) (s t : State), s.keys.ir = 0x10 → s.tapPermits 0x10 = true → bytes.length = 272 → s.lcState = 3 → s.mode ≠ 1 → s.mode ≠ 0xA → s.bit Reg.lcReqstat 0 = false →
    t = { s with keys := { s.keys with token := some bytes, req := some ⟨true, bytes, none, false⟩ } } →
    exec (.jtagLcTokenUpdate 2176 bytes) s = .next (t.setBit Reg.lcReqstat 0 true)) ∧
  (∀ (shifts : Nat) (bytes : List Byte) (s : State), s.keys.ir = 0x10 → s.tapPermits 0x10 = true → shifts ≠ 2176 →
    exec (.jtagLcTokenUpdate shifts bytes) s = .next { s with keys := { s.keys with token := none } })

/-- A register write through PCIe does nothing while the link is down, and one that does not enable all four bytes only sets HPx_STAT.BADACC; else it reaches manager space, the stream window or
the MSI-X table by its offset.  The write of any other agent reaches manager space.  Either is carried out at once where no drain and no SLEEP holds it and no earlier access of its agent waits, and waits
otherwise.  Manager space carries out the register's effect under its semaphore, and an offset that no block defines, a block without power and a closed service SPI ignore the write. -/
def Obligations.RegisterWritesComplete : Prop :=
  (∀ (p : Fin 2) (off : Nat) (v : Word) (full : Bool) (s : State), (s.port p).linkUp = false → exec (.registerWrite (.hostPcie p) off v full) s = .next s) ∧
  (∀ (p : Fin 2) (off : Nat) (v : Word) (s : State), (s.port p).linkUp = true →
    exec (.registerWrite (.hostPcie p) off v false) s = .next (s.setBit (Reg.hpStat p.val) 10 true)) ∧
  (∀ (p : Fin 2) (off : Nat) (v : Word) (s : State), (s.port p).linkUp = true → s.hubHeld = false → (s.waits.any fun j => j.line == 8 + agentIdent (.hostPcie p)) = false →
    exec (.registerWrite (.hostPcie p) off v true) s = .next (if off < 0x01000000 then s.mgrWrite (.hostPcie p) off v
      else if off < 0x02000000 then s.windowWrite p false [v]
      else if 0x03FF0000 ≤ off ∧ off < 0x03FF0200 then s.msixTableWrite p ((off - 0x03FF0000) / 4) v else s)) ∧
  (∀ (ag : Agent) (off : Nat) (v : Word) (full : Bool) (s : State), (∀ p, ag ≠ .hostPcie p) → s.hubHeld = false → (s.waits.any fun j => j.line == 8 + agentIdent ag) = false →
    exec (.registerWrite ag off v full) s = .next (s.mgrWrite ag off v)) ∧
  (∀ (ag : Agent) (off : Nat) (v : Word) (full : Bool) (s : State), (∀ p, ag ≠ .hostPcie p) → s.hubHeld = true ∨ (s.waits.any fun j => j.line == 8 + agentIdent ag) = true →
    exec (.registerWrite ag off v full) s = .next { s with waits := s.waits ++ [.write ag off v] }) ∧
  (∀ (ag : Agent) (off : Nat) (v : Word) (s : State), s.mgrServes off = true → s.spiClosed ag = false → (regRow? off).isSome = true →
    s.mgrWrite ag off v = s.rws ag off (s.mgrEffect ag off v)) ∧
  (∀ (ag : Agent) (off : Nat) (v : Word) (s : State), s.mgrServes off = false ∨ s.spiClosed ag = true ∨ regRow? off = none → s.mgrWrite ag off v = s)

/-- What acts without a clock acts first and last: asynchronous set and reset, and the FIFO resets of the bay.  Between them a rising edge of a source that runs passes an open gate: the bay's
cells, bridges, creels, slices and ports see it and the net is high; it does nothing at a shut gate or from a source that does not run.  A falling edge of a source that runs ends the
high phase where there was one, and sets the gate to the enables; of a source that does not run it only ends the high phase.  In SLEEP an edge does nothing. -/
def Obligations.StakeNetEdgesComplete : Prop :=
  (∀ (bay : Fin 96) (net : Fin 24) (rising : Bool) (pins : EdgePins) (s : State), s.fabricAwake = false → exec (.stakeNetEdge bay net rising pins) s = .next s) ∧
  (∀ (bay : Fin 96) (net : Fin 24) (pins : EdgePins) (s u : State), s.fabricAwake = true → u = (s.asyncSettle pins.levels ffCount).fifoReset bay.val pins →
    u.stakeRuns bay.val net.val = true → u.gateIsShut bay.val net.val = false → exec (.stakeNetEdge bay net true pins) s =
    .next (((((u.fabricEdge bay.val net.val true pins).portEdges bay.val net.val pins).setHigh bay.val net.val true)).asyncSettle pins.levels ffCount)) ∧
  (∀ (bay : Fin 96) (net : Fin 24) (pins : EdgePins) (s u : State), s.fabricAwake = true → u = (s.asyncSettle pins.levels ffCount).fifoReset bay.val pins →
    u.stakeRuns bay.val net.val = false ∨ u.gateIsShut bay.val net.val = true → exec (.stakeNetEdge bay net true pins) s = .next (u.asyncSettle pins.levels ffCount)) ∧
  (∀ (bay : Fin 96) (net : Fin 24) (pins : EdgePins) (s u v : State), s.fabricAwake = true → u = (s.asyncSettle pins.levels ffCount).fifoReset bay.val pins →
    u.stakeHigh bay.val net.val = true → v = (u.fabricEdge bay.val net.val false pins).setHigh bay.val net.val false → u.stakeRuns bay.val net.val = true →
    exec (.stakeNetEdge bay net false pins) s = .next ((v.setGate bay.val net.val (!u.gateOpen bay.val net.val pins.sce)).asyncSettle pins.levels ffCount)) ∧
  (∀ (bay : Fin 96) (net : Fin 24) (pins : EdgePins) (s u v : State), s.fabricAwake = true → u = (s.asyncSettle pins.levels ffCount).fifoReset bay.val pins →
    u.stakeHigh bay.val net.val = true → v = (u.fabricEdge bay.val net.val false pins).setHigh bay.val net.val false → u.stakeRuns bay.val net.val = false →
    exec (.stakeNetEdge bay net false pins) s = .next (v.asyncSettle pins.levels ffCount)) ∧
  (∀ (bay : Fin 96) (net : Fin 24) (pins : EdgePins) (s u : State), s.fabricAwake = true → u = (s.asyncSettle pins.levels ffCount).fifoReset bay.val pins →
    u.stakeHigh bay.val net.val = false → u.stakeRuns bay.val net.val = true →
    exec (.stakeNetEdge bay net false pins) s = .next ((u.setGate bay.val net.val (!u.gateOpen bay.val net.val pins.sce)).asyncSettle pins.levels ffCount))
end

