-- ==== Sys2Proof/Laws/Bits.lean ====
section
/-! SUPPORT. The laws of bit fields: a field read after a field written, and every other bit kept. -/
namespace Sys2Proof.Laws
open Sys2Proof.Machine

/-- What each bit is after a field is replaced. -/
theorem putBits_bit (w : Word) (hi lo v i : Nat) (h : lo ≤ hi) :
    (putBits w hi lo v).getLsbD i = if lo ≤ i ∧ i ≤ hi ∧ i < 32 then v.testBit (i - lo) else w.getLsbD i := by
  unfold putBits maskBits
  simp only [BitVec.getLsbD_or, BitVec.getLsbD_and, BitVec.getLsbD_not, BitVec.getLsbD_ofNat, Nat.testBit_mul_two_pow,
    Nat.testBit_two_pow_sub_one, Nat.testBit_mod_two_pow]
  by_cases h32 : i < 32
  · by_cases hlo : lo ≤ i
    · by_cases hhi : i ≤ hi
      · have : i - lo < hi - lo + 1 := by omega
        simp [h32, hlo, hhi, this]
      · have : ¬ i - lo < hi - lo + 1 := by omega
        simp [h32, hlo, hhi, this]
    · simp [h32, hlo]
  · have : w.getLsbD i = false := BitVec.getLsbD_of_ge w i (by omega)
    simp [h32, this]

/-- The bits of a field. -/
theorem getBits_testBit (w : Word) (hi lo i : Nat) : (getBits w hi lo).testBit i = (decide (i < hi - lo + 1) && w.getLsbD (lo + i)) := by
  unfold getBits
  rw [Nat.testBit_mod_two_pow, Nat.testBit_div_two_pow, ← BitVec.testBit_toNat, Nat.add_comm i lo]

/-- A field reads what was written into it. -/
theorem getBits_putBits (w : Word) (hi lo v : Nat) (h : lo ≤ hi) (h32 : hi < 32) :
    getBits (putBits w hi lo v) hi lo = v % 2 ^ (hi - lo + 1) := by
  apply Nat.eq_of_testBit_eq; intro i
  rw [getBits_testBit, putBits_bit _ _ _ _ _ h, Nat.testBit_mod_two_pow]
  by_cases hi' : i < hi - lo + 1
  · have : lo ≤ lo + i ∧ lo + i ≤ hi ∧ lo + i < 32 := by omega
    simp [hi', this]
  · simp [hi']

/-- A field keeps its value when another field is written. -/
theorem getBits_putBits_other (w : Word) (hi lo a b v : Nat) (h : lo ≤ hi) (ha : b ≤ a) (hd : a < lo ∨ hi < b) :
    getBits (putBits w hi lo v) a b = getBits w a b := by
  apply Nat.eq_of_testBit_eq; intro i
  rw [getBits_testBit, getBits_testBit, putBits_bit _ _ _ _ _ h]
  by_cases hi' : i < a - b + 1
  · have : ¬ (lo ≤ b + i ∧ b + i ≤ hi ∧ b + i < 32) := by omega
    simp [this]
  · simp [hi']

/-- A bit reads what was written into it. -/
theorem getBit_putBit (w : Word) (i : Nat) (b : Bool) (h : i < 32) : getBit (putBit w i b) i = b := by
  unfold getBit putBit
  rw [putBits_bit _ _ _ _ _ (Nat.le_refl i)]
  cases b <;> simp [h]

/-- Every other bit keeps its value. -/
theorem getBit_putBit_other (w : Word) (i j : Nat) (b : Bool) (h : j ≠ i) : getBit (putBit w i b) j = getBit w j := by
  unfold getBit putBit
  rw [putBits_bit _ _ _ _ _ (Nat.le_refl i), if_neg (by omega)]

/-- A field that does not hold the bit keeps its value. -/
theorem getBits_putBit_other (w : Word) (i a b : Nat) (x : Bool) (ha : b ≤ a) (hd : a < i ∨ i < b) :
    getBits (putBit w i x) a b = getBits w a b := getBits_putBits_other w i i a b _ (Nat.le_refl i) ha hd

/-- A field written keeps a bit outside it. -/
theorem getBit_putBits_other (w : Word) (hi lo v i : Nat) (h : lo ≤ hi) (hd : i < lo ∨ hi < i) :
    getBit (putBits w hi lo v) i = getBit w i := by
  unfold getBit; rw [putBits_bit _ _ _ _ _ h, if_neg (by omega)]

end Sys2Proof.Laws
end

