-- ==== Sys2Proof/Laws/Exec.lean ====
section
/-! SUPPORT. What exec is for each command: its meaning. -/
namespace Sys2Proof.Machine

@[simp] theorem exec_vinFall (s : State) : exec (.vinFall) s = execVinFall s := rfl
@[simp] theorem exec_powerUpComplete (straps : BitVec 7) (s : State) : exec (.powerUpComplete straps) s = execPowerUpComplete straps s := rfl
@[simp] theorem exec_resetNFall (s : State) : exec (.resetNFall) s = execResetNFall s := rfl
@[simp] theorem exec_resetNRise (s : State) : exec (.resetNRise) s = execResetNRise s := rfl
@[simp] theorem exec_strapLatch (straps : BitVec 7) (s : State) : exec (.strapLatch straps) s = execStrapLatch straps s := rfl
@[simp] theorem exec_keeperBootComplete (agree : Bool) (xref : Bool) (vinOk : Bool) (s : State) : exec (.keeperBootComplete agree xref vinOk) s = execKeeperBootComplete agree xref vinOk s := rfl
@[simp] theorem exec_startTestComplete (hub : Bool) (rep : SoundReport) (s : State) : exec (.startTestComplete hub rep) s = execStartTestComplete hub rep s := rfl
@[simp] theorem exec_programNFall (s : State) : exec (.programNFall) s = execProgramNFall s := rfl
@[simp] theorem exec_programNRise (s : State) : exec (.programNRise) s = execProgramNRise s := rfl
@[simp] theorem exec_sysCtlReload (ag : Agent) (v : Word) (s : State) : exec (.sysCtlReload ag v) s = execSysCtlReload ag v s := rfl
@[simp] theorem exec_thermalSample (bays : List (BitVec 8)) (hub : List (BitVec 8)) (s : State) : exec (.thermalSample bays hub) s = execThermalSample bays hub s := rfl
@[simp] theorem exec_regulatorFault (r : Fin 26) (s : State) : exec (.regulatorFault r) s = execRegulatorFault r s := rfl
@[simp] theorem exec_railWarning (r : Fin 26) (s : State) : exec (.railWarning r) s = execRailWarning r s := rfl
@[simp] theorem exec_vinLow (s : State) : exec (.vinLow) s = execVinLow s := rfl
@[simp] theorem exec_srcWaitExpiry (s : State) : exec (.srcWaitExpiry) s = execSrcWaitExpiry s := rfl
@[simp] theorem exec_priorityCommit (s : State) : exec (.priorityCommit) s = execPriorityCommit s := rfl
@[simp] theorem exec_priorityInitLeave (s : State) : exec (.priorityInitLeave) s = execPriorityInitLeave s := rfl
@[simp] theorem exec_priorityOutputEnable (s : State) : exec (.priorityOutputEnable) s = execPriorityOutputEnable s := rfl
@[simp] theorem exec_priorityStageTimeout (s : State) : exec (.priorityStageTimeout) s = execPriorityStageTimeout s := rfl
@[simp] theorem exec_mainCommit (s : State) : exec (.mainCommit) s = execMainCommit s := rfl
@[simp] theorem exec_xwaitExpiry (present : Bool) (s : State) : exec (.xwaitExpiry present) s = execXwaitExpiry present s := rfl
@[simp] theorem exec_releaseStart (s : State) : exec (.releaseStart) s = execReleaseStart s := rfl
@[simp] theorem exec_releaseInitLeave (s : State) : exec (.releaseInitLeave) s = execReleaseInitLeave s := rfl
@[simp] theorem exec_releaseOutputEnable (s : State) : exec (.releaseOutputEnable) s = execReleaseOutputEnable s := rfl
@[simp] theorem exec_releaseDoneRelease (s : State) : exec (.releaseDoneRelease) s = execReleaseDoneRelease s := rfl
@[simp] theorem exec_doneHigh (s : State) : exec (.doneHigh) s = execDoneHigh s := rfl
@[simp] theorem exec_doneWaitExpiry (s : State) : exec (.doneWaitExpiry) s = execDoneWaitExpiry s := rfl
@[simp] theorem exec_journalEraseStart (s : State) : exec (.journalEraseStart) s = execJournalEraseStart s := rfl
@[simp] theorem exec_bootClear (ag : Agent) (v : Word) (s : State) : exec (.bootClear ag v) s = execBootClear ag v s := rfl
@[simp] theorem exec_bankRepower (b : Fin 16) (s : State) : exec (.bankRepower b) s = execBankRepower b s := rfl
@[simp] theorem exec_refinLost (s : State) : exec (.refinLost) s = execRefinLost s := rfl
@[simp] theorem exec_refinRestored (s : State) : exec (.refinRestored) s = execRefinRestored s := rfl
@[simp] theorem exec_xrefLost (s : State) : exec (.xrefLost) s = execXrefLost s := rfl
@[simp] theorem exec_xrefRestored (s : State) : exec (.xrefRestored) s = execXrefRestored s := rfl
@[simp] theorem exec_hubSynthLock (s : State) : exec (.hubSynthLock) s = execHubSynthLock s := rfl
@[simp] theorem exec_clkHubWrite (ag : Agent) (v : Word) (s : State) : exec (.clkHubWrite ag v) s = execClkHubWrite ag v s := rfl
@[simp] theorem exec_synthGlideDone (n : Fin 32) (s : State) : exec (.synthGlideDone n) s = execSynthGlideDone n s := rfl
@[simp] theorem exec_synthDividerDone (n : Fin 32) (s : State) : exec (.synthDividerDone n) s = execSynthDividerDone n s := rfl
@[simp] theorem exec_synthLock (n : Fin 32) (s : State) : exec (.synthLock n) s = execSynthLock n s := rfl
@[simp] theorem exec_synthLossOfLock (n : Fin 32) (s : State) : exec (.synthLossOfLock n) s = execSynthLossOfLock n s := rfl
@[simp] theorem exec_synthHoldoverExit (n : Fin 32) (s : State) : exec (.synthHoldoverExit n) s = execSynthHoldoverExit n s := rfl
@[simp] theorem exec_glitchFreeSwitchDone (net : ClockNet) (s : State) : exec (.glitchFreeSwitchDone net) s = execGlitchFreeSwitchDone net s := rfl
@[simp] theorem exec_glitchFreeSwitchForced (net : ClockNet) (s : State) : exec (.glitchFreeSwitchForced net) s = execGlitchFreeSwitchForced net s := rfl
@[simp] theorem exec_rimSelectWrite (ag : Agent) (reg : RimReg) (v : Word) (s : State) : exec (.rimSelectWrite ag reg v) s = execRimSelectWrite ag reg v s := rfl
@[simp] theorem exec_hardBlockGateRequest (ag : Agent) (blk : Fin 64) (s : State) : exec (.hardBlockGateRequest ag blk) s = execHardBlockGateRequest ag blk s := rfl
@[simp] theorem exec_hardBlockGateApply (blk : Fin 64) (s : State) : exec (.hardBlockGateApply blk) s = execHardBlockGateApply blk s := rfl
@[simp] theorem exec_hardBlockGateRefused (blk : Fin 64) (s : State) : exec (.hardBlockGateRefused blk) s = execHardBlockGateRefused blk s := rfl
@[simp] theorem exec_hardBlockGateOpen (ag : Agent) (blk : Fin 64) (s : State) : exec (.hardBlockGateOpen ag blk) s = execHardBlockGateOpen ag blk s := rfl
@[simp] theorem exec_fmWindowEnd (m : Fin 16) (count : Word) (s : State) : exec (.fmWindowEnd m count) s = execFmWindowEnd m count s := rfl
@[simp] theorem exec_fmSourceWrite (ag : Agent) (m : Fin 16) (v : Word) (s : State) : exec (.fmSourceWrite ag m v) s = execFmSourceWrite ag m v s := rfl
@[simp] theorem exec_adjStep (ag : Agent) (s : State) : exec (.adjStep ag) s = execAdjStep ag s := rfl
@[simp] theorem exec_adjSlew (ag : Agent) (s : State) : exec (.adjSlew ag) s = execAdjSlew ag s := rfl
@[simp] theorem exec_slewDone (s : State) : exec (.slewDone) s = execSlewDone s := rfl
@[simp] theorem exec_syncCapture (x : Fin 3) (falling : Bool) (s : State) : exec (.syncCapture x falling) s = execSyncCapture x falling s := rfl
@[simp] theorem exec_captureRead (ag : Agent) (x : Fin 3) (s : State) : exec (.captureRead ag x) s = execCaptureRead ag x s := rfl
@[simp] theorem exec_ppsInLost (s : State) : exec (.ppsInLost) s = execPpsInLost s := rfl
@[simp] theorem exec_ppsOutPulse (s : State) : exec (.ppsOutPulse) s = execPpsOutPulse s := rfl
@[simp] theorem exec_ppsOutPulseEnd (s : State) : exec (.ppsOutPulseEnd) s = execPpsOutPulseEnd s := rfl
@[simp] theorem exec_mbFire (ag : Agent) (idx : Fin 8) (ctl : Word) (s : State) : exec (.mbFire ag idx ctl) s = execMbFire ag idx ctl s := rfl
@[simp] theorem exec_boundaryLatch (src : Fin 64) (s : State) : exec (.boundaryLatch src) s = execBoundaryLatch src s := rfl
@[simp] theorem exec_boundaryDelivery (src : Fin 64) (s : State) : exec (.boundaryDelivery src) s = execBoundaryDelivery src s := rfl
@[simp] theorem exec_snapshotRead (ag : Agent) (off : Nat) (s : State) : exec (.snapshotRead ag off) s = execSnapshotRead ag off s := rfl
@[simp] theorem exec_syncWord (s : State) : exec (.syncWord) s = execSyncWord s := rfl
@[simp] theorem exec_packetBadHeader (h : Word) (s : State) : exec (.packetBadHeader h) s = execPacketBadHeader h s := rfl
@[simp] theorem exec_nop (s : State) : exec (.nop) s = execNop s := rfl
@[simp] theorem exec_writeIdcode (ws : List Word) (s : State) : exec (.writeIdcode ws) s = execWriteIdcode ws s := rfl
@[simp] theorem exec_writeForm (ws : List Word) (s : State) : exec (.writeForm ws) s = execWriteForm ws s := rfl
@[simp] theorem exec_writeKeysel (ws : List Word) (s : State) : exec (.writeKeysel ws) s = execWriteKeysel ws s := rfl
@[simp] theorem exec_writeSid (ws : List Word) (s : State) : exec (.writeSid ws) s = execWriteSid ws s := rfl
@[simp] theorem exec_writeIv (ws : List Word) (s : State) : exec (.writeIv ws) s = execWriteIv ws s := rfl
@[simp] theorem exec_writeBodylen (ws : List Word) (s : State) : exec (.writeBodylen ws) s = execWriteBodylen ws s := rfl
@[simp] theorem exec_writeBound (ws : List Word) (s : State) : exec (.writeBound ws) s = execWriteBound ws s := rfl
@[simp] theorem exec_writeGroup (ws : List Word) (s : State) : exec (.writeGroup ws) s = execWriteGroup ws s := rfl
@[simp] theorem exec_writePlfloor (ws : List Word) (s : State) : exec (.writePlfloor ws) s = execWritePlfloor ws s := rfl
@[simp] theorem exec_writeClkset (ws : List Word) (s : State) : exec (.writeClkset ws) s = execWriteClkset ws s := rfl
@[simp] theorem exec_stepNone (v : Word) (s : State) : exec (.stepNone v) s = execStepNone v s := rfl
@[simp] theorem exec_stepStage (s : State) : exec (.stepStage) s = execStepStage s := rfl
@[simp] theorem exec_stageClearDone (s : State) : exec (.stageClearDone) s = execStageClearDone s := rfl
@[simp] theorem exec_stepFinish (s : State) : exec (.stepFinish) s = execStepFinish s := rfl
@[simp] theorem exec_stepAbort (s : State) : exec (.stepAbort) s = execStepAbort s := rfl
@[simp] theorem exec_writePlace (ws : List Word) (s : State) : exec (.writePlace ws) s = execWritePlace ws s := rfl
@[simp] theorem exec_writeFrames (dyn : Bool) (ws : List Word) (s : State) : exec (.writeFrames dyn ws) s = execWriteFrames dyn ws s := rfl
@[simp] theorem exec_zero (dyn : Bool) (n : BitVec 20) (s : State) : exec (.zero dyn n) s = execZero dyn n s := rfl
@[simp] theorem exec_repeatPacket (dyn : Bool) (n : BitVec 20) (s : State) : exec (.repeatPacket dyn n) s = execRepeat dyn n s := rfl
@[simp] theorem exec_patch (dyn : Bool) (ps : List (Word × Word)) (s : State) : exec (.patch dyn ps) s = execPatch dyn ps s := rfl
@[simp] theorem exec_body (s : State) : exec (.body) s = execBody s := rfl
@[simp] theorem exec_writeSeal (ws : List Word) (s : State) : exec (.writeSeal ws) s = execWriteSeal ws s := rfl
@[simp] theorem exec_clksetLockWaitEnd (s : State) : exec (.clksetLockWaitEnd) s = execClksetLockWaitEnd s := rfl
@[simp] theorem exec_writeCrcv (ws : List Word) (s : State) : exec (.writeCrcv ws) s = execWriteCrcv ws s := rfl
@[simp] theorem exec_readFrames (n : BitVec 20) (s : State) : exec (.readFrames n) s = execReadFrames n s := rfl
@[simp] theorem exec_readPlace (s : State) : exec (.readPlace) s = execReadPlace s := rfl
@[simp] theorem exec_readStat (s : State) : exec (.readStat) s = execReadStat s := rfl
@[simp] theorem exec_sectionPacket (sel : Word) (len : Word) (s : State) : exec (.sectionPacket sel len) s = execSection sel len s := rfl
@[simp] theorem exec_endPacket (s : State) : exec (.endPacket) s = execEnd s := rfl
@[simp] theorem exec_streamSourceEnd (s : State) : exec (.streamSourceEnd) s = execStreamSourceEnd s := rfl
@[simp] theorem exec_stagedVerifyEnd (us : PassErrs) (s : State) : exec (.stagedVerifyEnd us) s = execStagedVerifyEnd us s := rfl
@[simp] theorem exec_psrcOpen (ag : Agent) (c : Fin 8) (s : State) : exec (.psrcOpen ag c) s = execPsrcOpen ag c s := rfl
@[simp] theorem exec_unopenedSourceWords (s : State) : exec (.unopenedSourceWords) s = execUnopenedSourceWords s := rfl
@[simp] theorem exec_cgArmCommit (ag : Agent) (g : Fin 8) (s : State) : exec (.cgArmCommit ag g) s = execCgArmCommit ag g s := rfl
@[simp] theorem exec_cgArmRevert (ag : Agent) (g : Fin 8) (s : State) : exec (.cgArmRevert ag g) s = execCgArmRevert ag g s := rfl
@[simp] theorem exec_cgDisarm (ag : Agent) (g : Fin 8) (mode : Bool) (s : State) : exec (.cgDisarm ag g mode) s = execCgDisarm ag g mode s := rfl
@[simp] theorem exec_cgDiscard (ag : Agent) (g : Fin 8) (mode : Bool) (s : State) : exec (.cgDiscard ag g mode) s = execCgDiscard ag g mode s := rfl
@[simp] theorem exec_cgDeadlineExpiry (g : Fin 8) (s : State) : exec (.cgDeadlineExpiry g) s = execCgDeadlineExpiry g s := rfl
@[simp] theorem exec_commitRelease (g : Fin 9) (s : State) : exec (.commitRelease g) s = execCommitRelease g s := rfl
@[simp] theorem exec_revertVerifyEnd (g : Fin 8) (us : PassErrs) (s : State) : exec (.revertVerifyEnd g us) s = execRevertVerifyEnd g us s := rfl
@[simp] theorem exec_dwPlaceWrite (ag : Agent) (p : Word) (s : State) : exec (.dwPlaceWrite ag p) s = execDwPlaceWrite ag p s := rfl
@[simp] theorem exec_dwDataWrite (ag : Agent) (w : Word) (s : State) : exec (.dwDataWrite ag w) s = execDwDataWrite ag w s := rfl
@[simp] theorem exec_dwApply (ag : Agent) (bsel : Fin 64) (s : State) : exec (.dwApply ag bsel) s = execDwApply ag bsel s := rfl
@[simp] theorem exec_dwClearBuffer (ag : Agent) (bsel : Fin 64) (s : State) : exec (.dwClearBuffer ag bsel) s = execDwClearBuffer ag bsel s := rfl
@[simp] theorem exec_dwApplyEnd (s : State) : exec (.dwApplyEnd) s = execDwApplyEnd s := rfl
@[simp] theorem exec_panelIsoWrite (ag : Agent) (g : Fin 8) (v : Word) (s : State) : exec (.panelIsoWrite ag g v) s = execPanelIsoWrite ag g v s := rfl
@[simp] theorem exec_pisoChange (g : Fin 8) (level : Bool) (s : State) : exec (.pisoChange g level) s = execPisoChange g level s := rfl
@[simp] theorem exec_pntFrameRead (w : Fin 2) (upset : List (Fin 10240)) (entry : Fin 4) (s : State) : exec (.pntFrameRead w upset entry) s = execPntFrameRead w upset entry s := rfl
@[simp] theorem exec_pntSbeWriteBackDone (w : Fin 2) (upset : FrameErrs) (s : State) : exec (.pntSbeWriteBackDone w upset) s = execPntSbeWriteBackDone w upset s := rfl
@[simp] theorem exec_pntRestart (ag : Agent) (en : Bool) (shadow : Bool) (s : State) : exec (.pntRestart ag en shadow) s = execPntRestart ag en shadow s := rfl
@[simp] theorem exec_pntHoldClear (ag : Agent) (v : Word) (s : State) : exec (.pntHoldClear ag v) s = execPntHoldClear ag v s := rfl
@[simp] theorem exec_pntReloadOpen (s : State) : exec (.pntReloadOpen) s = execPntReloadOpen s := rfl
@[simp] theorem exec_pntReloadFire (s : State) : exec (.pntReloadFire) s = execPntReloadFire s := rfl
@[simp] theorem exec_pntReloadWaitExpiry (s : State) : exec (.pntReloadWaitExpiry) s = execPntReloadWaitExpiry s := rfl
@[simp] theorem exec_pntLogPop (ag : Agent) (s : State) : exec (.pntLogPop ag) s = execPntLogPop ag s := rfl
@[simp] theorem exec_flashUnlockFirst (ag : Agent) (off : Nat) (s : State) : exec (.flashUnlockFirst ag off) s = execFlashUnlockFirst ag off s := rfl
@[simp] theorem exec_flashUnlockSecond (ag : Agent) (off : Nat) (s : State) : exec (.flashUnlockSecond ag off) s = execFlashUnlockSecond ag off s := rfl
@[simp] theorem exec_flashProgramWordCmd (ag : Agent) (off : Nat) (s : State) : exec (.flashProgramWordCmd ag off) s = execFlashProgramWordCmd ag off s := rfl
@[simp] theorem exec_flashProgramLineCmd (ag : Agent) (off : Nat) (s : State) : exec (.flashProgramLineCmd ag off) s = execFlashProgramLineCmd ag off s := rfl
@[simp] theorem exec_flashDataCycle (ag : Agent) (off : Nat) (wide : Bool) (v : BitVec 64) (s : State) : exec (.flashDataCycle ag off wide v) s = execFlashDataCycle ag off wide v s := rfl
@[simp] theorem exec_flashEraseSetup (ag : Agent) (off : Nat) (s : State) : exec (.flashEraseSetup ag off) s = execFlashEraseSetup ag off s := rfl
@[simp] theorem exec_flashEraseConfirm (ag : Agent) (off : Nat) (s : State) : exec (.flashEraseConfirm ag off) s = execFlashEraseConfirm ag off s := rfl
@[simp] theorem exec_flashSuspendCmd (ag : Agent) (off : Nat) (s : State) : exec (.flashSuspendCmd ag off) s = execFlashSuspendCmd ag off s := rfl
@[simp] theorem exec_flashResumeCmd (ag : Agent) (off : Nat) (s : State) : exec (.flashResumeCmd ag off) s = execFlashResumeCmd ag off s := rfl
@[simp] theorem exec_flashReadStatusCmd (ag : Agent) (off : Nat) (s : State) : exec (.flashReadStatusCmd ag off) s = execFlashReadStatusCmd ag off s := rfl
@[simp] theorem exec_flashInfoEntryCmd (ag : Agent) (off : Nat) (s : State) : exec (.flashInfoEntryCmd ag off) s = execFlashInfoEntryCmd ag off s := rfl
@[simp] theorem exec_flashReturnToRead (ag : Agent) (off : Nat) (s : State) : exec (.flashReturnToRead ag off) s = execFlashReturnToRead ag off s := rfl
@[simp] theorem exec_flashSuspendEffect (s : State) : exec (.flashSuspendEffect) s = execFlashSuspendEffect s := rfl
@[simp] theorem exec_flashProgramDone (pulses : Nat) (pass : Bool) (s : State) : exec (.flashProgramDone pulses pass) s = execFlashProgramDone pulses pass s := rfl
@[simp] theorem exec_flashIntentRecorded (fails : Fin 9) (s : State) : exec (.flashIntentRecorded fails) s = execFlashIntentRecorded fails s := rfl
@[simp] theorem exec_flashCompactionDone (s : State) : exec (.flashCompactionDone) s = execFlashCompactionDone s := rfl
@[simp] theorem exec_flashEraseDone (pulses : Nat) (pass : Bool) (s : State) : exec (.flashEraseDone pulses pass) s = execFlashEraseDone pulses pass s := rfl
@[simp] theorem exec_flashHostReadBusy (ag : Agent) (off : Nat) (s : State) : exec (.flashHostReadBusy ag off) s = execFlashHostReadBusy ag off s := rfl
@[simp] theorem exec_flashStalledReadDone (ag : Agent) (off : Nat) (s : State) : exec (.flashStalledReadDone ag off) s = execFlashStalledReadDone ag off s := rfl
@[simp] theorem exec_laneTxeqWrite (ag : Agent) (n : Fin 64) (v : Word) (s : State) : exec (.laneTxeqWrite ag n v) s = execLaneTxeqWrite ag n v s := rfl
@[simp] theorem exec_laneWakeBurstEnd (n : Fin 64) (s : State) : exec (.laneWakeBurstEnd n) s = execLaneWakeBurstEnd n s := rfl
@[simp] theorem exec_cdrLockAcquired (n : Fin 64) (s : State) : exec (.cdrLockAcquired n) s = execCdrLockAcquired n s := rfl
@[simp] theorem exec_cdrLockLost (n : Fin 64) (s : State) : exec (.cdrLockLost n) s = execCdrLockLost n s := rfl
@[simp] theorem exec_rxidleChange (n : Fin 64) (idle : Bool) (s : State) : exec (.rxidleChange n idle) s = execRxidleChange n idle s := rfl
@[simp] theorem exec_eyeWindowEnd (n : Fin 64) (e : EyeWindow) (s : State) : exec (.eyeWindowEnd n e) s = execEyeWindowEnd n e s := rfl
@[simp] theorem exec_laneLoadlg (ag : Agent) (n : Fin 64) (s : State) : exec (.laneLoadlg ag n) s = execLaneLoadlg ag n s := rfl
@[simp] theorem exec_commaAlign (n : Fin 64) (s : State) : exec (.commaAlign n) s = execCommaAlign n s := rfl
@[simp] theorem exec_alignLost (n : Fin 64) (s : State) : exec (.alignLost n) s = execAlignLost n s := rfl
@[simp] theorem exec_blockLockAcquired (n : Fin 64) (s : State) : exec (.blockLockAcquired n) s = execBlockLockAcquired n s := rfl
@[simp] theorem exec_blockLockLost (n : Fin 64) (s : State) : exec (.blockLockLost n) s = execBlockLockLost n s := rfl
@[simp] theorem exec_phaseFifoFault (n : Fin 64) (tx : Bool) (s : State) : exec (.phaseFifoFault n tx) s = execPhaseFifoFault n tx s := rfl
@[simp] theorem exec_qpllLock (q : Fin 16) (h : Fin 2) (s : State) : exec (.qpllLock q h) s = execQpllLock q h s := rfl
@[simp] theorem exec_qpllLossOfLock (q : Fin 16) (h : Fin 2) (s : State) : exec (.qpllLossOfLock q h) s = execQpllLossOfLock q h s := rfl
@[simp] theorem exec_quadCalStart (ag : Agent) (q : Fin 16) (s : State) : exec (.quadCalStart ag q) s = execQuadCalStart ag q s := rfl
@[simp] theorem exec_quadCalDone (q : Fin 16) (pass : Bool) (s : State) : exec (.quadCalDone q pass) s = execQuadCalDone q pass s := rfl
@[simp] theorem exec_quadCalTimeout (q : Fin 16) (s : State) : exec (.quadCalTimeout q) s = execQuadCalTimeout q s := rfl
@[simp] theorem exec_prbsClear (ag : Agent) (n : Fin 64) (s : State) : exec (.prbsClear ag n) s = execPrbsClear ag n s := rfl
@[simp] theorem exec_prbsCheckerLock (n : Fin 64) (s : State) : exec (.prbsCheckerLock n) s = execPrbsCheckerLock n s := rfl
@[simp] theorem exec_wpEnable (ag : Agent) (p : Fin 6) (s : State) : exec (.wpEnable ag p) s = execWpEnable ag p s := rfl
@[simp] theorem exec_wpDisable (ag : Agent) (p : Fin 6) (s : State) : exec (.wpDisable ag p) s = execWpDisable ag p s := rfl
@[simp] theorem exec_wpRetrain (ag : Agent) (p : Fin 6) (s : State) : exec (.wpRetrain ag p) s = execWpRetrain ag p s := rfl
@[simp] theorem exec_waleTrnSet (p : Fin 6) (lane : Fin 8) (t : TrnSet) (s : State) : exec (.waleTrnSet p lane t) s = execWaleTrnSet p lane t s := rfl
@[simp] theorem exec_waleTrainTimeout (p : Fin 6) (s : State) : exec (.waleTrainTimeout p) s = execWaleTrainTimeout p s := rfl
@[simp] theorem exec_waleLinkUp (p : Fin 6) (s : State) : exec (.waleLinkUp p) s = execWaleLinkUp p s := rfl
@[simp] theorem exec_waleAutoRetrain (p : Fin 6) (s : State) : exec (.waleAutoRetrain p) s = execWaleAutoRetrain p s := rfl
@[simp] theorem exec_waleBlockBad (p : Fin 6) (fmt : Option (Fin 4096)) (s : State) : exec (.waleBlockBad p fmt) s = execWaleBlockBad p fmt s := rfl
@[simp] theorem exec_waleAck (p : Fin 6) (aseq : Fin 4096) (junk : Bool) (s : State) : exec (.waleAck p aseq junk) s = execWaleAck p aseq junk s := rfl
@[simp] theorem exec_waleNak (p : Fin 6) (aseq : Fin 4096) (junk : Bool) (s : State) : exec (.waleNak p aseq junk) s = execWaleNak p aseq junk s := rfl
@[simp] theorem exec_waleAckSend (p : Fin 6) (s : State) : exec (.waleAckSend p) s = execWaleAckSend p s := rfl
@[simp] theorem exec_waleAckTimerExpiry (p : Fin 6) (s : State) : exec (.waleAckTimerExpiry p) s = execWaleAckTimerExpiry p s := rfl
@[simp] theorem exec_waleLaneFail (p : Fin 6) (lane : Fin 8) (s : State) : exec (.waleLaneFail p lane) s = execWaleLaneFail p lane s := rfl
@[simp] theorem exec_waleLaneReadmitReady (p : Fin 6) (lane : Fin 8) (s : State) : exec (.waleLaneReadmitReady p lane) s = execWaleLaneReadmitReady p lane s := rfl
@[simp] theorem exec_waleLmgDrop (p : Fin 6) (set : BitVec 8) (junk : Bool) (s : State) : exec (.waleLmgDrop p set junk) s = execWaleLmgDrop p set junk s := rfl
@[simp] theorem exec_waleLmgReadmit (p : Fin 6) (set : BitVec 8) (junk : Bool) (s : State) : exec (.waleLmgReadmit p set junk) s = execWaleLmgReadmit p set junk s := rfl
@[simp] theorem exec_waleLmgSleep (p : Fin 6) (junk : Bool) (s : State) : exec (.waleLmgSleep p junk) s = execWaleLmgSleep p junk s := rfl
@[simp] theorem exec_waleLmgDown (p : Fin 6) (junk : Bool) (s : State) : exec (.waleLmgDown p junk) s = execWaleLmgDown p junk s := rfl
@[simp] theorem exec_waleTimeExchangeStart (fine : Fin 2500) (s : State) : exec (.waleTimeExchangeStart fine) s = execWaleTimeExchangeStart fine s := rfl
@[simp] theorem exec_waleTsyRequest (p : Fin 6) (xn : Fin 65536) (fine : Fin 2500) (turn : Nat) (junk : Bool) (s : State) : exec (.waleTsyRequest p xn fine turn junk) s = execWaleTsyRequest p xn fine turn junk s := rfl
@[simp] theorem exec_waleTsyResponse (p : Fin 6) (xn : Fin 65536) (fine : Fin 2500) (junk : Bool) (s : State) : exec (.waleTsyResponse p xn fine junk) s = execWaleTsyResponse p xn fine junk s := rfl
@[simp] theorem exec_waleTimeFollowUp (p : Fin 6) (b : WaleBlock) (s : State) : exec (.waleTimeFollowUp p b) s = execWaleTimeFollowUp p b s := rfl
@[simp] theorem exec_waleFollowUpTimeout (s : State) : exec (.waleFollowUpTimeout) s = execWaleFollowUpTimeout s := rfl
@[simp] theorem exec_waleWrite (p : Fin 6) (b : WaleBlock) (mem : Fin 4) (s : State) : exec (.waleWrite p b mem) s = execWaleWrite p b mem s := rfl
@[simp] theorem exec_waleRead (p : Fin 6) (b : WaleBlock) (mem : Fin 4) (s : State) : exec (.waleRead p b mem) s = execWaleRead p b mem s := rfl
@[simp] theorem exec_waleCompletion (p : Fin 6) (b : WaleBlock) (s : State) : exec (.waleCompletion p b) s = execWaleCompletion p b s := rfl
@[simp] theorem exec_waleMessage (p : Fin 6) (b : WaleBlock) (s : State) : exec (.waleMessage p b) s = execWaleMessage p b s := rfl
@[simp] theorem exec_waleGangBlock (p : Fin 6) (b : WaleBlock) (s : State) : exec (.waleGangBlock p b) s = execWaleGangBlock p b s := rfl
@[simp] theorem exec_waleAdvert (p : Fin 6) (b : WaleBlock) (s : State) : exec (.waleAdvert p b) s = execWaleAdvert p b s := rfl
@[simp] theorem exec_waleAdvertTimer (s : State) : exec (.waleAdvertTimer) s = execWaleAdvertTimer s := rfl
@[simp] theorem exec_waleAdvertExpiry (p : Fin 6) (s : State) : exec (.waleAdvertExpiry p) s = execWaleAdvertExpiry p s := rfl
@[simp] theorem exec_waleJoin (p : Fin 6) (b : WaleBlock) (s : State) : exec (.waleJoin p b) s = execWaleJoin p b s := rfl
@[simp] theorem exec_waleBnd (p : Fin 6) (b : WaleBlock) (s : State) : exec (.waleBnd p b) s = execWaleBnd p b s := rfl
@[simp] theorem exec_waleBndref (p : Fin 6) (b : WaleBlock) (s : State) : exec (.waleBndref p b) s = execWaleBndref p b s := rfl
@[simp] theorem exec_waleVoteCutoff (src : Fin 64) (s : State) : exec (.waleVoteCutoff src) s = execWaleVoteCutoff src s := rfl
@[simp] theorem exec_waleVote (p : Fin 6) (b : WaleBlock) (s : State) : exec (.waleVote p b) s = execWaleVote p b s := rfl
@[simp] theorem exec_waleVerdictTimer (num : Nat) (den : Nat) (s : State) : exec (.waleVerdictTimer num den) s = execWaleVerdictTimer num den s := rfl
@[simp] theorem exec_waleVerdict (p : Fin 6) (b : WaleBlock) (s : State) : exec (.waleVerdict p b) s = execWaleVerdict p b s := rfl
@[simp] theorem exec_waleAlarm (p : Fin 6) (b : WaleBlock) (s : State) : exec (.waleAlarm p b) s = execWaleAlarm p b s := rfl
@[simp] theorem exec_waleDoneUpSend (s : State) : exec (.waleDoneUpSend) s = execWaleDoneUpSend s := rfl
@[simp] theorem exec_waleDoneUp (p : Fin 6) (b : WaleBlock) (s : State) : exec (.waleDoneUp p b) s = execWaleDoneUp p b s := rfl
@[simp] theorem exec_waleSysdone (p : Fin 6) (b : WaleBlock) (s : State) : exec (.waleSysdone p b) s = execWaleSysdone p b s := rfl
@[simp] theorem exec_waleSystemDoneInstant (s : State) : exec (.waleSystemDoneInstant) s = execWaleSystemDoneInstant s := rfl
@[simp] theorem exec_waleSleepMsg (p : Fin 6) (b : WaleBlock) (s : State) : exec (.waleSleepMsg p b) s = execWaleSleepMsg p b s := rfl
@[simp] theorem exec_waleAwake (p : Fin 6) (b : WaleBlock) (s : State) : exec (.waleAwake p b) s = execWaleAwake p b s := rfl
@[simp] theorem exec_waleWake (p : Fin 6) (b : WaleBlock) (s : State) : exec (.waleWake p b) s = execWaleWake p b s := rfl
@[simp] theorem exec_waleRqGo (ag : Agent) (n : Fin 4) (op : Fin 8) (ack : Bool) (len : Fin 256) (s : State) : exec (.waleRqGo ag n op ack len) s = execWaleRqGo ag n op ack len s := rfl
@[simp] theorem exec_waleRequestDeadline (tag : Fin 256) (s : State) : exec (.waleRequestDeadline tag) s = execWaleRequestDeadline tag s := rfl
@[simp] theorem exec_waleMqPop (ag : Agent) (s : State) : exec (.waleMqPop ag) s = execWaleMqPop ag s := rfl
@[simp] theorem exec_waleGangGo (ag : Agent) (hamper : Bool) (bcast : Bool) (dest : Fin 512) (s : State) : exec (.waleGangGo ag hamper bcast dest) s = execWaleGangGo ag hamper bcast dest s := rfl
@[simp] theorem exec_waleGangAbort (ag : Agent) (blocks : Nat) (s : State) : exec (.waleGangAbort ag blocks) s = execWaleGangAbort ag blocks s := rfl
@[simp] theorem exec_waleGangSendEnd (s : State) : exec (.waleGangSendEnd) s = execWaleGangSendEnd s := rfl
@[simp] theorem exec_waleGangStreamTimeout (s : State) : exec (.waleGangStreamTimeout) s = execWaleGangStreamTimeout s := rfl
@[simp] theorem exec_pcieLinkUp (port : Fin 2) (gen : BitVec 3) (width : BitVec 2) (s : State) : exec (.pcieLinkUp port gen width) s = execPcieLinkUp port gen width s := rfl
@[simp] theorem exec_pcieLinkDown (port : Fin 2) (s : State) : exec (.pcieLinkDown port) s = execPcieLinkDown port s := rfl
@[simp] theorem exec_pcieFlr (port : Fin 2) (s : State) : exec (.pcieFlr port) s = execPcieFlr port s := rfl
@[simp] theorem exec_pcieHotReset (port : Fin 2) (s : State) : exec (.pcieHotReset port) s = execPcieHotReset port s := rfl
@[simp] theorem exec_pciePerst (port : Fin 2) (s : State) : exec (.pciePerst port) s = execPciePerst port s := rfl
@[simp] theorem exec_streamWindowWrite (port : Fin 2) (spi : Bool) (words : List Word) (s : State) : exec (.streamWindowWrite port spi words) s = execStreamWindowWrite port spi words s := rfl
@[simp] theorem exec_hpSendEnd (ag : Agent) (port : Fin 2) (v : Word) (s : State) : exec (.hpSendEnd ag port v) s = execHpSendEnd ag port v s := rfl
@[simp] theorem exec_hpSretRead (ag : Agent) (port : Fin 2) (s : State) : exec (.hpSretRead ag port) s = execHpSretRead ag port s := rfl
@[simp] theorem exec_hpSpirel (ag : Agent) (port : Fin 2) (s : State) : exec (.hpSpirel ag port) s = execHpSpirel ag port s := rfl
@[simp] theorem exec_spiRead (port : Fin 2) (addr : Word) (n : Nat) (s : State) : exec (.spiRead port addr n) s = execSpiRead port addr n s := rfl
@[simp] theorem exec_spiWrite (port : Fin 2) (addr : Word) (words : List Word) (s : State) : exec (.spiWrite port addr words) s = execSpiWrite port addr words s := rfl
@[simp] theorem exec_spiStatus (port : Fin 2) (s : State) : exec (.spiStatus port) s = execSpiStatus port s := rfl
@[simp] theorem exec_spiFrameError (port : Fin 2) (s : State) : exec (.spiFrameError port) s = execSpiFrameError port s := rfl
@[simp] theorem exec_semAcquire (ag : Agent) (n : Fin 64) (s : State) : exec (.semAcquire ag n) s = execSemAcquire ag n s := rfl
@[simp] theorem exec_semRelease (ag : Agent) (n : Fin 64) (s : State) : exec (.semRelease ag n) s = execSemRelease ag n s := rfl
@[simp] theorem exec_semForce (ag : Agent) (v : Word) (s : State) : exec (.semForce ag v) s = execSemForce ag v s := rfl
@[simp] theorem exec_mbRing (ag : Agent) (m : Fin 16) (s : State) : exec (.mbRing ag m) s = execMbRing ag m s := rfl
@[simp] theorem exec_mbAck (ag : Agent) (m : Fin 16) (s : State) : exec (.mbAck ag m) s = execMbAck ag m s := rfl
@[simp] theorem exec_mbDataWrite (ag : Agent) (m : Fin 16) (idx : Fin 8) (v : Word) (s : State) : exec (.mbDataWrite ag m idx v) s = execMbDataWrite ag m idx v s := rfl
@[simp] theorem exec_hamperTrainDone (pass : Bool) (s : State) : exec (.hamperTrainDone pass) s = execHamperTrainDone pass s := rfl
@[simp] theorem exec_hamperTrainTimeout (s : State) : exec (.hamperTrainTimeout) s = execHamperTrainTimeout s := rfl
@[simp] theorem exec_hamperPortRequest (n : Fin 32) (rq : HampRq) (s : State) : exec (.hamperPortRequest n rq) s = execHamperPortRequest n rq s := rfl
@[simp] theorem exec_hamperAccessDone (src : HampSrc) (sev : Fin 4) (s : State) : exec (.hamperAccessDone src sev) s = execHamperAccessDone src sev s := rfl
@[simp] theorem exec_hamperRefresh (s : State) : exec (.hamperRefresh) s = execHamperRefresh s := rfl
@[simp] theorem exec_hamperTempRead (temp : BitVec 8) (s : State) : exec (.hamperTempRead temp) s = execHamperTempRead temp s := rfl
@[simp] theorem exec_hamperRetrain (ag : Agent) (s : State) : exec (.hamperRetrain ag) s = execHamperRetrain ag s := rfl
@[simp] theorem exec_hamperRetrainDrained (s : State) : exec (.hamperRetrainDrained) s = execHamperRetrainDrained s := rfl
@[simp] theorem exec_hamperDrainTimeout (s : State) : exec (.hamperDrainTimeout) s = execHamperDrainTimeout s := rfl
@[simp] theorem exec_hamperRetrainDone (s : State) : exec (.hamperRetrainDone) s = execHamperRetrainDone s := rfl
@[simp] theorem exec_hamperSelfRefreshExit (s : State) : exec (.hamperSelfRefreshExit) s = execHamperSelfRefreshExit s := rfl
@[simp] theorem exec_clusterRunWrite (ag : Agent) (v : Word) (s : State) : exec (.clusterRunWrite ag v) s = execClusterRunWrite ag v s := rfl
@[simp] theorem exec_wdEnable (idx : Fin 5) (s : State) : exec (.wdEnable idx) s = execWdEnable idx s := rfl
@[simp] theorem exec_wdKick (idx : Fin 5) (v : Word) (s : State) : exec (.wdKick idx v) s = execWdKick idx v s := rfl
@[simp] theorem exec_wdExpiry (idx : Fin 5) (s : State) : exec (.wdExpiry idx) s = execWdExpiry idx s := rfl
@[simp] theorem exec_gwWindowAccess (ag : Agent) (req : WindowReq) (s : State) : exec (.gwWindowAccess ag req) s = execGwWindowAccess ag req s := rfl
@[simp] theorem exec_gwWindowResponse (port : Fin 4) (tag : Fin 32) (data : List (BitVec 64)) (err : Bool) (s : State) : exec (.gwWindowResponse port tag data err) s = execGwWindowResponse port tag data err s := rfl
@[simp] theorem exec_gwWindowTimeout (port : Fin 4) (tag : Fin 32) (s : State) : exec (.gwWindowTimeout port tag) s = execGwWindowTimeout port tag s := rfl
@[simp] theorem exec_gwMasterRequest (port : Fin 4) (req : MasterReq) (s : State) : exec (.gwMasterRequest port req) s = execGwMasterRequest port req s := rfl
@[simp] theorem exec_gwMasterDone (port : Fin 4) (tag : Fin 32) (s : State) : exec (.gwMasterDone port tag) s = execGwMasterDone port tag s := rfl
@[simp] theorem exec_eventRaise (n : Fin 448) (s : State) : exec (.eventRaise n) s = execEventRaise n s := rfl
@[simp] theorem exec_userEventEdge (w : Fin 2) (j : Fin 32) (s : State) : exec (.userEventEdge w j) s = execUserEventEdge w j s := rfl
@[simp] theorem exec_evtClaim (ag : Agent) (c : Fin 4) (s : State) : exec (.evtClaim ag c) s = execEvtClaim ag c s := rfl
@[simp] theorem exec_evtRaiseWrite (ag : Agent) (v : Word) (s : State) : exec (.evtRaiseWrite ag v) s = execEvtRaiseWrite ag v s := rfl
@[simp] theorem exec_plRequest (ag : Agent) (v : Word) (s : State) : exec (.plRequest ag v) s = execPlRequest ag v s := rfl
@[simp] theorem exec_plRampDone (s : State) : exec (.plRampDone) s = execPlRampDone s := rfl
@[simp] theorem exec_modeRequestDoze (ag : Agent) (s : State) : exec (.modeRequestDoze ag) s = execModeRequestDoze ag s := rfl
@[simp] theorem exec_modeRequestSleep (ag : Agent) (s : State) : exec (.modeRequestSleep ag) s = execModeRequestSleep ag s := rfl
@[simp] theorem exec_modeRequestStandby (ag : Agent) (s : State) : exec (.modeRequestStandby ag) s = execModeRequestStandby ag s := rfl
@[simp] theorem exec_quiesceDone (s : State) : exec (.quiesceDone) s = execQuiesceDone s := rfl
@[simp] theorem exec_quiesceTimeout (busy : BitVec 4) (s : State) : exec (.quiesceTimeout busy) s = execQuiesceTimeout busy s := rfl
@[simp] theorem exec_sleepEntered (s : State) : exec (.sleepEntered) s = execSleepEntered s := rfl
@[simp] theorem exec_wakeSource (src : Fin 8) (port : Fin 2) (s : State) : exec (.wakeSource src port) s = execWakeSource src port s := rfl
@[simp] theorem exec_wakeTimerExpiry (s : State) : exec (.wakeTimerExpiry) s = execWakeTimerExpiry s := rfl
@[simp] theorem exec_sleepWakeRun (stale : StaleBanks) (s : State) : exec (.sleepWakeRun stale) s = execSleepWakeRun stale s := rfl
@[simp] theorem exec_soundingRequest (ag : Agent) (v : Word) (s : State) : exec (.soundingRequest ag v) s = execSoundingRequest ag v s := rfl
@[simp] theorem exec_soundingAbort (ag : Agent) (s : State) : exec (.soundingAbort ag) s = execSoundingAbort ag s := rfl
@[simp] theorem exec_soundingCopyDone (s : State) : exec (.soundingCopyDone) s = execSoundingCopyDone s := rfl
@[simp] theorem exec_soundingRunDone (run : SoundRun) (s : State) : exec (.soundingRunDone run) s = execSoundingRunDone run s := rfl
@[simp] theorem exec_soundingMoveBackDone (s : State) : exec (.soundingMoveBackDone) s = execSoundingMoveBackDone s := rfl
@[simp] theorem exec_loadingSoundingBatchDone (rep : SoundReport) (s : State) : exec (.loadingSoundingBatchDone rep) s = execLoadingSoundingBatchDone rep s := rfl
@[simp] theorem exec_fuseBurn (ag : Agent) (v : Word) (s : State) : exec (.fuseBurn ag v) s = execFuseBurn ag v s := rfl
@[simp] theorem exec_fuseBurnDone (s : State) : exec (.fuseBurnDone) s = execFuseBurnDone s := rfl
@[simp] theorem exec_staleClear (ag : Agent) (v : Word) (s : State) : exec (.staleClear ag v) s = execStaleClear ag v s := rfl
@[simp] theorem exec_creelScrubStep (n : Fin 11520) (s : State) : exec (.creelScrubStep n) s = execCreelScrubStep n s := rfl
@[simp] theorem exec_creelScrubWriteBack (n : Fin 11520) (s : State) : exec (.creelScrubWriteBack n) s = execCreelScrubWriteBack n s := rfl
@[simp] theorem exec_lcTransition (ag : Agent) (s : State) : exec (.lcTransition ag) s = execLcTransition ag s := rfl
@[simp] theorem exec_lcSetOwner (ag : Agent) (s : State) : exec (.lcSetOwner ag) s = execLcSetOwner ag s := rfl
@[simp] theorem exec_lcSetKeyFuse (ag : Agent) (s : State) : exec (.lcSetKeyFuse ag) s = execLcSetKeyFuse ag s := rfl
@[simp] theorem exec_lcLoadKeyBbr (ag : Agent) (s : State) : exec (.lcLoadKeyBbr ag) s = execLcLoadKeyBbr ag s := rfl
@[simp] theorem exec_lcClearKeyBbr (ag : Agent) (s : State) : exec (.lcClearKeyBbr ag) s = execLcClearKeyBbr ag s := rfl
@[simp] theorem exec_lcDebugToken (ag : Agent) (jtag : Bool) (s : State) : exec (.lcDebugToken ag jtag) s = execLcDebugToken ag jtag s := rfl
@[simp] theorem exec_lcReqbufClear (ag : Agent) (s : State) : exec (.lcReqbufClear ag) s = execLcReqbufClear ag s := rfl
@[simp] theorem exec_lcRequestVerified (vinOk : Bool) (s : State) : exec (.lcRequestVerified vinOk) s = execLcRequestVerified vinOk s := rfl
@[simp] theorem exec_lcBurnDone (failed : Option Nat) (s : State) : exec (.lcBurnDone failed) s = execLcBurnDone failed s := rfl
@[simp] theorem exec_tamperEvent (cause : Fin 3) (s : State) : exec (.tamperEvent cause) s = execTamperEvent cause s := rfl
@[simp] theorem exec_zeroiseWrite (ag : Agent) (v : Word) (s : State) : exec (.zeroiseWrite ag v) s = execZeroiseWrite ag v s := rfl
@[simp] theorem exec_debugClose (ag : Agent) (s : State) : exec (.debugClose ag) s = execDebugClose ag s := rfl
@[simp] theorem exec_jtagTapReset (s : State) : exec (.jtagTapReset) s = execJtagTapReset s := rfl
@[simp] theorem exec_jtagLcTokenUpdate (shifts : Nat) (bytes : List Byte) (s : State) : exec (.jtagLcTokenUpdate shifts bytes) s = execJtagLcTokenUpdate shifts bytes s := rfl
@[simp] theorem exec_jtagExtest (s : State) : exec (.jtagExtest) s = execJtagExtest s := rfl
@[simp] theorem exec_jtagClamp (s : State) : exec (.jtagClamp) s = execJtagClamp s := rfl
@[simp] theorem exec_jtagHighz (s : State) : exec (.jtagHighz) s = execJtagHighz s := rfl
@[simp] theorem exec_jtagIdcode (s : State) : exec (.jtagIdcode) s = execJtagIdcode s := rfl
@[simp] theorem exec_jtagSamplePreload (s : State) : exec (.jtagSamplePreload) s = execJtagSamplePreload s := rfl
@[simp] theorem exec_jtagLcToken (s : State) : exec (.jtagLcToken) s = execJtagLcToken s := rfl
@[simp] theorem exec_jtagLcStatus (s : State) : exec (.jtagLcStatus) s = execJtagLcStatus s := rfl
@[simp] theorem exec_jtagDmi (s : State) : exec (.jtagDmi) s = execJtagDmi s := rfl
@[simp] theorem exec_jtagGrenricTest (code : Fin 16) (s : State) : exec (.jtagGrenricTest code) s = execJtagGrenricTest code s := rfl
@[simp] theorem exec_jtagBypass (s : State) : exec (.jtagBypass) s = execJtagBypass s := rfl
@[simp] theorem exec_registerWrite (ag : Agent) (off : Nat) (v : Word) (full : Bool) (s : State) : exec (.registerWrite ag off v full) s = execRegisterWrite ag off v full s := rfl
@[simp] theorem exec_stakeNetEdge (bay : Fin 96) (net : Fin 24) (rising : Bool) (pins : EdgePins) (s : State) : exec (.stakeNetEdge bay net rising pins) s = execStakeNetEdge bay net rising pins s := rfl
@[simp] theorem exec_laneRxWord (n : Fin 64) (w : LaneRx) (s : State) : exec (.laneRxWord n w) s = execLaneRxWord n w s := rfl
@[simp] theorem exec_vbatLow (s : State) : exec (.vbatLow) s = execVbatLow s := rfl
@[simp] theorem exec_pciePowerStateChange (port : Fin 2) (d3hot : Bool) (l1 : Bool) (cfg : EndpointCfg) (s : State) : exec (.pciePowerStateChange port d3hot l1 cfg) s = execPciePowerStateChange port d3hot l1 cfg s := rfl
@[simp] theorem exec_clusterBusAccess (core : Fin 4) (acc : BusAccess) (s : State) : exec (.clusterBusAccess core acc) s = execClusterBusAccess core acc s := rfl

end Sys2Proof.Machine
end

