-- ==== Sys2Proof/Laws/Pairs.lean ====
section
/-! SUPPORT. The components of a pair chosen by a condition. -/
namespace Sys2Proof.Machine

set_option linter.unusedTactic false
set_option linter.unreachableTactic false

@[simp] theorem fst_ite {α β : Type} (c : Prop) [Decidable c] (a b : α × β) : (if c then a else b).1 = if c then a.1 else b.1 := by
  split <;> rfl

@[simp] theorem snd_ite {α β : Type} (c : Prop) [Decidable c] (a b : α × β) : (if c then a else b).2 = if c then a.2 else b.2 := by
  split <;> rfl

end Sys2Proof.Machine
end

