-- ==== Sys2Proof/Laws/Store.lean ====
section
/-! SUPPORT. The laws of the sparse tables: a read after a write, whatever the table, and the canonical form
kept. -/
namespace Sys2Proof.Laws
open Sys2Proof.Machine

variable {α : Type} [DecidableEq α] {d : Nat → α}

omit [DecidableEq α] in
@[simp] theorem get_insert_eq (m : Store α) (k : Nat) (v : α) : Store.get d (Store.insert m k v) k = v := by
  induction m with
  | nil => simp [Store.insert, Store.get]
  | cons e t ih =>
    simp only [Store.insert]
    split
    · simp [Store.get]
    · split
      · simp [Store.get]
      · rename_i h1 h2; simp [Store.get, h1, ih]

omit [DecidableEq α] in
theorem get_insert_ne (m : Store α) {k j : Nat} (v : α) (h : j ≠ k) :
    Store.get d (Store.insert m k v) j = Store.get d m j := by
  induction m with
  | nil => simp [Store.insert, Store.get, h]
  | cons e t ih =>
    simp only [Store.insert]
    split
    · rename_i h1; subst h1; simp [Store.get, h]
    · split
      · simp [Store.get, h]
      · simp only [Store.get, ih]

omit [DecidableEq α] in
theorem get_erase_eq (m : Store α) (k : Nat) : Store.get d (Store.erase m k) k = d k := by
  induction m with
  | nil => rfl
  | cons e t ih =>
    simp only [Store.erase]
    split
    · exact ih
    · rename_i h1; simp [Store.get, h1, ih]

omit [DecidableEq α] in
theorem get_erase_ne (m : Store α) {k j : Nat} (hj : j ≠ k) :
    Store.get d (Store.erase m k) j = Store.get d m j := by
  induction m with
  | nil => rfl
  | cons e t ih =>
    simp only [Store.erase]
    split
    · rename_i h1; subst h1; simp [Store.get, hj, ih]
    · simp only [Store.get, ih]

/-- A read after a write to the same key gives the value written. -/
@[simp] theorem get_set_eq (m : Store α) (k : Nat) (v : α) : Store.get d (Store.set d m k v) k = v := by
  unfold Store.set
  split
  · rename_i hv; rw [hv]; exact get_erase_eq m k
  · exact get_insert_eq m k v

/-- A write leaves every other key alone. -/
theorem get_set_ne (m : Store α) {k j : Nat} (v : α) (hj : j ≠ k) :
    Store.get d (Store.set d m k v) j = Store.get d m j := by
  unfold Store.set
  split
  · exact get_erase_ne m hj
  · exact get_insert_ne m v hj

/-- What every key reads after a write. -/
theorem get_set (m : Store α) (k j : Nat) (v : α) :
    Store.get d (Store.set d m k v) j = if j = k then v else Store.get d m j := by
  split
  · rename_i h; rw [h, get_set_eq]
  · rename_i h; rw [get_set_ne m v h]

/-! The canonical form. -/

theorem wfFrom_mono {lo lo' : Nat} (h : lo' ≤ lo) {m : Store α} :
    Store.wfFrom d lo m = true → Store.wfFrom d lo' m = true := by
  cases m with
  | nil => simp [Store.wfFrom]
  | cons e t => simp only [Store.wfFrom, Bool.and_eq_true, decide_eq_true_eq]; rintro ⟨⟨a, b⟩, c⟩; exact ⟨⟨by omega, b⟩, c⟩

theorem wfFrom_insert {m : Store α} {lo k : Nat} {v : α} (h : Store.wfFrom d lo m = true) (hk : lo ≤ k)
    (hv : v ≠ d k) : Store.wfFrom d lo (Store.insert m k v) = true := by
  induction m generalizing lo with
  | nil => simp [Store.insert, Store.wfFrom, hk, hv]
  | cons e t ih =>
    simp only [Store.wfFrom, Bool.and_eq_true, decide_eq_true_eq] at h
    simp only [Store.insert]
    split
    · rename_i h1; simp only [Store.wfFrom, Bool.and_eq_true, decide_eq_true_eq]; subst h1
      exact ⟨⟨hk, hv⟩, h.2⟩
    · split
      · rename_i h1 h2
        simp only [Store.wfFrom, Bool.and_eq_true, decide_eq_true_eq]
        exact ⟨⟨hk, hv⟩, ⟨by omega, h.1.2⟩, h.2⟩
      · simp only [Store.wfFrom, Bool.and_eq_true, decide_eq_true_eq]
        exact ⟨h.1, ih h.2 (by omega)⟩

theorem wfFrom_erase {m : Store α} {lo : Nat} (k : Nat) (h : Store.wfFrom d lo m = true) :
    Store.wfFrom d lo (Store.erase m k) = true := by
  induction m generalizing lo with
  | nil => exact h
  | cons e t ih =>
    simp only [Store.wfFrom, Bool.and_eq_true, decide_eq_true_eq] at h
    simp only [Store.erase]
    split
    · exact wfFrom_mono (by omega) (ih h.2)
    · simp only [Store.wfFrom, Bool.and_eq_true, decide_eq_true_eq]; exact ⟨h.1, ih h.2⟩

/-- A write keeps the canonical form. -/
theorem wf_set {m : Store α} (h : Store.wf d m = true) (k : Nat) (v : α) :
    Store.wf d (Store.set d m k v) = true := by
  unfold Store.set
  split
  · exact wfFrom_erase k h
  · exact wfFrom_insert h (Nat.zero_le _) ‹_›

theorem wfFrom_filter {m : Store α} (p : Nat × α → Bool) {lo : Nat} (h : Store.wfFrom d lo m = true) :
    Store.wfFrom d lo (m.filter p) = true := by
  induction m generalizing lo with
  | nil => exact h
  | cons e t ih =>
    simp only [Store.wfFrom, Bool.and_eq_true, decide_eq_true_eq] at h
    simp only [List.filter_cons]
    split
    · simp only [Store.wfFrom, Bool.and_eq_true, decide_eq_true_eq]; exact ⟨h.1, ih h.2⟩
    · exact wfFrom_mono (by omega) (ih h.2)

/-- Clearing a range keeps the canonical form. -/
theorem wf_clearRange {m : Store α} (h : Store.wf d m = true) (lo hi : Nat) :
    Store.wf d (Store.clearRange m lo hi) = true := wfFrom_filter _ h

/-- Dropping keys keeps the canonical form. -/
theorem wf_filterKeys {m : Store α} (h : Store.wf d m = true) (keep : Nat → Bool) :
    Store.wf d (Store.filterKeys m keep) = true := wfFrom_filter _ h

/-- A run of writes keeps the canonical form. -/
theorem wf_setList {m : Store α} (h : Store.wf d m = true) (k : Nat) (vs : List α) :
    Store.wf d (Store.setList d m k vs) = true := by
  induction vs generalizing m k with
  | nil => exact h
  | cons v vs ih => exact ih (wf_set h k v) (k + 1)

theorem wf_nil : Store.wf d ([] : Store α) = true := rfl

/-- A byte written keeps the keys rising. -/
theorem rising_insert {α : Type} {m : Store α} {lo k : Nat} {v : α} (h : Store.risingFrom lo m = true) (hk : lo ≤ k) :
    Store.risingFrom lo (Store.insert m k v) = true := by
  induction m generalizing lo with
  | nil => simp [Store.insert, Store.risingFrom, hk]
  | cons e t ih =>
    simp only [Store.risingFrom, Bool.and_eq_true, decide_eq_true_eq] at h
    simp only [Store.insert]
    split
    · rename_i h1; simp only [Store.risingFrom, Bool.and_eq_true, decide_eq_true_eq]; subst h1
      exact ⟨hk, h.2⟩
    · split
      · rename_i h1 h2
        simp only [Store.risingFrom, Bool.and_eq_true, decide_eq_true_eq]
        exact ⟨hk, by omega, h.2⟩
      · simp only [Store.risingFrom, Bool.and_eq_true, decide_eq_true_eq]
        exact ⟨h.1, ih h.2 (by omega)⟩

end Sys2Proof.Laws
end

