-- ==== Sys2Proof/Laws/FrameFlash.lean ====
section
/-! SUPPORT. Which operations leave the flash array as it is, and that the others keep the canonical form of its list. -/
namespace Sys2Proof.Machine

/-! Ops. -/

@[simp] theorem flashCells_ite (c : Prop) [Decidable c] (a b : State) :
    (if c then a else b).flash.cells = if c then a.flash.cells else b.flash.cells := by split <;> rfl
@[simp] theorem foldl_flashCells {α : Type} (f : State → α → State) (h : ∀ t a, (f t a).flash.cells = t.flash.cells)
    (l : List α) (s : State) : (l.foldl f s).flash.cells = s.flash.cells := by
  induction l generalizing s with
  | nil => rfl
  | cons a l ih => simp [ih, h]

@[simp] theorem FlashState.setEntry_flashCells (f : FlashState) (k : Nat) (e : SecEntry) : (f.setEntry k e).cells = f.cells := rfl
@[simp] theorem FlashState.applyLog_flashCells (f : FlashState) (w : BitVec 64) : (f.applyLog w).cells = f.cells := by
  unfold FlashState.applyLog
  dsimp only
  repeat' first | rfl | split
theorem foldl_flash_flashCells {α : Type} (f : FlashState → α → FlashState) (h : ∀ g a, (f g a).cells = g.cells)
    (l : List α) (g : FlashState) : (l.foldl f g).cells = g.cells := by
  induction l generalizing g with
  | nil => rfl
  | cons a l ih => rw [List.foldl_cons, ih, h]

theorem FlashState.tableFrom_flashCells (f g : FlashState) (h : Nat) (l m : List Nat) :
    (m.foldl (fun g i => g.applyLog (g.ledgerWord h (4108 + i)))
      (l.foldl (fun g i => g.setEntry i (summaryEntry (f.ledgerWord h (1 + i)))) g)).cells = g.cells := by
  rw [foldl_flash_flashCells _ (fun g a => FlashState.applyLog_flashCells g _), foldl_flash_flashCells _ (fun g a => FlashState.setEntry_flashCells g _ _)]
@[simp] theorem FlashState.ledgerTable_flashCells (f : FlashState) (h : Nat) : (f.ledgerTable h).cells = f.cells := by
  unfold FlashState.ledgerTable
  exact FlashState.tableFrom_flashCells _ _ _ _ _

@[simp] theorem State.wr_flashCells (s : State) (off : Nat) (v : Word) : (State.wr s off v).flash.cells = s.flash.cells := by simp [State.wr]
@[simp] theorem State.liveWr_flashCells (s : State) (off : Nat) (v : Word) : (State.liveWr s off v).flash.cells = s.flash.cells := by simp [State.liveWr]
@[simp] theorem State.setFld_flashCells (s : State) (off hi lo v : Nat) : (State.setFld s off hi lo v).flash.cells = s.flash.cells := by simp [State.setFld]
@[simp] theorem State.setBit_flashCells (s : State) (off i : Nat) (b : Bool) : (State.setBit s off i b).flash.cells = s.flash.cells := by simp [State.setBit]
@[simp] theorem State.orReg_flashCells (s : State) (off : Nat) (m : Word) : (State.orReg s off m).flash.cells = s.flash.cells := by simp [State.orReg]
@[simp] theorem State.bumpSat_flashCells (s : State) (off : Nat) : (State.bumpSat s off).flash.cells = s.flash.cells := by simp [State.bumpSat]
@[simp] theorem State.plainWrite_flashCells (s : State) (off : Nat) (v : Word) : (State.plainWrite s off v).flash.cells = s.flash.cells := by unfold State.plainWrite; (repeat' split) <;> simp
@[simp] theorem State.setMode_flashCells (s : State) (m : Nat) : (State.setMode s m).flash.cells = s.flash.cells := by simp [State.setMode]
@[simp] theorem State.sysFault_flashCells (s : State) (i : Nat) : (State.sysFault s i).flash.cells = s.flash.cells := by simp [State.sysFault]
@[simp] theorem State.freshWord_flashCells (s : State) : (State.freshWord s).2.flash.cells = s.flash.cells := by simp [State.freshWord]
@[simp] theorem State.freshNat_flashCells (s : State) : (State.freshNat s).2.flash.cells = s.flash.cells := by simp [State.freshNat]
@[simp] theorem State.emit_flashCells (s : State) (e : Emission) : (State.emit s e).flash.cells = s.flash.cells := by simp [State.emit]
@[simp] theorem State.setPort_flashCells (s : State) (p : Fin 2) (h : HostPort) : (State.setPort s p h).flash.cells = s.flash.cells := by simp [State.setPort]
@[simp] theorem State.msixSend_flashCells (s : State) (p : Fin 2) (vec : Nat) : (State.msixSend s p vec).flash.cells = s.flash.cells := by simp [State.msixSend]
@[simp] theorem State.msixFlush_flashCells (s : State) (p : Fin 2) : (State.msixFlush s p).flash.cells = s.flash.cells := by simp [State.msixFlush]
@[simp] theorem State.msixAfter_flashCells (before : State) (n : Nat) (s : State) : (State.msixAfter before n s).flash.cells = s.flash.cells := by simp [State.msixAfter]
@[simp] theorem State.raise_flashCells (s : State) (n : Nat) : (State.raise s n).flash.cells = s.flash.cells := by simp [State.raise]
@[simp] theorem State.raiseIf_flashCells (s : State) (c : Bool) (n : Nat) : (State.raiseIf s c n).flash.cells = s.flash.cells := by simp [State.raiseIf]
@[simp] theorem State.portEvent_flashCells (s : State) (p : Fin 2) (i : Nat) : (State.portEvent s p i).flash.cells = s.flash.cells := by simp [State.portEvent]
@[simp] theorem State.semFreed_flashCells (s : State) (n : Nat) : (State.semFreed s n).flash.cells = s.flash.cells := by simp [State.semFreed]
@[simp] theorem State.semFree_flashCells (s : State) (n : Nat) : (State.semFree s n).flash.cells = s.flash.cells := by simp [State.semFree]
@[simp] theorem State.semAutoRelease_flashCells (s : State) (ident : Nat) : (State.semAutoRelease s ident).flash.cells = s.flash.cells := by simp [State.semAutoRelease]
@[simp] theorem State.semAllFree_flashCells (s : State) : (State.semAllFree s).flash.cells = s.flash.cells := by simp [State.semAllFree]
@[simp] theorem State.portDiscard_flashCells (s : State) (ag : Agent) (region off : Nat) : (State.portDiscard s ag region off).flash.cells = s.flash.cells := by unfold State.portDiscard; dsimp only; repeat' first | (simp; done) | split
@[simp] theorem State.discard_flashCells (s : State) (ag : Agent) (region off : Nat) : (State.discard s ag region off).flash.cells = s.flash.cells := by simp [State.discard]
@[simp] theorem State.guarded_flashCells (s : State) (ag : Agent) (n off : Nat) (t : State) (h : t.flash.cells = s.flash.cells) : (s.guarded ag n off t).flash.cells = s.flash.cells := by unfold State.guarded; split <;> simp [h]
@[simp] theorem State.rws_flashCells (s : State) (ag : Agent) (off : Nat) (t : State) (h : t.flash.cells = s.flash.cells) : (s.rws ag off t).flash.cells = s.flash.cells := by unfold State.rws; (repeat' split) <;> simp [h]

/-! WaleTree. -/

@[simp] theorem State.setWale_flashCells (s : State) (w : WaleSt) : (State.setWale s w).flash.cells = s.flash.cells := by simp [State.setWale]
@[simp] theorem State.setWp_flashCells (s : State) (p : Nat) (v : WpSt) : (State.setWp s p v).flash.cells = s.flash.cells := by simp [State.setWp]
@[simp] theorem State.wpEvent_flashCells (s : State) (p i : Nat) : (State.wpEvent s p i).flash.cells = s.flash.cells := by simp [State.wpEvent]
@[simp] theorem State.wpFault_flashCells (s : State) (p i : Nat) : (State.wpFault s p i).flash.cells = s.flash.cells := by simp [State.wpFault]
@[simp] theorem State.waleErr_flashCells (s : State) (i : Nat) : (State.waleErr s i).flash.cells = s.flash.cells := by simp [State.waleErr]
@[simp] theorem State.waleEmit_flashCells (s : State) (p : Nat) (o : WaleOut) : (State.waleEmit s p o).flash.cells = s.flash.cells := by simp [State.waleEmit]
@[simp] theorem State.wpClear_flashCells (s : State) (p : Nat) : (State.wpClear s p).flash.cells = s.flash.cells := by simp [State.wpClear]
@[simp] theorem State.linkSend_flashCells (s : State) (p : Nat) (b : WaleBlock) : (State.linkSend s p b).flash.cells = s.flash.cells := by simp [State.linkSend]
@[simp] theorem State.linkDrain_flashCells (s : State) (p : Nat) : (State.linkDrain s p).flash.cells = s.flash.cells := by simp [State.linkDrain]
@[simp] theorem State.bcastOut_flashCells (s : State) (from_ : Option Nat) (b : WaleBlock) : (State.bcastOut s from_ b).flash.cells = s.flash.cells := by simp [State.bcastOut]
@[simp] theorem State.sysBcast_flashCells (s : State) (m : SysMsg) : (State.sysBcast s m).flash.cells = s.flash.cells := by simp [State.sysBcast]
@[simp] theorem State.sysNeighbour_flashCells (s : State) (p : Nat) (m : SysMsg) : (State.sysNeighbour s p m).flash.cells = s.flash.cells := by simp [State.sysNeighbour]
@[simp] theorem State.advertise_flashCells (s : State) (p : Nat) : (State.advertise s p).flash.cells = s.flash.cells := by simp [State.advertise]
@[simp] theorem State.advertiseAll_flashCells (s : State) : (State.advertiseAll s).flash.cells = s.flash.cells := by simp [State.advertiseAll]
@[simp] theorem State.setTlock_flashCells (s : State) (b : Bool) : (State.setTlock s b).flash.cells = s.flash.cells := by simp [State.setTlock]
@[simp] theorem State.chainRefresh_flashCells (s : State) : (State.chainRefresh s).flash.cells = s.flash.cells := by simp [State.chainRefresh]
@[simp] theorem State.waleTimeRefresh_flashCells (s : State) : (State.waleTimeRefresh s).flash.cells = s.flash.cells := by simp [State.waleTimeRefresh]
@[simp] theorem State.treeRefresh_flashCells (s : State) : (State.treeRefresh s).flash.cells = s.flash.cells := by simp [State.treeRefresh]
@[simp] theorem State.waleSemRelease_flashCells (s : State) : (State.waleSemRelease s).flash.cells = s.flash.cells := by simp [State.waleSemRelease]
@[simp] theorem State.linkDrop_flashCells (s : State) (p cause : Nat) : (State.linkDrop s p cause).flash.cells = s.flash.cells := by simp [State.linkDrop]
@[simp] theorem State.walePortsDrop_flashCells (s : State) : (State.walePortsDrop s).flash.cells = s.flash.cells := by simp [State.walePortsDrop]

/-! Clocks. -/

@[simp] theorem State.commitRwb_flashCells (s : State) (off : Nat) (cap val : Word) : (State.commitRwb s off cap val).flash.cells = s.flash.cells := by simp [State.commitRwb]
@[simp] theorem State.hubWrite_flashCells (s : State) (ag : Agent) (v : Word) : (State.hubWrite s ag v).flash.cells = s.flash.cells := by simp [State.hubWrite]
@[simp] theorem State.hubClockSwitch_flashCells (s : State) : (State.hubClockSwitch s).flash.cells = s.flash.cells := by simp [State.hubClockSwitch]
theorem execClkHubWrite_flashCells (ag : Agent) (v : Word) (s : State) : ∀ q1, (execClkHubWrite ag v s) = .next q1 → q1.flash.cells = s.flash.cells := by
  rintro q1 ⟨⟩; simp
theorem execHubSynthLock_flashCells (s : State) : ∀ q1, (execHubSynthLock s) = .next q1 → q1.flash.cells = s.flash.cells := by
  rintro q1 ⟨⟩; simp
@[simp] theorem State.setSynthPhase_flashCells (s : State) (n : Nat) (p : SynthPhase) : (State.setSynthPhase s n p).flash.cells = s.flash.cells := by simp [State.setSynthPhase]
@[simp] theorem State.illegalSel_flashCells (s : State) : (State.illegalSel s).flash.cells = s.flash.cells := by simp [State.illegalSel]
@[simp] theorem State.lockRefresh_flashCells (s : State) (n : Nat) : (State.lockRefresh s n).flash.cells = s.flash.cells := by simp [State.lockRefresh]
@[simp] theorem State.synthMeasure_flashCells (s : State) (g n : Nat) : (State.synthMeasure s g n).flash.cells = s.flash.cells := by simp [State.synthMeasure]
@[simp] theorem State.synthBegin_flashCells (s : State) (n : Nat) (c : SynthClass) : (State.synthBegin s n c).flash.cells = s.flash.cells := by unfold State.synthBegin; (repeat' split) <;> simp
@[simp] theorem State.synthPend_flashCells (s : State) (n : Nat) : (State.synthPend s n).flash.cells = s.flash.cells := by simp [State.synthPend]
@[simp] theorem State.synthApply_flashCells (s : State) (n : Nat) (vals : List (Nat × Word)) : (State.synthApply s n vals).flash.cells = s.flash.cells := by simp [State.synthApply]
@[simp] theorem State.synthLose_flashCells (s : State) (n : Nat) : (State.synthLose s n).flash.cells = s.flash.cells := by simp [State.synthLose]
theorem execSynthGlideDone_flashCells (n : Fin 32) (s : State) : ∀ q1, (execSynthGlideDone n s) = .next q1 → q1.flash.cells = s.flash.cells := by
  rintro q1 ⟨⟩; simp
theorem execSynthDividerDone_flashCells (n : Fin 32) (s : State) : ∀ q1, (execSynthDividerDone n s) = .next q1 → q1.flash.cells = s.flash.cells := by
  rintro q1 ⟨⟩; simp
theorem execSynthLock_flashCells (n : Fin 32) (s : State) : ∀ q1, (execSynthLock n s) = .next q1 → q1.flash.cells = s.flash.cells := by
  rintro q1 ⟨⟩; simp
theorem execSynthLossOfLock_flashCells (n : Fin 32) (s : State) : ∀ q1, (execSynthLossOfLock n s) = .next q1 → q1.flash.cells = s.flash.cells := by
  rintro q1 ⟨⟩; simp
theorem execSynthHoldoverExit_flashCells (n : Fin 32) (s : State) : ∀ q1, (execSynthHoldoverExit n s) = .next q1 → q1.flash.cells = s.flash.cells := by
  rintro q1 ⟨⟩; simp
@[simp] theorem State.tclkHoldover_flashCells (s : State) : (State.tclkHoldover s).flash.cells = s.flash.cells := by simp [State.tclkHoldover]
theorem execRefinLost_flashCells (s : State) : ∀ q1, (execRefinLost s) = .next q1 → q1.flash.cells = s.flash.cells := by
  rintro q1 ⟨⟩; simp
theorem execRefinRestored_flashCells (s : State) : ∀ q1, (execRefinRestored s) = .next q1 → q1.flash.cells = s.flash.cells := by
  rintro q1 ⟨⟩; simp
theorem execXrefLost_flashCells (s : State) : ∀ q1, (execXrefLost s) = .next q1 → q1.flash.cells = s.flash.cells := by
  rintro q1 ⟨⟩; simp
theorem execXrefRestored_flashCells (s : State) : ∀ q1, (execXrefRestored s) = .next q1 → q1.flash.cells = s.flash.cells := by
  rintro q1 ⟨⟩; simp
@[simp] theorem State.setSwitching_flashCells (s : State) (k v : Nat) : (State.setSwitching s k v).flash.cells = s.flash.cells := by simp [State.setSwitching]
@[simp] theorem State.netChange_flashCells (s : State) (k old new : Nat) : (State.netChange s k old new).flash.cells = s.flash.cells := by simp [State.netChange]
@[simp] theorem State.selectWrite_flashCells (s : State) (off : Nat) (legal : Bool) (v : Word) : (State.selectWrite s off legal v).flash.cells = s.flash.cells := by simp [State.selectWrite]
@[simp] theorem State.rimApply_flashCells (s : State) (k j : Nat) (vals : List (Nat × Word)) : (State.rimApply s k j vals).flash.cells = s.flash.cells := by unfold State.rimApply; (repeat' split) <;> simp
@[simp] theorem State.vselApply_flashCells (s : State) (w j : Nat) (vals : List (Nat × Word)) : (State.vselApply s w j vals).flash.cells = s.flash.cells := by unfold State.vselApply; (repeat' split) <;> simp
theorem execRimSelectWrite_flashCells (ag : Agent) (reg : RimReg) (v : Word) (s : State) : ∀ q1, (execRimSelectWrite ag reg v s) = .next q1 → q1.flash.cells = s.flash.cells := by
  intro q1 h
  cases reg <;> (cases h; simp)
theorem execGlitchFreeSwitchDone_flashCells (net : ClockNet) (s : State) : ∀ q1, (execGlitchFreeSwitchDone net s) = .next q1 → q1.flash.cells = s.flash.cells := by
  rintro q1 ⟨⟩; simp
theorem execGlitchFreeSwitchForced_flashCells (net : ClockNet) (s : State) : ∀ q1, (execGlitchFreeSwitchForced net s) = .next q1 → q1.flash.cells = s.flash.cells := by
  rintro q1 ⟨⟩; simp
@[simp] theorem State.setFmRun_flashCells (s : State) (m v : Nat) : (State.setFmRun s m v).flash.cells = s.flash.cells := by simp [State.setFmRun]
@[simp] theorem State.fmTick_flashCells (s : State) (m : Nat) : (State.fmTick s m).flash.cells = s.flash.cells := by simp [State.fmTick]
@[simp] theorem State.fmWrite_flashCells (s : State) (m : Nat) (v : Word) : (State.fmWrite s m v).flash.cells = s.flash.cells := by simp [State.fmWrite]
theorem execFmSourceWrite_flashCells (ag : Agent) (m : Fin 16) (v : Word) (s : State) : ∀ q1, (execFmSourceWrite ag m v s) = .next q1 → q1.flash.cells = s.flash.cells := by
  rintro q1 ⟨⟩; simp
theorem execFmWindowEnd_flashCells (m : Fin 16) (count : Word) (s : State) : ∀ q1, (execFmWindowEnd m count s) = .next q1 → q1.flash.cells = s.flash.cells := by
  intro q1 h; unfold execFmWindowEnd at h; dsimp only at h; (repeat' split at h) <;> first | (cases h; simp) | (cases h; (repeat' split) <;> simp_all)
@[simp] theorem State.clkWrite_flashCells (s : State) (ag : Agent) (off : Nat) (v : Word) : (State.clkWrite s ag off v).flash.cells = s.flash.cells := by simp [State.clkWrite]

/-! Planes. -/

@[simp] theorem State.setFrame_flashCells (s : State) (latch key : Nat) (f : BitVec 10240) : (State.setFrame s latch key f).flash.cells = s.flash.cells := by simp [State.setFrame]
@[simp] theorem State.setChk_flashCells (s : State) (latch key : Nat) (w : Word) : (State.setChk s latch key w).flash.cells = s.flash.cells := by simp [State.setChk]
@[simp] theorem State.setDyn_flashCells (s : State) (latch key : Nat) (b : Bool) : (State.setDyn s latch key b).flash.cells = s.flash.cells := by simp [State.setDyn]
@[simp] theorem State.putFrame_flashCells (s : State) (latch key : Nat) (f : BitVec 10240) (dyn : Bool) : (State.putFrame s latch key f dyn).flash.cells = s.flash.cells := by simp [State.putFrame]
@[simp] theorem State.clearLatch_flashCells (s : State) (u latch : Nat) : (State.clearLatch s u latch).flash.cells = s.flash.cells := by simp [State.clearLatch]
@[simp] theorem State.clearPlanes_flashCells (s : State) : (State.clearPlanes s).flash.cells = s.flash.cells := by simp [State.clearPlanes]
@[simp] theorem State.flipUnit_flashCells (s : State) (u : Nat) : (State.flipUnit s u).flash.cells = s.flash.cells := by simp [State.flipUnit]
@[simp] theorem State.setShState_flashCells (s : State) (u v : Nat) : (State.setShState s u v).flash.cells = s.flash.cells := by simp [State.setShState]
@[simp] theorem State.setBport_flashCells (s : State) (k : Nat) (v : BPort) : (State.setBport s k v).flash.cells = s.flash.cells := by simp [State.setBport]
@[simp] theorem State.bportHold_flashCells (s : State) (k : Nat) : (State.bportHold s k).flash.cells = s.flash.cells := by unfold State.bportHold; (repeat' split) <;> simp
@[simp] theorem State.bportsHold_flashCells (s : State) (sel : Nat → Bool) : (State.bportsHold s sel).flash.cells = s.flash.cells := by
  unfold State.bportsHold
  apply foldl_flashCells
  intro t n
  split
  · split
    · exact State.bportHold_flashCells _ _
    · rfl
  · rfl
@[simp] theorem State.setBond_flashCells (s : State) (u : Nat) (hold : Bool) : (State.setBond s u hold).flash.cells = s.flash.cells := by simp [State.setBond]
@[simp] theorem State.setInit_flashCells (s : State) (bay : Nat) (hold : Bool) : (State.setInit s bay hold).flash.cells = s.flash.cells := by simp [State.setInit]
@[simp] theorem State.setOut_flashCells (s : State) (k : Nat) (on : Bool) : (State.setOut s k on).flash.cells = s.flash.cells := by simp [State.setOut]
@[simp] theorem State.setArrayWord_flashCells (s : State) (a w : Nat) (v : BitVec 36) : (State.setArrayWord s a w v).flash.cells = s.flash.cells := by simp [State.setArrayWord]
@[simp] theorem State.setCreelWord_flashCells (s : State) (n w : Nat) (v : BitVec 36) : (State.setCreelWord s n w v).flash.cells = s.flash.cells := by simp [State.setCreelWord]
@[simp] theorem State.clearArray_flashCells (s : State) (a : Nat) : (State.clearArray s a).flash.cells = s.flash.cells := by simp [State.clearArray]
@[simp] theorem State.copyArray_flashCells (s : State) (src dst : Nat) : (State.copyArray s src dst).flash.cells = s.flash.cells := by simp [State.copyArray]
@[simp] theorem State.putContent_flashCells (s : State) (p : Word) (f : BitVec 10240) : (State.putContent s p f).flash.cells = s.flash.cells := by simp [State.putContent]
@[simp] theorem State.staleReport_flashCells (s : State) : (State.staleReport s).flash.cells = s.flash.cells := by simp [State.staleReport]
@[simp] theorem State.makeStale_flashCells (s : State) (n : Nat) : (State.makeStale s n).flash.cells = s.flash.cells := by simp [State.makeStale]
@[simp] theorem State.staleOff_flashCells (s : State) (n : Nat) : (State.staleOff s n).flash.cells = s.flash.cells := by simp [State.staleOff]
@[simp] theorem State.staleClear_flashCells (s : State) (n : Nat) : (State.staleClear s n).flash.cells = s.flash.cells := by simp [State.staleClear]

/-! Cadence. -/

@[simp] theorem State.cadErr_flashCells (s : State) (i : Nat) : (State.cadErr s i).flash.cells = s.flash.cells := by simp [State.cadErr]
@[simp] theorem State.adjDone_flashCells (s : State) : (State.adjDone s).flash.cells = s.flash.cells := by simp [State.adjDone]
@[simp] theorem State.ppsInstant_flashCells (s : State) : (State.ppsInstant s).flash.cells = s.flash.cells := by simp [State.ppsInstant]
@[simp] theorem State.tclkEdge_flashCells (s : State) : (State.tclkEdge s).flash.cells = s.flash.cells := by simp [State.tclkEdge]
@[simp] theorem State.setGen_flashCells (s : State) (g : Nat) (v : Gen) : (State.setGen s g v).flash.cells = s.flash.cells := by simp [State.setGen]
@[simp] theorem State.genApply_flashCells (s : State) (g : Nat) (b : Instant) (vals : List (Nat × Word)) : (State.genApply s g b vals).flash.cells = s.flash.cells := by simp [State.genApply]
@[simp] theorem State.setMb_flashCells (s : State) (i : Nat) (v : Option Instant) : (State.setMb s i v).flash.cells = s.flash.cells := by simp [State.setMb]
@[simp] theorem State.mbTake_flashCells (s : State) (i : Nat) (x : Instant) (x0 : FireResult) : (State.mbTake s i x x0).flash.cells = s.flash.cells := by
  cases x0 with
  | posted => unfold State.mbTake; dsimp only; split <;> simp
  | late => exact State.cadErr_flashCells _ _
  | busy => exact State.cadErr_flashCells _ _
@[simp] theorem State.mbPost_flashCells (s : State) (i : Nat) (x : Instant) : (State.mbPost s i x).flash.cells = s.flash.cells := by simp [State.mbPost]
@[simp] theorem State.mbSkip_flashCells (s : State) (i : Nat) (new : Instant) : (State.mbSkip s i new).flash.cells = s.flash.cells := by unfold State.mbSkip; (repeat' split) <;> simp
@[simp] theorem State.tbStep_flashCells (s : State) (off : Int) : (State.tbStep s off).flash.cells = s.flash.cells := by simp [State.tbStep]
@[simp] theorem State.adjStep_flashCells (s : State) : (State.adjStep s).flash.cells = s.flash.cells := by simp [State.adjStep]
@[simp] theorem State.adjSlew_flashCells (s : State) : (State.adjSlew s).flash.cells = s.flash.cells := by simp [State.adjSlew]
@[simp] theorem State.adjWrite_flashCells (s : State) (v : Word) : (State.adjWrite s v).flash.cells = s.flash.cells := by simp [State.adjWrite]
theorem execAdjStep_flashCells (ag : Agent) (s : State) : ∀ q1, (execAdjStep ag s) = .next q1 → q1.flash.cells = s.flash.cells := by
  rintro q1 ⟨⟩; simp
theorem execAdjSlew_flashCells (ag : Agent) (s : State) : ∀ q1, (execAdjSlew ag s) = .next q1 → q1.flash.cells = s.flash.cells := by
  rintro q1 ⟨⟩; simp
theorem execSlewDone_flashCells (s : State) : ∀ q1, (execSlewDone s) = .next q1 → q1.flash.cells = s.flash.cells := by
  rintro q1 ⟨⟩; simp
theorem execSyncCapture_flashCells (x : Fin 3) (falling : Bool) (s : State) : ∀ q1, (execSyncCapture x falling s) = .next q1 → q1.flash.cells = s.flash.cells := by
  intro q1 h; unfold execSyncCapture at h; dsimp only at h; (repeat' split at h) <;> first | (cases h; simp) | (cases h; (repeat' split) <;> simp_all)
@[simp] theorem State.setSnap_flashCells (s : State) (off : Nat) (v : Word) : (State.setSnap s off v).flash.cells = s.flash.cells := by simp [State.setSnap]
@[simp] theorem State.captureRead_flashCells (s : State) (x : Nat) : (State.captureRead s x).2.flash.cells = s.flash.cells := by simp [State.captureRead]
theorem execCaptureRead_flashCells (ag : Agent) (x : Fin 3) (s : State) : ∀ q1, (execCaptureRead ag x s) = .next q1 → q1.flash.cells = s.flash.cells := by
  rintro q1 ⟨⟩; simp
theorem execPpsInLost_flashCells (s : State) : ∀ q1, (execPpsInLost s) = .next q1 → q1.flash.cells = s.flash.cells := by
  rintro q1 ⟨⟩; simp
theorem execPpsOutPulse_flashCells (s : State) : ∀ q1, (execPpsOutPulse s) = .next q1 → q1.flash.cells = s.flash.cells := by
  rintro q1 ⟨⟩; simp
theorem execPpsOutPulseEnd_flashCells (s : State) : ∀ q1, (execPpsOutPulseEnd s) = .next q1 → q1.flash.cells = s.flash.cells := by
  rintro q1 ⟨⟩; simp
@[simp] theorem State.wideTick_flashCells (s : State) (off : Nat) : (State.wideTick s off).flash.cells = s.flash.cells := by simp [State.wideTick]
@[simp] theorem State.snapRead_flashCells (s0 : State) (off : Nat) : (State.snapRead s0 off).2.flash.cells = s0.flash.cells := by unfold State.snapRead; (repeat' split) <;> simp
theorem execSnapshotRead_flashCells (ag : Agent) (off : Nat) (s : State) : ∀ q1, (execSnapshotRead ag off s) = .next q1 → q1.flash.cells = s.flash.cells := by
  rintro q1 ⟨⟩; simp
@[simp] theorem State.setTap_flashCells (s : State) (i : Nat) (v : Option Instant) : (State.setTap s i v).flash.cells = s.flash.cells := by simp [State.setTap]
@[simp] theorem State.tapSchedule_flashCells (s : State) (i g : Nat) (t : Instant) : (State.tapSchedule s i g t).flash.cells = s.flash.cells := by simp [State.tapSchedule]
@[simp] theorem State.fbrApply_flashCells (s : State) (n : Nat) (vals : List (Nat × Word)) : (State.fbrApply s n vals).flash.cells = s.flash.cells := by unfold State.fbrApply; dsimp only; repeat' first | (simp; done) | split
@[simp] theorem State.fbrPresent_flashCells (s t : State) (n : Nat) (vals : List (Nat × Word)) : (State.fbrPresent s t n vals).flash.cells = t.flash.cells := by unfold State.fbrPresent; dsimp only; repeat' first | (simp; done) | split
@[simp] theorem State.fbrsApply_flashCells (s : State) (vals : List (Nat × Word)) : (State.fbrsApply s vals).flash.cells = s.flash.cells := by simp [State.fbrsApply]
@[simp] theorem State.cadWrite_flashCells (s : State) (off : Nat) (v : Word) : (State.cadWrite s off v).flash.cells = s.flash.cells := by simp [State.cadWrite]

/-! FlashDie. -/

@[simp] theorem State.withFlash_flashCells (s : State) (f : FlashState) : (s.withFlash f).flash.cells = f.cells := rfl
@[simp] theorem State.halfReport_flashCells (s : State) : (State.halfReport s).flash.cells = s.flash.cells := by unfold State.halfReport; (repeat' split) <;> simp
@[simp] theorem State.ledgerLost_flashCells (s : State) : (State.ledgerLost s).flash.cells = s.flash.cells := by simp [State.ledgerLost]
@[simp] theorem State.ledgerUse_flashCells (s : State) (f : FlashState) (h blank free seq : Nat) :
    (s.ledgerUse f h blank free seq).flash.cells = f.cells := by simp [State.ledgerUse]
@[simp] theorem State.ledgerTake_flashCells (s : State) (h : Nat) : (State.ledgerTake s h).flash.cells = s.flash.cells := by rw [State.ledgerTake, State.ledgerUse_flashCells, FlashState.ledgerTable_flashCells]
@[simp] theorem State.ledgerBuild_flashCells (s : State) : (State.ledgerBuild s).flash.cells = s.flash.cells := by unfold State.ledgerBuild; (repeat' split) <;> simp

/-! Journal. -/

@[simp] theorem State.flashRefuse_flashCells (s : State) (ag : Agent) (off code : Nat) : (State.flashRefuse s ag off code).flash.cells = s.flash.cells := by simp [State.flashRefuse]
@[simp] theorem State.eraseTest_flashCells (s : State) : (State.eraseTest s).flash.cells = s.flash.cells := by simp [State.eraseTest]
@[simp] theorem State.stagingMode_flashCells (s : State) : (State.stagingMode s).flash.cells = s.flash.cells := by simp [State.stagingMode]

/-! Flash. -/

@[simp] theorem State.flashStart_flashCells (s : State) (op : FlashOp) : (State.flashStart s op).flash.cells = s.flash.cells := by simp [State.flashStart]
@[simp] theorem State.lastOp_flashCells (s : State) (op : FlashOp) (pulses : Nat) (failed : Bool) : (State.lastOp s op pulses failed).flash.cells = s.flash.cells := by simp [State.lastOp]
@[simp] theorem State.wearReport_flashCells (s : State) (op : FlashOp) (pulses : Nat) : (State.wearReport s op pulses).flash.cells = s.flash.cells := by simp [State.wearReport]
@[simp] theorem State.flashSuspend_flashCells (s : State) (eng : Bool) : (State.flashSuspend s eng).flash.cells = s.flash.cells := by simp [State.flashSuspend]
@[simp] theorem State.flashResume_flashCells (s : State) (eng : Bool) : (State.flashResume s eng).flash.cells = s.flash.cells := by simp [State.flashResume]
theorem execFlashSuspendEffect_flashCells (s : State) : ∀ q1, (execFlashSuspendEffect s) = .next q1 → q1.flash.cells = s.flash.cells := by
  intro q1 h; unfold execFlashSuspendEffect at h; dsimp only at h; (repeat' split at h) <;> first | (cases h; simp) | (cases h; (repeat' split) <;> simp_all)
@[simp] theorem State.startProgram_flashCells (s : State) (ag : Agent) (off : Nat) (line : Bool) (addr : Nat) (words : List (BitVec 64)) : (State.startProgram s ag off line addr words).flash.cells = s.flash.cells := by unfold State.startProgram; (repeat' split) <;> simp
@[simp] theorem State.startErase_flashCells (s : State) (ag : Agent) (off sec : Nat) : (State.startErase s ag off sec).flash.cells = s.flash.cells := by simp [State.startErase]
@[simp] theorem State.setSeq_flashCells (s : State) (q : FlashSeq) : (State.setSeq s q).flash.cells = s.flash.cells := by simp [State.setSeq]
@[simp] theorem State.seqErr_flashCells (s : State) (ag : Agent) (off : Nat) : (State.seqErr s ag off).flash.cells = s.flash.cells := by simp [State.seqErr]
@[simp] theorem State.unlockedCycle_flashCells (s : State) (ag : Agent) (off code : Nat) : (State.unlockedCycle s ag off code).flash.cells = s.flash.cells := by unfold State.unlockedCycle; (repeat' split) <;> simp
@[simp] theorem State.idleCycle_flashCells (s : State) (ag : Agent) (off code : Nat) : (State.idleCycle s ag off code).flash.cells = s.flash.cells := by simp [State.idleCycle]
@[simp] theorem State.dataCycle_flashCells (s : State) (ag : Agent) (off : Nat) (wide : Bool) (v : BitVec 64) (line : Bool) (addr : Nat) (words : List (BitVec 64)) (half : Option Word) : (State.dataCycle s ag off wide v line addr words half).flash.cells = s.flash.cells := by unfold State.dataCycle; (repeat' split) <;> simp
@[simp] theorem State.flashCycle_flashCells (s : State) (ag : Agent) (off : Nat) (wide : Bool) (v : BitVec 64) : (State.flashCycle s ag off wide v).flash.cells = s.flash.cells := by unfold State.flashCycle; (repeat' split) <;> simp
theorem execFlashUnlockFirst_flashCells (ag : Agent) (off : Nat) (s : State) : ∀ q1, (execFlashUnlockFirst ag off s) = .next q1 → q1.flash.cells = s.flash.cells := by
  rintro q1 ⟨⟩; simp
theorem execFlashUnlockSecond_flashCells (ag : Agent) (off : Nat) (s : State) : ∀ q1, (execFlashUnlockSecond ag off s) = .next q1 → q1.flash.cells = s.flash.cells := by
  rintro q1 ⟨⟩; simp
theorem execFlashProgramWordCmd_flashCells (ag : Agent) (off : Nat) (s : State) : ∀ q1, (execFlashProgramWordCmd ag off s) = .next q1 → q1.flash.cells = s.flash.cells := by
  rintro q1 ⟨⟩; simp
theorem execFlashProgramLineCmd_flashCells (ag : Agent) (off : Nat) (s : State) : ∀ q1, (execFlashProgramLineCmd ag off s) = .next q1 → q1.flash.cells = s.flash.cells := by
  rintro q1 ⟨⟩; simp
theorem execFlashDataCycle_flashCells (ag : Agent) (off : Nat) (wide : Bool) (v : BitVec 64) (s : State) : ∀ q1, (execFlashDataCycle ag off wide v s) = .next q1 → q1.flash.cells = s.flash.cells := by
  rintro q1 ⟨⟩; simp
theorem execFlashEraseSetup_flashCells (ag : Agent) (off : Nat) (s : State) : ∀ q1, (execFlashEraseSetup ag off s) = .next q1 → q1.flash.cells = s.flash.cells := by
  rintro q1 ⟨⟩; simp
theorem execFlashEraseConfirm_flashCells (ag : Agent) (off : Nat) (s : State) : ∀ q1, (execFlashEraseConfirm ag off s) = .next q1 → q1.flash.cells = s.flash.cells := by
  rintro q1 ⟨⟩; simp
theorem execFlashSuspendCmd_flashCells (ag : Agent) (off : Nat) (s : State) : ∀ q1, (execFlashSuspendCmd ag off s) = .next q1 → q1.flash.cells = s.flash.cells := by
  rintro q1 ⟨⟩; simp
theorem execFlashResumeCmd_flashCells (ag : Agent) (off : Nat) (s : State) : ∀ q1, (execFlashResumeCmd ag off s) = .next q1 → q1.flash.cells = s.flash.cells := by
  rintro q1 ⟨⟩; simp
theorem execFlashReadStatusCmd_flashCells (ag : Agent) (off : Nat) (s : State) : ∀ q1, (execFlashReadStatusCmd ag off s) = .next q1 → q1.flash.cells = s.flash.cells := by
  rintro q1 ⟨⟩; simp
theorem execFlashInfoEntryCmd_flashCells (ag : Agent) (off : Nat) (s : State) : ∀ q1, (execFlashInfoEntryCmd ag off s) = .next q1 → q1.flash.cells = s.flash.cells := by
  rintro q1 ⟨⟩; simp
theorem execFlashReturnToRead_flashCells (ag : Agent) (off : Nat) (s : State) : ∀ q1, (execFlashReturnToRead ag off s) = .next q1 → q1.flash.cells = s.flash.cells := by
  rintro q1 ⟨⟩; simp
@[simp] theorem State.opStage_flashCells (s : State) (op : FlashOp) (st : FlashStage) : (State.opStage s op st).flash.cells = s.flash.cells := by simp [State.opStage]
@[simp] theorem State.busyRead_flashCells (s : State) : (State.busyRead s).flash.cells = s.flash.cells := by simp [State.busyRead]
@[simp] theorem State.flashRead_flashCells (s : State) (ag : Agent) (off : Nat) : (State.flashRead s ag off).2.flash.cells = s.flash.cells := by unfold State.flashRead; dsimp only; repeat' first | (simp; done) | split
theorem execFlashHostReadBusy_flashCells (ag : Agent) (off : Nat) (s : State) : ∀ q1, (execFlashHostReadBusy ag off s) = .next q1 → q1.flash.cells = s.flash.cells := by
  intro q1 h
  have e := State.flashRead_flashCells s ag off
  unfold execFlashHostReadBusy at h
  split at h <;> (rename_i hr; rw [hr] at e; cases h; simpa using e)
theorem execFlashStalledReadDone_flashCells (ag : Agent) (off : Nat) (s : State) : ∀ q1, (execFlashStalledReadDone ag off s) = .next q1 → q1.flash.cells = s.flash.cells := by
  intro q1 h
  have e := State.flashRead_flashCells s ag off
  unfold execFlashStalledReadDone at h
  split at h <;> (rename_i hr; rw [hr] at e; cases h; simpa using e)

/-! Keys. -/

@[simp] theorem State.blow_flashCells (s : State) (fs : List FuseRef) : (State.blow s fs).flash.cells = s.flash.cells := by simp [State.blow]
@[simp] theorem State.lcRefresh_flashCells (s : State) : (State.lcRefresh s).flash.cells = s.flash.cells := by simp [State.lcRefresh]
@[simp] theorem State.lcDecode_flashCells (s : State) (agree : Bool) : (State.lcDecode s agree).flash.cells = s.flash.cells := by simp [State.lcDecode]
@[simp] theorem State.keyClear_flashCells (s : State) : (State.keyClear s).flash.cells = s.flash.cells := by simp [State.keyClear]
@[simp] theorem State.keyLoad_flashCells (s : State) : (State.keyLoad s).flash.cells = s.flash.cells := by simp [State.keyLoad]
@[simp] theorem State.zeroiseKey_flashCells (s : State) (cause : Nat) : (State.zeroiseKey s cause).flash.cells = s.flash.cells := by simp [State.zeroiseKey]
@[simp] theorem State.lcResult_flashCells (s : State) (jtag : Bool) (code : Nat) : (State.lcResult s jtag code).flash.cells = s.flash.cells := by simp [State.lcResult]
@[simp] theorem State.debugOpen_flashCells (s : State) (scope : Nat) : (State.debugOpen s scope).flash.cells = s.flash.cells := by simp [State.debugOpen]
@[simp] theorem State.debugEnd_flashCells (s : State) : (State.debugEnd s).flash.cells = s.flash.cells := by simp [State.debugEnd]

/-! Fabric. -/

@[simp] theorem State.setTileBit_flashCells (s : State) (bay l r b : Nat) (v : Bool) : (State.setTileBit s bay l r b v).flash.cells = s.flash.cells := by simp [State.setTileBit]
@[simp] theorem State.setFf_flashCells (s : State) (i : Nat) (v : Bool) : (State.setFf s i v).flash.cells = s.flash.cells := by simp [State.setFf]
@[simp] theorem State.initLoad_flashCells (s : State) (bay : Nat) : (State.initLoad s bay).flash.cells = s.flash.cells := by
  unfold State.initLoad
  dsimp only
  rw [foldl_flashCells]
  intro t l
  rw [foldl_flashCells]
  intro t r
  rw [foldl_flashCells]
  intro t c
  simp
@[simp] theorem State.tileEdge_flashCells (s t : State) (bay l r net : Nat) (rising : Bool) (w : FabricPins) : (State.tileEdge s t bay l r net rising w).flash.cells = t.flash.cells := by simp [State.tileEdge]
@[simp] theorem State.cellsEdge_flashCells (s t : State) (bay net : Nat) (rising : Bool) (w : FabricPins) : (State.cellsEdge s t bay net rising w).flash.cells = t.flash.cells := by simp [State.cellsEdge]
@[simp] theorem State.asyncBay_flashCells (s t : State) (bay : Nat) (w : FabricPins) : (s.asyncBay t bay w).flash.cells = t.flash.cells := by
  unfold State.asyncBay
  split
  · rfl
  · apply foldl_flashCells
    intro t l
    apply foldl_flashCells
    intro t r
    apply foldl_flashCells
    intro t k
    dsimp only
    split
    · apply foldl_flashCells
      intro t i
      simp
    · rfl
@[simp] theorem State.setBridge_flashCells (s : State) (i : Nat) (v : Word) : (State.setBridge s i v).flash.cells = s.flash.cells := by simp [State.setBridge]
@[simp] theorem State.groupEdge_flashCells (s t : State) (bay net dir band row g : Nat) (w : FabricPins) : (State.groupEdge s t bay net dir band row g w).flash.cells = t.flash.cells := by simp [State.groupEdge]
@[simp] theorem State.bridgesEdge_flashCells (s t : State) (bay net : Nat) (w : FabricPins) : (State.bridgesEdge s t bay net w).flash.cells = t.flash.cells := by simp [State.bridgesEdge]
@[simp] theorem State.setGate_flashCells (s : State) (bay net : Nat) (shut : Bool) : (State.setGate s bay net shut).flash.cells = s.flash.cells := by simp [State.setGate]

/-! Creels. -/

@[simp] theorem State.setCreel_flashCells (s : State) (n : Nat) (c : CreelSt) : (State.setCreel s n c).flash.cells = s.flash.cells := by simp [State.setCreel]
@[simp] theorem State.setCreelBit_flashCells (s : State) (n nm : Nat) (v : Bool) : (State.setCreelBit s n nm v).flash.cells = s.flash.cells := by simp [State.setCreelBit]
@[simp] theorem State.applyWrites_flashCells (s : State) (n : Nat) (ws : List (Nat × Bool)) : (State.applyWrites s n ws).flash.cells = s.flash.cells := by simp [State.applyWrites]
@[simp] theorem State.portsEdge_flashCells (s : State) (n : Nat) (c : CreelCfg) (fa fb : Bool) (p : CreelPins) : (State.portsEdge s n c fa fb p).flash.cells = s.flash.cells := by simp [State.portsEdge]
@[simp] theorem State.fifoEdge_flashCells (s : State) (n : Nat) (c : CreelCfg) (fw fr : Bool) (p : CreelPins) : (State.fifoEdge s n c fw fr p).flash.cells = s.flash.cells := by simp [State.fifoEdge]
@[simp] theorem State.creelEdge_flashCells (s : State) (n net : Nat) (rising : Bool) (p : CreelPins) : (State.creelEdge s n net rising p).flash.cells = s.flash.cells := by simp [State.creelEdge]
@[simp] theorem State.creelsEdge_flashCells (s : State) (bay net : Nat) (rising : Bool) (p : EdgePins) : (State.creelsEdge s bay net rising p).flash.cells = s.flash.cells := by simp [State.creelsEdge]
@[simp] theorem State.fifoReset_flashCells (s : State) (bay : Nat) (p : EdgePins) : (State.fifoReset s bay p).flash.cells = s.flash.cells := by simp [State.fifoReset]
@[simp] theorem State.creelLoad_flashCells (s : State) (bay : Nat) : (State.creelLoad s bay).flash.cells = s.flash.cells := by simp [State.creelLoad]
theorem execCreelScrubStep_flashCells (n : Fin 11520) (s : State) : ∀ q1, (execCreelScrubStep n s) = .next q1 → q1.flash.cells = s.flash.cells := by
  intro q1 h; unfold execCreelScrubStep at h; dsimp only at h; (repeat' split at h) <;> first | (cases h; simp) | (cases h; (repeat' split) <;> simp_all)
theorem execCreelScrubWriteBack_flashCells (n : Fin 11520) (s : State) : ∀ q1, (execCreelScrubWriteBack n s) = .next q1 → q1.flash.cells = s.flash.cells := by
  intro q1 h
  unfold execCreelScrubWriteBack at h
  split at h
  · cases h; rfl
  cases hs : (s.creel n.val).scrubWrite with
  | none => rw [hs] at h; cases h; rfl
  | some e =>
    rw [hs] at h
    injection h with h
    rw [← h, State.setCreel_flashCells, State.applyWrites_flashCells]

/-! Slices. -/

@[simp] theorem State.setSlice_flashCells (s : State) (n : Nat) (v : SliceSt) : (State.setSlice s n v).flash.cells = s.flash.cells := by simp [State.setSlice]
@[simp] theorem State.sliceColumnEdge_flashCells (s : State) (base net : Nat) (rising : Bool) (pins : Nat → SlicePins) : (State.sliceColumnEdge s base net rising pins).flash.cells = s.flash.cells := by simp [State.sliceColumnEdge]
@[simp] theorem State.slicesEdge_flashCells (s : State) (bay net : Nat) (rising : Bool) (p : EdgePins) : (State.slicesEdge s bay net rising p).flash.cells = s.flash.cells := by simp [State.slicesEdge]
@[simp] theorem State.sliceLoad_flashCells (s : State) (bay : Nat) : (State.sliceLoad s bay).flash.cells = s.flash.cells := by simp [State.sliceLoad]

/-! Modes. -/

@[simp] theorem State.setBoot_flashCells (s : State) (b : BootSt) : (State.setBoot s b).flash.cells = s.flash.cells := by simp [State.setBoot]
@[simp] theorem State.enterMode_flashCells (s : State) (m : Nat) : (State.enterMode s m).flash.cells = s.flash.cells := by simp [State.enterMode]
@[simp] theorem State.setRail_flashCells (s : State) (r : Nat) (on : Bool) : (State.setRail s r on).flash.cells = s.flash.cells := by simp [State.setRail]
@[simp] theorem State.setRails_flashCells (s : State) (rs : List Nat) (on : Bool) : (State.setRails s rs on).flash.cells = s.flash.cells := by simp [State.setRails]
@[simp] theorem State.setLevels_flashCells (s : State) (a b : Nat) : (State.setLevels s a b).flash.cells = s.flash.cells := by simp [State.setLevels]
@[simp] theorem State.driveDone_flashCells (s : State) (low : Bool) : (State.driveDone s low).flash.cells = s.flash.cells := by simp [State.driveDone]
@[simp] theorem State.fabricZero_flashCells (s : State) : (State.fabricZero s).flash.cells = s.flash.cells := by simp [State.fabricZero]
@[simp] theorem State.holdDevice_flashCells (s : State) : (State.holdDevice s).flash.cells = s.flash.cells := by simp [State.holdDevice]
@[simp] theorem State.clearShadows_flashCells (s : State) : (State.clearShadows s).flash.cells = s.flash.cells := by simp [State.clearShadows]
@[simp] theorem State.clearConfig_flashCells (s : State) : (State.clearConfig s).flash.cells = s.flash.cells := by simp [State.clearConfig]
@[simp] theorem State.clearGroups_flashCells (s : State) : (State.clearGroups s).flash.cells = s.flash.cells := by simp [State.clearGroups]
@[simp] theorem State.stageRefresh_flashCells (s : State) : (State.stageRefresh s).flash.cells = s.flash.cells := by simp [State.stageRefresh]
@[simp] theorem State.busDrop_flashCells (s : State) (c : Nat) : (State.busDrop s c).flash.cells = s.flash.cells := by simp [State.busDrop]
@[simp] theorem State.coreReset_flashCells (s : State) (c : Nat) : (State.coreReset s c).flash.cells = s.flash.cells := by simp [State.coreReset]
@[simp] theorem State.clusterHold_flashCells (s : State) : (State.clusterHold s).flash.cells = s.flash.cells := by simp [State.clusterHold]
@[simp] theorem State.feed_flashCells (s : State) (at_ words : Nat) : (State.feed s at_ words).flash.cells = s.flash.cells := by simp [State.feed]
@[simp] theorem State.xspiStart_flashCells (s : State) (e : BootImage) : (State.xspiStart s e).flash.cells = s.flash.cells := by simp [State.xspiStart]
@[simp] theorem State.attemptReads_flashCells (s : State) (image : Nat) (prio : Bool) : (State.attemptReads s image prio).flash.cells = s.flash.cells := by unfold State.attemptReads; dsimp only; repeat' first | (simp; done) | split

/-! Hamper. -/

@[simp] theorem State.setHamp_flashCells (s : State) (h : HampSt) : (State.setHamp s h).flash.cells = s.flash.cells := by simp [State.setHamp]
@[simp] theorem State.hampScramble_flashCells (s : State) : (State.hampScramble s).flash.cells = s.flash.cells := by simp [State.hampScramble]
@[simp] theorem State.hampStore_flashCells (s : State) (a : Nat) (x0 : List Byte) : (State.hampStore s a x0).flash.cells = s.flash.cells := by
  induction x0 generalizing s a with
  | nil => simp [State.hampStore]
  | cons a l ih => simp [State.hampStore, ih]
@[simp] theorem State.hampReport_flashCells (s : State) (agent a : Nat) (write : Bool) (sev : Nat) : (State.hampReport s agent a write sev).2.flash.cells = s.flash.cells := by unfold State.hampReport; (repeat' split) <;> simp
@[simp] theorem State.setHampPort_flashCells (s : State) (n : Nat) (p : HampPortSt) : (State.setHampPort s n p).flash.cells = s.flash.cells := by simp [State.setHampPort]
@[simp] theorem State.hampEdge_flashCells (s : State) (n : Nat) (pins : HampPins) : (State.hampEdge s n pins).flash.cells = s.flash.cells := by unfold State.hampEdge; dsimp only; repeat' first | (simp; done) | split
@[simp] theorem State.hampBayEdge_flashCells (s : State) (bay net : Nat) (pins : HampPins) : (State.hampBayEdge s bay net pins).flash.cells = s.flash.cells := by unfold State.hampBayEdge; (repeat' split) <;> simp
@[simp] theorem State.hampPutBeats_flashCells (s : State) (a : Nat) (x0 : Nat) (x1 : List HampBeat) : (State.hampPutBeats s a x0 x1).flash.cells = s.flash.cells := by
  induction x1 generalizing s a x0 with
  | nil => cases x0 <;> rfl
  | cons b bs ih =>
    cases x0 with
    | zero => rfl
    | succ n =>
      rw [State.hampPutBeats, ih, foldl_flashCells]
      intro t i
      split <;> rfl
@[simp] theorem State.hampWriteDone_flashCells (s : State) (n sev : Nat) : (State.hampWriteDone s n sev).flash.cells = s.flash.cells := by unfold State.hampWriteDone; dsimp only; repeat' first | (simp; done) | split
@[simp] theorem State.hampReadDone_flashCells (s : State) (n sev : Nat) : (State.hampReadDone s n sev).flash.cells = s.flash.cells := by unfold State.hampReadDone; dsimp only; repeat' first | (simp; done) | split
@[simp] theorem State.hampFlush_flashCells (s : State) (bay : Nat) : (State.hampFlush s bay).flash.cells = s.flash.cells := by unfold State.hampFlush; (repeat' split) <;> simp
theorem execHamperPortRequest_flashCells (n : Fin 32) (rq : HampRq) (s : State) : ∀ q1, (execHamperPortRequest n rq s) = .next q1 → q1.flash.cells = s.flash.cells := by
  rintro q1 ⟨⟩; simp
theorem execHamperAccessDone_flashCells (src : HampSrc) (sev : Fin 4) (s : State) : ∀ q1, (execHamperAccessDone src sev s) = .next q1 → q1.flash.cells = s.flash.cells := by
  rintro q1 ⟨⟩; (repeat' split) <;> simp
@[simp] theorem State.hampTrainWrite_flashCells (s : State) : (State.hampTrainWrite s).flash.cells = s.flash.cells := by simp [State.hampTrainWrite]
theorem execHamperRetrain_flashCells (ag : Agent) (s : State) : ∀ q1, (execHamperRetrain ag s) = .next q1 → q1.flash.cells = s.flash.cells := by
  rintro q1 ⟨⟩; simp
theorem execHamperRetrainDrained_flashCells (s : State) : ∀ q1, (execHamperRetrainDrained s) = .next q1 → q1.flash.cells = s.flash.cells := by
  rintro q1 ⟨⟩; simp
theorem execHamperDrainTimeout_flashCells (s : State) : ∀ q1, (execHamperDrainTimeout s) = .next q1 → q1.flash.cells = s.flash.cells := by
  rintro q1 ⟨⟩; simp
theorem execHamperRetrainDone_flashCells (s : State) : ∀ q1, (execHamperRetrainDone s) = .next q1 → q1.flash.cells = s.flash.cells := by
  rintro q1 ⟨⟩; simp
theorem execHamperTempRead_flashCells (temp : BitVec 8) (s : State) : ∀ q1, (execHamperTempRead temp s) = .next q1 → q1.flash.cells = s.flash.cells := by
  rintro q1 ⟨⟩; simp
theorem execHamperRefresh_flashCells (s : State) : ∀ q1, (execHamperRefresh s) = .next q1 → q1.flash.cells = s.flash.cells := by
  rintro q1 ⟨⟩; simp
@[simp] theorem State.hampSleep_flashCells (s : State) : (State.hampSleep s).flash.cells = s.flash.cells := by simp [State.hampSleep]
@[simp] theorem State.hampWake_flashCells (s : State) : (State.hampWake s).flash.cells = s.flash.cells := by simp [State.hampWake]
theorem execHamperSelfRefreshExit_flashCells (s : State) : ∀ q1, (execHamperSelfRefreshExit s) = .next q1 → q1.flash.cells = s.flash.cells := by
  rintro q1 ⟨⟩; simp
@[simp] theorem State.hampTrainStart_flashCells (s : State) (cons : Bool) : (State.hampTrainStart s cons).flash.cells = s.flash.cells := by simp [State.hampTrainStart]

/-! Stream. -/

@[simp] theorem State.setSt_flashCells (s : State) (st : StreamSt) : (State.setSt s st).flash.cells = s.flash.cells := by simp [State.setSt]
@[simp] theorem fine_flashCells (s : State) : (fine s).1.flash.cells = s.flash.cells := by simp [fine]
@[simp] theorem stop_flashCells (s : State) (code : Nat) : (stop s code).1.flash.cells = s.flash.cells := by simp [stop]
@[simp] theorem State.recordErr_flashCells (s : State) (src : Nat) (h : Word) (pos : Nat) (e : StreamErr) : (State.recordErr s src h pos e).flash.cells = s.flash.cells := by simp [State.recordErr]
@[simp] theorem State.leaveGroup_flashCells (s : State) (g bays edge : Nat) : (State.leaveGroup s g bays edge).flash.cells = s.flash.cells := by simp [State.leaveGroup]
@[simp] theorem State.joinGroup_flashCells (s : State) (g bays edge : Nat) : (State.joinGroup s g bays edge).flash.cells = s.flash.cells := by simp [State.joinGroup]
@[simp] theorem State.setUnits_flashCells (s : State) (us : List Nat) (v : Nat) : (State.setUnits s us v).flash.cells = s.flash.cells := by simp [State.setUnits]
@[simp] theorem State.dropStaging_flashCells (s : State) (g bays edge code : Nat) : (State.dropStaging s g bays edge code).flash.cells = s.flash.cells := by simp [State.dropStaging]
@[simp] theorem State.logShow_flashCells (s : State) : (State.logShow s).flash.cells = s.flash.cells := by unfold State.logShow; (repeat' split) <;> simp
@[simp] theorem State.pntLog_flashCells (s : State) (e : LogEntry) : (State.pntLog s e).flash.cells = s.flash.cells := by simp [State.pntLog]
@[simp] theorem State.reloadStart_flashCells (s : State) (bay : Nat) : (State.reloadStart s bay).flash.cells = s.flash.cells := by simp [State.reloadStart]
@[simp] theorem State.reloadNext_flashCells (s : State) : (State.reloadNext s).flash.cells = s.flash.cells := by unfold State.reloadNext; (repeat' split) <;> simp
@[simp] theorem State.reloadFail_flashCells (s : State) (code : Nat) : (State.reloadFail s code).flash.cells = s.flash.cells := by unfold State.reloadFail; (repeat' split) <;> simp
@[simp] theorem State.streamError_flashCells (s : State) (src : Nat) (h : Word) (pos : Nat) (e : StreamErr) : (State.streamError s src h pos e).flash.cells = s.flash.cells := by simp [State.streamError]
@[simp] theorem State.writeIdcode_flashCells (s : State) (v : Word) : (State.writeIdcode s v).1.flash.cells = s.flash.cells := by simp [State.writeIdcode]
@[simp] theorem State.writeForm_flashCells (s : State) (v : Word) : (State.writeForm s v).1.flash.cells = s.flash.cells := by simp [State.writeForm]
@[simp] theorem State.writeKeysel_flashCells (s : State) (v : Word) : (State.writeKeysel s v).1.flash.cells = s.flash.cells := by simp [State.writeKeysel]
@[simp] theorem State.writeSid_flashCells (s : State) (v : Word) : (State.writeSid s v).1.flash.cells = s.flash.cells := by simp [State.writeSid]
@[simp] theorem State.writeIv_flashCells (s : State) (ws : List Word) : (State.writeIv s ws).1.flash.cells = s.flash.cells := by simp [State.writeIv]
@[simp] theorem State.writeBodylen_flashCells (s : State) (v : Word) : (State.writeBodylen s v).1.flash.cells = s.flash.cells := by simp [State.writeBodylen]
@[simp] theorem State.writeBound_flashCells (s : State) (ws : List Word) : (State.writeBound s ws).1.flash.cells = s.flash.cells := by simp [State.writeBound]
@[simp] theorem State.writeGroup_flashCells (s : State) (v : Word) : (State.writeGroup s v).1.flash.cells = s.flash.cells := by simp [State.writeGroup]
@[simp] theorem State.writePlfloor_flashCells (s : State) (v : Word) : (State.writePlfloor s v).1.flash.cells = s.flash.cells := by simp [State.writePlfloor]
@[simp] theorem State.writeClkset_flashCells (s : State) (ws : List Word) : (State.writeClkset s ws).1.flash.cells = s.flash.cells := by unfold State.writeClkset; dsimp only; repeat' first | (simp; done) | split
@[simp] theorem State.dropWriteBack_flashCells (s : State) (hit : Nat → Bool) : (State.dropWriteBack s hit).flash.cells = s.flash.cells := by simp [State.dropWriteBack]
@[simp] theorem State.stageAccept_flashCells (s : State) (src : Nat) : (State.stageAccept s src).flash.cells = s.flash.cells := by simp [State.stageAccept]
@[simp] theorem State.doStage_flashCells (s : State) (src : Nat) : (State.doStage s src).1.flash.cells = s.flash.cells := by unfold State.doStage; (repeat' split) <;> simp
@[simp] theorem State.doFinish_flashCells (s : State) : (State.doFinish s).1.flash.cells = s.flash.cells := by simp [State.doFinish]
@[simp] theorem State.writeStep_flashCells (s : State) (src : Nat) (v : Word) : (State.writeStep s src v).1.flash.cells = s.flash.cells := by unfold State.writeStep; (repeat' split) <;> simp
@[simp] theorem State.writePlace_flashCells (s : State) (v : Word) : (State.writePlace s v).1.flash.cells = s.flash.cells := by simp [State.writePlace]
@[simp] theorem State.contentStep_flashCells (s : State) (dyn : Bool) (f : BitVec 10240) : (State.contentStep s dyn f).1.flash.cells = s.flash.cells := by simp [State.contentStep]
@[simp] theorem State.structStep_flashCells (s : State) (dyn : Bool) (f : BitVec 10240) : (State.structStep s dyn f).1.flash.cells = s.flash.cells := by unfold State.structStep; dsimp only; repeat' first | (simp; done) | split
@[simp] theorem State.writeFrames_flashCells (s : State) (h : Word) (pos : Nat) (x0 : List (BitVec 10240)) : (State.writeFrames s h pos x0).1.flash.cells = s.flash.cells := by
  induction x0 generalizing s with
  | nil => rfl
  | cons f fs ih =>
    unfold State.writeFrames
    dsimp only
    split
    · rfl
    split
    · rfl
    split
    · rfl
    by_cases hk : plKind s.st.place = 1 <;> simp only [hk, if_true, if_false] <;> split <;> simp [ih]
@[simp] theorem State.doFrames_flashCells (s : State) (h : Word) (d : List Word) : (State.doFrames s h d).1.flash.cells = s.flash.cells := by unfold State.doFrames; (repeat' split) <;> simp
@[simp] theorem State.doBody_flashCells (s : State) : (State.doBody s).1.flash.cells = s.flash.cells := by simp [State.doBody]
@[simp] theorem State.clksetApply_flashCells (s : State) : (State.clksetApply s).flash.cells = s.flash.cells := by simp [State.clksetApply]
@[simp] theorem State.readFrames_flashCells (s : State) (acc : List Word) (x0 : Nat) : (State.readFrames s acc x0).1.flash.cells = s.flash.cells := by
  induction x0 generalizing s acc with
  | zero => simp [State.readFrames]
  | succ n ih => simp [State.readFrames, ih]
@[simp] theorem State.refillReturn_flashCells (s : State) (p : Fin 2) : (State.refillReturn s p).flash.cells = s.flash.cells := by simp [State.refillReturn]
@[simp] theorem State.returnWords_flashCells (s : State) (src : Nat) (ws : List Word) : (State.returnWords s src ws).flash.cells = s.flash.cells := by unfold State.returnWords; (repeat' split) <;> simp
@[simp] theorem State.doRead_flashCells (s : State) (src reg n : Nat) : (State.doRead s src reg n).1.flash.cells = s.flash.cells := by unfold State.doRead; (repeat' split) <;> simp
@[simp] theorem State.doSection_flashCells (s : State) (d : List Word) : (State.doSection s d).1.flash.cells = s.flash.cells := by simp [State.doSection]
@[simp] theorem State.doEnd_flashCells (s : State) : (State.doEnd s).1.flash.cells = s.flash.cells := by unfold State.doEnd; (repeat' split) <;> simp
@[simp] theorem State.sectionTake_flashCells (s : State) (n : Nat) : (State.sectionTake s n).flash.cells = s.flash.cells := by simp [State.sectionTake]
@[simp] theorem State.sectionShort_flashCells (s : State) (src : Nat) (h : Word) (pos : Nat) : (State.sectionShort s src h pos).flash.cells = s.flash.cells := by simp [State.sectionShort]
@[simp] theorem State.passOver_flashCells (s : State) (n : Nat) : (State.passOver s n).flash.cells = s.flash.cells := by simp [State.passOver]
@[simp] theorem State.restPacket_flashCells (s : State) (h : Word) (d : List Word) : (State.restPacket s h d).flash.cells = s.flash.cells := by simp [State.restPacket]
@[simp] theorem State.sectionStep_flashCells (s : State) (src n : Nat) : (State.sectionStep s src n).flash.cells = s.flash.cells := by simp [State.sectionStep]
@[simp] theorem State.engineIdle_flashCells (s : State) : (State.engineIdle s).flash.cells = s.flash.cells := by simp [State.engineIdle]
@[simp] theorem State.sourceReset_flashCells (s : State) (src : Nat) : (State.sourceReset s src).flash.cells = s.flash.cells := by unfold State.sourceReset; (repeat' split) <;> simp
@[simp] theorem State.windowTake_flashCells (s : State) (src n : Nat) : (State.windowTake s src n).flash.cells = s.flash.cells := by unfold State.windowTake; (repeat' split) <;> simp
@[simp] theorem State.sourceDrain_flashCells (s : State) (src : Nat) : (State.sourceDrain s src).flash.cells = s.flash.cells := by simp [State.sourceDrain]
@[simp] theorem State.sourceEnded_flashCells (s : State) (src : Nat) : (State.sourceEnded s src).flash.cells = s.flash.cells := by unfold State.sourceEnded; (repeat' split) <;> simp
@[simp] theorem State.unopened_flashCells (s : State) : (State.unopened s).flash.cells = s.flash.cells := by simp [State.unopened]
@[simp] theorem State.keyLost_flashCells (s : State) : (State.keyLost s).flash.cells = s.flash.cells := by unfold State.keyLost; (repeat' split) <;> simp
theorem execUnopenedSourceWords_flashCells (s : State) : ∀ q1, (execUnopenedSourceWords s) = .next q1 → q1.flash.cells = s.flash.cells := by
  rintro q1 ⟨⟩; simp

/-! Staged. -/

@[simp] theorem State.logFrame_flashCells (s : State) (latch key bit kind action : Nat) (time : Word) : (State.logFrame s latch key bit kind action time).flash.cells = s.flash.cells := by simp [State.logFrame]
@[simp] theorem State.entryRead_flashCells (s : State) (latch key : Nat) (entry : Fin 4) : (State.entryRead s latch key entry).flash.cells = s.flash.cells := by unfold State.entryRead; (repeat' split) <;> simp
@[simp] theorem State.entriesRead_flashCells (s : State) (bays edge : Nat) (es : EntryErrs) : (State.entriesRead s bays edge es).flash.cells = s.flash.cells := by simp [State.entriesRead]
@[simp] theorem State.upsetShadow_flashCells (s : State) (bays edge : Nat) (us : Upsets) : (State.upsetShadow s bays edge us).flash.cells = s.flash.cells := by simp [State.upsetShadow]
@[simp] theorem State.cgResult_flashCells (s : State) (g code : Nat) : (State.cgResult s g code).flash.cells = s.flash.cells := by simp [State.cgResult]
@[simp] theorem State.cgDisarm_flashCells (s : State) (g : Nat) : (State.cgDisarm s g).flash.cells = s.flash.cells := by simp [State.cgDisarm]
@[simp] theorem State.cgArm_flashCells (s : State) (g : Nat) (revert : Bool) : (State.cgArm s g revert).flash.cells = s.flash.cells := by unfold State.cgArm; (repeat' split) <;> simp
@[simp] theorem State.leaveLast_flashCells (s : State) (keep bays edge : Nat) : (State.leaveLast s keep bays edge).flash.cells = s.flash.cells := by simp [State.leaveLast]
@[simp] theorem State.cgCancel_flashCells (s : State) (g : Nat) : (State.cgCancel s g).flash.cells = s.flash.cells := by simp [State.cgCancel]
@[simp] theorem State.abortInto_flashCells (s : State) (g : Nat) : (State.abortInto s g).flash.cells = s.flash.cells := by unfold State.abortInto; (repeat' split) <;> simp
@[simp] theorem State.cgDiscard_flashCells (s : State) (g : Nat) : (State.cgDiscard s g).flash.cells = s.flash.cells := by simp [State.cgDiscard]
@[simp] theorem State.cgCtlWrite_flashCells (s : State) (g : Nat) (v : Word) : (State.cgCtlWrite s g v).flash.cells = s.flash.cells := by simp [State.cgCtlWrite]
theorem execCgArmCommit_flashCells (ag : Agent) (g : Fin 8) (s : State) : ∀ q1, (execCgArmCommit ag g s) = .next q1 → q1.flash.cells = s.flash.cells := by
  rintro q1 ⟨⟩; simp
theorem execCgArmRevert_flashCells (ag : Agent) (g : Fin 8) (s : State) : ∀ q1, (execCgArmRevert ag g s) = .next q1 → q1.flash.cells = s.flash.cells := by
  rintro q1 ⟨⟩; simp
theorem execCgDisarm_flashCells (ag : Agent) (g : Fin 8) (mode : Bool) (s : State) : ∀ q1, (execCgDisarm ag g mode s) = .next q1 → q1.flash.cells = s.flash.cells := by
  rintro q1 ⟨⟩; simp
theorem execCgDiscard_flashCells (ag : Agent) (g : Fin 8) (mode : Bool) (s : State) : ∀ q1, (execCgDiscard ag g mode s) = .next q1 → q1.flash.cells = s.flash.cells := by
  rintro q1 ⟨⟩; simp
theorem execCgDeadlineExpiry_flashCells (g : Fin 8) (s : State) : ∀ q1, (execCgDeadlineExpiry g s) = .next q1 → q1.flash.cells = s.flash.cells := by
  rintro q1 ⟨⟩; simp
@[simp] theorem State.shadowLost_flashCells (s : State) (u : Nat) : (State.shadowLost s u).flash.cells = s.flash.cells := by simp [State.shadowLost]
@[simp] theorem State.setDw_flashCells (s : State) (d : DwSt) : (State.setDw s d).flash.cells = s.flash.cells := by simp [State.setDw]
@[simp] theorem State.dwLose_flashCells (s : State) (us : List Nat) : (State.dwLose s us).flash.cells = s.flash.cells := by simp [State.dwLose]
@[simp] theorem State.dwRefuse_flashCells (s : State) (c : Nat) : (State.dwRefuse s c).flash.cells = s.flash.cells := by simp [State.dwRefuse]
@[simp] theorem State.dwPlace_flashCells (s : State) (p : Word) : (State.dwPlace s p).flash.cells = s.flash.cells := by simp [State.dwPlace]
@[simp] theorem State.dwData_flashCells (s : State) (w : Word) : (State.dwData s w).flash.cells = s.flash.cells := by unfold State.dwData; dsimp only; repeat' first | (simp; done) | split
@[simp] theorem State.dwCtl_flashCells (s : State) (v : Word) : (State.dwCtl s v).flash.cells = s.flash.cells := by simp [State.dwCtl]
theorem execDwPlaceWrite_flashCells (ag : Agent) (p : Word) (s : State) : ∀ q1, (execDwPlaceWrite ag p s) = .next q1 → q1.flash.cells = s.flash.cells := by
  rintro q1 ⟨⟩; simp
theorem execDwDataWrite_flashCells (ag : Agent) (w : Word) (s : State) : ∀ q1, (execDwDataWrite ag w s) = .next q1 → q1.flash.cells = s.flash.cells := by
  rintro q1 ⟨⟩; simp
theorem execDwApply_flashCells (ag : Agent) (bsel : Fin 64) (s : State) : ∀ q1, (execDwApply ag bsel s) = .next q1 → q1.flash.cells = s.flash.cells := by
  rintro q1 ⟨⟩; simp
theorem execDwClearBuffer_flashCells (ag : Agent) (bsel : Fin 64) (s : State) : ∀ q1, (execDwClearBuffer ag bsel s) = .next q1 → q1.flash.cells = s.flash.cells := by
  rintro q1 ⟨⟩; simp
@[simp] theorem State.dwLatch_flashCells (s : State) (src : Nat) : (State.dwLatch s src).flash.cells = s.flash.cells := by simp [State.dwLatch]
@[simp] theorem State.dwDeliver_flashCells (s : State) (src : Nat) : (State.dwDeliver s src).flash.cells = s.flash.cells := by simp [State.dwDeliver]
theorem execDwApplyEnd_flashCells (s : State) : ∀ q1, (execDwApplyEnd s) = .next q1 → q1.flash.cells = s.flash.cells := by
  rintro q1 ⟨⟩; simp
@[simp] theorem State.beginCommit_flashCells (s : State) (c : Commit) : (State.beginCommit s c).flash.cells = s.flash.cells := by simp [State.beginCommit]
@[simp] theorem State.holdPorts_flashCells (s : State) (bay : Nat) : (State.holdPorts s bay).flash.cells = s.flash.cells := by simp [State.holdPorts]
@[simp] theorem State.gwFlush_flashCells (s : State) (bay : Nat) : (State.gwFlush s bay).flash.cells = s.flash.cells := by unfold State.gwFlush; (repeat' split) <;> simp
@[simp] theorem State.gwSems_flashCells (s : State) : (State.gwSems s).flash.cells = s.flash.cells := by simp [State.gwSems]
@[simp] theorem State.bondStart_flashCells (s : State) (us : List Nat) : (State.bondStart s us).flash.cells = s.flash.cells := by simp [State.bondStart]
@[simp] theorem State.stakeSwitch_flashCells (s : State) (bay : Nat) : (State.stakeSwitch s bay).flash.cells = s.flash.cells := by simp [State.stakeSwitch]
@[simp] theorem State.bayInit_flashCells (s : State) (bay : Nat) : (State.bayInit s bay).flash.cells = s.flash.cells := by simp [State.bayInit]
@[simp] theorem State.commitUnit_flashCells (s : State) (u : Nat) : (State.commitUnit s u).flash.cells = s.flash.cells := by simp [State.commitUnit]
@[simp] theorem State.commitEdge_flashCells (s : State) (us : List Nat) : (State.commitEdge s us).flash.cells = s.flash.cells := by simp [State.commitEdge]
@[simp] theorem State.lanesCentre_flashCells (s : State) (k : Nat) : (State.lanesCentre s k).flash.cells = s.flash.cells := by simp [State.lanesCentre]
@[simp] theorem State.releaseUnits_flashCells (s : State) (us : List Nat) : (State.releaseUnits s us).flash.cells = s.flash.cells := by simp [State.releaseUnits]
@[simp] theorem State.setLast_flashCells (s : State) (g bays edge : Nat) : (State.setLast s g bays edge).flash.cells = s.flash.cells := by simp [State.setLast]
@[simp] theorem State.dropCommit_flashCells (s : State) (c : Commit) : (State.dropCommit s c).flash.cells = s.flash.cells := by simp [State.dropCommit]
@[simp] theorem State.becomePrevious_flashCells (s : State) (us : List Nat) : (State.becomePrevious s us).flash.cells = s.flash.cells := by simp [State.becomePrevious]
@[simp] theorem State.reloadUnheld_flashCells (s : State) (us : List Nat) : (State.reloadUnheld s us).flash.cells = s.flash.cells := by unfold State.reloadUnheld; (repeat' split) <;> simp
@[simp] theorem State.groupRelease_flashCells (s : State) (c : Commit) : (State.groupRelease s c).flash.cells = s.flash.cells := by simp [State.groupRelease]
@[simp] theorem State.reloadRelease_flashCells (s : State) (c : Commit) : (State.reloadRelease s c).flash.cells = s.flash.cells := by unfold State.reloadRelease; dsimp only; repeat' first | (simp; done) | split
theorem execCommitRelease_flashCells (g : Fin 9) (s : State) : ∀ q1, (execCommitRelease g s) = .next q1 → q1.flash.cells = s.flash.cells := by
  rintro q1 ⟨⟩; (repeat' split) <;> simp
@[simp] theorem State.groupLatch_flashCells (s : State) (src g : Nat) (wale : Bool) : (State.groupLatch s src g wale).flash.cells = s.flash.cells := by simp [State.groupLatch]
@[simp] theorem State.deliverCommits_flashCells (s : State) (src : Nat) : (State.deliverCommits s src).flash.cells = s.flash.cells := by simp [State.deliverCommits]
@[simp] theorem State.setFloors_flashCells (s : State) (bays : Nat) (v : Word) : (State.setFloors s bays v).flash.cells = s.flash.cells := by simp [State.setFloors]
@[simp] theorem State.panelFire_flashCells (s : State) (g : Nat) : (State.panelFire s g).flash.cells = s.flash.cells := by simp [State.panelFire]
@[simp] theorem State.verifyPass_flashCells (s : State) (j : VerifyJob) : (State.verifyPass s j).flash.cells = s.flash.cells := by simp [State.verifyPass]
@[simp] theorem State.verifyFail_flashCells (s : State) (j : VerifyJob) (key : Nat) : (State.verifyFail s j key).flash.cells = s.flash.cells := by simp [State.verifyFail]
@[simp] theorem State.passRead_flashCells (s : State) (bays edge : Nat) (us : Upsets) (es : EntryErrs) : (State.passRead s bays edge us es).flash.cells = s.flash.cells := by simp [State.passRead]
@[simp] theorem State.revertVerifyEnd_flashCells (s : State) (g : Nat) (us : Upsets) (es : EntryErrs) : (State.revertVerifyEnd s g us es).flash.cells = s.flash.cells := by simp [State.revertVerifyEnd]
theorem execRevertVerifyEnd_flashCells (g : Fin 8) (us : PassErrs) (s : State) : ∀ q1, (execRevertVerifyEnd g us s) = .next q1 → q1.flash.cells = s.flash.cells := by
  rintro q1 ⟨⟩; simp
@[simp] theorem State.isoRefresh_flashCells (s : State) (g : Nat) : (State.isoRefresh s g).flash.cells = s.flash.cells := by simp [State.isoRefresh]
@[simp] theorem State.pctlWrite_flashCells (s : State) (g : Nat) (v : Word) : (State.pctlWrite s g v).flash.cells = s.flash.cells := by simp [State.pctlWrite]
theorem execPanelIsoWrite_flashCells (ag : Agent) (g : Fin 8) (v : Word) (s : State) : ∀ q1, (execPanelIsoWrite ag g v s) = .next q1 → q1.flash.cells = s.flash.cells := by
  rintro q1 ⟨⟩; simp
theorem execPisoChange_flashCells (g : Fin 8) (level : Bool) (s : State) : ∀ q1, (execPisoChange g level s) = .next q1 → q1.flash.cells = s.flash.cells := by
  rintro q1 ⟨⟩; simp
@[simp] theorem State.groupWrite_flashCells (s : State) (off : Nat) (v : Word) (g k : Nat) : (State.groupWrite s off v g k).flash.cells = s.flash.cells := by unfold State.groupWrite; (repeat' split) <;> simp

/-! Pointing. -/

@[simp] theorem State.setShadowPos_flashCells (s : State) (w n : Nat) : (State.setShadowPos s w n).flash.cells = s.flash.cells := by simp [State.setShadowPos]
@[simp] theorem State.passEnd_flashCells (s : State) (w : Nat) : (State.passEnd s w).flash.cells = s.flash.cells := by simp [State.passEnd]
@[simp] theorem State.passShadow_flashCells (s : State) (w n : Nat) : (State.passShadow s w n).flash.cells = s.flash.cells := by unfold State.passShadow; (repeat' split) <;> simp
@[simp] theorem State.passNext_flashCells (s : State) (w : Nat) : (State.passNext s w).flash.cells = s.flash.cells := by unfold State.passNext; (repeat' split) <;> simp
@[simp] theorem State.holdBay_flashCells (s : State) (bay : Nat) : (State.holdBay s bay).flash.cells = s.flash.cells := by simp [State.holdBay]
@[simp] theorem State.wantReload_flashCells (s : State) (bay : Nat) : (State.wantReload s bay).flash.cells = s.flash.cells := by simp [State.wantReload]
@[simp] theorem State.holdClear_flashCells (s : State) (bay : Nat) : (State.holdClear s bay).flash.cells = s.flash.cells := by unfold State.holdClear; dsimp only; repeat' first | (simp; done) | split
theorem execPntHoldClear_flashCells (ag : Agent) (v : Word) (s : State) : ∀ q1, (execPntHoldClear ag v s) = .next q1 → q1.flash.cells = s.flash.cells := by
  rintro q1 ⟨⟩; simp
@[simp] theorem State.multiBit_flashCells (s : State) (latch key : Nat) : (State.multiBit s latch key).flash.cells = s.flash.cells := by unfold State.multiBit; dsimp only; repeat' first | (simp; done) | split
@[simp] theorem State.upsetFrame_flashCells (s : State) (latch key : Nat) (bits : List (Fin 10240)) : (State.upsetFrame s latch key bits).flash.cells = s.flash.cells := by simp [State.upsetFrame]
@[simp] theorem State.frameAct_flashCells (t : State) (w latch key : Nat) (x0 : FrameClass) : (State.frameAct t w latch key x0).flash.cells = t.flash.cells := by
  unfold State.frameAct; (repeat' split) <;> simp
@[simp] theorem State.frameRead_flashCells (s : State) (w latch key : Nat) (entry : Fin 4) : (State.frameRead s w latch key entry).flash.cells = s.flash.cells := by simp [State.frameRead]
theorem execPntFrameRead_flashCells (w : Fin 2) (upset : List (Fin 10240)) (entry : Fin 4) (s : State) : ∀ q1, (execPntFrameRead w upset entry s) = .next q1 → q1.flash.cells = s.flash.cells := by
  rintro q1 ⟨⟩; (repeat' split) <;> simp
theorem execPntSbeWriteBackDone_flashCells (w : Fin 2) (upset : FrameErrs) (s : State) : ∀ q1, (execPntSbeWriteBackDone w upset s) = .next q1 → q1.flash.cells = s.flash.cells := by
  intro q1 h; unfold execPntSbeWriteBackDone at h; dsimp only at h; (repeat' split at h) <;> first | (cases h; simp) | (cases h; (repeat' split) <;> simp_all)
@[simp] theorem State.pntCtlWrite_flashCells (s : State) (v : Word) : (State.pntCtlWrite s v).flash.cells = s.flash.cells := by simp [State.pntCtlWrite]
theorem execPntRestart_flashCells (ag : Agent) (en shadow : Bool) (s : State) : ∀ q1, (execPntRestart ag en shadow s) = .next q1 → q1.flash.cells = s.flash.cells := by
  rintro q1 ⟨⟩; simp
@[simp] theorem State.logPop_flashCells (s : State) : (State.logPop s).flash.cells = s.flash.cells := by simp [State.logPop]
theorem execPntLogPop_flashCells (ag : Agent) (s : State) : ∀ q1, (execPntLogPop ag s) = .next q1 → q1.flash.cells = s.flash.cells := by
  rintro q1 ⟨⟩; simp
theorem execPntReloadOpen_flashCells (s : State) : ∀ q1, (execPntReloadOpen s) = .next q1 → q1.flash.cells = s.flash.cells := by
  intro q1 h; unfold execPntReloadOpen at h; dsimp only at h; (repeat' split at h) <;> first | (cases h; simp) | (cases h; (repeat' split) <;> simp_all)
theorem execPntReloadFire_flashCells (s : State) : ∀ q1, (execPntReloadFire s) = .next q1 → q1.flash.cells = s.flash.cells := by
  rintro q1 ⟨⟩; simp
theorem execPntReloadWaitExpiry_flashCells (s : State) : ∀ q1, (execPntReloadWaitExpiry s) = .next q1 → q1.flash.cells = s.flash.cells := by
  rintro q1 ⟨⟩; (repeat' split) <;> simp
@[simp] theorem State.reloadLatch_flashCells (s : State) (src : Nat) : (State.reloadLatch s src).flash.cells = s.flash.cells := by unfold State.reloadLatch; (repeat' split) <;> simp
@[simp] theorem State.pntLoading_flashCells (s : State) : (State.pntLoading s).flash.cells = s.flash.cells := by simp [State.pntLoading]
@[simp] theorem State.pntWrite_flashCells (s : State) (off : Nat) (v : Word) : (State.pntWrite s off v).flash.cells = s.flash.cells := by simp [State.pntWrite]

/-! Lanes. -/

@[simp] theorem State.setLane_flashCells (s : State) (n : Nat) (l : LaneSt) : (State.setLane s n l).flash.cells = s.flash.cells := by simp [State.setLane]
@[simp] theorem State.laneErr_flashCells (s : State) (n i : Nat) : (State.laneErr s n i).flash.cells = s.flash.cells := by simp [State.laneErr]
@[simp] theorem State.laneStatus_flashCells (s : State) (n i : Nat) : (State.laneStatus s n i).flash.cells = s.flash.cells := by simp [State.laneStatus]
@[simp] theorem State.rxOff_flashCells (s : State) (n : Nat) : (State.rxOff s n).flash.cells = s.flash.cells := by simp [State.rxOff]
@[simp] theorem State.laneRefresh_flashCells (s : State) (n : Nat) : (State.laneRefresh s n).flash.cells = s.flash.cells := by simp [State.laneRefresh]
@[simp] theorem State.quadRefresh_flashCells (s : State) (q : Nat) : (State.quadRefresh s q).flash.cells = s.flash.cells := by simp [State.quadRefresh]
@[simp] theorem State.lanesRefresh_flashCells (s : State) : (State.lanesRefresh s).flash.cells = s.flash.cells := by simp [State.lanesRefresh]
@[simp] theorem State.cdrDrop_flashCells (s : State) (n : Nat) : (State.cdrDrop s n).flash.cells = s.flash.cells := by simp [State.cdrDrop]
@[simp] theorem State.lgForget_flashCells (s : State) (n : Nat) : (State.lgForget s n).flash.cells = s.flash.cells := by simp [State.lgForget]
@[simp] theorem State.lgLoad_flashCells (s : State) (n : Nat) : (State.lgLoad s n).flash.cells = s.flash.cells := by simp [State.lgLoad]
@[simp] theorem State.lgSave_flashCells (s : State) (n : Nat) : (State.lgSave s n).flash.cells = s.flash.cells := by simp [State.lgSave]
@[simp] theorem State.adaptStep_flashCells (s : State) (n : Nat) (e : EyeWindow) : (State.adaptStep s n e).flash.cells = s.flash.cells := by simp [State.adaptStep]
@[simp] theorem State.setRevHold_flashCells (s : State) (n k : Nat) : (State.setRevHold s n k).flash.cells = s.flash.cells := by simp [State.setRevHold]
@[simp] theorem State.floorRevert_flashCells (s : State) (n : Nat) : (State.floorRevert s n).flash.cells = s.flash.cells := by simp [State.floorRevert]
@[simp] theorem State.adaptEnd_flashCells (s : State) (n eye : Nat) (qual : Bool) (e : EyeWindow) : (State.adaptEnd s n eye qual e).flash.cells = s.flash.cells := by simp [State.adaptEnd]
@[simp] theorem State.eyeEnd_flashCells (s : State) (n : Nat) (e : EyeWindow) : (State.eyeEnd s n e).flash.cells = s.flash.cells := by simp [State.eyeEnd]
theorem execEyeWindowEnd_flashCells (n : Fin 64) (e : EyeWindow) (s : State) : ∀ q1, (execEyeWindowEnd n e s) = .next q1 → q1.flash.cells = s.flash.cells := by
  rintro q1 ⟨⟩; simp
@[simp] theorem State.txeqWrite_flashCells (s : State) (n : Nat) (v : Word) : (State.txeqWrite s n v).flash.cells = s.flash.cells := by simp [State.txeqWrite]
@[simp] theorem State.rxeqWrite_flashCells (s : State) (n : Nat) (v : Word) : (State.rxeqWrite s n v).flash.cells = s.flash.cells := by simp [State.rxeqWrite]
@[simp] theorem State.dfeWrite_flashCells (s : State) (n i : Nat) (v : Word) : (State.dfeWrite s n i v).flash.cells = s.flash.cells := by simp [State.dfeWrite]
@[simp] theorem State.prbsWrite_flashCells (s : State) (n : Nat) (v : Word) : (State.prbsWrite s n v).flash.cells = s.flash.cells := by simp [State.prbsWrite]
@[simp] theorem State.calStart_flashCells (s : State) (q : Nat) : (State.calStart s q).flash.cells = s.flash.cells := by simp [State.calStart]
@[simp] theorem State.quadWrite_flashCells (s : State) (q o : Nat) (v : Word) : (State.quadWrite s q o v).flash.cells = s.flash.cells := by simp [State.quadWrite]
@[simp] theorem State.laneWrite_flashCells (s : State) (n o : Nat) (v : Word) : (State.laneWrite s n o v).flash.cells = s.flash.cells := by simp [State.laneWrite]
theorem execLaneTxeqWrite_flashCells (ag : Agent) (n : Fin 64) (v : Word) (s : State) : ∀ q1, (execLaneTxeqWrite ag n v s) = .next q1 → q1.flash.cells = s.flash.cells := by
  rintro q1 ⟨⟩; simp
theorem execLaneLoadlg_flashCells (ag : Agent) (n : Fin 64) (s : State) : ∀ q1, (execLaneLoadlg ag n s) = .next q1 → q1.flash.cells = s.flash.cells := by
  rintro q1 ⟨⟩; simp
theorem execPrbsClear_flashCells (ag : Agent) (n : Fin 64) (s : State) : ∀ q1, (execPrbsClear ag n s) = .next q1 → q1.flash.cells = s.flash.cells := by
  rintro q1 ⟨⟩; simp
theorem execQuadCalStart_flashCells (ag : Agent) (q : Fin 16) (s : State) : ∀ q1, (execQuadCalStart ag q s) = .next q1 → q1.flash.cells = s.flash.cells := by
  rintro q1 ⟨⟩; simp
@[simp] theorem State.setRelock_flashCells (s : State) (q h : Nat) (b : Bool) : (State.setRelock s q h b).flash.cells = s.flash.cells := by simp [State.setRelock]
@[simp] theorem State.pllUnlock_flashCells (s : State) (q h : Nat) : (State.pllUnlock s q h).flash.cells = s.flash.cells := by simp [State.pllUnlock]
@[simp] theorem State.qpllApply_flashCells (s : State) (q : Nat) (vals : List (Nat × Word)) : (State.qpllApply s q vals).flash.cells = s.flash.cells := by unfold State.qpllApply; dsimp only; repeat' first | (simp; done) | split
theorem execQpllLock_flashCells (q : Fin 16) (h : Fin 2) (s : State) : ∀ q1, (execQpllLock q h s) = .next q1 → q1.flash.cells = s.flash.cells := by
  rintro q1 ⟨⟩; simp
theorem execQpllLossOfLock_flashCells (q : Fin 16) (h : Fin 2) (s : State) : ∀ q1, (execQpllLossOfLock q h s) = .next q1 → q1.flash.cells = s.flash.cells := by
  rintro q1 ⟨⟩; simp
@[simp] theorem State.laneCfgApply_flashCells (s : State) (n : Nat) (vals : List (Nat × Word)) : (State.laneCfgApply s n vals).flash.cells = s.flash.cells := by unfold State.laneCfgApply; (repeat' split) <;> simp
theorem execLaneWakeBurstEnd_flashCells (n : Fin 64) (s : State) : ∀ q1, (execLaneWakeBurstEnd n s) = .next q1 → q1.flash.cells = s.flash.cells := by
  rintro q1 ⟨⟩; simp
theorem execCdrLockAcquired_flashCells (n : Fin 64) (s : State) : ∀ q1, (execCdrLockAcquired n s) = .next q1 → q1.flash.cells = s.flash.cells := by
  rintro q1 ⟨⟩; simp
theorem execCdrLockLost_flashCells (n : Fin 64) (s : State) : ∀ q1, (execCdrLockLost n s) = .next q1 → q1.flash.cells = s.flash.cells := by
  rintro q1 ⟨⟩; simp
theorem execRxidleChange_flashCells (n : Fin 64) (idle : Bool) (s : State) : ∀ q1, (execRxidleChange n idle s) = .next q1 → q1.flash.cells = s.flash.cells := by
  rintro q1 ⟨⟩; simp
theorem execCommaAlign_flashCells (n : Fin 64) (s : State) : ∀ q1, (execCommaAlign n s) = .next q1 → q1.flash.cells = s.flash.cells := by
  rintro q1 ⟨⟩; simp
theorem execAlignLost_flashCells (n : Fin 64) (s : State) : ∀ q1, (execAlignLost n s) = .next q1 → q1.flash.cells = s.flash.cells := by
  rintro q1 ⟨⟩; simp
theorem execBlockLockAcquired_flashCells (n : Fin 64) (s : State) : ∀ q1, (execBlockLockAcquired n s) = .next q1 → q1.flash.cells = s.flash.cells := by
  rintro q1 ⟨⟩; simp
theorem execBlockLockLost_flashCells (n : Fin 64) (s : State) : ∀ q1, (execBlockLockLost n s) = .next q1 → q1.flash.cells = s.flash.cells := by
  rintro q1 ⟨⟩; simp
@[simp] theorem State.fifoFault_flashCells (s : State) (n : Nat) (tx : Bool) : (State.fifoFault s n tx).flash.cells = s.flash.cells := by simp [State.fifoFault]
theorem execPhaseFifoFault_flashCells (n : Fin 64) (tx : Bool) (s : State) : ∀ q1, (execPhaseFifoFault n tx s) = .next q1 → q1.flash.cells = s.flash.cells := by
  rintro q1 ⟨⟩; simp
theorem execPrbsCheckerLock_flashCells (n : Fin 64) (s : State) : ∀ q1, (execPrbsCheckerLock n s) = .next q1 → q1.flash.cells = s.flash.cells := by
  rintro q1 ⟨⟩; simp
@[simp] theorem State.countErr_flashCells (s : State) (n k : Nat) : (State.countErr s n k).flash.cells = s.flash.cells := by simp [State.countErr]
@[simp] theorem State.laneErrIf_flashCells (s : State) (c : Bool) (n i : Nat) : (State.laneErrIf s c n i).flash.cells = s.flash.cells := by simp [State.laneErrIf]
@[simp] theorem State.prbsCheck_flashCells (s : State) (n width raw : Nat) : (State.prbsCheck s n width raw).flash.cells = s.flash.cells := by simp [State.prbsCheck]
@[simp] theorem State.rxWord_flashCells (s : State) (n : Nat) (w : LaneRx) : (State.rxWord s n w).flash.cells = s.flash.cells := by simp [State.rxWord]
theorem execLaneRxWord_flashCells (n : Fin 64) (w : LaneRx) (s : State) : ∀ q1, (execLaneRxWord n w s) = .next q1 → q1.flash.cells = s.flash.cells := by
  rintro q1 ⟨⟩; simp
@[simp] theorem State.txEdge_flashCells (s : State) (n : Nat) (p : LanePins) : (State.txEdge s n p).flash.cells = s.flash.cells := by simp [State.txEdge]
@[simp] theorem State.rxEdge_flashCells (s : State) (n : Nat) : (State.rxEdge s n).flash.cells = s.flash.cells := by unfold State.rxEdge; dsimp only; repeat' first | (simp; done) | split
@[simp] theorem State.lanesEdge_flashCells (s : State) (k net : Nat) (p : EdgePins) : (State.lanesEdge s k net p).flash.cells = s.flash.cells := by simp [State.lanesEdge]

/-! WaleLink. -/

@[simp] theorem State.ownSet_flashCells (s : State) (off : Nat) (v : Word) : (State.ownSet s off v).flash.cells = s.flash.cells := by simp [State.ownSet]
@[simp] theorem State.wpTake_flashCells (s : State) (p : Nat) : (State.wpTake s p).flash.cells = s.flash.cells := by simp [State.wpTake]
@[simp] theorem State.wpTrain_flashCells (s : State) (p : Nat) : (State.wpTrain s p).flash.cells = s.flash.cells := by simp [State.wpTrain]
@[simp] theorem State.wpStart_flashCells (s : State) (p : Nat) : (State.wpStart s p).flash.cells = s.flash.cells := by simp [State.wpStart]
@[simp] theorem State.wpDue_flashCells (s : State) (p : Nat) : (State.wpDue s p).flash.cells = s.flash.cells := by simp [State.wpDue]
@[simp] theorem State.trnCount_flashCells (s : State) (p lane : Nat) (t : TrnSet) : (State.trnCount s p lane t).flash.cells = s.flash.cells := by simp [State.trnCount]
@[simp] theorem State.trnTraining_flashCells (s : State) (p lane : Nat) (t : TrnSet) : (State.trnTraining s p lane t).flash.cells = s.flash.cells := by simp [State.trnTraining]
@[simp] theorem State.peerRecord_flashCells (s : State) (x epoch : Nat) : (State.peerRecord s x epoch).flash.cells = s.flash.cells := by simp [State.peerRecord]
@[simp] theorem State.originEnd_flashCells (s : State) (o : WaleOrigin) (status : Nat) (read : Bool) (ws : List Word) : (State.originEnd s o status read ws).flash.cells = s.flash.cells := by unfold State.originEnd; (repeat' split) <;> simp
@[simp] theorem State.reqEnd_flashCells (s : State) (r : WaleReq) (status : Nat) (ws : List Word) : (State.reqEnd s r status ws).flash.cells = s.flash.cells := by simp [State.reqEnd]
@[simp] theorem State.reqsEpoch_flashCells (s : State) (f : WaleReq → Bool) : (State.reqsEpoch s f).flash.cells = s.flash.cells := by simp [State.reqsEpoch]
@[simp] theorem State.sendJoin_flashCells (s : State) (p : Nat) : (State.sendJoin s p).flash.cells = s.flash.cells := by simp [State.sendJoin]
@[simp] theorem State.linkUp_flashCells (s : State) (p : Nat) : (State.linkUp s p).flash.cells = s.flash.cells := by simp [State.linkUp]
@[simp] theorem State.ackDrop_flashCells (s : State) (p aseq : Nat) : (State.ackDrop s p aseq).flash.cells = s.flash.cells := by unfold State.ackDrop; dsimp only; repeat' first | (simp; done) | split
@[simp] theorem State.ackTake_flashCells (s : State) (p aseq : Nat) : (State.ackTake s p aseq).flash.cells = s.flash.cells := by unfold State.ackTake; repeat' first | (simp; done) | split
@[simp] theorem State.nakOnce_flashCells (s : State) (p : Nat) : (State.nakOnce s p).flash.cells = s.flash.cells := by simp [State.nakOnce]
@[simp] theorem State.linkRx_flashCells (s : State) (p seq : Nat) : (State.linkRx s p seq).2.flash.cells = s.flash.cells := by simp [State.linkRx]
@[simp] theorem State.lanesChanged_flashCells (s : State) (p : Nat) : (State.lanesChanged s p).flash.cells = s.flash.cells := by simp [State.lanesChanged]
@[simp] theorem State.askSet_flashCells (s : State) (p op set : Nat) : (State.askSet s p op set).flash.cells = s.flash.cells := by simp [State.askSet]
@[simp] theorem State.laneReadmit_flashCells (s : State) (p lane : Nat) : (State.laneReadmit s p lane).flash.cells = s.flash.cells := by simp [State.laneReadmit]
@[simp] theorem State.lmgSet_flashCells (s : State) (p op set : Nat) : (State.lmgSet s p op set).flash.cells = s.flash.cells := by simp [State.lmgSet]
@[simp] theorem State.dropBlock_flashCells (s : State) : (State.dropBlock s).flash.cells = s.flash.cells := by simp [State.dropBlock]
@[simp] theorem State.completionIn_flashCells (s : State) (b : WaleBlock) : (State.completionIn s b).flash.cells = s.flash.cells := by unfold State.completionIn; (repeat' split) <;> simp
theorem State.toPort_flashCells (s : State) (from_ : Option Nat) (b : WaleBlock) : ∀ q1, (State.toPort s from_ b) = some q1 → q1.flash.cells = s.flash.cells := by
  intro q1 h
  simp only [State.toPort] at h
  (repeat' split at h) <;> simp_all <;> (try (subst h; simp))
@[simp] theorem State.answer_flashCells (s : State) (b : WaleBlock) (status : Nat) (ws : List Word) : (State.answer s b status ws).flash.cells = s.flash.cells := by
  unfold State.answer
  dsimp only
  split
  · simp
  · split
    · rename_i h
      exact State.toPort_flashCells _ _ _ _ h
    · split <;> simp
@[simp] theorem State.wakeToward_flashCells (s : State) (x : Nat) (b : WaleBlock) : (State.wakeToward s x b).flash.cells = s.flash.cells := by simp [State.wakeToward]
@[simp] theorem State.sleepHandle_flashCells (s : State) (x : Nat) (b : WaleBlock) : (State.sleepHandle s x b).flash.cells = s.flash.cells := by simp [State.sleepHandle]
@[simp] theorem State.routeOn_flashCells (s : State) (from_ : Option Nat) (b : WaleBlock) : (State.routeOn s from_ b).flash.cells = s.flash.cells := by
  unfold State.routeOn
  dsimp only
  split
  · simp
  · split
    · rename_i h
      split at h
      · cases h
      · exact State.toPort_flashCells _ _ _ _ h
    · split <;> simp
@[simp] theorem State.mqRefresh_flashCells (s : State) : (State.mqRefresh s).flash.cells = s.flash.cells := by simp [State.mqRefresh]
@[simp] theorem State.messageIn_flashCells (s : State) (b : WaleBlock) : (State.messageIn s b).flash.cells = s.flash.cells := by simp [State.messageIn]
@[simp] theorem State.localIn_flashCells (s : State) (b : WaleBlock) (mem : Nat) : (State.localIn s b mem).flash.cells = s.flash.cells := by unfold State.localIn; (repeat' split) <;> simp
@[simp] theorem State.originate_flashCells (s : State) (b : WaleBlock) : (State.originate s b).flash.cells = s.flash.cells := by simp [State.originate]
@[simp] theorem State.requestSend_flashCells (s : State) (o : WaleOrigin) (b : WaleBlock) (tag : Nat) : (State.requestSend s o b tag).flash.cells = s.flash.cells := by simp [State.requestSend]
@[simp] theorem State.waleIssue_flashCells (s : State) (o : WaleOrigin) (kind : WaleKind) (dest addr len : Nat) (ack : Bool) (ws : List Word) : (State.waleIssue s o kind dest addr len ack ws).flash.cells = s.flash.cells := by unfold State.waleIssue; (repeat' split) <;> simp
theorem State.tagNext_flashCells (s : State) : ∀ q1, (State.tagNext s) = some q1 → q1.flash.cells = s.flash.cells := by
  intro q1 h
  simp only [State.tagNext] at h
  (repeat' split at h) <;> simp_all <;> (try (subst h; simp))
@[simp] theorem State.epochTest_flashCells (s : State) (b : WaleBlock) : (State.epochTest s b).2.flash.cells = s.flash.cells := by simp [State.epochTest]
@[simp] theorem State.blockIn_flashCells (s : State) (p : Nat) (b : WaleBlock) (here join : Bool) (act : State → State) (h : ∀ t, (act t).flash.cells = t.flash.cells) : (s.blockIn p b here join act).flash.cells = s.flash.cells := by
  have e := State.linkRx_flashCells s p b.seq.val
  unfold State.blockIn
  split
  · rename_i hr
    rw [hr] at e
    exact e
  · rename_i t hr
    rw [hr] at e
    have e2 := State.epochTest_flashCells t b
    split
    · rename_i hj
      split at hj
      · cases hj
      · rw [hj] at e2
        rw [e2]
        exact e
    · rename_i u hj
      have e3 : u.flash.cells = t.flash.cells := by
        split at hj
        · cases hj; rfl
        · rw [hj] at e2; exact e2
      dsimp only at e
      rw [← e, ← e3]
      split
      · exact h _
      split
      · rw [h]
        split <;> simp
      split
      · simp
      split
      · exact h _
      · simp
theorem execWaleLinkUp_flashCells (p : Fin 6) (s : State) : ∀ q1, (execWaleLinkUp p s) = .next q1 → q1.flash.cells = s.flash.cells := by
  rintro q1 ⟨⟩; simp
theorem execWaleAutoRetrain_flashCells (p : Fin 6) (s : State) : ∀ q1, (execWaleAutoRetrain p s) = .next q1 → q1.flash.cells = s.flash.cells := by
  rintro q1 ⟨⟩; simp
theorem execWaleBlockBad_flashCells (p : Fin 6) (fmt : Option (Fin 4096)) (s : State) : ∀ q1, (execWaleBlockBad p fmt s) = .next q1 → q1.flash.cells = s.flash.cells := by
  intro q1 h
  have e := fun q => State.linkRx_flashCells s p.val q
  unfold execWaleBlockBad at h
  injection h with h
  subst h
  split
  · rfl
  · split
    · simp
    · rename_i q
      have e1 := e q.val
      split <;> (rename_i hr; rw [hr] at e1; simpa using e1)
theorem execWaleAck_flashCells (p : Fin 6) (aseq : Fin 4096) (junk : Bool) (s : State) : ∀ q1, (execWaleAck p aseq junk s) = .next q1 → q1.flash.cells = s.flash.cells := by
  rintro q1 ⟨⟩; simp
theorem execWaleAckSend_flashCells (p : Fin 6) (s : State) : ∀ q1, (execWaleAckSend p s) = .next q1 → q1.flash.cells = s.flash.cells := by
  rintro q1 ⟨⟩; simp
theorem execWaleLaneReadmitReady_flashCells (p : Fin 6) (lane : Fin 8) (s : State) : ∀ q1, (execWaleLaneReadmitReady p lane s) = .next q1 → q1.flash.cells = s.flash.cells := by
  rintro q1 ⟨⟩; simp
theorem execWaleLmgDrop_flashCells (p : Fin 6) (set : BitVec 8) (junk : Bool) (s : State) : ∀ q1, (execWaleLmgDrop p set junk s) = .next q1 → q1.flash.cells = s.flash.cells := by
  rintro q1 ⟨⟩; simp
theorem execWaleLmgReadmit_flashCells (p : Fin 6) (set : BitVec 8) (junk : Bool) (s : State) : ∀ q1, (execWaleLmgReadmit p set junk s) = .next q1 → q1.flash.cells = s.flash.cells := by
  rintro q1 ⟨⟩; simp
theorem execWaleLmgSleep_flashCells (p : Fin 6) (junk : Bool) (s : State) : ∀ q1, (execWaleLmgSleep p junk s) = .next q1 → q1.flash.cells = s.flash.cells := by
  rintro q1 ⟨⟩; simp
theorem execWaleCompletion_flashCells (p : Fin 6) (b : WaleBlock) (s : State) : ∀ q1, (execWaleCompletion p b s) = .next q1 → q1.flash.cells = s.flash.cells := by
  rintro q1 ⟨⟩; simp
theorem execWaleMessage_flashCells (p : Fin 6) (b : WaleBlock) (s : State) : ∀ q1, (execWaleMessage p b s) = .next q1 → q1.flash.cells = s.flash.cells := by
  rintro q1 ⟨⟩; simp
theorem execWaleRequestDeadline_flashCells (tag : Fin 256) (s : State) : ∀ q1, (execWaleRequestDeadline tag s) = .next q1 → q1.flash.cells = s.flash.cells := by
  rintro q1 ⟨⟩; (repeat' split) <;> simp
@[simp] theorem State.mqPop_flashCells (s : State) : (State.mqPop s).flash.cells = s.flash.cells := by simp [State.mqPop]
theorem execWaleMqPop_flashCells (ag : Agent) (s : State) : ∀ q1, (execWaleMqPop ag s) = .next q1 → q1.flash.cells = s.flash.cells := by
  rintro q1 ⟨⟩; simp

/-! Wale. -/

@[simp] theorem State.gangOut_flashCells (s : State) (off : Nat) (ws : List Word) (first last abort : Bool) : (State.gangOut s off ws first last abort).flash.cells = s.flash.cells := by
  unfold State.gangOut
  dsimp only
  split
  · simp
  · split
    · rename_i h
      simpa using State.toPort_flashCells _ _ _ _ h
    · simp
@[simp] theorem State.gangSend_flashCells (s : State) (keep : Bool) (x0 : Nat) : (State.gangSend s keep x0).flash.cells = s.flash.cells := by
  induction x0 generalizing s keep with
  | zero => simp [State.gangSend]
  | succ n ih => unfold State.gangSend; (repeat' split) <;> simp [ih]
@[simp] theorem State.gangGo_flashCells (s : State) : (State.gangGo s).flash.cells = s.flash.cells := by simp [State.gangGo]
@[simp] theorem State.gangAbort_flashCells (s : State) (blocks : Nat) : (State.gangAbort s blocks).flash.cells = s.flash.cells := by unfold State.gangAbort; dsimp only; repeat' first | (simp; done) | split
@[simp] theorem State.gangCtlWrite_flashCells (s : State) (v : Word) : (State.gangCtlWrite s v).flash.cells = s.flash.cells := by simp [State.gangCtlWrite]
@[simp] theorem State.gangResult_flashCells (s : State) (r : Nat) : (State.gangResult s r).flash.cells = s.flash.cells := by simp [State.gangResult]
theorem execWaleGangGo_flashCells (ag : Agent) (hamper bcast : Bool) (dest : Fin 512) (s : State) : ∀ q1, (execWaleGangGo ag hamper bcast dest s) = .next q1 → q1.flash.cells = s.flash.cells := by
  rintro q1 ⟨⟩; simp
theorem execWaleGangAbort_flashCells (ag : Agent) (blocks : Nat) (s : State) : ∀ q1, (execWaleGangAbort ag blocks s) = .next q1 → q1.flash.cells = s.flash.cells := by
  rintro q1 ⟨⟩; simp
theorem execWaleGangSendEnd_flashCells (s : State) : ∀ q1, (execWaleGangSendEnd s) = .next q1 → q1.flash.cells = s.flash.cells := by
  rintro q1 ⟨⟩; (repeat' split) <;> simp
@[simp] theorem State.badBody_flashCells (s : State) (p : Nat) : (State.badBody s p).flash.cells = s.flash.cells := by simp [State.badBody]
theorem execWaleAdvert_flashCells (p : Fin 6) (b : WaleBlock) (s : State) : ∀ q1, (execWaleAdvert p b s) = .next q1 → q1.flash.cells = s.flash.cells := by
  rintro q1 ⟨⟩; (repeat' split) <;> simp
theorem execWaleAdvertTimer_flashCells (s : State) : ∀ q1, (execWaleAdvertTimer s) = .next q1 → q1.flash.cells = s.flash.cells := by
  rintro q1 ⟨⟩; simp
theorem execWaleAdvertExpiry_flashCells (p : Fin 6) (s : State) : ∀ q1, (execWaleAdvertExpiry p s) = .next q1 → q1.flash.cells = s.flash.cells := by
  rintro q1 ⟨⟩; simp
@[simp] theorem State.joinIn_flashCells (s : State) (x epoch : Nat) : (State.joinIn s x epoch).flash.cells = s.flash.cells := by simp [State.joinIn]
theorem execWaleJoin_flashCells (p : Fin 6) (b : WaleBlock) (s : State) : ∀ q1, (execWaleJoin p b s) = .next q1 → q1.flash.cells = s.flash.cells := by
  rintro q1 ⟨⟩; (repeat' split) <;> simp
@[simp] theorem State.timeCorrect_flashCells (s : State) (o : Int) : (State.timeCorrect s o).flash.cells = s.flash.cells := by simp [State.timeCorrect]
@[simp] theorem State.timeLock_flashCells (s : State) (o : Int) : (State.timeLock s o).flash.cells = s.flash.cells := by simp [State.timeLock]
@[simp] theorem State.timeUpdate_flashCells (s : State) (p : Nat) (t1 t2 t3 t4 : Int) : (State.timeUpdate s p t1 t2 t3 t4).flash.cells = s.flash.cells := by simp [State.timeUpdate]
theorem execWaleTimeExchangeStart_flashCells (fine : Fin 2500) (s : State) : ∀ q1, (execWaleTimeExchangeStart fine s) = .next q1 → q1.flash.cells = s.flash.cells := by
  rintro q1 ⟨⟩; simp
theorem execWaleTsyRequest_flashCells (p : Fin 6) (xn : Fin 65536) (fine : Fin 2500) (turn : Nat) (junk : Bool) (s : State) : ∀ q1, (execWaleTsyRequest p xn fine turn junk s) = .next q1 → q1.flash.cells = s.flash.cells := by
  rintro q1 ⟨⟩; simp
theorem execWaleTsyResponse_flashCells (p : Fin 6) (xn : Fin 65536) (fine : Fin 2500) (junk : Bool) (s : State) : ∀ q1, (execWaleTsyResponse p xn fine junk s) = .next q1 → q1.flash.cells = s.flash.cells := by
  rintro q1 ⟨⟩; (repeat' split) <;> simp
@[simp] theorem State.followUpIn_flashCells (s : State) (p xn : Nat) (t2 t3 : Int) : (State.followUpIn s p xn t2 t3).flash.cells = s.flash.cells := by unfold State.followUpIn; (repeat' split) <;> simp
theorem execWaleTimeFollowUp_flashCells (p : Fin 6) (b : WaleBlock) (s : State) : ∀ q1, (execWaleTimeFollowUp p b s) = .next q1 → q1.flash.cells = s.flash.cells := by
  rintro q1 ⟨⟩; (repeat' split) <;> simp
theorem execWaleFollowUpTimeout_flashCells (s : State) : ∀ q1, (execWaleFollowUpTimeout s) = .next q1 → q1.flash.cells = s.flash.cells := by
  rintro q1 ⟨⟩; simp
@[simp] theorem State.bndSend_flashCells (s : State) (i : Nat) (x : Instant) : (State.bndSend s i x).flash.cells = s.flash.cells := by simp [State.bndSend]
@[simp] theorem State.bndIn_flashCells (s : State) (orig i : Nat) (x : Instant) : (State.bndIn s orig i x).flash.cells = s.flash.cells := by simp [State.bndIn]
theorem execWaleBnd_flashCells (p : Fin 6) (b : WaleBlock) (s : State) : ∀ q1, (execWaleBnd p b s) = .next q1 → q1.flash.cells = s.flash.cells := by
  intro q1 h
  unfold execWaleBnd at h
  injection h with h
  subst h
  apply State.blockIn_flashCells
  intro t
  split <;> simp
@[simp] theorem State.bndrefIn_flashCells (s : State) (orig refusing : Nat) : (State.bndrefIn s orig refusing).flash.cells = s.flash.cells := by simp [State.bndrefIn]
theorem execWaleBndref_flashCells (p : Fin 6) (b : WaleBlock) (s : State) : ∀ q1, (execWaleBndref p b s) = .next q1 → q1.flash.cells = s.flash.cells := by
  rintro q1 ⟨⟩; (repeat' split) <;> simp
@[simp] theorem State.tallyVote_flashCells (s : State) (x : Instant) (dev : Nat) (ready : Bool) : (State.tallyVote s x dev ready).flash.cells = s.flash.cells := by simp [State.tallyVote]
@[simp] theorem State.voteOn_flashCells (s : State) (x : Instant) (dev : Nat) (ready : Bool) : (State.voteOn s x dev ready).flash.cells = s.flash.cells := by simp [State.voteOn]
theorem execWaleVoteCutoff_flashCells (src : Fin 64) (s : State) : ∀ q1, (execWaleVoteCutoff src s) = .next q1 → q1.flash.cells = s.flash.cells := by
  rintro q1 ⟨⟩; (repeat' split) <;> simp
theorem execWaleVote_flashCells (p : Fin 6) (b : WaleBlock) (s : State) : ∀ q1, (execWaleVote p b s) = .next q1 → q1.flash.cells = s.flash.cells := by
  rintro q1 ⟨⟩; (repeat' split) <;> simp
@[simp] theorem State.verdictIn_flashCells (s : State) (x : Instant) (ready : Bool) : (State.verdictIn s x ready).flash.cells = s.flash.cells := by simp [State.verdictIn]
theorem execWaleVerdictTimer_flashCells (num den : Nat) (s : State) : ∀ q1, (execWaleVerdictTimer num den s) = .next q1 → q1.flash.cells = s.flash.cells := by
  rintro q1 ⟨⟩; simp
theorem execWaleVerdict_flashCells (p : Fin 6) (b : WaleBlock) (s : State) : ∀ q1, (execWaleVerdict p b s) = .next q1 → q1.flash.cells = s.flash.cells := by
  rintro q1 ⟨⟩; (repeat' split) <;> simp
@[simp] theorem State.readyReport_flashCells (s after : State) (src : Nat) (x : Instant) : (State.readyReport s after src x).flash.cells = after.flash.cells := by unfold State.readyReport; (repeat' split) <;> simp
theorem execWaleAlarm_flashCells (p : Fin 6) (b : WaleBlock) (s : State) : ∀ q1, (execWaleAlarm p b s) = .next q1 → q1.flash.cells = s.flash.cells := by
  rintro q1 ⟨⟩; (repeat' split) <;> simp
@[simp] theorem State.sysdoneSend_flashCells (s : State) : (State.sysdoneSend s).flash.cells = s.flash.cells := by simp [State.sysdoneSend]
@[simp] theorem State.rosterTake_flashCells (s : State) : (State.rosterTake s).flash.cells = s.flash.cells := by simp [State.rosterTake]
theorem execWaleDoneUpSend_flashCells (s : State) : ∀ q1, (execWaleDoneUpSend s) = .next q1 → q1.flash.cells = s.flash.cells := by
  rintro q1 ⟨⟩; simp
theorem execWaleDoneUp_flashCells (p : Fin 6) (b : WaleBlock) (s : State) : ∀ q1, (execWaleDoneUp p b s) = .next q1 → q1.flash.cells = s.flash.cells := by
  rintro q1 ⟨⟩; (repeat' split) <;> simp
theorem execWaleSysdone_flashCells (p : Fin 6) (b : WaleBlock) (s : State) : ∀ q1, (execWaleSysdone p b s) = .next q1 → q1.flash.cells = s.flash.cells := by
  rintro q1 ⟨⟩; (repeat' split) <;> simp
theorem execWaleSystemDoneInstant_flashCells (s : State) : ∀ q1, (execWaleSystemDoneInstant s) = .next q1 → q1.flash.cells = s.flash.cells := by
  rintro q1 ⟨⟩; simp
theorem execWaleSleepMsg_flashCells (p : Fin 6) (b : WaleBlock) (s : State) : ∀ q1, (execWaleSleepMsg p b s) = .next q1 → q1.flash.cells = s.flash.cells := by
  rintro q1 ⟨⟩; (repeat' split) <;> simp
@[simp] theorem State.awakeIn_flashCells (s : State) (x : Nat) : (State.awakeIn s x).flash.cells = s.flash.cells := by simp [State.awakeIn]
theorem execWaleAwake_flashCells (p : Fin 6) (b : WaleBlock) (s : State) : ∀ q1, (execWaleAwake p b s) = .next q1 → q1.flash.cells = s.flash.cells := by
  rintro q1 ⟨⟩; (repeat' split) <;> simp
theorem execWaleWake_flashCells (p : Fin 6) (b : WaleBlock) (s : State) : ∀ q1, (execWaleWake p b s) = .next q1 → q1.flash.cells = s.flash.cells := by
  rintro q1 ⟨⟩; (repeat' split) <;> simp
@[simp] theorem State.waleSleep_flashCells (s : State) : (State.waleSleep s).flash.cells = s.flash.cells := by simp [State.waleSleep]
@[simp] theorem State.waleWake_flashCells (s : State) : (State.waleWake s).flash.cells = s.flash.cells := by simp [State.waleWake]
@[simp] theorem State.waleCfgWrite_flashCells (s : State) (v : Word) : (State.waleCfgWrite s v).flash.cells = s.flash.cells := by simp [State.waleCfgWrite]

/-! HostPorts. -/

@[simp] theorem State.epReset_flashCells (s : State) (p : Fin 2) : (State.epReset s p).flash.cells = s.flash.cells := by simp [State.epReset]
theorem execPcieLinkUp_flashCells (port : Fin 2) (gen : BitVec 3) (width : BitVec 2) (s : State) : ∀ q1, (execPcieLinkUp port gen width s) = .next q1 → q1.flash.cells = s.flash.cells := by
  rintro q1 ⟨⟩; simp
theorem execPciePowerStateChange_flashCells (port : Fin 2) (d3hot l1 : Bool) (cfg : EndpointCfg) (s : State) : ∀ q1, (execPciePowerStateChange port d3hot l1 cfg s) = .next q1 → q1.flash.cells = s.flash.cells := by
  rintro q1 ⟨⟩; simp
@[simp] theorem State.spiAnswer_flashCells (s : State) (p : Fin 2) : (State.spiAnswer s p).flash.cells = s.flash.cells := by simp [State.spiAnswer]
@[simp] theorem State.spiError_flashCells (s : State) (p : Fin 2) : (State.spiError s p).flash.cells = s.flash.cells := by simp [State.spiError]
theorem execSpiFrameError_flashCells (port : Fin 2) (s : State) : ∀ q1, (execSpiFrameError port s) = .next q1 → q1.flash.cells = s.flash.cells := by
  rintro q1 ⟨⟩; simp
@[simp] theorem State.mailCtl_flashCells (s : State) (ag : Agent) (m : Nat) (v : Word) : (State.mailCtl s ag m v).flash.cells = s.flash.cells := by simp [State.mailCtl]
@[simp] theorem State.mailData_flashCells (s : State) (m i : Nat) (v : Word) : (State.mailData s m i v).flash.cells = s.flash.cells := by simp [State.mailData]
theorem execMbRing_flashCells (ag : Agent) (m : Fin 16) (s : State) : ∀ q1, (execMbRing ag m s) = .next q1 → q1.flash.cells = s.flash.cells := by
  rintro q1 ⟨⟩; simp
theorem execMbAck_flashCells (ag : Agent) (m : Fin 16) (s : State) : ∀ q1, (execMbAck ag m s) = .next q1 → q1.flash.cells = s.flash.cells := by
  rintro q1 ⟨⟩; simp
theorem execMbDataWrite_flashCells (ag : Agent) (m : Fin 16) (i : Fin 8) (v : Word) (s : State) : ∀ q1, (execMbDataWrite ag m i v s) = .next q1 → q1.flash.cells = s.flash.cells := by
  rintro q1 ⟨⟩; simp

/-! Cluster. -/

@[simp] theorem State.coreRelease_flashCells (s : State) (c : Nat) : (State.coreRelease s c).flash.cells = s.flash.cells := by simp [State.coreRelease]
@[simp] theorem State.clctlWrite_flashCells (s : State) (v : Word) : (State.clctlWrite s v).flash.cells = s.flash.cells := by simp [State.clctlWrite]
theorem execClusterRunWrite_flashCells (ag : Agent) (v : Word) (s : State) : ∀ q1, (execClusterRunWrite ag v s) = .next q1 → q1.flash.cells = s.flash.cells := by
  rintro q1 ⟨⟩; simp
@[simp] theorem State.setWd_flashCells (s : State) (i : Nat) (w : WdSt) : (State.setWd s i w).flash.cells = s.flash.cells := by simp [State.setWd]
@[simp] theorem State.wdEnable_flashCells (s : State) (i : Nat) (on : Bool) : (State.wdEnable s i on).flash.cells = s.flash.cells := by simp [State.wdEnable]
@[simp] theorem State.wdKick_flashCells (s : State) (i : Nat) (v : Word) : (State.wdKick s i v).flash.cells = s.flash.cells := by simp [State.wdKick]
@[simp] theorem State.wdCore_flashCells (s : State) (c : Nat) : (State.wdCore s c).flash.cells = s.flash.cells := by simp [State.wdCore]
@[simp] theorem State.wdExpire_flashCells (s : State) (i : Nat) : (State.wdExpire s i).flash.cells = s.flash.cells := by simp [State.wdExpire]
theorem execWdEnable_flashCells (i : Fin 5) (s : State) : ∀ q1, (execWdEnable i s) = .next q1 → q1.flash.cells = s.flash.cells := by
  rintro q1 ⟨⟩; simp
theorem execWdKick_flashCells (i : Fin 5) (v : Word) (s : State) : ∀ q1, (execWdKick i v s) = .next q1 → q1.flash.cells = s.flash.cells := by
  rintro q1 ⟨⟩; simp
theorem execWdExpiry_flashCells (i : Fin 5) (s : State) : ∀ q1, (execWdExpiry i s) = .next q1 → q1.flash.cells = s.flash.cells := by
  rintro q1 ⟨⟩; simp
@[simp] theorem State.wdTick_flashCells (s : State) : (State.wdTick s).flash.cells = s.flash.cells := by simp [State.wdTick]
@[simp] theorem State.wdWrite_flashCells (s : State) (i o : Nat) (v : Word) : (State.wdWrite s i o v).flash.cells = s.flash.cells := by unfold State.wdWrite; (repeat' split) <;> simp
@[simp] theorem State.setGw_flashCells (s : State) (p : Nat) (g : GwSt) : (State.setGw s p g).flash.cells = s.flash.cells := by simp [State.setGw]
@[simp] theorem State.gwErr_flashCells (s : State) (p i : Nat) : (State.gwErr s p i).flash.cells = s.flash.cells := by simp [State.gwErr]
@[simp] theorem State.gwAnswer_flashCells (s : State) (o : GwOrigin) (bs : List (BitVec 64)) : (State.gwAnswer s o bs).flash.cells = s.flash.cells := by unfold State.gwAnswer; (repeat' split) <;> simp
theorem State.gwAccess_flashCells (s : State) (o : GwOrigin) (req : WindowReq) : ∀ q1, (State.gwAccess s o req) = some q1 → q1.flash.cells = s.flash.cells := by
  intro q1 h
  simp only [State.gwAccess] at h
  (repeat' split at h) <;> simp_all <;> (try (subst h; simp))
@[simp] theorem State.gwEdge_flashCells (s : State) (p : Nat) (ready : Bool) : (State.gwEdge s p ready).flash.cells = s.flash.cells := by unfold State.gwEdge; dsimp only; repeat' first | (simp; done) | split
@[simp] theorem State.gwBayEdge_flashCells (s : State) (bay net : Nat) (ready : Bool) : (State.gwBayEdge s bay net ready).flash.cells = s.flash.cells := by unfold State.gwBayEdge; (repeat' split) <;> simp
@[simp] theorem State.gwReadEnd_flashCells (s : State) (p : Nat) (r : GwRead) (bs : List (BitVec 64)) : (State.gwReadEnd s p r bs).flash.cells = s.flash.cells := by simp [State.gwReadEnd]
theorem execGwWindowResponse_flashCells (port : Fin 4) (tag : Fin 32) (data : List (BitVec 64)) (err : Bool) (s : State) : ∀ q1, (execGwWindowResponse port tag data err s) = .next q1 → q1.flash.cells = s.flash.cells := by
  rintro q1 ⟨⟩; (repeat' split) <;> simp
theorem execGwWindowTimeout_flashCells (port : Fin 4) (tag : Fin 32) (s : State) : ∀ q1, (execGwWindowTimeout port tag s) = .next q1 → q1.flash.cells = s.flash.cells := by
  rintro q1 ⟨⟩; (repeat' split) <;> simp
theorem execEventRaise_flashCells (n : Fin 448) (s : State) : ∀ q1, (execEventRaise n s) = .next q1 → q1.flash.cells = s.flash.cells := by
  rintro q1 ⟨⟩; simp
theorem execUserEventEdge_flashCells (w : Fin 2) (j : Fin 32) (s : State) : ∀ q1, (execUserEventEdge w j s) = .next q1 → q1.flash.cells = s.flash.cells := by
  rintro q1 ⟨⟩; simp
@[simp] theorem State.claim_flashCells (s : State) (c : Nat) : (State.claim s c).2.flash.cells = s.flash.cells := by unfold State.claim; (repeat' split) <;> simp
theorem execEvtClaim_flashCells (ag : Agent) (c : Fin 4) (s : State) : ∀ q1, (execEvtClaim ag c s) = .next q1 → q1.flash.cells = s.flash.cells := by
  rintro q1 ⟨⟩; simp
@[simp] theorem State.evtRaise_flashCells (s : State) (v : Word) : (State.evtRaise s v).flash.cells = s.flash.cells := by simp [State.evtRaise]
theorem execEvtRaiseWrite_flashCells (ag : Agent) (v : Word) (s : State) : ∀ q1, (execEvtRaiseWrite ag v s) = .next q1 → q1.flash.cells = s.flash.cells := by
  rintro q1 ⟨⟩; simp
@[simp] theorem State.evtSrcWrite_flashCells (s : State) (n : Nat) (v : Word) : (State.evtSrcWrite s n v).flash.cells = s.flash.cells := by simp [State.evtSrcWrite]
@[simp] theorem State.evtThrWrite_flashCells (s : State) (t : Nat) (v : Word) : (State.evtThrWrite s t v).flash.cells = s.flash.cells := by simp [State.evtThrWrite]
@[simp] theorem State.msixTableWrite_flashCells (s : State) (p : Fin 2) (k : Nat) (v : Word) : (State.msixTableWrite s p k v).flash.cells = s.flash.cells := by simp [State.msixTableWrite]

/-! Domains. -/

@[simp] theorem State.wytheOff_flashCells (s : State) (w : Nat) : (State.wytheOff s w).flash.cells = s.flash.cells := by simp [State.wytheOff]
@[simp] theorem State.lanesOff_flashCells (s : State) (rs : List Nat) : (State.lanesOff s rs).flash.cells = s.flash.cells := by simp [State.lanesOff]
@[simp] theorem State.hampOff_flashCells (s : State) : (State.hampOff s).flash.cells = s.flash.cells := by simp [State.hampOff]
@[simp] theorem State.fabricHeld_flashCells (s : State) : (State.fabricHeld s).flash.cells = s.flash.cells := by simp [State.fabricHeld]
@[simp] theorem State.burnCut_flashCells (s : State) : (State.burnCut s).flash.cells = s.flash.cells := by unfold State.burnCut; (repeat' split) <;> simp
@[simp] theorem State.repairCut_flashCells (s : State) : (State.repairCut s).flash.cells = s.flash.cells := by unfold State.repairCut; (repeat' split) <;> simp
@[simp] theorem State.keepRegs_flashCells (s t : State) (offs : List Nat) : (State.keepRegs s t offs).flash.cells = t.flash.cells := by simp [State.keepRegs]

/-! Sounding. -/

@[simp] theorem State.setPhase_flashCells (s : State) (p : Nat) : (State.setPhase s p).flash.cells = s.flash.cells := by simp [State.setPhase]
@[simp] theorem State.sndResult_flashCells (s : State) (code : Nat) : (State.sndResult s code).flash.cells = s.flash.cells := by simp [State.sndResult]
@[simp] theorem State.setSnd_flashCells (s : State) (v : SndSt) : (State.setSnd s v).flash.cells = s.flash.cells := by simp [State.setSnd]
@[simp] theorem State.useSpare_flashCells (s : State) (col : Nat) : (State.useSpare s col).flash.cells = s.flash.cells := by simp [State.useSpare]
@[simp] theorem State.setSteer_flashCells (s : State) (n : Nat) (b : Bool) : (State.setSteer s n b).flash.cells = s.flash.cells := by simp [State.setSteer]
@[simp] theorem State.setCopying_flashCells (s : State) (n : Nat) (b : Bool) : (State.setCopying s n b).flash.cells = s.flash.cells := by simp [State.setCopying]
@[simp] theorem State.rowRepair_flashCells (s : State) (n rp : Nat) : (State.rowRepair s n rp).flash.cells = s.flash.cells := by simp [State.rowRepair]
@[simp] theorem State.rowRepairs_flashCells (s : State) (n k : Nat) (first : Option Nat) : (State.rowRepairs s n k first).flash.cells = s.flash.cells := by unfold State.rowRepairs; (repeat' split) <;> simp
@[simp] theorem State.rowLost_flashCells (s : State) (n rp : Nat) : (State.rowLost s n rp).flash.cells = s.flash.cells := by simp [State.rowLost]
@[simp] theorem State.spareRepair_flashCells (s : State) (n : Nat) : (State.spareRepair s n).flash.cells = s.flash.cells := by simp [State.spareRepair]
@[simp] theorem State.fuseCount_flashCells (s : State) : (State.fuseCount s).flash.cells = s.flash.cells := by simp [State.fuseCount]
@[simp] theorem State.fuseRepairs_flashCells (s : State) : (State.fuseRepairs s).flash.cells = s.flash.cells := by simp [State.fuseRepairs]
@[simp] theorem State.fuseBoot_flashCells (s : State) : (State.fuseBoot s).flash.cells = s.flash.cells := by simp [State.fuseBoot]
@[simp] theorem State.softRepair_flashCells (s : State) : (State.softRepair s).flash.cells = s.flash.cells := by simp [State.softRepair]
@[simp] theorem State.repairCreel_flashCells (s : State) (badSpares : List Nat) (n rowpairs : Nat) : (State.repairCreel s badSpares n rowpairs).2.flash.cells = s.flash.cells := by simp [State.repairCreel]
@[simp] theorem State.repairAll_flashCells (s : State) (badSpares : List Nat) (x0 : List CreelFail) : (State.repairAll s badSpares x0).1.flash.cells = s.flash.cells := by
  induction x0 generalizing s badSpares with
  | nil => simp [State.repairAll]
  | cons a l ih => simp [State.repairAll, ih]
@[simp] theorem State.soundBays_flashCells (s : State) (bays : List Nat) (rep : SoundReport) : (State.soundBays s bays rep).1.flash.cells = s.flash.cells := by simp [State.soundBays]
@[simp] theorem State.sndRefuse_flashCells (s : State) (code : Nat) : (State.sndRefuse s code).flash.cells = s.flash.cells := by simp [State.sndRefuse]
@[simp] theorem State.sndStart_flashCells (s : State) : (State.sndStart s).flash.cells = s.flash.cells := by simp [State.sndStart]
@[simp] theorem State.sndGo_flashCells (s : State) (v : Word) : (State.sndGo s v).flash.cells = s.flash.cells := by unfold State.sndGo; dsimp only; repeat' first | (simp; done) | split
@[simp] theorem State.sndBack_flashCells (s : State) (res : Nat) : (State.sndBack s res).flash.cells = s.flash.cells := by simp [State.sndBack]
@[simp] theorem State.sndAbort_flashCells (s : State) : (State.sndAbort s).flash.cells = s.flash.cells := by simp [State.sndAbort]
@[simp] theorem State.sndEnd_flashCells (s : State) : (State.sndEnd s).flash.cells = s.flash.cells := by simp [State.sndEnd]
@[simp] theorem State.sndReqWrite_flashCells (s : State) (v : Word) : (State.sndReqWrite s v).flash.cells = s.flash.cells := by simp [State.sndReqWrite]
theorem execSoundingRequest_flashCells (ag : Agent) (v : Word) (s : State) : ∀ q1, (execSoundingRequest ag v s) = .next q1 → q1.flash.cells = s.flash.cells := by
  rintro q1 ⟨⟩; simp
theorem execSoundingAbort_flashCells (ag : Agent) (s : State) : ∀ q1, (execSoundingAbort ag s) = .next q1 → q1.flash.cells = s.flash.cells := by
  rintro q1 ⟨⟩; simp
theorem execSoundingCopyDone_flashCells (s : State) : ∀ q1, (execSoundingCopyDone s) = .next q1 → q1.flash.cells = s.flash.cells := by
  rintro q1 ⟨⟩; simp
@[simp] theorem State.sndRun_flashCells (s : State) (r : SoundRun) : (State.sndRun s r).flash.cells = s.flash.cells := by simp [State.sndRun]
theorem execSoundingRunDone_flashCells (r : SoundRun) (s : State) : ∀ q1, (execSoundingRunDone r s) = .next q1 → q1.flash.cells = s.flash.cells := by
  rintro q1 ⟨⟩; simp
theorem execSoundingMoveBackDone_flashCells (s : State) : ∀ q1, (execSoundingMoveBackDone s) = .next q1 → q1.flash.cells = s.flash.cells := by
  rintro q1 ⟨⟩; simp
@[simp] theorem State.fuseGo_flashCells (s : State) (v : Word) : (State.fuseGo s v).flash.cells = s.flash.cells := by simp [State.fuseGo]
theorem execFuseBurn_flashCells (ag : Agent) (v : Word) (s : State) : ∀ q1, (execFuseBurn ag v s) = .next q1 → q1.flash.cells = s.flash.cells := by
  rintro q1 ⟨⟩; simp
@[simp] theorem State.fuseEffect_flashCells (s : State) (e : Nat × Nat × Nat) : (State.fuseEffect s e).flash.cells = s.flash.cells := by simp [State.fuseEffect]
theorem execFuseBurnDone_flashCells (s : State) : ∀ q1, (execFuseBurnDone s) = .next q1 → q1.flash.cells = s.flash.cells := by
  rintro q1 ⟨⟩; (repeat' split) <;> simp
@[simp] theorem State.staleClrWrite_flashCells (s : State) (v : Word) : (State.staleClrWrite s v).flash.cells = s.flash.cells := by simp [State.staleClrWrite]
theorem execStaleClear_flashCells (ag : Agent) (v : Word) (s : State) : ∀ q1, (execStaleClear ag v s) = .next q1 → q1.flash.cells = s.flash.cells := by
  rintro q1 ⟨⟩; simp
@[simp] theorem State.sndReload_flashCells (s : State) : (State.sndReload s).flash.cells = s.flash.cells := by simp [State.sndReload]

/-! Loading. -/

@[simp] theorem State.strapLatch_flashCells (s : State) (v : BitVec 7) : (State.strapLatch s v).flash.cells = s.flash.cells := by simp [State.strapLatch]
theorem execStrapLatch_flashCells (straps : BitVec 7) (s : State) : ∀ q1, (execStrapLatch straps s) = .next q1 → q1.flash.cells = s.flash.cells := by
  rintro q1 ⟨⟩; simp
@[simp] theorem State.bootNames_flashCells (s : State) (num : Nat) : (State.bootNames s num).flash.cells = s.flash.cells := by simp [State.bootNames]
@[simp] theorem State.keeperReads_flashCells (s : State) (agree xref : Bool) : (State.keeperReads s agree xref).flash.cells = s.flash.cells := by simp [State.keeperReads]
@[simp] theorem State.testToken_flashCells (s : State) (vinOk : Bool) : (State.testToken s vinOk).2.flash.cells = s.flash.cells := by unfold State.testToken; (repeat' split) <;> simp
@[simp] theorem State.factory_flashCells (s : State) : (State.factory s).flash.cells = s.flash.cells := by simp [State.factory]
@[simp] theorem State.applyBanks_flashCells (s : State) : (State.applyBanks s).flash.cells = s.flash.cells := by simp [State.applyBanks]
theorem execBankRepower_flashCells (b : Fin 16) (s : State) : ∀ q1, (execBankRepower b s) = .next q1 → q1.flash.cells = s.flash.cells := by
  rintro q1 ⟨⟩; simp
@[simp] theorem State.applyWale_flashCells (s : State) : (State.applyWale s).flash.cells = s.flash.cells := by simp [State.applyWale]
@[simp] theorem State.journalErase_flashCells (s : State) : (State.journalErase s).flash.cells = s.flash.cells := by simp [State.journalErase]
@[simp] theorem State.partCommit_flashCells (s : State) (j : PartJob) : (State.partCommit s j).flash.cells = s.flash.cells := by simp [State.partCommit]
theorem execPriorityCommit_flashCells (s : State) : ∀ q1, (execPriorityCommit s) = .next q1 → q1.flash.cells = s.flash.cells := by
  rintro q1 ⟨⟩; (repeat' split) <;> simp
@[simp] theorem State.leaveInit_flashCells (s : State) (bays : Nat) : (State.leaveInit s bays).flash.cells = s.flash.cells := by simp [State.leaveInit]
@[simp] theorem State.enableOuts_flashCells (s : State) (edge : Nat) : (State.enableOuts s edge).flash.cells = s.flash.cells := by simp [State.enableOuts]
theorem execPriorityInitLeave_flashCells (s : State) : ∀ q1, (execPriorityInitLeave s) = .next q1 → q1.flash.cells = s.flash.cells := by
  rintro q1 ⟨⟩; simp
@[simp] theorem State.bondRelease_flashCells (s : State) : (State.bondRelease s).flash.cells = s.flash.cells := by simp [State.bondRelease]
theorem execReleaseStart_flashCells (s : State) : ∀ q1, (execReleaseStart s) = .next q1 → q1.flash.cells = s.flash.cells := by
  rintro q1 ⟨⟩; simp
theorem execReleaseInitLeave_flashCells (s : State) : ∀ q1, (execReleaseInitLeave s) = .next q1 → q1.flash.cells = s.flash.cells := by
  rintro q1 ⟨⟩; simp
theorem execReleaseDoneRelease_flashCells (s : State) : ∀ q1, (execReleaseDoneRelease s) = .next q1 → q1.flash.cells = s.flash.cells := by
  rintro q1 ⟨⟩; simp
theorem execJournalEraseStart_flashCells (s : State) : ∀ q1, (execJournalEraseStart s) = .next q1 → q1.flash.cells = s.flash.cells := by
  rintro q1 ⟨⟩; simp

/-! Power. -/

@[simp] theorem State.setPwr_flashCells (s : State) (p : PwrSt) : (State.setPwr s p).flash.cells = s.flash.cells := by simp [State.setPwr]
@[simp] theorem State.pwrResult_flashCells (s : State) (code kind domain : Nat) : (State.pwrResult s code kind domain).flash.cells = s.flash.cells := by simp [State.pwrResult]
@[simp] theorem State.setAsked_flashCells (s : State) (v : Option Word) : (State.setAsked s v).flash.cells = s.flash.cells := by simp [State.setAsked]
@[simp] theorem State.setMstate_flashCells (s : State) (v : Nat) : (State.setMstate s v).flash.cells = s.flash.cells := by simp [State.setMstate]
@[simp] theorem State.rampTo_flashCells (s : State) (l : Nat × Nat) (byReq : Bool) : (State.rampTo s l byReq).flash.cells = s.flash.cells := by simp [State.rampTo]
@[simp] theorem State.rampLevels_flashCells (s : State) : (State.rampLevels s).flash.cells = s.flash.cells := by simp [State.rampLevels]
@[simp] theorem State.drainStart_flashCells (s : State) (mode : Nat) : (State.drainStart s mode).flash.cells = s.flash.cells := by simp [State.drainStart]
@[simp] theorem State.drainEnd_flashCells (s : State) : (State.drainEnd s).flash.cells = s.flash.cells := by simp [State.drainEnd]
@[simp] theorem State.dozeEnter_flashCells (s : State) : (State.dozeEnter s).flash.cells = s.flash.cells := by simp [State.dozeEnter]
@[simp] theorem State.modeBegin_flashCells (s : State) (mode : Nat) : (State.modeBegin s mode).flash.cells = s.flash.cells := by unfold State.modeBegin; (repeat' split) <;> simp
@[simp] theorem State.plReqWrite_flashCells (s : State) (v : Word) : (State.plReqWrite s v).flash.cells = s.flash.cells := by simp [State.plReqWrite]
theorem execPlRequest_flashCells (ag : Agent) (v : Word) (s : State) : ∀ q1, (execPlRequest ag v s) = .next q1 → q1.flash.cells = s.flash.cells := by
  rintro q1 ⟨⟩; simp
@[simp] theorem State.plLatch_flashCells (s : State) (src : Nat) : (State.plLatch s src).flash.cells = s.flash.cells := by unfold State.plLatch; (repeat' split) <;> simp
@[simp] theorem State.breachTest_flashCells (s t : State) (src : Nat) : (s.breachTest t src).flash.cells = s.flash.cells := by
  unfold State.breachTest
  split
  · rfl
  · split <;> rfl
@[simp] theorem State.plDeliver_flashCells (s : State) (src : Nat) : (State.plDeliver s src).flash.cells = s.flash.cells := by unfold State.plDeliver; dsimp only; repeat' first | (simp; done) | split
@[simp] theorem State.mreqWrite_flashCells (s : State) (v : Word) : (State.mreqWrite s v).flash.cells = s.flash.cells := by unfold State.mreqWrite; dsimp only; repeat' first | (simp; done) | split
theorem execModeRequestDoze_flashCells (ag : Agent) (s : State) : ∀ q1, (execModeRequestDoze ag s) = .next q1 → q1.flash.cells = s.flash.cells := by
  rintro q1 ⟨⟩; simp
theorem execModeRequestSleep_flashCells (ag : Agent) (s : State) : ∀ q1, (execModeRequestSleep ag s) = .next q1 → q1.flash.cells = s.flash.cells := by
  rintro q1 ⟨⟩; simp
theorem execModeRequestStandby_flashCells (ag : Agent) (s : State) : ∀ q1, (execModeRequestStandby ag s) = .next q1 → q1.flash.cells = s.flash.cells := by
  rintro q1 ⟨⟩; simp
@[simp] theorem State.clocksStop_flashCells (s : State) : (State.clocksStop s).flash.cells = s.flash.cells := by simp [State.clocksStop]
@[simp] theorem State.wakeRecord_flashCells (s : State) (first : Bool) (src port from_ : Nat) : (State.wakeRecord s first src port from_).flash.cells = s.flash.cells := by simp [State.wakeRecord]
@[simp] theorem State.sleepWake_flashCells (s : State) : (State.sleepWake s).flash.cells = s.flash.cells := by simp [State.sleepWake]
theorem execSleepEntered_flashCells (s : State) : ∀ q1, (execSleepEntered s) = .next q1 → q1.flash.cells = s.flash.cells := by
  rintro q1 ⟨⟩; simp
@[simp] theorem State.staleBay_flashCells (s : State) (b : Nat) : (State.staleBay s b).flash.cells = s.flash.cells := by simp [State.staleBay]
@[simp] theorem State.staleCluster_flashCells (s : State) : (State.staleCluster s).flash.cells = s.flash.cells := by simp [State.staleCluster]
@[simp] theorem State.gradientTest_flashCells (s : State) (i : Nat) (diff limit rearm : Int) : (State.gradientTest s i diff limit rearm).flash.cells = s.flash.cells := by simp [State.gradientTest]
@[simp] theorem State.tempWarning_flashCells (s : State) (top : Int) : (State.tempWarning s top).flash.cells = s.flash.cells := by simp [State.tempWarning]
theorem execRailWarning_flashCells (r : Fin 26) (s : State) : ∀ q1, (execRailWarning r s) = .next q1 → q1.flash.cells = s.flash.cells := by
  rintro q1 ⟨⟩; simp
theorem execVinLow_flashCells (s : State) : ∀ q1, (execVinLow s) = .next q1 → q1.flash.cells = s.flash.cells := by
  rintro q1 ⟨⟩; simp
theorem execVbatLow_flashCells (s : State) : ∀ q1, (execVbatLow s) = .next q1 → q1.flash.cells = s.flash.cells := by
  rintro q1 ⟨⟩; simp

/-! LifeCycle. -/

@[simp] theorem State.lcRefuse_flashCells (s : State) (jtag : Bool) (code : Nat) : (State.lcRefuse s jtag code).flash.cells = s.flash.cells := by simp [State.lcRefuse]
@[simp] theorem State.lcPresent_flashCells (s : State) (jtag : Bool) (bytes : List Byte) : (State.lcPresent s jtag bytes).flash.cells = s.flash.cells := by simp [State.lcPresent]
@[simp] theorem State.lcGo_flashCells (s : State) : (State.lcGo s).flash.cells = s.flash.cells := by simp [State.lcGo]
@[simp] theorem State.lcClear_flashCells (s : State) : (State.lcClear s).flash.cells = s.flash.cells := by simp [State.lcClear]
@[simp] theorem State.reqctlWrite_flashCells (s : State) (v : Word) : (State.reqctlWrite s v).flash.cells = s.flash.cells := by simp [State.reqctlWrite]
@[simp] theorem State.reqbufWrite_flashCells (s : State) (i : Nat) (v : Word) : (State.reqbufWrite s i v).flash.cells = s.flash.cells := by simp [State.reqbufWrite]
@[simp] theorem State.lcJtagToken_flashCells (s : State) : (State.lcJtagToken s).flash.cells = s.flash.cells := by unfold State.lcJtagToken; (repeat' split) <;> simp
@[simp] theorem State.zeroise_flashCells (s : State) (cause : Nat) : (State.zeroise s cause).flash.cells = s.flash.cells := by simp [State.zeroise]
@[simp] theorem State.burnBegins_flashCells (s : State) (r : LcReq) : (State.burnBegins s r).flash.cells = s.flash.cells := by simp [State.burnBegins]
@[simp] theorem State.lcVerified_flashCells (s : State) (r : LcReq) (vinOk : Bool) : (State.lcVerified s r vinOk).flash.cells = s.flash.cells := by unfold State.lcVerified; (repeat' split) <;> simp
@[simp] theorem State.loadBbr_flashCells (s : State) (k : Nat) : (State.loadBbr s k).flash.cells = s.flash.cells := by simp [State.loadBbr]
@[simp] theorem State.loadFuseKey_flashCells (s : State) : (State.loadFuseKey s).flash.cells = s.flash.cells := by simp [State.loadFuseKey]
@[simp] theorem State.lcPendingState_flashCells (s : State) (next : Nat) : (State.lcPendingState s next).flash.cells = s.flash.cells := by simp [State.lcPendingState]
@[simp] theorem State.lcDone_flashCells (s : State) (jtag : Bool) : (State.lcDone s jtag).flash.cells = s.flash.cells := by simp [State.lcDone]
@[simp] theorem State.lcAction_flashCells (s : State) (r : LcReq) : (State.lcAction s r).flash.cells = s.flash.cells := by unfold State.lcAction; (repeat' split) <;> simp
@[simp] theorem State.lcBurnt_flashCells (s : State) (r : LcReq) (fs : List FuseRef) (failed : Option Nat) : (State.lcBurnt s r fs failed).flash.cells = s.flash.cells := by unfold State.lcBurnt; (repeat' split) <;> simp
theorem execLcTransition_flashCells (ag : Agent) (s : State) : ∀ q1, (execLcTransition ag s) = .next q1 → q1.flash.cells = s.flash.cells := by
  rintro q1 ⟨⟩; simp
theorem execLcSetOwner_flashCells (ag : Agent) (s : State) : ∀ q1, (execLcSetOwner ag s) = .next q1 → q1.flash.cells = s.flash.cells := by
  rintro q1 ⟨⟩; simp
theorem execLcSetKeyFuse_flashCells (ag : Agent) (s : State) : ∀ q1, (execLcSetKeyFuse ag s) = .next q1 → q1.flash.cells = s.flash.cells := by
  rintro q1 ⟨⟩; simp
theorem execLcLoadKeyBbr_flashCells (ag : Agent) (s : State) : ∀ q1, (execLcLoadKeyBbr ag s) = .next q1 → q1.flash.cells = s.flash.cells := by
  rintro q1 ⟨⟩; simp
theorem execLcClearKeyBbr_flashCells (ag : Agent) (s : State) : ∀ q1, (execLcClearKeyBbr ag s) = .next q1 → q1.flash.cells = s.flash.cells := by
  rintro q1 ⟨⟩; simp
theorem execLcDebugToken_flashCells (ag : Agent) (jtag : Bool) (s : State) : ∀ q1, (execLcDebugToken ag jtag s) = .next q1 → q1.flash.cells = s.flash.cells := by
  rintro q1 ⟨⟩; simp
theorem execLcReqbufClear_flashCells (ag : Agent) (s : State) : ∀ q1, (execLcReqbufClear ag s) = .next q1 → q1.flash.cells = s.flash.cells := by
  rintro q1 ⟨⟩; simp
theorem execLcRequestVerified_flashCells (vinOk : Bool) (s : State) : ∀ q1, (execLcRequestVerified vinOk s) = .next q1 → q1.flash.cells = s.flash.cells := by
  rintro q1 ⟨⟩; (repeat' split) <;> simp
theorem execLcBurnDone_flashCells (failed : Option Nat) (s : State) : ∀ q1, (execLcBurnDone failed s) = .next q1 → q1.flash.cells = s.flash.cells := by
  rintro q1 ⟨⟩; (repeat' split) <;> simp
theorem execTamperEvent_flashCells (cause : Fin 3) (s : State) : ∀ q1, (execTamperEvent cause s) = .next q1 → q1.flash.cells = s.flash.cells := by
  rintro q1 ⟨⟩; simp
@[simp] theorem State.tamperWrite_flashCells (s : State) (v : Word) : (State.tamperWrite s v).flash.cells = s.flash.cells := by simp [State.tamperWrite]
theorem execZeroiseWrite_flashCells (ag : Agent) (v : Word) (s : State) : ∀ q1, (execZeroiseWrite ag v s) = .next q1 → q1.flash.cells = s.flash.cells := by
  rintro q1 ⟨⟩; simp
@[simp] theorem State.debugWrite_flashCells (s : State) (v : Word) : (State.debugWrite s v).flash.cells = s.flash.cells := by simp [State.debugWrite]
theorem execDebugClose_flashCells (ag : Agent) (s : State) : ∀ q1, (execDebugClose ag s) = .next q1 → q1.flash.cells = s.flash.cells := by
  rintro q1 ⟨⟩; simp
@[simp] theorem State.tapInstr_flashCells (s : State) (code : Nat) : (State.tapInstr s code).flash.cells = s.flash.cells := by simp [State.tapInstr]
@[simp] theorem State.tapCapture_flashCells (s : State) (code : Nat) (w : Word) : (State.tapCapture s code w).flash.cells = s.flash.cells := by simp [State.tapCapture]
theorem execJtagTapReset_flashCells (s : State) : ∀ q1, (execJtagTapReset s) = .next q1 → q1.flash.cells = s.flash.cells := by
  rintro q1 ⟨⟩; simp
theorem execJtagLcTokenUpdate_flashCells (shifts : Nat) (bytes : List Byte) (s : State) : ∀ q1, (execJtagLcTokenUpdate shifts bytes s) = .next q1 → q1.flash.cells = s.flash.cells := by
  rintro q1 ⟨⟩; simp
theorem execJtagExtest_flashCells (s : State) : ∀ q1, (execJtagExtest s) = .next q1 → q1.flash.cells = s.flash.cells := by
  rintro q1 ⟨⟩; simp
theorem execJtagClamp_flashCells (s : State) : ∀ q1, (execJtagClamp s) = .next q1 → q1.flash.cells = s.flash.cells := by
  rintro q1 ⟨⟩; simp
theorem execJtagHighz_flashCells (s : State) : ∀ q1, (execJtagHighz s) = .next q1 → q1.flash.cells = s.flash.cells := by
  rintro q1 ⟨⟩; simp
theorem execJtagIdcode_flashCells (s : State) : ∀ q1, (execJtagIdcode s) = .next q1 → q1.flash.cells = s.flash.cells := by
  rintro q1 ⟨⟩; simp
theorem execJtagSamplePreload_flashCells (s : State) : ∀ q1, (execJtagSamplePreload s) = .next q1 → q1.flash.cells = s.flash.cells := by
  rintro q1 ⟨⟩; simp
theorem execJtagLcToken_flashCells (s : State) : ∀ q1, (execJtagLcToken s) = .next q1 → q1.flash.cells = s.flash.cells := by
  rintro q1 ⟨⟩; simp
theorem execJtagLcStatus_flashCells (s : State) : ∀ q1, (execJtagLcStatus s) = .next q1 → q1.flash.cells = s.flash.cells := by
  rintro q1 ⟨⟩; simp
theorem execJtagDmi_flashCells (s : State) : ∀ q1, (execJtagDmi s) = .next q1 → q1.flash.cells = s.flash.cells := by
  rintro q1 ⟨⟩; simp
theorem execJtagGrenricTest_flashCells (code : Fin 16) (s : State) : ∀ q1, (execJtagGrenricTest code s) = .next q1 → q1.flash.cells = s.flash.cells := by
  rintro q1 ⟨⟩; simp
theorem execJtagBypass_flashCells (s : State) : ∀ q1, (execJtagBypass s) = .next q1 → q1.flash.cells = s.flash.cells := by
  rintro q1 ⟨⟩; simp

/-! Gates. -/

@[simp] theorem State.gateRequest_flashCells (s : State) (ag : Agent) (i : Nat) : (State.gateRequest s ag i).flash.cells = s.flash.cells := by simp [State.gateRequest]
@[simp] theorem State.gateApply_flashCells (s : State) (i : Nat) : (State.gateApply s i).flash.cells = s.flash.cells := by simp [State.gateApply]
@[simp] theorem State.gateRefuse_flashCells (s : State) (i : Nat) : (State.gateRefuse s i).flash.cells = s.flash.cells := by simp [State.gateRefuse]
@[simp] theorem State.gateOpens_flashCells (s : State) (i : Nat) : (State.gateOpens s i).flash.cells = s.flash.cells := by simp [State.gateOpens]
@[simp] theorem State.hgreqWrite_flashCells (s : State) (ag : Agent) (j : Nat) (v : Word) : (State.hgreqWrite s ag j v).flash.cells = s.flash.cells := by simp [State.hgreqWrite]
theorem execHardBlockGateRequest_flashCells (ag : Agent) (blk : Fin 64) (s : State) : ∀ q1, (execHardBlockGateRequest ag blk s) = .next q1 → q1.flash.cells = s.flash.cells := by
  rintro q1 ⟨⟩; simp
theorem execHardBlockGateApply_flashCells (blk : Fin 64) (s : State) : ∀ q1, (execHardBlockGateApply blk s) = .next q1 → q1.flash.cells = s.flash.cells := by
  rintro q1 ⟨⟩; simp
theorem execHardBlockGateRefused_flashCells (blk : Fin 64) (s : State) : ∀ q1, (execHardBlockGateRefused blk s) = .next q1 → q1.flash.cells = s.flash.cells := by
  rintro q1 ⟨⟩; simp
theorem execHardBlockGateOpen_flashCells (ag : Agent) (blk : Fin 64) (s : State) : ∀ q1, (execHardBlockGateOpen ag blk s) = .next q1 → q1.flash.cells = s.flash.cells := by
  rintro q1 ⟨⟩; simp

/-! Boundary. -/

@[simp] theorem State.mbWrite_flashCells (s : State) (i : Nat) (v : Word) : (State.mbWrite s i v).flash.cells = s.flash.cells := by simp [State.mbWrite]
theorem execMbFire_flashCells (ag : Agent) (i : Fin 8) (ctl : Word) (s : State) : ∀ q1, (execMbFire ag i ctl s) = .next q1 → q1.flash.cells = s.flash.cells := by
  rintro q1 ⟨⟩; simp
@[simp] theorem State.clockApply_flashCells (s : State) (vals : List (Nat × Word)) : (State.clockApply s vals).flash.cells = s.flash.cells := by simp [State.clockApply]
@[simp] theorem State.latch_flashCells (s : State) (src : Nat) (x : Instant) : (State.latch s src x).flash.cells = s.flash.cells := by simp [State.latch]
theorem execBoundaryLatch_flashCells (src : Fin 64) (s : State) : ∀ q1, (execBoundaryLatch src s) = .next q1 → q1.flash.cells = s.flash.cells := by
  rintro q1 ⟨⟩; (repeat' split) <;> simp
@[simp] theorem State.rwbApply_flashCells (s : State) (x : Instant) (vals : List (Nat × Word)) : (State.rwbApply s x vals).flash.cells = s.flash.cells := by
  unfold State.rwbApply
  dsimp only
  rw [foldl_flashCells _ (fun t n => State.laneCfgApply_flashCells t n vals),
    foldl_flashCells _ (fun t q => State.qpllApply_flashCells t q vals), State.fbrsApply_flashCells,
    foldl_flashCells _ (fun t g => State.genApply_flashCells t g x vals), foldl_flashCells, foldl_flashCells]
  · intro t b; split <;> simp
  · intro t i; split <;> simp
@[simp] theorem State.genEvent_flashCells (s : State) (g : Nat) (x : Instant) (kept : Bool) : (State.genEvent s g x kept).flash.cells = s.flash.cells := by unfold State.genEvent; dsimp only; repeat' first | (simp; done) | split
@[simp] theorem State.instantOver_flashCells (s : State) (src : Nat) (x : Instant) (kept : Bool) : (State.instantOver s src x kept).flash.cells = s.flash.cells := by unfold State.instantOver; (repeat' split) <;> simp
@[simp] theorem State.tapsOf_flashCells (s : State) (src : Nat) (x : Instant) : (State.tapsOf s src x).flash.cells = s.flash.cells := by simp [State.tapsOf]
@[simp] theorem State.eventLines_flashCells (s : State) (src : Nat) : (State.eventLines s src).flash.cells = s.flash.cells := by simp [State.eventLines]
@[simp] theorem State.delivery_flashCells (s : State) (a : Announced) : (State.delivery s a).flash.cells = s.flash.cells := by simp [State.delivery]
theorem execBoundaryDelivery_flashCells (src : Fin 64) (s : State) : ∀ q1, (execBoundaryDelivery src s) = .next q1 → q1.flash.cells = s.flash.cells := by
  rintro q1 ⟨⟩; (repeat' split) <;> simp

/-! Pins. -/

@[simp] theorem State.setPad_flashCells (s : State) (n : Nat) (p : PadSt) : (State.setPad s n p).flash.cells = s.flash.cells := by simp [State.setPad]
@[simp] theorem State.padEdge_flashCells (s : State) (k net i : Nat) (pins : PadPins) : (State.padEdge s k net i pins).flash.cells = s.flash.cells := by simp [State.padEdge]
@[simp] theorem State.padsEdge_flashCells (s : State) (k net : Nat) (p : EdgePins) : (State.padsEdge s k net p).flash.cells = s.flash.cells := by simp [State.padsEdge]

/-! Manager. -/

@[simp] theorem State.rqGo_flashCells (s : State) (n : Nat) : (State.rqGo s n).flash.cells = s.flash.cells := by simp [State.rqGo]
@[simp] theorem State.rqCtlWrite_flashCells (s : State) (n : Nat) (v : Word) : (State.rqCtlWrite s n v).flash.cells = s.flash.cells := by simp [State.rqCtlWrite]
@[simp] theorem State.lcWrite_flashCells (s : State) (off : Nat) (v : Word) : (State.lcWrite s off v).flash.cells = s.flash.cells := by simp [State.lcWrite]
@[simp] theorem State.mailWrite_flashCells (s : State) (ag : Agent) (m o : Nat) (v : Word) : (State.mailWrite s ag m o v).flash.cells = s.flash.cells := by simp [State.mailWrite]
@[simp] theorem State.evtWrite_flashCells (s : State) (off : Nat) (v : Word) : (State.evtWrite s off v).flash.cells = s.flash.cells := by simp [State.evtWrite]
@[simp] theorem State.pwrWrite_flashCells (s : State) (off : Nat) (v : Word) : (State.pwrWrite s off v).flash.cells = s.flash.cells := by simp [State.pwrWrite]
@[simp] theorem State.sndWrite_flashCells (s : State) (off : Nat) (v : Word) : (State.sndWrite s off v).flash.cells = s.flash.cells := by simp [State.sndWrite]
@[simp] theorem State.timeWrite_flashCells (s : State) (ag : Agent) (off : Nat) (v : Word) : (State.timeWrite s ag off v).flash.cells = s.flash.cells := by simp [State.timeWrite]
@[simp] theorem State.measured_flashCells (s : State) (off : Nat) : (State.measured s off).2.flash.cells = s.flash.cells := by simp [State.measured]

/-! Access. -/

@[simp] theorem State.sramStore_flashCells (s : State) (a : Nat) (x0 : List Byte) : (State.sramStore s a x0).flash.cells = s.flash.cells := by
  induction x0 generalizing s a with
  | nil => simp [State.sramStore]
  | cons a l ih => simp [State.sramStore, ih]
@[simp] theorem State.flashReads_flashCells (s : State) (ag : Agent) (off : Nat) (x0 : Nat) : (State.flashReads s ag off x0).2.flash.cells = s.flash.cells := by
  induction x0 generalizing s ag off with
  | zero => rfl
  | succ n ih =>
    have e := State.flashRead_flashCells s ag off
    unfold State.flashReads
    split <;> (rename_i hr; rw [hr] at e; dsimp only at e ⊢; simp [ih, e])
@[simp] theorem State.flashWrites_flashCells (s : State) (ag : Agent) (off : Nat) (x0 : List Word) : (State.flashWrites s ag off x0).flash.cells = s.flash.cells := by
  induction x0 generalizing s ag off with
  | nil => simp [State.flashWrites]
  | cons a l ih => simp [State.flashWrites, ih]
theorem State.windowPlace_flashCells (s : State) (origin : Nat → GwOrigin) (data : Option (List Byte)) (o0 : Nat) (x0 : List ((Nat × Nat) × Nat)) : ∀ q1, (State.windowPlace s origin data o0 x0) = some q1 → q1.flash.cells = s.flash.cells := by
  induction x0 generalizing s with
  | nil => intro q1 h; cases h; rfl
  | cons a l ih =>
    intro q1 h
    unfold State.windowPlace at h
    split at h
    · cases h
    · split at h
      · cases h
      · rename_i hg
        rw [ih _ _ h]
        exact State.gwAccess_flashCells _ _ _ _ hg
theorem State.windowAccess_flashCells (s : State) (origin : Nat → GwOrigin) (o n : Nat) (data : Option (List Byte)) : ∀ q1, (State.windowAccess s origin o n data) = some q1 → q1.flash.cells = s.flash.cells := by
  intro q1 h
  exact State.windowPlace_flashCells _ _ _ _ _ _ h
@[simp] theorem State.inboundEnd_flashCells (s : State) (b : WaleBlock) (status : Nat) (ws : List Word) : (State.inboundEnd s b status ws).flash.cells = s.flash.cells := by simp [State.inboundEnd]
@[simp] theorem State.inboundSram_flashCells (s : State) (b : WaleBlock) (o mem : Nat) : (State.inboundSram s b o mem).flash.cells = s.flash.cells := by simp [State.inboundSram]
theorem State.inboundHamper_flashCells (s : State) (b : WaleBlock) (o mem : Nat) : ∀ q1, (State.inboundHamper s b o mem) = some q1 → q1.flash.cells = s.flash.cells := by
  intro q1 h
  simp only [State.inboundHamper] at h
  (repeat' split at h) <;> simp_all <;> (try (subst h; simp))
theorem State.inboundWindow_flashCells (s : State) (b : WaleBlock) (o : Nat) : ∀ q1, (State.inboundWindow s b o) = some q1 → q1.flash.cells = s.flash.cells := by
  intro q1 h
  unfold State.inboundWindow at h
  split at h
  · rw [Option.map_eq_some_iff] at h
    obtain ⟨t, ht, rfl⟩ := h
    rw [State.inboundEnd_flashCells]
    exact State.windowAccess_flashCells _ _ _ _ _ _ ht
  · exact State.windowAccess_flashCells _ _ _ _ _ _ h
theorem State.answerNext_flashCells (s : State) : ∀ q1, (State.answerNext s) = some q1 → q1.flash.cells = s.flash.cells := by
  intro q1 h
  simp only [State.answerNext] at h
  (repeat' split at h) <;> simp_all <;> (try (subst h; simp))
@[simp] theorem State.masterAway_flashCells (s : State) (p : Nat) (r : MasterReq) : (State.masterAway s p r).flash.cells = s.flash.cells := by simp [State.masterAway]
@[simp] theorem State.gwRespond_flashCells (s : State) (p tag : Nat) : (State.gwRespond s p tag).flash.cells = s.flash.cells := by simp [State.gwRespond]
theorem execGwMasterDone_flashCells (port : Fin 4) (tag : Fin 32) (s : State) : ∀ q1, (execGwMasterDone port tag s) = .next q1 → q1.flash.cells = s.flash.cells := by
  rintro q1 ⟨⟩; (repeat' split) <;> simp
@[simp] theorem State.busError_flashCells (s : State) (c : Fin 4) : (State.busError s c).flash.cells = s.flash.cells := by simp [State.busError]
@[simp] theorem State.loaded_flashCells (s : State) (c : Fin 4) (o n : Nat) (ws : List Word) : (State.loaded s c o n ws).flash.cells = s.flash.cells := by simp [State.loaded]
@[simp] theorem State.busSram_flashCells (s : State) (c : Fin 4) (a : BusAccess) (o : Nat) : (State.busSram s c a o).flash.cells = s.flash.cells := by simp [State.busSram]
@[simp] theorem State.busFlash_flashCells (s : State) (c : Fin 4) (a : BusAccess) (o : Nat) : (State.busFlash s c a o).flash.cells = s.flash.cells := by
  have e := State.flashReads_flashCells s (.core c) (coverOf o a.size).1 (coverOf o a.size).2
  unfold State.busFlash
  dsimp only
  split
  · split
    · simp
    · split
      · simp
      · split <;> simp
  · split
    · rename_i hr
      rw [hr] at e
      simpa using e
    · rfl
theorem State.busHamper_flashCells (s : State) (c : Fin 4) (a : BusAccess) (o : Nat) : ∀ q1, (State.busHamper s c a o) = some q1 → q1.flash.cells = s.flash.cells := by
  intro q1 h
  simp only [State.busHamper] at h
  (repeat' split at h) <;> simp_all <;> (try (subst h; simp))
theorem State.busWindow_flashCells (s : State) (c : Fin 4) (a : BusAccess) (o : Nat) : ∀ q1, (State.busWindow s c a o) = some q1 → q1.flash.cells = s.flash.cells := by
  intro q1 h
  exact State.windowAccess_flashCells _ _ _ _ _ _ h
@[simp] theorem State.wdStore_flashCells (s : State) (o : Nat) (v : Word) : (State.wdStore s o v).flash.cells = s.flash.cells := by simp [State.wdStore]
@[simp] theorem State.busWatchdog_flashCells (s : State) (c : Fin 4) (a : BusAccess) (o : Nat) : (State.busWatchdog s c a o).flash.cells = s.flash.cells := by
  have each : ∀ (l : List (Word × Nat)) (u : State), (l.foldl (fun t e => t.wdStore (o + 4 * e.2) e.1) u).flash.cells = u.flash.cells := by
    intro l
    induction l with
    | nil => intro u; rfl
    | cons a l ih => intro u; rw [List.foldl_cons, ih, State.wdStore_flashCells]
  unfold State.busWatchdog
  dsimp only
  split
  · rw [each]
  · rw [State.loaded_flashCells]

/-! Weave. -/

@[simp] theorem State.asyncStep_flashCells (s : State) (levels : List (Nat × Bool)) : (State.asyncStep s levels).flash.cells = s.flash.cells := by simp [State.asyncStep]
@[simp] theorem State.asyncSettle_flashCells (levels : List (Nat × Bool)) (n : Nat) (s : State) : (State.asyncSettle levels n s).flash.cells = s.flash.cells := by
  induction n generalizing s with
  | zero => rfl
  | succ n ih =>
    unfold State.asyncSettle
    dsimp only
    split
    · rfl
    · rw [ih, State.asyncStep_flashCells]

/-! Edge. -/

@[simp] theorem State.bportEdge_flashCells (s : State) (k net : Nat) : (State.bportEdge s k net).flash.cells = s.flash.cells := by unfold State.bportEdge; (repeat' split) <;> simp
@[simp] theorem State.bportsEdge_flashCells (s : State) (bay net : Nat) : (State.bportsEdge s bay net).flash.cells = s.flash.cells := by simp [State.bportsEdge]
@[simp] theorem State.setHigh_flashCells (s : State) (bay net : Nat) (high : Bool) : (State.setHigh s bay net high).flash.cells = s.flash.cells := by simp [State.setHigh]
@[simp] theorem State.fabricEdge_flashCells (s : State) (bay net : Nat) (rising : Bool) (p : EdgePins) : (State.fabricEdge s bay net rising p).flash.cells = s.flash.cells := by simp [State.fabricEdge]

/-! Ops. -/

theorem foldl_flashCanonical {α : Type} (f : State → α → State) (l : List α) (s : State)
    (hf : ∀ t a, CellsWf t.flash.cells → CellsWf (f t a).flash.cells) (h : CellsWf s.flash.cells) :
    CellsWf (l.foldl f s).flash.cells := by
  induction l generalizing s with
  | nil => exact h
  | cons a l ih => exact ih _ (hf _ _ h)
@[simp] theorem State.withFlash_flash (s : State) (f : FlashState) : (s.withFlash f).flash = f := rfl
theorem FlashState.putWord_flashCanonical (f : FlashState) (a : Nat) (w : BitVec 64) (h : CellsWf f.cells) :
    CellsWf (f.putWord a w).cells := Sys2Proof.Laws.wf_setList h _ _
theorem FlashState.spoilSector_flashCanonical (f : FlashState) (k t : Nat) (h : CellsWf f.cells) :
    CellsWf (f.spoilSector k t).cells := Sys2Proof.Laws.wf_clearRange h _ _
theorem FlashState.spoilWord_flashCanonical (f : FlashState) (a t : Nat) (h : CellsWf f.cells) :
    CellsWf (f.spoilWord a t).cells := Sys2Proof.Laws.wf_clearRange h _ _
theorem FlashState.program_flashCanonical (f : FlashState) (a t : Nat) (w : BitVec 64) (h : CellsWf f.cells) :
    CellsWf (f.program a t w).cells := by
  unfold FlashState.program
  dsimp only
  split
  · exact h
  · split
    · exact FlashState.putWord_flashCanonical _ _ _ h
    · exact FlashState.spoilWord_flashCanonical _ _ _ (FlashState.putWord_flashCanonical _ _ _ h)
theorem FlashState.eraseSector_flashCanonical (f : FlashState) (k : Nat) (h : CellsWf f.cells) :
    CellsWf (f.eraseSector k).cells := Sys2Proof.Laws.wf_clearRange h _ _
theorem foldl_flash_canon {α : Type} (f : FlashState → α → FlashState) (hf : ∀ g a, CellsWf g.cells → CellsWf (f g a).cells)
    (l : List α) (g : FlashState) (h : CellsWf g.cells) : CellsWf (l.foldl f g).cells := by
  induction l generalizing g with
  | nil => exact h
  | cons a l ih => exact ih _ (hf _ _ h)
theorem foldl_flash_pair {α : Type} (f : FlashState × Nat → α → FlashState × Nat)
    (hf : ∀ g a, CellsWf g.1.cells → CellsWf (f g a).1.cells)
    (l : List α) (g : FlashState × Nat) (h : CellsWf g.1.cells) : CellsWf (l.foldl f g).1.cells := by
  induction l generalizing g with
  | nil => exact h
  | cons a l ih => exact ih _ (hf _ _ h)
theorem FlashState.putRecord_flashCanonical (f : FlashState) (h i token r : Nat) (hc : CellsWf f.cells) :
    CellsWf (f.putRecord h i token r).cells := by
  unfold FlashState.putRecord
  exact FlashState.program_flashCanonical _ _ _ _ (FlashState.program_flashCanonical _ _ _ _
    (FlashState.program_flashCanonical _ _ _ _ (FlashState.program_flashCanonical _ _ _ _ hc)))
theorem spoilPair_canon (token : Nat) (l : List (BitVec 64)) (g : FlashState × Nat) (h : CellsWf g.1.cells) :
    CellsWf (l.foldl (fun (p : FlashState × Nat) w =>
      (if w = BitVec.allOnes 64 then p.1 else p.1.spoilWord p.2 token, p.2 + 8)) g).1.cells := by
  apply foldl_flash_pair _ _ _ _ h
  intro g a hg
  dsimp only
  split
  · exact hg
  · exact FlashState.spoilWord_flashCanonical _ _ _ hg
theorem programPair_canon (token : Nat) (l : List (BitVec 64)) (g : FlashState × Nat) (h : CellsWf g.1.cells) :
    CellsWf (l.foldl (fun (p : FlashState × Nat) w => (p.1.program p.2 token w, p.2 + 8)) g).1.cells := by
  apply foldl_flash_pair _ _ _ _ h
  intro g a hg
  exact FlashState.program_flashCanonical _ _ _ _ hg
/-- The same of a flash state. -/
def FlashWf (f : FlashState) : Prop := CellsWf f.cells
theorem FlashState.program_wf (f : FlashState) (a token : Nat) (w : BitVec 64) (h : FlashWf f) : FlashWf (f.program a token w) :=
  FlashState.program_flashCanonical _ _ _ _ h
theorem FlashState.eraseSector_wf (f : FlashState) (k : Nat) (h : FlashWf f) : FlashWf (f.eraseSector k) :=
  FlashState.eraseSector_flashCanonical _ _ h
theorem foldl_flash_wf {α : Type} (f : FlashState → α → FlashState) (hf : ∀ g a, FlashWf g → FlashWf (f g a))
    (l : List α) (g : FlashState) (h : FlashWf g) : FlashWf (l.foldl f g) := by
  induction l generalizing g with
  | nil => exact h
  | cons a l ih => exact ih _ (hf _ _ h)
theorem FlashState.summarise_wf (f : FlashState) (h token : Nat) (l : List Nat) (hc : FlashWf f) :
    FlashWf (f.summarise h token l) := by
  unfold FlashState.summarise
  refine foldl_flash_wf _ ?_ l f hc
  intro g i hg
  exact FlashState.program_wf _ _ _ _ hg
theorem FlashState.logFrom_wf (f : FlashState) (n : Nat) (h : FlashWf f) : FlashWf (f.logFrom n) := h
theorem FlashState.compacted_wf (f : FlashState) (h seq token : Nat) (hc : FlashWf f) :
    FlashWf (f.compacted h seq token) := by
  unfold FlashState.compacted
  exact FlashState.logFrom_wf _ _ (FlashState.program_wf _ _ _ _ (FlashState.summarise_wf _ _ _ _
    (FlashState.eraseSector_wf _ _ hc)))
theorem State.withFlash_wf (s : State) (f : FlashState) (h : FlashWf f) : CellsWf (s.withFlash f).flash.cells := h
theorem FlashWf.cells {f : FlashState} (h : FlashWf f) : CellsWf f.cells := h
theorem State.flash_wf (s : State) (h : CellsWf s.flash.cells) : FlashWf s.flash := h
theorem FlashState.setEntry_wf (f : FlashState) (k : Nat) (e : SecEntry) (h : FlashWf f) : FlashWf (f.setEntry k e) := h
theorem FlashState.spoilSector_wf (f : FlashState) (k t : Nat) (h : FlashWf f) : FlashWf (f.spoilSector k t) :=
  FlashState.spoilSector_flashCanonical _ _ _ h
theorem State.withOp_wf (s : State) (o : Option FlashOp) (h : CellsWf s.flash.cells) :
    CellsWf ({ s with flash := { s.flash with op := o } } : State).flash.cells := h
theorem State.setBit_wf (s : State) (off i : Nat) (b : Bool) (h : CellsWf s.flash.cells) :
    CellsWf (s.setBit off i b).flash.cells := h
theorem State.opStage_wf (s : State) (op : FlashOp) (st : FlashStage) (h : CellsWf s.flash.cells) :
    CellsWf (s.opStage op st).flash.cells := h
theorem ite_flashCanonical (c : Prop) [Decidable c] (a b : State) (ha : CellsWf a.flash.cells) (hb : CellsWf b.flash.cells) :
    CellsWf (if c then a else b).flash.cells := by
  by_cases hc : c
  · rw [if_pos hc]; exact ha
  · rw [if_neg hc]; exact hb
theorem keep_flashCanonical (s t : State) (h : CellsWf s.flash.cells) (e : t.flash.cells = s.flash.cells) : CellsWf t.flash.cells := by
  rw [e]; exact h

theorem State.guarded_flashCanonical  (s : State) (ag : Agent) (n off : Nat) (t : State) (h : CellsWf s.flash.cells) (ht : CellsWf t.flash.cells) :
    CellsWf (s.guarded ag n off t).flash.cells := by
  unfold State.guarded
  split
  · exact ht
  · simpa using h
theorem State.rws_flashCanonical  (s : State) (ag : Agent) (off : Nat) (t : State) (h : CellsWf s.flash.cells) (ht : CellsWf t.flash.cells) :
    CellsWf (s.rws ag off t).flash.cells := by
  unfold State.rws
  split
  · split
    · exact State.guarded_flashCanonical _ _ _ _ _ h ht
    · exact ht
  · exact ht

/-! FlashDie. -/

theorem State.logProgram_flashCanonical  (s : State) (w : BitVec 64) (h : CellsWf s.flash.cells) : CellsWf (State.logProgram s w).flash.cells := by
  unfold State.logProgram
  dsimp only
  rw [State.setFld_flashCells]
  exact FlashState.program_flashCanonical _ _ _ _ h
theorem State.logSpoil_flashCanonical  (s : State) (h : CellsWf s.flash.cells) : CellsWf (State.logSpoil s).flash.cells := by
  unfold State.logSpoil
  dsimp only
  rw [State.setFld_flashCells]
  exact FlashState.spoilWord_flashCanonical s.flash _ s.freeCtr h
theorem State.compact_flashCanonical  (s : State) (h : CellsWf s.flash.cells) : CellsWf (State.compact s).flash.cells := by
  rw [State.compact, State.setBit_flashCells, State.wr_flashCells]
  exact State.withFlash_wf _ _ (FlashState.compacted_wf s.flash _ _ _ h)

/-! Journal. -/

theorem State.journalPut_flashCanonical  (s : State) (r : Nat) (h : CellsWf s.flash.cells) : ∀ q1, (State.journalPut s r) = some q1 → CellsWf q1.flash.cells := by
  intro q1 hq
  unfold State.journalPut at hq
  split at hq
  · cases hq
    split
    · rw [State.flashRefuse_flashCells]; exact h
    · exact FlashState.putRecord_flashCanonical _ _ _ _ _ h
  · cases hq
theorem State.journalWriteAll_flashCanonical  (s : State) (x0 : List Nat) (h : CellsWf s.flash.cells) : CellsWf (State.journalWriteAll s x0).flash.cells := by
  induction x0 generalizing s with
  | nil => exact h
  | cons r rs ih =>
    unfold State.journalWriteAll
    split
    · rename_i hq
      exact ih _ (State.journalPut_flashCanonical _ _ h _ hq)
    · exact h
theorem State.journalFlush_flashCanonical  (s : State) (h : CellsWf s.flash.cells) : CellsWf (State.journalFlush s).flash.cells := by
  unfold State.journalFlush
  repeat' first | assumption | (with_reducible apply State.journalWriteAll_flashCanonical) | (with_reducible apply foldl_flashCanonical; intros) | split | simp
theorem State.journal_flashCanonical  (s : State) (step outcome code src addr arg : Nat) (h : CellsWf s.flash.cells) : CellsWf (State.journal s step outcome code src addr arg).flash.cells := by
  unfold State.journal
  repeat' first | assumption | (with_reducible apply State.journalFlush_flashCanonical) | (with_reducible apply foldl_flashCanonical; intros) | split | simp

/-! Flash. -/

theorem State.flashEnd_flashCanonical  (s : State) (h : CellsWf s.flash.cells) : CellsWf (State.flashEnd s).flash.cells := by
  unfold State.flashEnd
  repeat' first | assumption | (with_reducible apply State.journalFlush_flashCanonical) | (with_reducible apply foldl_flashCanonical; intros) | split | simp
theorem State.badEntry_flashCanonical  (s : State) (op : FlashOp) (e : SecEntry) (h : CellsWf s.flash.cells) : CellsWf (State.badEntry s op e).flash.cells := by
  unfold State.badEntry
  dsimp only
  simp only [State.raise_flashCells, State.halfReport_flashCells]
  apply State.flashEnd_flashCanonical
  rw [State.lastOp_flashCells, State.setBit_flashCells]
  exact State.withFlash_wf _ _ (FlashState.spoilSector_wf _ _ _ (FlashState.setEntry_wf _ _ _ (State.flash_wf _ h)))
theorem State.markBad_flashCanonical  (s : State) (op : FlashOp) (h : CellsWf s.flash.cells) : CellsWf (State.markBad s op).flash.cells := by
  rw [State.markBad]
  exact State.badEntry_flashCanonical _ _ _ (State.logProgram_flashCanonical s _ h)
theorem State.failOp_flashCanonical  (s : State) (op : FlashOp) (h : CellsWf s.flash.cells) : CellsWf (State.failOp s op).flash.cells := by
  unfold State.failOp
  repeat' first | assumption | (with_reducible apply State.markBad_flashCanonical) | (with_reducible apply foldl_flashCanonical; intros) | split | simp
theorem State.flashAbandon_flashCanonical  (s : State) (h : CellsWf s.flash.cells) : CellsWf (State.flashAbandon s).flash.cells := by
  have sp : ∀ (g : FlashState) (k t : Nat), FlashWf g → FlashWf (g.spoilSector k t) := FlashState.spoilSector_wf
  have hs : FlashWf s.flash := h
  unfold State.flashAbandon
  split
  · exact h
  · rename_i op _
    dsimp only
    rw [State.halfReport_flashCells]
    apply State.flashEnd_flashCanonical
    apply ite_flashCanonical
    · rw [State.setFld_flashCells]
      apply State.withFlash_wf
      split
      · exact spoilPair_canon _ _ (s.flash, _) h
      · exact sp _ _ _ (FlashState.setEntry_wf _ _ _ hs)
      · exact sp _ _ _ hs
      · split
        · exact sp _ _ _ hs
        · exact sp _ _ _ (FlashState.setEntry_wf _ _ _ (sp _ _ _ hs))
      · split
        · exact FlashState.putWord_flashCanonical _ _ _ h
        · exact h
    · apply State.withFlash_wf
      split
      · exact spoilPair_canon _ _ (s.flash, _) h
      · exact sp _ _ _ (FlashState.setEntry_wf _ _ _ hs)
      · exact sp _ _ _ hs
      · split
        · exact sp _ _ _ hs
        · exact sp _ _ _ (FlashState.setEntry_wf _ _ _ (sp _ _ _ hs))
      · split
        · exact FlashState.putWord_flashCanonical _ _ _ h
        · exact h
theorem execFlashProgramDone_flashCanonical  (pulses : Nat) (pass : Bool) (s : State) (h : CellsWf s.flash.cells) : ∀ q1, (execFlashProgramDone pulses pass s) = .next q1 → CellsWf q1.flash.cells := by
  intro q1 hq
  unfold execFlashProgramDone at hq
  split at hq
  · split at hq
    · injection hq with hq; rw [← hq]; exact h
    split at hq
    · dsimp only at hq
      replace hq := Host.Outcome.next.inj hq
      rw [← hq, State.raise_flashCells, State.wearReport_flashCells, State.lastOp_flashCells]
      apply State.flashEnd_flashCanonical
      apply State.withFlash_wf
      exact programPair_canon _ _ (s.flash, _) h
    · dsimp only at hq
      replace hq := Host.Outcome.next.inj hq
      rw [← hq]
      apply State.failOp_flashCanonical
      rw [State.wearReport_flashCells]
      apply State.withFlash_wf
      exact spoilPair_canon _ _ (s.flash, _) h
  · injection hq with hq; rw [← hq]; exact h
theorem State.spoilLogs_flashCanonical  (s : State) (x0 : Nat) (h : CellsWf s.flash.cells) : CellsWf (State.spoilLogs s x0).flash.cells := by
  induction x0 generalizing s with
  | zero => unfold State.spoilLogs; repeat' first | assumption | (with_reducible apply State.logSpoil_flashCanonical) | (with_reducible apply foldl_flashCanonical; intros) | split | simp
  | succ n ih =>
    unfold State.spoilLogs
    repeat' first | assumption | (with_reducible apply State.logSpoil_flashCanonical) | (with_reducible apply ih) | split | simp
theorem State.ledgerFail_flashCanonical  (s : State) (h : CellsWf s.flash.cells) : CellsWf (State.ledgerFail s).flash.cells := by
  unfold State.ledgerFail
  repeat' first | assumption | (with_reducible apply State.flashEnd_flashCanonical) | (with_reducible apply foldl_flashCanonical; intros) | split | simp
theorem execFlashIntentRecorded_flashCanonical  (fails : Fin 9) (s : State) (h : CellsWf s.flash.cells) : ∀ q1, (execFlashIntentRecorded fails s) = .next q1 → CellsWf q1.flash.cells := by
  intro q1 hq
  unfold execFlashIntentRecorded at hq
  split at hq
  · split at hq
    · injection hq with hq; rw [← hq]; exact h
    dsimp only at hq
    split at hq
    · replace hq := Host.Outcome.next.inj hq
      rw [← hq]
      apply State.ledgerFail_flashCanonical
      exact State.spoilLogs_flashCanonical _ _ h
    split at hq
    · replace hq := Host.Outcome.next.inj hq
      rw [← hq]
      refine State.withOp_wf (State.logProgram _ _) _ ?_
      apply State.logProgram_flashCanonical
      exact State.spoilLogs_flashCanonical _ _ h
    · replace hq := Host.Outcome.next.inj hq
      rw [← hq]
      refine State.setBit_wf _ _ _ _ (State.withOp_wf (State.spoilLogs _ _) _ ?_)
      exact State.spoilLogs_flashCanonical _ _ h
  · injection hq with hq; rw [← hq]; exact h
theorem execFlashCompactionDone_flashCanonical  (s : State) (h : CellsWf s.flash.cells) : ∀ q1, (execFlashCompactionDone s) = .next q1 → CellsWf q1.flash.cells := by
  intro q1 hq
  unfold execFlashCompactionDone at hq
  split at hq
  · split at hq
    · injection hq with hq; rw [← hq]; exact h
    split at hq
    · replace hq := Host.Outcome.next.inj hq
      rw [← hq]; exact State.opStage_wf s.compact _ _ (State.compact_flashCanonical s h)
    · replace hq := Host.Outcome.next.inj hq
      rw [← hq]; exact State.markBad_flashCanonical _ _ (State.compact_flashCanonical s h)
    · injection hq with hq; rw [← hq]; exact h
  · injection hq with hq; rw [← hq]; exact h
theorem State.logComplete_flashCanonical  (s : State) (op : FlashOp) (pulses : Nat) (h : CellsWf s.flash.cells) : CellsWf (State.logComplete s op pulses).flash.cells := by
  exact FlashState.program_flashCanonical _ _ _ _ h
theorem execFlashEraseDone_flashCanonical  (pulses : Nat) (pass : Bool) (s : State) (h : CellsWf s.flash.cells) : ∀ q1, (execFlashEraseDone pulses pass s) = .next q1 → CellsWf q1.flash.cells := by
  intro q1 hq
  unfold execFlashEraseDone at hq
  split at hq
  · split at hq
    · injection hq with hq; rw [← hq]; exact h
    dsimp only at hq
    split at hq
    · replace hq := Host.Outcome.next.inj hq
      rw [← hq, State.raise_flashCells, State.wearReport_flashCells, State.lastOp_flashCells, State.halfReport_flashCells]
      apply State.flashEnd_flashCanonical
      exact FlashState.eraseSector_flashCanonical _ _ (State.logComplete_flashCanonical _ _ _ h)
    · replace hq := Host.Outcome.next.inj hq
      rw [← hq]
      apply State.failOp_flashCanonical
      rw [State.wearReport_flashCells]
      exact State.logComplete_flashCanonical _ _ _ h
  · injection hq with hq; rw [← hq]; exact h

/-! Modes. -/

theorem State.safeHold_flashCanonical  (s : State) (cause : Nat) (h : CellsWf s.flash.cells) : CellsWf (State.safeHold s cause).flash.cells := by
  unfold State.safeHold
  repeat' first | assumption | (with_reducible apply State.journal_flashCanonical) | (with_reducible apply State.idle_flashCanonical) | (with_reducible apply foldl_flashCanonical; intros) | split | simp
theorem State.prioDefer_flashCanonical  (s : State) (outcome : Nat) (h : CellsWf s.flash.cells) : CellsWf (State.prioDefer s outcome).flash.cells := by
  unfold State.prioDefer
  repeat' first | assumption | (with_reducible apply State.journal_flashCanonical) | (with_reducible apply foldl_flashCanonical; intros) | split | simp
theorem State.nextAttempt_flashCanonical  (s : State) (h : CellsWf s.flash.cells) : CellsWf (State.nextAttempt s).flash.cells := by
  unfold State.nextAttempt
  repeat' first | assumption | (with_reducible apply State.safeHold_flashCanonical) | (with_reducible apply foldl_flashCanonical; intros) | split | simp
theorem State.failAttempt_flashCanonical  (s : State) (code : Nat) (place : Word) (h : CellsWf s.flash.cells) : CellsWf (State.failAttempt s code place).flash.cells := by
  unfold State.failAttempt
  repeat' first | assumption | (with_reducible apply State.journal_flashCanonical) | (with_reducible apply State.nextAttempt_flashCanonical) | (with_reducible apply foldl_flashCanonical; intros) | split | simp

/-! Hamper. -/

theorem State.hampDisable_flashCanonical  (s : State) (h : CellsWf s.flash.cells) : CellsWf (State.hampDisable s).flash.cells := by
  unfold State.hampDisable
  repeat' first | assumption | (with_reducible apply State.journal_flashCanonical) | (with_reducible apply State.idle_flashCanonical) | (with_reducible apply foldl_flashCanonical; intros) | split | simp
theorem State.hampReady_flashCanonical  (s : State) (h : CellsWf s.flash.cells) : CellsWf (State.hampReady s).flash.cells := by
  unfold State.hampReady
  repeat' first | assumption | (with_reducible apply State.journal_flashCanonical) | (with_reducible apply foldl_flashCanonical; intros) | split | simp
theorem execHamperTrainDone_flashCanonical  (pass : Bool) (s : State) (h : CellsWf s.flash.cells) : ∀ q1, (execHamperTrainDone pass s) = .next q1 → CellsWf q1.flash.cells := by
  rintro q1 ⟨⟩
  repeat' first | assumption | (with_reducible apply State.hampDisable_flashCanonical) | (with_reducible apply State.hampReady_flashCanonical) | (with_reducible apply foldl_flashCanonical; intros) | split | simp
theorem execHamperTrainTimeout_flashCanonical  (s : State) (h : CellsWf s.flash.cells) : ∀ q1, (execHamperTrainTimeout s) = .next q1 → CellsWf q1.flash.cells := by
  rintro q1 ⟨⟩
  repeat' first | assumption | (with_reducible apply State.hampDisable_flashCanonical) | (with_reducible apply foldl_flashCanonical; intros) | split | simp

/-! Stream. -/

theorem State.checkPassed_flashCanonical  (s : State) (src : Nat) (h : CellsWf s.flash.cells) : CellsWf (State.checkPassed s src).flash.cells := by
  unfold State.checkPassed
  repeat' first | assumption | (with_reducible apply State.prioDefer_flashCanonical) | (with_reducible apply foldl_flashCanonical; intros) | split | simp
theorem State.writeSeal_flashCanonical  (s : State) (src : Nat) (ws : List Word) (h : CellsWf s.flash.cells) : CellsWf (State.writeSeal s src ws).1.flash.cells := by
  unfold State.writeSeal
  repeat' first | assumption | (with_reducible apply State.checkPassed_flashCanonical) | (with_reducible apply foldl_flashCanonical; intros) | split | simp
theorem State.writeCrcv_flashCanonical  (s : State) (src crc : Nat) (v : Word) (h : CellsWf s.flash.cells) : CellsWf (State.writeCrcv s src crc v).1.flash.cells := by
  unfold State.writeCrcv
  repeat' first | assumption | (with_reducible apply State.checkPassed_flashCanonical) | (with_reducible apply foldl_flashCanonical; intros) | split | simp
theorem State.doWrite_flashCanonical  (s : State) (src crc : Nat) (h : Word) (d : List Word) (hp0 : CellsWf s.flash.cells) : CellsWf (State.doWrite s src crc h d).1.flash.cells := by
  unfold State.doWrite
  repeat' first | assumption | (with_reducible apply State.writeSeal_flashCanonical) | (with_reducible apply State.writeCrcv_flashCanonical) | (with_reducible apply foldl_flashCanonical; intros) | split | simp
theorem State.dispatchPacket_flashCanonical  (s : State) (src crc : Nat) (h : Word) (d : List Word) (hp0 : CellsWf s.flash.cells) : CellsWf (State.dispatchPacket s src crc h d).1.flash.cells := by
  unfold State.dispatchPacket
  repeat' first | assumption | (with_reducible apply State.doWrite_flashCanonical) | (with_reducible apply foldl_flashCanonical; intros) | split | simp
theorem State.actPacket_flashCanonical  (s : State) (src : Nat) (h : Word) (d : List Word) (hp0 : CellsWf s.flash.cells) : CellsWf (State.actPacket s src h d).1.flash.cells := by
  unfold State.actPacket
  repeat' first | assumption | (with_reducible apply State.dispatchPacket_flashCanonical) | (with_reducible apply foldl_flashCanonical; intros) | split | simp
theorem State.afterError_flashCanonical  (s : State) (e : StreamErr) (h : CellsWf s.flash.cells) : CellsWf (State.afterError s e).flash.cells := by
  unfold State.afterError
  repeat' first | assumption | (with_reducible apply State.failAttempt_flashCanonical) | (with_reducible apply foldl_flashCanonical; intros) | split | simp
theorem State.streamPacket_flashCanonical  (s : State) (src : Nat) (h : Word) (d : List Word) (hp0 : CellsWf s.flash.cells) : CellsWf (State.streamPacket s src h d).flash.cells := by
  unfold State.streamPacket
  repeat' first | assumption | (with_reducible apply State.actPacket_flashCanonical) | (with_reducible apply State.afterError_flashCanonical) | (with_reducible apply foldl_flashCanonical; intros) | split | simp
theorem State.enginePacket_flashCanonical  (s : State) (src : Nat) (h : Word) (d : List Word) (hp0 : CellsWf s.flash.cells) : CellsWf (State.enginePacket s src h d).flash.cells := by
  unfold State.enginePacket
  repeat' first | assumption | (with_reducible apply State.streamPacket_flashCanonical) | (with_reducible apply foldl_flashCanonical; intros) | split | simp
theorem State.engineSync_flashCanonical  (s : State) (src : Nat) (h : CellsWf s.flash.cells) : CellsWf (State.engineSync s src).flash.cells := by
  unfold State.engineSync
  repeat' first | assumption | (with_reducible apply State.enginePacket_flashCanonical) | (with_reducible apply foldl_flashCanonical; intros) | split | simp
theorem State.loadSourceEnd_flashCanonical  (s : State) (src : Nat) (h : CellsWf s.flash.cells) : CellsWf (State.loadSourceEnd s src).flash.cells := by
  unfold State.loadSourceEnd
  dsimp only
  repeat' first | assumption | (with_reducible apply State.journalFlush_flashCanonical) | (with_reducible apply State.failAttempt_flashCanonical) | (with_reducible apply foldl_flashCanonical; intros) | split | simp
theorem State.partSourceEnd_flashCanonical  (s : State) (src : Nat) (h : CellsWf s.flash.cells) : CellsWf (State.partSourceEnd s src).flash.cells := by
  unfold State.partSourceEnd
  dsimp only
  repeat' first | assumption | (with_reducible apply State.journalFlush_flashCanonical) | (with_reducible apply foldl_flashCanonical; intros) | split | simp
theorem State.engineSourceEnd_flashCanonical  (s : State) (h : CellsWf s.flash.cells) : CellsWf (State.engineSourceEnd s).flash.cells := by
  unfold State.engineSourceEnd
  repeat' first | assumption | (with_reducible apply State.loadSourceEnd_flashCanonical) | (with_reducible apply State.partSourceEnd_flashCanonical) | (with_reducible apply foldl_flashCanonical; intros) | split | simp
theorem State.spentEnd_flashCanonical  (s : State) (src : Nat) (h : CellsWf s.flash.cells) : CellsWf (State.spentEnd s src).flash.cells := by
  unfold State.spentEnd
  repeat' first | assumption | (with_reducible apply State.engineSourceEnd_flashCanonical) | (with_reducible apply foldl_flashCanonical; intros) | split | simp
theorem State.engineTake_flashCanonical  (s : State) (src : Nat) (i : EngItem) (h : CellsWf s.flash.cells) : CellsWf (State.engineTake s src i).flash.cells := by
  unfold State.engineTake
  repeat' first | assumption | (with_reducible apply State.enginePacket_flashCanonical) | (with_reducible apply State.engineSync_flashCanonical) | (with_reducible apply foldl_flashCanonical; intros) | split | simp
theorem State.engineDrain_flashCanonical  (s : State) (x0 : List EngItem) (h : CellsWf s.flash.cells) : CellsWf (State.engineDrain s x0).flash.cells := by
  induction x0 generalizing s with
  | nil => unfold State.engineDrain; repeat' first | assumption | (with_reducible apply State.spentEnd_flashCanonical) | (with_reducible apply State.engineTake_flashCanonical) | (with_reducible apply foldl_flashCanonical; intros) | split | simp
  | cons a l ih =>
    unfold State.engineDrain
    repeat' first | assumption | (with_reducible apply State.spentEnd_flashCanonical) | (with_reducible apply State.engineTake_flashCanonical) | (with_reducible apply ih) | split | simp
theorem State.engineResume_flashCanonical  (s : State) (h : CellsWf s.flash.cells) : CellsWf (State.engineResume s).flash.cells := by
  unfold State.engineResume
  repeat' first | assumption | (with_reducible apply State.spentEnd_flashCanonical) | (with_reducible apply State.engineDrain_flashCanonical) | (with_reducible apply foldl_flashCanonical; intros) | split | simp
theorem State.deliver_flashCanonical  (s : State) (i : EngItem) (h : CellsWf s.flash.cells) : CellsWf (State.deliver s i).flash.cells := by
  unfold State.deliver
  repeat' first | assumption | (with_reducible apply State.spentEnd_flashCanonical) | (with_reducible apply State.engineTake_flashCanonical) | (with_reducible apply foldl_flashCanonical; intros) | split | simp
theorem execSyncWord_flashCanonical  (s : State) (h : CellsWf s.flash.cells) : ∀ q1, (execSyncWord s) = .next q1 → CellsWf q1.flash.cells := by
  rintro q1 ⟨⟩
  repeat' first | assumption | (with_reducible apply State.deliver_flashCanonical) | (with_reducible apply foldl_flashCanonical; intros) | split | simp
theorem execPacketBadHeader_flashCanonical  (h : Word) (s : State) (hp0 : CellsWf s.flash.cells) : ∀ q1, (execPacketBadHeader h s) = .next q1 → CellsWf q1.flash.cells := by
  rintro q1 ⟨⟩
  repeat' first | assumption | (with_reducible apply State.deliver_flashCanonical) | (with_reducible apply foldl_flashCanonical; intros) | split | simp
theorem execNop_flashCanonical  (s : State) (h : CellsWf s.flash.cells) : ∀ q1, (execNop s) = .next q1 → CellsWf q1.flash.cells := by
  rintro q1 ⟨⟩
  repeat' first | assumption | (with_reducible apply State.deliver_flashCanonical) | (with_reducible apply foldl_flashCanonical; intros) | split | simp
theorem execWriteIdcode_flashCanonical  (ws : List Word) (s : State) (h : CellsWf s.flash.cells) : ∀ q1, (execWriteIdcode ws s) = .next q1 → CellsWf q1.flash.cells := by
  rintro q1 ⟨⟩
  repeat' first | assumption | (with_reducible apply State.deliver_flashCanonical) | (with_reducible apply foldl_flashCanonical; intros) | split | simp
theorem execWriteForm_flashCanonical  (ws : List Word) (s : State) (h : CellsWf s.flash.cells) : ∀ q1, (execWriteForm ws s) = .next q1 → CellsWf q1.flash.cells := by
  rintro q1 ⟨⟩
  repeat' first | assumption | (with_reducible apply State.deliver_flashCanonical) | (with_reducible apply foldl_flashCanonical; intros) | split | simp
theorem execWriteKeysel_flashCanonical  (ws : List Word) (s : State) (h : CellsWf s.flash.cells) : ∀ q1, (execWriteKeysel ws s) = .next q1 → CellsWf q1.flash.cells := by
  rintro q1 ⟨⟩
  repeat' first | assumption | (with_reducible apply State.deliver_flashCanonical) | (with_reducible apply foldl_flashCanonical; intros) | split | simp
theorem execWriteSid_flashCanonical  (ws : List Word) (s : State) (h : CellsWf s.flash.cells) : ∀ q1, (execWriteSid ws s) = .next q1 → CellsWf q1.flash.cells := by
  rintro q1 ⟨⟩
  repeat' first | assumption | (with_reducible apply State.deliver_flashCanonical) | (with_reducible apply foldl_flashCanonical; intros) | split | simp
theorem execWriteIv_flashCanonical  (ws : List Word) (s : State) (h : CellsWf s.flash.cells) : ∀ q1, (execWriteIv ws s) = .next q1 → CellsWf q1.flash.cells := by
  rintro q1 ⟨⟩
  repeat' first | assumption | (with_reducible apply State.deliver_flashCanonical) | (with_reducible apply foldl_flashCanonical; intros) | split | simp
theorem execWriteBodylen_flashCanonical  (ws : List Word) (s : State) (h : CellsWf s.flash.cells) : ∀ q1, (execWriteBodylen ws s) = .next q1 → CellsWf q1.flash.cells := by
  rintro q1 ⟨⟩
  repeat' first | assumption | (with_reducible apply State.deliver_flashCanonical) | (with_reducible apply foldl_flashCanonical; intros) | split | simp
theorem execWriteBound_flashCanonical  (ws : List Word) (s : State) (h : CellsWf s.flash.cells) : ∀ q1, (execWriteBound ws s) = .next q1 → CellsWf q1.flash.cells := by
  rintro q1 ⟨⟩
  repeat' first | assumption | (with_reducible apply State.deliver_flashCanonical) | (with_reducible apply foldl_flashCanonical; intros) | split | simp
theorem execWriteGroup_flashCanonical  (ws : List Word) (s : State) (h : CellsWf s.flash.cells) : ∀ q1, (execWriteGroup ws s) = .next q1 → CellsWf q1.flash.cells := by
  rintro q1 ⟨⟩
  repeat' first | assumption | (with_reducible apply State.deliver_flashCanonical) | (with_reducible apply foldl_flashCanonical; intros) | split | simp
theorem execWritePlfloor_flashCanonical  (ws : List Word) (s : State) (h : CellsWf s.flash.cells) : ∀ q1, (execWritePlfloor ws s) = .next q1 → CellsWf q1.flash.cells := by
  rintro q1 ⟨⟩
  repeat' first | assumption | (with_reducible apply State.deliver_flashCanonical) | (with_reducible apply foldl_flashCanonical; intros) | split | simp
theorem execWriteClkset_flashCanonical  (ws : List Word) (s : State) (h : CellsWf s.flash.cells) : ∀ q1, (execWriteClkset ws s) = .next q1 → CellsWf q1.flash.cells := by
  rintro q1 ⟨⟩
  repeat' first | assumption | (with_reducible apply State.deliver_flashCanonical) | (with_reducible apply foldl_flashCanonical; intros) | split | simp
theorem execStepNone_flashCanonical  (v : Word) (s : State) (h : CellsWf s.flash.cells) : ∀ q1, (execStepNone v s) = .next q1 → CellsWf q1.flash.cells := by
  rintro q1 ⟨⟩
  repeat' first | assumption | (with_reducible apply State.deliver_flashCanonical) | (with_reducible apply foldl_flashCanonical; intros) | split | simp
theorem execStepStage_flashCanonical  (s : State) (h : CellsWf s.flash.cells) : ∀ q1, (execStepStage s) = .next q1 → CellsWf q1.flash.cells := by
  rintro q1 ⟨⟩
  repeat' first | assumption | (with_reducible apply State.deliver_flashCanonical) | (with_reducible apply foldl_flashCanonical; intros) | split | simp
theorem execStageClearDone_flashCanonical  (s : State) (h : CellsWf s.flash.cells) : ∀ q1, (execStageClearDone s) = .next q1 → CellsWf q1.flash.cells := by
  rintro q1 ⟨⟩
  repeat' first | assumption | (with_reducible apply State.engineResume_flashCanonical) | (with_reducible apply foldl_flashCanonical; intros) | split | simp
theorem execStepFinish_flashCanonical  (s : State) (h : CellsWf s.flash.cells) : ∀ q1, (execStepFinish s) = .next q1 → CellsWf q1.flash.cells := by
  rintro q1 ⟨⟩
  repeat' first | assumption | (with_reducible apply State.deliver_flashCanonical) | (with_reducible apply foldl_flashCanonical; intros) | split | simp
theorem execStepAbort_flashCanonical  (s : State) (h : CellsWf s.flash.cells) : ∀ q1, (execStepAbort s) = .next q1 → CellsWf q1.flash.cells := by
  rintro q1 ⟨⟩
  repeat' first | assumption | (with_reducible apply State.deliver_flashCanonical) | (with_reducible apply foldl_flashCanonical; intros) | split | simp
theorem execWritePlace_flashCanonical  (ws : List Word) (s : State) (h : CellsWf s.flash.cells) : ∀ q1, (execWritePlace ws s) = .next q1 → CellsWf q1.flash.cells := by
  rintro q1 ⟨⟩
  repeat' first | assumption | (with_reducible apply State.deliver_flashCanonical) | (with_reducible apply foldl_flashCanonical; intros) | split | simp
theorem execWriteFrames_flashCanonical  (dyn : Bool) (ws : List Word) (s : State) (h : CellsWf s.flash.cells) : ∀ q1, (execWriteFrames dyn ws s) = .next q1 → CellsWf q1.flash.cells := by
  rintro q1 ⟨⟩
  repeat' first | assumption | (with_reducible apply State.deliver_flashCanonical) | (with_reducible apply foldl_flashCanonical; intros) | split | simp
theorem execZero_flashCanonical  (dyn : Bool) (n : BitVec 20) (s : State) (h : CellsWf s.flash.cells) : ∀ q1, (execZero dyn n s) = .next q1 → CellsWf q1.flash.cells := by
  rintro q1 ⟨⟩
  repeat' first | assumption | (with_reducible apply State.deliver_flashCanonical) | (with_reducible apply foldl_flashCanonical; intros) | split | simp
theorem execRepeat_flashCanonical  (dyn : Bool) (n : BitVec 20) (s : State) (h : CellsWf s.flash.cells) : ∀ q1, (execRepeat dyn n s) = .next q1 → CellsWf q1.flash.cells := by
  rintro q1 ⟨⟩
  repeat' first | assumption | (with_reducible apply State.deliver_flashCanonical) | (with_reducible apply foldl_flashCanonical; intros) | split | simp
theorem execPatch_flashCanonical  (dyn : Bool) (ps : List (Word × Word)) (s : State) (h : CellsWf s.flash.cells) : ∀ q1, (execPatch dyn ps s) = .next q1 → CellsWf q1.flash.cells := by
  rintro q1 ⟨⟩
  repeat' first | assumption | (with_reducible apply State.deliver_flashCanonical) | (with_reducible apply foldl_flashCanonical; intros) | split | simp
theorem execBody_flashCanonical  (s : State) (h : CellsWf s.flash.cells) : ∀ q1, (execBody s) = .next q1 → CellsWf q1.flash.cells := by
  rintro q1 ⟨⟩
  repeat' first | assumption | (with_reducible apply State.deliver_flashCanonical) | (with_reducible apply foldl_flashCanonical; intros) | split | simp
theorem execWriteSeal_flashCanonical  (ws : List Word) (s : State) (h : CellsWf s.flash.cells) : ∀ q1, (execWriteSeal ws s) = .next q1 → CellsWf q1.flash.cells := by
  rintro q1 ⟨⟩
  repeat' first | assumption | (with_reducible apply State.deliver_flashCanonical) | (with_reducible apply foldl_flashCanonical; intros) | split | simp
theorem execWriteCrcv_flashCanonical  (ws : List Word) (s : State) (h : CellsWf s.flash.cells) : ∀ q1, (execWriteCrcv ws s) = .next q1 → CellsWf q1.flash.cells := by
  rintro q1 ⟨⟩
  repeat' first | assumption | (with_reducible apply State.deliver_flashCanonical) | (with_reducible apply foldl_flashCanonical; intros) | split | simp
theorem execReadFrames_flashCanonical  (n : BitVec 20) (s : State) (h : CellsWf s.flash.cells) : ∀ q1, (execReadFrames n s) = .next q1 → CellsWf q1.flash.cells := by
  rintro q1 ⟨⟩
  repeat' first | assumption | (with_reducible apply State.deliver_flashCanonical) | (with_reducible apply foldl_flashCanonical; intros) | split | simp
theorem execReadPlace_flashCanonical  (s : State) (h : CellsWf s.flash.cells) : ∀ q1, (execReadPlace s) = .next q1 → CellsWf q1.flash.cells := by
  rintro q1 ⟨⟩
  repeat' first | assumption | (with_reducible apply State.deliver_flashCanonical) | (with_reducible apply foldl_flashCanonical; intros) | split | simp
theorem execReadStat_flashCanonical  (s : State) (h : CellsWf s.flash.cells) : ∀ q1, (execReadStat s) = .next q1 → CellsWf q1.flash.cells := by
  rintro q1 ⟨⟩
  repeat' first | assumption | (with_reducible apply State.deliver_flashCanonical) | (with_reducible apply foldl_flashCanonical; intros) | split | simp
theorem execSection_flashCanonical  (sel len : Word) (s : State) (h : CellsWf s.flash.cells) : ∀ q1, (execSection sel len s) = .next q1 → CellsWf q1.flash.cells := by
  rintro q1 ⟨⟩
  repeat' first | assumption | (with_reducible apply State.deliver_flashCanonical) | (with_reducible apply foldl_flashCanonical; intros) | split | simp
theorem execEnd_flashCanonical  (s : State) (h : CellsWf s.flash.cells) : ∀ q1, (execEnd s) = .next q1 → CellsWf q1.flash.cells := by
  rintro q1 ⟨⟩
  repeat' first | assumption | (with_reducible apply State.deliver_flashCanonical) | (with_reducible apply foldl_flashCanonical; intros) | split | simp
theorem execStreamSourceEnd_flashCanonical  (s : State) (h : CellsWf s.flash.cells) : ∀ q1, (execStreamSourceEnd s) = .next q1 → CellsWf q1.flash.cells := by
  rintro q1 ⟨⟩
  repeat' first | assumption | (with_reducible apply State.deliver_flashCanonical) | (with_reducible apply foldl_flashCanonical; intros) | split | simp
theorem State.lockWaitEnd_flashCanonical  (s : State) (h : CellsWf s.flash.cells) : CellsWf (State.lockWaitEnd s).flash.cells := by
  unfold State.lockWaitEnd
  repeat' first | assumption | (with_reducible apply State.failAttempt_flashCanonical) | (with_reducible apply foldl_flashCanonical; intros) | split | simp
theorem execClksetLockWaitEnd_flashCanonical  (s : State) (h : CellsWf s.flash.cells) : ∀ q1, (execClksetLockWaitEnd s) = .next q1 → CellsWf q1.flash.cells := by
  rintro q1 ⟨⟩
  repeat' first | assumption | (with_reducible apply State.lockWaitEnd_flashCanonical) | (with_reducible apply foldl_flashCanonical; intros) | split | simp

/-! Staged. -/

theorem State.openSource_flashCanonical  (s : State) (c : Nat) (h : CellsWf s.flash.cells) : CellsWf (State.openSource s c).flash.cells := by
  unfold State.openSource
  repeat' first | assumption | (with_reducible apply State.journalFlush_flashCanonical) | (with_reducible apply State.spentEnd_flashCanonical) | (with_reducible apply foldl_flashCanonical; intros) | split | simp
theorem execPsrcOpen_flashCanonical  (ag : Agent) (c : Fin 8) (s : State) (h : CellsWf s.flash.cells) : ∀ q1, (execPsrcOpen ag c s) = .next q1 → CellsWf q1.flash.cells := by
  rintro q1 ⟨⟩
  repeat' first | assumption | (with_reducible apply State.rws_flashCanonical) | (with_reducible apply State.openSource_flashCanonical) | (with_reducible apply foldl_flashCanonical; intros) | split | simp
theorem State.loadVerifyEnd_flashCanonical  (s : State) (j : PartJob) (prio : Bool) (h : CellsWf s.flash.cells) : CellsWf (State.loadVerifyEnd s j prio).flash.cells := by
  unfold State.loadVerifyEnd
  repeat' first | assumption | (with_reducible apply State.failAttempt_flashCanonical) | (with_reducible apply foldl_flashCanonical; intros) | split | simp
theorem State.verifyEnd_flashCanonical  (s : State) (us : Upsets) (es : EntryErrs) (h : CellsWf s.flash.cells) : CellsWf (State.verifyEnd s us es).flash.cells := by
  unfold State.verifyEnd
  repeat' first | assumption | (with_reducible apply State.loadVerifyEnd_flashCanonical) | (with_reducible apply foldl_flashCanonical; intros) | split | simp
theorem execStagedVerifyEnd_flashCanonical  (us : PassErrs) (s : State) (h : CellsWf s.flash.cells) : ∀ q1, (execStagedVerifyEnd us s) = .next q1 → CellsWf q1.flash.cells := by
  rintro q1 ⟨⟩
  repeat' first | assumption | (with_reducible apply State.verifyEnd_flashCanonical) | (with_reducible apply foldl_flashCanonical; intros) | split | simp
theorem State.cfgWrite_flashCanonical  (s : State) (off : Nat) (v : Word) (h : CellsWf s.flash.cells) : CellsWf (State.cfgWrite s off v).flash.cells := by
  rw [State.cfgWrite]
  refine ite_flashCanonical _ _ _ (State.openSource_flashCanonical _ _ h) ?_
  refine ite_flashCanonical _ _ _ (keep_flashCanonical s _ h (State.dwPlace_flashCells _ _)) ?_
  refine ite_flashCanonical _ _ _ (keep_flashCanonical s _ h (State.dwData_flashCells _ _)) ?_
  refine ite_flashCanonical _ _ _ (keep_flashCanonical s _ h (State.dwCtl_flashCells _ _)) ?_
  exact ite_flashCanonical _ _ _ (keep_flashCanonical s _ h (State.groupWrite_flashCells _ _ _ _ _)) (keep_flashCanonical s _ h (State.plainWrite_flashCells _ _ _))

/-! Lanes. -/

theorem State.calEnd_flashCanonical  (s : State) (q : Nat) (pass : Bool) (h : CellsWf s.flash.cells) : CellsWf (State.calEnd s q pass).flash.cells := by
  unfold State.calEnd
  repeat' first | assumption | (with_reducible apply State.journal_flashCanonical) | (with_reducible apply foldl_flashCanonical; intros) | split | simp
theorem execQuadCalDone_flashCanonical  (q : Fin 16) (pass : Bool) (s : State) (h : CellsWf s.flash.cells) : ∀ q1, (execQuadCalDone q pass s) = .next q1 → CellsWf q1.flash.cells := by
  rintro q1 ⟨⟩
  repeat' first | assumption | (with_reducible apply State.calEnd_flashCanonical) | (with_reducible apply foldl_flashCanonical; intros) | split | simp
theorem execQuadCalTimeout_flashCanonical  (q : Fin 16) (s : State) (h : CellsWf s.flash.cells) : ∀ q1, (execQuadCalTimeout q s) = .next q1 → CellsWf q1.flash.cells := by
  rintro q1 ⟨⟩
  repeat' first | assumption | (with_reducible apply State.calEnd_flashCanonical) | (with_reducible apply foldl_flashCanonical; intros) | split | simp

/-! WaleLink. -/

theorem State.gangEnd_flashCanonical  (s : State) (h : CellsWf s.flash.cells) : CellsWf (State.gangEnd s).flash.cells := by
  unfold State.gangEnd
  repeat' first | assumption | (with_reducible apply State.spentEnd_flashCanonical) | (with_reducible apply foldl_flashCanonical; intros) | split | simp
theorem State.linkDown_flashCanonical  (s : State) (p cause : Nat) (h : CellsWf s.flash.cells) : CellsWf (State.linkDown s p cause).flash.cells := by
  unfold State.linkDown
  repeat' first | assumption | (with_reducible apply State.gangEnd_flashCanonical) | (with_reducible apply foldl_flashCanonical; intros) | split | simp
theorem State.walePortsDown_flashCanonical  (s : State) (h : CellsWf s.flash.cells) : CellsWf (State.walePortsDown s).flash.cells := by
  unfold State.walePortsDown
  repeat' first | assumption | (with_reducible apply State.linkDown_flashCanonical) | (with_reducible apply foldl_flashCanonical; intros) | split | simp
theorem State.wpCtlWrite_flashCanonical  (s : State) (p : Nat) (v : Word) (h : CellsWf s.flash.cells) : CellsWf (State.wpCtlWrite s p v).flash.cells := by
  unfold State.wpCtlWrite
  repeat' first | assumption | (with_reducible apply State.linkDown_flashCanonical) | (with_reducible apply foldl_flashCanonical; intros) | split | simp
theorem State.trnSet_flashCanonical  (s : State) (p lane : Nat) (t : TrnSet) (h : CellsWf s.flash.cells) : CellsWf (State.trnSet s p lane t).flash.cells := by
  unfold State.trnSet
  repeat' first | assumption | (with_reducible apply State.linkDown_flashCanonical) | (with_reducible apply foldl_flashCanonical; intros) | split | simp
theorem State.linkResend_flashCanonical  (s : State) (p : Nat) (h : CellsWf s.flash.cells) : CellsWf (State.linkResend s p).flash.cells := by
  unfold State.linkResend
  repeat' first | assumption | (with_reducible apply State.linkDown_flashCanonical) | (with_reducible apply foldl_flashCanonical; intros) | split | simp
theorem State.laneFail_flashCanonical  (s : State) (p lane : Nat) (h : CellsWf s.flash.cells) : CellsWf (State.laneFail s p lane).flash.cells := by
  unfold State.laneFail
  repeat' first | assumption | (with_reducible apply State.linkDown_flashCanonical) | (with_reducible apply foldl_flashCanonical; intros) | split | simp
theorem State.blockIn_flashCanonical (s : State) (p : Nat) (b : WaleBlock) (here join : Bool) (act : State → State)
    (h0 : CellsWf s.flash.cells) (h : ∀ t, CellsWf t.flash.cells → CellsWf (act t).flash.cells) :
    CellsWf (s.blockIn p b here join act).flash.cells := by
  have e := State.linkRx_flashCells s p b.seq.val
  unfold State.blockIn
  split
  · rename_i hr
    rw [hr] at e
    dsimp only at e
    rw [e]; exact h0
  · rename_i t hr
    rw [hr] at e
    dsimp only at e
    have e2 := State.epochTest_flashCells t b
    split
    · rename_i hj
      split at hj
      · cases hj
      · rw [hj] at e2
        dsimp only at e2
        rw [e2, e]
        exact h0
    · rename_i u hj
      have e3 : CellsWf u.flash.cells := by
        split at hj
        · cases hj; rw [e]; exact h0
        · rw [hj] at e2; dsimp only at e2; rw [e2, e]; exact h0
      split
      · exact h _ e3
      split
      · apply h
        split
        · exact e3
        · rw [State.bcastOut_flashCells]; exact e3
      split
      · simpa using e3
      split
      · exact h _ e3
      · rw [State.routeOn_flashCells]; exact e3
theorem execWpEnable_flashCanonical  (ag : Agent) (p : Fin 6) (s : State) (h : CellsWf s.flash.cells) : ∀ q1, (execWpEnable ag p s) = .next q1 → CellsWf q1.flash.cells := by
  rintro q1 ⟨⟩
  repeat' first | assumption | (with_reducible apply State.wpCtlWrite_flashCanonical) | (with_reducible apply foldl_flashCanonical; intros) | split | simp
theorem execWpDisable_flashCanonical  (ag : Agent) (p : Fin 6) (s : State) (h : CellsWf s.flash.cells) : ∀ q1, (execWpDisable ag p s) = .next q1 → CellsWf q1.flash.cells := by
  rintro q1 ⟨⟩
  repeat' first | assumption | (with_reducible apply State.wpCtlWrite_flashCanonical) | (with_reducible apply foldl_flashCanonical; intros) | split | simp
theorem execWpRetrain_flashCanonical  (ag : Agent) (p : Fin 6) (s : State) (h : CellsWf s.flash.cells) : ∀ q1, (execWpRetrain ag p s) = .next q1 → CellsWf q1.flash.cells := by
  rintro q1 ⟨⟩
  repeat' first | assumption | (with_reducible apply State.wpCtlWrite_flashCanonical) | (with_reducible apply foldl_flashCanonical; intros) | split | simp
theorem execWaleTrnSet_flashCanonical  (p : Fin 6) (lane : Fin 8) (t : TrnSet) (s : State) (h : CellsWf s.flash.cells) : ∀ q1, (execWaleTrnSet p lane t s) = .next q1 → CellsWf q1.flash.cells := by
  rintro q1 ⟨⟩
  repeat' first | assumption | (with_reducible apply State.trnSet_flashCanonical) | (with_reducible apply foldl_flashCanonical; intros) | split | simp
theorem execWaleTrainTimeout_flashCanonical  (p : Fin 6) (s : State) (h : CellsWf s.flash.cells) : ∀ q1, (execWaleTrainTimeout p s) = .next q1 → CellsWf q1.flash.cells := by
  rintro q1 ⟨⟩
  repeat' first | assumption | (with_reducible apply State.linkDown_flashCanonical) | (with_reducible apply foldl_flashCanonical; intros) | split | simp
theorem execWaleNak_flashCanonical  (p : Fin 6) (aseq : Fin 4096) (junk : Bool) (s : State) (h : CellsWf s.flash.cells) : ∀ q1, (execWaleNak p aseq junk s) = .next q1 → CellsWf q1.flash.cells := by
  rintro q1 ⟨⟩
  repeat' first | assumption | (with_reducible apply State.linkResend_flashCanonical) | (with_reducible apply foldl_flashCanonical; intros) | split | simp
theorem execWaleAckTimerExpiry_flashCanonical  (p : Fin 6) (s : State) (h : CellsWf s.flash.cells) : ∀ q1, (execWaleAckTimerExpiry p s) = .next q1 → CellsWf q1.flash.cells := by
  rintro q1 ⟨⟩
  repeat' first | assumption | (with_reducible apply State.linkResend_flashCanonical) | (with_reducible apply foldl_flashCanonical; intros) | split | simp
theorem execWaleLaneFail_flashCanonical  (p : Fin 6) (lane : Fin 8) (s : State) (h : CellsWf s.flash.cells) : ∀ q1, (execWaleLaneFail p lane s) = .next q1 → CellsWf q1.flash.cells := by
  rintro q1 ⟨⟩
  repeat' first | assumption | (with_reducible apply State.laneFail_flashCanonical) | (with_reducible apply foldl_flashCanonical; intros) | split | simp
theorem execWaleLmgDown_flashCanonical  (p : Fin 6) (junk : Bool) (s : State) (h : CellsWf s.flash.cells) : ∀ q1, (execWaleLmgDown p junk s) = .next q1 → CellsWf q1.flash.cells := by
  rintro q1 ⟨⟩
  repeat' first | assumption | (with_reducible apply State.linkDown_flashCanonical) | (with_reducible apply foldl_flashCanonical; intros) | split | simp

/-! Wale. -/

theorem State.gangTake_flashCanonical  (s : State) (b : WaleBlock) (h : CellsWf s.flash.cells) : CellsWf (State.gangTake s b).flash.cells := by
  unfold State.gangTake
  repeat' first | assumption | (with_reducible apply State.spentEnd_flashCanonical) | (with_reducible apply State.gangEnd_flashCanonical) | (with_reducible apply foldl_flashCanonical; intros) | split | simp
theorem State.gangIn_flashCanonical  (s : State) (b : WaleBlock) (h : CellsWf s.flash.cells) : CellsWf (State.gangIn s b).flash.cells := by
  unfold State.gangIn
  repeat' first | assumption | (with_reducible apply State.gangTake_flashCanonical) | (with_reducible apply foldl_flashCanonical; intros) | split | simp
theorem execWaleGangBlock_flashCanonical  (p : Fin 6) (b : WaleBlock) (s : State) (h : CellsWf s.flash.cells) : ∀ q1, (execWaleGangBlock p b s) = .next q1 → CellsWf q1.flash.cells := by
  intro q1 hq
  unfold execWaleGangBlock at hq
  replace hq := Host.Outcome.next.inj hq
  rw [← hq]
  exact State.blockIn_flashCanonical _ _ _ _ _ _ h (fun t ht => State.gangIn_flashCanonical _ _ ht)
theorem execWaleGangStreamTimeout_flashCanonical  (s : State) (h : CellsWf s.flash.cells) : ∀ q1, (execWaleGangStreamTimeout s) = .next q1 → CellsWf q1.flash.cells := by
  rintro q1 ⟨⟩
  repeat' first | assumption | (with_reducible apply State.gangEnd_flashCanonical) | (with_reducible apply foldl_flashCanonical; intros) | split | simp

/-! HostPorts. -/

theorem State.portStreamCut_flashCanonical  (s : State) (p : Fin 2) (h : CellsWf s.flash.cells) : CellsWf (State.portStreamCut s p).flash.cells := by
  unfold State.portStreamCut
  repeat' first | assumption | (with_reducible apply State.deliver_flashCanonical) | (with_reducible apply foldl_flashCanonical; intros) | split | simp
theorem State.pcieDown_flashCanonical  (s : State) (p : Fin 2) (h : CellsWf s.flash.cells) : CellsWf (State.pcieDown s p).flash.cells := by
  unfold State.pcieDown
  repeat' first | assumption | (with_reducible apply State.portStreamCut_flashCanonical) | (with_reducible apply foldl_flashCanonical; intros) | split | simp
theorem State.pcieFlr_flashCanonical  (s : State) (p : Fin 2) (h : CellsWf s.flash.cells) : CellsWf (State.pcieFlr s p).flash.cells := by
  unfold State.pcieFlr
  repeat' first | assumption | (with_reducible apply State.portStreamCut_flashCanonical) | (with_reducible apply foldl_flashCanonical; intros) | split | simp
theorem execPcieLinkDown_flashCanonical  (port : Fin 2) (s : State) (h : CellsWf s.flash.cells) : ∀ q1, (execPcieLinkDown port s) = .next q1 → CellsWf q1.flash.cells := by
  rintro q1 ⟨⟩
  repeat' first | assumption | (with_reducible apply State.pcieDown_flashCanonical) | (with_reducible apply foldl_flashCanonical; intros) | split | simp
theorem execPcieFlr_flashCanonical  (port : Fin 2) (s : State) (h : CellsWf s.flash.cells) : ∀ q1, (execPcieFlr port s) = .next q1 → CellsWf q1.flash.cells := by
  rintro q1 ⟨⟩
  repeat' first | assumption | (with_reducible apply State.pcieFlr_flashCanonical) | (with_reducible apply foldl_flashCanonical; intros) | split | simp
theorem execPcieHotReset_flashCanonical  (port : Fin 2) (s : State) (h : CellsWf s.flash.cells) : ∀ q1, (execPcieHotReset port s) = .next q1 → CellsWf q1.flash.cells := by
  rintro q1 ⟨⟩
  repeat' first | assumption | (with_reducible apply State.pcieFlr_flashCanonical) | (with_reducible apply foldl_flashCanonical; intros) | split | simp
theorem execPciePerst_flashCanonical  (port : Fin 2) (s : State) (h : CellsWf s.flash.cells) : ∀ q1, (execPciePerst port s) = .next q1 → CellsWf q1.flash.cells := by
  rintro q1 ⟨⟩
  repeat' first | assumption | (with_reducible apply State.pcieDown_flashCanonical) | (with_reducible apply foldl_flashCanonical; intros) | split | simp
theorem State.hpCtlWrite_flashCanonical  (s : State) (ag : Agent) (p : Fin 2) (v : Word) (h : CellsWf s.flash.cells) : CellsWf (State.hpCtlWrite s ag p v).flash.cells := by
  unfold State.hpCtlWrite
  repeat' first | assumption | (with_reducible apply State.pcieDown_flashCanonical) | (with_reducible apply foldl_flashCanonical; intros) | split | simp
theorem execHpSpirel_flashCanonical  (ag : Agent) (port : Fin 2) (s : State) (h : CellsWf s.flash.cells) : ∀ q1, (execHpSpirel ag port s) = .next q1 → CellsWf q1.flash.cells := by
  rintro q1 ⟨⟩
  repeat' first | assumption | (with_reducible apply State.hpCtlWrite_flashCanonical) | (with_reducible apply foldl_flashCanonical; intros) | split | simp
theorem State.windowWrite_flashCanonical  (s : State) (p : Fin 2) (spi : Bool) (ws : List Word) (h : CellsWf s.flash.cells) : CellsWf (State.windowWrite s p spi ws).flash.cells := by
  unfold State.windowWrite
  repeat' first | assumption | (with_reducible apply State.spentEnd_flashCanonical) | (with_reducible apply foldl_flashCanonical; intros) | split | simp
theorem State.hpSend_flashCanonical  (s : State) (ag : Agent) (p : Fin 2) (v : Word) (h : CellsWf s.flash.cells) : CellsWf (State.hpSend s ag p v).flash.cells := by
  unfold State.hpSend
  repeat' first | assumption | (with_reducible apply State.spentEnd_flashCanonical) | (with_reducible apply foldl_flashCanonical; intros) | split | simp
theorem execHpSendEnd_flashCanonical  (ag : Agent) (port : Fin 2) (v : Word) (s : State) (h : CellsWf s.flash.cells) : ∀ q1, (execHpSendEnd ag port v s) = .next q1 → CellsWf q1.flash.cells := by
  rintro q1 ⟨⟩
  repeat' first | assumption | (with_reducible apply State.hpSend_flashCanonical) | (with_reducible apply foldl_flashCanonical; intros) | split | simp
theorem State.sretRead_flashCanonical  (s : State) (p : Fin 2) (h : CellsWf s.flash.cells) : CellsWf (State.sretRead s p).2.flash.cells := by
  unfold State.sretRead
  repeat' first | assumption | (with_reducible apply State.engineResume_flashCanonical) | (with_reducible apply foldl_flashCanonical; intros) | split | simp
theorem execHpSretRead_flashCanonical  (ag : Agent) (port : Fin 2) (s : State) (h : CellsWf s.flash.cells) : ∀ q1, (execHpSretRead ag port s) = .next q1 → CellsWf q1.flash.cells := by
  rintro q1 ⟨⟩
  repeat' first | assumption | (with_reducible apply State.sretRead_flashCanonical) | (with_reducible apply foldl_flashCanonical; intros) | split | simp
theorem State.semWrite_flashCanonical  (s : State) (ag : Agent) (n : Nat) (v : Word) (h : CellsWf s.flash.cells) : CellsWf (State.semWrite s ag n v).flash.cells := by
  unfold State.semWrite
  repeat' first | assumption | (with_reducible apply State.journalFlush_flashCanonical) | (with_reducible apply foldl_flashCanonical; intros) | split | simp
theorem execSemAcquire_flashCanonical  (ag : Agent) (n : Fin 64) (s : State) (h : CellsWf s.flash.cells) : ∀ q1, (execSemAcquire ag n s) = .next q1 → CellsWf q1.flash.cells := by
  rintro q1 ⟨⟩
  repeat' first | assumption | (with_reducible apply State.semWrite_flashCanonical) | (with_reducible apply foldl_flashCanonical; intros) | split | simp
theorem execSemRelease_flashCanonical  (ag : Agent) (n : Fin 64) (s : State) (h : CellsWf s.flash.cells) : ∀ q1, (execSemRelease ag n s) = .next q1 → CellsWf q1.flash.cells := by
  rintro q1 ⟨⟩
  repeat' first | assumption | (with_reducible apply State.semWrite_flashCanonical) | (with_reducible apply foldl_flashCanonical; intros) | split | simp
theorem State.semForce_flashCanonical  (s : State) (ag : Agent) (v : Word) (h : CellsWf s.flash.cells) : CellsWf (State.semForce s ag v).flash.cells := by
  unfold State.semForce
  repeat' first | assumption | (with_reducible apply State.journalFlush_flashCanonical) | (with_reducible apply foldl_flashCanonical; intros) | split | simp
theorem execSemForce_flashCanonical  (ag : Agent) (v : Word) (s : State) (h : CellsWf s.flash.cells) : ∀ q1, (execSemForce ag v s) = .next q1 → CellsWf q1.flash.cells := by
  rintro q1 ⟨⟩
  repeat' first | assumption | (with_reducible apply State.semForce_flashCanonical) | (with_reducible apply foldl_flashCanonical; intros) | split | simp

/-! Domains. -/

theorem State.railOff_flashCanonical  (s : State) (r : Nat) (h : CellsWf s.flash.cells) : CellsWf (State.railOff s r).flash.cells := by
  unfold State.railOff
  repeat' first | assumption | (with_reducible apply State.flashAbandon_flashCanonical) | (with_reducible apply foldl_flashCanonical; intros) | split | simp
theorem State.domainsOff_flashCanonical  (s : State) (cause r : Nat) (h : CellsWf s.flash.cells) : CellsWf (State.domainsOff s cause r).flash.cells := by
  unfold State.domainsOff
  split
  · rw [State.wytheOff_flashCells, State.wytheOff_flashCells, State.lanesOff_flashCells, State.setBoot_flashCells, State.setRails_flashCells]
    exact h
  · exact State.railOff_flashCanonical _ _ h
  · exact h
  · exact h
  · rw [State.wytheOff_flashCells, State.wytheOff_flashCells]
    exact h
theorem State.enterSafe_flashCanonical  (s : State) (cause r : Nat) (h : CellsWf s.flash.cells) : CellsWf (State.enterSafe s cause r).flash.cells := by
  unfold State.enterSafe
  dsimp only
  have e : CellsWf (((if cause = 5 then s.domainsOff cause r else (s.domainsOff cause r).fabricHeld).safeHold cause)).flash.cells := by
    apply State.safeHold_flashCanonical
    split
    · exact State.domainsOff_flashCanonical _ _ _ h
    · rw [State.fabricHeld_flashCells]
      exact State.domainsOff_flashCanonical _ _ _ h
  split
  · rw [State.setFld_flashCells]; exact e
  · apply State.pcieDown_flashCanonical
    apply State.pcieDown_flashCanonical
    rw [State.setFld_flashCells]; exact e
theorem State.trip_flashCanonical  (s : State) (cause r : Nat) (h : CellsWf s.flash.cells) : CellsWf (State.trip s cause r).flash.cells := by
  unfold State.trip
  repeat' first | assumption | (with_reducible apply State.journal_flashCanonical) | (with_reducible apply State.railOff_flashCanonical) | (with_reducible apply State.domainsOff_flashCanonical) | (with_reducible apply State.enterSafe_flashCanonical) | (with_reducible apply foldl_flashCanonical; intros) | split | simp
theorem State.restart_flashCanonical  (s : State) (h : CellsWf s.flash.cells) : CellsWf (State.restart s).flash.cells := by
  unfold State.restart
  repeat' first | assumption | (with_reducible apply State.flashAbandon_flashCanonical) | (with_reducible apply State.idle_flashCanonical) | (with_reducible apply foldl_flashCanonical; intros) | split | simp

/-! Sounding. -/

theorem State.unrepairable_flashCanonical  (s : State) (bay : Nat) (h : CellsWf s.flash.cells) : CellsWf (State.unrepairable s bay).flash.cells := by
  unfold State.unrepairable
  repeat' first | assumption | (with_reducible apply State.journal_flashCanonical) | (with_reducible apply foldl_flashCanonical; intros) | split | simp
theorem execLoadingSoundingBatchDone_flashCanonical  (rep : SoundReport) (s : State) (h : CellsWf s.flash.cells) : ∀ q1, (execLoadingSoundingBatchDone rep s) = .next q1 → CellsWf q1.flash.cells := by
  rintro q1 ⟨⟩
  repeat' first | assumption | (with_reducible apply State.journal_flashCanonical) | (with_reducible apply State.engineResume_flashCanonical) | (with_reducible apply State.unrepairable_flashCanonical) | (with_reducible apply foldl_flashCanonical; intros) | split | simp

/-! Loading. -/

theorem State.readDir_flashCanonical  (s : State) (h : CellsWf s.flash.cells) : CellsWf (State.readDir s).flash.cells := by
  unfold State.readDir
  repeat' first | assumption | (with_reducible apply State.journal_flashCanonical) | (with_reducible apply foldl_flashCanonical; intros) | split | simp
theorem State.keeperStart_flashCanonical  (s : State) (cause : Nat) (h : CellsWf s.flash.cells) : CellsWf (State.keeperStart s cause).flash.cells := by
  unfold State.keeperStart
  repeat' first | assumption | (with_reducible apply State.restart_flashCanonical) | (with_reducible apply foldl_flashCanonical; intros) | split | simp
theorem execVinFall_flashCanonical  (s : State) (h : CellsWf s.flash.cells) : ∀ q1, (execVinFall s) = .next q1 → CellsWf q1.flash.cells := by
  rintro q1 ⟨⟩
  repeat' first | assumption | (with_reducible apply State.restart_flashCanonical) | (with_reducible apply foldl_flashCanonical; intros) | split | simp
theorem execPowerUpComplete_flashCanonical  (straps : BitVec 7) (s : State) (h : CellsWf s.flash.cells) : ∀ q1, (execPowerUpComplete straps s) = .next q1 → CellsWf q1.flash.cells := by
  rintro q1 ⟨⟩
  repeat' first | assumption | (with_reducible apply State.keeperStart_flashCanonical) | (with_reducible apply foldl_flashCanonical; intros) | split | simp
theorem execResetNFall_flashCanonical  (s : State) (h : CellsWf s.flash.cells) : ∀ q1, (execResetNFall s) = .next q1 → CellsWf q1.flash.cells := by
  rintro q1 ⟨⟩
  repeat' first | assumption | (with_reducible apply State.flashAbandon_flashCanonical) | (with_reducible apply foldl_flashCanonical; intros) | split | simp
theorem execResetNRise_flashCanonical  (s : State) (h : CellsWf s.flash.cells) : ∀ q1, (execResetNRise s) = .next q1 → CellsWf q1.flash.cells := by
  rintro q1 ⟨⟩
  repeat' first | assumption | (with_reducible apply State.keeperStart_flashCanonical) | (with_reducible apply foldl_flashCanonical; intros) | split | simp
theorem execXwaitExpiry_flashCanonical  (present : Bool) (s : State) (h : CellsWf s.flash.cells) : ∀ q1, (execXwaitExpiry present s) = .next q1 → CellsWf q1.flash.cells := by
  rintro q1 ⟨⟩
  repeat' first | assumption | (with_reducible apply State.journal_flashCanonical) | (with_reducible apply foldl_flashCanonical; intros) | split | simp
theorem State.keeperWork_flashCanonical  (s : State) (agree xref : Bool) (h : CellsWf s.flash.cells) : CellsWf (State.keeperWork s agree xref).flash.cells := by
  unfold State.keeperWork
  apply State.journal_flashCanonical
  rw [State.bootNames_flashCells, State.setBoot_flashCells, State.keeperReads_flashCells]
  exact h
theorem State.startTest_flashCanonical  (s : State) (h : CellsWf s.flash.cells) : CellsWf (State.startTest s).flash.cells := by
  unfold State.startTest
  repeat' first | assumption | (with_reducible apply State.readDir_flashCanonical) | (with_reducible apply foldl_flashCanonical; intros) | split | simp
theorem State.keeperEnds_flashCanonical  (s : State) (vinOk : Bool) (h : CellsWf s.flash.cells) : CellsWf (State.keeperEnds s vinOk).flash.cells := by
  have et := State.testToken_flashCells s vinOk
  unfold State.keeperEnds
  split
  · rw [State.factory_flashCells]; exact h
  · rw [State.factory_flashCells]; exact h
  · exact State.startTest_flashCanonical _ h
  · exact State.startTest_flashCanonical _ h
  · split
    · rename_i u hr
      rw [hr] at et
      rw [State.factory_flashCells, show u.flash.cells = s.flash.cells from et]
      exact h
    · rename_i u hr
      rw [hr] at et
      apply State.startTest_flashCanonical
      rw [show u.flash.cells = s.flash.cells from et]
      exact h
  · exact State.enterSafe_flashCanonical _ _ _ h
  · exact State.enterSafe_flashCanonical _ _ _ h
theorem execKeeperBootComplete_flashCanonical  (agree xref vinOk : Bool) (s : State) (h : CellsWf s.flash.cells) : ∀ q1, (execKeeperBootComplete agree xref vinOk s) = .next q1 → CellsWf q1.flash.cells := by
  intro q1 hq
  unfold execKeeperBootComplete at hq
  have hq := Host.Outcome.next.inj hq
  rw [← hq]
  split
  · exact h
  · exact State.keeperEnds_flashCanonical _ _ (State.keeperWork_flashCanonical _ _ _ h)
theorem State.startCals_flashCanonical  (s : State) (h : CellsWf s.flash.cells) : CellsWf (State.startCals s).flash.cells := by
  unfold State.startCals
  repeat' first | assumption | (with_reducible apply State.journal_flashCanonical) | (with_reducible apply foldl_flashCanonical; intros) | split | simp
theorem State.firstAttempt_flashCanonical  (s : State) (h : CellsWf s.flash.cells) : CellsWf (State.firstAttempt s).flash.cells := by
  unfold State.firstAttempt
  repeat' first | assumption | (with_reducible apply State.journal_flashCanonical) | (with_reducible apply State.nextAttempt_flashCanonical) | (with_reducible apply foldl_flashCanonical; intros) | split | simp
theorem State.step6_flashCanonical  (s : State) (sounded : Nat) (h : CellsWf s.flash.cells) : CellsWf (State.step6 s sounded).flash.cells := by
  unfold State.step6
  repeat' first | assumption | (with_reducible apply State.startCals_flashCanonical) | (with_reducible apply State.firstAttempt_flashCanonical) | (with_reducible apply State.idle_flashCanonical) | (with_reducible apply foldl_flashCanonical; intros) | split | simp
theorem State.loadingEntry_flashCanonical  (s : State) (h : CellsWf s.flash.cells) : CellsWf (State.loadingEntry s).flash.cells := by
  unfold State.loadingEntry
  repeat' first | assumption | (with_reducible apply State.flashAbandon_flashCanonical) | (with_reducible apply State.idle_flashCanonical) | (with_reducible apply foldl_flashCanonical; intros) | split | simp
theorem State.reloadNow_flashCanonical  (s : State) (cause : Nat) (h : CellsWf s.flash.cells) : CellsWf (State.reloadNow s cause).flash.cells := by
  unfold State.reloadNow
  split
  · exact h
  · dsimp only
    apply State.step6_flashCanonical
    apply State.readDir_flashCanonical
    rw [State.keyLoad_flashCells]
    apply State.journal_flashCanonical
    rw [State.setFld_flashCells, State.wr_flashCells]
    apply State.journalFlush_flashCanonical
    rw [State.setBit_flashCells, State.wr_flashCells, State.wr_flashCells, State.setBoot_flashCells, State.setFld_flashCells]
    split
    · rw [State.setLevels_flashCells, State.setRails_flashCells]
      apply State.loadingEntry_flashCanonical
      simpa using h
    · apply State.loadingEntry_flashCanonical
      simpa using h
theorem execStartTestComplete_flashCanonical  (hub : Bool) (rep : SoundReport) (s : State) (h : CellsWf s.flash.cells) : ∀ q1, (execStartTestComplete hub rep s) = .next q1 → CellsWf q1.flash.cells := by
  rintro q1 ⟨⟩
  repeat' first | assumption | (with_reducible apply State.journal_flashCanonical) | (with_reducible apply State.enterSafe_flashCanonical) | (with_reducible apply State.step6_flashCanonical) | (with_reducible apply State.loadingEntry_flashCanonical) | (with_reducible apply foldl_flashCanonical; intros) | split | simp
theorem execSrcWaitExpiry_flashCanonical  (s : State) (h : CellsWf s.flash.cells) : ∀ q1, (execSrcWaitExpiry s) = .next q1 → CellsWf q1.flash.cells := by
  rintro q1 ⟨⟩
  repeat' first | assumption | (with_reducible apply State.enterSafe_flashCanonical) | (with_reducible apply foldl_flashCanonical; intros) | split | simp
theorem execPriorityOutputEnable_flashCanonical  (s : State) (h : CellsWf s.flash.cells) : ∀ q1, (execPriorityOutputEnable s) = .next q1 → CellsWf q1.flash.cells := by
  rintro q1 ⟨⟩
  repeat' first | assumption | (with_reducible apply State.journal_flashCanonical) | (with_reducible apply foldl_flashCanonical; intros) | split | simp
theorem execPriorityStageTimeout_flashCanonical  (s : State) (h : CellsWf s.flash.cells) : ∀ q1, (execPriorityStageTimeout s) = .next q1 → CellsWf q1.flash.cells := by
  rintro q1 ⟨⟩
  repeat' first | assumption | (with_reducible apply State.prioDefer_flashCanonical) | (with_reducible apply State.idle_flashCanonical) | (with_reducible apply foldl_flashCanonical; intros) | split | simp
theorem execMainCommit_flashCanonical  (s : State) (h : CellsWf s.flash.cells) : ∀ q1, (execMainCommit s) = .next q1 → CellsWf q1.flash.cells := by
  rintro q1 ⟨⟩
  repeat' first | assumption | (with_reducible apply State.journalFlush_flashCanonical) | (with_reducible apply State.journal_flashCanonical) | (with_reducible apply foldl_flashCanonical; intros) | split | simp
theorem State.enterRun_flashCanonical  (s : State) (h : CellsWf s.flash.cells) : CellsWf (State.enterRun s).flash.cells := by
  unfold State.enterRun
  repeat' first | assumption | (with_reducible apply State.journal_flashCanonical) | (with_reducible apply State.idle_flashCanonical) | (with_reducible apply foldl_flashCanonical; intros) | split | simp
theorem execReleaseOutputEnable_flashCanonical  (s : State) (h : CellsWf s.flash.cells) : ∀ q1, (execReleaseOutputEnable s) = .next q1 → CellsWf q1.flash.cells := by
  rintro q1 ⟨⟩
  repeat' first | assumption | (with_reducible apply State.enterRun_flashCanonical) | (with_reducible apply foldl_flashCanonical; intros) | split | simp
theorem execDoneHigh_flashCanonical  (s : State) (h : CellsWf s.flash.cells) : ∀ q1, (execDoneHigh s) = .next q1 → CellsWf q1.flash.cells := by
  rintro q1 ⟨⟩
  repeat' first | assumption | (with_reducible apply State.enterRun_flashCanonical) | (with_reducible apply foldl_flashCanonical; intros) | split | simp
theorem execDoneWaitExpiry_flashCanonical  (s : State) (h : CellsWf s.flash.cells) : ∀ q1, (execDoneWaitExpiry s) = .next q1 → CellsWf q1.flash.cells := by
  rintro q1 ⟨⟩
  repeat' first | assumption | (with_reducible apply State.journal_flashCanonical) | (with_reducible apply State.enterSafe_flashCanonical) | (with_reducible apply foldl_flashCanonical; intros) | split | simp
theorem State.bootClrWrite_flashCanonical  (s : State) (v : Word) (h : CellsWf s.flash.cells) : CellsWf (State.bootClrWrite s v).flash.cells := by
  unfold State.bootClrWrite
  repeat' first | assumption | (with_reducible apply State.journal_flashCanonical) | (with_reducible apply foldl_flashCanonical; intros) | split | simp
theorem execBootClear_flashCanonical  (ag : Agent) (v : Word) (s : State) (h : CellsWf s.flash.cells) : ∀ q1, (execBootClear ag v s) = .next q1 → CellsWf q1.flash.cells := by
  rintro q1 ⟨⟩
  repeat' first | assumption | (with_reducible apply State.bootClrWrite_flashCanonical) | (with_reducible apply foldl_flashCanonical; intros) | split | simp

/-! Power. -/

theorem State.wokenRun_flashCanonical  (s : State) (h : CellsWf s.flash.cells) : CellsWf (State.wokenRun s).flash.cells := by
  unfold State.wokenRun
  repeat' first | assumption | (with_reducible apply State.reloadNow_flashCanonical) | (with_reducible apply foldl_flashCanonical; intros) | split | simp
theorem State.rampEnd_flashCanonical  (s : State) (h : CellsWf s.flash.cells) : CellsWf (State.rampEnd s).flash.cells := by
  unfold State.rampEnd
  repeat' first | assumption | (with_reducible apply State.wokenRun_flashCanonical) | (with_reducible apply foldl_flashCanonical; intros) | split | simp
theorem execPlRampDone_flashCanonical  (s : State) (h : CellsWf s.flash.cells) : ∀ q1, (execPlRampDone s) = .next q1 → CellsWf q1.flash.cells := by
  rintro q1 ⟨⟩
  repeat' first | assumption | (with_reducible apply State.rampEnd_flashCanonical) | (with_reducible apply foldl_flashCanonical; intros) | split | simp
theorem State.sleepSteps_flashCanonical  (s : State) (h : CellsWf s.flash.cells) : CellsWf (State.sleepSteps s).flash.cells := by
  unfold State.sleepSteps
  repeat' first | assumption | (with_reducible apply State.pcieDown_flashCanonical) | (with_reducible apply foldl_flashCanonical; intros) | split | simp
theorem State.standbyEnter_flashCanonical  (s : State) (h : CellsWf s.flash.cells) : CellsWf (State.standbyEnter s).flash.cells := by
  unfold State.standbyEnter
  repeat' first | assumption | (with_reducible apply State.restart_flashCanonical) | (with_reducible apply foldl_flashCanonical; intros) | split | simp
theorem State.quiesced_flashCanonical  (s : State) (h : CellsWf s.flash.cells) : CellsWf (State.quiesced s).flash.cells := by
  unfold State.quiesced
  repeat' first | assumption | (with_reducible apply State.sleepSteps_flashCanonical) | (with_reducible apply State.standbyEnter_flashCanonical) | (with_reducible apply foldl_flashCanonical; intros) | split | simp
theorem execQuiesceDone_flashCanonical  (s : State) (h : CellsWf s.flash.cells) : ∀ q1, (execQuiesceDone s) = .next q1 → CellsWf q1.flash.cells := by
  rintro q1 ⟨⟩
  repeat' first | assumption | (with_reducible apply State.quiesced_flashCanonical) | (with_reducible apply foldl_flashCanonical; intros) | split | simp
theorem execQuiesceTimeout_flashCanonical  (busy : BitVec 4) (s : State) (h : CellsWf s.flash.cells) : ∀ q1, (execQuiesceTimeout busy s) = .next q1 → CellsWf q1.flash.cells := by
  rintro q1 ⟨⟩
  repeat' first | assumption | (with_reducible apply State.quiesced_flashCanonical) | (with_reducible apply foldl_flashCanonical; intros) | split | simp
theorem State.standbyWake_flashCanonical  (s : State) (h : CellsWf s.flash.cells) : CellsWf (State.standbyWake s).flash.cells := by
  unfold State.standbyWake
  repeat' first | assumption | (with_reducible apply State.keeperStart_flashCanonical) | (with_reducible apply foldl_flashCanonical; intros) | split | simp
theorem State.wakeSource_flashCanonical  (s : State) (src port : Nat) (h : CellsWf s.flash.cells) : CellsWf (State.wakeSource s src port).flash.cells := by
  unfold State.wakeSource
  repeat' first | assumption | (with_reducible apply State.wokenRun_flashCanonical) | (with_reducible apply State.standbyWake_flashCanonical) | (with_reducible apply foldl_flashCanonical; intros) | split | simp
theorem execWakeSource_flashCanonical  (src : Fin 8) (port : Fin 2) (s : State) (h : CellsWf s.flash.cells) : ∀ q1, (execWakeSource src port s) = .next q1 → CellsWf q1.flash.cells := by
  rintro q1 ⟨⟩
  repeat' first | assumption | (with_reducible apply State.wakeSource_flashCanonical) | (with_reducible apply foldl_flashCanonical; intros) | split | simp
theorem State.wakeTimer_flashCanonical  (s : State) (h : CellsWf s.flash.cells) : CellsWf (State.wakeTimer s).flash.cells := by
  unfold State.wakeTimer
  repeat' first | assumption | (with_reducible apply State.wakeSource_flashCanonical) | (with_reducible apply foldl_flashCanonical; intros) | split | simp
theorem execWakeTimerExpiry_flashCanonical  (s : State) (h : CellsWf s.flash.cells) : ∀ q1, (execWakeTimerExpiry s) = .next q1 → CellsWf q1.flash.cells := by
  rintro q1 ⟨⟩
  repeat' first | assumption | (with_reducible apply State.wakeTimer_flashCanonical) | (with_reducible apply foldl_flashCanonical; intros) | split | simp
theorem execSleepWakeRun_flashCanonical  (stale : StaleBanks) (s : State) (h : CellsWf s.flash.cells) : ∀ q1, (execSleepWakeRun stale s) = .next q1 → CellsWf q1.flash.cells := by
  rintro q1 ⟨⟩
  repeat' first | assumption | (with_reducible apply State.wokenRun_flashCanonical) | (with_reducible apply foldl_flashCanonical; intros) | split | simp
theorem execThermalSample_flashCanonical  (bays hub : List (BitVec 8)) (s : State) (h : CellsWf s.flash.cells) : ∀ q1, (execThermalSample bays hub s) = .next q1 → CellsWf q1.flash.cells := by
  rintro q1 ⟨⟩
  repeat' first | assumption | (with_reducible apply State.trip_flashCanonical) | (with_reducible apply foldl_flashCanonical; intros) | split | simp
theorem execRegulatorFault_flashCanonical  (r : Fin 26) (s : State) (h : CellsWf s.flash.cells) : ∀ q1, (execRegulatorFault r s) = .next q1 → CellsWf q1.flash.cells := by
  rintro q1 ⟨⟩
  repeat' first | assumption | (with_reducible apply State.trip_flashCanonical) | (with_reducible apply foldl_flashCanonical; intros) | split | simp
theorem State.reloadRequest_flashCanonical  (s : State) (cause : Nat) (h : CellsWf s.flash.cells) : CellsWf (State.reloadRequest s cause).flash.cells := by
  unfold State.reloadRequest
  repeat' first | assumption | (with_reducible apply State.reloadNow_flashCanonical) | (with_reducible apply State.wakeSource_flashCanonical) | (with_reducible apply foldl_flashCanonical; intros) | split | simp
theorem execProgramNFall_flashCanonical  (s : State) (h : CellsWf s.flash.cells) : ∀ q1, (execProgramNFall s) = .next q1 → CellsWf q1.flash.cells := by
  rintro q1 ⟨⟩
  repeat' first | assumption | (with_reducible apply State.reloadRequest_flashCanonical) | (with_reducible apply foldl_flashCanonical; intros) | split | simp
theorem execProgramNRise_flashCanonical  (s : State) (h : CellsWf s.flash.cells) : ∀ q1, (execProgramNRise s) = .next q1 → CellsWf q1.flash.cells := by
  rintro q1 ⟨⟩
  repeat' first | assumption | (with_reducible apply State.nextAttempt_flashCanonical) | (with_reducible apply foldl_flashCanonical; intros) | split | simp
theorem State.sysCtlWrite_flashCanonical  (s : State) (v : Word) (h : CellsWf s.flash.cells) : CellsWf (State.sysCtlWrite s v).flash.cells := by
  unfold State.sysCtlWrite
  repeat' first | assumption | (with_reducible apply State.reloadRequest_flashCanonical) | (with_reducible apply foldl_flashCanonical; intros) | split | simp
theorem execSysCtlReload_flashCanonical  (ag : Agent) (v : Word) (s : State) (h : CellsWf s.flash.cells) : ∀ q1, (execSysCtlReload ag v s) = .next q1 → CellsWf q1.flash.cells := by
  rintro q1 ⟨⟩
  repeat' first | assumption | (with_reducible apply State.sysCtlWrite_flashCanonical) | (with_reducible apply foldl_flashCanonical; intros) | split | simp

/-! Manager. -/

theorem State.waleWrite_flashCanonical  (s : State) (off : Nat) (v : Word) (h : CellsWf s.flash.cells) : CellsWf (State.waleWrite s off v).flash.cells := by
  unfold State.waleWrite
  repeat' first | assumption | (with_reducible apply State.wpCtlWrite_flashCanonical) | (with_reducible apply foldl_flashCanonical; intros) | split | simp
theorem State.sysWrite_flashCanonical  (s : State) (off : Nat) (v : Word) (h : CellsWf s.flash.cells) : CellsWf (State.sysWrite s off v).flash.cells := by
  unfold State.sysWrite
  repeat' first | assumption | (with_reducible apply State.bootClrWrite_flashCanonical) | (with_reducible apply State.sysCtlWrite_flashCanonical) | (with_reducible apply foldl_flashCanonical; intros) | split | simp
theorem State.semBlockWrite_flashCanonical  (s : State) (ag : Agent) (off : Nat) (v : Word) (h : CellsWf s.flash.cells) : CellsWf (State.semBlockWrite s ag off v).flash.cells := by
  rw [State.semBlockWrite]
  refine ite_flashCanonical _ _ _ (State.semWrite_flashCanonical _ _ _ _ h) ?_
  refine ite_flashCanonical _ _ _ (State.semForce_flashCanonical _ _ _ h) ?_
  exact ite_flashCanonical _ _ _ (keep_flashCanonical s _ h (State.mailWrite_flashCells _ _ _ _ _)) (keep_flashCanonical s _ h (State.plainWrite_flashCells _ _ _))
theorem State.hpWrite_flashCanonical  (s : State) (ag : Agent) (p : Fin 2) (off : Nat) (v : Word) (h : CellsWf s.flash.cells) : CellsWf (State.hpWrite s ag p off v).flash.cells := by
  unfold State.hpWrite
  repeat' first | assumption | (with_reducible apply State.hpCtlWrite_flashCanonical) | (with_reducible apply State.hpSend_flashCanonical) | (with_reducible apply foldl_flashCanonical; intros) | split | simp
theorem State.mgrEffect_flashCanonical  (s : State) (ag : Agent) (off : Nat) (v : Word) (h : CellsWf s.flash.cells) : CellsWf (State.mgrEffect s ag off v).flash.cells := by
  rw [State.mgrEffect]
  refine ite_flashCanonical _ _ _ (State.sysWrite_flashCanonical _ _ _ h) ?_
  refine ite_flashCanonical _ _ _ (keep_flashCanonical s _ h (by simp)) ?_
  refine ite_flashCanonical _ _ _ (State.cfgWrite_flashCanonical _ _ _ h) ?_
  refine ite_flashCanonical _ _ _ (keep_flashCanonical s _ h (by simp)) ?_
  refine ite_flashCanonical _ _ _ (keep_flashCanonical s _ h (by simp)) ?_
  refine ite_flashCanonical _ _ _ (keep_flashCanonical s _ h (by simp)) ?_
  refine ite_flashCanonical _ _ _ (keep_flashCanonical s _ h (by simp)) ?_
  refine ite_flashCanonical _ _ _ (State.semBlockWrite_flashCanonical _ _ _ _ h) ?_
  refine ite_flashCanonical _ _ _ (keep_flashCanonical s _ h (by simp)) ?_
  refine ite_flashCanonical _ _ _ (State.hpWrite_flashCanonical _ _ _ _ _ h) ?_
  refine ite_flashCanonical _ _ _ (keep_flashCanonical s _ h (by simp)) ?_
  refine ite_flashCanonical _ _ _ (State.waleWrite_flashCanonical _ _ _ h) ?_
  refine ite_flashCanonical _ _ _ (ite_flashCanonical _ _ _ (keep_flashCanonical s _ h (by simp)) h) ?_
  exact keep_flashCanonical s _ h (by simp)
theorem State.mgrWrite_flashCanonical  (s : State) (ag : Agent) (off : Nat) (v : Word) (h : CellsWf s.flash.cells) : CellsWf (State.mgrWrite s ag off v).flash.cells := by
  unfold State.mgrWrite
  split
  · exact h
  · split
    · exact State.rws_flashCanonical _ _ _ _ h (State.mgrEffect_flashCanonical _ _ _ _ h)
    · exact h
theorem State.mgrValue_flashCanonical  (s : State) (ag : Agent) (off : Nat) (h : CellsWf s.flash.cells) : CellsWf (State.mgrValue s ag off).2.flash.cells := by
  unfold State.mgrValue
  split
  · simpa using h
  split
  · simpa using h
  split
  · simpa using h
  split
  · simpa using h
  split
  · simpa using h
  split
  · exact State.sretRead_flashCanonical _ _ h
  split
  · exact State.sretRead_flashCanonical _ _ h
  · exact h
theorem State.mgrRead_flashCanonical  (s : State) (ag : Agent) (off : Nat) (h : CellsWf s.flash.cells) : CellsWf (State.mgrRead s ag off).2.flash.cells := by
  unfold State.mgrRead
  repeat' first | assumption | (with_reducible apply State.mgrValue_flashCanonical) | (with_reducible apply foldl_flashCanonical; intros) | split | simp

/-! Access. -/

theorem State.mgrReads_flashCanonical  (s : State) (ag : Agent) (off : Nat) (x0 : Nat) (h : CellsWf s.flash.cells) : CellsWf (State.mgrReads s ag off x0).2.flash.cells := by
  induction x0 generalizing s ag off with
  | zero => unfold State.mgrReads; repeat' first | assumption | (with_reducible apply State.mgrRead_flashCanonical) | (with_reducible apply foldl_flashCanonical; intros) | split | simp
  | succ n ih =>
    unfold State.mgrReads
    repeat' first | assumption | (with_reducible apply State.mgrRead_flashCanonical) | (with_reducible apply ih) | split | simp
theorem State.mgrWrites_flashCanonical  (s : State) (ag : Agent) (off : Nat) (x0 : List Word) (h : CellsWf s.flash.cells) : CellsWf (State.mgrWrites s ag off x0).flash.cells := by
  induction x0 generalizing s ag off with
  | nil => unfold State.mgrWrites; repeat' first | assumption | (with_reducible apply State.mgrWrite_flashCanonical) | (with_reducible apply foldl_flashCanonical; intros) | split | simp
  | cons a l ih =>
    unfold State.mgrWrites
    repeat' first | assumption | (with_reducible apply State.mgrWrite_flashCanonical) | (with_reducible apply ih) | split | simp
theorem State.inbound_flashCanonical  (s : State) (b : WaleBlock) (mem : Nat) (h : CellsWf s.flash.cells) : ∀ q1, (State.inbound s b mem) = some q1 → CellsWf q1.flash.cells := by
  intro q1 hq
  unfold State.inbound at hq
  dsimp only at hq
  split at hq
  · cases hq; first | simpa using h | (rw [State.inboundEnd_flashCells]; exact State.mgrReads_flashCanonical _ _ _ _ h)
  · cases hq; first | simpa using h | (rw [State.inboundEnd_flashCells]; exact State.mgrReads_flashCanonical _ _ _ _ h)
  · split at hq
    · cases hq
      rw [State.inboundEnd_flashCells]
      exact State.mgrWrites_flashCanonical _ _ _ _ h
    · cases hq; first | simpa using h | (rw [State.inboundEnd_flashCells]; exact State.mgrReads_flashCanonical _ _ _ _ h)
  · rename_i o _
    have e := State.flashReads_flashCells s (.wale b.src) o b.len.val
    split at hq
    · rename_i hr; rw [hr] at e; cases hq; rw [State.inboundEnd_flashCells]; dsimp only at e; rw [e]; exact h
    · cases hq
  · rw [State.inboundHamper_flashCells _ _ _ _ _ hq]; exact h
  · rw [State.inboundWindow_flashCells _ _ _ _ hq]; exact h
  · cases hq; first | simpa using h | (rw [State.inboundEnd_flashCells]; exact State.mgrReads_flashCanonical _ _ _ _ h)
theorem State.inboundNext_flashCanonical  (s : State) (h : CellsWf s.flash.cells) : ∀ q1, (State.inboundNext s) = some q1 → CellsWf q1.flash.cells := by
  intro q1 hq
  unfold State.inboundNext at hq
  split at hq
  · cases hq
  · split at hq
    · cases hq
    · exact State.inbound_flashCanonical _ _ _ (by simpa using h) _ hq
theorem State.spiApply_flashCanonical  (s : State) (p : Fin 2) (a : Nat) (w : Word) (h : CellsWf s.flash.cells) : CellsWf (State.spiApply s p a w).flash.cells := by
  unfold State.spiApply
  repeat' first | assumption | (with_reducible apply State.windowWrite_flashCanonical) | (with_reducible apply State.mgrWrite_flashCanonical) | (with_reducible apply foldl_flashCanonical; intros) | split | simp
theorem State.spiReadWord_flashCanonical  (s : State) (p : Fin 2) (a : Nat) (h : CellsWf s.flash.cells) : CellsWf (State.spiReadWord s p a).2.flash.cells := by
  unfold State.spiReadWord
  repeat' first | assumption | (with_reducible apply State.mgrRead_flashCanonical) | (with_reducible apply foldl_flashCanonical; intros) | split | simp
theorem State.spiReads_flashCanonical  (s : State) (p : Fin 2) (a : Nat) (x0 : Nat) (h : CellsWf s.flash.cells) : CellsWf (State.spiReads s p a x0).2.flash.cells := by
  induction x0 generalizing s a with
  | zero => exact h
  | succ n ih =>
    have e := State.spiReadWord_flashCanonical s p a h
    unfold State.spiReads
    split
    · rename_i hr; rw [hr] at e; exact e
    · rename_i hr; rw [hr] at e; exact ih _ _ e
theorem State.spiItem_flashCanonical  (s : State) (p : Fin 2) (x0 : SpiItem) (h : CellsWf s.flash.cells) : CellsWf (State.spiItem s p x0).flash.cells := by
  unfold State.spiItem
  repeat' first | assumption | (with_reducible apply State.windowWrite_flashCanonical) | (with_reducible apply State.spiApply_flashCanonical) | (with_reducible apply State.spiReads_flashCanonical) | (with_reducible apply foldl_flashCanonical; intros) | split | simp
theorem State.spiTake_flashCanonical  (s : State) (p : Fin 2) (i : SpiItem) (h : CellsWf s.flash.cells) : CellsWf (State.spiTake s p i).flash.cells := by
  unfold State.spiTake
  repeat' first | assumption | (with_reducible apply State.spiItem_flashCanonical) | (with_reducible apply foldl_flashCanonical; intros) | split | simp
theorem State.spiNext_flashCanonical  (s : State) (p : Fin 2) (h : CellsWf s.flash.cells) : ∀ q1, (State.spiNext s p) = some q1 → CellsWf q1.flash.cells := by
  intro q1 hq
  unfold State.spiNext at hq
  dsimp only at hq
  (repeat' split at hq) <;> first | cases hq | skip
  all_goals (repeat' first | assumption | (with_reducible apply State.spiItem_flashCanonical) | (with_reducible apply foldl_flashCanonical; intros) | split | simp)
theorem State.spiWrites_flashCanonical  (s : State) (p : Fin 2) (a : Nat) (x0 : List Word) (h : CellsWf s.flash.cells) : CellsWf (State.spiWrites s p a x0).flash.cells := by
  induction x0 generalizing s p a with
  | nil => unfold State.spiWrites; repeat' first | assumption | (with_reducible apply State.spiTake_flashCanonical) | (with_reducible apply foldl_flashCanonical; intros) | split | simp
  | cons a l ih =>
    unfold State.spiWrites
    repeat' first | assumption | (with_reducible apply State.spiTake_flashCanonical) | (with_reducible apply ih) | split | simp
theorem execSpiRead_flashCanonical  (port : Fin 2) (addr : Word) (n : Nat) (s : State) (h : CellsWf s.flash.cells) : ∀ q1, (execSpiRead port addr n s) = .next q1 → CellsWf q1.flash.cells := by
  rintro q1 ⟨⟩
  repeat' first | assumption | (with_reducible apply State.spiTake_flashCanonical) | (with_reducible apply foldl_flashCanonical; intros) | split | simp
theorem execSpiWrite_flashCanonical  (port : Fin 2) (addr : Word) (words : List Word) (s : State) (h : CellsWf s.flash.cells) : ∀ q1, (execSpiWrite port addr words s) = .next q1 → CellsWf q1.flash.cells := by
  rintro q1 ⟨⟩
  repeat' first | assumption | (with_reducible apply State.spiWrites_flashCanonical) | (with_reducible apply foldl_flashCanonical; intros) | split | simp
theorem execSpiStatus_flashCanonical  (port : Fin 2) (s : State) (h : CellsWf s.flash.cells) : ∀ q1, (execSpiStatus port s) = .next q1 → CellsWf q1.flash.cells := by
  rintro q1 ⟨⟩
  repeat' first | assumption | (with_reducible apply State.spiTake_flashCanonical) | (with_reducible apply foldl_flashCanonical; intros) | split | simp
theorem execStreamWindowWrite_flashCanonical  (port : Fin 2) (spi : Bool) (words : List Word) (s : State) (h : CellsWf s.flash.cells) : ∀ q1, (execStreamWindowWrite port spi words s) = .next q1 → CellsWf q1.flash.cells := by
  rintro q1 ⟨⟩
  repeat' first | assumption | (with_reducible apply State.windowWrite_flashCanonical) | (with_reducible apply State.spiTake_flashCanonical) | (with_reducible apply foldl_flashCanonical; intros) | split | simp
theorem State.barWrite_flashCanonical  (s : State) (p : Fin 2) (off : Nat) (v : Word) (h : CellsWf s.flash.cells) : CellsWf (State.barWrite s p off v).flash.cells := by
  unfold State.barWrite
  repeat' first | assumption | (with_reducible apply State.windowWrite_flashCanonical) | (with_reducible apply State.mgrWrite_flashCanonical) | (with_reducible apply foldl_flashCanonical; intros) | split | simp
theorem State.masterLocal_flashCanonical  (s : State) (p : Nat) (r : MasterReq) (h : CellsWf s.flash.cells) : ∀ q1, (State.masterLocal s p r) = some q1 → CellsWf q1.2.2.flash.cells := by
  intro q1 hq
  unfold State.masterLocal at hq
  dsimp only at hq
  have dec : CellsWf (s.gwErr p 3).flash.cells := by simpa using h
  split at hq
  · cases hq; exact dec
  split at hq
  · cases hq; exact dec
  · cases hq; exact dec
  · cases hq; exact dec
  · split at hq
    · cases hq; first | simpa using h | exact State.mgrReads_flashCanonical _ _ _ _ h
    · split at hq <;> (cases hq; first | simpa using h | exact State.mgrReads_flashCanonical _ _ _ _ h)
  · split at hq
    · cases hq; exact State.mgrWrites_flashCanonical _ _ _ _ h
    · cases hq; first | simpa using h | exact State.mgrReads_flashCanonical _ _ _ _ h
  · rename_i o _
    have e := State.flashReads_flashCells s .gateway o r.len
    split at hq
    · cases hq; first | simpa using h | exact State.mgrReads_flashCanonical _ _ _ _ h
    · split at hq
      · rename_i hr; rw [hr] at e; cases hq; dsimp only at e; rw [e]; exact h
      · cases hq
  · split at hq
    · cases hq; exact h
    · split at hq
      · cases hq
      · cases hq
        split
        · simpa using h
        · split <;> simpa using h
theorem State.masterHere_flashCanonical  (s : State) (p : Nat) (r : MasterReq) (h : CellsWf s.flash.cells) : ∀ q1, (State.masterHere s p r) = some q1 → CellsWf q1.flash.cells := by
  intro q1 hq
  unfold State.masterHere at hq
  split at hq
  · rw [Option.map_eq_some_iff] at hq
    obtain ⟨q, hq, rfl⟩ := hq
    have e := State.masterLocal_flashCanonical _ _ _ h _ hq
    simpa using e
  · rw [Option.map_eq_some_iff] at hq
    obtain ⟨q, hq, rfl⟩ := hq
    exact State.masterLocal_flashCanonical _ _ _ h _ hq
theorem State.busManager_flashCanonical  (s : State) (c : Fin 4) (a : BusAccess) (o : Nat) (h : CellsWf s.flash.cells) : CellsWf (State.busManager s c a o).flash.cells := by
  unfold State.busManager
  repeat' first | assumption | (with_reducible apply State.mgrReads_flashCanonical) | (with_reducible apply State.mgrWrites_flashCanonical) | (with_reducible apply foldl_flashCanonical; intros) | split | simp
theorem State.busTry_flashCanonical  (s : State) (c : Fin 4) (a : BusAccess) (h : CellsWf s.flash.cells) : ∀ q1, (State.busTry s c a) = some q1 → CellsWf q1.flash.cells := by
  intro q1 hq
  unfold State.busTry at hq
  split at hq
  · cases hq; simpa using h
  · cases hq; simpa using h
  · cases hq; exact State.busManager_flashCanonical _ _ _ _ h
  · cases hq; rw [State.busFlash_flashCells]; exact h
  · rw [State.busHamper_flashCells _ _ _ _ _ hq]; exact h
  · rw [State.busWindow_flashCells _ _ _ _ _ hq]; exact h
  · cases hq; simpa using h
theorem State.waitTry_flashCanonical  (s : State) (i : WaitItem) (h : CellsWf s.flash.cells) : ∀ q1, (State.waitTry s i) = some q1 → CellsWf q1.flash.cells := by
  intro q1 hq
  unfold State.waitTry at hq
  split at hq
  · cases hq
  split at hq
  · exact State.busTry_flashCanonical _ _ _ h _ hq
  · exact State.masterHere_flashCanonical _ _ _ h _ hq
  · rw [State.gwAccess_flashCells _ _ _ _ hq]; exact h
  · cases hq
    split
    · exact State.barWrite_flashCanonical _ _ _ _ h
    · exact State.mgrWrite_flashCanonical _ _ _ _ h
theorem State.waitTake_flashCanonical  (s : State) (i : WaitItem) (h : CellsWf s.flash.cells) : CellsWf (State.waitTake s i).flash.cells := by
  unfold State.waitTake
  dsimp only
  split
  · exact h
  · cases hw : s.waitTry i with
    | none => exact h
    | some t => exact State.waitTry_flashCanonical _ _ h _ hw
theorem State.waitFirst_flashCanonical  (s : State) (before : List Nat) (x0 : List (WaitItem × Nat)) (h : CellsWf s.flash.cells) : ∀ q1, (State.waitFirst s before x0) = some q1 → CellsWf q1.flash.cells := by
  induction x0 generalizing s before with
  | nil => intro q1 hq; cases hq
  | cons e l ih =>
    intro q1 hq
    obtain ⟨i, k⟩ := e
    unfold State.waitFirst at hq
    split at hq
    · exact ih _ _ h _ hq
    · split at hq
      · rename_i ht
        cases hq
        exact State.waitTry_flashCanonical { s with waits := s.waits.eraseIdx k } i h _ ht
      · exact ih _ _ h _ hq
theorem State.settleOne_flashCanonical  (s : State) (h : CellsWf s.flash.cells) : ∀ q1, (State.settleOne s) = some q1 → CellsWf q1.flash.cells := by
  intro q1 hq
  simp only [State.settleOne, Option.orElse_eq_orElse, Option.orElse_eq_or, Option.or_eq_some_iff] at hq
  rcases hq with hq | ⟨-, hq | ⟨-, hq | ⟨-, hq | ⟨-, hq | ⟨-, hq⟩⟩⟩⟩⟩
  · rw [State.answerNext_flashCells _ _ hq]; exact h
  · exact State.inboundNext_flashCanonical _ h _ hq
  · rw [State.tagNext_flashCells _ _ hq]; exact h
  · exact State.spiNext_flashCanonical _ _ h _ hq
  · exact State.spiNext_flashCanonical _ _ h _ hq
  · exact State.waitFirst_flashCanonical _ _ _ h _ hq
theorem State.settle_flashCanonical  (s : State) (x0 : Nat) (h : CellsWf s.flash.cells) : CellsWf (State.settle s x0).flash.cells := by
  induction x0 generalizing s with
  | zero => exact h
  | succ n ih =>
    unfold State.settle
    split
    · rename_i hq
      exact ih _ (State.settleOne_flashCanonical _ h _ hq)
    · exact h
theorem execWaleWrite_flashCanonical  (p : Fin 6) (b : WaleBlock) (mem : Fin 4) (s : State) (h : CellsWf s.flash.cells) : ∀ q1, (execWaleWrite p b mem s) = .next q1 → CellsWf q1.flash.cells := by
  rintro q1 ⟨⟩
  repeat' first | assumption | (with_reducible apply State.blockIn_flashCanonical) | (with_reducible apply State.settle_flashCanonical) | (with_reducible apply foldl_flashCanonical; intros) | split | simp
theorem execWaleRead_flashCanonical  (p : Fin 6) (b : WaleBlock) (mem : Fin 4) (s : State) (h : CellsWf s.flash.cells) : ∀ q1, (execWaleRead p b mem s) = .next q1 → CellsWf q1.flash.cells := by
  rintro q1 ⟨⟩
  repeat' first | assumption | (with_reducible apply State.blockIn_flashCanonical) | (with_reducible apply State.settle_flashCanonical) | (with_reducible apply foldl_flashCanonical; intros) | split | simp
theorem execWaleRqGo_flashCanonical  (ag : Agent) (n : Fin 4) (op : Fin 8) (ack : Bool) (len : Fin 256) (s : State) (h : CellsWf s.flash.cells) : ∀ q1, (execWaleRqGo ag n op ack len s) = .next q1 → CellsWf q1.flash.cells := by
  rintro q1 ⟨⟩
  repeat' first | assumption | (with_reducible apply State.settle_flashCanonical) | (with_reducible apply foldl_flashCanonical; intros) | split | simp
theorem execRegisterWrite_flashCanonical  (ag : Agent) (off : Nat) (v : Word) (full : Bool) (s : State) (h : CellsWf s.flash.cells) : ∀ q1, (execRegisterWrite ag off v full s) = .next q1 → CellsWf q1.flash.cells := by
  rintro q1 ⟨⟩
  repeat' first | assumption | (with_reducible apply State.waitTake_flashCanonical) | (with_reducible apply foldl_flashCanonical; intros) | split | simp
theorem execGwWindowAccess_flashCanonical  (ag : Agent) (req : WindowReq) (s : State) (h : CellsWf s.flash.cells) : ∀ q1, (execGwWindowAccess ag req s) = .next q1 → CellsWf q1.flash.cells := by
  rintro q1 ⟨⟩
  repeat' first | assumption | (with_reducible apply State.waitTake_flashCanonical) | (with_reducible apply foldl_flashCanonical; intros) | split | simp
theorem execGwMasterRequest_flashCanonical  (port : Fin 4) (req : MasterReq) (s : State) (h : CellsWf s.flash.cells) : ∀ q1, (execGwMasterRequest port req s) = .next q1 → CellsWf q1.flash.cells := by
  rintro q1 ⟨⟩
  repeat' first | assumption | (with_reducible apply State.waitTake_flashCanonical) | (with_reducible apply State.settle_flashCanonical) | (with_reducible apply foldl_flashCanonical; intros) | split | simp
theorem execClusterBusAccess_flashCanonical  (core : Fin 4) (acc : BusAccess) (s : State) (h : CellsWf s.flash.cells) : ∀ q1, (execClusterBusAccess core acc s) = .next q1 → CellsWf q1.flash.cells := by
  intro q1 hq
  unfold execClusterBusAccess at hq
  split at hq
  · cases hq; exact h
  split at hq
  · cases hq
  · cases hq; exact State.waitTake_flashCanonical _ _ h

/-! Edge. -/

theorem State.innerEdge_flashCanonical  (s : State) (bay net : Nat) (p : InnerPins) (h : CellsWf s.flash.cells) : CellsWf (State.innerEdge s bay net p).flash.cells := by
  unfold State.innerEdge
  repeat' first | assumption | (with_reducible apply State.spentEnd_flashCanonical) | (with_reducible apply foldl_flashCanonical; intros) | split | simp
theorem State.portEdges_flashCanonical  (s : State) (bay net : Nat) (p : EdgePins) (h : CellsWf s.flash.cells) : CellsWf (State.portEdges s bay net p).flash.cells := by
  unfold State.portEdges
  repeat' first | assumption | (with_reducible apply State.innerEdge_flashCanonical) | (with_reducible apply foldl_flashCanonical; intros) | split | simp
theorem State.stakePass_flashCanonical  (s : State) (bay net : Nat) (rising : Bool) (p : EdgePins) (h : CellsWf s.flash.cells) : CellsWf (State.stakePass s bay net rising p).flash.cells := by
  unfold State.stakePass
  repeat' first | assumption | (with_reducible apply State.portEdges_flashCanonical) | (with_reducible apply foldl_flashCanonical; intros) | split | simp
theorem State.stakeEdge_flashCanonical  (s : State) (bay net : Nat) (rising : Bool) (p : EdgePins) (h : CellsWf s.flash.cells) : CellsWf (State.stakeEdge s bay net rising p).flash.cells := by
  unfold State.stakeEdge
  repeat' first | assumption | (with_reducible apply State.stakePass_flashCanonical) | (with_reducible apply foldl_flashCanonical; intros) | split | simp
theorem execStakeNetEdge_flashCanonical  (bay : Fin 96) (net : Fin 24) (rising : Bool) (pins : EdgePins) (s : State) (h : CellsWf s.flash.cells) : ∀ q1, (execStakeNetEdge bay net rising pins s) = .next q1 → CellsWf q1.flash.cells := by
  rintro q1 ⟨⟩
  repeat' first | assumption | (with_reducible apply State.stakeEdge_flashCanonical) | (with_reducible apply foldl_flashCanonical; intros) | split | simp
theorem State.wtimerTick_flashCanonical  (s : State) (h : CellsWf s.flash.cells) : CellsWf (State.wtimerTick s).flash.cells := by
  unfold State.wtimerTick
  repeat' first | assumption | (with_reducible apply State.wakeTimer_flashCanonical) | (with_reducible apply foldl_flashCanonical; intros) | split | simp
theorem State.eventWake_flashCanonical  (s : State) (h : CellsWf s.flash.cells) : CellsWf (State.eventWake s).flash.cells := by
  unfold State.eventWake
  repeat' first | assumption | (with_reducible apply State.wakeSource_flashCanonical) | (with_reducible apply foldl_flashCanonical; intros) | split | simp
theorem State.idle_flashCanonical  (s : State) (h : CellsWf s.flash.cells) : CellsWf (State.idle s).flash.cells := by
  unfold State.idle
  repeat' first | assumption | (with_reducible apply State.journalFlush_flashCanonical) | (with_reducible apply State.settle_flashCanonical) | (with_reducible apply State.wtimerTick_flashCanonical) | (with_reducible apply State.eventWake_flashCanonical) | (with_reducible apply foldl_flashCanonical; intros) | split | simp

end Sys2Proof.Machine
end

