-- ==== Sys2Proof/Laws/FrameFuses.lean ====
section
/-! SUPPORT. Which operations leave the life-cycle fuses as they are, and that the others only blow fuses. -/
namespace Sys2Proof.Machine

/-! Ops. -/

@[simp] theorem fuses_ite (c : Prop) [Decidable c] (a b : State) :
    (if c then a else b).keys.fuses = if c then a.keys.fuses else b.keys.fuses := by split <;> rfl
@[simp] theorem foldl_fuses {α : Type} (f : State → α → State) (h : ∀ t a, (f t a).keys.fuses = t.keys.fuses)
    (l : List α) (s : State) : (l.foldl f s).keys.fuses = s.keys.fuses := by
  induction l generalizing s with
  | nil => rfl
  | cons a l ih => simp [ih, h]

@[simp] theorem State.wr_fuses (s : State) (off : Nat) (v : Word) : (State.wr s off v).keys.fuses = s.keys.fuses := by simp [State.wr]
@[simp] theorem State.liveWr_fuses (s : State) (off : Nat) (v : Word) : (State.liveWr s off v).keys.fuses = s.keys.fuses := by simp [State.liveWr]
@[simp] theorem State.setFld_fuses (s : State) (off hi lo v : Nat) : (State.setFld s off hi lo v).keys.fuses = s.keys.fuses := by simp [State.setFld]
@[simp] theorem State.setBit_fuses (s : State) (off i : Nat) (b : Bool) : (State.setBit s off i b).keys.fuses = s.keys.fuses := by simp [State.setBit]
@[simp] theorem State.orReg_fuses (s : State) (off : Nat) (m : Word) : (State.orReg s off m).keys.fuses = s.keys.fuses := by simp [State.orReg]
@[simp] theorem State.bumpSat_fuses (s : State) (off : Nat) : (State.bumpSat s off).keys.fuses = s.keys.fuses := by simp [State.bumpSat]
@[simp] theorem State.plainWrite_fuses (s : State) (off : Nat) (v : Word) : (State.plainWrite s off v).keys.fuses = s.keys.fuses := by unfold State.plainWrite; (repeat' split) <;> simp
@[simp] theorem State.setMode_fuses (s : State) (m : Nat) : (State.setMode s m).keys.fuses = s.keys.fuses := by simp [State.setMode]
@[simp] theorem State.sysFault_fuses (s : State) (i : Nat) : (State.sysFault s i).keys.fuses = s.keys.fuses := by simp [State.sysFault]
@[simp] theorem State.freshWord_fuses (s : State) : (State.freshWord s).2.keys.fuses = s.keys.fuses := by simp [State.freshWord]
@[simp] theorem State.freshNat_fuses (s : State) : (State.freshNat s).2.keys.fuses = s.keys.fuses := by simp [State.freshNat]
@[simp] theorem State.emit_fuses (s : State) (e : Emission) : (State.emit s e).keys.fuses = s.keys.fuses := by simp [State.emit]
@[simp] theorem State.setPort_fuses (s : State) (p : Fin 2) (h : HostPort) : (State.setPort s p h).keys.fuses = s.keys.fuses := by simp [State.setPort]
@[simp] theorem State.msixSend_fuses (s : State) (p : Fin 2) (vec : Nat) : (State.msixSend s p vec).keys.fuses = s.keys.fuses := by simp [State.msixSend]
@[simp] theorem State.msixFlush_fuses (s : State) (p : Fin 2) : (State.msixFlush s p).keys.fuses = s.keys.fuses := by simp [State.msixFlush]
@[simp] theorem State.msixAfter_fuses (before : State) (n : Nat) (s : State) : (State.msixAfter before n s).keys.fuses = s.keys.fuses := by simp [State.msixAfter]
@[simp] theorem State.raise_fuses (s : State) (n : Nat) : (State.raise s n).keys.fuses = s.keys.fuses := by simp [State.raise]
@[simp] theorem State.raiseIf_fuses (s : State) (c : Bool) (n : Nat) : (State.raiseIf s c n).keys.fuses = s.keys.fuses := by simp [State.raiseIf]
@[simp] theorem State.portEvent_fuses (s : State) (p : Fin 2) (i : Nat) : (State.portEvent s p i).keys.fuses = s.keys.fuses := by simp [State.portEvent]
@[simp] theorem State.semFreed_fuses (s : State) (n : Nat) : (State.semFreed s n).keys.fuses = s.keys.fuses := by simp [State.semFreed]
@[simp] theorem State.semFree_fuses (s : State) (n : Nat) : (State.semFree s n).keys.fuses = s.keys.fuses := by simp [State.semFree]
@[simp] theorem State.semAutoRelease_fuses (s : State) (ident : Nat) : (State.semAutoRelease s ident).keys.fuses = s.keys.fuses := by simp [State.semAutoRelease]
@[simp] theorem State.semAllFree_fuses (s : State) : (State.semAllFree s).keys.fuses = s.keys.fuses := by simp [State.semAllFree]
@[simp] theorem State.portDiscard_fuses (s : State) (ag : Agent) (region off : Nat) : (State.portDiscard s ag region off).keys.fuses = s.keys.fuses := by unfold State.portDiscard; dsimp only; repeat' first | (simp; done) | split
@[simp] theorem State.discard_fuses (s : State) (ag : Agent) (region off : Nat) : (State.discard s ag region off).keys.fuses = s.keys.fuses := by simp [State.discard]
@[simp] theorem State.guarded_fuses (s : State) (ag : Agent) (n off : Nat) (t : State) (h : t.keys.fuses = s.keys.fuses) : (s.guarded ag n off t).keys.fuses = s.keys.fuses := by unfold State.guarded; split <;> simp [h]
@[simp] theorem State.rws_fuses (s : State) (ag : Agent) (off : Nat) (t : State) (h : t.keys.fuses = s.keys.fuses) : (s.rws ag off t).keys.fuses = s.keys.fuses := by unfold State.rws; (repeat' split) <;> simp [h]

/-! WaleTree. -/

@[simp] theorem State.setWale_fuses (s : State) (w : WaleSt) : (State.setWale s w).keys.fuses = s.keys.fuses := by simp [State.setWale]
@[simp] theorem State.setWp_fuses (s : State) (p : Nat) (v : WpSt) : (State.setWp s p v).keys.fuses = s.keys.fuses := by simp [State.setWp]
@[simp] theorem State.wpEvent_fuses (s : State) (p i : Nat) : (State.wpEvent s p i).keys.fuses = s.keys.fuses := by simp [State.wpEvent]
@[simp] theorem State.wpFault_fuses (s : State) (p i : Nat) : (State.wpFault s p i).keys.fuses = s.keys.fuses := by simp [State.wpFault]
@[simp] theorem State.waleErr_fuses (s : State) (i : Nat) : (State.waleErr s i).keys.fuses = s.keys.fuses := by simp [State.waleErr]
@[simp] theorem State.waleEmit_fuses (s : State) (p : Nat) (o : WaleOut) : (State.waleEmit s p o).keys.fuses = s.keys.fuses := by simp [State.waleEmit]
@[simp] theorem State.wpClear_fuses (s : State) (p : Nat) : (State.wpClear s p).keys.fuses = s.keys.fuses := by simp [State.wpClear]
@[simp] theorem State.linkSend_fuses (s : State) (p : Nat) (b : WaleBlock) : (State.linkSend s p b).keys.fuses = s.keys.fuses := by simp [State.linkSend]
@[simp] theorem State.linkDrain_fuses (s : State) (p : Nat) : (State.linkDrain s p).keys.fuses = s.keys.fuses := by simp [State.linkDrain]
@[simp] theorem State.bcastOut_fuses (s : State) (from_ : Option Nat) (b : WaleBlock) : (State.bcastOut s from_ b).keys.fuses = s.keys.fuses := by simp [State.bcastOut]
@[simp] theorem State.sysBcast_fuses (s : State) (m : SysMsg) : (State.sysBcast s m).keys.fuses = s.keys.fuses := by simp [State.sysBcast]
@[simp] theorem State.sysNeighbour_fuses (s : State) (p : Nat) (m : SysMsg) : (State.sysNeighbour s p m).keys.fuses = s.keys.fuses := by simp [State.sysNeighbour]
@[simp] theorem State.advertise_fuses (s : State) (p : Nat) : (State.advertise s p).keys.fuses = s.keys.fuses := by simp [State.advertise]
@[simp] theorem State.advertiseAll_fuses (s : State) : (State.advertiseAll s).keys.fuses = s.keys.fuses := by simp [State.advertiseAll]
@[simp] theorem State.setTlock_fuses (s : State) (b : Bool) : (State.setTlock s b).keys.fuses = s.keys.fuses := by simp [State.setTlock]
@[simp] theorem State.chainRefresh_fuses (s : State) : (State.chainRefresh s).keys.fuses = s.keys.fuses := by simp [State.chainRefresh]
@[simp] theorem State.waleTimeRefresh_fuses (s : State) : (State.waleTimeRefresh s).keys.fuses = s.keys.fuses := by simp [State.waleTimeRefresh]
@[simp] theorem State.treeRefresh_fuses (s : State) : (State.treeRefresh s).keys.fuses = s.keys.fuses := by simp [State.treeRefresh]
@[simp] theorem State.waleSemRelease_fuses (s : State) : (State.waleSemRelease s).keys.fuses = s.keys.fuses := by simp [State.waleSemRelease]
@[simp] theorem State.linkDrop_fuses (s : State) (p cause : Nat) : (State.linkDrop s p cause).keys.fuses = s.keys.fuses := by simp [State.linkDrop]
@[simp] theorem State.walePortsDrop_fuses (s : State) : (State.walePortsDrop s).keys.fuses = s.keys.fuses := by simp [State.walePortsDrop]

/-! Clocks. -/

@[simp] theorem State.commitRwb_fuses (s : State) (off : Nat) (cap val : Word) : (State.commitRwb s off cap val).keys.fuses = s.keys.fuses := by simp [State.commitRwb]
@[simp] theorem State.hubWrite_fuses (s : State) (ag : Agent) (v : Word) : (State.hubWrite s ag v).keys.fuses = s.keys.fuses := by simp [State.hubWrite]
@[simp] theorem State.hubClockSwitch_fuses (s : State) : (State.hubClockSwitch s).keys.fuses = s.keys.fuses := by simp [State.hubClockSwitch]
theorem execClkHubWrite_fuses (ag : Agent) (v : Word) (s : State) : ∀ q1, (execClkHubWrite ag v s) = .next q1 → q1.keys.fuses = s.keys.fuses := by
  rintro q1 ⟨⟩; simp
theorem execHubSynthLock_fuses (s : State) : ∀ q1, (execHubSynthLock s) = .next q1 → q1.keys.fuses = s.keys.fuses := by
  rintro q1 ⟨⟩; simp
@[simp] theorem State.setSynthPhase_fuses (s : State) (n : Nat) (p : SynthPhase) : (State.setSynthPhase s n p).keys.fuses = s.keys.fuses := by simp [State.setSynthPhase]
@[simp] theorem State.illegalSel_fuses (s : State) : (State.illegalSel s).keys.fuses = s.keys.fuses := by simp [State.illegalSel]
@[simp] theorem State.lockRefresh_fuses (s : State) (n : Nat) : (State.lockRefresh s n).keys.fuses = s.keys.fuses := by simp [State.lockRefresh]
@[simp] theorem State.synthMeasure_fuses (s : State) (g n : Nat) : (State.synthMeasure s g n).keys.fuses = s.keys.fuses := by simp [State.synthMeasure]
@[simp] theorem State.synthBegin_fuses (s : State) (n : Nat) (c : SynthClass) : (State.synthBegin s n c).keys.fuses = s.keys.fuses := by unfold State.synthBegin; (repeat' split) <;> simp
@[simp] theorem State.synthPend_fuses (s : State) (n : Nat) : (State.synthPend s n).keys.fuses = s.keys.fuses := by simp [State.synthPend]
@[simp] theorem State.synthApply_fuses (s : State) (n : Nat) (vals : List (Nat × Word)) : (State.synthApply s n vals).keys.fuses = s.keys.fuses := by simp [State.synthApply]
@[simp] theorem State.synthLose_fuses (s : State) (n : Nat) : (State.synthLose s n).keys.fuses = s.keys.fuses := by simp [State.synthLose]
theorem execSynthGlideDone_fuses (n : Fin 32) (s : State) : ∀ q1, (execSynthGlideDone n s) = .next q1 → q1.keys.fuses = s.keys.fuses := by
  rintro q1 ⟨⟩; simp
theorem execSynthDividerDone_fuses (n : Fin 32) (s : State) : ∀ q1, (execSynthDividerDone n s) = .next q1 → q1.keys.fuses = s.keys.fuses := by
  rintro q1 ⟨⟩; simp
theorem execSynthLock_fuses (n : Fin 32) (s : State) : ∀ q1, (execSynthLock n s) = .next q1 → q1.keys.fuses = s.keys.fuses := by
  rintro q1 ⟨⟩; simp
theorem execSynthLossOfLock_fuses (n : Fin 32) (s : State) : ∀ q1, (execSynthLossOfLock n s) = .next q1 → q1.keys.fuses = s.keys.fuses := by
  rintro q1 ⟨⟩; simp
theorem execSynthHoldoverExit_fuses (n : Fin 32) (s : State) : ∀ q1, (execSynthHoldoverExit n s) = .next q1 → q1.keys.fuses = s.keys.fuses := by
  rintro q1 ⟨⟩; simp
@[simp] theorem State.tclkHoldover_fuses (s : State) : (State.tclkHoldover s).keys.fuses = s.keys.fuses := by simp [State.tclkHoldover]
theorem execRefinLost_fuses (s : State) : ∀ q1, (execRefinLost s) = .next q1 → q1.keys.fuses = s.keys.fuses := by
  rintro q1 ⟨⟩; simp
theorem execRefinRestored_fuses (s : State) : ∀ q1, (execRefinRestored s) = .next q1 → q1.keys.fuses = s.keys.fuses := by
  rintro q1 ⟨⟩; simp
theorem execXrefLost_fuses (s : State) : ∀ q1, (execXrefLost s) = .next q1 → q1.keys.fuses = s.keys.fuses := by
  rintro q1 ⟨⟩; simp
theorem execXrefRestored_fuses (s : State) : ∀ q1, (execXrefRestored s) = .next q1 → q1.keys.fuses = s.keys.fuses := by
  rintro q1 ⟨⟩; simp
@[simp] theorem State.setSwitching_fuses (s : State) (k v : Nat) : (State.setSwitching s k v).keys.fuses = s.keys.fuses := by simp [State.setSwitching]
@[simp] theorem State.netChange_fuses (s : State) (k old new : Nat) : (State.netChange s k old new).keys.fuses = s.keys.fuses := by simp [State.netChange]
@[simp] theorem State.selectWrite_fuses (s : State) (off : Nat) (legal : Bool) (v : Word) : (State.selectWrite s off legal v).keys.fuses = s.keys.fuses := by simp [State.selectWrite]
@[simp] theorem State.rimApply_fuses (s : State) (k j : Nat) (vals : List (Nat × Word)) : (State.rimApply s k j vals).keys.fuses = s.keys.fuses := by unfold State.rimApply; (repeat' split) <;> simp
@[simp] theorem State.vselApply_fuses (s : State) (w j : Nat) (vals : List (Nat × Word)) : (State.vselApply s w j vals).keys.fuses = s.keys.fuses := by unfold State.vselApply; (repeat' split) <;> simp
theorem execRimSelectWrite_fuses (ag : Agent) (reg : RimReg) (v : Word) (s : State) : ∀ q1, (execRimSelectWrite ag reg v s) = .next q1 → q1.keys.fuses = s.keys.fuses := by
  intro q1 h
  cases reg <;> (cases h; simp)
theorem execGlitchFreeSwitchDone_fuses (net : ClockNet) (s : State) : ∀ q1, (execGlitchFreeSwitchDone net s) = .next q1 → q1.keys.fuses = s.keys.fuses := by
  rintro q1 ⟨⟩; simp
theorem execGlitchFreeSwitchForced_fuses (net : ClockNet) (s : State) : ∀ q1, (execGlitchFreeSwitchForced net s) = .next q1 → q1.keys.fuses = s.keys.fuses := by
  rintro q1 ⟨⟩; simp
@[simp] theorem State.setFmRun_fuses (s : State) (m v : Nat) : (State.setFmRun s m v).keys.fuses = s.keys.fuses := by simp [State.setFmRun]
@[simp] theorem State.fmTick_fuses (s : State) (m : Nat) : (State.fmTick s m).keys.fuses = s.keys.fuses := by simp [State.fmTick]
@[simp] theorem State.fmWrite_fuses (s : State) (m : Nat) (v : Word) : (State.fmWrite s m v).keys.fuses = s.keys.fuses := by simp [State.fmWrite]
theorem execFmSourceWrite_fuses (ag : Agent) (m : Fin 16) (v : Word) (s : State) : ∀ q1, (execFmSourceWrite ag m v s) = .next q1 → q1.keys.fuses = s.keys.fuses := by
  rintro q1 ⟨⟩; simp
theorem execFmWindowEnd_fuses (m : Fin 16) (count : Word) (s : State) : ∀ q1, (execFmWindowEnd m count s) = .next q1 → q1.keys.fuses = s.keys.fuses := by
  intro q1 h; unfold execFmWindowEnd at h; dsimp only at h; (repeat' split at h) <;> first | (cases h; simp) | (cases h; (repeat' split) <;> simp_all)
@[simp] theorem State.clkWrite_fuses (s : State) (ag : Agent) (off : Nat) (v : Word) : (State.clkWrite s ag off v).keys.fuses = s.keys.fuses := by simp [State.clkWrite]

/-! Planes. -/

@[simp] theorem State.setFrame_fuses (s : State) (latch key : Nat) (f : BitVec 10240) : (State.setFrame s latch key f).keys.fuses = s.keys.fuses := by simp [State.setFrame]
@[simp] theorem State.setChk_fuses (s : State) (latch key : Nat) (w : Word) : (State.setChk s latch key w).keys.fuses = s.keys.fuses := by simp [State.setChk]
@[simp] theorem State.setDyn_fuses (s : State) (latch key : Nat) (b : Bool) : (State.setDyn s latch key b).keys.fuses = s.keys.fuses := by simp [State.setDyn]
@[simp] theorem State.putFrame_fuses (s : State) (latch key : Nat) (f : BitVec 10240) (dyn : Bool) : (State.putFrame s latch key f dyn).keys.fuses = s.keys.fuses := by simp [State.putFrame]
@[simp] theorem State.clearLatch_fuses (s : State) (u latch : Nat) : (State.clearLatch s u latch).keys.fuses = s.keys.fuses := by simp [State.clearLatch]
@[simp] theorem State.clearPlanes_fuses (s : State) : (State.clearPlanes s).keys.fuses = s.keys.fuses := by simp [State.clearPlanes]
@[simp] theorem State.flipUnit_fuses (s : State) (u : Nat) : (State.flipUnit s u).keys.fuses = s.keys.fuses := by simp [State.flipUnit]
@[simp] theorem State.setShState_fuses (s : State) (u v : Nat) : (State.setShState s u v).keys.fuses = s.keys.fuses := by simp [State.setShState]
@[simp] theorem State.setBport_fuses (s : State) (k : Nat) (v : BPort) : (State.setBport s k v).keys.fuses = s.keys.fuses := by simp [State.setBport]
@[simp] theorem State.bportHold_fuses (s : State) (k : Nat) : (State.bportHold s k).keys.fuses = s.keys.fuses := by unfold State.bportHold; (repeat' split) <;> simp
@[simp] theorem State.bportsHold_fuses (s : State) (sel : Nat → Bool) : (State.bportsHold s sel).keys.fuses = s.keys.fuses := by
  unfold State.bportsHold
  apply foldl_fuses
  intro t n
  split
  · split
    · exact State.bportHold_fuses _ _
    · rfl
  · rfl
@[simp] theorem State.setBond_fuses (s : State) (u : Nat) (hold : Bool) : (State.setBond s u hold).keys.fuses = s.keys.fuses := by simp [State.setBond]
@[simp] theorem State.setInit_fuses (s : State) (bay : Nat) (hold : Bool) : (State.setInit s bay hold).keys.fuses = s.keys.fuses := by simp [State.setInit]
@[simp] theorem State.setOut_fuses (s : State) (k : Nat) (on : Bool) : (State.setOut s k on).keys.fuses = s.keys.fuses := by simp [State.setOut]
@[simp] theorem State.setArrayWord_fuses (s : State) (a w : Nat) (v : BitVec 36) : (State.setArrayWord s a w v).keys.fuses = s.keys.fuses := by simp [State.setArrayWord]
@[simp] theorem State.setCreelWord_fuses (s : State) (n w : Nat) (v : BitVec 36) : (State.setCreelWord s n w v).keys.fuses = s.keys.fuses := by simp [State.setCreelWord]
@[simp] theorem State.clearArray_fuses (s : State) (a : Nat) : (State.clearArray s a).keys.fuses = s.keys.fuses := by simp [State.clearArray]
@[simp] theorem State.copyArray_fuses (s : State) (src dst : Nat) : (State.copyArray s src dst).keys.fuses = s.keys.fuses := by simp [State.copyArray]
@[simp] theorem State.putContent_fuses (s : State) (p : Word) (f : BitVec 10240) : (State.putContent s p f).keys.fuses = s.keys.fuses := by simp [State.putContent]
@[simp] theorem State.staleReport_fuses (s : State) : (State.staleReport s).keys.fuses = s.keys.fuses := by simp [State.staleReport]
@[simp] theorem State.makeStale_fuses (s : State) (n : Nat) : (State.makeStale s n).keys.fuses = s.keys.fuses := by simp [State.makeStale]
@[simp] theorem State.staleOff_fuses (s : State) (n : Nat) : (State.staleOff s n).keys.fuses = s.keys.fuses := by simp [State.staleOff]
@[simp] theorem State.staleClear_fuses (s : State) (n : Nat) : (State.staleClear s n).keys.fuses = s.keys.fuses := by simp [State.staleClear]

/-! Cadence. -/

@[simp] theorem State.cadErr_fuses (s : State) (i : Nat) : (State.cadErr s i).keys.fuses = s.keys.fuses := by simp [State.cadErr]
@[simp] theorem State.adjDone_fuses (s : State) : (State.adjDone s).keys.fuses = s.keys.fuses := by simp [State.adjDone]
@[simp] theorem State.ppsInstant_fuses (s : State) : (State.ppsInstant s).keys.fuses = s.keys.fuses := by simp [State.ppsInstant]
@[simp] theorem State.tclkEdge_fuses (s : State) : (State.tclkEdge s).keys.fuses = s.keys.fuses := by simp [State.tclkEdge]
@[simp] theorem State.setGen_fuses (s : State) (g : Nat) (v : Gen) : (State.setGen s g v).keys.fuses = s.keys.fuses := by simp [State.setGen]
@[simp] theorem State.genApply_fuses (s : State) (g : Nat) (b : Instant) (vals : List (Nat × Word)) : (State.genApply s g b vals).keys.fuses = s.keys.fuses := by simp [State.genApply]
@[simp] theorem State.setMb_fuses (s : State) (i : Nat) (v : Option Instant) : (State.setMb s i v).keys.fuses = s.keys.fuses := by simp [State.setMb]
@[simp] theorem State.mbTake_fuses (s : State) (i : Nat) (x : Instant) (x0 : FireResult) : (State.mbTake s i x x0).keys.fuses = s.keys.fuses := by
  cases x0 with
  | posted => unfold State.mbTake; dsimp only; split <;> simp
  | late => exact State.cadErr_fuses _ _
  | busy => exact State.cadErr_fuses _ _
@[simp] theorem State.mbPost_fuses (s : State) (i : Nat) (x : Instant) : (State.mbPost s i x).keys.fuses = s.keys.fuses := by simp [State.mbPost]
@[simp] theorem State.mbSkip_fuses (s : State) (i : Nat) (new : Instant) : (State.mbSkip s i new).keys.fuses = s.keys.fuses := by unfold State.mbSkip; (repeat' split) <;> simp
@[simp] theorem State.tbStep_fuses (s : State) (off : Int) : (State.tbStep s off).keys.fuses = s.keys.fuses := by simp [State.tbStep]
@[simp] theorem State.adjStep_fuses (s : State) : (State.adjStep s).keys.fuses = s.keys.fuses := by simp [State.adjStep]
@[simp] theorem State.adjSlew_fuses (s : State) : (State.adjSlew s).keys.fuses = s.keys.fuses := by simp [State.adjSlew]
@[simp] theorem State.adjWrite_fuses (s : State) (v : Word) : (State.adjWrite s v).keys.fuses = s.keys.fuses := by simp [State.adjWrite]
theorem execAdjStep_fuses (ag : Agent) (s : State) : ∀ q1, (execAdjStep ag s) = .next q1 → q1.keys.fuses = s.keys.fuses := by
  rintro q1 ⟨⟩; simp
theorem execAdjSlew_fuses (ag : Agent) (s : State) : ∀ q1, (execAdjSlew ag s) = .next q1 → q1.keys.fuses = s.keys.fuses := by
  rintro q1 ⟨⟩; simp
theorem execSlewDone_fuses (s : State) : ∀ q1, (execSlewDone s) = .next q1 → q1.keys.fuses = s.keys.fuses := by
  rintro q1 ⟨⟩; simp
theorem execSyncCapture_fuses (x : Fin 3) (falling : Bool) (s : State) : ∀ q1, (execSyncCapture x falling s) = .next q1 → q1.keys.fuses = s.keys.fuses := by
  intro q1 h; unfold execSyncCapture at h; dsimp only at h; (repeat' split at h) <;> first | (cases h; simp) | (cases h; (repeat' split) <;> simp_all)
@[simp] theorem State.setSnap_fuses (s : State) (off : Nat) (v : Word) : (State.setSnap s off v).keys.fuses = s.keys.fuses := by simp [State.setSnap]
@[simp] theorem State.captureRead_fuses (s : State) (x : Nat) : (State.captureRead s x).2.keys.fuses = s.keys.fuses := by simp [State.captureRead]
theorem execCaptureRead_fuses (ag : Agent) (x : Fin 3) (s : State) : ∀ q1, (execCaptureRead ag x s) = .next q1 → q1.keys.fuses = s.keys.fuses := by
  rintro q1 ⟨⟩; simp
theorem execPpsInLost_fuses (s : State) : ∀ q1, (execPpsInLost s) = .next q1 → q1.keys.fuses = s.keys.fuses := by
  rintro q1 ⟨⟩; simp
theorem execPpsOutPulse_fuses (s : State) : ∀ q1, (execPpsOutPulse s) = .next q1 → q1.keys.fuses = s.keys.fuses := by
  rintro q1 ⟨⟩; simp
theorem execPpsOutPulseEnd_fuses (s : State) : ∀ q1, (execPpsOutPulseEnd s) = .next q1 → q1.keys.fuses = s.keys.fuses := by
  rintro q1 ⟨⟩; simp
@[simp] theorem State.wideTick_fuses (s : State) (off : Nat) : (State.wideTick s off).keys.fuses = s.keys.fuses := by simp [State.wideTick]
@[simp] theorem State.snapRead_fuses (s0 : State) (off : Nat) : (State.snapRead s0 off).2.keys.fuses = s0.keys.fuses := by unfold State.snapRead; (repeat' split) <;> simp
theorem execSnapshotRead_fuses (ag : Agent) (off : Nat) (s : State) : ∀ q1, (execSnapshotRead ag off s) = .next q1 → q1.keys.fuses = s.keys.fuses := by
  rintro q1 ⟨⟩; simp
@[simp] theorem State.setTap_fuses (s : State) (i : Nat) (v : Option Instant) : (State.setTap s i v).keys.fuses = s.keys.fuses := by simp [State.setTap]
@[simp] theorem State.tapSchedule_fuses (s : State) (i g : Nat) (t : Instant) : (State.tapSchedule s i g t).keys.fuses = s.keys.fuses := by simp [State.tapSchedule]
@[simp] theorem State.fbrApply_fuses (s : State) (n : Nat) (vals : List (Nat × Word)) : (State.fbrApply s n vals).keys.fuses = s.keys.fuses := by unfold State.fbrApply; dsimp only; repeat' first | (simp; done) | split
@[simp] theorem State.fbrPresent_fuses (s t : State) (n : Nat) (vals : List (Nat × Word)) : (State.fbrPresent s t n vals).keys.fuses = t.keys.fuses := by unfold State.fbrPresent; dsimp only; repeat' first | (simp; done) | split
@[simp] theorem State.fbrsApply_fuses (s : State) (vals : List (Nat × Word)) : (State.fbrsApply s vals).keys.fuses = s.keys.fuses := by simp [State.fbrsApply]
@[simp] theorem State.cadWrite_fuses (s : State) (off : Nat) (v : Word) : (State.cadWrite s off v).keys.fuses = s.keys.fuses := by simp [State.cadWrite]

/-! FlashDie. -/

@[simp] theorem State.withFlash_fuses (s : State) (f : FlashState) : (State.withFlash s f).keys.fuses = s.keys.fuses := by simp [State.withFlash]
@[simp] theorem State.halfReport_fuses (s : State) : (State.halfReport s).keys.fuses = s.keys.fuses := by unfold State.halfReport; (repeat' split) <;> simp
@[simp] theorem State.ledgerLost_fuses (s : State) : (State.ledgerLost s).keys.fuses = s.keys.fuses := by simp [State.ledgerLost]
@[simp] theorem State.ledgerUse_fuses (s : State) (f : FlashState) (h blank free seq : Nat) : (State.ledgerUse s f h blank free seq).keys.fuses = s.keys.fuses := by simp [State.ledgerUse]
@[simp] theorem State.ledgerTake_fuses (s : State) (h : Nat) : (State.ledgerTake s h).keys.fuses = s.keys.fuses := by rw [State.ledgerTake, State.ledgerUse_fuses]
@[simp] theorem State.ledgerBuild_fuses (s : State) : (State.ledgerBuild s).keys.fuses = s.keys.fuses := by
  unfold State.ledgerBuild
  split
  · exact State.ledgerLost_fuses s
  · exact State.ledgerTake_fuses s _
@[simp] theorem State.logProgram_fuses (s : State) (w : BitVec 64) : (State.logProgram s w).keys.fuses = s.keys.fuses := by simp [State.logProgram]
@[simp] theorem State.logSpoil_fuses (s : State) : (State.logSpoil s).keys.fuses = s.keys.fuses := by simp [State.logSpoil]
@[simp] theorem State.compact_fuses (s : State) : (State.compact s).keys.fuses = s.keys.fuses := by simp [State.compact]

/-! Journal. -/

@[simp] theorem State.flashRefuse_fuses (s : State) (ag : Agent) (off code : Nat) : (State.flashRefuse s ag off code).keys.fuses = s.keys.fuses := by simp [State.flashRefuse]
theorem State.journalPut_fuses (s : State) (r : Nat) : ∀ q1, (State.journalPut s r) = some q1 → q1.keys.fuses = s.keys.fuses := by
  intro q1 h
  simp only [State.journalPut] at h
  (repeat' split at h) <;> simp_all <;> (try (subst h; simp))
@[simp] theorem State.journalWriteAll_fuses (s : State) (x0 : List Nat) : (State.journalWriteAll s x0).keys.fuses = s.keys.fuses := by
  induction x0 generalizing s with
  | nil => rfl
  | cons a l ih =>
    unfold State.journalWriteAll
    split
    · rename_i h
      rw [ih, State.journalPut_fuses _ _ _ h]
    · rfl
@[simp] theorem State.journalFlush_fuses (s : State) : (State.journalFlush s).keys.fuses = s.keys.fuses := by simp [State.journalFlush]
@[simp] theorem State.journal_fuses (s : State) (step outcome code src addr arg : Nat) : (State.journal s step outcome code src addr arg).keys.fuses = s.keys.fuses := by simp [State.journal]
@[simp] theorem State.eraseTest_fuses (s : State) : (State.eraseTest s).keys.fuses = s.keys.fuses := by simp [State.eraseTest]
@[simp] theorem State.stagingMode_fuses (s : State) : (State.stagingMode s).keys.fuses = s.keys.fuses := by simp [State.stagingMode]

/-! Flash. -/

@[simp] theorem State.flashStart_fuses (s : State) (op : FlashOp) : (State.flashStart s op).keys.fuses = s.keys.fuses := by simp [State.flashStart]
@[simp] theorem State.flashEnd_fuses (s : State) : (State.flashEnd s).keys.fuses = s.keys.fuses := by simp [State.flashEnd]
@[simp] theorem State.lastOp_fuses (s : State) (op : FlashOp) (pulses : Nat) (failed : Bool) : (State.lastOp s op pulses failed).keys.fuses = s.keys.fuses := by simp [State.lastOp]
@[simp] theorem State.wearReport_fuses (s : State) (op : FlashOp) (pulses : Nat) : (State.wearReport s op pulses).keys.fuses = s.keys.fuses := by simp [State.wearReport]
@[simp] theorem State.badEntry_fuses (s : State) (op : FlashOp) (e : SecEntry) : (State.badEntry s op e).keys.fuses = s.keys.fuses := by simp [State.badEntry]
@[simp] theorem State.markBad_fuses (s : State) (op : FlashOp) : (State.markBad s op).keys.fuses = s.keys.fuses := by simp [State.markBad]
@[simp] theorem State.failOp_fuses (s : State) (op : FlashOp) : (State.failOp s op).keys.fuses = s.keys.fuses := by simp [State.failOp]
@[simp] theorem State.flashAbandon_fuses (s : State) : (State.flashAbandon s).keys.fuses = s.keys.fuses := by unfold State.flashAbandon; (repeat' split) <;> simp
@[simp] theorem State.flashSuspend_fuses (s : State) (eng : Bool) : (State.flashSuspend s eng).keys.fuses = s.keys.fuses := by simp [State.flashSuspend]
@[simp] theorem State.flashResume_fuses (s : State) (eng : Bool) : (State.flashResume s eng).keys.fuses = s.keys.fuses := by simp [State.flashResume]
theorem execFlashSuspendEffect_fuses (s : State) : ∀ q1, (execFlashSuspendEffect s) = .next q1 → q1.keys.fuses = s.keys.fuses := by
  intro q1 h; unfold execFlashSuspendEffect at h; dsimp only at h; (repeat' split at h) <;> first | (cases h; simp) | (cases h; (repeat' split) <;> simp_all)
@[simp] theorem State.startProgram_fuses (s : State) (ag : Agent) (off : Nat) (line : Bool) (addr : Nat) (words : List (BitVec 64)) : (State.startProgram s ag off line addr words).keys.fuses = s.keys.fuses := by unfold State.startProgram; (repeat' split) <;> simp
@[simp] theorem State.startErase_fuses (s : State) (ag : Agent) (off sec : Nat) : (State.startErase s ag off sec).keys.fuses = s.keys.fuses := by simp [State.startErase]
@[simp] theorem State.setSeq_fuses (s : State) (q : FlashSeq) : (State.setSeq s q).keys.fuses = s.keys.fuses := by simp [State.setSeq]
@[simp] theorem State.seqErr_fuses (s : State) (ag : Agent) (off : Nat) : (State.seqErr s ag off).keys.fuses = s.keys.fuses := by simp [State.seqErr]
@[simp] theorem State.unlockedCycle_fuses (s : State) (ag : Agent) (off code : Nat) : (State.unlockedCycle s ag off code).keys.fuses = s.keys.fuses := by unfold State.unlockedCycle; (repeat' split) <;> simp
@[simp] theorem State.idleCycle_fuses (s : State) (ag : Agent) (off code : Nat) : (State.idleCycle s ag off code).keys.fuses = s.keys.fuses := by simp [State.idleCycle]
@[simp] theorem State.dataCycle_fuses (s : State) (ag : Agent) (off : Nat) (wide : Bool) (v : BitVec 64) (line : Bool) (addr : Nat) (words : List (BitVec 64)) (half : Option Word) : (State.dataCycle s ag off wide v line addr words half).keys.fuses = s.keys.fuses := by unfold State.dataCycle; (repeat' split) <;> simp
@[simp] theorem State.flashCycle_fuses (s : State) (ag : Agent) (off : Nat) (wide : Bool) (v : BitVec 64) : (State.flashCycle s ag off wide v).keys.fuses = s.keys.fuses := by unfold State.flashCycle; (repeat' split) <;> simp
theorem execFlashUnlockFirst_fuses (ag : Agent) (off : Nat) (s : State) : ∀ q1, (execFlashUnlockFirst ag off s) = .next q1 → q1.keys.fuses = s.keys.fuses := by
  rintro q1 ⟨⟩; simp
theorem execFlashUnlockSecond_fuses (ag : Agent) (off : Nat) (s : State) : ∀ q1, (execFlashUnlockSecond ag off s) = .next q1 → q1.keys.fuses = s.keys.fuses := by
  rintro q1 ⟨⟩; simp
theorem execFlashProgramWordCmd_fuses (ag : Agent) (off : Nat) (s : State) : ∀ q1, (execFlashProgramWordCmd ag off s) = .next q1 → q1.keys.fuses = s.keys.fuses := by
  rintro q1 ⟨⟩; simp
theorem execFlashProgramLineCmd_fuses (ag : Agent) (off : Nat) (s : State) : ∀ q1, (execFlashProgramLineCmd ag off s) = .next q1 → q1.keys.fuses = s.keys.fuses := by
  rintro q1 ⟨⟩; simp
theorem execFlashDataCycle_fuses (ag : Agent) (off : Nat) (wide : Bool) (v : BitVec 64) (s : State) : ∀ q1, (execFlashDataCycle ag off wide v s) = .next q1 → q1.keys.fuses = s.keys.fuses := by
  rintro q1 ⟨⟩; simp
theorem execFlashEraseSetup_fuses (ag : Agent) (off : Nat) (s : State) : ∀ q1, (execFlashEraseSetup ag off s) = .next q1 → q1.keys.fuses = s.keys.fuses := by
  rintro q1 ⟨⟩; simp
theorem execFlashEraseConfirm_fuses (ag : Agent) (off : Nat) (s : State) : ∀ q1, (execFlashEraseConfirm ag off s) = .next q1 → q1.keys.fuses = s.keys.fuses := by
  rintro q1 ⟨⟩; simp
theorem execFlashSuspendCmd_fuses (ag : Agent) (off : Nat) (s : State) : ∀ q1, (execFlashSuspendCmd ag off s) = .next q1 → q1.keys.fuses = s.keys.fuses := by
  rintro q1 ⟨⟩; simp
theorem execFlashResumeCmd_fuses (ag : Agent) (off : Nat) (s : State) : ∀ q1, (execFlashResumeCmd ag off s) = .next q1 → q1.keys.fuses = s.keys.fuses := by
  rintro q1 ⟨⟩; simp
theorem execFlashReadStatusCmd_fuses (ag : Agent) (off : Nat) (s : State) : ∀ q1, (execFlashReadStatusCmd ag off s) = .next q1 → q1.keys.fuses = s.keys.fuses := by
  rintro q1 ⟨⟩; simp
theorem execFlashInfoEntryCmd_fuses (ag : Agent) (off : Nat) (s : State) : ∀ q1, (execFlashInfoEntryCmd ag off s) = .next q1 → q1.keys.fuses = s.keys.fuses := by
  rintro q1 ⟨⟩; simp
theorem execFlashReturnToRead_fuses (ag : Agent) (off : Nat) (s : State) : ∀ q1, (execFlashReturnToRead ag off s) = .next q1 → q1.keys.fuses = s.keys.fuses := by
  rintro q1 ⟨⟩; simp
theorem execFlashProgramDone_fuses (pulses : Nat) (pass : Bool) (s : State) : ∀ q1, (execFlashProgramDone pulses pass s) = .next q1 → q1.keys.fuses = s.keys.fuses := by
  intro q1 h; unfold execFlashProgramDone at h; dsimp only at h; (repeat' split at h) <;> first | (cases h; simp) | (cases h; (repeat' split) <;> simp_all)
@[simp] theorem State.spoilLogs_fuses (s : State) (x0 : Nat) : (State.spoilLogs s x0).keys.fuses = s.keys.fuses := by
  induction x0 generalizing s with
  | zero => simp [State.spoilLogs]
  | succ n ih => simp [State.spoilLogs, ih]
@[simp] theorem State.ledgerFail_fuses (s : State) : (State.ledgerFail s).keys.fuses = s.keys.fuses := by simp [State.ledgerFail]
theorem execFlashIntentRecorded_fuses (fails : Fin 9) (s : State) : ∀ q1, (execFlashIntentRecorded fails s) = .next q1 → q1.keys.fuses = s.keys.fuses := by
  intro q1 h; unfold execFlashIntentRecorded at h; dsimp only at h; (repeat' split at h) <;> first | (cases h; simp) | (cases h; (repeat' split) <;> simp_all)
@[simp] theorem State.opStage_fuses (s : State) (op : FlashOp) (st : FlashStage) : (State.opStage s op st).keys.fuses = s.keys.fuses := by simp [State.opStage]
theorem execFlashCompactionDone_fuses (s : State) : ∀ q1, (execFlashCompactionDone s) = .next q1 → q1.keys.fuses = s.keys.fuses := by
  intro q1 hq
  unfold execFlashCompactionDone at hq
  split at hq
  · split at hq
    · injection hq with hq; rw [← hq]
    split at hq
    · replace hq := Host.Outcome.next.inj hq
      rw [← hq, State.opStage_fuses, State.compact_fuses]
    · replace hq := Host.Outcome.next.inj hq
      rw [← hq, State.markBad_fuses, State.compact_fuses]
    · injection hq with hq; rw [← hq]
  · injection hq with hq; rw [← hq]
@[simp] theorem State.logComplete_fuses (s : State) (op : FlashOp) (pulses : Nat) : (State.logComplete s op pulses).keys.fuses = s.keys.fuses := by simp [State.logComplete]
theorem execFlashEraseDone_fuses (pulses : Nat) (pass : Bool) (s : State) : ∀ q1, (execFlashEraseDone pulses pass s) = .next q1 → q1.keys.fuses = s.keys.fuses := by
  intro q1 h; unfold execFlashEraseDone at h; dsimp only at h; (repeat' split at h) <;> first | (cases h; simp) | (cases h; (repeat' split) <;> simp_all)
@[simp] theorem State.busyRead_fuses (s : State) : (State.busyRead s).keys.fuses = s.keys.fuses := by simp [State.busyRead]
@[simp] theorem State.flashRead_fuses (s : State) (ag : Agent) (off : Nat) : (State.flashRead s ag off).2.keys.fuses = s.keys.fuses := by unfold State.flashRead; dsimp only; repeat' first | (simp; done) | split
theorem execFlashHostReadBusy_fuses (ag : Agent) (off : Nat) (s : State) : ∀ q1, (execFlashHostReadBusy ag off s) = .next q1 → q1.keys.fuses = s.keys.fuses := by
  intro q1 h
  have e := State.flashRead_fuses s ag off
  unfold execFlashHostReadBusy at h
  split at h <;> (rename_i hr; rw [hr] at e; cases h; simpa using e)
theorem execFlashStalledReadDone_fuses (ag : Agent) (off : Nat) (s : State) : ∀ q1, (execFlashStalledReadDone ag off s) = .next q1 → q1.keys.fuses = s.keys.fuses := by
  intro q1 h
  have e := State.flashRead_fuses s ag off
  unfold execFlashStalledReadDone at h
  split at h <;> (rename_i hr; rw [hr] at e; cases h; simpa using e)

/-! Keys. -/

@[simp] theorem State.lcRefresh_fuses (s : State) : (State.lcRefresh s).keys.fuses = s.keys.fuses := by simp [State.lcRefresh]
@[simp] theorem State.lcDecode_fuses (s : State) (agree : Bool) : (State.lcDecode s agree).keys.fuses = s.keys.fuses := by simp [State.lcDecode]
@[simp] theorem State.keyClear_fuses (s : State) : (State.keyClear s).keys.fuses = s.keys.fuses := by simp [State.keyClear]
@[simp] theorem State.keyLoad_fuses (s : State) : (State.keyLoad s).keys.fuses = s.keys.fuses := by simp [State.keyLoad]
@[simp] theorem State.zeroiseKey_fuses (s : State) (cause : Nat) : (State.zeroiseKey s cause).keys.fuses = s.keys.fuses := by simp [State.zeroiseKey]
@[simp] theorem State.lcResult_fuses (s : State) (jtag : Bool) (code : Nat) : (State.lcResult s jtag code).keys.fuses = s.keys.fuses := by simp [State.lcResult]
@[simp] theorem State.debugOpen_fuses (s : State) (scope : Nat) : (State.debugOpen s scope).keys.fuses = s.keys.fuses := by simp [State.debugOpen]
@[simp] theorem State.debugEnd_fuses (s : State) : (State.debugEnd s).keys.fuses = s.keys.fuses := by simp [State.debugEnd]

/-! Fabric. -/

@[simp] theorem State.setTileBit_fuses (s : State) (bay l r b : Nat) (v : Bool) : (State.setTileBit s bay l r b v).keys.fuses = s.keys.fuses := by simp [State.setTileBit]
@[simp] theorem State.setFf_fuses (s : State) (i : Nat) (v : Bool) : (State.setFf s i v).keys.fuses = s.keys.fuses := by simp [State.setFf]
@[simp] theorem State.initLoad_fuses (s : State) (bay : Nat) : (State.initLoad s bay).keys.fuses = s.keys.fuses := by
  unfold State.initLoad
  dsimp only
  rw [foldl_fuses]
  intro t l
  rw [foldl_fuses]
  intro t r
  rw [foldl_fuses]
  intro t c
  simp
@[simp] theorem State.tileEdge_fuses (s t : State) (bay l r net : Nat) (rising : Bool) (w : FabricPins) : (State.tileEdge s t bay l r net rising w).keys.fuses = t.keys.fuses := by simp [State.tileEdge]
@[simp] theorem State.cellsEdge_fuses (s t : State) (bay net : Nat) (rising : Bool) (w : FabricPins) : (State.cellsEdge s t bay net rising w).keys.fuses = t.keys.fuses := by simp [State.cellsEdge]
@[simp] theorem State.asyncBay_fuses (s t : State) (bay : Nat) (w : FabricPins) : (s.asyncBay t bay w).keys.fuses = t.keys.fuses := by
  unfold State.asyncBay
  split
  · rfl
  · apply foldl_fuses
    intro t l
    apply foldl_fuses
    intro t r
    apply foldl_fuses
    intro t k
    dsimp only
    split
    · apply foldl_fuses
      intro t i
      simp
    · rfl
@[simp] theorem State.setBridge_fuses (s : State) (i : Nat) (v : Word) : (State.setBridge s i v).keys.fuses = s.keys.fuses := by simp [State.setBridge]
@[simp] theorem State.groupEdge_fuses (s t : State) (bay net dir band row g : Nat) (w : FabricPins) : (State.groupEdge s t bay net dir band row g w).keys.fuses = t.keys.fuses := by simp [State.groupEdge]
@[simp] theorem State.bridgesEdge_fuses (s t : State) (bay net : Nat) (w : FabricPins) : (State.bridgesEdge s t bay net w).keys.fuses = t.keys.fuses := by simp [State.bridgesEdge]
@[simp] theorem State.setGate_fuses (s : State) (bay net : Nat) (shut : Bool) : (State.setGate s bay net shut).keys.fuses = s.keys.fuses := by simp [State.setGate]

/-! Creels. -/

@[simp] theorem State.setCreel_fuses (s : State) (n : Nat) (c : CreelSt) : (State.setCreel s n c).keys.fuses = s.keys.fuses := by simp [State.setCreel]
@[simp] theorem State.setCreelBit_fuses (s : State) (n nm : Nat) (v : Bool) : (State.setCreelBit s n nm v).keys.fuses = s.keys.fuses := by simp [State.setCreelBit]
@[simp] theorem State.applyWrites_fuses (s : State) (n : Nat) (ws : List (Nat × Bool)) : (State.applyWrites s n ws).keys.fuses = s.keys.fuses := by simp [State.applyWrites]
@[simp] theorem State.portsEdge_fuses (s : State) (n : Nat) (c : CreelCfg) (fa fb : Bool) (p : CreelPins) : (State.portsEdge s n c fa fb p).keys.fuses = s.keys.fuses := by simp [State.portsEdge]
@[simp] theorem State.fifoEdge_fuses (s : State) (n : Nat) (c : CreelCfg) (fw fr : Bool) (p : CreelPins) : (State.fifoEdge s n c fw fr p).keys.fuses = s.keys.fuses := by simp [State.fifoEdge]
@[simp] theorem State.creelEdge_fuses (s : State) (n net : Nat) (rising : Bool) (p : CreelPins) : (State.creelEdge s n net rising p).keys.fuses = s.keys.fuses := by simp [State.creelEdge]
@[simp] theorem State.creelsEdge_fuses (s : State) (bay net : Nat) (rising : Bool) (p : EdgePins) : (State.creelsEdge s bay net rising p).keys.fuses = s.keys.fuses := by simp [State.creelsEdge]
@[simp] theorem State.fifoReset_fuses (s : State) (bay : Nat) (p : EdgePins) : (State.fifoReset s bay p).keys.fuses = s.keys.fuses := by simp [State.fifoReset]
@[simp] theorem State.creelLoad_fuses (s : State) (bay : Nat) : (State.creelLoad s bay).keys.fuses = s.keys.fuses := by simp [State.creelLoad]
theorem execCreelScrubStep_fuses (n : Fin 11520) (s : State) : ∀ q1, (execCreelScrubStep n s) = .next q1 → q1.keys.fuses = s.keys.fuses := by
  intro q1 h; unfold execCreelScrubStep at h; dsimp only at h; (repeat' split at h) <;> first | (cases h; simp) | (cases h; (repeat' split) <;> simp_all)
theorem execCreelScrubWriteBack_fuses (n : Fin 11520) (s : State) : ∀ q1, (execCreelScrubWriteBack n s) = .next q1 → q1.keys.fuses = s.keys.fuses := by
  intro q1 h
  unfold execCreelScrubWriteBack at h
  split at h
  · cases h; rfl
  cases hs : (s.creel n.val).scrubWrite with
  | none => rw [hs] at h; cases h; rfl
  | some e =>
    rw [hs] at h
    injection h with h
    rw [← h, State.setCreel_fuses, State.applyWrites_fuses]

/-! Slices. -/

@[simp] theorem State.setSlice_fuses (s : State) (n : Nat) (v : SliceSt) : (State.setSlice s n v).keys.fuses = s.keys.fuses := by simp [State.setSlice]
@[simp] theorem State.sliceColumnEdge_fuses (s : State) (base net : Nat) (rising : Bool) (pins : Nat → SlicePins) : (State.sliceColumnEdge s base net rising pins).keys.fuses = s.keys.fuses := by simp [State.sliceColumnEdge]
@[simp] theorem State.slicesEdge_fuses (s : State) (bay net : Nat) (rising : Bool) (p : EdgePins) : (State.slicesEdge s bay net rising p).keys.fuses = s.keys.fuses := by simp [State.slicesEdge]
@[simp] theorem State.sliceLoad_fuses (s : State) (bay : Nat) : (State.sliceLoad s bay).keys.fuses = s.keys.fuses := by simp [State.sliceLoad]

/-! Modes. -/

@[simp] theorem State.setBoot_fuses (s : State) (b : BootSt) : (State.setBoot s b).keys.fuses = s.keys.fuses := by simp [State.setBoot]
@[simp] theorem State.enterMode_fuses (s : State) (m : Nat) : (State.enterMode s m).keys.fuses = s.keys.fuses := by simp [State.enterMode]
@[simp] theorem State.setRail_fuses (s : State) (r : Nat) (on : Bool) : (State.setRail s r on).keys.fuses = s.keys.fuses := by simp [State.setRail]
@[simp] theorem State.setRails_fuses (s : State) (rs : List Nat) (on : Bool) : (State.setRails s rs on).keys.fuses = s.keys.fuses := by simp [State.setRails]
@[simp] theorem State.setLevels_fuses (s : State) (a b : Nat) : (State.setLevels s a b).keys.fuses = s.keys.fuses := by simp [State.setLevels]
@[simp] theorem State.driveDone_fuses (s : State) (low : Bool) : (State.driveDone s low).keys.fuses = s.keys.fuses := by simp [State.driveDone]
@[simp] theorem State.fabricZero_fuses (s : State) : (State.fabricZero s).keys.fuses = s.keys.fuses := by simp [State.fabricZero]
@[simp] theorem State.holdDevice_fuses (s : State) : (State.holdDevice s).keys.fuses = s.keys.fuses := by simp [State.holdDevice]
@[simp] theorem State.clearShadows_fuses (s : State) : (State.clearShadows s).keys.fuses = s.keys.fuses := by simp [State.clearShadows]
@[simp] theorem State.clearConfig_fuses (s : State) : (State.clearConfig s).keys.fuses = s.keys.fuses := by simp [State.clearConfig]
@[simp] theorem State.clearGroups_fuses (s : State) : (State.clearGroups s).keys.fuses = s.keys.fuses := by simp [State.clearGroups]
@[simp] theorem State.stageRefresh_fuses (s : State) : (State.stageRefresh s).keys.fuses = s.keys.fuses := by simp [State.stageRefresh]
@[simp] theorem State.busDrop_fuses (s : State) (c : Nat) : (State.busDrop s c).keys.fuses = s.keys.fuses := by simp [State.busDrop]
@[simp] theorem State.coreReset_fuses (s : State) (c : Nat) : (State.coreReset s c).keys.fuses = s.keys.fuses := by simp [State.coreReset]
@[simp] theorem State.clusterHold_fuses (s : State) : (State.clusterHold s).keys.fuses = s.keys.fuses := by simp [State.clusterHold]
@[simp] theorem State.safeHold_fuses (s : State) (cause : Nat) : (State.safeHold s cause).keys.fuses = s.keys.fuses := by simp [State.safeHold]
@[simp] theorem State.prioDefer_fuses (s : State) (outcome : Nat) : (State.prioDefer s outcome).keys.fuses = s.keys.fuses := by simp [State.prioDefer]
@[simp] theorem State.feed_fuses (s : State) (at_ words : Nat) : (State.feed s at_ words).keys.fuses = s.keys.fuses := by simp [State.feed]
@[simp] theorem State.xspiStart_fuses (s : State) (e : BootImage) : (State.xspiStart s e).keys.fuses = s.keys.fuses := by simp [State.xspiStart]
@[simp] theorem State.attemptReads_fuses (s : State) (image : Nat) (prio : Bool) : (State.attemptReads s image prio).keys.fuses = s.keys.fuses := by unfold State.attemptReads; dsimp only; repeat' first | (simp; done) | split
@[simp] theorem State.nextAttempt_fuses (s : State) : (State.nextAttempt s).keys.fuses = s.keys.fuses := by unfold State.nextAttempt; (repeat' split) <;> simp
@[simp] theorem State.failAttempt_fuses (s : State) (code : Nat) (place : Word) : (State.failAttempt s code place).keys.fuses = s.keys.fuses := by simp [State.failAttempt]

/-! Hamper. -/

@[simp] theorem State.setHamp_fuses (s : State) (h : HampSt) : (State.setHamp s h).keys.fuses = s.keys.fuses := by simp [State.setHamp]
@[simp] theorem State.hampScramble_fuses (s : State) : (State.hampScramble s).keys.fuses = s.keys.fuses := by simp [State.hampScramble]
@[simp] theorem State.hampStore_fuses (s : State) (a : Nat) (x0 : List Byte) : (State.hampStore s a x0).keys.fuses = s.keys.fuses := by
  induction x0 generalizing s a with
  | nil => simp [State.hampStore]
  | cons a l ih => simp [State.hampStore, ih]
@[simp] theorem State.hampReport_fuses (s : State) (agent a : Nat) (write : Bool) (sev : Nat) : (State.hampReport s agent a write sev).2.keys.fuses = s.keys.fuses := by unfold State.hampReport; (repeat' split) <;> simp
@[simp] theorem State.setHampPort_fuses (s : State) (n : Nat) (p : HampPortSt) : (State.setHampPort s n p).keys.fuses = s.keys.fuses := by simp [State.setHampPort]
@[simp] theorem State.hampEdge_fuses (s : State) (n : Nat) (pins : HampPins) : (State.hampEdge s n pins).keys.fuses = s.keys.fuses := by unfold State.hampEdge; dsimp only; repeat' first | (simp; done) | split
@[simp] theorem State.hampBayEdge_fuses (s : State) (bay net : Nat) (pins : HampPins) : (State.hampBayEdge s bay net pins).keys.fuses = s.keys.fuses := by unfold State.hampBayEdge; (repeat' split) <;> simp
@[simp] theorem State.hampPutBeats_fuses (s : State) (a : Nat) (x0 : Nat) (x1 : List HampBeat) : (State.hampPutBeats s a x0 x1).keys.fuses = s.keys.fuses := by
  induction x1 generalizing s a x0 with
  | nil => cases x0 <;> rfl
  | cons b bs ih =>
    cases x0 with
    | zero => rfl
    | succ n =>
      rw [State.hampPutBeats, ih, foldl_fuses]
      intro t i
      split <;> rfl
@[simp] theorem State.hampWriteDone_fuses (s : State) (n sev : Nat) : (State.hampWriteDone s n sev).keys.fuses = s.keys.fuses := by unfold State.hampWriteDone; dsimp only; repeat' first | (simp; done) | split
@[simp] theorem State.hampReadDone_fuses (s : State) (n sev : Nat) : (State.hampReadDone s n sev).keys.fuses = s.keys.fuses := by unfold State.hampReadDone; dsimp only; repeat' first | (simp; done) | split
@[simp] theorem State.hampFlush_fuses (s : State) (bay : Nat) : (State.hampFlush s bay).keys.fuses = s.keys.fuses := by unfold State.hampFlush; (repeat' split) <;> simp
theorem execHamperPortRequest_fuses (n : Fin 32) (rq : HampRq) (s : State) : ∀ q1, (execHamperPortRequest n rq s) = .next q1 → q1.keys.fuses = s.keys.fuses := by
  rintro q1 ⟨⟩; simp
theorem execHamperAccessDone_fuses (src : HampSrc) (sev : Fin 4) (s : State) : ∀ q1, (execHamperAccessDone src sev s) = .next q1 → q1.keys.fuses = s.keys.fuses := by
  rintro q1 ⟨⟩; (repeat' split) <;> simp
@[simp] theorem State.hampDisable_fuses (s : State) : (State.hampDisable s).keys.fuses = s.keys.fuses := by simp [State.hampDisable]
@[simp] theorem State.hampReady_fuses (s : State) : (State.hampReady s).keys.fuses = s.keys.fuses := by simp [State.hampReady]
theorem execHamperTrainDone_fuses (pass : Bool) (s : State) : ∀ q1, (execHamperTrainDone pass s) = .next q1 → q1.keys.fuses = s.keys.fuses := by
  rintro q1 ⟨⟩; simp
theorem execHamperTrainTimeout_fuses (s : State) : ∀ q1, (execHamperTrainTimeout s) = .next q1 → q1.keys.fuses = s.keys.fuses := by
  rintro q1 ⟨⟩; simp
@[simp] theorem State.hampTrainWrite_fuses (s : State) : (State.hampTrainWrite s).keys.fuses = s.keys.fuses := by simp [State.hampTrainWrite]
theorem execHamperRetrain_fuses (ag : Agent) (s : State) : ∀ q1, (execHamperRetrain ag s) = .next q1 → q1.keys.fuses = s.keys.fuses := by
  rintro q1 ⟨⟩; simp
theorem execHamperRetrainDrained_fuses (s : State) : ∀ q1, (execHamperRetrainDrained s) = .next q1 → q1.keys.fuses = s.keys.fuses := by
  rintro q1 ⟨⟩; simp
theorem execHamperDrainTimeout_fuses (s : State) : ∀ q1, (execHamperDrainTimeout s) = .next q1 → q1.keys.fuses = s.keys.fuses := by
  rintro q1 ⟨⟩; simp
theorem execHamperRetrainDone_fuses (s : State) : ∀ q1, (execHamperRetrainDone s) = .next q1 → q1.keys.fuses = s.keys.fuses := by
  rintro q1 ⟨⟩; simp
theorem execHamperTempRead_fuses (temp : BitVec 8) (s : State) : ∀ q1, (execHamperTempRead temp s) = .next q1 → q1.keys.fuses = s.keys.fuses := by
  rintro q1 ⟨⟩; simp
theorem execHamperRefresh_fuses (s : State) : ∀ q1, (execHamperRefresh s) = .next q1 → q1.keys.fuses = s.keys.fuses := by
  rintro q1 ⟨⟩; simp
@[simp] theorem State.hampSleep_fuses (s : State) : (State.hampSleep s).keys.fuses = s.keys.fuses := by simp [State.hampSleep]
@[simp] theorem State.hampWake_fuses (s : State) : (State.hampWake s).keys.fuses = s.keys.fuses := by simp [State.hampWake]
theorem execHamperSelfRefreshExit_fuses (s : State) : ∀ q1, (execHamperSelfRefreshExit s) = .next q1 → q1.keys.fuses = s.keys.fuses := by
  rintro q1 ⟨⟩; simp
@[simp] theorem State.hampTrainStart_fuses (s : State) (cons : Bool) : (State.hampTrainStart s cons).keys.fuses = s.keys.fuses := by simp [State.hampTrainStart]

/-! Stream. -/

@[simp] theorem State.setSt_fuses (s : State) (st : StreamSt) : (State.setSt s st).keys.fuses = s.keys.fuses := by simp [State.setSt]
@[simp] theorem fine_fuses (s : State) : (fine s).1.keys.fuses = s.keys.fuses := by simp [fine]
@[simp] theorem stop_fuses (s : State) (code : Nat) : (stop s code).1.keys.fuses = s.keys.fuses := by simp [stop]
@[simp] theorem State.recordErr_fuses (s : State) (src : Nat) (h : Word) (pos : Nat) (e : StreamErr) : (State.recordErr s src h pos e).keys.fuses = s.keys.fuses := by simp [State.recordErr]
@[simp] theorem State.leaveGroup_fuses (s : State) (g bays edge : Nat) : (State.leaveGroup s g bays edge).keys.fuses = s.keys.fuses := by simp [State.leaveGroup]
@[simp] theorem State.joinGroup_fuses (s : State) (g bays edge : Nat) : (State.joinGroup s g bays edge).keys.fuses = s.keys.fuses := by simp [State.joinGroup]
@[simp] theorem State.setUnits_fuses (s : State) (us : List Nat) (v : Nat) : (State.setUnits s us v).keys.fuses = s.keys.fuses := by simp [State.setUnits]
@[simp] theorem State.dropStaging_fuses (s : State) (g bays edge code : Nat) : (State.dropStaging s g bays edge code).keys.fuses = s.keys.fuses := by simp [State.dropStaging]
@[simp] theorem State.logShow_fuses (s : State) : (State.logShow s).keys.fuses = s.keys.fuses := by unfold State.logShow; (repeat' split) <;> simp
@[simp] theorem State.pntLog_fuses (s : State) (e : LogEntry) : (State.pntLog s e).keys.fuses = s.keys.fuses := by simp [State.pntLog]
@[simp] theorem State.reloadStart_fuses (s : State) (bay : Nat) : (State.reloadStart s bay).keys.fuses = s.keys.fuses := by simp [State.reloadStart]
@[simp] theorem State.reloadNext_fuses (s : State) : (State.reloadNext s).keys.fuses = s.keys.fuses := by unfold State.reloadNext; (repeat' split) <;> simp
@[simp] theorem State.reloadFail_fuses (s : State) (code : Nat) : (State.reloadFail s code).keys.fuses = s.keys.fuses := by unfold State.reloadFail; (repeat' split) <;> simp
@[simp] theorem State.streamError_fuses (s : State) (src : Nat) (h : Word) (pos : Nat) (e : StreamErr) : (State.streamError s src h pos e).keys.fuses = s.keys.fuses := by simp [State.streamError]
@[simp] theorem State.writeIdcode_fuses (s : State) (v : Word) : (State.writeIdcode s v).1.keys.fuses = s.keys.fuses := by simp [State.writeIdcode]
@[simp] theorem State.writeForm_fuses (s : State) (v : Word) : (State.writeForm s v).1.keys.fuses = s.keys.fuses := by simp [State.writeForm]
@[simp] theorem State.writeKeysel_fuses (s : State) (v : Word) : (State.writeKeysel s v).1.keys.fuses = s.keys.fuses := by simp [State.writeKeysel]
@[simp] theorem State.writeSid_fuses (s : State) (v : Word) : (State.writeSid s v).1.keys.fuses = s.keys.fuses := by simp [State.writeSid]
@[simp] theorem State.writeIv_fuses (s : State) (ws : List Word) : (State.writeIv s ws).1.keys.fuses = s.keys.fuses := by simp [State.writeIv]
@[simp] theorem State.writeBodylen_fuses (s : State) (v : Word) : (State.writeBodylen s v).1.keys.fuses = s.keys.fuses := by simp [State.writeBodylen]
@[simp] theorem State.writeBound_fuses (s : State) (ws : List Word) : (State.writeBound s ws).1.keys.fuses = s.keys.fuses := by simp [State.writeBound]
@[simp] theorem State.writeGroup_fuses (s : State) (v : Word) : (State.writeGroup s v).1.keys.fuses = s.keys.fuses := by simp [State.writeGroup]
@[simp] theorem State.writePlfloor_fuses (s : State) (v : Word) : (State.writePlfloor s v).1.keys.fuses = s.keys.fuses := by simp [State.writePlfloor]
@[simp] theorem State.writeClkset_fuses (s : State) (ws : List Word) : (State.writeClkset s ws).1.keys.fuses = s.keys.fuses := by unfold State.writeClkset; dsimp only; repeat' first | (simp; done) | split
@[simp] theorem State.dropWriteBack_fuses (s : State) (hit : Nat → Bool) : (State.dropWriteBack s hit).keys.fuses = s.keys.fuses := by simp [State.dropWriteBack]
@[simp] theorem State.stageAccept_fuses (s : State) (src : Nat) : (State.stageAccept s src).keys.fuses = s.keys.fuses := by simp [State.stageAccept]
@[simp] theorem State.doStage_fuses (s : State) (src : Nat) : (State.doStage s src).1.keys.fuses = s.keys.fuses := by unfold State.doStage; (repeat' split) <;> simp
@[simp] theorem State.doFinish_fuses (s : State) : (State.doFinish s).1.keys.fuses = s.keys.fuses := by simp [State.doFinish]
@[simp] theorem State.writeStep_fuses (s : State) (src : Nat) (v : Word) : (State.writeStep s src v).1.keys.fuses = s.keys.fuses := by unfold State.writeStep; (repeat' split) <;> simp
@[simp] theorem State.writePlace_fuses (s : State) (v : Word) : (State.writePlace s v).1.keys.fuses = s.keys.fuses := by simp [State.writePlace]
@[simp] theorem State.contentStep_fuses (s : State) (dyn : Bool) (f : BitVec 10240) : (State.contentStep s dyn f).1.keys.fuses = s.keys.fuses := by simp [State.contentStep]
@[simp] theorem State.structStep_fuses (s : State) (dyn : Bool) (f : BitVec 10240) : (State.structStep s dyn f).1.keys.fuses = s.keys.fuses := by unfold State.structStep; dsimp only; repeat' first | (simp; done) | split
@[simp] theorem State.writeFrames_fuses (s : State) (h : Word) (pos : Nat) (x0 : List (BitVec 10240)) : (State.writeFrames s h pos x0).1.keys.fuses = s.keys.fuses := by
  induction x0 generalizing s with
  | nil => rfl
  | cons f fs ih =>
    unfold State.writeFrames
    dsimp only
    split
    · rfl
    split
    · rfl
    split
    · rfl
    by_cases hk : plKind s.st.place = 1 <;> simp only [hk, if_true, if_false] <;> split <;> simp [ih]
@[simp] theorem State.doFrames_fuses (s : State) (h : Word) (d : List Word) : (State.doFrames s h d).1.keys.fuses = s.keys.fuses := by unfold State.doFrames; (repeat' split) <;> simp
@[simp] theorem State.doBody_fuses (s : State) : (State.doBody s).1.keys.fuses = s.keys.fuses := by simp [State.doBody]
@[simp] theorem State.clksetApply_fuses (s : State) : (State.clksetApply s).keys.fuses = s.keys.fuses := by simp [State.clksetApply]
@[simp] theorem State.checkPassed_fuses (s : State) (src : Nat) : (State.checkPassed s src).keys.fuses = s.keys.fuses := by simp [State.checkPassed]
@[simp] theorem State.writeSeal_fuses (s : State) (src : Nat) (ws : List Word) : (State.writeSeal s src ws).1.keys.fuses = s.keys.fuses := by simp [State.writeSeal]
@[simp] theorem State.writeCrcv_fuses (s : State) (src crc : Nat) (v : Word) : (State.writeCrcv s src crc v).1.keys.fuses = s.keys.fuses := by simp [State.writeCrcv]
@[simp] theorem State.readFrames_fuses (s : State) (acc : List Word) (x0 : Nat) : (State.readFrames s acc x0).1.keys.fuses = s.keys.fuses := by
  induction x0 generalizing s acc with
  | zero => simp [State.readFrames]
  | succ n ih => simp [State.readFrames, ih]
@[simp] theorem State.refillReturn_fuses (s : State) (p : Fin 2) : (State.refillReturn s p).keys.fuses = s.keys.fuses := by simp [State.refillReturn]
@[simp] theorem State.returnWords_fuses (s : State) (src : Nat) (ws : List Word) : (State.returnWords s src ws).keys.fuses = s.keys.fuses := by unfold State.returnWords; (repeat' split) <;> simp
@[simp] theorem State.doRead_fuses (s : State) (src reg n : Nat) : (State.doRead s src reg n).1.keys.fuses = s.keys.fuses := by unfold State.doRead; (repeat' split) <;> simp
@[simp] theorem State.doSection_fuses (s : State) (d : List Word) : (State.doSection s d).1.keys.fuses = s.keys.fuses := by simp [State.doSection]
@[simp] theorem State.doEnd_fuses (s : State) : (State.doEnd s).1.keys.fuses = s.keys.fuses := by unfold State.doEnd; (repeat' split) <;> simp
@[simp] theorem State.doWrite_fuses (s : State) (src crc : Nat) (h : Word) (d : List Word) : (State.doWrite s src crc h d).1.keys.fuses = s.keys.fuses := by unfold State.doWrite; (repeat' split) <;> simp
@[simp] theorem State.dispatchPacket_fuses (s : State) (src crc : Nat) (h : Word) (d : List Word) : (State.dispatchPacket s src crc h d).1.keys.fuses = s.keys.fuses := by unfold State.dispatchPacket; dsimp only; repeat' first | (simp; done) | split
@[simp] theorem State.actPacket_fuses (s : State) (src : Nat) (h : Word) (d : List Word) : (State.actPacket s src h d).1.keys.fuses = s.keys.fuses := by unfold State.actPacket; dsimp only; repeat' first | (simp; done) | split
@[simp] theorem State.sectionTake_fuses (s : State) (n : Nat) : (State.sectionTake s n).keys.fuses = s.keys.fuses := by simp [State.sectionTake]
@[simp] theorem State.afterError_fuses (s : State) (e : StreamErr) : (State.afterError s e).keys.fuses = s.keys.fuses := by simp [State.afterError]
@[simp] theorem State.sectionShort_fuses (s : State) (src : Nat) (h : Word) (pos : Nat) : (State.sectionShort s src h pos).keys.fuses = s.keys.fuses := by simp [State.sectionShort]
@[simp] theorem State.passOver_fuses (s : State) (n : Nat) : (State.passOver s n).keys.fuses = s.keys.fuses := by simp [State.passOver]
@[simp] theorem State.restPacket_fuses (s : State) (h : Word) (d : List Word) : (State.restPacket s h d).keys.fuses = s.keys.fuses := by simp [State.restPacket]
@[simp] theorem State.sectionStep_fuses (s : State) (src n : Nat) : (State.sectionStep s src n).keys.fuses = s.keys.fuses := by simp [State.sectionStep]
@[simp] theorem State.streamPacket_fuses (s : State) (src : Nat) (h : Word) (d : List Word) : (State.streamPacket s src h d).keys.fuses = s.keys.fuses := by unfold State.streamPacket; dsimp only; repeat' first | (simp; done) | split
@[simp] theorem State.enginePacket_fuses (s : State) (src : Nat) (h : Word) (d : List Word) : (State.enginePacket s src h d).keys.fuses = s.keys.fuses := by unfold State.enginePacket; dsimp only; repeat' first | (simp; done) | split
@[simp] theorem State.engineSync_fuses (s : State) (src : Nat) : (State.engineSync s src).keys.fuses = s.keys.fuses := by unfold State.engineSync; (repeat' split) <;> simp
@[simp] theorem State.engineIdle_fuses (s : State) : (State.engineIdle s).keys.fuses = s.keys.fuses := by simp [State.engineIdle]
@[simp] theorem State.loadSourceEnd_fuses (s : State) (src : Nat) : (State.loadSourceEnd s src).keys.fuses = s.keys.fuses := by unfold State.loadSourceEnd; dsimp only; repeat' first | (simp; done) | split
@[simp] theorem State.partSourceEnd_fuses (s : State) (src : Nat) : (State.partSourceEnd s src).keys.fuses = s.keys.fuses := by unfold State.partSourceEnd; dsimp only; repeat' first | (simp; done) | split
@[simp] theorem State.sourceReset_fuses (s : State) (src : Nat) : (State.sourceReset s src).keys.fuses = s.keys.fuses := by unfold State.sourceReset; (repeat' split) <;> simp
@[simp] theorem State.engineSourceEnd_fuses (s : State) : (State.engineSourceEnd s).keys.fuses = s.keys.fuses := by unfold State.engineSourceEnd; (repeat' split) <;> simp_all
@[simp] theorem State.windowTake_fuses (s : State) (src n : Nat) : (State.windowTake s src n).keys.fuses = s.keys.fuses := by unfold State.windowTake; (repeat' split) <;> simp
@[simp] theorem State.sourceDrain_fuses (s : State) (src : Nat) : (State.sourceDrain s src).keys.fuses = s.keys.fuses := by simp [State.sourceDrain]
@[simp] theorem State.spentEnd_fuses (s : State) (src : Nat) : (State.spentEnd s src).keys.fuses = s.keys.fuses := by simp [State.spentEnd]
@[simp] theorem State.sourceEnded_fuses (s : State) (src : Nat) : (State.sourceEnded s src).keys.fuses = s.keys.fuses := by unfold State.sourceEnded; (repeat' split) <;> simp
@[simp] theorem State.engineTake_fuses (s : State) (src : Nat) (i : EngItem) : (State.engineTake s src i).keys.fuses = s.keys.fuses := by unfold State.engineTake; (repeat' split) <;> simp
@[simp] theorem State.engineDrain_fuses (s : State) (x0 : List EngItem) : (State.engineDrain s x0).keys.fuses = s.keys.fuses := by
  induction x0 generalizing s with
  | nil => simp [State.engineDrain]
  | cons a l ih => unfold State.engineDrain; (repeat' split) <;> simp [ih]
@[simp] theorem State.engineResume_fuses (s : State) : (State.engineResume s).keys.fuses = s.keys.fuses := by unfold State.engineResume; dsimp only; repeat' first | (simp; done) | split
@[simp] theorem State.unopened_fuses (s : State) : (State.unopened s).keys.fuses = s.keys.fuses := by simp [State.unopened]
@[simp] theorem State.deliver_fuses (s : State) (i : EngItem) : (State.deliver s i).keys.fuses = s.keys.fuses := by unfold State.deliver; (repeat' split) <;> simp
@[simp] theorem State.keyLost_fuses (s : State) : (State.keyLost s).keys.fuses = s.keys.fuses := by unfold State.keyLost; (repeat' split) <;> simp
theorem execSyncWord_fuses (s : State) : ∀ q1, (execSyncWord s) = .next q1 → q1.keys.fuses = s.keys.fuses := by
  rintro q1 ⟨⟩; simp
theorem execPacketBadHeader_fuses (h : Word) (s : State) : ∀ q1, (execPacketBadHeader h s) = .next q1 → q1.keys.fuses = s.keys.fuses := by
  rintro q1 ⟨⟩; simp
theorem execNop_fuses (s : State) : ∀ q1, (execNop s) = .next q1 → q1.keys.fuses = s.keys.fuses := by
  rintro q1 ⟨⟩; simp
theorem execWriteIdcode_fuses (ws : List Word) (s : State) : ∀ q1, (execWriteIdcode ws s) = .next q1 → q1.keys.fuses = s.keys.fuses := by
  rintro q1 ⟨⟩; simp
theorem execWriteForm_fuses (ws : List Word) (s : State) : ∀ q1, (execWriteForm ws s) = .next q1 → q1.keys.fuses = s.keys.fuses := by
  rintro q1 ⟨⟩; simp
theorem execWriteKeysel_fuses (ws : List Word) (s : State) : ∀ q1, (execWriteKeysel ws s) = .next q1 → q1.keys.fuses = s.keys.fuses := by
  rintro q1 ⟨⟩; simp
theorem execWriteSid_fuses (ws : List Word) (s : State) : ∀ q1, (execWriteSid ws s) = .next q1 → q1.keys.fuses = s.keys.fuses := by
  rintro q1 ⟨⟩; simp
theorem execWriteIv_fuses (ws : List Word) (s : State) : ∀ q1, (execWriteIv ws s) = .next q1 → q1.keys.fuses = s.keys.fuses := by
  rintro q1 ⟨⟩; simp
theorem execWriteBodylen_fuses (ws : List Word) (s : State) : ∀ q1, (execWriteBodylen ws s) = .next q1 → q1.keys.fuses = s.keys.fuses := by
  rintro q1 ⟨⟩; simp
theorem execWriteBound_fuses (ws : List Word) (s : State) : ∀ q1, (execWriteBound ws s) = .next q1 → q1.keys.fuses = s.keys.fuses := by
  rintro q1 ⟨⟩; simp
theorem execWriteGroup_fuses (ws : List Word) (s : State) : ∀ q1, (execWriteGroup ws s) = .next q1 → q1.keys.fuses = s.keys.fuses := by
  rintro q1 ⟨⟩; simp
theorem execWritePlfloor_fuses (ws : List Word) (s : State) : ∀ q1, (execWritePlfloor ws s) = .next q1 → q1.keys.fuses = s.keys.fuses := by
  rintro q1 ⟨⟩; simp
theorem execWriteClkset_fuses (ws : List Word) (s : State) : ∀ q1, (execWriteClkset ws s) = .next q1 → q1.keys.fuses = s.keys.fuses := by
  rintro q1 ⟨⟩; simp
theorem execStepNone_fuses (v : Word) (s : State) : ∀ q1, (execStepNone v s) = .next q1 → q1.keys.fuses = s.keys.fuses := by
  rintro q1 ⟨⟩; simp
theorem execStepStage_fuses (s : State) : ∀ q1, (execStepStage s) = .next q1 → q1.keys.fuses = s.keys.fuses := by
  rintro q1 ⟨⟩; simp
theorem execStageClearDone_fuses (s : State) : ∀ q1, (execStageClearDone s) = .next q1 → q1.keys.fuses = s.keys.fuses := by
  rintro q1 ⟨⟩; simp
theorem execStepFinish_fuses (s : State) : ∀ q1, (execStepFinish s) = .next q1 → q1.keys.fuses = s.keys.fuses := by
  rintro q1 ⟨⟩; simp
theorem execStepAbort_fuses (s : State) : ∀ q1, (execStepAbort s) = .next q1 → q1.keys.fuses = s.keys.fuses := by
  rintro q1 ⟨⟩; simp
theorem execWritePlace_fuses (ws : List Word) (s : State) : ∀ q1, (execWritePlace ws s) = .next q1 → q1.keys.fuses = s.keys.fuses := by
  rintro q1 ⟨⟩; simp
theorem execWriteFrames_fuses (dyn : Bool) (ws : List Word) (s : State) : ∀ q1, (execWriteFrames dyn ws s) = .next q1 → q1.keys.fuses = s.keys.fuses := by
  rintro q1 ⟨⟩; simp
theorem execZero_fuses (dyn : Bool) (n : BitVec 20) (s : State) : ∀ q1, (execZero dyn n s) = .next q1 → q1.keys.fuses = s.keys.fuses := by
  rintro q1 ⟨⟩; simp
theorem execRepeat_fuses (dyn : Bool) (n : BitVec 20) (s : State) : ∀ q1, (execRepeat dyn n s) = .next q1 → q1.keys.fuses = s.keys.fuses := by
  rintro q1 ⟨⟩; simp
theorem execPatch_fuses (dyn : Bool) (ps : List (Word × Word)) (s : State) : ∀ q1, (execPatch dyn ps s) = .next q1 → q1.keys.fuses = s.keys.fuses := by
  rintro q1 ⟨⟩; simp
theorem execBody_fuses (s : State) : ∀ q1, (execBody s) = .next q1 → q1.keys.fuses = s.keys.fuses := by
  rintro q1 ⟨⟩; simp
theorem execWriteSeal_fuses (ws : List Word) (s : State) : ∀ q1, (execWriteSeal ws s) = .next q1 → q1.keys.fuses = s.keys.fuses := by
  rintro q1 ⟨⟩; simp
theorem execWriteCrcv_fuses (ws : List Word) (s : State) : ∀ q1, (execWriteCrcv ws s) = .next q1 → q1.keys.fuses = s.keys.fuses := by
  rintro q1 ⟨⟩; simp
theorem execReadFrames_fuses (n : BitVec 20) (s : State) : ∀ q1, (execReadFrames n s) = .next q1 → q1.keys.fuses = s.keys.fuses := by
  rintro q1 ⟨⟩; simp
theorem execReadPlace_fuses (s : State) : ∀ q1, (execReadPlace s) = .next q1 → q1.keys.fuses = s.keys.fuses := by
  rintro q1 ⟨⟩; simp
theorem execReadStat_fuses (s : State) : ∀ q1, (execReadStat s) = .next q1 → q1.keys.fuses = s.keys.fuses := by
  rintro q1 ⟨⟩; simp
theorem execSection_fuses (sel len : Word) (s : State) : ∀ q1, (execSection sel len s) = .next q1 → q1.keys.fuses = s.keys.fuses := by
  rintro q1 ⟨⟩; simp
theorem execEnd_fuses (s : State) : ∀ q1, (execEnd s) = .next q1 → q1.keys.fuses = s.keys.fuses := by
  rintro q1 ⟨⟩; simp
theorem execStreamSourceEnd_fuses (s : State) : ∀ q1, (execStreamSourceEnd s) = .next q1 → q1.keys.fuses = s.keys.fuses := by
  rintro q1 ⟨⟩; simp
theorem execUnopenedSourceWords_fuses (s : State) : ∀ q1, (execUnopenedSourceWords s) = .next q1 → q1.keys.fuses = s.keys.fuses := by
  rintro q1 ⟨⟩; simp
@[simp] theorem State.lockWaitEnd_fuses (s : State) : (State.lockWaitEnd s).keys.fuses = s.keys.fuses := by simp [State.lockWaitEnd]
theorem execClksetLockWaitEnd_fuses (s : State) : ∀ q1, (execClksetLockWaitEnd s) = .next q1 → q1.keys.fuses = s.keys.fuses := by
  rintro q1 ⟨⟩; simp

/-! Staged. -/

@[simp] theorem State.openSource_fuses (s : State) (c : Nat) : (State.openSource s c).keys.fuses = s.keys.fuses := by simp [State.openSource]
theorem execPsrcOpen_fuses (ag : Agent) (c : Fin 8) (s : State) : ∀ q1, (execPsrcOpen ag c s) = .next q1 → q1.keys.fuses = s.keys.fuses := by
  rintro q1 ⟨⟩; simp
@[simp] theorem State.logFrame_fuses (s : State) (latch key bit kind action : Nat) (time : Word) : (State.logFrame s latch key bit kind action time).keys.fuses = s.keys.fuses := by simp [State.logFrame]
@[simp] theorem State.entryRead_fuses (s : State) (latch key : Nat) (entry : Fin 4) : (State.entryRead s latch key entry).keys.fuses = s.keys.fuses := by unfold State.entryRead; (repeat' split) <;> simp
@[simp] theorem State.entriesRead_fuses (s : State) (bays edge : Nat) (es : EntryErrs) : (State.entriesRead s bays edge es).keys.fuses = s.keys.fuses := by simp [State.entriesRead]
@[simp] theorem State.upsetShadow_fuses (s : State) (bays edge : Nat) (us : Upsets) : (State.upsetShadow s bays edge us).keys.fuses = s.keys.fuses := by simp [State.upsetShadow]
@[simp] theorem State.cgResult_fuses (s : State) (g code : Nat) : (State.cgResult s g code).keys.fuses = s.keys.fuses := by simp [State.cgResult]
@[simp] theorem State.cgDisarm_fuses (s : State) (g : Nat) : (State.cgDisarm s g).keys.fuses = s.keys.fuses := by simp [State.cgDisarm]
@[simp] theorem State.cgArm_fuses (s : State) (g : Nat) (revert : Bool) : (State.cgArm s g revert).keys.fuses = s.keys.fuses := by unfold State.cgArm; (repeat' split) <;> simp
@[simp] theorem State.leaveLast_fuses (s : State) (keep bays edge : Nat) : (State.leaveLast s keep bays edge).keys.fuses = s.keys.fuses := by simp [State.leaveLast]
@[simp] theorem State.cgCancel_fuses (s : State) (g : Nat) : (State.cgCancel s g).keys.fuses = s.keys.fuses := by simp [State.cgCancel]
@[simp] theorem State.abortInto_fuses (s : State) (g : Nat) : (State.abortInto s g).keys.fuses = s.keys.fuses := by unfold State.abortInto; (repeat' split) <;> simp
@[simp] theorem State.cgDiscard_fuses (s : State) (g : Nat) : (State.cgDiscard s g).keys.fuses = s.keys.fuses := by simp [State.cgDiscard]
@[simp] theorem State.cgCtlWrite_fuses (s : State) (g : Nat) (v : Word) : (State.cgCtlWrite s g v).keys.fuses = s.keys.fuses := by simp [State.cgCtlWrite]
theorem execCgArmCommit_fuses (ag : Agent) (g : Fin 8) (s : State) : ∀ q1, (execCgArmCommit ag g s) = .next q1 → q1.keys.fuses = s.keys.fuses := by
  rintro q1 ⟨⟩; simp
theorem execCgArmRevert_fuses (ag : Agent) (g : Fin 8) (s : State) : ∀ q1, (execCgArmRevert ag g s) = .next q1 → q1.keys.fuses = s.keys.fuses := by
  rintro q1 ⟨⟩; simp
theorem execCgDisarm_fuses (ag : Agent) (g : Fin 8) (mode : Bool) (s : State) : ∀ q1, (execCgDisarm ag g mode s) = .next q1 → q1.keys.fuses = s.keys.fuses := by
  rintro q1 ⟨⟩; simp
theorem execCgDiscard_fuses (ag : Agent) (g : Fin 8) (mode : Bool) (s : State) : ∀ q1, (execCgDiscard ag g mode s) = .next q1 → q1.keys.fuses = s.keys.fuses := by
  rintro q1 ⟨⟩; simp
theorem execCgDeadlineExpiry_fuses (g : Fin 8) (s : State) : ∀ q1, (execCgDeadlineExpiry g s) = .next q1 → q1.keys.fuses = s.keys.fuses := by
  rintro q1 ⟨⟩; simp
@[simp] theorem State.shadowLost_fuses (s : State) (u : Nat) : (State.shadowLost s u).keys.fuses = s.keys.fuses := by simp [State.shadowLost]
@[simp] theorem State.setDw_fuses (s : State) (d : DwSt) : (State.setDw s d).keys.fuses = s.keys.fuses := by simp [State.setDw]
@[simp] theorem State.dwLose_fuses (s : State) (us : List Nat) : (State.dwLose s us).keys.fuses = s.keys.fuses := by simp [State.dwLose]
@[simp] theorem State.dwRefuse_fuses (s : State) (c : Nat) : (State.dwRefuse s c).keys.fuses = s.keys.fuses := by simp [State.dwRefuse]
@[simp] theorem State.dwPlace_fuses (s : State) (p : Word) : (State.dwPlace s p).keys.fuses = s.keys.fuses := by simp [State.dwPlace]
@[simp] theorem State.dwData_fuses (s : State) (w : Word) : (State.dwData s w).keys.fuses = s.keys.fuses := by unfold State.dwData; dsimp only; repeat' first | (simp; done) | split
@[simp] theorem State.dwCtl_fuses (s : State) (v : Word) : (State.dwCtl s v).keys.fuses = s.keys.fuses := by simp [State.dwCtl]
theorem execDwPlaceWrite_fuses (ag : Agent) (p : Word) (s : State) : ∀ q1, (execDwPlaceWrite ag p s) = .next q1 → q1.keys.fuses = s.keys.fuses := by
  rintro q1 ⟨⟩; simp
theorem execDwDataWrite_fuses (ag : Agent) (w : Word) (s : State) : ∀ q1, (execDwDataWrite ag w s) = .next q1 → q1.keys.fuses = s.keys.fuses := by
  rintro q1 ⟨⟩; simp
theorem execDwApply_fuses (ag : Agent) (bsel : Fin 64) (s : State) : ∀ q1, (execDwApply ag bsel s) = .next q1 → q1.keys.fuses = s.keys.fuses := by
  rintro q1 ⟨⟩; simp
theorem execDwClearBuffer_fuses (ag : Agent) (bsel : Fin 64) (s : State) : ∀ q1, (execDwClearBuffer ag bsel s) = .next q1 → q1.keys.fuses = s.keys.fuses := by
  rintro q1 ⟨⟩; simp
@[simp] theorem State.dwLatch_fuses (s : State) (src : Nat) : (State.dwLatch s src).keys.fuses = s.keys.fuses := by simp [State.dwLatch]
@[simp] theorem State.dwDeliver_fuses (s : State) (src : Nat) : (State.dwDeliver s src).keys.fuses = s.keys.fuses := by simp [State.dwDeliver]
theorem execDwApplyEnd_fuses (s : State) : ∀ q1, (execDwApplyEnd s) = .next q1 → q1.keys.fuses = s.keys.fuses := by
  rintro q1 ⟨⟩; simp
@[simp] theorem State.beginCommit_fuses (s : State) (c : Commit) : (State.beginCommit s c).keys.fuses = s.keys.fuses := by simp [State.beginCommit]
@[simp] theorem State.holdPorts_fuses (s : State) (bay : Nat) : (State.holdPorts s bay).keys.fuses = s.keys.fuses := by simp [State.holdPorts]
@[simp] theorem State.gwFlush_fuses (s : State) (bay : Nat) : (State.gwFlush s bay).keys.fuses = s.keys.fuses := by unfold State.gwFlush; (repeat' split) <;> simp
@[simp] theorem State.gwSems_fuses (s : State) : (State.gwSems s).keys.fuses = s.keys.fuses := by simp [State.gwSems]
@[simp] theorem State.bondStart_fuses (s : State) (us : List Nat) : (State.bondStart s us).keys.fuses = s.keys.fuses := by simp [State.bondStart]
@[simp] theorem State.stakeSwitch_fuses (s : State) (bay : Nat) : (State.stakeSwitch s bay).keys.fuses = s.keys.fuses := by simp [State.stakeSwitch]
@[simp] theorem State.bayInit_fuses (s : State) (bay : Nat) : (State.bayInit s bay).keys.fuses = s.keys.fuses := by simp [State.bayInit]
@[simp] theorem State.commitUnit_fuses (s : State) (u : Nat) : (State.commitUnit s u).keys.fuses = s.keys.fuses := by simp [State.commitUnit]
@[simp] theorem State.commitEdge_fuses (s : State) (us : List Nat) : (State.commitEdge s us).keys.fuses = s.keys.fuses := by simp [State.commitEdge]
@[simp] theorem State.lanesCentre_fuses (s : State) (k : Nat) : (State.lanesCentre s k).keys.fuses = s.keys.fuses := by simp [State.lanesCentre]
@[simp] theorem State.releaseUnits_fuses (s : State) (us : List Nat) : (State.releaseUnits s us).keys.fuses = s.keys.fuses := by simp [State.releaseUnits]
@[simp] theorem State.setLast_fuses (s : State) (g bays edge : Nat) : (State.setLast s g bays edge).keys.fuses = s.keys.fuses := by simp [State.setLast]
@[simp] theorem State.dropCommit_fuses (s : State) (c : Commit) : (State.dropCommit s c).keys.fuses = s.keys.fuses := by simp [State.dropCommit]
@[simp] theorem State.becomePrevious_fuses (s : State) (us : List Nat) : (State.becomePrevious s us).keys.fuses = s.keys.fuses := by simp [State.becomePrevious]
@[simp] theorem State.reloadUnheld_fuses (s : State) (us : List Nat) : (State.reloadUnheld s us).keys.fuses = s.keys.fuses := by unfold State.reloadUnheld; (repeat' split) <;> simp
@[simp] theorem State.groupRelease_fuses (s : State) (c : Commit) : (State.groupRelease s c).keys.fuses = s.keys.fuses := by simp [State.groupRelease]
@[simp] theorem State.reloadRelease_fuses (s : State) (c : Commit) : (State.reloadRelease s c).keys.fuses = s.keys.fuses := by unfold State.reloadRelease; dsimp only; repeat' first | (simp; done) | split
theorem execCommitRelease_fuses (g : Fin 9) (s : State) : ∀ q1, (execCommitRelease g s) = .next q1 → q1.keys.fuses = s.keys.fuses := by
  rintro q1 ⟨⟩; (repeat' split) <;> simp
@[simp] theorem State.groupLatch_fuses (s : State) (src g : Nat) (wale : Bool) : (State.groupLatch s src g wale).keys.fuses = s.keys.fuses := by simp [State.groupLatch]
@[simp] theorem State.deliverCommits_fuses (s : State) (src : Nat) : (State.deliverCommits s src).keys.fuses = s.keys.fuses := by simp [State.deliverCommits]
@[simp] theorem State.setFloors_fuses (s : State) (bays : Nat) (v : Word) : (State.setFloors s bays v).keys.fuses = s.keys.fuses := by simp [State.setFloors]
@[simp] theorem State.panelFire_fuses (s : State) (g : Nat) : (State.panelFire s g).keys.fuses = s.keys.fuses := by simp [State.panelFire]
@[simp] theorem State.verifyPass_fuses (s : State) (j : VerifyJob) : (State.verifyPass s j).keys.fuses = s.keys.fuses := by simp [State.verifyPass]
@[simp] theorem State.verifyFail_fuses (s : State) (j : VerifyJob) (key : Nat) : (State.verifyFail s j key).keys.fuses = s.keys.fuses := by simp [State.verifyFail]
@[simp] theorem State.loadVerifyEnd_fuses (s : State) (j : PartJob) (prio : Bool) : (State.loadVerifyEnd s j prio).keys.fuses = s.keys.fuses := by unfold State.loadVerifyEnd; (repeat' split) <;> simp
@[simp] theorem State.passRead_fuses (s : State) (bays edge : Nat) (us : Upsets) (es : EntryErrs) : (State.passRead s bays edge us es).keys.fuses = s.keys.fuses := by simp [State.passRead]
@[simp] theorem State.verifyEnd_fuses (s : State) (us : Upsets) (es : EntryErrs) : (State.verifyEnd s us es).keys.fuses = s.keys.fuses := by unfold State.verifyEnd; dsimp only; repeat' first | (simp; done) | split
theorem execStagedVerifyEnd_fuses (us : PassErrs) (s : State) : ∀ q1, (execStagedVerifyEnd us s) = .next q1 → q1.keys.fuses = s.keys.fuses := by
  rintro q1 ⟨⟩; simp
@[simp] theorem State.revertVerifyEnd_fuses (s : State) (g : Nat) (us : Upsets) (es : EntryErrs) : (State.revertVerifyEnd s g us es).keys.fuses = s.keys.fuses := by simp [State.revertVerifyEnd]
theorem execRevertVerifyEnd_fuses (g : Fin 8) (us : PassErrs) (s : State) : ∀ q1, (execRevertVerifyEnd g us s) = .next q1 → q1.keys.fuses = s.keys.fuses := by
  rintro q1 ⟨⟩; simp
@[simp] theorem State.isoRefresh_fuses (s : State) (g : Nat) : (State.isoRefresh s g).keys.fuses = s.keys.fuses := by simp [State.isoRefresh]
@[simp] theorem State.pctlWrite_fuses (s : State) (g : Nat) (v : Word) : (State.pctlWrite s g v).keys.fuses = s.keys.fuses := by simp [State.pctlWrite]
theorem execPanelIsoWrite_fuses (ag : Agent) (g : Fin 8) (v : Word) (s : State) : ∀ q1, (execPanelIsoWrite ag g v s) = .next q1 → q1.keys.fuses = s.keys.fuses := by
  rintro q1 ⟨⟩; simp
theorem execPisoChange_fuses (g : Fin 8) (level : Bool) (s : State) : ∀ q1, (execPisoChange g level s) = .next q1 → q1.keys.fuses = s.keys.fuses := by
  rintro q1 ⟨⟩; simp
@[simp] theorem State.groupWrite_fuses (s : State) (off : Nat) (v : Word) (g k : Nat) : (State.groupWrite s off v g k).keys.fuses = s.keys.fuses := by unfold State.groupWrite; (repeat' split) <;> simp
@[simp] theorem State.cfgWrite_fuses (s : State) (off : Nat) (v : Word) : (State.cfgWrite s off v).keys.fuses = s.keys.fuses := by
  rw [State.cfgWrite]
  simp only [fuses_ite, State.openSource_fuses, State.dwPlace_fuses, State.dwData_fuses, State.dwCtl_fuses, State.groupWrite_fuses,
    State.plainWrite_fuses, ite_self]

/-! Pointing. -/

@[simp] theorem State.setShadowPos_fuses (s : State) (w n : Nat) : (State.setShadowPos s w n).keys.fuses = s.keys.fuses := by simp [State.setShadowPos]
@[simp] theorem State.passEnd_fuses (s : State) (w : Nat) : (State.passEnd s w).keys.fuses = s.keys.fuses := by simp [State.passEnd]
@[simp] theorem State.passShadow_fuses (s : State) (w n : Nat) : (State.passShadow s w n).keys.fuses = s.keys.fuses := by unfold State.passShadow; (repeat' split) <;> simp
@[simp] theorem State.passNext_fuses (s : State) (w : Nat) : (State.passNext s w).keys.fuses = s.keys.fuses := by unfold State.passNext; (repeat' split) <;> simp
@[simp] theorem State.holdBay_fuses (s : State) (bay : Nat) : (State.holdBay s bay).keys.fuses = s.keys.fuses := by simp [State.holdBay]
@[simp] theorem State.wantReload_fuses (s : State) (bay : Nat) : (State.wantReload s bay).keys.fuses = s.keys.fuses := by simp [State.wantReload]
@[simp] theorem State.holdClear_fuses (s : State) (bay : Nat) : (State.holdClear s bay).keys.fuses = s.keys.fuses := by unfold State.holdClear; dsimp only; repeat' first | (simp; done) | split
theorem execPntHoldClear_fuses (ag : Agent) (v : Word) (s : State) : ∀ q1, (execPntHoldClear ag v s) = .next q1 → q1.keys.fuses = s.keys.fuses := by
  rintro q1 ⟨⟩; simp
@[simp] theorem State.multiBit_fuses (s : State) (latch key : Nat) : (State.multiBit s latch key).keys.fuses = s.keys.fuses := by unfold State.multiBit; dsimp only; repeat' first | (simp; done) | split
@[simp] theorem State.upsetFrame_fuses (s : State) (latch key : Nat) (bits : List (Fin 10240)) : (State.upsetFrame s latch key bits).keys.fuses = s.keys.fuses := by simp [State.upsetFrame]
@[simp] theorem State.frameAct_fuses (t : State) (w latch key : Nat) (x0 : FrameClass) : (State.frameAct t w latch key x0).keys.fuses = t.keys.fuses := by
  unfold State.frameAct; (repeat' split) <;> simp
@[simp] theorem State.frameRead_fuses (s : State) (w latch key : Nat) (entry : Fin 4) : (State.frameRead s w latch key entry).keys.fuses = s.keys.fuses := by simp [State.frameRead]
theorem execPntFrameRead_fuses (w : Fin 2) (upset : List (Fin 10240)) (entry : Fin 4) (s : State) : ∀ q1, (execPntFrameRead w upset entry s) = .next q1 → q1.keys.fuses = s.keys.fuses := by
  rintro q1 ⟨⟩; (repeat' split) <;> simp
theorem execPntSbeWriteBackDone_fuses (w : Fin 2) (upset : FrameErrs) (s : State) : ∀ q1, (execPntSbeWriteBackDone w upset s) = .next q1 → q1.keys.fuses = s.keys.fuses := by
  intro q1 h; unfold execPntSbeWriteBackDone at h; dsimp only at h; (repeat' split at h) <;> first | (cases h; simp) | (cases h; (repeat' split) <;> simp_all)
@[simp] theorem State.pntCtlWrite_fuses (s : State) (v : Word) : (State.pntCtlWrite s v).keys.fuses = s.keys.fuses := by simp [State.pntCtlWrite]
theorem execPntRestart_fuses (ag : Agent) (en shadow : Bool) (s : State) : ∀ q1, (execPntRestart ag en shadow s) = .next q1 → q1.keys.fuses = s.keys.fuses := by
  rintro q1 ⟨⟩; simp
@[simp] theorem State.logPop_fuses (s : State) : (State.logPop s).keys.fuses = s.keys.fuses := by simp [State.logPop]
theorem execPntLogPop_fuses (ag : Agent) (s : State) : ∀ q1, (execPntLogPop ag s) = .next q1 → q1.keys.fuses = s.keys.fuses := by
  rintro q1 ⟨⟩; simp
theorem execPntReloadOpen_fuses (s : State) : ∀ q1, (execPntReloadOpen s) = .next q1 → q1.keys.fuses = s.keys.fuses := by
  intro q1 h; unfold execPntReloadOpen at h; dsimp only at h; (repeat' split at h) <;> first | (cases h; simp) | (cases h; (repeat' split) <;> simp_all)
theorem execPntReloadFire_fuses (s : State) : ∀ q1, (execPntReloadFire s) = .next q1 → q1.keys.fuses = s.keys.fuses := by
  rintro q1 ⟨⟩; simp
theorem execPntReloadWaitExpiry_fuses (s : State) : ∀ q1, (execPntReloadWaitExpiry s) = .next q1 → q1.keys.fuses = s.keys.fuses := by
  rintro q1 ⟨⟩; (repeat' split) <;> simp
@[simp] theorem State.reloadLatch_fuses (s : State) (src : Nat) : (State.reloadLatch s src).keys.fuses = s.keys.fuses := by unfold State.reloadLatch; (repeat' split) <;> simp
@[simp] theorem State.pntLoading_fuses (s : State) : (State.pntLoading s).keys.fuses = s.keys.fuses := by simp [State.pntLoading]
@[simp] theorem State.pntWrite_fuses (s : State) (off : Nat) (v : Word) : (State.pntWrite s off v).keys.fuses = s.keys.fuses := by simp [State.pntWrite]

/-! Lanes. -/

@[simp] theorem State.setLane_fuses (s : State) (n : Nat) (l : LaneSt) : (State.setLane s n l).keys.fuses = s.keys.fuses := by simp [State.setLane]
@[simp] theorem State.laneErr_fuses (s : State) (n i : Nat) : (State.laneErr s n i).keys.fuses = s.keys.fuses := by simp [State.laneErr]
@[simp] theorem State.laneStatus_fuses (s : State) (n i : Nat) : (State.laneStatus s n i).keys.fuses = s.keys.fuses := by simp [State.laneStatus]
@[simp] theorem State.rxOff_fuses (s : State) (n : Nat) : (State.rxOff s n).keys.fuses = s.keys.fuses := by simp [State.rxOff]
@[simp] theorem State.laneRefresh_fuses (s : State) (n : Nat) : (State.laneRefresh s n).keys.fuses = s.keys.fuses := by simp [State.laneRefresh]
@[simp] theorem State.quadRefresh_fuses (s : State) (q : Nat) : (State.quadRefresh s q).keys.fuses = s.keys.fuses := by simp [State.quadRefresh]
@[simp] theorem State.lanesRefresh_fuses (s : State) : (State.lanesRefresh s).keys.fuses = s.keys.fuses := by simp [State.lanesRefresh]
@[simp] theorem State.cdrDrop_fuses (s : State) (n : Nat) : (State.cdrDrop s n).keys.fuses = s.keys.fuses := by simp [State.cdrDrop]
@[simp] theorem State.lgForget_fuses (s : State) (n : Nat) : (State.lgForget s n).keys.fuses = s.keys.fuses := by simp [State.lgForget]
@[simp] theorem State.lgLoad_fuses (s : State) (n : Nat) : (State.lgLoad s n).keys.fuses = s.keys.fuses := by simp [State.lgLoad]
@[simp] theorem State.lgSave_fuses (s : State) (n : Nat) : (State.lgSave s n).keys.fuses = s.keys.fuses := by simp [State.lgSave]
@[simp] theorem State.adaptStep_fuses (s : State) (n : Nat) (e : EyeWindow) : (State.adaptStep s n e).keys.fuses = s.keys.fuses := by simp [State.adaptStep]
@[simp] theorem State.setRevHold_fuses (s : State) (n k : Nat) : (State.setRevHold s n k).keys.fuses = s.keys.fuses := by simp [State.setRevHold]
@[simp] theorem State.floorRevert_fuses (s : State) (n : Nat) : (State.floorRevert s n).keys.fuses = s.keys.fuses := by simp [State.floorRevert]
@[simp] theorem State.adaptEnd_fuses (s : State) (n eye : Nat) (qual : Bool) (e : EyeWindow) : (State.adaptEnd s n eye qual e).keys.fuses = s.keys.fuses := by simp [State.adaptEnd]
@[simp] theorem State.eyeEnd_fuses (s : State) (n : Nat) (e : EyeWindow) : (State.eyeEnd s n e).keys.fuses = s.keys.fuses := by simp [State.eyeEnd]
theorem execEyeWindowEnd_fuses (n : Fin 64) (e : EyeWindow) (s : State) : ∀ q1, (execEyeWindowEnd n e s) = .next q1 → q1.keys.fuses = s.keys.fuses := by
  rintro q1 ⟨⟩; simp
@[simp] theorem State.txeqWrite_fuses (s : State) (n : Nat) (v : Word) : (State.txeqWrite s n v).keys.fuses = s.keys.fuses := by simp [State.txeqWrite]
@[simp] theorem State.rxeqWrite_fuses (s : State) (n : Nat) (v : Word) : (State.rxeqWrite s n v).keys.fuses = s.keys.fuses := by simp [State.rxeqWrite]
@[simp] theorem State.dfeWrite_fuses (s : State) (n i : Nat) (v : Word) : (State.dfeWrite s n i v).keys.fuses = s.keys.fuses := by simp [State.dfeWrite]
@[simp] theorem State.prbsWrite_fuses (s : State) (n : Nat) (v : Word) : (State.prbsWrite s n v).keys.fuses = s.keys.fuses := by simp [State.prbsWrite]
@[simp] theorem State.calStart_fuses (s : State) (q : Nat) : (State.calStart s q).keys.fuses = s.keys.fuses := by simp [State.calStart]
@[simp] theorem State.quadWrite_fuses (s : State) (q o : Nat) (v : Word) : (State.quadWrite s q o v).keys.fuses = s.keys.fuses := by simp [State.quadWrite]
@[simp] theorem State.laneWrite_fuses (s : State) (n o : Nat) (v : Word) : (State.laneWrite s n o v).keys.fuses = s.keys.fuses := by simp [State.laneWrite]
theorem execLaneTxeqWrite_fuses (ag : Agent) (n : Fin 64) (v : Word) (s : State) : ∀ q1, (execLaneTxeqWrite ag n v s) = .next q1 → q1.keys.fuses = s.keys.fuses := by
  rintro q1 ⟨⟩; simp
theorem execLaneLoadlg_fuses (ag : Agent) (n : Fin 64) (s : State) : ∀ q1, (execLaneLoadlg ag n s) = .next q1 → q1.keys.fuses = s.keys.fuses := by
  rintro q1 ⟨⟩; simp
theorem execPrbsClear_fuses (ag : Agent) (n : Fin 64) (s : State) : ∀ q1, (execPrbsClear ag n s) = .next q1 → q1.keys.fuses = s.keys.fuses := by
  rintro q1 ⟨⟩; simp
theorem execQuadCalStart_fuses (ag : Agent) (q : Fin 16) (s : State) : ∀ q1, (execQuadCalStart ag q s) = .next q1 → q1.keys.fuses = s.keys.fuses := by
  rintro q1 ⟨⟩; simp
@[simp] theorem State.calEnd_fuses (s : State) (q : Nat) (pass : Bool) : (State.calEnd s q pass).keys.fuses = s.keys.fuses := by simp [State.calEnd]
theorem execQuadCalDone_fuses (q : Fin 16) (pass : Bool) (s : State) : ∀ q1, (execQuadCalDone q pass s) = .next q1 → q1.keys.fuses = s.keys.fuses := by
  rintro q1 ⟨⟩; simp
theorem execQuadCalTimeout_fuses (q : Fin 16) (s : State) : ∀ q1, (execQuadCalTimeout q s) = .next q1 → q1.keys.fuses = s.keys.fuses := by
  rintro q1 ⟨⟩; simp
@[simp] theorem State.setRelock_fuses (s : State) (q h : Nat) (b : Bool) : (State.setRelock s q h b).keys.fuses = s.keys.fuses := by simp [State.setRelock]
@[simp] theorem State.pllUnlock_fuses (s : State) (q h : Nat) : (State.pllUnlock s q h).keys.fuses = s.keys.fuses := by simp [State.pllUnlock]
@[simp] theorem State.qpllApply_fuses (s : State) (q : Nat) (vals : List (Nat × Word)) : (State.qpllApply s q vals).keys.fuses = s.keys.fuses := by unfold State.qpllApply; dsimp only; repeat' first | (simp; done) | split
theorem execQpllLock_fuses (q : Fin 16) (h : Fin 2) (s : State) : ∀ q1, (execQpllLock q h s) = .next q1 → q1.keys.fuses = s.keys.fuses := by
  rintro q1 ⟨⟩; simp
theorem execQpllLossOfLock_fuses (q : Fin 16) (h : Fin 2) (s : State) : ∀ q1, (execQpllLossOfLock q h s) = .next q1 → q1.keys.fuses = s.keys.fuses := by
  rintro q1 ⟨⟩; simp
@[simp] theorem State.laneCfgApply_fuses (s : State) (n : Nat) (vals : List (Nat × Word)) : (State.laneCfgApply s n vals).keys.fuses = s.keys.fuses := by unfold State.laneCfgApply; (repeat' split) <;> simp
theorem execLaneWakeBurstEnd_fuses (n : Fin 64) (s : State) : ∀ q1, (execLaneWakeBurstEnd n s) = .next q1 → q1.keys.fuses = s.keys.fuses := by
  rintro q1 ⟨⟩; simp
theorem execCdrLockAcquired_fuses (n : Fin 64) (s : State) : ∀ q1, (execCdrLockAcquired n s) = .next q1 → q1.keys.fuses = s.keys.fuses := by
  rintro q1 ⟨⟩; simp
theorem execCdrLockLost_fuses (n : Fin 64) (s : State) : ∀ q1, (execCdrLockLost n s) = .next q1 → q1.keys.fuses = s.keys.fuses := by
  rintro q1 ⟨⟩; simp
theorem execRxidleChange_fuses (n : Fin 64) (idle : Bool) (s : State) : ∀ q1, (execRxidleChange n idle s) = .next q1 → q1.keys.fuses = s.keys.fuses := by
  rintro q1 ⟨⟩; simp
theorem execCommaAlign_fuses (n : Fin 64) (s : State) : ∀ q1, (execCommaAlign n s) = .next q1 → q1.keys.fuses = s.keys.fuses := by
  rintro q1 ⟨⟩; simp
theorem execAlignLost_fuses (n : Fin 64) (s : State) : ∀ q1, (execAlignLost n s) = .next q1 → q1.keys.fuses = s.keys.fuses := by
  rintro q1 ⟨⟩; simp
theorem execBlockLockAcquired_fuses (n : Fin 64) (s : State) : ∀ q1, (execBlockLockAcquired n s) = .next q1 → q1.keys.fuses = s.keys.fuses := by
  rintro q1 ⟨⟩; simp
theorem execBlockLockLost_fuses (n : Fin 64) (s : State) : ∀ q1, (execBlockLockLost n s) = .next q1 → q1.keys.fuses = s.keys.fuses := by
  rintro q1 ⟨⟩; simp
@[simp] theorem State.fifoFault_fuses (s : State) (n : Nat) (tx : Bool) : (State.fifoFault s n tx).keys.fuses = s.keys.fuses := by simp [State.fifoFault]
theorem execPhaseFifoFault_fuses (n : Fin 64) (tx : Bool) (s : State) : ∀ q1, (execPhaseFifoFault n tx s) = .next q1 → q1.keys.fuses = s.keys.fuses := by
  rintro q1 ⟨⟩; simp
theorem execPrbsCheckerLock_fuses (n : Fin 64) (s : State) : ∀ q1, (execPrbsCheckerLock n s) = .next q1 → q1.keys.fuses = s.keys.fuses := by
  rintro q1 ⟨⟩; simp
@[simp] theorem State.countErr_fuses (s : State) (n k : Nat) : (State.countErr s n k).keys.fuses = s.keys.fuses := by simp [State.countErr]
@[simp] theorem State.laneErrIf_fuses (s : State) (c : Bool) (n i : Nat) : (State.laneErrIf s c n i).keys.fuses = s.keys.fuses := by simp [State.laneErrIf]
@[simp] theorem State.prbsCheck_fuses (s : State) (n width raw : Nat) : (State.prbsCheck s n width raw).keys.fuses = s.keys.fuses := by simp [State.prbsCheck]
@[simp] theorem State.rxWord_fuses (s : State) (n : Nat) (w : LaneRx) : (State.rxWord s n w).keys.fuses = s.keys.fuses := by simp [State.rxWord]
theorem execLaneRxWord_fuses (n : Fin 64) (w : LaneRx) (s : State) : ∀ q1, (execLaneRxWord n w s) = .next q1 → q1.keys.fuses = s.keys.fuses := by
  rintro q1 ⟨⟩; simp
@[simp] theorem State.txEdge_fuses (s : State) (n : Nat) (p : LanePins) : (State.txEdge s n p).keys.fuses = s.keys.fuses := by simp [State.txEdge]
@[simp] theorem State.rxEdge_fuses (s : State) (n : Nat) : (State.rxEdge s n).keys.fuses = s.keys.fuses := by unfold State.rxEdge; dsimp only; repeat' first | (simp; done) | split
@[simp] theorem State.lanesEdge_fuses (s : State) (k net : Nat) (p : EdgePins) : (State.lanesEdge s k net p).keys.fuses = s.keys.fuses := by simp [State.lanesEdge]

/-! WaleLink. -/

@[simp] theorem State.gangEnd_fuses (s : State) : (State.gangEnd s).keys.fuses = s.keys.fuses := by simp [State.gangEnd]
@[simp] theorem State.linkDown_fuses (s : State) (p cause : Nat) : (State.linkDown s p cause).keys.fuses = s.keys.fuses := by simp [State.linkDown]
@[simp] theorem State.walePortsDown_fuses (s : State) : (State.walePortsDown s).keys.fuses = s.keys.fuses := by simp [State.walePortsDown]
@[simp] theorem State.ownSet_fuses (s : State) (off : Nat) (v : Word) : (State.ownSet s off v).keys.fuses = s.keys.fuses := by simp [State.ownSet]
@[simp] theorem State.wpTake_fuses (s : State) (p : Nat) : (State.wpTake s p).keys.fuses = s.keys.fuses := by simp [State.wpTake]
@[simp] theorem State.wpTrain_fuses (s : State) (p : Nat) : (State.wpTrain s p).keys.fuses = s.keys.fuses := by simp [State.wpTrain]
@[simp] theorem State.wpStart_fuses (s : State) (p : Nat) : (State.wpStart s p).keys.fuses = s.keys.fuses := by simp [State.wpStart]
@[simp] theorem State.wpDue_fuses (s : State) (p : Nat) : (State.wpDue s p).keys.fuses = s.keys.fuses := by simp [State.wpDue]
@[simp] theorem State.wpCtlWrite_fuses (s : State) (p : Nat) (v : Word) : (State.wpCtlWrite s p v).keys.fuses = s.keys.fuses := by simp [State.wpCtlWrite]
@[simp] theorem State.trnCount_fuses (s : State) (p lane : Nat) (t : TrnSet) : (State.trnCount s p lane t).keys.fuses = s.keys.fuses := by simp [State.trnCount]
@[simp] theorem State.trnTraining_fuses (s : State) (p lane : Nat) (t : TrnSet) : (State.trnTraining s p lane t).keys.fuses = s.keys.fuses := by simp [State.trnTraining]
@[simp] theorem State.trnSet_fuses (s : State) (p lane : Nat) (t : TrnSet) : (State.trnSet s p lane t).keys.fuses = s.keys.fuses := by simp [State.trnSet]
@[simp] theorem State.peerRecord_fuses (s : State) (x epoch : Nat) : (State.peerRecord s x epoch).keys.fuses = s.keys.fuses := by simp [State.peerRecord]
@[simp] theorem State.originEnd_fuses (s : State) (o : WaleOrigin) (status : Nat) (read : Bool) (ws : List Word) : (State.originEnd s o status read ws).keys.fuses = s.keys.fuses := by unfold State.originEnd; (repeat' split) <;> simp
@[simp] theorem State.reqEnd_fuses (s : State) (r : WaleReq) (status : Nat) (ws : List Word) : (State.reqEnd s r status ws).keys.fuses = s.keys.fuses := by simp [State.reqEnd]
@[simp] theorem State.reqsEpoch_fuses (s : State) (f : WaleReq → Bool) : (State.reqsEpoch s f).keys.fuses = s.keys.fuses := by simp [State.reqsEpoch]
@[simp] theorem State.sendJoin_fuses (s : State) (p : Nat) : (State.sendJoin s p).keys.fuses = s.keys.fuses := by simp [State.sendJoin]
@[simp] theorem State.linkUp_fuses (s : State) (p : Nat) : (State.linkUp s p).keys.fuses = s.keys.fuses := by simp [State.linkUp]
@[simp] theorem State.ackDrop_fuses (s : State) (p aseq : Nat) : (State.ackDrop s p aseq).keys.fuses = s.keys.fuses := by unfold State.ackDrop; dsimp only; repeat' first | (simp; done) | split
@[simp] theorem State.ackTake_fuses (s : State) (p aseq : Nat) : (State.ackTake s p aseq).keys.fuses = s.keys.fuses := by unfold State.ackTake; repeat' first | (simp; done) | split
@[simp] theorem State.linkResend_fuses (s : State) (p : Nat) : (State.linkResend s p).keys.fuses = s.keys.fuses := by simp [State.linkResend]
@[simp] theorem State.nakOnce_fuses (s : State) (p : Nat) : (State.nakOnce s p).keys.fuses = s.keys.fuses := by simp [State.nakOnce]
@[simp] theorem State.linkRx_fuses (s : State) (p seq : Nat) : (State.linkRx s p seq).2.keys.fuses = s.keys.fuses := by simp [State.linkRx]
@[simp] theorem State.lanesChanged_fuses (s : State) (p : Nat) : (State.lanesChanged s p).keys.fuses = s.keys.fuses := by simp [State.lanesChanged]
@[simp] theorem State.askSet_fuses (s : State) (p op set : Nat) : (State.askSet s p op set).keys.fuses = s.keys.fuses := by simp [State.askSet]
@[simp] theorem State.laneFail_fuses (s : State) (p lane : Nat) : (State.laneFail s p lane).keys.fuses = s.keys.fuses := by simp [State.laneFail]
@[simp] theorem State.laneReadmit_fuses (s : State) (p lane : Nat) : (State.laneReadmit s p lane).keys.fuses = s.keys.fuses := by simp [State.laneReadmit]
@[simp] theorem State.lmgSet_fuses (s : State) (p op set : Nat) : (State.lmgSet s p op set).keys.fuses = s.keys.fuses := by simp [State.lmgSet]
@[simp] theorem State.dropBlock_fuses (s : State) : (State.dropBlock s).keys.fuses = s.keys.fuses := by simp [State.dropBlock]
@[simp] theorem State.completionIn_fuses (s : State) (b : WaleBlock) : (State.completionIn s b).keys.fuses = s.keys.fuses := by unfold State.completionIn; (repeat' split) <;> simp
theorem State.toPort_fuses (s : State) (from_ : Option Nat) (b : WaleBlock) : ∀ q1, (State.toPort s from_ b) = some q1 → q1.keys.fuses = s.keys.fuses := by
  intro q1 h
  simp only [State.toPort] at h
  (repeat' split at h) <;> simp_all <;> (try (subst h; simp))
@[simp] theorem State.answer_fuses (s : State) (b : WaleBlock) (status : Nat) (ws : List Word) : (State.answer s b status ws).keys.fuses = s.keys.fuses := by
  unfold State.answer
  dsimp only
  split
  · simp
  · split
    · rename_i h
      exact State.toPort_fuses _ _ _ _ h
    · split <;> simp
@[simp] theorem State.wakeToward_fuses (s : State) (x : Nat) (b : WaleBlock) : (State.wakeToward s x b).keys.fuses = s.keys.fuses := by simp [State.wakeToward]
@[simp] theorem State.sleepHandle_fuses (s : State) (x : Nat) (b : WaleBlock) : (State.sleepHandle s x b).keys.fuses = s.keys.fuses := by simp [State.sleepHandle]
@[simp] theorem State.routeOn_fuses (s : State) (from_ : Option Nat) (b : WaleBlock) : (State.routeOn s from_ b).keys.fuses = s.keys.fuses := by
  unfold State.routeOn
  dsimp only
  split
  · simp
  · split
    · rename_i h
      split at h
      · cases h
      · exact State.toPort_fuses _ _ _ _ h
    · split <;> simp
@[simp] theorem State.mqRefresh_fuses (s : State) : (State.mqRefresh s).keys.fuses = s.keys.fuses := by simp [State.mqRefresh]
@[simp] theorem State.messageIn_fuses (s : State) (b : WaleBlock) : (State.messageIn s b).keys.fuses = s.keys.fuses := by simp [State.messageIn]
@[simp] theorem State.localIn_fuses (s : State) (b : WaleBlock) (mem : Nat) : (State.localIn s b mem).keys.fuses = s.keys.fuses := by unfold State.localIn; (repeat' split) <;> simp
@[simp] theorem State.originate_fuses (s : State) (b : WaleBlock) : (State.originate s b).keys.fuses = s.keys.fuses := by simp [State.originate]
@[simp] theorem State.requestSend_fuses (s : State) (o : WaleOrigin) (b : WaleBlock) (tag : Nat) : (State.requestSend s o b tag).keys.fuses = s.keys.fuses := by simp [State.requestSend]
@[simp] theorem State.waleIssue_fuses (s : State) (o : WaleOrigin) (kind : WaleKind) (dest addr len : Nat) (ack : Bool) (ws : List Word) : (State.waleIssue s o kind dest addr len ack ws).keys.fuses = s.keys.fuses := by unfold State.waleIssue; (repeat' split) <;> simp
theorem State.tagNext_fuses (s : State) : ∀ q1, (State.tagNext s) = some q1 → q1.keys.fuses = s.keys.fuses := by
  intro q1 h
  simp only [State.tagNext] at h
  (repeat' split at h) <;> simp_all <;> (try (subst h; simp))
@[simp] theorem State.epochTest_fuses (s : State) (b : WaleBlock) : (State.epochTest s b).2.keys.fuses = s.keys.fuses := by simp [State.epochTest]
@[simp] theorem State.blockIn_fuses (s : State) (p : Nat) (b : WaleBlock) (here join : Bool) (act : State → State) (h : ∀ t, (act t).keys.fuses = t.keys.fuses) : (s.blockIn p b here join act).keys.fuses = s.keys.fuses := by
  have e := State.linkRx_fuses s p b.seq.val
  unfold State.blockIn
  split
  · rename_i hr
    rw [hr] at e
    exact e
  · rename_i t hr
    rw [hr] at e
    have e2 := State.epochTest_fuses t b
    split
    · rename_i hj
      split at hj
      · cases hj
      · rw [hj] at e2
        rw [e2]
        exact e
    · rename_i u hj
      have e3 : u.keys.fuses = t.keys.fuses := by
        split at hj
        · cases hj; rfl
        · rw [hj] at e2; exact e2
      dsimp only at e
      rw [← e, ← e3]
      split
      · exact h _
      split
      · rw [h]
        split <;> simp
      split
      · simp
      split
      · exact h _
      · simp
theorem execWpEnable_fuses (ag : Agent) (p : Fin 6) (s : State) : ∀ q1, (execWpEnable ag p s) = .next q1 → q1.keys.fuses = s.keys.fuses := by
  rintro q1 ⟨⟩; simp
theorem execWpDisable_fuses (ag : Agent) (p : Fin 6) (s : State) : ∀ q1, (execWpDisable ag p s) = .next q1 → q1.keys.fuses = s.keys.fuses := by
  rintro q1 ⟨⟩; simp
theorem execWpRetrain_fuses (ag : Agent) (p : Fin 6) (s : State) : ∀ q1, (execWpRetrain ag p s) = .next q1 → q1.keys.fuses = s.keys.fuses := by
  rintro q1 ⟨⟩; simp
theorem execWaleTrnSet_fuses (p : Fin 6) (lane : Fin 8) (t : TrnSet) (s : State) : ∀ q1, (execWaleTrnSet p lane t s) = .next q1 → q1.keys.fuses = s.keys.fuses := by
  rintro q1 ⟨⟩; simp
theorem execWaleTrainTimeout_fuses (p : Fin 6) (s : State) : ∀ q1, (execWaleTrainTimeout p s) = .next q1 → q1.keys.fuses = s.keys.fuses := by
  rintro q1 ⟨⟩; simp
theorem execWaleLinkUp_fuses (p : Fin 6) (s : State) : ∀ q1, (execWaleLinkUp p s) = .next q1 → q1.keys.fuses = s.keys.fuses := by
  rintro q1 ⟨⟩; simp
theorem execWaleAutoRetrain_fuses (p : Fin 6) (s : State) : ∀ q1, (execWaleAutoRetrain p s) = .next q1 → q1.keys.fuses = s.keys.fuses := by
  rintro q1 ⟨⟩; simp
theorem execWaleBlockBad_fuses (p : Fin 6) (fmt : Option (Fin 4096)) (s : State) : ∀ q1, (execWaleBlockBad p fmt s) = .next q1 → q1.keys.fuses = s.keys.fuses := by
  intro q1 h
  have e := fun q => State.linkRx_fuses s p.val q
  unfold execWaleBlockBad at h
  injection h with h
  subst h
  split
  · rfl
  · split
    · simp
    · rename_i q
      have e1 := e q.val
      split <;> (rename_i hr; rw [hr] at e1; simpa using e1)
theorem execWaleAck_fuses (p : Fin 6) (aseq : Fin 4096) (junk : Bool) (s : State) : ∀ q1, (execWaleAck p aseq junk s) = .next q1 → q1.keys.fuses = s.keys.fuses := by
  rintro q1 ⟨⟩; simp
theorem execWaleNak_fuses (p : Fin 6) (aseq : Fin 4096) (junk : Bool) (s : State) : ∀ q1, (execWaleNak p aseq junk s) = .next q1 → q1.keys.fuses = s.keys.fuses := by
  rintro q1 ⟨⟩; simp
theorem execWaleAckSend_fuses (p : Fin 6) (s : State) : ∀ q1, (execWaleAckSend p s) = .next q1 → q1.keys.fuses = s.keys.fuses := by
  rintro q1 ⟨⟩; simp
theorem execWaleAckTimerExpiry_fuses (p : Fin 6) (s : State) : ∀ q1, (execWaleAckTimerExpiry p s) = .next q1 → q1.keys.fuses = s.keys.fuses := by
  rintro q1 ⟨⟩; simp
theorem execWaleLaneFail_fuses (p : Fin 6) (lane : Fin 8) (s : State) : ∀ q1, (execWaleLaneFail p lane s) = .next q1 → q1.keys.fuses = s.keys.fuses := by
  rintro q1 ⟨⟩; simp
theorem execWaleLaneReadmitReady_fuses (p : Fin 6) (lane : Fin 8) (s : State) : ∀ q1, (execWaleLaneReadmitReady p lane s) = .next q1 → q1.keys.fuses = s.keys.fuses := by
  rintro q1 ⟨⟩; simp
theorem execWaleLmgDrop_fuses (p : Fin 6) (set : BitVec 8) (junk : Bool) (s : State) : ∀ q1, (execWaleLmgDrop p set junk s) = .next q1 → q1.keys.fuses = s.keys.fuses := by
  rintro q1 ⟨⟩; simp
theorem execWaleLmgReadmit_fuses (p : Fin 6) (set : BitVec 8) (junk : Bool) (s : State) : ∀ q1, (execWaleLmgReadmit p set junk s) = .next q1 → q1.keys.fuses = s.keys.fuses := by
  rintro q1 ⟨⟩; simp
theorem execWaleLmgSleep_fuses (p : Fin 6) (junk : Bool) (s : State) : ∀ q1, (execWaleLmgSleep p junk s) = .next q1 → q1.keys.fuses = s.keys.fuses := by
  rintro q1 ⟨⟩; simp
theorem execWaleLmgDown_fuses (p : Fin 6) (junk : Bool) (s : State) : ∀ q1, (execWaleLmgDown p junk s) = .next q1 → q1.keys.fuses = s.keys.fuses := by
  rintro q1 ⟨⟩; simp
theorem execWaleCompletion_fuses (p : Fin 6) (b : WaleBlock) (s : State) : ∀ q1, (execWaleCompletion p b s) = .next q1 → q1.keys.fuses = s.keys.fuses := by
  rintro q1 ⟨⟩; simp
theorem execWaleMessage_fuses (p : Fin 6) (b : WaleBlock) (s : State) : ∀ q1, (execWaleMessage p b s) = .next q1 → q1.keys.fuses = s.keys.fuses := by
  rintro q1 ⟨⟩; simp
theorem execWaleRequestDeadline_fuses (tag : Fin 256) (s : State) : ∀ q1, (execWaleRequestDeadline tag s) = .next q1 → q1.keys.fuses = s.keys.fuses := by
  rintro q1 ⟨⟩; (repeat' split) <;> simp
@[simp] theorem State.mqPop_fuses (s : State) : (State.mqPop s).keys.fuses = s.keys.fuses := by simp [State.mqPop]
theorem execWaleMqPop_fuses (ag : Agent) (s : State) : ∀ q1, (execWaleMqPop ag s) = .next q1 → q1.keys.fuses = s.keys.fuses := by
  rintro q1 ⟨⟩; simp

/-! Wale. -/

@[simp] theorem State.gangTake_fuses (s : State) (b : WaleBlock) : (State.gangTake s b).keys.fuses = s.keys.fuses := by simp [State.gangTake]
@[simp] theorem State.gangIn_fuses (s : State) (b : WaleBlock) : (State.gangIn s b).keys.fuses = s.keys.fuses := by unfold State.gangIn; (repeat' split) <;> simp
@[simp] theorem State.gangOut_fuses (s : State) (off : Nat) (ws : List Word) (first last abort : Bool) : (State.gangOut s off ws first last abort).keys.fuses = s.keys.fuses := by
  unfold State.gangOut
  dsimp only
  split
  · simp
  · split
    · rename_i h
      simpa using State.toPort_fuses _ _ _ _ h
    · simp
@[simp] theorem State.gangSend_fuses (s : State) (keep : Bool) (x0 : Nat) : (State.gangSend s keep x0).keys.fuses = s.keys.fuses := by
  induction x0 generalizing s keep with
  | zero => simp [State.gangSend]
  | succ n ih => unfold State.gangSend; (repeat' split) <;> simp [ih]
@[simp] theorem State.gangGo_fuses (s : State) : (State.gangGo s).keys.fuses = s.keys.fuses := by simp [State.gangGo]
@[simp] theorem State.gangAbort_fuses (s : State) (blocks : Nat) : (State.gangAbort s blocks).keys.fuses = s.keys.fuses := by unfold State.gangAbort; dsimp only; repeat' first | (simp; done) | split
@[simp] theorem State.gangCtlWrite_fuses (s : State) (v : Word) : (State.gangCtlWrite s v).keys.fuses = s.keys.fuses := by simp [State.gangCtlWrite]
@[simp] theorem State.gangResult_fuses (s : State) (r : Nat) : (State.gangResult s r).keys.fuses = s.keys.fuses := by simp [State.gangResult]
theorem execWaleGangBlock_fuses (p : Fin 6) (b : WaleBlock) (s : State) : ∀ q1, (execWaleGangBlock p b s) = .next q1 → q1.keys.fuses = s.keys.fuses := by
  rintro q1 ⟨⟩; simp
theorem execWaleGangGo_fuses (ag : Agent) (hamper bcast : Bool) (dest : Fin 512) (s : State) : ∀ q1, (execWaleGangGo ag hamper bcast dest s) = .next q1 → q1.keys.fuses = s.keys.fuses := by
  rintro q1 ⟨⟩; simp
theorem execWaleGangAbort_fuses (ag : Agent) (blocks : Nat) (s : State) : ∀ q1, (execWaleGangAbort ag blocks s) = .next q1 → q1.keys.fuses = s.keys.fuses := by
  rintro q1 ⟨⟩; simp
theorem execWaleGangSendEnd_fuses (s : State) : ∀ q1, (execWaleGangSendEnd s) = .next q1 → q1.keys.fuses = s.keys.fuses := by
  rintro q1 ⟨⟩; (repeat' split) <;> simp
theorem execWaleGangStreamTimeout_fuses (s : State) : ∀ q1, (execWaleGangStreamTimeout s) = .next q1 → q1.keys.fuses = s.keys.fuses := by
  rintro q1 ⟨⟩; simp
@[simp] theorem State.badBody_fuses (s : State) (p : Nat) : (State.badBody s p).keys.fuses = s.keys.fuses := by simp [State.badBody]
theorem execWaleAdvert_fuses (p : Fin 6) (b : WaleBlock) (s : State) : ∀ q1, (execWaleAdvert p b s) = .next q1 → q1.keys.fuses = s.keys.fuses := by
  rintro q1 ⟨⟩; (repeat' split) <;> simp
theorem execWaleAdvertTimer_fuses (s : State) : ∀ q1, (execWaleAdvertTimer s) = .next q1 → q1.keys.fuses = s.keys.fuses := by
  rintro q1 ⟨⟩; simp
theorem execWaleAdvertExpiry_fuses (p : Fin 6) (s : State) : ∀ q1, (execWaleAdvertExpiry p s) = .next q1 → q1.keys.fuses = s.keys.fuses := by
  rintro q1 ⟨⟩; simp
@[simp] theorem State.joinIn_fuses (s : State) (x epoch : Nat) : (State.joinIn s x epoch).keys.fuses = s.keys.fuses := by simp [State.joinIn]
theorem execWaleJoin_fuses (p : Fin 6) (b : WaleBlock) (s : State) : ∀ q1, (execWaleJoin p b s) = .next q1 → q1.keys.fuses = s.keys.fuses := by
  rintro q1 ⟨⟩; (repeat' split) <;> simp
@[simp] theorem State.timeCorrect_fuses (s : State) (o : Int) : (State.timeCorrect s o).keys.fuses = s.keys.fuses := by simp [State.timeCorrect]
@[simp] theorem State.timeLock_fuses (s : State) (o : Int) : (State.timeLock s o).keys.fuses = s.keys.fuses := by simp [State.timeLock]
@[simp] theorem State.timeUpdate_fuses (s : State) (p : Nat) (t1 t2 t3 t4 : Int) : (State.timeUpdate s p t1 t2 t3 t4).keys.fuses = s.keys.fuses := by simp [State.timeUpdate]
theorem execWaleTimeExchangeStart_fuses (fine : Fin 2500) (s : State) : ∀ q1, (execWaleTimeExchangeStart fine s) = .next q1 → q1.keys.fuses = s.keys.fuses := by
  rintro q1 ⟨⟩; simp
theorem execWaleTsyRequest_fuses (p : Fin 6) (xn : Fin 65536) (fine : Fin 2500) (turn : Nat) (junk : Bool) (s : State) : ∀ q1, (execWaleTsyRequest p xn fine turn junk s) = .next q1 → q1.keys.fuses = s.keys.fuses := by
  rintro q1 ⟨⟩; simp
theorem execWaleTsyResponse_fuses (p : Fin 6) (xn : Fin 65536) (fine : Fin 2500) (junk : Bool) (s : State) : ∀ q1, (execWaleTsyResponse p xn fine junk s) = .next q1 → q1.keys.fuses = s.keys.fuses := by
  rintro q1 ⟨⟩; (repeat' split) <;> simp
@[simp] theorem State.followUpIn_fuses (s : State) (p xn : Nat) (t2 t3 : Int) : (State.followUpIn s p xn t2 t3).keys.fuses = s.keys.fuses := by unfold State.followUpIn; (repeat' split) <;> simp
theorem execWaleTimeFollowUp_fuses (p : Fin 6) (b : WaleBlock) (s : State) : ∀ q1, (execWaleTimeFollowUp p b s) = .next q1 → q1.keys.fuses = s.keys.fuses := by
  rintro q1 ⟨⟩; (repeat' split) <;> simp
theorem execWaleFollowUpTimeout_fuses (s : State) : ∀ q1, (execWaleFollowUpTimeout s) = .next q1 → q1.keys.fuses = s.keys.fuses := by
  rintro q1 ⟨⟩; simp
@[simp] theorem State.bndSend_fuses (s : State) (i : Nat) (x : Instant) : (State.bndSend s i x).keys.fuses = s.keys.fuses := by simp [State.bndSend]
@[simp] theorem State.bndIn_fuses (s : State) (orig i : Nat) (x : Instant) : (State.bndIn s orig i x).keys.fuses = s.keys.fuses := by simp [State.bndIn]
theorem execWaleBnd_fuses (p : Fin 6) (b : WaleBlock) (s : State) : ∀ q1, (execWaleBnd p b s) = .next q1 → q1.keys.fuses = s.keys.fuses := by
  intro q1 h
  unfold execWaleBnd at h
  injection h with h
  subst h
  apply State.blockIn_fuses
  intro t
  split <;> simp
@[simp] theorem State.bndrefIn_fuses (s : State) (orig refusing : Nat) : (State.bndrefIn s orig refusing).keys.fuses = s.keys.fuses := by simp [State.bndrefIn]
theorem execWaleBndref_fuses (p : Fin 6) (b : WaleBlock) (s : State) : ∀ q1, (execWaleBndref p b s) = .next q1 → q1.keys.fuses = s.keys.fuses := by
  rintro q1 ⟨⟩; (repeat' split) <;> simp
@[simp] theorem State.tallyVote_fuses (s : State) (x : Instant) (dev : Nat) (ready : Bool) : (State.tallyVote s x dev ready).keys.fuses = s.keys.fuses := by simp [State.tallyVote]
@[simp] theorem State.voteOn_fuses (s : State) (x : Instant) (dev : Nat) (ready : Bool) : (State.voteOn s x dev ready).keys.fuses = s.keys.fuses := by simp [State.voteOn]
theorem execWaleVoteCutoff_fuses (src : Fin 64) (s : State) : ∀ q1, (execWaleVoteCutoff src s) = .next q1 → q1.keys.fuses = s.keys.fuses := by
  rintro q1 ⟨⟩; (repeat' split) <;> simp
theorem execWaleVote_fuses (p : Fin 6) (b : WaleBlock) (s : State) : ∀ q1, (execWaleVote p b s) = .next q1 → q1.keys.fuses = s.keys.fuses := by
  rintro q1 ⟨⟩; (repeat' split) <;> simp
@[simp] theorem State.verdictIn_fuses (s : State) (x : Instant) (ready : Bool) : (State.verdictIn s x ready).keys.fuses = s.keys.fuses := by simp [State.verdictIn]
theorem execWaleVerdictTimer_fuses (num den : Nat) (s : State) : ∀ q1, (execWaleVerdictTimer num den s) = .next q1 → q1.keys.fuses = s.keys.fuses := by
  rintro q1 ⟨⟩; simp
theorem execWaleVerdict_fuses (p : Fin 6) (b : WaleBlock) (s : State) : ∀ q1, (execWaleVerdict p b s) = .next q1 → q1.keys.fuses = s.keys.fuses := by
  rintro q1 ⟨⟩; (repeat' split) <;> simp
@[simp] theorem State.readyReport_fuses (s after : State) (src : Nat) (x : Instant) : (State.readyReport s after src x).keys.fuses = after.keys.fuses := by unfold State.readyReport; (repeat' split) <;> simp
theorem execWaleAlarm_fuses (p : Fin 6) (b : WaleBlock) (s : State) : ∀ q1, (execWaleAlarm p b s) = .next q1 → q1.keys.fuses = s.keys.fuses := by
  rintro q1 ⟨⟩; (repeat' split) <;> simp
@[simp] theorem State.sysdoneSend_fuses (s : State) : (State.sysdoneSend s).keys.fuses = s.keys.fuses := by simp [State.sysdoneSend]
@[simp] theorem State.rosterTake_fuses (s : State) : (State.rosterTake s).keys.fuses = s.keys.fuses := by simp [State.rosterTake]
theorem execWaleDoneUpSend_fuses (s : State) : ∀ q1, (execWaleDoneUpSend s) = .next q1 → q1.keys.fuses = s.keys.fuses := by
  rintro q1 ⟨⟩; simp
theorem execWaleDoneUp_fuses (p : Fin 6) (b : WaleBlock) (s : State) : ∀ q1, (execWaleDoneUp p b s) = .next q1 → q1.keys.fuses = s.keys.fuses := by
  rintro q1 ⟨⟩; (repeat' split) <;> simp
theorem execWaleSysdone_fuses (p : Fin 6) (b : WaleBlock) (s : State) : ∀ q1, (execWaleSysdone p b s) = .next q1 → q1.keys.fuses = s.keys.fuses := by
  rintro q1 ⟨⟩; (repeat' split) <;> simp
theorem execWaleSystemDoneInstant_fuses (s : State) : ∀ q1, (execWaleSystemDoneInstant s) = .next q1 → q1.keys.fuses = s.keys.fuses := by
  rintro q1 ⟨⟩; simp
theorem execWaleSleepMsg_fuses (p : Fin 6) (b : WaleBlock) (s : State) : ∀ q1, (execWaleSleepMsg p b s) = .next q1 → q1.keys.fuses = s.keys.fuses := by
  rintro q1 ⟨⟩; (repeat' split) <;> simp
@[simp] theorem State.awakeIn_fuses (s : State) (x : Nat) : (State.awakeIn s x).keys.fuses = s.keys.fuses := by simp [State.awakeIn]
theorem execWaleAwake_fuses (p : Fin 6) (b : WaleBlock) (s : State) : ∀ q1, (execWaleAwake p b s) = .next q1 → q1.keys.fuses = s.keys.fuses := by
  rintro q1 ⟨⟩; (repeat' split) <;> simp
theorem execWaleWake_fuses (p : Fin 6) (b : WaleBlock) (s : State) : ∀ q1, (execWaleWake p b s) = .next q1 → q1.keys.fuses = s.keys.fuses := by
  rintro q1 ⟨⟩; (repeat' split) <;> simp
@[simp] theorem State.waleSleep_fuses (s : State) : (State.waleSleep s).keys.fuses = s.keys.fuses := by simp [State.waleSleep]
@[simp] theorem State.waleWake_fuses (s : State) : (State.waleWake s).keys.fuses = s.keys.fuses := by simp [State.waleWake]
@[simp] theorem State.waleCfgWrite_fuses (s : State) (v : Word) : (State.waleCfgWrite s v).keys.fuses = s.keys.fuses := by simp [State.waleCfgWrite]

/-! HostPorts. -/

@[simp] theorem State.portStreamCut_fuses (s : State) (p : Fin 2) : (State.portStreamCut s p).keys.fuses = s.keys.fuses := by simp [State.portStreamCut]
@[simp] theorem State.pcieDown_fuses (s : State) (p : Fin 2) : (State.pcieDown s p).keys.fuses = s.keys.fuses := by simp [State.pcieDown]
@[simp] theorem State.epReset_fuses (s : State) (p : Fin 2) : (State.epReset s p).keys.fuses = s.keys.fuses := by simp [State.epReset]
@[simp] theorem State.pcieFlr_fuses (s : State) (p : Fin 2) : (State.pcieFlr s p).keys.fuses = s.keys.fuses := by simp [State.pcieFlr]
theorem execPcieLinkUp_fuses (port : Fin 2) (gen : BitVec 3) (width : BitVec 2) (s : State) : ∀ q1, (execPcieLinkUp port gen width s) = .next q1 → q1.keys.fuses = s.keys.fuses := by
  rintro q1 ⟨⟩; simp
theorem execPcieLinkDown_fuses (port : Fin 2) (s : State) : ∀ q1, (execPcieLinkDown port s) = .next q1 → q1.keys.fuses = s.keys.fuses := by
  rintro q1 ⟨⟩; simp
theorem execPcieFlr_fuses (port : Fin 2) (s : State) : ∀ q1, (execPcieFlr port s) = .next q1 → q1.keys.fuses = s.keys.fuses := by
  rintro q1 ⟨⟩; simp
theorem execPcieHotReset_fuses (port : Fin 2) (s : State) : ∀ q1, (execPcieHotReset port s) = .next q1 → q1.keys.fuses = s.keys.fuses := by
  rintro q1 ⟨⟩; simp
theorem execPciePerst_fuses (port : Fin 2) (s : State) : ∀ q1, (execPciePerst port s) = .next q1 → q1.keys.fuses = s.keys.fuses := by
  rintro q1 ⟨⟩; simp
theorem execPciePowerStateChange_fuses (port : Fin 2) (d3hot l1 : Bool) (cfg : EndpointCfg) (s : State) : ∀ q1, (execPciePowerStateChange port d3hot l1 cfg s) = .next q1 → q1.keys.fuses = s.keys.fuses := by
  rintro q1 ⟨⟩; simp
@[simp] theorem State.hpCtlWrite_fuses (s : State) (ag : Agent) (p : Fin 2) (v : Word) : (State.hpCtlWrite s ag p v).keys.fuses = s.keys.fuses := by simp [State.hpCtlWrite]
theorem execHpSpirel_fuses (ag : Agent) (port : Fin 2) (s : State) : ∀ q1, (execHpSpirel ag port s) = .next q1 → q1.keys.fuses = s.keys.fuses := by
  rintro q1 ⟨⟩; simp
@[simp] theorem State.windowWrite_fuses (s : State) (p : Fin 2) (spi : Bool) (ws : List Word) : (State.windowWrite s p spi ws).keys.fuses = s.keys.fuses := by simp [State.windowWrite]
@[simp] theorem State.hpSend_fuses (s : State) (ag : Agent) (p : Fin 2) (v : Word) : (State.hpSend s ag p v).keys.fuses = s.keys.fuses := by simp [State.hpSend]
theorem execHpSendEnd_fuses (ag : Agent) (port : Fin 2) (v : Word) (s : State) : ∀ q1, (execHpSendEnd ag port v s) = .next q1 → q1.keys.fuses = s.keys.fuses := by
  rintro q1 ⟨⟩; simp
@[simp] theorem State.sretRead_fuses (s : State) (p : Fin 2) : (State.sretRead s p).2.keys.fuses = s.keys.fuses := by unfold State.sretRead; dsimp only; repeat' first | (simp; done) | split
theorem execHpSretRead_fuses (ag : Agent) (port : Fin 2) (s : State) : ∀ q1, (execHpSretRead ag port s) = .next q1 → q1.keys.fuses = s.keys.fuses := by
  rintro q1 ⟨⟩; simp
@[simp] theorem State.spiAnswer_fuses (s : State) (p : Fin 2) : (State.spiAnswer s p).keys.fuses = s.keys.fuses := by simp [State.spiAnswer]
@[simp] theorem State.spiError_fuses (s : State) (p : Fin 2) : (State.spiError s p).keys.fuses = s.keys.fuses := by simp [State.spiError]
theorem execSpiFrameError_fuses (port : Fin 2) (s : State) : ∀ q1, (execSpiFrameError port s) = .next q1 → q1.keys.fuses = s.keys.fuses := by
  rintro q1 ⟨⟩; simp
@[simp] theorem State.semWrite_fuses (s : State) (ag : Agent) (n : Nat) (v : Word) : (State.semWrite s ag n v).keys.fuses = s.keys.fuses := by simp [State.semWrite]
theorem execSemAcquire_fuses (ag : Agent) (n : Fin 64) (s : State) : ∀ q1, (execSemAcquire ag n s) = .next q1 → q1.keys.fuses = s.keys.fuses := by
  rintro q1 ⟨⟩; simp
theorem execSemRelease_fuses (ag : Agent) (n : Fin 64) (s : State) : ∀ q1, (execSemRelease ag n s) = .next q1 → q1.keys.fuses = s.keys.fuses := by
  rintro q1 ⟨⟩; simp
@[simp] theorem State.semForce_fuses (s : State) (ag : Agent) (v : Word) : (State.semForce s ag v).keys.fuses = s.keys.fuses := by simp [State.semForce]
theorem execSemForce_fuses (ag : Agent) (v : Word) (s : State) : ∀ q1, (execSemForce ag v s) = .next q1 → q1.keys.fuses = s.keys.fuses := by
  rintro q1 ⟨⟩; simp
@[simp] theorem State.mailCtl_fuses (s : State) (ag : Agent) (m : Nat) (v : Word) : (State.mailCtl s ag m v).keys.fuses = s.keys.fuses := by simp [State.mailCtl]
@[simp] theorem State.mailData_fuses (s : State) (m i : Nat) (v : Word) : (State.mailData s m i v).keys.fuses = s.keys.fuses := by simp [State.mailData]
theorem execMbRing_fuses (ag : Agent) (m : Fin 16) (s : State) : ∀ q1, (execMbRing ag m s) = .next q1 → q1.keys.fuses = s.keys.fuses := by
  rintro q1 ⟨⟩; simp
theorem execMbAck_fuses (ag : Agent) (m : Fin 16) (s : State) : ∀ q1, (execMbAck ag m s) = .next q1 → q1.keys.fuses = s.keys.fuses := by
  rintro q1 ⟨⟩; simp
theorem execMbDataWrite_fuses (ag : Agent) (m : Fin 16) (i : Fin 8) (v : Word) (s : State) : ∀ q1, (execMbDataWrite ag m i v s) = .next q1 → q1.keys.fuses = s.keys.fuses := by
  rintro q1 ⟨⟩; simp

/-! Cluster. -/

@[simp] theorem State.coreRelease_fuses (s : State) (c : Nat) : (State.coreRelease s c).keys.fuses = s.keys.fuses := by simp [State.coreRelease]
@[simp] theorem State.clctlWrite_fuses (s : State) (v : Word) : (State.clctlWrite s v).keys.fuses = s.keys.fuses := by simp [State.clctlWrite]
theorem execClusterRunWrite_fuses (ag : Agent) (v : Word) (s : State) : ∀ q1, (execClusterRunWrite ag v s) = .next q1 → q1.keys.fuses = s.keys.fuses := by
  rintro q1 ⟨⟩; simp
@[simp] theorem State.setWd_fuses (s : State) (i : Nat) (w : WdSt) : (State.setWd s i w).keys.fuses = s.keys.fuses := by simp [State.setWd]
@[simp] theorem State.wdEnable_fuses (s : State) (i : Nat) (on : Bool) : (State.wdEnable s i on).keys.fuses = s.keys.fuses := by simp [State.wdEnable]
@[simp] theorem State.wdKick_fuses (s : State) (i : Nat) (v : Word) : (State.wdKick s i v).keys.fuses = s.keys.fuses := by simp [State.wdKick]
@[simp] theorem State.wdCore_fuses (s : State) (c : Nat) : (State.wdCore s c).keys.fuses = s.keys.fuses := by simp [State.wdCore]
@[simp] theorem State.wdExpire_fuses (s : State) (i : Nat) : (State.wdExpire s i).keys.fuses = s.keys.fuses := by simp [State.wdExpire]
theorem execWdEnable_fuses (i : Fin 5) (s : State) : ∀ q1, (execWdEnable i s) = .next q1 → q1.keys.fuses = s.keys.fuses := by
  rintro q1 ⟨⟩; simp
theorem execWdKick_fuses (i : Fin 5) (v : Word) (s : State) : ∀ q1, (execWdKick i v s) = .next q1 → q1.keys.fuses = s.keys.fuses := by
  rintro q1 ⟨⟩; simp
theorem execWdExpiry_fuses (i : Fin 5) (s : State) : ∀ q1, (execWdExpiry i s) = .next q1 → q1.keys.fuses = s.keys.fuses := by
  rintro q1 ⟨⟩; simp
@[simp] theorem State.wdTick_fuses (s : State) : (State.wdTick s).keys.fuses = s.keys.fuses := by simp [State.wdTick]
@[simp] theorem State.wdWrite_fuses (s : State) (i o : Nat) (v : Word) : (State.wdWrite s i o v).keys.fuses = s.keys.fuses := by unfold State.wdWrite; (repeat' split) <;> simp
@[simp] theorem State.setGw_fuses (s : State) (p : Nat) (g : GwSt) : (State.setGw s p g).keys.fuses = s.keys.fuses := by simp [State.setGw]
@[simp] theorem State.gwErr_fuses (s : State) (p i : Nat) : (State.gwErr s p i).keys.fuses = s.keys.fuses := by simp [State.gwErr]
@[simp] theorem State.gwAnswer_fuses (s : State) (o : GwOrigin) (bs : List (BitVec 64)) : (State.gwAnswer s o bs).keys.fuses = s.keys.fuses := by unfold State.gwAnswer; (repeat' split) <;> simp
theorem State.gwAccess_fuses (s : State) (o : GwOrigin) (req : WindowReq) : ∀ q1, (State.gwAccess s o req) = some q1 → q1.keys.fuses = s.keys.fuses := by
  intro q1 h
  simp only [State.gwAccess] at h
  (repeat' split at h) <;> simp_all <;> (try (subst h; simp))
@[simp] theorem State.gwEdge_fuses (s : State) (p : Nat) (ready : Bool) : (State.gwEdge s p ready).keys.fuses = s.keys.fuses := by unfold State.gwEdge; dsimp only; repeat' first | (simp; done) | split
@[simp] theorem State.gwBayEdge_fuses (s : State) (bay net : Nat) (ready : Bool) : (State.gwBayEdge s bay net ready).keys.fuses = s.keys.fuses := by unfold State.gwBayEdge; (repeat' split) <;> simp
@[simp] theorem State.gwReadEnd_fuses (s : State) (p : Nat) (r : GwRead) (bs : List (BitVec 64)) : (State.gwReadEnd s p r bs).keys.fuses = s.keys.fuses := by simp [State.gwReadEnd]
theorem execGwWindowResponse_fuses (port : Fin 4) (tag : Fin 32) (data : List (BitVec 64)) (err : Bool) (s : State) : ∀ q1, (execGwWindowResponse port tag data err s) = .next q1 → q1.keys.fuses = s.keys.fuses := by
  rintro q1 ⟨⟩; (repeat' split) <;> simp
theorem execGwWindowTimeout_fuses (port : Fin 4) (tag : Fin 32) (s : State) : ∀ q1, (execGwWindowTimeout port tag s) = .next q1 → q1.keys.fuses = s.keys.fuses := by
  rintro q1 ⟨⟩; (repeat' split) <;> simp
theorem execEventRaise_fuses (n : Fin 448) (s : State) : ∀ q1, (execEventRaise n s) = .next q1 → q1.keys.fuses = s.keys.fuses := by
  rintro q1 ⟨⟩; simp
theorem execUserEventEdge_fuses (w : Fin 2) (j : Fin 32) (s : State) : ∀ q1, (execUserEventEdge w j s) = .next q1 → q1.keys.fuses = s.keys.fuses := by
  rintro q1 ⟨⟩; simp
@[simp] theorem State.claim_fuses (s : State) (c : Nat) : (State.claim s c).2.keys.fuses = s.keys.fuses := by unfold State.claim; (repeat' split) <;> simp
theorem execEvtClaim_fuses (ag : Agent) (c : Fin 4) (s : State) : ∀ q1, (execEvtClaim ag c s) = .next q1 → q1.keys.fuses = s.keys.fuses := by
  rintro q1 ⟨⟩; simp
@[simp] theorem State.evtRaise_fuses (s : State) (v : Word) : (State.evtRaise s v).keys.fuses = s.keys.fuses := by simp [State.evtRaise]
theorem execEvtRaiseWrite_fuses (ag : Agent) (v : Word) (s : State) : ∀ q1, (execEvtRaiseWrite ag v s) = .next q1 → q1.keys.fuses = s.keys.fuses := by
  rintro q1 ⟨⟩; simp
@[simp] theorem State.evtSrcWrite_fuses (s : State) (n : Nat) (v : Word) : (State.evtSrcWrite s n v).keys.fuses = s.keys.fuses := by simp [State.evtSrcWrite]
@[simp] theorem State.evtThrWrite_fuses (s : State) (t : Nat) (v : Word) : (State.evtThrWrite s t v).keys.fuses = s.keys.fuses := by simp [State.evtThrWrite]
@[simp] theorem State.msixTableWrite_fuses (s : State) (p : Fin 2) (k : Nat) (v : Word) : (State.msixTableWrite s p k v).keys.fuses = s.keys.fuses := by simp [State.msixTableWrite]

/-! Domains. -/

@[simp] theorem State.wytheOff_fuses (s : State) (w : Nat) : (State.wytheOff s w).keys.fuses = s.keys.fuses := by simp [State.wytheOff]
@[simp] theorem State.lanesOff_fuses (s : State) (rs : List Nat) : (State.lanesOff s rs).keys.fuses = s.keys.fuses := by simp [State.lanesOff]
@[simp] theorem State.hampOff_fuses (s : State) : (State.hampOff s).keys.fuses = s.keys.fuses := by simp [State.hampOff]
@[simp] theorem State.railOff_fuses (s : State) (r : Nat) : (State.railOff s r).keys.fuses = s.keys.fuses := by simp [State.railOff]
@[simp] theorem State.domainsOff_fuses (s : State) (cause r : Nat) : (State.domainsOff s cause r).keys.fuses = s.keys.fuses := by unfold State.domainsOff; (repeat' split) <;> simp
@[simp] theorem State.fabricHeld_fuses (s : State) : (State.fabricHeld s).keys.fuses = s.keys.fuses := by simp [State.fabricHeld]
@[simp] theorem State.enterSafe_fuses (s : State) (cause r : Nat) : (State.enterSafe s cause r).keys.fuses = s.keys.fuses := by simp [State.enterSafe]
@[simp] theorem State.trip_fuses (s : State) (cause r : Nat) : (State.trip s cause r).keys.fuses = s.keys.fuses := by unfold State.trip; (repeat' split) <;> simp
@[simp] theorem State.repairCut_fuses (s : State) : (State.repairCut s).keys.fuses = s.keys.fuses := by unfold State.repairCut; (repeat' split) <;> simp
@[simp] theorem State.keepRegs_fuses (s t : State) (offs : List Nat) : (State.keepRegs s t offs).keys.fuses = t.keys.fuses := by simp [State.keepRegs]

/-! Sounding. -/

@[simp] theorem State.setPhase_fuses (s : State) (p : Nat) : (State.setPhase s p).keys.fuses = s.keys.fuses := by simp [State.setPhase]
@[simp] theorem State.sndResult_fuses (s : State) (code : Nat) : (State.sndResult s code).keys.fuses = s.keys.fuses := by simp [State.sndResult]
@[simp] theorem State.setSnd_fuses (s : State) (v : SndSt) : (State.setSnd s v).keys.fuses = s.keys.fuses := by simp [State.setSnd]
@[simp] theorem State.useSpare_fuses (s : State) (col : Nat) : (State.useSpare s col).keys.fuses = s.keys.fuses := by simp [State.useSpare]
@[simp] theorem State.setSteer_fuses (s : State) (n : Nat) (b : Bool) : (State.setSteer s n b).keys.fuses = s.keys.fuses := by simp [State.setSteer]
@[simp] theorem State.setCopying_fuses (s : State) (n : Nat) (b : Bool) : (State.setCopying s n b).keys.fuses = s.keys.fuses := by simp [State.setCopying]
@[simp] theorem State.rowRepair_fuses (s : State) (n rp : Nat) : (State.rowRepair s n rp).keys.fuses = s.keys.fuses := by simp [State.rowRepair]
@[simp] theorem State.rowRepairs_fuses (s : State) (n k : Nat) (first : Option Nat) : (State.rowRepairs s n k first).keys.fuses = s.keys.fuses := by unfold State.rowRepairs; (repeat' split) <;> simp
@[simp] theorem State.rowLost_fuses (s : State) (n rp : Nat) : (State.rowLost s n rp).keys.fuses = s.keys.fuses := by simp [State.rowLost]
@[simp] theorem State.spareRepair_fuses (s : State) (n : Nat) : (State.spareRepair s n).keys.fuses = s.keys.fuses := by simp [State.spareRepair]
@[simp] theorem State.fuseCount_fuses (s : State) : (State.fuseCount s).keys.fuses = s.keys.fuses := by simp [State.fuseCount]
@[simp] theorem State.fuseRepairs_fuses (s : State) : (State.fuseRepairs s).keys.fuses = s.keys.fuses := by simp [State.fuseRepairs]
@[simp] theorem State.fuseBoot_fuses (s : State) : (State.fuseBoot s).keys.fuses = s.keys.fuses := by simp [State.fuseBoot]
@[simp] theorem State.softRepair_fuses (s : State) : (State.softRepair s).keys.fuses = s.keys.fuses := by simp [State.softRepair]
@[simp] theorem State.repairCreel_fuses (s : State) (badSpares : List Nat) (n rowpairs : Nat) : (State.repairCreel s badSpares n rowpairs).2.keys.fuses = s.keys.fuses := by simp [State.repairCreel]
@[simp] theorem State.repairAll_fuses (s : State) (badSpares : List Nat) (x0 : List CreelFail) : (State.repairAll s badSpares x0).1.keys.fuses = s.keys.fuses := by
  induction x0 generalizing s badSpares with
  | nil => simp [State.repairAll]
  | cons a l ih => simp [State.repairAll, ih]
@[simp] theorem State.soundBays_fuses (s : State) (bays : List Nat) (rep : SoundReport) : (State.soundBays s bays rep).1.keys.fuses = s.keys.fuses := by simp [State.soundBays]
@[simp] theorem State.unrepairable_fuses (s : State) (bay : Nat) : (State.unrepairable s bay).keys.fuses = s.keys.fuses := by simp [State.unrepairable]
theorem execLoadingSoundingBatchDone_fuses (rep : SoundReport) (s : State) : ∀ q1, (execLoadingSoundingBatchDone rep s) = .next q1 → q1.keys.fuses = s.keys.fuses := by
  rintro q1 ⟨⟩; simp
@[simp] theorem State.sndRefuse_fuses (s : State) (code : Nat) : (State.sndRefuse s code).keys.fuses = s.keys.fuses := by simp [State.sndRefuse]
@[simp] theorem State.sndStart_fuses (s : State) : (State.sndStart s).keys.fuses = s.keys.fuses := by simp [State.sndStart]
@[simp] theorem State.sndGo_fuses (s : State) (v : Word) : (State.sndGo s v).keys.fuses = s.keys.fuses := by unfold State.sndGo; dsimp only; repeat' first | (simp; done) | split
@[simp] theorem State.sndBack_fuses (s : State) (res : Nat) : (State.sndBack s res).keys.fuses = s.keys.fuses := by simp [State.sndBack]
@[simp] theorem State.sndAbort_fuses (s : State) : (State.sndAbort s).keys.fuses = s.keys.fuses := by simp [State.sndAbort]
@[simp] theorem State.sndEnd_fuses (s : State) : (State.sndEnd s).keys.fuses = s.keys.fuses := by simp [State.sndEnd]
@[simp] theorem State.sndReqWrite_fuses (s : State) (v : Word) : (State.sndReqWrite s v).keys.fuses = s.keys.fuses := by simp [State.sndReqWrite]
theorem execSoundingRequest_fuses (ag : Agent) (v : Word) (s : State) : ∀ q1, (execSoundingRequest ag v s) = .next q1 → q1.keys.fuses = s.keys.fuses := by
  rintro q1 ⟨⟩; simp
theorem execSoundingAbort_fuses (ag : Agent) (s : State) : ∀ q1, (execSoundingAbort ag s) = .next q1 → q1.keys.fuses = s.keys.fuses := by
  rintro q1 ⟨⟩; simp
theorem execSoundingCopyDone_fuses (s : State) : ∀ q1, (execSoundingCopyDone s) = .next q1 → q1.keys.fuses = s.keys.fuses := by
  rintro q1 ⟨⟩; simp
@[simp] theorem State.sndRun_fuses (s : State) (r : SoundRun) : (State.sndRun s r).keys.fuses = s.keys.fuses := by simp [State.sndRun]
theorem execSoundingRunDone_fuses (r : SoundRun) (s : State) : ∀ q1, (execSoundingRunDone r s) = .next q1 → q1.keys.fuses = s.keys.fuses := by
  rintro q1 ⟨⟩; simp
theorem execSoundingMoveBackDone_fuses (s : State) : ∀ q1, (execSoundingMoveBackDone s) = .next q1 → q1.keys.fuses = s.keys.fuses := by
  rintro q1 ⟨⟩; simp
@[simp] theorem State.fuseGo_fuses (s : State) (v : Word) : (State.fuseGo s v).keys.fuses = s.keys.fuses := by simp [State.fuseGo]
theorem execFuseBurn_fuses (ag : Agent) (v : Word) (s : State) : ∀ q1, (execFuseBurn ag v s) = .next q1 → q1.keys.fuses = s.keys.fuses := by
  rintro q1 ⟨⟩; simp
@[simp] theorem State.fuseEffect_fuses (s : State) (e : Nat × Nat × Nat) : (State.fuseEffect s e).keys.fuses = s.keys.fuses := by simp [State.fuseEffect]
theorem execFuseBurnDone_fuses (s : State) : ∀ q1, (execFuseBurnDone s) = .next q1 → q1.keys.fuses = s.keys.fuses := by
  rintro q1 ⟨⟩; (repeat' split) <;> simp
@[simp] theorem State.staleClrWrite_fuses (s : State) (v : Word) : (State.staleClrWrite s v).keys.fuses = s.keys.fuses := by simp [State.staleClrWrite]
theorem execStaleClear_fuses (ag : Agent) (v : Word) (s : State) : ∀ q1, (execStaleClear ag v s) = .next q1 → q1.keys.fuses = s.keys.fuses := by
  rintro q1 ⟨⟩; simp
@[simp] theorem State.sndReload_fuses (s : State) : (State.sndReload s).keys.fuses = s.keys.fuses := by simp [State.sndReload]

/-! Loading. -/

@[simp] theorem State.readDir_fuses (s : State) : (State.readDir s).keys.fuses = s.keys.fuses := by simp [State.readDir]
@[simp] theorem State.strapLatch_fuses (s : State) (v : BitVec 7) : (State.strapLatch s v).keys.fuses = s.keys.fuses := by simp [State.strapLatch]
theorem execResetNFall_fuses (s : State) : ∀ q1, (execResetNFall s) = .next q1 → q1.keys.fuses = s.keys.fuses := by
  rintro q1 ⟨⟩; simp
theorem execStrapLatch_fuses (straps : BitVec 7) (s : State) : ∀ q1, (execStrapLatch straps s) = .next q1 → q1.keys.fuses = s.keys.fuses := by
  rintro q1 ⟨⟩; simp
theorem execXwaitExpiry_fuses (present : Bool) (s : State) : ∀ q1, (execXwaitExpiry present s) = .next q1 → q1.keys.fuses = s.keys.fuses := by
  rintro q1 ⟨⟩; simp
@[simp] theorem State.bootNames_fuses (s : State) (num : Nat) : (State.bootNames s num).keys.fuses = s.keys.fuses := by simp [State.bootNames]
@[simp] theorem State.keeperReads_fuses (s : State) (agree xref : Bool) : (State.keeperReads s agree xref).keys.fuses = s.keys.fuses := by simp [State.keeperReads]
@[simp] theorem State.keeperWork_fuses (s : State) (agree xref : Bool) : (State.keeperWork s agree xref).keys.fuses = s.keys.fuses := by simp [State.keeperWork]
@[simp] theorem State.factory_fuses (s : State) : (State.factory s).keys.fuses = s.keys.fuses := by simp [State.factory]
@[simp] theorem State.startTest_fuses (s : State) : (State.startTest s).keys.fuses = s.keys.fuses := by simp [State.startTest]
@[simp] theorem State.applyBanks_fuses (s : State) : (State.applyBanks s).keys.fuses = s.keys.fuses := by simp [State.applyBanks]
theorem execBankRepower_fuses (b : Fin 16) (s : State) : ∀ q1, (execBankRepower b s) = .next q1 → q1.keys.fuses = s.keys.fuses := by
  rintro q1 ⟨⟩; simp
@[simp] theorem State.applyWale_fuses (s : State) : (State.applyWale s).keys.fuses = s.keys.fuses := by simp [State.applyWale]
@[simp] theorem State.startCals_fuses (s : State) : (State.startCals s).keys.fuses = s.keys.fuses := by simp [State.startCals]
@[simp] theorem State.journalErase_fuses (s : State) : (State.journalErase s).keys.fuses = s.keys.fuses := by simp [State.journalErase]
@[simp] theorem State.firstAttempt_fuses (s : State) : (State.firstAttempt s).keys.fuses = s.keys.fuses := by simp [State.firstAttempt]
@[simp] theorem State.step6_fuses (s : State) (sounded : Nat) : (State.step6 s sounded).keys.fuses = s.keys.fuses := by simp [State.step6]
@[simp] theorem State.loadingEntry_fuses (s : State) : (State.loadingEntry s).keys.fuses = s.keys.fuses := by simp [State.loadingEntry]
@[simp] theorem State.reloadNow_fuses (s : State) (cause : Nat) : (State.reloadNow s cause).keys.fuses = s.keys.fuses := by simp [State.reloadNow]
theorem execStartTestComplete_fuses (hub : Bool) (rep : SoundReport) (s : State) : ∀ q1, (execStartTestComplete hub rep s) = .next q1 → q1.keys.fuses = s.keys.fuses := by
  rintro q1 ⟨⟩; simp
theorem execSrcWaitExpiry_fuses (s : State) : ∀ q1, (execSrcWaitExpiry s) = .next q1 → q1.keys.fuses = s.keys.fuses := by
  rintro q1 ⟨⟩; simp
@[simp] theorem State.partCommit_fuses (s : State) (j : PartJob) : (State.partCommit s j).keys.fuses = s.keys.fuses := by simp [State.partCommit]
theorem execPriorityCommit_fuses (s : State) : ∀ q1, (execPriorityCommit s) = .next q1 → q1.keys.fuses = s.keys.fuses := by
  rintro q1 ⟨⟩; (repeat' split) <;> simp
@[simp] theorem State.leaveInit_fuses (s : State) (bays : Nat) : (State.leaveInit s bays).keys.fuses = s.keys.fuses := by simp [State.leaveInit]
@[simp] theorem State.enableOuts_fuses (s : State) (edge : Nat) : (State.enableOuts s edge).keys.fuses = s.keys.fuses := by simp [State.enableOuts]
theorem execPriorityInitLeave_fuses (s : State) : ∀ q1, (execPriorityInitLeave s) = .next q1 → q1.keys.fuses = s.keys.fuses := by
  rintro q1 ⟨⟩; simp
theorem execPriorityOutputEnable_fuses (s : State) : ∀ q1, (execPriorityOutputEnable s) = .next q1 → q1.keys.fuses = s.keys.fuses := by
  rintro q1 ⟨⟩; simp
theorem execPriorityStageTimeout_fuses (s : State) : ∀ q1, (execPriorityStageTimeout s) = .next q1 → q1.keys.fuses = s.keys.fuses := by
  rintro q1 ⟨⟩; (repeat' split) <;> simp
theorem execMainCommit_fuses (s : State) : ∀ q1, (execMainCommit s) = .next q1 → q1.keys.fuses = s.keys.fuses := by
  rintro q1 ⟨⟩; (repeat' split) <;> simp
@[simp] theorem State.bondRelease_fuses (s : State) : (State.bondRelease s).keys.fuses = s.keys.fuses := by simp [State.bondRelease]
@[simp] theorem State.enterRun_fuses (s : State) : (State.enterRun s).keys.fuses = s.keys.fuses := by simp [State.enterRun]
theorem execReleaseStart_fuses (s : State) : ∀ q1, (execReleaseStart s) = .next q1 → q1.keys.fuses = s.keys.fuses := by
  rintro q1 ⟨⟩; simp
theorem execReleaseInitLeave_fuses (s : State) : ∀ q1, (execReleaseInitLeave s) = .next q1 → q1.keys.fuses = s.keys.fuses := by
  rintro q1 ⟨⟩; simp
theorem execReleaseOutputEnable_fuses (s : State) : ∀ q1, (execReleaseOutputEnable s) = .next q1 → q1.keys.fuses = s.keys.fuses := by
  rintro q1 ⟨⟩; simp
theorem execReleaseDoneRelease_fuses (s : State) : ∀ q1, (execReleaseDoneRelease s) = .next q1 → q1.keys.fuses = s.keys.fuses := by
  rintro q1 ⟨⟩; simp
theorem execDoneHigh_fuses (s : State) : ∀ q1, (execDoneHigh s) = .next q1 → q1.keys.fuses = s.keys.fuses := by
  rintro q1 ⟨⟩; simp
theorem execDoneWaitExpiry_fuses (s : State) : ∀ q1, (execDoneWaitExpiry s) = .next q1 → q1.keys.fuses = s.keys.fuses := by
  rintro q1 ⟨⟩; simp
theorem execJournalEraseStart_fuses (s : State) : ∀ q1, (execJournalEraseStart s) = .next q1 → q1.keys.fuses = s.keys.fuses := by
  rintro q1 ⟨⟩; simp
@[simp] theorem State.bootClrWrite_fuses (s : State) (v : Word) : (State.bootClrWrite s v).keys.fuses = s.keys.fuses := by simp [State.bootClrWrite]
theorem execBootClear_fuses (ag : Agent) (v : Word) (s : State) : ∀ q1, (execBootClear ag v s) = .next q1 → q1.keys.fuses = s.keys.fuses := by
  rintro q1 ⟨⟩; simp

/-! Power. -/

@[simp] theorem State.setPwr_fuses (s : State) (p : PwrSt) : (State.setPwr s p).keys.fuses = s.keys.fuses := by simp [State.setPwr]
@[simp] theorem State.pwrResult_fuses (s : State) (code kind domain : Nat) : (State.pwrResult s code kind domain).keys.fuses = s.keys.fuses := by simp [State.pwrResult]
@[simp] theorem State.setAsked_fuses (s : State) (v : Option Word) : (State.setAsked s v).keys.fuses = s.keys.fuses := by simp [State.setAsked]
@[simp] theorem State.setMstate_fuses (s : State) (v : Nat) : (State.setMstate s v).keys.fuses = s.keys.fuses := by simp [State.setMstate]
@[simp] theorem State.rampTo_fuses (s : State) (l : Nat × Nat) (byReq : Bool) : (State.rampTo s l byReq).keys.fuses = s.keys.fuses := by simp [State.rampTo]
@[simp] theorem State.rampLevels_fuses (s : State) : (State.rampLevels s).keys.fuses = s.keys.fuses := by simp [State.rampLevels]
@[simp] theorem State.drainStart_fuses (s : State) (mode : Nat) : (State.drainStart s mode).keys.fuses = s.keys.fuses := by simp [State.drainStart]
@[simp] theorem State.drainEnd_fuses (s : State) : (State.drainEnd s).keys.fuses = s.keys.fuses := by simp [State.drainEnd]
@[simp] theorem State.dozeEnter_fuses (s : State) : (State.dozeEnter s).keys.fuses = s.keys.fuses := by simp [State.dozeEnter]
@[simp] theorem State.modeBegin_fuses (s : State) (mode : Nat) : (State.modeBegin s mode).keys.fuses = s.keys.fuses := by unfold State.modeBegin; (repeat' split) <;> simp
@[simp] theorem State.wokenRun_fuses (s : State) : (State.wokenRun s).keys.fuses = s.keys.fuses := by simp [State.wokenRun]
@[simp] theorem State.rampEnd_fuses (s : State) : (State.rampEnd s).keys.fuses = s.keys.fuses := by simp [State.rampEnd]
theorem execPlRampDone_fuses (s : State) : ∀ q1, (execPlRampDone s) = .next q1 → q1.keys.fuses = s.keys.fuses := by
  rintro q1 ⟨⟩; simp
@[simp] theorem State.plReqWrite_fuses (s : State) (v : Word) : (State.plReqWrite s v).keys.fuses = s.keys.fuses := by simp [State.plReqWrite]
theorem execPlRequest_fuses (ag : Agent) (v : Word) (s : State) : ∀ q1, (execPlRequest ag v s) = .next q1 → q1.keys.fuses = s.keys.fuses := by
  rintro q1 ⟨⟩; simp
@[simp] theorem State.plLatch_fuses (s : State) (src : Nat) : (State.plLatch s src).keys.fuses = s.keys.fuses := by unfold State.plLatch; (repeat' split) <;> simp
@[simp] theorem State.breachTest_fuses (s t : State) (src : Nat) : (s.breachTest t src).keys.fuses = s.keys.fuses := by
  unfold State.breachTest
  split
  · rfl
  · split <;> rfl
@[simp] theorem State.plDeliver_fuses (s : State) (src : Nat) : (State.plDeliver s src).keys.fuses = s.keys.fuses := by unfold State.plDeliver; dsimp only; repeat' first | (simp; done) | split
@[simp] theorem State.mreqWrite_fuses (s : State) (v : Word) : (State.mreqWrite s v).keys.fuses = s.keys.fuses := by unfold State.mreqWrite; dsimp only; repeat' first | (simp; done) | split
theorem execModeRequestDoze_fuses (ag : Agent) (s : State) : ∀ q1, (execModeRequestDoze ag s) = .next q1 → q1.keys.fuses = s.keys.fuses := by
  rintro q1 ⟨⟩; simp
theorem execModeRequestSleep_fuses (ag : Agent) (s : State) : ∀ q1, (execModeRequestSleep ag s) = .next q1 → q1.keys.fuses = s.keys.fuses := by
  rintro q1 ⟨⟩; simp
theorem execModeRequestStandby_fuses (ag : Agent) (s : State) : ∀ q1, (execModeRequestStandby ag s) = .next q1 → q1.keys.fuses = s.keys.fuses := by
  rintro q1 ⟨⟩; simp
@[simp] theorem State.clocksStop_fuses (s : State) : (State.clocksStop s).keys.fuses = s.keys.fuses := by simp [State.clocksStop]
@[simp] theorem State.sleepSteps_fuses (s : State) : (State.sleepSteps s).keys.fuses = s.keys.fuses := by simp [State.sleepSteps]
@[simp] theorem State.wakeRecord_fuses (s : State) (first : Bool) (src port from_ : Nat) : (State.wakeRecord s first src port from_).keys.fuses = s.keys.fuses := by simp [State.wakeRecord]
@[simp] theorem State.sleepWake_fuses (s : State) : (State.sleepWake s).keys.fuses = s.keys.fuses := by simp [State.sleepWake]
theorem execSleepEntered_fuses (s : State) : ∀ q1, (execSleepEntered s) = .next q1 → q1.keys.fuses = s.keys.fuses := by
  rintro q1 ⟨⟩; simp
@[simp] theorem State.staleBay_fuses (s : State) (b : Nat) : (State.staleBay s b).keys.fuses = s.keys.fuses := by simp [State.staleBay]
@[simp] theorem State.staleCluster_fuses (s : State) : (State.staleCluster s).keys.fuses = s.keys.fuses := by simp [State.staleCluster]
theorem execSleepWakeRun_fuses (stale : StaleBanks) (s : State) : ∀ q1, (execSleepWakeRun stale s) = .next q1 → q1.keys.fuses = s.keys.fuses := by
  rintro q1 ⟨⟩; simp
@[simp] theorem State.gradientTest_fuses (s : State) (i : Nat) (diff limit rearm : Int) : (State.gradientTest s i diff limit rearm).keys.fuses = s.keys.fuses := by simp [State.gradientTest]
@[simp] theorem State.tempWarning_fuses (s : State) (top : Int) : (State.tempWarning s top).keys.fuses = s.keys.fuses := by simp [State.tempWarning]
theorem execThermalSample_fuses (bays hub : List (BitVec 8)) (s : State) : ∀ q1, (execThermalSample bays hub s) = .next q1 → q1.keys.fuses = s.keys.fuses := by
  rintro q1 ⟨⟩; simp
theorem execRegulatorFault_fuses (r : Fin 26) (s : State) : ∀ q1, (execRegulatorFault r s) = .next q1 → q1.keys.fuses = s.keys.fuses := by
  rintro q1 ⟨⟩; simp
theorem execRailWarning_fuses (r : Fin 26) (s : State) : ∀ q1, (execRailWarning r s) = .next q1 → q1.keys.fuses = s.keys.fuses := by
  rintro q1 ⟨⟩; simp
theorem execVinLow_fuses (s : State) : ∀ q1, (execVinLow s) = .next q1 → q1.keys.fuses = s.keys.fuses := by
  rintro q1 ⟨⟩; simp
theorem execVbatLow_fuses (s : State) : ∀ q1, (execVbatLow s) = .next q1 → q1.keys.fuses = s.keys.fuses := by
  rintro q1 ⟨⟩; simp
theorem execProgramNRise_fuses (s : State) : ∀ q1, (execProgramNRise s) = .next q1 → q1.keys.fuses = s.keys.fuses := by
  rintro q1 ⟨⟩; simp

/-! LifeCycle. -/

@[simp] theorem State.lcRefuse_fuses (s : State) (jtag : Bool) (code : Nat) : (State.lcRefuse s jtag code).keys.fuses = s.keys.fuses := by simp [State.lcRefuse]
@[simp] theorem State.lcPresent_fuses (s : State) (jtag : Bool) (bytes : List Byte) : (State.lcPresent s jtag bytes).keys.fuses = s.keys.fuses := by simp [State.lcPresent]
@[simp] theorem State.lcGo_fuses (s : State) : (State.lcGo s).keys.fuses = s.keys.fuses := by simp [State.lcGo]
@[simp] theorem State.lcClear_fuses (s : State) : (State.lcClear s).keys.fuses = s.keys.fuses := by simp [State.lcClear]
@[simp] theorem State.reqctlWrite_fuses (s : State) (v : Word) : (State.reqctlWrite s v).keys.fuses = s.keys.fuses := by simp [State.reqctlWrite]
@[simp] theorem State.reqbufWrite_fuses (s : State) (i : Nat) (v : Word) : (State.reqbufWrite s i v).keys.fuses = s.keys.fuses := by simp [State.reqbufWrite]
@[simp] theorem State.lcJtagToken_fuses (s : State) : (State.lcJtagToken s).keys.fuses = s.keys.fuses := by unfold State.lcJtagToken; (repeat' split) <;> simp
@[simp] theorem State.zeroise_fuses (s : State) (cause : Nat) : (State.zeroise s cause).keys.fuses = s.keys.fuses := by simp [State.zeroise]
@[simp] theorem State.burnBegins_fuses (s : State) (r : LcReq) : (State.burnBegins s r).keys.fuses = s.keys.fuses := by simp [State.burnBegins]
@[simp] theorem State.lcVerified_fuses (s : State) (r : LcReq) (vinOk : Bool) : (State.lcVerified s r vinOk).keys.fuses = s.keys.fuses := by unfold State.lcVerified; (repeat' split) <;> simp
@[simp] theorem State.loadBbr_fuses (s : State) (k : Nat) : (State.loadBbr s k).keys.fuses = s.keys.fuses := by simp [State.loadBbr]
@[simp] theorem State.loadFuseKey_fuses (s : State) : (State.loadFuseKey s).keys.fuses = s.keys.fuses := by simp [State.loadFuseKey]
@[simp] theorem State.lcPendingState_fuses (s : State) (next : Nat) : (State.lcPendingState s next).keys.fuses = s.keys.fuses := by simp [State.lcPendingState]
@[simp] theorem State.lcDone_fuses (s : State) (jtag : Bool) : (State.lcDone s jtag).keys.fuses = s.keys.fuses := by simp [State.lcDone]
@[simp] theorem State.lcAction_fuses (s : State) (r : LcReq) : (State.lcAction s r).keys.fuses = s.keys.fuses := by unfold State.lcAction; (repeat' split) <;> simp
theorem execLcTransition_fuses (ag : Agent) (s : State) : ∀ q1, (execLcTransition ag s) = .next q1 → q1.keys.fuses = s.keys.fuses := by
  rintro q1 ⟨⟩; simp
theorem execLcSetOwner_fuses (ag : Agent) (s : State) : ∀ q1, (execLcSetOwner ag s) = .next q1 → q1.keys.fuses = s.keys.fuses := by
  rintro q1 ⟨⟩; simp
theorem execLcSetKeyFuse_fuses (ag : Agent) (s : State) : ∀ q1, (execLcSetKeyFuse ag s) = .next q1 → q1.keys.fuses = s.keys.fuses := by
  rintro q1 ⟨⟩; simp
theorem execLcLoadKeyBbr_fuses (ag : Agent) (s : State) : ∀ q1, (execLcLoadKeyBbr ag s) = .next q1 → q1.keys.fuses = s.keys.fuses := by
  rintro q1 ⟨⟩; simp
theorem execLcClearKeyBbr_fuses (ag : Agent) (s : State) : ∀ q1, (execLcClearKeyBbr ag s) = .next q1 → q1.keys.fuses = s.keys.fuses := by
  rintro q1 ⟨⟩; simp
theorem execLcDebugToken_fuses (ag : Agent) (jtag : Bool) (s : State) : ∀ q1, (execLcDebugToken ag jtag s) = .next q1 → q1.keys.fuses = s.keys.fuses := by
  rintro q1 ⟨⟩; simp
theorem execLcReqbufClear_fuses (ag : Agent) (s : State) : ∀ q1, (execLcReqbufClear ag s) = .next q1 → q1.keys.fuses = s.keys.fuses := by
  rintro q1 ⟨⟩; simp
theorem execLcRequestVerified_fuses (vinOk : Bool) (s : State) : ∀ q1, (execLcRequestVerified vinOk s) = .next q1 → q1.keys.fuses = s.keys.fuses := by
  rintro q1 ⟨⟩; (repeat' split) <;> simp
theorem execTamperEvent_fuses (cause : Fin 3) (s : State) : ∀ q1, (execTamperEvent cause s) = .next q1 → q1.keys.fuses = s.keys.fuses := by
  rintro q1 ⟨⟩; simp
@[simp] theorem State.tamperWrite_fuses (s : State) (v : Word) : (State.tamperWrite s v).keys.fuses = s.keys.fuses := by simp [State.tamperWrite]
theorem execZeroiseWrite_fuses (ag : Agent) (v : Word) (s : State) : ∀ q1, (execZeroiseWrite ag v s) = .next q1 → q1.keys.fuses = s.keys.fuses := by
  rintro q1 ⟨⟩; simp
@[simp] theorem State.debugWrite_fuses (s : State) (v : Word) : (State.debugWrite s v).keys.fuses = s.keys.fuses := by simp [State.debugWrite]
theorem execDebugClose_fuses (ag : Agent) (s : State) : ∀ q1, (execDebugClose ag s) = .next q1 → q1.keys.fuses = s.keys.fuses := by
  rintro q1 ⟨⟩; simp
@[simp] theorem State.tapInstr_fuses (s : State) (code : Nat) : (State.tapInstr s code).keys.fuses = s.keys.fuses := by simp [State.tapInstr]
@[simp] theorem State.tapCapture_fuses (s : State) (code : Nat) (w : Word) : (State.tapCapture s code w).keys.fuses = s.keys.fuses := by simp [State.tapCapture]
theorem execJtagTapReset_fuses (s : State) : ∀ q1, (execJtagTapReset s) = .next q1 → q1.keys.fuses = s.keys.fuses := by
  rintro q1 ⟨⟩; simp
theorem execJtagLcTokenUpdate_fuses (shifts : Nat) (bytes : List Byte) (s : State) : ∀ q1, (execJtagLcTokenUpdate shifts bytes s) = .next q1 → q1.keys.fuses = s.keys.fuses := by
  rintro q1 ⟨⟩; simp
theorem execJtagExtest_fuses (s : State) : ∀ q1, (execJtagExtest s) = .next q1 → q1.keys.fuses = s.keys.fuses := by
  rintro q1 ⟨⟩; simp
theorem execJtagClamp_fuses (s : State) : ∀ q1, (execJtagClamp s) = .next q1 → q1.keys.fuses = s.keys.fuses := by
  rintro q1 ⟨⟩; simp
theorem execJtagHighz_fuses (s : State) : ∀ q1, (execJtagHighz s) = .next q1 → q1.keys.fuses = s.keys.fuses := by
  rintro q1 ⟨⟩; simp
theorem execJtagIdcode_fuses (s : State) : ∀ q1, (execJtagIdcode s) = .next q1 → q1.keys.fuses = s.keys.fuses := by
  rintro q1 ⟨⟩; simp
theorem execJtagSamplePreload_fuses (s : State) : ∀ q1, (execJtagSamplePreload s) = .next q1 → q1.keys.fuses = s.keys.fuses := by
  rintro q1 ⟨⟩; simp
theorem execJtagLcToken_fuses (s : State) : ∀ q1, (execJtagLcToken s) = .next q1 → q1.keys.fuses = s.keys.fuses := by
  rintro q1 ⟨⟩; simp
theorem execJtagLcStatus_fuses (s : State) : ∀ q1, (execJtagLcStatus s) = .next q1 → q1.keys.fuses = s.keys.fuses := by
  rintro q1 ⟨⟩; simp
theorem execJtagDmi_fuses (s : State) : ∀ q1, (execJtagDmi s) = .next q1 → q1.keys.fuses = s.keys.fuses := by
  rintro q1 ⟨⟩; simp
theorem execJtagGrenricTest_fuses (code : Fin 16) (s : State) : ∀ q1, (execJtagGrenricTest code s) = .next q1 → q1.keys.fuses = s.keys.fuses := by
  rintro q1 ⟨⟩; simp
theorem execJtagBypass_fuses (s : State) : ∀ q1, (execJtagBypass s) = .next q1 → q1.keys.fuses = s.keys.fuses := by
  rintro q1 ⟨⟩; simp

/-! Gates. -/

@[simp] theorem State.gateRequest_fuses (s : State) (ag : Agent) (i : Nat) : (State.gateRequest s ag i).keys.fuses = s.keys.fuses := by simp [State.gateRequest]
@[simp] theorem State.gateApply_fuses (s : State) (i : Nat) : (State.gateApply s i).keys.fuses = s.keys.fuses := by simp [State.gateApply]
@[simp] theorem State.gateRefuse_fuses (s : State) (i : Nat) : (State.gateRefuse s i).keys.fuses = s.keys.fuses := by simp [State.gateRefuse]
@[simp] theorem State.gateOpens_fuses (s : State) (i : Nat) : (State.gateOpens s i).keys.fuses = s.keys.fuses := by simp [State.gateOpens]
@[simp] theorem State.hgreqWrite_fuses (s : State) (ag : Agent) (j : Nat) (v : Word) : (State.hgreqWrite s ag j v).keys.fuses = s.keys.fuses := by simp [State.hgreqWrite]
theorem execHardBlockGateRequest_fuses (ag : Agent) (blk : Fin 64) (s : State) : ∀ q1, (execHardBlockGateRequest ag blk s) = .next q1 → q1.keys.fuses = s.keys.fuses := by
  rintro q1 ⟨⟩; simp
theorem execHardBlockGateApply_fuses (blk : Fin 64) (s : State) : ∀ q1, (execHardBlockGateApply blk s) = .next q1 → q1.keys.fuses = s.keys.fuses := by
  rintro q1 ⟨⟩; simp
theorem execHardBlockGateRefused_fuses (blk : Fin 64) (s : State) : ∀ q1, (execHardBlockGateRefused blk s) = .next q1 → q1.keys.fuses = s.keys.fuses := by
  rintro q1 ⟨⟩; simp
theorem execHardBlockGateOpen_fuses (ag : Agent) (blk : Fin 64) (s : State) : ∀ q1, (execHardBlockGateOpen ag blk s) = .next q1 → q1.keys.fuses = s.keys.fuses := by
  rintro q1 ⟨⟩; simp

/-! Boundary. -/

@[simp] theorem State.mbWrite_fuses (s : State) (i : Nat) (v : Word) : (State.mbWrite s i v).keys.fuses = s.keys.fuses := by simp [State.mbWrite]
theorem execMbFire_fuses (ag : Agent) (i : Fin 8) (ctl : Word) (s : State) : ∀ q1, (execMbFire ag i ctl s) = .next q1 → q1.keys.fuses = s.keys.fuses := by
  rintro q1 ⟨⟩; simp
@[simp] theorem State.clockApply_fuses (s : State) (vals : List (Nat × Word)) : (State.clockApply s vals).keys.fuses = s.keys.fuses := by simp [State.clockApply]
@[simp] theorem State.latch_fuses (s : State) (src : Nat) (x : Instant) : (State.latch s src x).keys.fuses = s.keys.fuses := by simp [State.latch]
theorem execBoundaryLatch_fuses (src : Fin 64) (s : State) : ∀ q1, (execBoundaryLatch src s) = .next q1 → q1.keys.fuses = s.keys.fuses := by
  rintro q1 ⟨⟩; (repeat' split) <;> simp
@[simp] theorem State.rwbApply_fuses (s : State) (x : Instant) (vals : List (Nat × Word)) : (State.rwbApply s x vals).keys.fuses = s.keys.fuses := by
  unfold State.rwbApply
  dsimp only
  rw [foldl_fuses _ (fun t n => State.laneCfgApply_fuses t n vals),
    foldl_fuses _ (fun t q => State.qpllApply_fuses t q vals), State.fbrsApply_fuses,
    foldl_fuses _ (fun t g => State.genApply_fuses t g x vals), foldl_fuses, foldl_fuses]
  · intro t b; split <;> simp
  · intro t i; split <;> simp
@[simp] theorem State.genEvent_fuses (s : State) (g : Nat) (x : Instant) (kept : Bool) : (State.genEvent s g x kept).keys.fuses = s.keys.fuses := by unfold State.genEvent; dsimp only; repeat' first | (simp; done) | split
@[simp] theorem State.instantOver_fuses (s : State) (src : Nat) (x : Instant) (kept : Bool) : (State.instantOver s src x kept).keys.fuses = s.keys.fuses := by unfold State.instantOver; (repeat' split) <;> simp
@[simp] theorem State.tapsOf_fuses (s : State) (src : Nat) (x : Instant) : (State.tapsOf s src x).keys.fuses = s.keys.fuses := by simp [State.tapsOf]
@[simp] theorem State.eventLines_fuses (s : State) (src : Nat) : (State.eventLines s src).keys.fuses = s.keys.fuses := by simp [State.eventLines]
@[simp] theorem State.delivery_fuses (s : State) (a : Announced) : (State.delivery s a).keys.fuses = s.keys.fuses := by simp [State.delivery]
theorem execBoundaryDelivery_fuses (src : Fin 64) (s : State) : ∀ q1, (execBoundaryDelivery src s) = .next q1 → q1.keys.fuses = s.keys.fuses := by
  rintro q1 ⟨⟩; (repeat' split) <;> simp

/-! Pins. -/

@[simp] theorem State.setPad_fuses (s : State) (n : Nat) (p : PadSt) : (State.setPad s n p).keys.fuses = s.keys.fuses := by simp [State.setPad]
@[simp] theorem State.padEdge_fuses (s : State) (k net i : Nat) (pins : PadPins) : (State.padEdge s k net i pins).keys.fuses = s.keys.fuses := by simp [State.padEdge]
@[simp] theorem State.padsEdge_fuses (s : State) (k net : Nat) (p : EdgePins) : (State.padsEdge s k net p).keys.fuses = s.keys.fuses := by simp [State.padsEdge]

/-! Manager. -/

@[simp] theorem State.rqGo_fuses (s : State) (n : Nat) : (State.rqGo s n).keys.fuses = s.keys.fuses := by simp [State.rqGo]
@[simp] theorem State.rqCtlWrite_fuses (s : State) (n : Nat) (v : Word) : (State.rqCtlWrite s n v).keys.fuses = s.keys.fuses := by simp [State.rqCtlWrite]
@[simp] theorem State.waleWrite_fuses (s : State) (off : Nat) (v : Word) : (State.waleWrite s off v).keys.fuses = s.keys.fuses := by simp [State.waleWrite]
@[simp] theorem State.lcWrite_fuses (s : State) (off : Nat) (v : Word) : (State.lcWrite s off v).keys.fuses = s.keys.fuses := by simp [State.lcWrite]
@[simp] theorem State.mailWrite_fuses (s : State) (ag : Agent) (m o : Nat) (v : Word) : (State.mailWrite s ag m o v).keys.fuses = s.keys.fuses := by simp [State.mailWrite]
@[simp] theorem State.semBlockWrite_fuses (s : State) (ag : Agent) (off : Nat) (v : Word) : (State.semBlockWrite s ag off v).keys.fuses = s.keys.fuses := by simp [State.semBlockWrite]
@[simp] theorem State.evtWrite_fuses (s : State) (off : Nat) (v : Word) : (State.evtWrite s off v).keys.fuses = s.keys.fuses := by simp [State.evtWrite]
@[simp] theorem State.hpWrite_fuses (s : State) (ag : Agent) (p : Fin 2) (off : Nat) (v : Word) : (State.hpWrite s ag p off v).keys.fuses = s.keys.fuses := by simp [State.hpWrite]
@[simp] theorem State.pwrWrite_fuses (s : State) (off : Nat) (v : Word) : (State.pwrWrite s off v).keys.fuses = s.keys.fuses := by simp [State.pwrWrite]
@[simp] theorem State.sndWrite_fuses (s : State) (off : Nat) (v : Word) : (State.sndWrite s off v).keys.fuses = s.keys.fuses := by simp [State.sndWrite]
@[simp] theorem State.timeWrite_fuses (s : State) (ag : Agent) (off : Nat) (v : Word) : (State.timeWrite s ag off v).keys.fuses = s.keys.fuses := by simp [State.timeWrite]
@[simp] theorem State.measured_fuses (s : State) (off : Nat) : (State.measured s off).2.keys.fuses = s.keys.fuses := by simp [State.measured]
@[simp] theorem State.mgrValue_fuses (s : State) (ag : Agent) (off : Nat) : (State.mgrValue s ag off).2.keys.fuses = s.keys.fuses := by simp [State.mgrValue]
@[simp] theorem State.mgrRead_fuses (s : State) (ag : Agent) (off : Nat) : (State.mgrRead s ag off).2.keys.fuses = s.keys.fuses := by unfold State.mgrRead; (repeat' split) <;> simp

/-! Access. -/

@[simp] theorem State.sramStore_fuses (s : State) (a : Nat) (x0 : List Byte) : (State.sramStore s a x0).keys.fuses = s.keys.fuses := by
  induction x0 generalizing s a with
  | nil => simp [State.sramStore]
  | cons a l ih => simp [State.sramStore, ih]
@[simp] theorem State.mgrReads_fuses (s : State) (ag : Agent) (off : Nat) (x0 : Nat) : (State.mgrReads s ag off x0).2.keys.fuses = s.keys.fuses := by
  induction x0 generalizing s ag off with
  | zero => simp [State.mgrReads]
  | succ n ih => simp [State.mgrReads, ih]
@[simp] theorem State.flashReads_fuses (s : State) (ag : Agent) (off : Nat) (x0 : Nat) : (State.flashReads s ag off x0).2.keys.fuses = s.keys.fuses := by
  induction x0 generalizing s ag off with
  | zero => rfl
  | succ n ih =>
    have e := State.flashRead_fuses s ag off
    unfold State.flashReads
    split <;> (rename_i hr; rw [hr] at e; dsimp only at e ⊢; simp [ih, e])
@[simp] theorem State.flashWrites_fuses (s : State) (ag : Agent) (off : Nat) (x0 : List Word) : (State.flashWrites s ag off x0).keys.fuses = s.keys.fuses := by
  induction x0 generalizing s ag off with
  | nil => simp [State.flashWrites]
  | cons a l ih => simp [State.flashWrites, ih]
theorem State.windowPlace_fuses (s : State) (origin : Nat → GwOrigin) (data : Option (List Byte)) (o0 : Nat) (x0 : List ((Nat × Nat) × Nat)) : ∀ q1, (State.windowPlace s origin data o0 x0) = some q1 → q1.keys.fuses = s.keys.fuses := by
  induction x0 generalizing s with
  | nil => intro q1 h; cases h; rfl
  | cons a l ih =>
    intro q1 h
    unfold State.windowPlace at h
    split at h
    · cases h
    · split at h
      · cases h
      · rename_i hg
        rw [ih _ _ h]
        exact State.gwAccess_fuses _ _ _ _ hg
theorem State.windowAccess_fuses (s : State) (origin : Nat → GwOrigin) (o n : Nat) (data : Option (List Byte)) : ∀ q1, (State.windowAccess s origin o n data) = some q1 → q1.keys.fuses = s.keys.fuses := by
  intro q1 h
  exact State.windowPlace_fuses _ _ _ _ _ _ h
@[simp] theorem State.inboundEnd_fuses (s : State) (b : WaleBlock) (status : Nat) (ws : List Word) : (State.inboundEnd s b status ws).keys.fuses = s.keys.fuses := by simp [State.inboundEnd]
@[simp] theorem State.inboundSram_fuses (s : State) (b : WaleBlock) (o mem : Nat) : (State.inboundSram s b o mem).keys.fuses = s.keys.fuses := by simp [State.inboundSram]
theorem State.inboundHamper_fuses (s : State) (b : WaleBlock) (o mem : Nat) : ∀ q1, (State.inboundHamper s b o mem) = some q1 → q1.keys.fuses = s.keys.fuses := by
  intro q1 h
  simp only [State.inboundHamper] at h
  (repeat' split at h) <;> simp_all <;> (try (subst h; simp))
theorem State.inboundWindow_fuses (s : State) (b : WaleBlock) (o : Nat) : ∀ q1, (State.inboundWindow s b o) = some q1 → q1.keys.fuses = s.keys.fuses := by
  intro q1 h
  unfold State.inboundWindow at h
  split at h
  · rw [Option.map_eq_some_iff] at h
    obtain ⟨t, ht, rfl⟩ := h
    rw [State.inboundEnd_fuses]
    exact State.windowAccess_fuses _ _ _ _ _ _ ht
  · exact State.windowAccess_fuses _ _ _ _ _ _ h
theorem State.answerNext_fuses (s : State) : ∀ q1, (State.answerNext s) = some q1 → q1.keys.fuses = s.keys.fuses := by
  intro q1 h
  simp only [State.answerNext] at h
  (repeat' split at h) <;> simp_all <;> (try (subst h; simp))
@[simp] theorem State.spiReadWord_fuses (s : State) (p : Fin 2) (a : Nat) : (State.spiReadWord s p a).2.keys.fuses = s.keys.fuses := by unfold State.spiReadWord; (repeat' split) <;> simp
@[simp] theorem State.spiReads_fuses (s : State) (p : Fin 2) (a : Nat) (x0 : Nat) : (State.spiReads s p a x0).2.keys.fuses = s.keys.fuses := by
  induction x0 generalizing s p a with
  | zero => rfl
  | succ n ih =>
    have e := State.spiReadWord_fuses s p a
    unfold State.spiReads
    split <;> (rename_i hr; rw [hr] at e; dsimp only at e ⊢; simp [ih, e])
@[simp] theorem State.masterAway_fuses (s : State) (p : Nat) (r : MasterReq) : (State.masterAway s p r).keys.fuses = s.keys.fuses := by simp [State.masterAway]
@[simp] theorem State.gwRespond_fuses (s : State) (p tag : Nat) : (State.gwRespond s p tag).keys.fuses = s.keys.fuses := by simp [State.gwRespond]
theorem execGwMasterDone_fuses (port : Fin 4) (tag : Fin 32) (s : State) : ∀ q1, (execGwMasterDone port tag s) = .next q1 → q1.keys.fuses = s.keys.fuses := by
  rintro q1 ⟨⟩; (repeat' split) <;> simp
@[simp] theorem State.busError_fuses (s : State) (c : Fin 4) : (State.busError s c).keys.fuses = s.keys.fuses := by simp [State.busError]
@[simp] theorem State.loaded_fuses (s : State) (c : Fin 4) (o n : Nat) (ws : List Word) : (State.loaded s c o n ws).keys.fuses = s.keys.fuses := by simp [State.loaded]
@[simp] theorem State.busSram_fuses (s : State) (c : Fin 4) (a : BusAccess) (o : Nat) : (State.busSram s c a o).keys.fuses = s.keys.fuses := by simp [State.busSram]
@[simp] theorem State.busFlash_fuses (s : State) (c : Fin 4) (a : BusAccess) (o : Nat) : (State.busFlash s c a o).keys.fuses = s.keys.fuses := by
  have e := State.flashReads_fuses s (.core c) (coverOf o a.size).1 (coverOf o a.size).2
  unfold State.busFlash
  dsimp only
  split
  · split
    · simp
    · split
      · simp
      · split <;> simp
  · split
    · rename_i hr
      rw [hr] at e
      simpa using e
    · rfl
theorem State.busHamper_fuses (s : State) (c : Fin 4) (a : BusAccess) (o : Nat) : ∀ q1, (State.busHamper s c a o) = some q1 → q1.keys.fuses = s.keys.fuses := by
  intro q1 h
  simp only [State.busHamper] at h
  (repeat' split at h) <;> simp_all <;> (try (subst h; simp))
theorem State.busWindow_fuses (s : State) (c : Fin 4) (a : BusAccess) (o : Nat) : ∀ q1, (State.busWindow s c a o) = some q1 → q1.keys.fuses = s.keys.fuses := by
  intro q1 h
  exact State.windowAccess_fuses _ _ _ _ _ _ h
@[simp] theorem State.wdStore_fuses (s : State) (o : Nat) (v : Word) : (State.wdStore s o v).keys.fuses = s.keys.fuses := by simp [State.wdStore]
@[simp] theorem State.busWatchdog_fuses (s : State) (c : Fin 4) (a : BusAccess) (o : Nat) : (State.busWatchdog s c a o).keys.fuses = s.keys.fuses := by
  have each : ∀ (l : List (Word × Nat)) (u : State), (l.foldl (fun t e => t.wdStore (o + 4 * e.2) e.1) u).keys.fuses = u.keys.fuses := by
    intro l
    induction l with
    | nil => intro u; rfl
    | cons a l ih => intro u; rw [List.foldl_cons, ih, State.wdStore_fuses]
  unfold State.busWatchdog
  dsimp only
  split
  · rw [each]
  · rw [State.loaded_fuses]

/-! Weave. -/

@[simp] theorem State.asyncStep_fuses (s : State) (levels : List (Nat × Bool)) : (State.asyncStep s levels).keys.fuses = s.keys.fuses := by simp [State.asyncStep]
@[simp] theorem State.asyncSettle_fuses (levels : List (Nat × Bool)) (n : Nat) (s : State) : (State.asyncSettle levels n s).keys.fuses = s.keys.fuses := by
  induction n generalizing s with
  | zero => rfl
  | succ n ih =>
    unfold State.asyncSettle
    dsimp only
    split
    · rfl
    · rw [ih, State.asyncStep_fuses]

/-! Edge. -/

@[simp] theorem State.bportEdge_fuses (s : State) (k net : Nat) : (State.bportEdge s k net).keys.fuses = s.keys.fuses := by unfold State.bportEdge; (repeat' split) <;> simp
@[simp] theorem State.bportsEdge_fuses (s : State) (bay net : Nat) : (State.bportsEdge s bay net).keys.fuses = s.keys.fuses := by simp [State.bportsEdge]
@[simp] theorem State.innerEdge_fuses (s : State) (bay net : Nat) (p : InnerPins) : (State.innerEdge s bay net p).keys.fuses = s.keys.fuses := by simp [State.innerEdge]
@[simp] theorem State.setHigh_fuses (s : State) (bay net : Nat) (high : Bool) : (State.setHigh s bay net high).keys.fuses = s.keys.fuses := by simp [State.setHigh]
@[simp] theorem State.fabricEdge_fuses (s : State) (bay net : Nat) (rising : Bool) (p : EdgePins) : (State.fabricEdge s bay net rising p).keys.fuses = s.keys.fuses := by simp [State.fabricEdge]
@[simp] theorem State.portEdges_fuses (s : State) (bay net : Nat) (p : EdgePins) : (State.portEdges s bay net p).keys.fuses = s.keys.fuses := by simp [State.portEdges]
@[simp] theorem State.stakePass_fuses (s : State) (bay net : Nat) (rising : Bool) (p : EdgePins) : (State.stakePass s bay net rising p).keys.fuses = s.keys.fuses := by simp [State.stakePass]
@[simp] theorem State.stakeEdge_fuses (s : State) (bay net : Nat) (rising : Bool) (p : EdgePins) : (State.stakeEdge s bay net rising p).keys.fuses = s.keys.fuses := by simp [State.stakeEdge]
theorem execStakeNetEdge_fuses (bay : Fin 96) (net : Fin 24) (rising : Bool) (pins : EdgePins) (s : State) : ∀ q1, (execStakeNetEdge bay net rising pins s) = .next q1 → q1.keys.fuses = s.keys.fuses := by
  rintro q1 ⟨⟩; simp

/-! Ops. -/

theorem foldl_grew {F : Fuses} {α : Type} (f : State → α → State) (l : List α) (s : State)
    (hf : ∀ t a, Grew F t.keys.fuses → Grew F (f t a).keys.fuses) (h : Grew F s.keys.fuses) :
    Grew F (l.foldl f s).keys.fuses := by
  induction l generalizing s with
  | nil => exact h
  | cons a l ih => exact ih _ (hf _ _ h)

theorem State.guarded_grew {F : Fuses} (s : State) (ag : Agent) (n off : Nat) (t : State) (h : Grew F s.keys.fuses) (ht : Grew F t.keys.fuses) :
    Grew F (s.guarded ag n off t).keys.fuses := by
  unfold State.guarded
  split
  · exact ht
  · simpa using h
theorem State.rws_grew {F : Fuses} (s : State) (ag : Agent) (off : Nat) (t : State) (h : Grew F s.keys.fuses) (ht : Grew F t.keys.fuses) :
    Grew F (s.rws ag off t).keys.fuses := by
  unfold State.rws
  split
  · split
    · exact State.guarded_grew _ _ _ _ _ h ht
    · exact ht
  · exact ht

/-! Keys. -/

theorem State.blow_grew {F : Fuses} (s : State) (fs : List FuseRef) (h : Grew F s.keys.fuses) : Grew F (s.blow fs).keys.fuses := by
  obtain ⟨gs, hg⟩ := h
  exact ⟨gs ++ fs, by rw [List.foldl_append, ← hg]; rfl⟩

/-! Domains. -/

theorem State.burnCut_grew {F : Fuses} (s : State) (h : Grew F s.keys.fuses) : Grew F (State.burnCut s).keys.fuses := by
  unfold State.burnCut
  repeat' first | assumption | (with_reducible apply State.blow_grew) | (with_reducible apply foldl_grew; intros) | split | simp
theorem State.restart_grew {F : Fuses} (s : State) (h : Grew F s.keys.fuses) : Grew F (State.restart s).keys.fuses := by
  unfold State.restart
  repeat' first | assumption | (with_reducible apply State.burnCut_grew) | (with_reducible apply State.idle_grew) | (with_reducible apply foldl_grew; intros) | split | simp

/-! Loading. -/

theorem State.keeperStart_grew {F : Fuses} (s : State) (cause : Nat) (h : Grew F s.keys.fuses) : Grew F (State.keeperStart s cause).keys.fuses := by
  unfold State.keeperStart
  repeat' first | assumption | (with_reducible apply State.restart_grew) | (with_reducible apply foldl_grew; intros) | split | simp
theorem execVinFall_grew {F : Fuses} (s : State) (h : Grew F s.keys.fuses) : ∀ q1, (execVinFall s) = .next q1 → Grew F q1.keys.fuses := by
  rintro q1 ⟨⟩
  repeat' first | assumption | (with_reducible apply State.restart_grew) | (with_reducible apply foldl_grew; intros) | split | simp
theorem execPowerUpComplete_grew {F : Fuses} (straps : BitVec 7) (s : State) (h : Grew F s.keys.fuses) : ∀ q1, (execPowerUpComplete straps s) = .next q1 → Grew F q1.keys.fuses := by
  rintro q1 ⟨⟩
  repeat' first | assumption | (with_reducible apply State.keeperStart_grew) | (with_reducible apply foldl_grew; intros) | split | simp
theorem execResetNRise_grew {F : Fuses} (s : State) (h : Grew F s.keys.fuses) : ∀ q1, (execResetNRise s) = .next q1 → Grew F q1.keys.fuses := by
  rintro q1 ⟨⟩
  repeat' first | assumption | (with_reducible apply State.keeperStart_grew) | (with_reducible apply foldl_grew; intros) | split | simp
theorem State.testToken_grew {F : Fuses} (s : State) (vinOk : Bool) (h : Grew F s.keys.fuses) : Grew F (State.testToken s vinOk).2.keys.fuses := by
  unfold State.testToken
  repeat' first | assumption | (with_reducible apply State.blow_grew) | (with_reducible apply foldl_grew; intros) | split | simp
theorem State.keeperEnds_grew {F : Fuses} (s : State) (vinOk : Bool) (h : Grew F s.keys.fuses) : Grew F (State.keeperEnds s vinOk).keys.fuses := by
  have e := State.testToken_grew s vinOk h
  unfold State.keeperEnds
  split
  all_goals first | (rw [State.factory_fuses]; exact h) | (rw [State.startTest_fuses]; exact h) | (rw [State.enterSafe_fuses]; exact h) | skip
  split <;> (rename_i hr; rw [hr] at e; first | (rw [State.factory_fuses]; exact e) | (rw [State.startTest_fuses]; exact e))
theorem execKeeperBootComplete_grew {F : Fuses} (agree xref vinOk : Bool) (s : State) (h : Grew F s.keys.fuses) : ∀ q1, (execKeeperBootComplete agree xref vinOk s) = .next q1 → Grew F q1.keys.fuses := by
  rintro q1 ⟨⟩
  repeat' first | assumption | (with_reducible apply State.keeperEnds_grew) | (with_reducible apply foldl_grew; intros) | split | simp

/-! Power. -/

theorem State.standbyEnter_grew {F : Fuses} (s : State) (h : Grew F s.keys.fuses) : Grew F (State.standbyEnter s).keys.fuses := by
  unfold State.standbyEnter
  repeat' first | assumption | (with_reducible apply State.restart_grew) | (with_reducible apply foldl_grew; intros) | split | simp
theorem State.quiesced_grew {F : Fuses} (s : State) (h : Grew F s.keys.fuses) : Grew F (State.quiesced s).keys.fuses := by
  unfold State.quiesced
  repeat' first | assumption | (with_reducible apply State.standbyEnter_grew) | (with_reducible apply foldl_grew; intros) | split | simp
theorem execQuiesceDone_grew {F : Fuses} (s : State) (h : Grew F s.keys.fuses) : ∀ q1, (execQuiesceDone s) = .next q1 → Grew F q1.keys.fuses := by
  rintro q1 ⟨⟩
  repeat' first | assumption | (with_reducible apply State.quiesced_grew) | (with_reducible apply foldl_grew; intros) | split | simp
theorem execQuiesceTimeout_grew {F : Fuses} (busy : BitVec 4) (s : State) (h : Grew F s.keys.fuses) : ∀ q1, (execQuiesceTimeout busy s) = .next q1 → Grew F q1.keys.fuses := by
  rintro q1 ⟨⟩
  repeat' first | assumption | (with_reducible apply State.quiesced_grew) | (with_reducible apply foldl_grew; intros) | split | simp
theorem State.standbyWake_grew {F : Fuses} (s : State) (h : Grew F s.keys.fuses) : Grew F (State.standbyWake s).keys.fuses := by
  unfold State.standbyWake
  repeat' first | assumption | (with_reducible apply State.keeperStart_grew) | (with_reducible apply foldl_grew; intros) | split | simp
theorem State.wakeSource_grew {F : Fuses} (s : State) (src port : Nat) (h : Grew F s.keys.fuses) : Grew F (State.wakeSource s src port).keys.fuses := by
  unfold State.wakeSource
  repeat' first | assumption | (with_reducible apply State.standbyWake_grew) | (with_reducible apply foldl_grew; intros) | split | simp
theorem execWakeSource_grew {F : Fuses} (src : Fin 8) (port : Fin 2) (s : State) (h : Grew F s.keys.fuses) : ∀ q1, (execWakeSource src port s) = .next q1 → Grew F q1.keys.fuses := by
  rintro q1 ⟨⟩
  repeat' first | assumption | (with_reducible apply State.wakeSource_grew) | (with_reducible apply foldl_grew; intros) | split | simp
theorem State.wakeTimer_grew {F : Fuses} (s : State) (h : Grew F s.keys.fuses) : Grew F (State.wakeTimer s).keys.fuses := by
  unfold State.wakeTimer
  repeat' first | assumption | (with_reducible apply State.wakeSource_grew) | (with_reducible apply foldl_grew; intros) | split | simp
theorem execWakeTimerExpiry_grew {F : Fuses} (s : State) (h : Grew F s.keys.fuses) : ∀ q1, (execWakeTimerExpiry s) = .next q1 → Grew F q1.keys.fuses := by
  rintro q1 ⟨⟩
  repeat' first | assumption | (with_reducible apply State.wakeTimer_grew) | (with_reducible apply foldl_grew; intros) | split | simp
theorem State.reloadRequest_grew {F : Fuses} (s : State) (cause : Nat) (h : Grew F s.keys.fuses) : Grew F (State.reloadRequest s cause).keys.fuses := by
  unfold State.reloadRequest
  repeat' first | assumption | (with_reducible apply State.wakeSource_grew) | (with_reducible apply foldl_grew; intros) | split | simp
theorem execProgramNFall_grew {F : Fuses} (s : State) (h : Grew F s.keys.fuses) : ∀ q1, (execProgramNFall s) = .next q1 → Grew F q1.keys.fuses := by
  rintro q1 ⟨⟩
  repeat' first | assumption | (with_reducible apply State.reloadRequest_grew) | (with_reducible apply foldl_grew; intros) | split | simp
theorem State.sysCtlWrite_grew {F : Fuses} (s : State) (v : Word) (h : Grew F s.keys.fuses) : Grew F (State.sysCtlWrite s v).keys.fuses := by
  unfold State.sysCtlWrite
  repeat' first | assumption | (with_reducible apply State.reloadRequest_grew) | (with_reducible apply foldl_grew; intros) | split | simp
theorem execSysCtlReload_grew {F : Fuses} (ag : Agent) (v : Word) (s : State) (h : Grew F s.keys.fuses) : ∀ q1, (execSysCtlReload ag v s) = .next q1 → Grew F q1.keys.fuses := by
  rintro q1 ⟨⟩
  repeat' first | assumption | (with_reducible apply State.sysCtlWrite_grew) | (with_reducible apply foldl_grew; intros) | split | simp

/-! LifeCycle. -/

theorem State.lcBurnt_grew {F : Fuses} (s : State) (r : LcReq) (fs : List FuseRef) (failed : Option Nat) (h : Grew F s.keys.fuses) : Grew F (State.lcBurnt s r fs failed).keys.fuses := by
  unfold State.lcBurnt
  repeat' first | assumption | (with_reducible apply State.blow_grew) | (with_reducible apply foldl_grew; intros) | split | simp
theorem execLcBurnDone_grew {F : Fuses} (failed : Option Nat) (s : State) (h : Grew F s.keys.fuses) : ∀ q1, (execLcBurnDone failed s) = .next q1 → Grew F q1.keys.fuses := by
  rintro q1 ⟨⟩
  repeat' first | assumption | (with_reducible apply State.lcBurnt_grew) | (with_reducible apply foldl_grew; intros) | split | simp

/-! Manager. -/

theorem State.sysWrite_grew {F : Fuses} (s : State) (off : Nat) (v : Word) (h : Grew F s.keys.fuses) : Grew F (State.sysWrite s off v).keys.fuses := by
  unfold State.sysWrite
  repeat' first | assumption | (with_reducible apply State.sysCtlWrite_grew) | (with_reducible apply foldl_grew; intros) | split | simp
theorem State.mgrEffect_grew {F : Fuses} (s : State) (ag : Agent) (off : Nat) (v : Word) (h : Grew F s.keys.fuses) : Grew F (State.mgrEffect s ag off v).keys.fuses := by
  unfold State.mgrEffect
  repeat' first | assumption | (with_reducible apply State.sysWrite_grew) | (with_reducible apply foldl_grew; intros) | split | simp
theorem State.mgrWrite_grew {F : Fuses} (s : State) (ag : Agent) (off : Nat) (v : Word) (h : Grew F s.keys.fuses) : Grew F (State.mgrWrite s ag off v).keys.fuses := by
  unfold State.mgrWrite
  split
  · exact h
  · split
    · exact State.rws_grew _ _ _ _ h (State.mgrEffect_grew _ _ _ _ h)
    · exact h

/-! Access. -/

theorem State.mgrWrites_grew {F : Fuses} (s : State) (ag : Agent) (off : Nat) (x0 : List Word) (h : Grew F s.keys.fuses) : Grew F (State.mgrWrites s ag off x0).keys.fuses := by
  induction x0 generalizing s ag off with
  | nil => unfold State.mgrWrites; repeat' first | assumption | (with_reducible apply State.mgrWrite_grew) | (with_reducible apply foldl_grew; intros) | split | simp
  | cons a l ih =>
    unfold State.mgrWrites
    repeat' first | assumption | (with_reducible apply State.mgrWrite_grew) | (with_reducible apply ih) | split | simp
theorem State.inbound_grew {F : Fuses} (s : State) (b : WaleBlock) (mem : Nat) (h : Grew F s.keys.fuses) : ∀ q1, (State.inbound s b mem) = some q1 → Grew F q1.keys.fuses := by
  intro q1 hq
  unfold State.inbound at hq
  dsimp only at hq
  split at hq
  · cases hq; simpa using h
  · cases hq; simpa using h
  · split at hq
    · cases hq
      rw [State.inboundEnd_fuses]
      exact State.mgrWrites_grew _ _ _ _ h
    · cases hq; simpa using h
  · rename_i o _
    have e := State.flashReads_fuses s (.wale b.src) o b.len.val
    split at hq
    · rename_i hr; rw [hr] at e; cases hq; rw [State.inboundEnd_fuses]; dsimp only at e; rw [e]; exact h
    · cases hq
  · rw [State.inboundHamper_fuses _ _ _ _ _ hq]; exact h
  · rw [State.inboundWindow_fuses _ _ _ _ hq]; exact h
  · cases hq; simpa using h
theorem State.inboundNext_grew {F : Fuses} (s : State) (h : Grew F s.keys.fuses) : ∀ q1, (State.inboundNext s) = some q1 → Grew F q1.keys.fuses := by
  intro q1 hq
  unfold State.inboundNext at hq
  split at hq
  · cases hq
  · split at hq
    · cases hq
    · exact State.inbound_grew _ _ _ (by simpa using h) _ hq
theorem State.spiApply_grew {F : Fuses} (s : State) (p : Fin 2) (a : Nat) (w : Word) (h : Grew F s.keys.fuses) : Grew F (State.spiApply s p a w).keys.fuses := by
  unfold State.spiApply
  repeat' first | assumption | (with_reducible apply State.mgrWrite_grew) | (with_reducible apply foldl_grew; intros) | split | simp
theorem State.spiItem_grew {F : Fuses} (s : State) (p : Fin 2) (x0 : SpiItem) (h : Grew F s.keys.fuses) : Grew F (State.spiItem s p x0).keys.fuses := by
  unfold State.spiItem
  repeat' first | assumption | (with_reducible apply State.spiApply_grew) | (with_reducible apply foldl_grew; intros) | split | simp
theorem State.spiTake_grew {F : Fuses} (s : State) (p : Fin 2) (i : SpiItem) (h : Grew F s.keys.fuses) : Grew F (State.spiTake s p i).keys.fuses := by
  unfold State.spiTake
  repeat' first | assumption | (with_reducible apply State.spiItem_grew) | (with_reducible apply foldl_grew; intros) | split | simp
theorem State.spiNext_grew {F : Fuses} (s : State) (p : Fin 2) (h : Grew F s.keys.fuses) : ∀ q1, (State.spiNext s p) = some q1 → Grew F q1.keys.fuses := by
  intro q1 hq
  unfold State.spiNext at hq
  dsimp only at hq
  (repeat' split at hq) <;> first | cases hq | skip
  all_goals (repeat' first | assumption | (with_reducible apply State.spiItem_grew) | (with_reducible apply foldl_grew; intros) | split | simp)
theorem State.spiWrites_grew {F : Fuses} (s : State) (p : Fin 2) (a : Nat) (x0 : List Word) (h : Grew F s.keys.fuses) : Grew F (State.spiWrites s p a x0).keys.fuses := by
  induction x0 generalizing s p a with
  | nil => unfold State.spiWrites; repeat' first | assumption | (with_reducible apply State.spiTake_grew) | (with_reducible apply foldl_grew; intros) | split | simp
  | cons a l ih =>
    unfold State.spiWrites
    repeat' first | assumption | (with_reducible apply State.spiTake_grew) | (with_reducible apply ih) | split | simp
theorem execSpiRead_grew {F : Fuses} (port : Fin 2) (addr : Word) (n : Nat) (s : State) (h : Grew F s.keys.fuses) : ∀ q1, (execSpiRead port addr n s) = .next q1 → Grew F q1.keys.fuses := by
  rintro q1 ⟨⟩
  repeat' first | assumption | (with_reducible apply State.spiTake_grew) | (with_reducible apply foldl_grew; intros) | split | simp
theorem execSpiWrite_grew {F : Fuses} (port : Fin 2) (addr : Word) (words : List Word) (s : State) (h : Grew F s.keys.fuses) : ∀ q1, (execSpiWrite port addr words s) = .next q1 → Grew F q1.keys.fuses := by
  rintro q1 ⟨⟩
  repeat' first | assumption | (with_reducible apply State.spiWrites_grew) | (with_reducible apply foldl_grew; intros) | split | simp
theorem execSpiStatus_grew {F : Fuses} (port : Fin 2) (s : State) (h : Grew F s.keys.fuses) : ∀ q1, (execSpiStatus port s) = .next q1 → Grew F q1.keys.fuses := by
  rintro q1 ⟨⟩
  repeat' first | assumption | (with_reducible apply State.spiTake_grew) | (with_reducible apply foldl_grew; intros) | split | simp
theorem execStreamWindowWrite_grew {F : Fuses} (port : Fin 2) (spi : Bool) (words : List Word) (s : State) (h : Grew F s.keys.fuses) : ∀ q1, (execStreamWindowWrite port spi words s) = .next q1 → Grew F q1.keys.fuses := by
  rintro q1 ⟨⟩
  repeat' first | assumption | (with_reducible apply State.spiTake_grew) | (with_reducible apply foldl_grew; intros) | split | simp
theorem State.barWrite_grew {F : Fuses} (s : State) (p : Fin 2) (off : Nat) (v : Word) (h : Grew F s.keys.fuses) : Grew F (State.barWrite s p off v).keys.fuses := by
  unfold State.barWrite
  repeat' first | assumption | (with_reducible apply State.mgrWrite_grew) | (with_reducible apply foldl_grew; intros) | split | simp
theorem State.masterLocal_grew {F : Fuses} (s : State) (p : Nat) (r : MasterReq) (h : Grew F s.keys.fuses) : ∀ q1, (State.masterLocal s p r) = some q1 → Grew F q1.2.2.keys.fuses := by
  intro q1 hq
  unfold State.masterLocal at hq
  dsimp only at hq
  have dec : Grew F (s.gwErr p 3).keys.fuses := by simpa using h
  split at hq
  · cases hq; exact dec
  split at hq
  · cases hq; exact dec
  · cases hq; exact dec
  · cases hq; exact dec
  · split at hq
    · cases hq; simpa using h
    · split at hq <;> (cases hq; simpa using h)
  · split at hq
    · cases hq; exact State.mgrWrites_grew _ _ _ _ h
    · cases hq; simpa using h
  · rename_i o _
    have e := State.flashReads_fuses s .gateway o r.len
    split at hq
    · cases hq; simpa using h
    · split at hq
      · rename_i hr; rw [hr] at e; cases hq; dsimp only at e; rw [e]; exact h
      · cases hq
  · split at hq
    · cases hq; exact h
    · split at hq
      · cases hq
      · cases hq
        split
        · simpa using h
        · split <;> simpa using h
theorem State.masterHere_grew {F : Fuses} (s : State) (p : Nat) (r : MasterReq) (h : Grew F s.keys.fuses) : ∀ q1, (State.masterHere s p r) = some q1 → Grew F q1.keys.fuses := by
  intro q1 hq
  unfold State.masterHere at hq
  split at hq
  · rw [Option.map_eq_some_iff] at hq
    obtain ⟨q, hq, rfl⟩ := hq
    have e := State.masterLocal_grew _ _ _ h _ hq
    simpa using e
  · rw [Option.map_eq_some_iff] at hq
    obtain ⟨q, hq, rfl⟩ := hq
    exact State.masterLocal_grew _ _ _ h _ hq
theorem State.busManager_grew {F : Fuses} (s : State) (c : Fin 4) (a : BusAccess) (o : Nat) (h : Grew F s.keys.fuses) : Grew F (State.busManager s c a o).keys.fuses := by
  unfold State.busManager
  repeat' first | assumption | (with_reducible apply State.mgrWrites_grew) | (with_reducible apply foldl_grew; intros) | split | simp
theorem State.busTry_grew {F : Fuses} (s : State) (c : Fin 4) (a : BusAccess) (h : Grew F s.keys.fuses) : ∀ q1, (State.busTry s c a) = some q1 → Grew F q1.keys.fuses := by
  intro q1 hq
  unfold State.busTry at hq
  split at hq
  · cases hq; simpa using h
  · cases hq; simpa using h
  · cases hq; exact State.busManager_grew _ _ _ _ h
  · cases hq; simpa using h
  · rw [State.busHamper_fuses _ _ _ _ _ hq]; exact h
  · rw [State.busWindow_fuses _ _ _ _ _ hq]; exact h
  · cases hq; simpa using h
theorem State.waitTry_grew {F : Fuses} (s : State) (i : WaitItem) (h : Grew F s.keys.fuses) : ∀ q1, (State.waitTry s i) = some q1 → Grew F q1.keys.fuses := by
  intro q1 hq
  unfold State.waitTry at hq
  split at hq
  · cases hq
  split at hq
  · exact State.busTry_grew _ _ _ h _ hq
  · exact State.masterHere_grew _ _ _ h _ hq
  · rw [State.gwAccess_fuses _ _ _ _ hq]; exact h
  · cases hq
    split
    · exact State.barWrite_grew _ _ _ _ h
    · exact State.mgrWrite_grew _ _ _ _ h
theorem State.waitTake_grew {F : Fuses} (s : State) (i : WaitItem) (h : Grew F s.keys.fuses) : Grew F (State.waitTake s i).keys.fuses := by
  unfold State.waitTake
  dsimp only
  split
  · exact h
  · cases hw : s.waitTry i with
    | none => exact h
    | some t => exact State.waitTry_grew _ _ h _ hw
theorem State.waitFirst_grew {F : Fuses} (s : State) (before : List Nat) (x0 : List (WaitItem × Nat)) (h : Grew F s.keys.fuses) : ∀ q1, (State.waitFirst s before x0) = some q1 → Grew F q1.keys.fuses := by
  induction x0 generalizing s before with
  | nil => intro q1 hq; cases hq
  | cons e l ih =>
    intro q1 hq
    obtain ⟨i, k⟩ := e
    unfold State.waitFirst at hq
    split at hq
    · exact ih _ _ h _ hq
    · split at hq
      · rename_i ht
        cases hq
        exact State.waitTry_grew { s with waits := s.waits.eraseIdx k } i h _ ht
      · exact ih _ _ h _ hq
theorem State.settleOne_grew {F : Fuses} (s : State) (h : Grew F s.keys.fuses) : ∀ q1, (State.settleOne s) = some q1 → Grew F q1.keys.fuses := by
  intro q1 hq
  simp only [State.settleOne, Option.orElse_eq_orElse, Option.orElse_eq_or, Option.or_eq_some_iff] at hq
  rcases hq with hq | ⟨-, hq | ⟨-, hq | ⟨-, hq | ⟨-, hq | ⟨-, hq⟩⟩⟩⟩⟩
  · rw [State.answerNext_fuses _ _ hq]; exact h
  · exact State.inboundNext_grew _ h _ hq
  · rw [State.tagNext_fuses _ _ hq]; exact h
  · exact State.spiNext_grew _ _ h _ hq
  · exact State.spiNext_grew _ _ h _ hq
  · exact State.waitFirst_grew _ _ _ h _ hq
theorem State.settle_grew {F : Fuses} (s : State) (x0 : Nat) (h : Grew F s.keys.fuses) : Grew F (State.settle s x0).keys.fuses := by
  induction x0 generalizing s with
  | zero => exact h
  | succ n ih =>
    unfold State.settle
    split
    · rename_i hq
      exact ih _ (State.settleOne_grew _ h _ hq)
    · exact h
theorem execWaleWrite_grew {F : Fuses} (p : Fin 6) (b : WaleBlock) (mem : Fin 4) (s : State) (h : Grew F s.keys.fuses) : ∀ q1, (execWaleWrite p b mem s) = .next q1 → Grew F q1.keys.fuses := by
  rintro q1 ⟨⟩
  repeat' first | assumption | (with_reducible apply State.settle_grew) | (with_reducible apply foldl_grew; intros) | split | simp
theorem execWaleRead_grew {F : Fuses} (p : Fin 6) (b : WaleBlock) (mem : Fin 4) (s : State) (h : Grew F s.keys.fuses) : ∀ q1, (execWaleRead p b mem s) = .next q1 → Grew F q1.keys.fuses := by
  rintro q1 ⟨⟩
  repeat' first | assumption | (with_reducible apply State.settle_grew) | (with_reducible apply foldl_grew; intros) | split | simp
theorem execWaleRqGo_grew {F : Fuses} (ag : Agent) (n : Fin 4) (op : Fin 8) (ack : Bool) (len : Fin 256) (s : State) (h : Grew F s.keys.fuses) : ∀ q1, (execWaleRqGo ag n op ack len s) = .next q1 → Grew F q1.keys.fuses := by
  rintro q1 ⟨⟩
  repeat' first | assumption | (with_reducible apply State.settle_grew) | (with_reducible apply foldl_grew; intros) | split | simp
theorem execRegisterWrite_grew {F : Fuses} (ag : Agent) (off : Nat) (v : Word) (full : Bool) (s : State) (h : Grew F s.keys.fuses) : ∀ q1, (execRegisterWrite ag off v full s) = .next q1 → Grew F q1.keys.fuses := by
  rintro q1 ⟨⟩
  repeat' first | assumption | (with_reducible apply State.waitTake_grew) | (with_reducible apply foldl_grew; intros) | split | simp
theorem execGwWindowAccess_grew {F : Fuses} (ag : Agent) (req : WindowReq) (s : State) (h : Grew F s.keys.fuses) : ∀ q1, (execGwWindowAccess ag req s) = .next q1 → Grew F q1.keys.fuses := by
  rintro q1 ⟨⟩
  repeat' first | assumption | (with_reducible apply State.waitTake_grew) | (with_reducible apply foldl_grew; intros) | split | simp
theorem execGwMasterRequest_grew {F : Fuses} (port : Fin 4) (req : MasterReq) (s : State) (h : Grew F s.keys.fuses) : ∀ q1, (execGwMasterRequest port req s) = .next q1 → Grew F q1.keys.fuses := by
  rintro q1 ⟨⟩
  repeat' first | assumption | (with_reducible apply State.waitTake_grew) | (with_reducible apply State.settle_grew) | (with_reducible apply foldl_grew; intros) | split | simp
theorem execClusterBusAccess_grew {F : Fuses} (core : Fin 4) (acc : BusAccess) (s : State) (h : Grew F s.keys.fuses) : ∀ q1, (execClusterBusAccess core acc s) = .next q1 → Grew F q1.keys.fuses := by
  intro q1 hq
  unfold execClusterBusAccess at hq
  split at hq
  · cases hq; exact h
  split at hq
  · cases hq
  · cases hq; exact State.waitTake_grew _ _ h

/-! Edge. -/

theorem State.wtimerTick_grew {F : Fuses} (s : State) (h : Grew F s.keys.fuses) : Grew F (State.wtimerTick s).keys.fuses := by
  unfold State.wtimerTick
  repeat' first | assumption | (with_reducible apply State.wakeTimer_grew) | (with_reducible apply foldl_grew; intros) | split | simp
theorem State.eventWake_grew {F : Fuses} (s : State) (h : Grew F s.keys.fuses) : Grew F (State.eventWake s).keys.fuses := by
  unfold State.eventWake
  repeat' first | assumption | (with_reducible apply State.wakeSource_grew) | (with_reducible apply foldl_grew; intros) | split | simp
theorem State.idle_grew {F : Fuses} (s : State) (h : Grew F s.keys.fuses) : Grew F (State.idle s).keys.fuses := by
  unfold State.idle
  repeat' first | assumption | (with_reducible apply State.settle_grew) | (with_reducible apply State.wtimerTick_grew) | (with_reducible apply State.eventWake_grew) | (with_reducible apply foldl_grew; intros) | split | simp

end Sys2Proof.Machine
end

