-- ==== Sys2Proof/Laws/FrameHamper.lean ====
section
/-! SUPPORT. Which operations leave the hamper content as it is, and that the others keep the canonical form of its list. -/
namespace Sys2Proof.Machine

/-! Ops. -/

@[simp] theorem hamperCells_ite (c : Prop) [Decidable c] (a b : State) :
    (if c then a else b).hamp.cells = if c then a.hamp.cells else b.hamp.cells := by split <;> rfl
@[simp] theorem foldl_hamperCells {α : Type} (f : State → α → State) (h : ∀ t a, (f t a).hamp.cells = t.hamp.cells)
    (l : List α) (s : State) : (l.foldl f s).hamp.cells = s.hamp.cells := by
  induction l generalizing s with
  | nil => rfl
  | cons a l ih => simp [ih, h]

@[simp] theorem State.wr_hamperCells (s : State) (off : Nat) (v : Word) : (State.wr s off v).hamp.cells = s.hamp.cells := by simp [State.wr]
@[simp] theorem State.liveWr_hamperCells (s : State) (off : Nat) (v : Word) : (State.liveWr s off v).hamp.cells = s.hamp.cells := by simp [State.liveWr]
@[simp] theorem State.setFld_hamperCells (s : State) (off hi lo v : Nat) : (State.setFld s off hi lo v).hamp.cells = s.hamp.cells := by simp [State.setFld]
@[simp] theorem State.setBit_hamperCells (s : State) (off i : Nat) (b : Bool) : (State.setBit s off i b).hamp.cells = s.hamp.cells := by simp [State.setBit]
@[simp] theorem State.orReg_hamperCells (s : State) (off : Nat) (m : Word) : (State.orReg s off m).hamp.cells = s.hamp.cells := by simp [State.orReg]
@[simp] theorem State.bumpSat_hamperCells (s : State) (off : Nat) : (State.bumpSat s off).hamp.cells = s.hamp.cells := by simp [State.bumpSat]
@[simp] theorem State.plainWrite_hamperCells (s : State) (off : Nat) (v : Word) : (State.plainWrite s off v).hamp.cells = s.hamp.cells := by unfold State.plainWrite; (repeat' split) <;> simp
@[simp] theorem State.setMode_hamperCells (s : State) (m : Nat) : (State.setMode s m).hamp.cells = s.hamp.cells := by simp [State.setMode]
@[simp] theorem State.sysFault_hamperCells (s : State) (i : Nat) : (State.sysFault s i).hamp.cells = s.hamp.cells := by simp [State.sysFault]
@[simp] theorem State.freshWord_hamperCells (s : State) : (State.freshWord s).2.hamp.cells = s.hamp.cells := by simp [State.freshWord]
@[simp] theorem State.freshNat_hamperCells (s : State) : (State.freshNat s).2.hamp.cells = s.hamp.cells := by simp [State.freshNat]
@[simp] theorem State.emit_hamperCells (s : State) (e : Emission) : (State.emit s e).hamp.cells = s.hamp.cells := by simp [State.emit]
@[simp] theorem State.setPort_hamperCells (s : State) (p : Fin 2) (h : HostPort) : (State.setPort s p h).hamp.cells = s.hamp.cells := by simp [State.setPort]
@[simp] theorem State.msixSend_hamperCells (s : State) (p : Fin 2) (vec : Nat) : (State.msixSend s p vec).hamp.cells = s.hamp.cells := by simp [State.msixSend]
@[simp] theorem State.msixFlush_hamperCells (s : State) (p : Fin 2) : (State.msixFlush s p).hamp.cells = s.hamp.cells := by simp [State.msixFlush]
@[simp] theorem State.msixAfter_hamperCells (before : State) (n : Nat) (s : State) : (State.msixAfter before n s).hamp.cells = s.hamp.cells := by simp [State.msixAfter]
@[simp] theorem State.raise_hamperCells (s : State) (n : Nat) : (State.raise s n).hamp.cells = s.hamp.cells := by simp [State.raise]
@[simp] theorem State.raiseIf_hamperCells (s : State) (c : Bool) (n : Nat) : (State.raiseIf s c n).hamp.cells = s.hamp.cells := by simp [State.raiseIf]
@[simp] theorem State.portEvent_hamperCells (s : State) (p : Fin 2) (i : Nat) : (State.portEvent s p i).hamp.cells = s.hamp.cells := by simp [State.portEvent]
@[simp] theorem State.semFreed_hamperCells (s : State) (n : Nat) : (State.semFreed s n).hamp.cells = s.hamp.cells := by simp [State.semFreed]
@[simp] theorem State.semFree_hamperCells (s : State) (n : Nat) : (State.semFree s n).hamp.cells = s.hamp.cells := by simp [State.semFree]
@[simp] theorem State.semAutoRelease_hamperCells (s : State) (ident : Nat) : (State.semAutoRelease s ident).hamp.cells = s.hamp.cells := by simp [State.semAutoRelease]
@[simp] theorem State.semAllFree_hamperCells (s : State) : (State.semAllFree s).hamp.cells = s.hamp.cells := by simp [State.semAllFree]
@[simp] theorem State.portDiscard_hamperCells (s : State) (ag : Agent) (region off : Nat) : (State.portDiscard s ag region off).hamp.cells = s.hamp.cells := by unfold State.portDiscard; dsimp only; repeat' first | (simp; done) | split
@[simp] theorem State.discard_hamperCells (s : State) (ag : Agent) (region off : Nat) : (State.discard s ag region off).hamp.cells = s.hamp.cells := by simp [State.discard]
@[simp] theorem State.guarded_hamperCells (s : State) (ag : Agent) (n off : Nat) (t : State) (h : t.hamp.cells = s.hamp.cells) : (s.guarded ag n off t).hamp.cells = s.hamp.cells := by unfold State.guarded; split <;> simp [h]
@[simp] theorem State.rws_hamperCells (s : State) (ag : Agent) (off : Nat) (t : State) (h : t.hamp.cells = s.hamp.cells) : (s.rws ag off t).hamp.cells = s.hamp.cells := by unfold State.rws; (repeat' split) <;> simp [h]

/-! WaleTree. -/

@[simp] theorem State.setWale_hamperCells (s : State) (w : WaleSt) : (State.setWale s w).hamp.cells = s.hamp.cells := by simp [State.setWale]
@[simp] theorem State.setWp_hamperCells (s : State) (p : Nat) (v : WpSt) : (State.setWp s p v).hamp.cells = s.hamp.cells := by simp [State.setWp]
@[simp] theorem State.wpEvent_hamperCells (s : State) (p i : Nat) : (State.wpEvent s p i).hamp.cells = s.hamp.cells := by simp [State.wpEvent]
@[simp] theorem State.wpFault_hamperCells (s : State) (p i : Nat) : (State.wpFault s p i).hamp.cells = s.hamp.cells := by simp [State.wpFault]
@[simp] theorem State.waleErr_hamperCells (s : State) (i : Nat) : (State.waleErr s i).hamp.cells = s.hamp.cells := by simp [State.waleErr]
@[simp] theorem State.waleEmit_hamperCells (s : State) (p : Nat) (o : WaleOut) : (State.waleEmit s p o).hamp.cells = s.hamp.cells := by simp [State.waleEmit]
@[simp] theorem State.wpClear_hamperCells (s : State) (p : Nat) : (State.wpClear s p).hamp.cells = s.hamp.cells := by simp [State.wpClear]
@[simp] theorem State.linkSend_hamperCells (s : State) (p : Nat) (b : WaleBlock) : (State.linkSend s p b).hamp.cells = s.hamp.cells := by simp [State.linkSend]
@[simp] theorem State.linkDrain_hamperCells (s : State) (p : Nat) : (State.linkDrain s p).hamp.cells = s.hamp.cells := by simp [State.linkDrain]
@[simp] theorem State.bcastOut_hamperCells (s : State) (from_ : Option Nat) (b : WaleBlock) : (State.bcastOut s from_ b).hamp.cells = s.hamp.cells := by simp [State.bcastOut]
@[simp] theorem State.sysBcast_hamperCells (s : State) (m : SysMsg) : (State.sysBcast s m).hamp.cells = s.hamp.cells := by simp [State.sysBcast]
@[simp] theorem State.sysNeighbour_hamperCells (s : State) (p : Nat) (m : SysMsg) : (State.sysNeighbour s p m).hamp.cells = s.hamp.cells := by simp [State.sysNeighbour]
@[simp] theorem State.advertise_hamperCells (s : State) (p : Nat) : (State.advertise s p).hamp.cells = s.hamp.cells := by simp [State.advertise]
@[simp] theorem State.advertiseAll_hamperCells (s : State) : (State.advertiseAll s).hamp.cells = s.hamp.cells := by simp [State.advertiseAll]
@[simp] theorem State.setTlock_hamperCells (s : State) (b : Bool) : (State.setTlock s b).hamp.cells = s.hamp.cells := by simp [State.setTlock]
@[simp] theorem State.chainRefresh_hamperCells (s : State) : (State.chainRefresh s).hamp.cells = s.hamp.cells := by simp [State.chainRefresh]
@[simp] theorem State.waleTimeRefresh_hamperCells (s : State) : (State.waleTimeRefresh s).hamp.cells = s.hamp.cells := by simp [State.waleTimeRefresh]
@[simp] theorem State.treeRefresh_hamperCells (s : State) : (State.treeRefresh s).hamp.cells = s.hamp.cells := by simp [State.treeRefresh]
@[simp] theorem State.waleSemRelease_hamperCells (s : State) : (State.waleSemRelease s).hamp.cells = s.hamp.cells := by simp [State.waleSemRelease]
@[simp] theorem State.linkDrop_hamperCells (s : State) (p cause : Nat) : (State.linkDrop s p cause).hamp.cells = s.hamp.cells := by simp [State.linkDrop]
@[simp] theorem State.walePortsDrop_hamperCells (s : State) : (State.walePortsDrop s).hamp.cells = s.hamp.cells := by simp [State.walePortsDrop]

/-! Clocks. -/

@[simp] theorem State.commitRwb_hamperCells (s : State) (off : Nat) (cap val : Word) : (State.commitRwb s off cap val).hamp.cells = s.hamp.cells := by simp [State.commitRwb]
@[simp] theorem State.hubWrite_hamperCells (s : State) (ag : Agent) (v : Word) : (State.hubWrite s ag v).hamp.cells = s.hamp.cells := by simp [State.hubWrite]
@[simp] theorem State.hubClockSwitch_hamperCells (s : State) : (State.hubClockSwitch s).hamp.cells = s.hamp.cells := by simp [State.hubClockSwitch]
theorem execClkHubWrite_hamperCells (ag : Agent) (v : Word) (s : State) : ∀ q1, (execClkHubWrite ag v s) = .next q1 → q1.hamp.cells = s.hamp.cells := by
  rintro q1 ⟨⟩; simp
theorem execHubSynthLock_hamperCells (s : State) : ∀ q1, (execHubSynthLock s) = .next q1 → q1.hamp.cells = s.hamp.cells := by
  rintro q1 ⟨⟩; simp
@[simp] theorem State.setSynthPhase_hamperCells (s : State) (n : Nat) (p : SynthPhase) : (State.setSynthPhase s n p).hamp.cells = s.hamp.cells := by simp [State.setSynthPhase]
@[simp] theorem State.illegalSel_hamperCells (s : State) : (State.illegalSel s).hamp.cells = s.hamp.cells := by simp [State.illegalSel]
@[simp] theorem State.lockRefresh_hamperCells (s : State) (n : Nat) : (State.lockRefresh s n).hamp.cells = s.hamp.cells := by simp [State.lockRefresh]
@[simp] theorem State.synthMeasure_hamperCells (s : State) (g n : Nat) : (State.synthMeasure s g n).hamp.cells = s.hamp.cells := by simp [State.synthMeasure]
@[simp] theorem State.synthBegin_hamperCells (s : State) (n : Nat) (c : SynthClass) : (State.synthBegin s n c).hamp.cells = s.hamp.cells := by unfold State.synthBegin; (repeat' split) <;> simp
@[simp] theorem State.synthPend_hamperCells (s : State) (n : Nat) : (State.synthPend s n).hamp.cells = s.hamp.cells := by simp [State.synthPend]
@[simp] theorem State.synthApply_hamperCells (s : State) (n : Nat) (vals : List (Nat × Word)) : (State.synthApply s n vals).hamp.cells = s.hamp.cells := by simp [State.synthApply]
@[simp] theorem State.synthLose_hamperCells (s : State) (n : Nat) : (State.synthLose s n).hamp.cells = s.hamp.cells := by simp [State.synthLose]
theorem execSynthGlideDone_hamperCells (n : Fin 32) (s : State) : ∀ q1, (execSynthGlideDone n s) = .next q1 → q1.hamp.cells = s.hamp.cells := by
  rintro q1 ⟨⟩; simp
theorem execSynthDividerDone_hamperCells (n : Fin 32) (s : State) : ∀ q1, (execSynthDividerDone n s) = .next q1 → q1.hamp.cells = s.hamp.cells := by
  rintro q1 ⟨⟩; simp
theorem execSynthLock_hamperCells (n : Fin 32) (s : State) : ∀ q1, (execSynthLock n s) = .next q1 → q1.hamp.cells = s.hamp.cells := by
  rintro q1 ⟨⟩; simp
theorem execSynthLossOfLock_hamperCells (n : Fin 32) (s : State) : ∀ q1, (execSynthLossOfLock n s) = .next q1 → q1.hamp.cells = s.hamp.cells := by
  rintro q1 ⟨⟩; simp
theorem execSynthHoldoverExit_hamperCells (n : Fin 32) (s : State) : ∀ q1, (execSynthHoldoverExit n s) = .next q1 → q1.hamp.cells = s.hamp.cells := by
  rintro q1 ⟨⟩; simp
@[simp] theorem State.tclkHoldover_hamperCells (s : State) : (State.tclkHoldover s).hamp.cells = s.hamp.cells := by simp [State.tclkHoldover]
theorem execRefinLost_hamperCells (s : State) : ∀ q1, (execRefinLost s) = .next q1 → q1.hamp.cells = s.hamp.cells := by
  rintro q1 ⟨⟩; simp
theorem execRefinRestored_hamperCells (s : State) : ∀ q1, (execRefinRestored s) = .next q1 → q1.hamp.cells = s.hamp.cells := by
  rintro q1 ⟨⟩; simp
theorem execXrefLost_hamperCells (s : State) : ∀ q1, (execXrefLost s) = .next q1 → q1.hamp.cells = s.hamp.cells := by
  rintro q1 ⟨⟩; simp
theorem execXrefRestored_hamperCells (s : State) : ∀ q1, (execXrefRestored s) = .next q1 → q1.hamp.cells = s.hamp.cells := by
  rintro q1 ⟨⟩; simp
@[simp] theorem State.setSwitching_hamperCells (s : State) (k v : Nat) : (State.setSwitching s k v).hamp.cells = s.hamp.cells := by simp [State.setSwitching]
@[simp] theorem State.netChange_hamperCells (s : State) (k old new : Nat) : (State.netChange s k old new).hamp.cells = s.hamp.cells := by simp [State.netChange]
@[simp] theorem State.selectWrite_hamperCells (s : State) (off : Nat) (legal : Bool) (v : Word) : (State.selectWrite s off legal v).hamp.cells = s.hamp.cells := by simp [State.selectWrite]
@[simp] theorem State.rimApply_hamperCells (s : State) (k j : Nat) (vals : List (Nat × Word)) : (State.rimApply s k j vals).hamp.cells = s.hamp.cells := by unfold State.rimApply; (repeat' split) <;> simp
@[simp] theorem State.vselApply_hamperCells (s : State) (w j : Nat) (vals : List (Nat × Word)) : (State.vselApply s w j vals).hamp.cells = s.hamp.cells := by unfold State.vselApply; (repeat' split) <;> simp
theorem execRimSelectWrite_hamperCells (ag : Agent) (reg : RimReg) (v : Word) (s : State) : ∀ q1, (execRimSelectWrite ag reg v s) = .next q1 → q1.hamp.cells = s.hamp.cells := by
  intro q1 h
  cases reg <;> (cases h; simp)
theorem execGlitchFreeSwitchDone_hamperCells (net : ClockNet) (s : State) : ∀ q1, (execGlitchFreeSwitchDone net s) = .next q1 → q1.hamp.cells = s.hamp.cells := by
  rintro q1 ⟨⟩; simp
theorem execGlitchFreeSwitchForced_hamperCells (net : ClockNet) (s : State) : ∀ q1, (execGlitchFreeSwitchForced net s) = .next q1 → q1.hamp.cells = s.hamp.cells := by
  rintro q1 ⟨⟩; simp
@[simp] theorem State.setFmRun_hamperCells (s : State) (m v : Nat) : (State.setFmRun s m v).hamp.cells = s.hamp.cells := by simp [State.setFmRun]
@[simp] theorem State.fmTick_hamperCells (s : State) (m : Nat) : (State.fmTick s m).hamp.cells = s.hamp.cells := by simp [State.fmTick]
@[simp] theorem State.fmWrite_hamperCells (s : State) (m : Nat) (v : Word) : (State.fmWrite s m v).hamp.cells = s.hamp.cells := by simp [State.fmWrite]
theorem execFmSourceWrite_hamperCells (ag : Agent) (m : Fin 16) (v : Word) (s : State) : ∀ q1, (execFmSourceWrite ag m v s) = .next q1 → q1.hamp.cells = s.hamp.cells := by
  rintro q1 ⟨⟩; simp
theorem execFmWindowEnd_hamperCells (m : Fin 16) (count : Word) (s : State) : ∀ q1, (execFmWindowEnd m count s) = .next q1 → q1.hamp.cells = s.hamp.cells := by
  intro q1 h; unfold execFmWindowEnd at h; dsimp only at h; (repeat' split at h) <;> first | (cases h; simp) | (cases h; (repeat' split) <;> simp_all)
@[simp] theorem State.clkWrite_hamperCells (s : State) (ag : Agent) (off : Nat) (v : Word) : (State.clkWrite s ag off v).hamp.cells = s.hamp.cells := by simp [State.clkWrite]

/-! Planes. -/

@[simp] theorem State.setFrame_hamperCells (s : State) (latch key : Nat) (f : BitVec 10240) : (State.setFrame s latch key f).hamp.cells = s.hamp.cells := by simp [State.setFrame]
@[simp] theorem State.setChk_hamperCells (s : State) (latch key : Nat) (w : Word) : (State.setChk s latch key w).hamp.cells = s.hamp.cells := by simp [State.setChk]
@[simp] theorem State.setDyn_hamperCells (s : State) (latch key : Nat) (b : Bool) : (State.setDyn s latch key b).hamp.cells = s.hamp.cells := by simp [State.setDyn]
@[simp] theorem State.putFrame_hamperCells (s : State) (latch key : Nat) (f : BitVec 10240) (dyn : Bool) : (State.putFrame s latch key f dyn).hamp.cells = s.hamp.cells := by simp [State.putFrame]
@[simp] theorem State.clearLatch_hamperCells (s : State) (u latch : Nat) : (State.clearLatch s u latch).hamp.cells = s.hamp.cells := by simp [State.clearLatch]
@[simp] theorem State.clearPlanes_hamperCells (s : State) : (State.clearPlanes s).hamp.cells = s.hamp.cells := by simp [State.clearPlanes]
@[simp] theorem State.flipUnit_hamperCells (s : State) (u : Nat) : (State.flipUnit s u).hamp.cells = s.hamp.cells := by simp [State.flipUnit]
@[simp] theorem State.setShState_hamperCells (s : State) (u v : Nat) : (State.setShState s u v).hamp.cells = s.hamp.cells := by simp [State.setShState]
@[simp] theorem State.setBport_hamperCells (s : State) (k : Nat) (v : BPort) : (State.setBport s k v).hamp.cells = s.hamp.cells := by simp [State.setBport]
@[simp] theorem State.bportHold_hamperCells (s : State) (k : Nat) : (State.bportHold s k).hamp.cells = s.hamp.cells := by unfold State.bportHold; (repeat' split) <;> simp
@[simp] theorem State.bportsHold_hamperCells (s : State) (sel : Nat → Bool) : (State.bportsHold s sel).hamp.cells = s.hamp.cells := by
  unfold State.bportsHold
  apply foldl_hamperCells
  intro t n
  split
  · split
    · exact State.bportHold_hamperCells _ _
    · rfl
  · rfl
@[simp] theorem State.setBond_hamperCells (s : State) (u : Nat) (hold : Bool) : (State.setBond s u hold).hamp.cells = s.hamp.cells := by simp [State.setBond]
@[simp] theorem State.setInit_hamperCells (s : State) (bay : Nat) (hold : Bool) : (State.setInit s bay hold).hamp.cells = s.hamp.cells := by simp [State.setInit]
@[simp] theorem State.setOut_hamperCells (s : State) (k : Nat) (on : Bool) : (State.setOut s k on).hamp.cells = s.hamp.cells := by simp [State.setOut]
@[simp] theorem State.setArrayWord_hamperCells (s : State) (a w : Nat) (v : BitVec 36) : (State.setArrayWord s a w v).hamp.cells = s.hamp.cells := by simp [State.setArrayWord]
@[simp] theorem State.setCreelWord_hamperCells (s : State) (n w : Nat) (v : BitVec 36) : (State.setCreelWord s n w v).hamp.cells = s.hamp.cells := by simp [State.setCreelWord]
@[simp] theorem State.clearArray_hamperCells (s : State) (a : Nat) : (State.clearArray s a).hamp.cells = s.hamp.cells := by simp [State.clearArray]
@[simp] theorem State.copyArray_hamperCells (s : State) (src dst : Nat) : (State.copyArray s src dst).hamp.cells = s.hamp.cells := by simp [State.copyArray]
@[simp] theorem State.putContent_hamperCells (s : State) (p : Word) (f : BitVec 10240) : (State.putContent s p f).hamp.cells = s.hamp.cells := by simp [State.putContent]
@[simp] theorem State.staleReport_hamperCells (s : State) : (State.staleReport s).hamp.cells = s.hamp.cells := by simp [State.staleReport]
@[simp] theorem State.makeStale_hamperCells (s : State) (n : Nat) : (State.makeStale s n).hamp.cells = s.hamp.cells := by simp [State.makeStale]
@[simp] theorem State.staleOff_hamperCells (s : State) (n : Nat) : (State.staleOff s n).hamp.cells = s.hamp.cells := by simp [State.staleOff]
@[simp] theorem State.staleClear_hamperCells (s : State) (n : Nat) : (State.staleClear s n).hamp.cells = s.hamp.cells := by simp [State.staleClear]

/-! Cadence. -/

@[simp] theorem State.cadErr_hamperCells (s : State) (i : Nat) : (State.cadErr s i).hamp.cells = s.hamp.cells := by simp [State.cadErr]
@[simp] theorem State.adjDone_hamperCells (s : State) : (State.adjDone s).hamp.cells = s.hamp.cells := by simp [State.adjDone]
@[simp] theorem State.ppsInstant_hamperCells (s : State) : (State.ppsInstant s).hamp.cells = s.hamp.cells := by simp [State.ppsInstant]
@[simp] theorem State.tclkEdge_hamperCells (s : State) : (State.tclkEdge s).hamp.cells = s.hamp.cells := by simp [State.tclkEdge]
@[simp] theorem State.setGen_hamperCells (s : State) (g : Nat) (v : Gen) : (State.setGen s g v).hamp.cells = s.hamp.cells := by simp [State.setGen]
@[simp] theorem State.genApply_hamperCells (s : State) (g : Nat) (b : Instant) (vals : List (Nat × Word)) : (State.genApply s g b vals).hamp.cells = s.hamp.cells := by simp [State.genApply]
@[simp] theorem State.setMb_hamperCells (s : State) (i : Nat) (v : Option Instant) : (State.setMb s i v).hamp.cells = s.hamp.cells := by simp [State.setMb]
@[simp] theorem State.mbTake_hamperCells (s : State) (i : Nat) (x : Instant) (x0 : FireResult) : (State.mbTake s i x x0).hamp.cells = s.hamp.cells := by
  cases x0 with
  | posted => unfold State.mbTake; dsimp only; split <;> simp
  | late => exact State.cadErr_hamperCells _ _
  | busy => exact State.cadErr_hamperCells _ _
@[simp] theorem State.mbPost_hamperCells (s : State) (i : Nat) (x : Instant) : (State.mbPost s i x).hamp.cells = s.hamp.cells := by simp [State.mbPost]
@[simp] theorem State.mbSkip_hamperCells (s : State) (i : Nat) (new : Instant) : (State.mbSkip s i new).hamp.cells = s.hamp.cells := by unfold State.mbSkip; (repeat' split) <;> simp
@[simp] theorem State.tbStep_hamperCells (s : State) (off : Int) : (State.tbStep s off).hamp.cells = s.hamp.cells := by simp [State.tbStep]
@[simp] theorem State.adjStep_hamperCells (s : State) : (State.adjStep s).hamp.cells = s.hamp.cells := by simp [State.adjStep]
@[simp] theorem State.adjSlew_hamperCells (s : State) : (State.adjSlew s).hamp.cells = s.hamp.cells := by simp [State.adjSlew]
@[simp] theorem State.adjWrite_hamperCells (s : State) (v : Word) : (State.adjWrite s v).hamp.cells = s.hamp.cells := by simp [State.adjWrite]
theorem execAdjStep_hamperCells (ag : Agent) (s : State) : ∀ q1, (execAdjStep ag s) = .next q1 → q1.hamp.cells = s.hamp.cells := by
  rintro q1 ⟨⟩; simp
theorem execAdjSlew_hamperCells (ag : Agent) (s : State) : ∀ q1, (execAdjSlew ag s) = .next q1 → q1.hamp.cells = s.hamp.cells := by
  rintro q1 ⟨⟩; simp
theorem execSlewDone_hamperCells (s : State) : ∀ q1, (execSlewDone s) = .next q1 → q1.hamp.cells = s.hamp.cells := by
  rintro q1 ⟨⟩; simp
theorem execSyncCapture_hamperCells (x : Fin 3) (falling : Bool) (s : State) : ∀ q1, (execSyncCapture x falling s) = .next q1 → q1.hamp.cells = s.hamp.cells := by
  intro q1 h; unfold execSyncCapture at h; dsimp only at h; (repeat' split at h) <;> first | (cases h; simp) | (cases h; (repeat' split) <;> simp_all)
@[simp] theorem State.setSnap_hamperCells (s : State) (off : Nat) (v : Word) : (State.setSnap s off v).hamp.cells = s.hamp.cells := by simp [State.setSnap]
@[simp] theorem State.captureRead_hamperCells (s : State) (x : Nat) : (State.captureRead s x).2.hamp.cells = s.hamp.cells := by simp [State.captureRead]
theorem execCaptureRead_hamperCells (ag : Agent) (x : Fin 3) (s : State) : ∀ q1, (execCaptureRead ag x s) = .next q1 → q1.hamp.cells = s.hamp.cells := by
  rintro q1 ⟨⟩; simp
theorem execPpsInLost_hamperCells (s : State) : ∀ q1, (execPpsInLost s) = .next q1 → q1.hamp.cells = s.hamp.cells := by
  rintro q1 ⟨⟩; simp
theorem execPpsOutPulse_hamperCells (s : State) : ∀ q1, (execPpsOutPulse s) = .next q1 → q1.hamp.cells = s.hamp.cells := by
  rintro q1 ⟨⟩; simp
theorem execPpsOutPulseEnd_hamperCells (s : State) : ∀ q1, (execPpsOutPulseEnd s) = .next q1 → q1.hamp.cells = s.hamp.cells := by
  rintro q1 ⟨⟩; simp
@[simp] theorem State.wideTick_hamperCells (s : State) (off : Nat) : (State.wideTick s off).hamp.cells = s.hamp.cells := by simp [State.wideTick]
@[simp] theorem State.snapRead_hamperCells (s0 : State) (off : Nat) : (State.snapRead s0 off).2.hamp.cells = s0.hamp.cells := by unfold State.snapRead; (repeat' split) <;> simp
theorem execSnapshotRead_hamperCells (ag : Agent) (off : Nat) (s : State) : ∀ q1, (execSnapshotRead ag off s) = .next q1 → q1.hamp.cells = s.hamp.cells := by
  rintro q1 ⟨⟩; simp
@[simp] theorem State.setTap_hamperCells (s : State) (i : Nat) (v : Option Instant) : (State.setTap s i v).hamp.cells = s.hamp.cells := by simp [State.setTap]
@[simp] theorem State.tapSchedule_hamperCells (s : State) (i g : Nat) (t : Instant) : (State.tapSchedule s i g t).hamp.cells = s.hamp.cells := by simp [State.tapSchedule]
@[simp] theorem State.fbrApply_hamperCells (s : State) (n : Nat) (vals : List (Nat × Word)) : (State.fbrApply s n vals).hamp.cells = s.hamp.cells := by unfold State.fbrApply; dsimp only; repeat' first | (simp; done) | split
@[simp] theorem State.fbrPresent_hamperCells (s t : State) (n : Nat) (vals : List (Nat × Word)) : (State.fbrPresent s t n vals).hamp.cells = t.hamp.cells := by unfold State.fbrPresent; dsimp only; repeat' first | (simp; done) | split
@[simp] theorem State.fbrsApply_hamperCells (s : State) (vals : List (Nat × Word)) : (State.fbrsApply s vals).hamp.cells = s.hamp.cells := by simp [State.fbrsApply]
@[simp] theorem State.cadWrite_hamperCells (s : State) (off : Nat) (v : Word) : (State.cadWrite s off v).hamp.cells = s.hamp.cells := by simp [State.cadWrite]

/-! FlashDie. -/

@[simp] theorem State.withFlash_hamperCells (s : State) (f : FlashState) : (State.withFlash s f).hamp.cells = s.hamp.cells := by simp [State.withFlash]
@[simp] theorem State.halfReport_hamperCells (s : State) : (State.halfReport s).hamp.cells = s.hamp.cells := by unfold State.halfReport; (repeat' split) <;> simp
@[simp] theorem State.ledgerLost_hamperCells (s : State) : (State.ledgerLost s).hamp.cells = s.hamp.cells := by simp [State.ledgerLost]
@[simp] theorem State.ledgerUse_hamperCells (s : State) (f : FlashState) (h blank free seq : Nat) : (State.ledgerUse s f h blank free seq).hamp.cells = s.hamp.cells := by simp [State.ledgerUse]
@[simp] theorem State.ledgerTake_hamperCells (s : State) (h : Nat) : (State.ledgerTake s h).hamp.cells = s.hamp.cells := by rw [State.ledgerTake, State.ledgerUse_hamperCells]
@[simp] theorem State.ledgerBuild_hamperCells (s : State) : (State.ledgerBuild s).hamp.cells = s.hamp.cells := by
  unfold State.ledgerBuild
  split
  · exact State.ledgerLost_hamperCells s
  · exact State.ledgerTake_hamperCells s _
@[simp] theorem State.logProgram_hamperCells (s : State) (w : BitVec 64) : (State.logProgram s w).hamp.cells = s.hamp.cells := by simp [State.logProgram]
@[simp] theorem State.logSpoil_hamperCells (s : State) : (State.logSpoil s).hamp.cells = s.hamp.cells := by simp [State.logSpoil]
@[simp] theorem State.compact_hamperCells (s : State) : (State.compact s).hamp.cells = s.hamp.cells := by simp [State.compact]

/-! Journal. -/

@[simp] theorem State.flashRefuse_hamperCells (s : State) (ag : Agent) (off code : Nat) : (State.flashRefuse s ag off code).hamp.cells = s.hamp.cells := by simp [State.flashRefuse]
theorem State.journalPut_hamperCells (s : State) (r : Nat) : ∀ q1, (State.journalPut s r) = some q1 → q1.hamp.cells = s.hamp.cells := by
  intro q1 h
  simp only [State.journalPut] at h
  (repeat' split at h) <;> simp_all <;> (try (subst h; simp))
@[simp] theorem State.journalWriteAll_hamperCells (s : State) (x0 : List Nat) : (State.journalWriteAll s x0).hamp.cells = s.hamp.cells := by
  induction x0 generalizing s with
  | nil => rfl
  | cons a l ih =>
    unfold State.journalWriteAll
    split
    · rename_i h
      rw [ih, State.journalPut_hamperCells _ _ _ h]
    · rfl
@[simp] theorem State.journalFlush_hamperCells (s : State) : (State.journalFlush s).hamp.cells = s.hamp.cells := by simp [State.journalFlush]
@[simp] theorem State.journal_hamperCells (s : State) (step outcome code src addr arg : Nat) : (State.journal s step outcome code src addr arg).hamp.cells = s.hamp.cells := by simp [State.journal]
@[simp] theorem State.eraseTest_hamperCells (s : State) : (State.eraseTest s).hamp.cells = s.hamp.cells := by simp [State.eraseTest]
@[simp] theorem State.stagingMode_hamperCells (s : State) : (State.stagingMode s).hamp.cells = s.hamp.cells := by simp [State.stagingMode]

/-! Flash. -/

@[simp] theorem State.flashStart_hamperCells (s : State) (op : FlashOp) : (State.flashStart s op).hamp.cells = s.hamp.cells := by simp [State.flashStart]
@[simp] theorem State.flashEnd_hamperCells (s : State) : (State.flashEnd s).hamp.cells = s.hamp.cells := by simp [State.flashEnd]
@[simp] theorem State.lastOp_hamperCells (s : State) (op : FlashOp) (pulses : Nat) (failed : Bool) : (State.lastOp s op pulses failed).hamp.cells = s.hamp.cells := by simp [State.lastOp]
@[simp] theorem State.wearReport_hamperCells (s : State) (op : FlashOp) (pulses : Nat) : (State.wearReport s op pulses).hamp.cells = s.hamp.cells := by simp [State.wearReport]
@[simp] theorem State.badEntry_hamperCells (s : State) (op : FlashOp) (e : SecEntry) : (State.badEntry s op e).hamp.cells = s.hamp.cells := by simp [State.badEntry]
@[simp] theorem State.markBad_hamperCells (s : State) (op : FlashOp) : (State.markBad s op).hamp.cells = s.hamp.cells := by simp [State.markBad]
@[simp] theorem State.failOp_hamperCells (s : State) (op : FlashOp) : (State.failOp s op).hamp.cells = s.hamp.cells := by simp [State.failOp]
@[simp] theorem State.flashAbandon_hamperCells (s : State) : (State.flashAbandon s).hamp.cells = s.hamp.cells := by unfold State.flashAbandon; (repeat' split) <;> simp
@[simp] theorem State.flashSuspend_hamperCells (s : State) (eng : Bool) : (State.flashSuspend s eng).hamp.cells = s.hamp.cells := by simp [State.flashSuspend]
@[simp] theorem State.flashResume_hamperCells (s : State) (eng : Bool) : (State.flashResume s eng).hamp.cells = s.hamp.cells := by simp [State.flashResume]
theorem execFlashSuspendEffect_hamperCells (s : State) : ∀ q1, (execFlashSuspendEffect s) = .next q1 → q1.hamp.cells = s.hamp.cells := by
  intro q1 h; unfold execFlashSuspendEffect at h; dsimp only at h; (repeat' split at h) <;> first | (cases h; simp) | (cases h; (repeat' split) <;> simp_all)
@[simp] theorem State.startProgram_hamperCells (s : State) (ag : Agent) (off : Nat) (line : Bool) (addr : Nat) (words : List (BitVec 64)) : (State.startProgram s ag off line addr words).hamp.cells = s.hamp.cells := by unfold State.startProgram; (repeat' split) <;> simp
@[simp] theorem State.startErase_hamperCells (s : State) (ag : Agent) (off sec : Nat) : (State.startErase s ag off sec).hamp.cells = s.hamp.cells := by simp [State.startErase]
@[simp] theorem State.setSeq_hamperCells (s : State) (q : FlashSeq) : (State.setSeq s q).hamp.cells = s.hamp.cells := by simp [State.setSeq]
@[simp] theorem State.seqErr_hamperCells (s : State) (ag : Agent) (off : Nat) : (State.seqErr s ag off).hamp.cells = s.hamp.cells := by simp [State.seqErr]
@[simp] theorem State.unlockedCycle_hamperCells (s : State) (ag : Agent) (off code : Nat) : (State.unlockedCycle s ag off code).hamp.cells = s.hamp.cells := by unfold State.unlockedCycle; (repeat' split) <;> simp
@[simp] theorem State.idleCycle_hamperCells (s : State) (ag : Agent) (off code : Nat) : (State.idleCycle s ag off code).hamp.cells = s.hamp.cells := by simp [State.idleCycle]
@[simp] theorem State.dataCycle_hamperCells (s : State) (ag : Agent) (off : Nat) (wide : Bool) (v : BitVec 64) (line : Bool) (addr : Nat) (words : List (BitVec 64)) (half : Option Word) : (State.dataCycle s ag off wide v line addr words half).hamp.cells = s.hamp.cells := by unfold State.dataCycle; (repeat' split) <;> simp
@[simp] theorem State.flashCycle_hamperCells (s : State) (ag : Agent) (off : Nat) (wide : Bool) (v : BitVec 64) : (State.flashCycle s ag off wide v).hamp.cells = s.hamp.cells := by unfold State.flashCycle; (repeat' split) <;> simp
theorem execFlashUnlockFirst_hamperCells (ag : Agent) (off : Nat) (s : State) : ∀ q1, (execFlashUnlockFirst ag off s) = .next q1 → q1.hamp.cells = s.hamp.cells := by
  rintro q1 ⟨⟩; simp
theorem execFlashUnlockSecond_hamperCells (ag : Agent) (off : Nat) (s : State) : ∀ q1, (execFlashUnlockSecond ag off s) = .next q1 → q1.hamp.cells = s.hamp.cells := by
  rintro q1 ⟨⟩; simp
theorem execFlashProgramWordCmd_hamperCells (ag : Agent) (off : Nat) (s : State) : ∀ q1, (execFlashProgramWordCmd ag off s) = .next q1 → q1.hamp.cells = s.hamp.cells := by
  rintro q1 ⟨⟩; simp
theorem execFlashProgramLineCmd_hamperCells (ag : Agent) (off : Nat) (s : State) : ∀ q1, (execFlashProgramLineCmd ag off s) = .next q1 → q1.hamp.cells = s.hamp.cells := by
  rintro q1 ⟨⟩; simp
theorem execFlashDataCycle_hamperCells (ag : Agent) (off : Nat) (wide : Bool) (v : BitVec 64) (s : State) : ∀ q1, (execFlashDataCycle ag off wide v s) = .next q1 → q1.hamp.cells = s.hamp.cells := by
  rintro q1 ⟨⟩; simp
theorem execFlashEraseSetup_hamperCells (ag : Agent) (off : Nat) (s : State) : ∀ q1, (execFlashEraseSetup ag off s) = .next q1 → q1.hamp.cells = s.hamp.cells := by
  rintro q1 ⟨⟩; simp
theorem execFlashEraseConfirm_hamperCells (ag : Agent) (off : Nat) (s : State) : ∀ q1, (execFlashEraseConfirm ag off s) = .next q1 → q1.hamp.cells = s.hamp.cells := by
  rintro q1 ⟨⟩; simp
theorem execFlashSuspendCmd_hamperCells (ag : Agent) (off : Nat) (s : State) : ∀ q1, (execFlashSuspendCmd ag off s) = .next q1 → q1.hamp.cells = s.hamp.cells := by
  rintro q1 ⟨⟩; simp
theorem execFlashResumeCmd_hamperCells (ag : Agent) (off : Nat) (s : State) : ∀ q1, (execFlashResumeCmd ag off s) = .next q1 → q1.hamp.cells = s.hamp.cells := by
  rintro q1 ⟨⟩; simp
theorem execFlashReadStatusCmd_hamperCells (ag : Agent) (off : Nat) (s : State) : ∀ q1, (execFlashReadStatusCmd ag off s) = .next q1 → q1.hamp.cells = s.hamp.cells := by
  rintro q1 ⟨⟩; simp
theorem execFlashInfoEntryCmd_hamperCells (ag : Agent) (off : Nat) (s : State) : ∀ q1, (execFlashInfoEntryCmd ag off s) = .next q1 → q1.hamp.cells = s.hamp.cells := by
  rintro q1 ⟨⟩; simp
theorem execFlashReturnToRead_hamperCells (ag : Agent) (off : Nat) (s : State) : ∀ q1, (execFlashReturnToRead ag off s) = .next q1 → q1.hamp.cells = s.hamp.cells := by
  rintro q1 ⟨⟩; simp
theorem execFlashProgramDone_hamperCells (pulses : Nat) (pass : Bool) (s : State) : ∀ q1, (execFlashProgramDone pulses pass s) = .next q1 → q1.hamp.cells = s.hamp.cells := by
  intro q1 h; unfold execFlashProgramDone at h; dsimp only at h; (repeat' split at h) <;> first | (cases h; simp) | (cases h; (repeat' split) <;> simp_all)
@[simp] theorem State.spoilLogs_hamperCells (s : State) (x0 : Nat) : (State.spoilLogs s x0).hamp.cells = s.hamp.cells := by
  induction x0 generalizing s with
  | zero => simp [State.spoilLogs]
  | succ n ih => simp [State.spoilLogs, ih]
@[simp] theorem State.ledgerFail_hamperCells (s : State) : (State.ledgerFail s).hamp.cells = s.hamp.cells := by simp [State.ledgerFail]
theorem execFlashIntentRecorded_hamperCells (fails : Fin 9) (s : State) : ∀ q1, (execFlashIntentRecorded fails s) = .next q1 → q1.hamp.cells = s.hamp.cells := by
  intro q1 h; unfold execFlashIntentRecorded at h; dsimp only at h; (repeat' split at h) <;> first | (cases h; simp) | (cases h; (repeat' split) <;> simp_all)
@[simp] theorem State.opStage_hamperCells (s : State) (op : FlashOp) (st : FlashStage) : (State.opStage s op st).hamp.cells = s.hamp.cells := by simp [State.opStage]
theorem execFlashCompactionDone_hamperCells (s : State) : ∀ q1, (execFlashCompactionDone s) = .next q1 → q1.hamp.cells = s.hamp.cells := by
  intro q1 hq
  unfold execFlashCompactionDone at hq
  split at hq
  · split at hq
    · injection hq with hq; rw [← hq]
    split at hq
    · replace hq := Host.Outcome.next.inj hq
      rw [← hq, State.opStage_hamperCells, State.compact_hamperCells]
    · replace hq := Host.Outcome.next.inj hq
      rw [← hq, State.markBad_hamperCells, State.compact_hamperCells]
    · injection hq with hq; rw [← hq]
  · injection hq with hq; rw [← hq]
@[simp] theorem State.logComplete_hamperCells (s : State) (op : FlashOp) (pulses : Nat) : (State.logComplete s op pulses).hamp.cells = s.hamp.cells := by simp [State.logComplete]
theorem execFlashEraseDone_hamperCells (pulses : Nat) (pass : Bool) (s : State) : ∀ q1, (execFlashEraseDone pulses pass s) = .next q1 → q1.hamp.cells = s.hamp.cells := by
  intro q1 h; unfold execFlashEraseDone at h; dsimp only at h; (repeat' split at h) <;> first | (cases h; simp) | (cases h; (repeat' split) <;> simp_all)
@[simp] theorem State.busyRead_hamperCells (s : State) : (State.busyRead s).hamp.cells = s.hamp.cells := by simp [State.busyRead]
@[simp] theorem State.flashRead_hamperCells (s : State) (ag : Agent) (off : Nat) : (State.flashRead s ag off).2.hamp.cells = s.hamp.cells := by unfold State.flashRead; dsimp only; repeat' first | (simp; done) | split
theorem execFlashHostReadBusy_hamperCells (ag : Agent) (off : Nat) (s : State) : ∀ q1, (execFlashHostReadBusy ag off s) = .next q1 → q1.hamp.cells = s.hamp.cells := by
  intro q1 h
  have e := State.flashRead_hamperCells s ag off
  unfold execFlashHostReadBusy at h
  split at h <;> (rename_i hr; rw [hr] at e; cases h; simpa using e)
theorem execFlashStalledReadDone_hamperCells (ag : Agent) (off : Nat) (s : State) : ∀ q1, (execFlashStalledReadDone ag off s) = .next q1 → q1.hamp.cells = s.hamp.cells := by
  intro q1 h
  have e := State.flashRead_hamperCells s ag off
  unfold execFlashStalledReadDone at h
  split at h <;> (rename_i hr; rw [hr] at e; cases h; simpa using e)

/-! Keys. -/

@[simp] theorem State.blow_hamperCells (s : State) (fs : List FuseRef) : (State.blow s fs).hamp.cells = s.hamp.cells := by simp [State.blow]
@[simp] theorem State.lcRefresh_hamperCells (s : State) : (State.lcRefresh s).hamp.cells = s.hamp.cells := by simp [State.lcRefresh]
@[simp] theorem State.lcDecode_hamperCells (s : State) (agree : Bool) : (State.lcDecode s agree).hamp.cells = s.hamp.cells := by simp [State.lcDecode]
@[simp] theorem State.keyClear_hamperCells (s : State) : (State.keyClear s).hamp.cells = s.hamp.cells := by simp [State.keyClear]
@[simp] theorem State.keyLoad_hamperCells (s : State) : (State.keyLoad s).hamp.cells = s.hamp.cells := by simp [State.keyLoad]
@[simp] theorem State.zeroiseKey_hamperCells (s : State) (cause : Nat) : (State.zeroiseKey s cause).hamp.cells = s.hamp.cells := by simp [State.zeroiseKey]
@[simp] theorem State.lcResult_hamperCells (s : State) (jtag : Bool) (code : Nat) : (State.lcResult s jtag code).hamp.cells = s.hamp.cells := by simp [State.lcResult]
@[simp] theorem State.debugOpen_hamperCells (s : State) (scope : Nat) : (State.debugOpen s scope).hamp.cells = s.hamp.cells := by simp [State.debugOpen]
@[simp] theorem State.debugEnd_hamperCells (s : State) : (State.debugEnd s).hamp.cells = s.hamp.cells := by simp [State.debugEnd]

/-! Fabric. -/

@[simp] theorem State.setTileBit_hamperCells (s : State) (bay l r b : Nat) (v : Bool) : (State.setTileBit s bay l r b v).hamp.cells = s.hamp.cells := by simp [State.setTileBit]
@[simp] theorem State.setFf_hamperCells (s : State) (i : Nat) (v : Bool) : (State.setFf s i v).hamp.cells = s.hamp.cells := by simp [State.setFf]
@[simp] theorem State.initLoad_hamperCells (s : State) (bay : Nat) : (State.initLoad s bay).hamp.cells = s.hamp.cells := by
  unfold State.initLoad
  dsimp only
  rw [foldl_hamperCells]
  intro t l
  rw [foldl_hamperCells]
  intro t r
  rw [foldl_hamperCells]
  intro t c
  simp
@[simp] theorem State.tileEdge_hamperCells (s t : State) (bay l r net : Nat) (rising : Bool) (w : FabricPins) : (State.tileEdge s t bay l r net rising w).hamp.cells = t.hamp.cells := by simp [State.tileEdge]
@[simp] theorem State.cellsEdge_hamperCells (s t : State) (bay net : Nat) (rising : Bool) (w : FabricPins) : (State.cellsEdge s t bay net rising w).hamp.cells = t.hamp.cells := by simp [State.cellsEdge]
@[simp] theorem State.asyncBay_hamperCells (s t : State) (bay : Nat) (w : FabricPins) : (s.asyncBay t bay w).hamp.cells = t.hamp.cells := by
  unfold State.asyncBay
  split
  · rfl
  · apply foldl_hamperCells
    intro t l
    apply foldl_hamperCells
    intro t r
    apply foldl_hamperCells
    intro t k
    dsimp only
    split
    · apply foldl_hamperCells
      intro t i
      simp
    · rfl
@[simp] theorem State.setBridge_hamperCells (s : State) (i : Nat) (v : Word) : (State.setBridge s i v).hamp.cells = s.hamp.cells := by simp [State.setBridge]
@[simp] theorem State.groupEdge_hamperCells (s t : State) (bay net dir band row g : Nat) (w : FabricPins) : (State.groupEdge s t bay net dir band row g w).hamp.cells = t.hamp.cells := by simp [State.groupEdge]
@[simp] theorem State.bridgesEdge_hamperCells (s t : State) (bay net : Nat) (w : FabricPins) : (State.bridgesEdge s t bay net w).hamp.cells = t.hamp.cells := by simp [State.bridgesEdge]
@[simp] theorem State.setGate_hamperCells (s : State) (bay net : Nat) (shut : Bool) : (State.setGate s bay net shut).hamp.cells = s.hamp.cells := by simp [State.setGate]

/-! Creels. -/

@[simp] theorem State.setCreel_hamperCells (s : State) (n : Nat) (c : CreelSt) : (State.setCreel s n c).hamp.cells = s.hamp.cells := by simp [State.setCreel]
@[simp] theorem State.setCreelBit_hamperCells (s : State) (n nm : Nat) (v : Bool) : (State.setCreelBit s n nm v).hamp.cells = s.hamp.cells := by simp [State.setCreelBit]
@[simp] theorem State.applyWrites_hamperCells (s : State) (n : Nat) (ws : List (Nat × Bool)) : (State.applyWrites s n ws).hamp.cells = s.hamp.cells := by simp [State.applyWrites]
@[simp] theorem State.portsEdge_hamperCells (s : State) (n : Nat) (c : CreelCfg) (fa fb : Bool) (p : CreelPins) : (State.portsEdge s n c fa fb p).hamp.cells = s.hamp.cells := by simp [State.portsEdge]
@[simp] theorem State.fifoEdge_hamperCells (s : State) (n : Nat) (c : CreelCfg) (fw fr : Bool) (p : CreelPins) : (State.fifoEdge s n c fw fr p).hamp.cells = s.hamp.cells := by simp [State.fifoEdge]
@[simp] theorem State.creelEdge_hamperCells (s : State) (n net : Nat) (rising : Bool) (p : CreelPins) : (State.creelEdge s n net rising p).hamp.cells = s.hamp.cells := by simp [State.creelEdge]
@[simp] theorem State.creelsEdge_hamperCells (s : State) (bay net : Nat) (rising : Bool) (p : EdgePins) : (State.creelsEdge s bay net rising p).hamp.cells = s.hamp.cells := by simp [State.creelsEdge]
@[simp] theorem State.fifoReset_hamperCells (s : State) (bay : Nat) (p : EdgePins) : (State.fifoReset s bay p).hamp.cells = s.hamp.cells := by simp [State.fifoReset]
@[simp] theorem State.creelLoad_hamperCells (s : State) (bay : Nat) : (State.creelLoad s bay).hamp.cells = s.hamp.cells := by simp [State.creelLoad]
theorem execCreelScrubStep_hamperCells (n : Fin 11520) (s : State) : ∀ q1, (execCreelScrubStep n s) = .next q1 → q1.hamp.cells = s.hamp.cells := by
  intro q1 h; unfold execCreelScrubStep at h; dsimp only at h; (repeat' split at h) <;> first | (cases h; simp) | (cases h; (repeat' split) <;> simp_all)
theorem execCreelScrubWriteBack_hamperCells (n : Fin 11520) (s : State) : ∀ q1, (execCreelScrubWriteBack n s) = .next q1 → q1.hamp.cells = s.hamp.cells := by
  intro q1 h
  unfold execCreelScrubWriteBack at h
  split at h
  · cases h; rfl
  cases hs : (s.creel n.val).scrubWrite with
  | none => rw [hs] at h; cases h; rfl
  | some e =>
    rw [hs] at h
    injection h with h
    rw [← h, State.setCreel_hamperCells, State.applyWrites_hamperCells]

/-! Slices. -/

@[simp] theorem State.setSlice_hamperCells (s : State) (n : Nat) (v : SliceSt) : (State.setSlice s n v).hamp.cells = s.hamp.cells := by simp [State.setSlice]
@[simp] theorem State.sliceColumnEdge_hamperCells (s : State) (base net : Nat) (rising : Bool) (pins : Nat → SlicePins) : (State.sliceColumnEdge s base net rising pins).hamp.cells = s.hamp.cells := by simp [State.sliceColumnEdge]
@[simp] theorem State.slicesEdge_hamperCells (s : State) (bay net : Nat) (rising : Bool) (p : EdgePins) : (State.slicesEdge s bay net rising p).hamp.cells = s.hamp.cells := by simp [State.slicesEdge]
@[simp] theorem State.sliceLoad_hamperCells (s : State) (bay : Nat) : (State.sliceLoad s bay).hamp.cells = s.hamp.cells := by simp [State.sliceLoad]

/-! Modes. -/

@[simp] theorem State.setBoot_hamperCells (s : State) (b : BootSt) : (State.setBoot s b).hamp.cells = s.hamp.cells := by simp [State.setBoot]
@[simp] theorem State.enterMode_hamperCells (s : State) (m : Nat) : (State.enterMode s m).hamp.cells = s.hamp.cells := by simp [State.enterMode]
@[simp] theorem State.setRail_hamperCells (s : State) (r : Nat) (on : Bool) : (State.setRail s r on).hamp.cells = s.hamp.cells := by simp [State.setRail]
@[simp] theorem State.setRails_hamperCells (s : State) (rs : List Nat) (on : Bool) : (State.setRails s rs on).hamp.cells = s.hamp.cells := by simp [State.setRails]
@[simp] theorem State.setLevels_hamperCells (s : State) (a b : Nat) : (State.setLevels s a b).hamp.cells = s.hamp.cells := by simp [State.setLevels]
@[simp] theorem State.driveDone_hamperCells (s : State) (low : Bool) : (State.driveDone s low).hamp.cells = s.hamp.cells := by simp [State.driveDone]
@[simp] theorem State.fabricZero_hamperCells (s : State) : (State.fabricZero s).hamp.cells = s.hamp.cells := by simp [State.fabricZero]
@[simp] theorem State.holdDevice_hamperCells (s : State) : (State.holdDevice s).hamp.cells = s.hamp.cells := by simp [State.holdDevice]
@[simp] theorem State.clearShadows_hamperCells (s : State) : (State.clearShadows s).hamp.cells = s.hamp.cells := by simp [State.clearShadows]
@[simp] theorem State.clearConfig_hamperCells (s : State) : (State.clearConfig s).hamp.cells = s.hamp.cells := by simp [State.clearConfig]
@[simp] theorem State.clearGroups_hamperCells (s : State) : (State.clearGroups s).hamp.cells = s.hamp.cells := by simp [State.clearGroups]
@[simp] theorem State.stageRefresh_hamperCells (s : State) : (State.stageRefresh s).hamp.cells = s.hamp.cells := by simp [State.stageRefresh]
@[simp] theorem State.busDrop_hamperCells (s : State) (c : Nat) : (State.busDrop s c).hamp.cells = s.hamp.cells := by simp [State.busDrop]
@[simp] theorem State.coreReset_hamperCells (s : State) (c : Nat) : (State.coreReset s c).hamp.cells = s.hamp.cells := by simp [State.coreReset]
@[simp] theorem State.clusterHold_hamperCells (s : State) : (State.clusterHold s).hamp.cells = s.hamp.cells := by simp [State.clusterHold]
@[simp] theorem State.safeHold_hamperCells (s : State) (cause : Nat) : (State.safeHold s cause).hamp.cells = s.hamp.cells := by simp [State.safeHold]
@[simp] theorem State.prioDefer_hamperCells (s : State) (outcome : Nat) : (State.prioDefer s outcome).hamp.cells = s.hamp.cells := by simp [State.prioDefer]
@[simp] theorem State.feed_hamperCells (s : State) (at_ words : Nat) : (State.feed s at_ words).hamp.cells = s.hamp.cells := by simp [State.feed]
@[simp] theorem State.xspiStart_hamperCells (s : State) (e : BootImage) : (State.xspiStart s e).hamp.cells = s.hamp.cells := by simp [State.xspiStart]
@[simp] theorem State.attemptReads_hamperCells (s : State) (image : Nat) (prio : Bool) : (State.attemptReads s image prio).hamp.cells = s.hamp.cells := by unfold State.attemptReads; dsimp only; repeat' first | (simp; done) | split
@[simp] theorem State.nextAttempt_hamperCells (s : State) : (State.nextAttempt s).hamp.cells = s.hamp.cells := by unfold State.nextAttempt; (repeat' split) <;> simp
@[simp] theorem State.failAttempt_hamperCells (s : State) (code : Nat) (place : Word) : (State.failAttempt s code place).hamp.cells = s.hamp.cells := by simp [State.failAttempt]

/-! Hamper. -/

@[simp] theorem State.setHamp_hamperCells (s : State) (h : HampSt) : (s.setHamp h).hamp.cells = h.cells := rfl
@[simp] theorem State.hampReport_hamperCells (s : State) (agent a : Nat) (write : Bool) (sev : Nat) : (State.hampReport s agent a write sev).2.hamp.cells = s.hamp.cells := by unfold State.hampReport; (repeat' split) <;> simp
@[simp] theorem State.setHampPort_hamperCells (s : State) (n : Nat) (p : HampPortSt) : (State.setHampPort s n p).hamp.cells = s.hamp.cells := by simp [State.setHampPort]
@[simp] theorem State.hampEdge_hamperCells (s : State) (n : Nat) (pins : HampPins) : (State.hampEdge s n pins).hamp.cells = s.hamp.cells := by unfold State.hampEdge; dsimp only; repeat' first | (simp; done) | split
@[simp] theorem State.hampBayEdge_hamperCells (s : State) (bay net : Nat) (pins : HampPins) : (State.hampBayEdge s bay net pins).hamp.cells = s.hamp.cells := by unfold State.hampBayEdge; (repeat' split) <;> simp
@[simp] theorem State.hampReadDone_hamperCells (s : State) (n sev : Nat) : (State.hampReadDone s n sev).hamp.cells = s.hamp.cells := by unfold State.hampReadDone; dsimp only; repeat' first | (simp; done) | split
theorem execHamperPortRequest_hamperCells (n : Fin 32) (rq : HampRq) (s : State) : ∀ q1, (execHamperPortRequest n rq s) = .next q1 → q1.hamp.cells = s.hamp.cells := by
  rintro q1 ⟨⟩; simp
@[simp] theorem State.hampDisable_hamperCells (s : State) : (State.hampDisable s).hamp.cells = s.hamp.cells := by simp [State.hampDisable]
theorem execHamperTrainTimeout_hamperCells (s : State) : ∀ q1, (execHamperTrainTimeout s) = .next q1 → q1.hamp.cells = s.hamp.cells := by
  rintro q1 ⟨⟩; simp
@[simp] theorem State.hampTrainWrite_hamperCells (s : State) : (State.hampTrainWrite s).hamp.cells = s.hamp.cells := by simp [State.hampTrainWrite]
theorem execHamperRetrain_hamperCells (ag : Agent) (s : State) : ∀ q1, (execHamperRetrain ag s) = .next q1 → q1.hamp.cells = s.hamp.cells := by
  rintro q1 ⟨⟩; simp
theorem execHamperRetrainDrained_hamperCells (s : State) : ∀ q1, (execHamperRetrainDrained s) = .next q1 → q1.hamp.cells = s.hamp.cells := by
  rintro q1 ⟨⟩; simp
theorem execHamperDrainTimeout_hamperCells (s : State) : ∀ q1, (execHamperDrainTimeout s) = .next q1 → q1.hamp.cells = s.hamp.cells := by
  rintro q1 ⟨⟩; simp
theorem execHamperRetrainDone_hamperCells (s : State) : ∀ q1, (execHamperRetrainDone s) = .next q1 → q1.hamp.cells = s.hamp.cells := by
  rintro q1 ⟨⟩; simp
theorem execHamperTempRead_hamperCells (temp : BitVec 8) (s : State) : ∀ q1, (execHamperTempRead temp s) = .next q1 → q1.hamp.cells = s.hamp.cells := by
  rintro q1 ⟨⟩; simp
theorem execHamperRefresh_hamperCells (s : State) : ∀ q1, (execHamperRefresh s) = .next q1 → q1.hamp.cells = s.hamp.cells := by
  rintro q1 ⟨⟩; simp
@[simp] theorem State.hampSleep_hamperCells (s : State) : (State.hampSleep s).hamp.cells = s.hamp.cells := by simp [State.hampSleep]

/-! Stream. -/

@[simp] theorem State.setSt_hamperCells (s : State) (st : StreamSt) : (State.setSt s st).hamp.cells = s.hamp.cells := by simp [State.setSt]
@[simp] theorem fine_hamperCells (s : State) : (fine s).1.hamp.cells = s.hamp.cells := by simp [fine]
@[simp] theorem stop_hamperCells (s : State) (code : Nat) : (stop s code).1.hamp.cells = s.hamp.cells := by simp [stop]
@[simp] theorem State.recordErr_hamperCells (s : State) (src : Nat) (h : Word) (pos : Nat) (e : StreamErr) : (State.recordErr s src h pos e).hamp.cells = s.hamp.cells := by simp [State.recordErr]
@[simp] theorem State.leaveGroup_hamperCells (s : State) (g bays edge : Nat) : (State.leaveGroup s g bays edge).hamp.cells = s.hamp.cells := by simp [State.leaveGroup]
@[simp] theorem State.joinGroup_hamperCells (s : State) (g bays edge : Nat) : (State.joinGroup s g bays edge).hamp.cells = s.hamp.cells := by simp [State.joinGroup]
@[simp] theorem State.setUnits_hamperCells (s : State) (us : List Nat) (v : Nat) : (State.setUnits s us v).hamp.cells = s.hamp.cells := by simp [State.setUnits]
@[simp] theorem State.dropStaging_hamperCells (s : State) (g bays edge code : Nat) : (State.dropStaging s g bays edge code).hamp.cells = s.hamp.cells := by simp [State.dropStaging]
@[simp] theorem State.logShow_hamperCells (s : State) : (State.logShow s).hamp.cells = s.hamp.cells := by unfold State.logShow; (repeat' split) <;> simp
@[simp] theorem State.pntLog_hamperCells (s : State) (e : LogEntry) : (State.pntLog s e).hamp.cells = s.hamp.cells := by simp [State.pntLog]
@[simp] theorem State.reloadStart_hamperCells (s : State) (bay : Nat) : (State.reloadStart s bay).hamp.cells = s.hamp.cells := by simp [State.reloadStart]
@[simp] theorem State.reloadNext_hamperCells (s : State) : (State.reloadNext s).hamp.cells = s.hamp.cells := by unfold State.reloadNext; (repeat' split) <;> simp
@[simp] theorem State.reloadFail_hamperCells (s : State) (code : Nat) : (State.reloadFail s code).hamp.cells = s.hamp.cells := by unfold State.reloadFail; (repeat' split) <;> simp
@[simp] theorem State.streamError_hamperCells (s : State) (src : Nat) (h : Word) (pos : Nat) (e : StreamErr) : (State.streamError s src h pos e).hamp.cells = s.hamp.cells := by simp [State.streamError]
@[simp] theorem State.writeIdcode_hamperCells (s : State) (v : Word) : (State.writeIdcode s v).1.hamp.cells = s.hamp.cells := by simp [State.writeIdcode]
@[simp] theorem State.writeForm_hamperCells (s : State) (v : Word) : (State.writeForm s v).1.hamp.cells = s.hamp.cells := by simp [State.writeForm]
@[simp] theorem State.writeKeysel_hamperCells (s : State) (v : Word) : (State.writeKeysel s v).1.hamp.cells = s.hamp.cells := by simp [State.writeKeysel]
@[simp] theorem State.writeSid_hamperCells (s : State) (v : Word) : (State.writeSid s v).1.hamp.cells = s.hamp.cells := by simp [State.writeSid]
@[simp] theorem State.writeIv_hamperCells (s : State) (ws : List Word) : (State.writeIv s ws).1.hamp.cells = s.hamp.cells := by simp [State.writeIv]
@[simp] theorem State.writeBodylen_hamperCells (s : State) (v : Word) : (State.writeBodylen s v).1.hamp.cells = s.hamp.cells := by simp [State.writeBodylen]
@[simp] theorem State.writeBound_hamperCells (s : State) (ws : List Word) : (State.writeBound s ws).1.hamp.cells = s.hamp.cells := by simp [State.writeBound]
@[simp] theorem State.writeGroup_hamperCells (s : State) (v : Word) : (State.writeGroup s v).1.hamp.cells = s.hamp.cells := by simp [State.writeGroup]
@[simp] theorem State.writePlfloor_hamperCells (s : State) (v : Word) : (State.writePlfloor s v).1.hamp.cells = s.hamp.cells := by simp [State.writePlfloor]
@[simp] theorem State.writeClkset_hamperCells (s : State) (ws : List Word) : (State.writeClkset s ws).1.hamp.cells = s.hamp.cells := by unfold State.writeClkset; dsimp only; repeat' first | (simp; done) | split
@[simp] theorem State.dropWriteBack_hamperCells (s : State) (hit : Nat → Bool) : (State.dropWriteBack s hit).hamp.cells = s.hamp.cells := by simp [State.dropWriteBack]
@[simp] theorem State.stageAccept_hamperCells (s : State) (src : Nat) : (State.stageAccept s src).hamp.cells = s.hamp.cells := by simp [State.stageAccept]
@[simp] theorem State.doStage_hamperCells (s : State) (src : Nat) : (State.doStage s src).1.hamp.cells = s.hamp.cells := by unfold State.doStage; (repeat' split) <;> simp
@[simp] theorem State.doFinish_hamperCells (s : State) : (State.doFinish s).1.hamp.cells = s.hamp.cells := by simp [State.doFinish]
@[simp] theorem State.writeStep_hamperCells (s : State) (src : Nat) (v : Word) : (State.writeStep s src v).1.hamp.cells = s.hamp.cells := by unfold State.writeStep; (repeat' split) <;> simp
@[simp] theorem State.writePlace_hamperCells (s : State) (v : Word) : (State.writePlace s v).1.hamp.cells = s.hamp.cells := by simp [State.writePlace]
@[simp] theorem State.contentStep_hamperCells (s : State) (dyn : Bool) (f : BitVec 10240) : (State.contentStep s dyn f).1.hamp.cells = s.hamp.cells := by simp [State.contentStep]
@[simp] theorem State.structStep_hamperCells (s : State) (dyn : Bool) (f : BitVec 10240) : (State.structStep s dyn f).1.hamp.cells = s.hamp.cells := by unfold State.structStep; dsimp only; repeat' first | (simp; done) | split
@[simp] theorem State.writeFrames_hamperCells (s : State) (h : Word) (pos : Nat) (x0 : List (BitVec 10240)) : (State.writeFrames s h pos x0).1.hamp.cells = s.hamp.cells := by
  induction x0 generalizing s with
  | nil => rfl
  | cons f fs ih =>
    unfold State.writeFrames
    dsimp only
    split
    · rfl
    split
    · rfl
    split
    · rfl
    by_cases hk : plKind s.st.place = 1 <;> simp only [hk, if_true, if_false] <;> split <;> simp [ih]
@[simp] theorem State.doFrames_hamperCells (s : State) (h : Word) (d : List Word) : (State.doFrames s h d).1.hamp.cells = s.hamp.cells := by unfold State.doFrames; (repeat' split) <;> simp
@[simp] theorem State.doBody_hamperCells (s : State) : (State.doBody s).1.hamp.cells = s.hamp.cells := by simp [State.doBody]
@[simp] theorem State.clksetApply_hamperCells (s : State) : (State.clksetApply s).hamp.cells = s.hamp.cells := by simp [State.clksetApply]
@[simp] theorem State.checkPassed_hamperCells (s : State) (src : Nat) : (State.checkPassed s src).hamp.cells = s.hamp.cells := by simp [State.checkPassed]
@[simp] theorem State.writeSeal_hamperCells (s : State) (src : Nat) (ws : List Word) : (State.writeSeal s src ws).1.hamp.cells = s.hamp.cells := by simp [State.writeSeal]
@[simp] theorem State.writeCrcv_hamperCells (s : State) (src crc : Nat) (v : Word) : (State.writeCrcv s src crc v).1.hamp.cells = s.hamp.cells := by simp [State.writeCrcv]
@[simp] theorem State.readFrames_hamperCells (s : State) (acc : List Word) (x0 : Nat) : (State.readFrames s acc x0).1.hamp.cells = s.hamp.cells := by
  induction x0 generalizing s acc with
  | zero => simp [State.readFrames]
  | succ n ih => simp [State.readFrames, ih]
@[simp] theorem State.refillReturn_hamperCells (s : State) (p : Fin 2) : (State.refillReturn s p).hamp.cells = s.hamp.cells := by simp [State.refillReturn]
@[simp] theorem State.returnWords_hamperCells (s : State) (src : Nat) (ws : List Word) : (State.returnWords s src ws).hamp.cells = s.hamp.cells := by unfold State.returnWords; (repeat' split) <;> simp
@[simp] theorem State.doRead_hamperCells (s : State) (src reg n : Nat) : (State.doRead s src reg n).1.hamp.cells = s.hamp.cells := by unfold State.doRead; (repeat' split) <;> simp
@[simp] theorem State.doSection_hamperCells (s : State) (d : List Word) : (State.doSection s d).1.hamp.cells = s.hamp.cells := by simp [State.doSection]
@[simp] theorem State.doEnd_hamperCells (s : State) : (State.doEnd s).1.hamp.cells = s.hamp.cells := by unfold State.doEnd; (repeat' split) <;> simp
@[simp] theorem State.doWrite_hamperCells (s : State) (src crc : Nat) (h : Word) (d : List Word) : (State.doWrite s src crc h d).1.hamp.cells = s.hamp.cells := by unfold State.doWrite; (repeat' split) <;> simp
@[simp] theorem State.dispatchPacket_hamperCells (s : State) (src crc : Nat) (h : Word) (d : List Word) : (State.dispatchPacket s src crc h d).1.hamp.cells = s.hamp.cells := by unfold State.dispatchPacket; dsimp only; repeat' first | (simp; done) | split
@[simp] theorem State.actPacket_hamperCells (s : State) (src : Nat) (h : Word) (d : List Word) : (State.actPacket s src h d).1.hamp.cells = s.hamp.cells := by unfold State.actPacket; dsimp only; repeat' first | (simp; done) | split
@[simp] theorem State.sectionTake_hamperCells (s : State) (n : Nat) : (State.sectionTake s n).hamp.cells = s.hamp.cells := by simp [State.sectionTake]
@[simp] theorem State.afterError_hamperCells (s : State) (e : StreamErr) : (State.afterError s e).hamp.cells = s.hamp.cells := by simp [State.afterError]
@[simp] theorem State.sectionShort_hamperCells (s : State) (src : Nat) (h : Word) (pos : Nat) : (State.sectionShort s src h pos).hamp.cells = s.hamp.cells := by simp [State.sectionShort]
@[simp] theorem State.passOver_hamperCells (s : State) (n : Nat) : (State.passOver s n).hamp.cells = s.hamp.cells := by simp [State.passOver]
@[simp] theorem State.restPacket_hamperCells (s : State) (h : Word) (d : List Word) : (State.restPacket s h d).hamp.cells = s.hamp.cells := by simp [State.restPacket]
@[simp] theorem State.sectionStep_hamperCells (s : State) (src n : Nat) : (State.sectionStep s src n).hamp.cells = s.hamp.cells := by simp [State.sectionStep]
@[simp] theorem State.streamPacket_hamperCells (s : State) (src : Nat) (h : Word) (d : List Word) : (State.streamPacket s src h d).hamp.cells = s.hamp.cells := by unfold State.streamPacket; dsimp only; repeat' first | (simp; done) | split
@[simp] theorem State.enginePacket_hamperCells (s : State) (src : Nat) (h : Word) (d : List Word) : (State.enginePacket s src h d).hamp.cells = s.hamp.cells := by unfold State.enginePacket; dsimp only; repeat' first | (simp; done) | split
@[simp] theorem State.engineSync_hamperCells (s : State) (src : Nat) : (State.engineSync s src).hamp.cells = s.hamp.cells := by unfold State.engineSync; (repeat' split) <;> simp
@[simp] theorem State.engineIdle_hamperCells (s : State) : (State.engineIdle s).hamp.cells = s.hamp.cells := by simp [State.engineIdle]
@[simp] theorem State.loadSourceEnd_hamperCells (s : State) (src : Nat) : (State.loadSourceEnd s src).hamp.cells = s.hamp.cells := by unfold State.loadSourceEnd; dsimp only; repeat' first | (simp; done) | split
@[simp] theorem State.partSourceEnd_hamperCells (s : State) (src : Nat) : (State.partSourceEnd s src).hamp.cells = s.hamp.cells := by unfold State.partSourceEnd; dsimp only; repeat' first | (simp; done) | split
@[simp] theorem State.sourceReset_hamperCells (s : State) (src : Nat) : (State.sourceReset s src).hamp.cells = s.hamp.cells := by unfold State.sourceReset; (repeat' split) <;> simp
@[simp] theorem State.engineSourceEnd_hamperCells (s : State) : (State.engineSourceEnd s).hamp.cells = s.hamp.cells := by unfold State.engineSourceEnd; (repeat' split) <;> simp_all
@[simp] theorem State.windowTake_hamperCells (s : State) (src n : Nat) : (State.windowTake s src n).hamp.cells = s.hamp.cells := by unfold State.windowTake; (repeat' split) <;> simp
@[simp] theorem State.sourceDrain_hamperCells (s : State) (src : Nat) : (State.sourceDrain s src).hamp.cells = s.hamp.cells := by simp [State.sourceDrain]
@[simp] theorem State.spentEnd_hamperCells (s : State) (src : Nat) : (State.spentEnd s src).hamp.cells = s.hamp.cells := by simp [State.spentEnd]
@[simp] theorem State.sourceEnded_hamperCells (s : State) (src : Nat) : (State.sourceEnded s src).hamp.cells = s.hamp.cells := by unfold State.sourceEnded; (repeat' split) <;> simp
@[simp] theorem State.engineTake_hamperCells (s : State) (src : Nat) (i : EngItem) : (State.engineTake s src i).hamp.cells = s.hamp.cells := by unfold State.engineTake; (repeat' split) <;> simp
@[simp] theorem State.engineDrain_hamperCells (s : State) (x0 : List EngItem) : (State.engineDrain s x0).hamp.cells = s.hamp.cells := by
  induction x0 generalizing s with
  | nil => simp [State.engineDrain]
  | cons a l ih => unfold State.engineDrain; (repeat' split) <;> simp [ih]
@[simp] theorem State.engineResume_hamperCells (s : State) : (State.engineResume s).hamp.cells = s.hamp.cells := by unfold State.engineResume; dsimp only; repeat' first | (simp; done) | split
@[simp] theorem State.unopened_hamperCells (s : State) : (State.unopened s).hamp.cells = s.hamp.cells := by simp [State.unopened]
@[simp] theorem State.deliver_hamperCells (s : State) (i : EngItem) : (State.deliver s i).hamp.cells = s.hamp.cells := by unfold State.deliver; (repeat' split) <;> simp
@[simp] theorem State.keyLost_hamperCells (s : State) : (State.keyLost s).hamp.cells = s.hamp.cells := by unfold State.keyLost; (repeat' split) <;> simp
theorem execSyncWord_hamperCells (s : State) : ∀ q1, (execSyncWord s) = .next q1 → q1.hamp.cells = s.hamp.cells := by
  rintro q1 ⟨⟩; simp
theorem execPacketBadHeader_hamperCells (h : Word) (s : State) : ∀ q1, (execPacketBadHeader h s) = .next q1 → q1.hamp.cells = s.hamp.cells := by
  rintro q1 ⟨⟩; simp
theorem execNop_hamperCells (s : State) : ∀ q1, (execNop s) = .next q1 → q1.hamp.cells = s.hamp.cells := by
  rintro q1 ⟨⟩; simp
theorem execWriteIdcode_hamperCells (ws : List Word) (s : State) : ∀ q1, (execWriteIdcode ws s) = .next q1 → q1.hamp.cells = s.hamp.cells := by
  rintro q1 ⟨⟩; simp
theorem execWriteForm_hamperCells (ws : List Word) (s : State) : ∀ q1, (execWriteForm ws s) = .next q1 → q1.hamp.cells = s.hamp.cells := by
  rintro q1 ⟨⟩; simp
theorem execWriteKeysel_hamperCells (ws : List Word) (s : State) : ∀ q1, (execWriteKeysel ws s) = .next q1 → q1.hamp.cells = s.hamp.cells := by
  rintro q1 ⟨⟩; simp
theorem execWriteSid_hamperCells (ws : List Word) (s : State) : ∀ q1, (execWriteSid ws s) = .next q1 → q1.hamp.cells = s.hamp.cells := by
  rintro q1 ⟨⟩; simp
theorem execWriteIv_hamperCells (ws : List Word) (s : State) : ∀ q1, (execWriteIv ws s) = .next q1 → q1.hamp.cells = s.hamp.cells := by
  rintro q1 ⟨⟩; simp
theorem execWriteBodylen_hamperCells (ws : List Word) (s : State) : ∀ q1, (execWriteBodylen ws s) = .next q1 → q1.hamp.cells = s.hamp.cells := by
  rintro q1 ⟨⟩; simp
theorem execWriteBound_hamperCells (ws : List Word) (s : State) : ∀ q1, (execWriteBound ws s) = .next q1 → q1.hamp.cells = s.hamp.cells := by
  rintro q1 ⟨⟩; simp
theorem execWriteGroup_hamperCells (ws : List Word) (s : State) : ∀ q1, (execWriteGroup ws s) = .next q1 → q1.hamp.cells = s.hamp.cells := by
  rintro q1 ⟨⟩; simp
theorem execWritePlfloor_hamperCells (ws : List Word) (s : State) : ∀ q1, (execWritePlfloor ws s) = .next q1 → q1.hamp.cells = s.hamp.cells := by
  rintro q1 ⟨⟩; simp
theorem execWriteClkset_hamperCells (ws : List Word) (s : State) : ∀ q1, (execWriteClkset ws s) = .next q1 → q1.hamp.cells = s.hamp.cells := by
  rintro q1 ⟨⟩; simp
theorem execStepNone_hamperCells (v : Word) (s : State) : ∀ q1, (execStepNone v s) = .next q1 → q1.hamp.cells = s.hamp.cells := by
  rintro q1 ⟨⟩; simp
theorem execStepStage_hamperCells (s : State) : ∀ q1, (execStepStage s) = .next q1 → q1.hamp.cells = s.hamp.cells := by
  rintro q1 ⟨⟩; simp
theorem execStageClearDone_hamperCells (s : State) : ∀ q1, (execStageClearDone s) = .next q1 → q1.hamp.cells = s.hamp.cells := by
  rintro q1 ⟨⟩; simp
theorem execStepFinish_hamperCells (s : State) : ∀ q1, (execStepFinish s) = .next q1 → q1.hamp.cells = s.hamp.cells := by
  rintro q1 ⟨⟩; simp
theorem execStepAbort_hamperCells (s : State) : ∀ q1, (execStepAbort s) = .next q1 → q1.hamp.cells = s.hamp.cells := by
  rintro q1 ⟨⟩; simp
theorem execWritePlace_hamperCells (ws : List Word) (s : State) : ∀ q1, (execWritePlace ws s) = .next q1 → q1.hamp.cells = s.hamp.cells := by
  rintro q1 ⟨⟩; simp
theorem execWriteFrames_hamperCells (dyn : Bool) (ws : List Word) (s : State) : ∀ q1, (execWriteFrames dyn ws s) = .next q1 → q1.hamp.cells = s.hamp.cells := by
  rintro q1 ⟨⟩; simp
theorem execZero_hamperCells (dyn : Bool) (n : BitVec 20) (s : State) : ∀ q1, (execZero dyn n s) = .next q1 → q1.hamp.cells = s.hamp.cells := by
  rintro q1 ⟨⟩; simp
theorem execRepeat_hamperCells (dyn : Bool) (n : BitVec 20) (s : State) : ∀ q1, (execRepeat dyn n s) = .next q1 → q1.hamp.cells = s.hamp.cells := by
  rintro q1 ⟨⟩; simp
theorem execPatch_hamperCells (dyn : Bool) (ps : List (Word × Word)) (s : State) : ∀ q1, (execPatch dyn ps s) = .next q1 → q1.hamp.cells = s.hamp.cells := by
  rintro q1 ⟨⟩; simp
theorem execBody_hamperCells (s : State) : ∀ q1, (execBody s) = .next q1 → q1.hamp.cells = s.hamp.cells := by
  rintro q1 ⟨⟩; simp
theorem execWriteSeal_hamperCells (ws : List Word) (s : State) : ∀ q1, (execWriteSeal ws s) = .next q1 → q1.hamp.cells = s.hamp.cells := by
  rintro q1 ⟨⟩; simp
theorem execWriteCrcv_hamperCells (ws : List Word) (s : State) : ∀ q1, (execWriteCrcv ws s) = .next q1 → q1.hamp.cells = s.hamp.cells := by
  rintro q1 ⟨⟩; simp
theorem execReadFrames_hamperCells (n : BitVec 20) (s : State) : ∀ q1, (execReadFrames n s) = .next q1 → q1.hamp.cells = s.hamp.cells := by
  rintro q1 ⟨⟩; simp
theorem execReadPlace_hamperCells (s : State) : ∀ q1, (execReadPlace s) = .next q1 → q1.hamp.cells = s.hamp.cells := by
  rintro q1 ⟨⟩; simp
theorem execReadStat_hamperCells (s : State) : ∀ q1, (execReadStat s) = .next q1 → q1.hamp.cells = s.hamp.cells := by
  rintro q1 ⟨⟩; simp
theorem execSection_hamperCells (sel len : Word) (s : State) : ∀ q1, (execSection sel len s) = .next q1 → q1.hamp.cells = s.hamp.cells := by
  rintro q1 ⟨⟩; simp
theorem execEnd_hamperCells (s : State) : ∀ q1, (execEnd s) = .next q1 → q1.hamp.cells = s.hamp.cells := by
  rintro q1 ⟨⟩; simp
theorem execStreamSourceEnd_hamperCells (s : State) : ∀ q1, (execStreamSourceEnd s) = .next q1 → q1.hamp.cells = s.hamp.cells := by
  rintro q1 ⟨⟩; simp
theorem execUnopenedSourceWords_hamperCells (s : State) : ∀ q1, (execUnopenedSourceWords s) = .next q1 → q1.hamp.cells = s.hamp.cells := by
  rintro q1 ⟨⟩; simp
@[simp] theorem State.lockWaitEnd_hamperCells (s : State) : (State.lockWaitEnd s).hamp.cells = s.hamp.cells := by simp [State.lockWaitEnd]
theorem execClksetLockWaitEnd_hamperCells (s : State) : ∀ q1, (execClksetLockWaitEnd s) = .next q1 → q1.hamp.cells = s.hamp.cells := by
  rintro q1 ⟨⟩; simp

/-! Staged. -/

@[simp] theorem State.openSource_hamperCells (s : State) (c : Nat) : (State.openSource s c).hamp.cells = s.hamp.cells := by simp [State.openSource]
theorem execPsrcOpen_hamperCells (ag : Agent) (c : Fin 8) (s : State) : ∀ q1, (execPsrcOpen ag c s) = .next q1 → q1.hamp.cells = s.hamp.cells := by
  rintro q1 ⟨⟩; simp
@[simp] theorem State.logFrame_hamperCells (s : State) (latch key bit kind action : Nat) (time : Word) : (State.logFrame s latch key bit kind action time).hamp.cells = s.hamp.cells := by simp [State.logFrame]
@[simp] theorem State.entryRead_hamperCells (s : State) (latch key : Nat) (entry : Fin 4) : (State.entryRead s latch key entry).hamp.cells = s.hamp.cells := by unfold State.entryRead; (repeat' split) <;> simp
@[simp] theorem State.entriesRead_hamperCells (s : State) (bays edge : Nat) (es : EntryErrs) : (State.entriesRead s bays edge es).hamp.cells = s.hamp.cells := by simp [State.entriesRead]
@[simp] theorem State.upsetShadow_hamperCells (s : State) (bays edge : Nat) (us : Upsets) : (State.upsetShadow s bays edge us).hamp.cells = s.hamp.cells := by simp [State.upsetShadow]
@[simp] theorem State.cgResult_hamperCells (s : State) (g code : Nat) : (State.cgResult s g code).hamp.cells = s.hamp.cells := by simp [State.cgResult]
@[simp] theorem State.cgDisarm_hamperCells (s : State) (g : Nat) : (State.cgDisarm s g).hamp.cells = s.hamp.cells := by simp [State.cgDisarm]
@[simp] theorem State.cgArm_hamperCells (s : State) (g : Nat) (revert : Bool) : (State.cgArm s g revert).hamp.cells = s.hamp.cells := by unfold State.cgArm; (repeat' split) <;> simp
@[simp] theorem State.leaveLast_hamperCells (s : State) (keep bays edge : Nat) : (State.leaveLast s keep bays edge).hamp.cells = s.hamp.cells := by simp [State.leaveLast]
@[simp] theorem State.cgCancel_hamperCells (s : State) (g : Nat) : (State.cgCancel s g).hamp.cells = s.hamp.cells := by simp [State.cgCancel]
@[simp] theorem State.abortInto_hamperCells (s : State) (g : Nat) : (State.abortInto s g).hamp.cells = s.hamp.cells := by unfold State.abortInto; (repeat' split) <;> simp
@[simp] theorem State.cgDiscard_hamperCells (s : State) (g : Nat) : (State.cgDiscard s g).hamp.cells = s.hamp.cells := by simp [State.cgDiscard]
@[simp] theorem State.cgCtlWrite_hamperCells (s : State) (g : Nat) (v : Word) : (State.cgCtlWrite s g v).hamp.cells = s.hamp.cells := by simp [State.cgCtlWrite]
theorem execCgArmCommit_hamperCells (ag : Agent) (g : Fin 8) (s : State) : ∀ q1, (execCgArmCommit ag g s) = .next q1 → q1.hamp.cells = s.hamp.cells := by
  rintro q1 ⟨⟩; simp
theorem execCgArmRevert_hamperCells (ag : Agent) (g : Fin 8) (s : State) : ∀ q1, (execCgArmRevert ag g s) = .next q1 → q1.hamp.cells = s.hamp.cells := by
  rintro q1 ⟨⟩; simp
theorem execCgDisarm_hamperCells (ag : Agent) (g : Fin 8) (mode : Bool) (s : State) : ∀ q1, (execCgDisarm ag g mode s) = .next q1 → q1.hamp.cells = s.hamp.cells := by
  rintro q1 ⟨⟩; simp
theorem execCgDiscard_hamperCells (ag : Agent) (g : Fin 8) (mode : Bool) (s : State) : ∀ q1, (execCgDiscard ag g mode s) = .next q1 → q1.hamp.cells = s.hamp.cells := by
  rintro q1 ⟨⟩; simp
theorem execCgDeadlineExpiry_hamperCells (g : Fin 8) (s : State) : ∀ q1, (execCgDeadlineExpiry g s) = .next q1 → q1.hamp.cells = s.hamp.cells := by
  rintro q1 ⟨⟩; simp
@[simp] theorem State.shadowLost_hamperCells (s : State) (u : Nat) : (State.shadowLost s u).hamp.cells = s.hamp.cells := by simp [State.shadowLost]
@[simp] theorem State.setDw_hamperCells (s : State) (d : DwSt) : (State.setDw s d).hamp.cells = s.hamp.cells := by simp [State.setDw]
@[simp] theorem State.dwLose_hamperCells (s : State) (us : List Nat) : (State.dwLose s us).hamp.cells = s.hamp.cells := by simp [State.dwLose]
@[simp] theorem State.dwRefuse_hamperCells (s : State) (c : Nat) : (State.dwRefuse s c).hamp.cells = s.hamp.cells := by simp [State.dwRefuse]
@[simp] theorem State.dwPlace_hamperCells (s : State) (p : Word) : (State.dwPlace s p).hamp.cells = s.hamp.cells := by simp [State.dwPlace]
@[simp] theorem State.dwData_hamperCells (s : State) (w : Word) : (State.dwData s w).hamp.cells = s.hamp.cells := by unfold State.dwData; dsimp only; repeat' first | (simp; done) | split
@[simp] theorem State.dwCtl_hamperCells (s : State) (v : Word) : (State.dwCtl s v).hamp.cells = s.hamp.cells := by simp [State.dwCtl]
theorem execDwPlaceWrite_hamperCells (ag : Agent) (p : Word) (s : State) : ∀ q1, (execDwPlaceWrite ag p s) = .next q1 → q1.hamp.cells = s.hamp.cells := by
  rintro q1 ⟨⟩; simp
theorem execDwDataWrite_hamperCells (ag : Agent) (w : Word) (s : State) : ∀ q1, (execDwDataWrite ag w s) = .next q1 → q1.hamp.cells = s.hamp.cells := by
  rintro q1 ⟨⟩; simp
theorem execDwApply_hamperCells (ag : Agent) (bsel : Fin 64) (s : State) : ∀ q1, (execDwApply ag bsel s) = .next q1 → q1.hamp.cells = s.hamp.cells := by
  rintro q1 ⟨⟩; simp
theorem execDwClearBuffer_hamperCells (ag : Agent) (bsel : Fin 64) (s : State) : ∀ q1, (execDwClearBuffer ag bsel s) = .next q1 → q1.hamp.cells = s.hamp.cells := by
  rintro q1 ⟨⟩; simp
@[simp] theorem State.dwLatch_hamperCells (s : State) (src : Nat) : (State.dwLatch s src).hamp.cells = s.hamp.cells := by simp [State.dwLatch]
@[simp] theorem State.dwDeliver_hamperCells (s : State) (src : Nat) : (State.dwDeliver s src).hamp.cells = s.hamp.cells := by simp [State.dwDeliver]
theorem execDwApplyEnd_hamperCells (s : State) : ∀ q1, (execDwApplyEnd s) = .next q1 → q1.hamp.cells = s.hamp.cells := by
  rintro q1 ⟨⟩; simp
@[simp] theorem State.beginCommit_hamperCells (s : State) (c : Commit) : (State.beginCommit s c).hamp.cells = s.hamp.cells := by simp [State.beginCommit]
@[simp] theorem State.holdPorts_hamperCells (s : State) (bay : Nat) : (State.holdPorts s bay).hamp.cells = s.hamp.cells := by simp [State.holdPorts]
@[simp] theorem State.gwFlush_hamperCells (s : State) (bay : Nat) : (State.gwFlush s bay).hamp.cells = s.hamp.cells := by unfold State.gwFlush; (repeat' split) <;> simp
@[simp] theorem State.gwSems_hamperCells (s : State) : (State.gwSems s).hamp.cells = s.hamp.cells := by simp [State.gwSems]
@[simp] theorem State.stakeSwitch_hamperCells (s : State) (bay : Nat) : (State.stakeSwitch s bay).hamp.cells = s.hamp.cells := by simp [State.stakeSwitch]
@[simp] theorem State.bayInit_hamperCells (s : State) (bay : Nat) : (State.bayInit s bay).hamp.cells = s.hamp.cells := by simp [State.bayInit]
@[simp] theorem State.commitUnit_hamperCells (s : State) (u : Nat) : (State.commitUnit s u).hamp.cells = s.hamp.cells := by simp [State.commitUnit]
@[simp] theorem State.lanesCentre_hamperCells (s : State) (k : Nat) : (State.lanesCentre s k).hamp.cells = s.hamp.cells := by simp [State.lanesCentre]
@[simp] theorem State.releaseUnits_hamperCells (s : State) (us : List Nat) : (State.releaseUnits s us).hamp.cells = s.hamp.cells := by simp [State.releaseUnits]
@[simp] theorem State.setLast_hamperCells (s : State) (g bays edge : Nat) : (State.setLast s g bays edge).hamp.cells = s.hamp.cells := by simp [State.setLast]
@[simp] theorem State.dropCommit_hamperCells (s : State) (c : Commit) : (State.dropCommit s c).hamp.cells = s.hamp.cells := by simp [State.dropCommit]
@[simp] theorem State.becomePrevious_hamperCells (s : State) (us : List Nat) : (State.becomePrevious s us).hamp.cells = s.hamp.cells := by simp [State.becomePrevious]
@[simp] theorem State.reloadUnheld_hamperCells (s : State) (us : List Nat) : (State.reloadUnheld s us).hamp.cells = s.hamp.cells := by unfold State.reloadUnheld; (repeat' split) <;> simp
@[simp] theorem State.groupRelease_hamperCells (s : State) (c : Commit) : (State.groupRelease s c).hamp.cells = s.hamp.cells := by simp [State.groupRelease]
@[simp] theorem State.reloadRelease_hamperCells (s : State) (c : Commit) : (State.reloadRelease s c).hamp.cells = s.hamp.cells := by unfold State.reloadRelease; dsimp only; repeat' first | (simp; done) | split
theorem execCommitRelease_hamperCells (g : Fin 9) (s : State) : ∀ q1, (execCommitRelease g s) = .next q1 → q1.hamp.cells = s.hamp.cells := by
  rintro q1 ⟨⟩; (repeat' split) <;> simp
@[simp] theorem State.groupLatch_hamperCells (s : State) (src g : Nat) (wale : Bool) : (State.groupLatch s src g wale).hamp.cells = s.hamp.cells := by simp [State.groupLatch]
@[simp] theorem State.setFloors_hamperCells (s : State) (bays : Nat) (v : Word) : (State.setFloors s bays v).hamp.cells = s.hamp.cells := by simp [State.setFloors]
@[simp] theorem State.panelFire_hamperCells (s : State) (g : Nat) : (State.panelFire s g).hamp.cells = s.hamp.cells := by simp [State.panelFire]
@[simp] theorem State.verifyPass_hamperCells (s : State) (j : VerifyJob) : (State.verifyPass s j).hamp.cells = s.hamp.cells := by simp [State.verifyPass]
@[simp] theorem State.verifyFail_hamperCells (s : State) (j : VerifyJob) (key : Nat) : (State.verifyFail s j key).hamp.cells = s.hamp.cells := by simp [State.verifyFail]
@[simp] theorem State.loadVerifyEnd_hamperCells (s : State) (j : PartJob) (prio : Bool) : (State.loadVerifyEnd s j prio).hamp.cells = s.hamp.cells := by unfold State.loadVerifyEnd; (repeat' split) <;> simp
@[simp] theorem State.passRead_hamperCells (s : State) (bays edge : Nat) (us : Upsets) (es : EntryErrs) : (State.passRead s bays edge us es).hamp.cells = s.hamp.cells := by simp [State.passRead]
@[simp] theorem State.verifyEnd_hamperCells (s : State) (us : Upsets) (es : EntryErrs) : (State.verifyEnd s us es).hamp.cells = s.hamp.cells := by unfold State.verifyEnd; dsimp only; repeat' first | (simp; done) | split
theorem execStagedVerifyEnd_hamperCells (us : PassErrs) (s : State) : ∀ q1, (execStagedVerifyEnd us s) = .next q1 → q1.hamp.cells = s.hamp.cells := by
  rintro q1 ⟨⟩; simp
@[simp] theorem State.revertVerifyEnd_hamperCells (s : State) (g : Nat) (us : Upsets) (es : EntryErrs) : (State.revertVerifyEnd s g us es).hamp.cells = s.hamp.cells := by simp [State.revertVerifyEnd]
theorem execRevertVerifyEnd_hamperCells (g : Fin 8) (us : PassErrs) (s : State) : ∀ q1, (execRevertVerifyEnd g us s) = .next q1 → q1.hamp.cells = s.hamp.cells := by
  rintro q1 ⟨⟩; simp
@[simp] theorem State.isoRefresh_hamperCells (s : State) (g : Nat) : (State.isoRefresh s g).hamp.cells = s.hamp.cells := by simp [State.isoRefresh]
@[simp] theorem State.pctlWrite_hamperCells (s : State) (g : Nat) (v : Word) : (State.pctlWrite s g v).hamp.cells = s.hamp.cells := by simp [State.pctlWrite]
theorem execPanelIsoWrite_hamperCells (ag : Agent) (g : Fin 8) (v : Word) (s : State) : ∀ q1, (execPanelIsoWrite ag g v s) = .next q1 → q1.hamp.cells = s.hamp.cells := by
  rintro q1 ⟨⟩; simp
theorem execPisoChange_hamperCells (g : Fin 8) (level : Bool) (s : State) : ∀ q1, (execPisoChange g level s) = .next q1 → q1.hamp.cells = s.hamp.cells := by
  rintro q1 ⟨⟩; simp
@[simp] theorem State.groupWrite_hamperCells (s : State) (off : Nat) (v : Word) (g k : Nat) : (State.groupWrite s off v g k).hamp.cells = s.hamp.cells := by unfold State.groupWrite; (repeat' split) <;> simp
@[simp] theorem State.cfgWrite_hamperCells (s : State) (off : Nat) (v : Word) : (State.cfgWrite s off v).hamp.cells = s.hamp.cells := by
  rw [State.cfgWrite]
  simp only [hamperCells_ite, State.openSource_hamperCells, State.dwPlace_hamperCells, State.dwData_hamperCells, State.dwCtl_hamperCells, State.groupWrite_hamperCells,
    State.plainWrite_hamperCells, ite_self]

/-! Pointing. -/

@[simp] theorem State.setShadowPos_hamperCells (s : State) (w n : Nat) : (State.setShadowPos s w n).hamp.cells = s.hamp.cells := by simp [State.setShadowPos]
@[simp] theorem State.passEnd_hamperCells (s : State) (w : Nat) : (State.passEnd s w).hamp.cells = s.hamp.cells := by simp [State.passEnd]
@[simp] theorem State.passShadow_hamperCells (s : State) (w n : Nat) : (State.passShadow s w n).hamp.cells = s.hamp.cells := by unfold State.passShadow; (repeat' split) <;> simp
@[simp] theorem State.passNext_hamperCells (s : State) (w : Nat) : (State.passNext s w).hamp.cells = s.hamp.cells := by unfold State.passNext; (repeat' split) <;> simp
@[simp] theorem State.wantReload_hamperCells (s : State) (bay : Nat) : (State.wantReload s bay).hamp.cells = s.hamp.cells := by simp [State.wantReload]
@[simp] theorem State.holdClear_hamperCells (s : State) (bay : Nat) : (State.holdClear s bay).hamp.cells = s.hamp.cells := by unfold State.holdClear; dsimp only; repeat' first | (simp; done) | split
theorem execPntHoldClear_hamperCells (ag : Agent) (v : Word) (s : State) : ∀ q1, (execPntHoldClear ag v s) = .next q1 → q1.hamp.cells = s.hamp.cells := by
  rintro q1 ⟨⟩; simp
@[simp] theorem State.upsetFrame_hamperCells (s : State) (latch key : Nat) (bits : List (Fin 10240)) : (State.upsetFrame s latch key bits).hamp.cells = s.hamp.cells := by simp [State.upsetFrame]
@[simp] theorem State.pntCtlWrite_hamperCells (s : State) (v : Word) : (State.pntCtlWrite s v).hamp.cells = s.hamp.cells := by simp [State.pntCtlWrite]
theorem execPntRestart_hamperCells (ag : Agent) (en shadow : Bool) (s : State) : ∀ q1, (execPntRestart ag en shadow s) = .next q1 → q1.hamp.cells = s.hamp.cells := by
  rintro q1 ⟨⟩; simp
@[simp] theorem State.logPop_hamperCells (s : State) : (State.logPop s).hamp.cells = s.hamp.cells := by simp [State.logPop]
theorem execPntLogPop_hamperCells (ag : Agent) (s : State) : ∀ q1, (execPntLogPop ag s) = .next q1 → q1.hamp.cells = s.hamp.cells := by
  rintro q1 ⟨⟩; simp
theorem execPntReloadOpen_hamperCells (s : State) : ∀ q1, (execPntReloadOpen s) = .next q1 → q1.hamp.cells = s.hamp.cells := by
  intro q1 h; unfold execPntReloadOpen at h; dsimp only at h; (repeat' split at h) <;> first | (cases h; simp) | (cases h; (repeat' split) <;> simp_all)
theorem execPntReloadFire_hamperCells (s : State) : ∀ q1, (execPntReloadFire s) = .next q1 → q1.hamp.cells = s.hamp.cells := by
  rintro q1 ⟨⟩; simp
theorem execPntReloadWaitExpiry_hamperCells (s : State) : ∀ q1, (execPntReloadWaitExpiry s) = .next q1 → q1.hamp.cells = s.hamp.cells := by
  rintro q1 ⟨⟩; (repeat' split) <;> simp
@[simp] theorem State.reloadLatch_hamperCells (s : State) (src : Nat) : (State.reloadLatch s src).hamp.cells = s.hamp.cells := by unfold State.reloadLatch; (repeat' split) <;> simp
@[simp] theorem State.pntLoading_hamperCells (s : State) : (State.pntLoading s).hamp.cells = s.hamp.cells := by simp [State.pntLoading]
@[simp] theorem State.pntWrite_hamperCells (s : State) (off : Nat) (v : Word) : (State.pntWrite s off v).hamp.cells = s.hamp.cells := by simp [State.pntWrite]

/-! Lanes. -/

@[simp] theorem State.setLane_hamperCells (s : State) (n : Nat) (l : LaneSt) : (State.setLane s n l).hamp.cells = s.hamp.cells := by simp [State.setLane]
@[simp] theorem State.laneErr_hamperCells (s : State) (n i : Nat) : (State.laneErr s n i).hamp.cells = s.hamp.cells := by simp [State.laneErr]
@[simp] theorem State.laneStatus_hamperCells (s : State) (n i : Nat) : (State.laneStatus s n i).hamp.cells = s.hamp.cells := by simp [State.laneStatus]
@[simp] theorem State.rxOff_hamperCells (s : State) (n : Nat) : (State.rxOff s n).hamp.cells = s.hamp.cells := by simp [State.rxOff]
@[simp] theorem State.laneRefresh_hamperCells (s : State) (n : Nat) : (State.laneRefresh s n).hamp.cells = s.hamp.cells := by simp [State.laneRefresh]
@[simp] theorem State.quadRefresh_hamperCells (s : State) (q : Nat) : (State.quadRefresh s q).hamp.cells = s.hamp.cells := by simp [State.quadRefresh]
@[simp] theorem State.lanesRefresh_hamperCells (s : State) : (State.lanesRefresh s).hamp.cells = s.hamp.cells := by simp [State.lanesRefresh]
@[simp] theorem State.cdrDrop_hamperCells (s : State) (n : Nat) : (State.cdrDrop s n).hamp.cells = s.hamp.cells := by simp [State.cdrDrop]
@[simp] theorem State.lgForget_hamperCells (s : State) (n : Nat) : (State.lgForget s n).hamp.cells = s.hamp.cells := by simp [State.lgForget]
@[simp] theorem State.lgLoad_hamperCells (s : State) (n : Nat) : (State.lgLoad s n).hamp.cells = s.hamp.cells := by simp [State.lgLoad]
@[simp] theorem State.lgSave_hamperCells (s : State) (n : Nat) : (State.lgSave s n).hamp.cells = s.hamp.cells := by simp [State.lgSave]
@[simp] theorem State.adaptStep_hamperCells (s : State) (n : Nat) (e : EyeWindow) : (State.adaptStep s n e).hamp.cells = s.hamp.cells := by simp [State.adaptStep]
@[simp] theorem State.setRevHold_hamperCells (s : State) (n k : Nat) : (State.setRevHold s n k).hamp.cells = s.hamp.cells := by simp [State.setRevHold]
@[simp] theorem State.floorRevert_hamperCells (s : State) (n : Nat) : (State.floorRevert s n).hamp.cells = s.hamp.cells := by simp [State.floorRevert]
@[simp] theorem State.adaptEnd_hamperCells (s : State) (n eye : Nat) (qual : Bool) (e : EyeWindow) : (State.adaptEnd s n eye qual e).hamp.cells = s.hamp.cells := by simp [State.adaptEnd]
@[simp] theorem State.eyeEnd_hamperCells (s : State) (n : Nat) (e : EyeWindow) : (State.eyeEnd s n e).hamp.cells = s.hamp.cells := by simp [State.eyeEnd]
theorem execEyeWindowEnd_hamperCells (n : Fin 64) (e : EyeWindow) (s : State) : ∀ q1, (execEyeWindowEnd n e s) = .next q1 → q1.hamp.cells = s.hamp.cells := by
  rintro q1 ⟨⟩; simp
@[simp] theorem State.txeqWrite_hamperCells (s : State) (n : Nat) (v : Word) : (State.txeqWrite s n v).hamp.cells = s.hamp.cells := by simp [State.txeqWrite]
@[simp] theorem State.rxeqWrite_hamperCells (s : State) (n : Nat) (v : Word) : (State.rxeqWrite s n v).hamp.cells = s.hamp.cells := by simp [State.rxeqWrite]
@[simp] theorem State.dfeWrite_hamperCells (s : State) (n i : Nat) (v : Word) : (State.dfeWrite s n i v).hamp.cells = s.hamp.cells := by simp [State.dfeWrite]
@[simp] theorem State.prbsWrite_hamperCells (s : State) (n : Nat) (v : Word) : (State.prbsWrite s n v).hamp.cells = s.hamp.cells := by simp [State.prbsWrite]
@[simp] theorem State.calStart_hamperCells (s : State) (q : Nat) : (State.calStart s q).hamp.cells = s.hamp.cells := by simp [State.calStart]
@[simp] theorem State.quadWrite_hamperCells (s : State) (q o : Nat) (v : Word) : (State.quadWrite s q o v).hamp.cells = s.hamp.cells := by simp [State.quadWrite]
@[simp] theorem State.laneWrite_hamperCells (s : State) (n o : Nat) (v : Word) : (State.laneWrite s n o v).hamp.cells = s.hamp.cells := by simp [State.laneWrite]
theorem execLaneTxeqWrite_hamperCells (ag : Agent) (n : Fin 64) (v : Word) (s : State) : ∀ q1, (execLaneTxeqWrite ag n v s) = .next q1 → q1.hamp.cells = s.hamp.cells := by
  rintro q1 ⟨⟩; simp
theorem execLaneLoadlg_hamperCells (ag : Agent) (n : Fin 64) (s : State) : ∀ q1, (execLaneLoadlg ag n s) = .next q1 → q1.hamp.cells = s.hamp.cells := by
  rintro q1 ⟨⟩; simp
theorem execPrbsClear_hamperCells (ag : Agent) (n : Fin 64) (s : State) : ∀ q1, (execPrbsClear ag n s) = .next q1 → q1.hamp.cells = s.hamp.cells := by
  rintro q1 ⟨⟩; simp
theorem execQuadCalStart_hamperCells (ag : Agent) (q : Fin 16) (s : State) : ∀ q1, (execQuadCalStart ag q s) = .next q1 → q1.hamp.cells = s.hamp.cells := by
  rintro q1 ⟨⟩; simp
@[simp] theorem State.calEnd_hamperCells (s : State) (q : Nat) (pass : Bool) : (State.calEnd s q pass).hamp.cells = s.hamp.cells := by simp [State.calEnd]
theorem execQuadCalDone_hamperCells (q : Fin 16) (pass : Bool) (s : State) : ∀ q1, (execQuadCalDone q pass s) = .next q1 → q1.hamp.cells = s.hamp.cells := by
  rintro q1 ⟨⟩; simp
theorem execQuadCalTimeout_hamperCells (q : Fin 16) (s : State) : ∀ q1, (execQuadCalTimeout q s) = .next q1 → q1.hamp.cells = s.hamp.cells := by
  rintro q1 ⟨⟩; simp
@[simp] theorem State.setRelock_hamperCells (s : State) (q h : Nat) (b : Bool) : (State.setRelock s q h b).hamp.cells = s.hamp.cells := by simp [State.setRelock]
@[simp] theorem State.pllUnlock_hamperCells (s : State) (q h : Nat) : (State.pllUnlock s q h).hamp.cells = s.hamp.cells := by simp [State.pllUnlock]
@[simp] theorem State.qpllApply_hamperCells (s : State) (q : Nat) (vals : List (Nat × Word)) : (State.qpllApply s q vals).hamp.cells = s.hamp.cells := by unfold State.qpllApply; dsimp only; repeat' first | (simp; done) | split
theorem execQpllLock_hamperCells (q : Fin 16) (h : Fin 2) (s : State) : ∀ q1, (execQpllLock q h s) = .next q1 → q1.hamp.cells = s.hamp.cells := by
  rintro q1 ⟨⟩; simp
theorem execQpllLossOfLock_hamperCells (q : Fin 16) (h : Fin 2) (s : State) : ∀ q1, (execQpllLossOfLock q h s) = .next q1 → q1.hamp.cells = s.hamp.cells := by
  rintro q1 ⟨⟩; simp
@[simp] theorem State.laneCfgApply_hamperCells (s : State) (n : Nat) (vals : List (Nat × Word)) : (State.laneCfgApply s n vals).hamp.cells = s.hamp.cells := by unfold State.laneCfgApply; (repeat' split) <;> simp
theorem execLaneWakeBurstEnd_hamperCells (n : Fin 64) (s : State) : ∀ q1, (execLaneWakeBurstEnd n s) = .next q1 → q1.hamp.cells = s.hamp.cells := by
  rintro q1 ⟨⟩; simp
theorem execCdrLockAcquired_hamperCells (n : Fin 64) (s : State) : ∀ q1, (execCdrLockAcquired n s) = .next q1 → q1.hamp.cells = s.hamp.cells := by
  rintro q1 ⟨⟩; simp
theorem execCdrLockLost_hamperCells (n : Fin 64) (s : State) : ∀ q1, (execCdrLockLost n s) = .next q1 → q1.hamp.cells = s.hamp.cells := by
  rintro q1 ⟨⟩; simp
theorem execRxidleChange_hamperCells (n : Fin 64) (idle : Bool) (s : State) : ∀ q1, (execRxidleChange n idle s) = .next q1 → q1.hamp.cells = s.hamp.cells := by
  rintro q1 ⟨⟩; simp
theorem execCommaAlign_hamperCells (n : Fin 64) (s : State) : ∀ q1, (execCommaAlign n s) = .next q1 → q1.hamp.cells = s.hamp.cells := by
  rintro q1 ⟨⟩; simp
theorem execAlignLost_hamperCells (n : Fin 64) (s : State) : ∀ q1, (execAlignLost n s) = .next q1 → q1.hamp.cells = s.hamp.cells := by
  rintro q1 ⟨⟩; simp
theorem execBlockLockAcquired_hamperCells (n : Fin 64) (s : State) : ∀ q1, (execBlockLockAcquired n s) = .next q1 → q1.hamp.cells = s.hamp.cells := by
  rintro q1 ⟨⟩; simp
theorem execBlockLockLost_hamperCells (n : Fin 64) (s : State) : ∀ q1, (execBlockLockLost n s) = .next q1 → q1.hamp.cells = s.hamp.cells := by
  rintro q1 ⟨⟩; simp
@[simp] theorem State.fifoFault_hamperCells (s : State) (n : Nat) (tx : Bool) : (State.fifoFault s n tx).hamp.cells = s.hamp.cells := by simp [State.fifoFault]
theorem execPhaseFifoFault_hamperCells (n : Fin 64) (tx : Bool) (s : State) : ∀ q1, (execPhaseFifoFault n tx s) = .next q1 → q1.hamp.cells = s.hamp.cells := by
  rintro q1 ⟨⟩; simp
theorem execPrbsCheckerLock_hamperCells (n : Fin 64) (s : State) : ∀ q1, (execPrbsCheckerLock n s) = .next q1 → q1.hamp.cells = s.hamp.cells := by
  rintro q1 ⟨⟩; simp
@[simp] theorem State.countErr_hamperCells (s : State) (n k : Nat) : (State.countErr s n k).hamp.cells = s.hamp.cells := by simp [State.countErr]
@[simp] theorem State.laneErrIf_hamperCells (s : State) (c : Bool) (n i : Nat) : (State.laneErrIf s c n i).hamp.cells = s.hamp.cells := by simp [State.laneErrIf]
@[simp] theorem State.prbsCheck_hamperCells (s : State) (n width raw : Nat) : (State.prbsCheck s n width raw).hamp.cells = s.hamp.cells := by simp [State.prbsCheck]
@[simp] theorem State.rxWord_hamperCells (s : State) (n : Nat) (w : LaneRx) : (State.rxWord s n w).hamp.cells = s.hamp.cells := by simp [State.rxWord]
theorem execLaneRxWord_hamperCells (n : Fin 64) (w : LaneRx) (s : State) : ∀ q1, (execLaneRxWord n w s) = .next q1 → q1.hamp.cells = s.hamp.cells := by
  rintro q1 ⟨⟩; simp
@[simp] theorem State.txEdge_hamperCells (s : State) (n : Nat) (p : LanePins) : (State.txEdge s n p).hamp.cells = s.hamp.cells := by simp [State.txEdge]
@[simp] theorem State.rxEdge_hamperCells (s : State) (n : Nat) : (State.rxEdge s n).hamp.cells = s.hamp.cells := by unfold State.rxEdge; dsimp only; repeat' first | (simp; done) | split
@[simp] theorem State.lanesEdge_hamperCells (s : State) (k net : Nat) (p : EdgePins) : (State.lanesEdge s k net p).hamp.cells = s.hamp.cells := by simp [State.lanesEdge]

/-! WaleLink. -/

@[simp] theorem State.gangEnd_hamperCells (s : State) : (State.gangEnd s).hamp.cells = s.hamp.cells := by simp [State.gangEnd]
@[simp] theorem State.linkDown_hamperCells (s : State) (p cause : Nat) : (State.linkDown s p cause).hamp.cells = s.hamp.cells := by simp [State.linkDown]
@[simp] theorem State.walePortsDown_hamperCells (s : State) : (State.walePortsDown s).hamp.cells = s.hamp.cells := by simp [State.walePortsDown]
@[simp] theorem State.ownSet_hamperCells (s : State) (off : Nat) (v : Word) : (State.ownSet s off v).hamp.cells = s.hamp.cells := by simp [State.ownSet]
@[simp] theorem State.wpTake_hamperCells (s : State) (p : Nat) : (State.wpTake s p).hamp.cells = s.hamp.cells := by simp [State.wpTake]
@[simp] theorem State.wpTrain_hamperCells (s : State) (p : Nat) : (State.wpTrain s p).hamp.cells = s.hamp.cells := by simp [State.wpTrain]
@[simp] theorem State.wpStart_hamperCells (s : State) (p : Nat) : (State.wpStart s p).hamp.cells = s.hamp.cells := by simp [State.wpStart]
@[simp] theorem State.wpDue_hamperCells (s : State) (p : Nat) : (State.wpDue s p).hamp.cells = s.hamp.cells := by simp [State.wpDue]
@[simp] theorem State.wpCtlWrite_hamperCells (s : State) (p : Nat) (v : Word) : (State.wpCtlWrite s p v).hamp.cells = s.hamp.cells := by simp [State.wpCtlWrite]
@[simp] theorem State.trnCount_hamperCells (s : State) (p lane : Nat) (t : TrnSet) : (State.trnCount s p lane t).hamp.cells = s.hamp.cells := by simp [State.trnCount]
@[simp] theorem State.trnTraining_hamperCells (s : State) (p lane : Nat) (t : TrnSet) : (State.trnTraining s p lane t).hamp.cells = s.hamp.cells := by simp [State.trnTraining]
@[simp] theorem State.trnSet_hamperCells (s : State) (p lane : Nat) (t : TrnSet) : (State.trnSet s p lane t).hamp.cells = s.hamp.cells := by simp [State.trnSet]
@[simp] theorem State.peerRecord_hamperCells (s : State) (x epoch : Nat) : (State.peerRecord s x epoch).hamp.cells = s.hamp.cells := by simp [State.peerRecord]
@[simp] theorem State.originEnd_hamperCells (s : State) (o : WaleOrigin) (status : Nat) (read : Bool) (ws : List Word) : (State.originEnd s o status read ws).hamp.cells = s.hamp.cells := by unfold State.originEnd; (repeat' split) <;> simp
@[simp] theorem State.reqEnd_hamperCells (s : State) (r : WaleReq) (status : Nat) (ws : List Word) : (State.reqEnd s r status ws).hamp.cells = s.hamp.cells := by simp [State.reqEnd]
@[simp] theorem State.reqsEpoch_hamperCells (s : State) (f : WaleReq → Bool) : (State.reqsEpoch s f).hamp.cells = s.hamp.cells := by simp [State.reqsEpoch]
@[simp] theorem State.sendJoin_hamperCells (s : State) (p : Nat) : (State.sendJoin s p).hamp.cells = s.hamp.cells := by simp [State.sendJoin]
@[simp] theorem State.linkUp_hamperCells (s : State) (p : Nat) : (State.linkUp s p).hamp.cells = s.hamp.cells := by simp [State.linkUp]
@[simp] theorem State.ackDrop_hamperCells (s : State) (p aseq : Nat) : (State.ackDrop s p aseq).hamp.cells = s.hamp.cells := by unfold State.ackDrop; dsimp only; repeat' first | (simp; done) | split
@[simp] theorem State.ackTake_hamperCells (s : State) (p aseq : Nat) : (State.ackTake s p aseq).hamp.cells = s.hamp.cells := by unfold State.ackTake; repeat' first | (simp; done) | split
@[simp] theorem State.linkResend_hamperCells (s : State) (p : Nat) : (State.linkResend s p).hamp.cells = s.hamp.cells := by simp [State.linkResend]
@[simp] theorem State.nakOnce_hamperCells (s : State) (p : Nat) : (State.nakOnce s p).hamp.cells = s.hamp.cells := by simp [State.nakOnce]
@[simp] theorem State.linkRx_hamperCells (s : State) (p seq : Nat) : (State.linkRx s p seq).2.hamp.cells = s.hamp.cells := by simp [State.linkRx]
@[simp] theorem State.lanesChanged_hamperCells (s : State) (p : Nat) : (State.lanesChanged s p).hamp.cells = s.hamp.cells := by simp [State.lanesChanged]
@[simp] theorem State.askSet_hamperCells (s : State) (p op set : Nat) : (State.askSet s p op set).hamp.cells = s.hamp.cells := by simp [State.askSet]
@[simp] theorem State.laneFail_hamperCells (s : State) (p lane : Nat) : (State.laneFail s p lane).hamp.cells = s.hamp.cells := by simp [State.laneFail]
@[simp] theorem State.laneReadmit_hamperCells (s : State) (p lane : Nat) : (State.laneReadmit s p lane).hamp.cells = s.hamp.cells := by simp [State.laneReadmit]
@[simp] theorem State.lmgSet_hamperCells (s : State) (p op set : Nat) : (State.lmgSet s p op set).hamp.cells = s.hamp.cells := by simp [State.lmgSet]
@[simp] theorem State.dropBlock_hamperCells (s : State) : (State.dropBlock s).hamp.cells = s.hamp.cells := by simp [State.dropBlock]
@[simp] theorem State.completionIn_hamperCells (s : State) (b : WaleBlock) : (State.completionIn s b).hamp.cells = s.hamp.cells := by unfold State.completionIn; (repeat' split) <;> simp
theorem State.toPort_hamperCells (s : State) (from_ : Option Nat) (b : WaleBlock) : ∀ q1, (State.toPort s from_ b) = some q1 → q1.hamp.cells = s.hamp.cells := by
  intro q1 h
  simp only [State.toPort] at h
  (repeat' split at h) <;> simp_all <;> (try (subst h; simp))
@[simp] theorem State.answer_hamperCells (s : State) (b : WaleBlock) (status : Nat) (ws : List Word) : (State.answer s b status ws).hamp.cells = s.hamp.cells := by
  unfold State.answer
  dsimp only
  split
  · simp
  · split
    · rename_i h
      exact State.toPort_hamperCells _ _ _ _ h
    · split <;> simp
@[simp] theorem State.wakeToward_hamperCells (s : State) (x : Nat) (b : WaleBlock) : (State.wakeToward s x b).hamp.cells = s.hamp.cells := by simp [State.wakeToward]
@[simp] theorem State.sleepHandle_hamperCells (s : State) (x : Nat) (b : WaleBlock) : (State.sleepHandle s x b).hamp.cells = s.hamp.cells := by simp [State.sleepHandle]
@[simp] theorem State.routeOn_hamperCells (s : State) (from_ : Option Nat) (b : WaleBlock) : (State.routeOn s from_ b).hamp.cells = s.hamp.cells := by
  unfold State.routeOn
  dsimp only
  split
  · simp
  · split
    · rename_i h
      split at h
      · cases h
      · exact State.toPort_hamperCells _ _ _ _ h
    · split <;> simp
@[simp] theorem State.mqRefresh_hamperCells (s : State) : (State.mqRefresh s).hamp.cells = s.hamp.cells := by simp [State.mqRefresh]
@[simp] theorem State.messageIn_hamperCells (s : State) (b : WaleBlock) : (State.messageIn s b).hamp.cells = s.hamp.cells := by simp [State.messageIn]
@[simp] theorem State.localIn_hamperCells (s : State) (b : WaleBlock) (mem : Nat) : (State.localIn s b mem).hamp.cells = s.hamp.cells := by unfold State.localIn; (repeat' split) <;> simp
@[simp] theorem State.originate_hamperCells (s : State) (b : WaleBlock) : (State.originate s b).hamp.cells = s.hamp.cells := by simp [State.originate]
@[simp] theorem State.requestSend_hamperCells (s : State) (o : WaleOrigin) (b : WaleBlock) (tag : Nat) : (State.requestSend s o b tag).hamp.cells = s.hamp.cells := by simp [State.requestSend]
@[simp] theorem State.waleIssue_hamperCells (s : State) (o : WaleOrigin) (kind : WaleKind) (dest addr len : Nat) (ack : Bool) (ws : List Word) : (State.waleIssue s o kind dest addr len ack ws).hamp.cells = s.hamp.cells := by unfold State.waleIssue; (repeat' split) <;> simp
theorem State.tagNext_hamperCells (s : State) : ∀ q1, (State.tagNext s) = some q1 → q1.hamp.cells = s.hamp.cells := by
  intro q1 h
  simp only [State.tagNext] at h
  (repeat' split at h) <;> simp_all <;> (try (subst h; simp))
@[simp] theorem State.epochTest_hamperCells (s : State) (b : WaleBlock) : (State.epochTest s b).2.hamp.cells = s.hamp.cells := by simp [State.epochTest]
@[simp] theorem State.blockIn_hamperCells (s : State) (p : Nat) (b : WaleBlock) (here join : Bool) (act : State → State) (h : ∀ t, (act t).hamp.cells = t.hamp.cells) : (s.blockIn p b here join act).hamp.cells = s.hamp.cells := by
  have e := State.linkRx_hamperCells s p b.seq.val
  unfold State.blockIn
  split
  · rename_i hr
    rw [hr] at e
    exact e
  · rename_i t hr
    rw [hr] at e
    have e2 := State.epochTest_hamperCells t b
    split
    · rename_i hj
      split at hj
      · cases hj
      · rw [hj] at e2
        rw [e2]
        exact e
    · rename_i u hj
      have e3 : u.hamp.cells = t.hamp.cells := by
        split at hj
        · cases hj; rfl
        · rw [hj] at e2; exact e2
      dsimp only at e
      rw [← e, ← e3]
      split
      · exact h _
      split
      · rw [h]
        split <;> simp
      split
      · simp
      split
      · exact h _
      · simp
theorem execWpEnable_hamperCells (ag : Agent) (p : Fin 6) (s : State) : ∀ q1, (execWpEnable ag p s) = .next q1 → q1.hamp.cells = s.hamp.cells := by
  rintro q1 ⟨⟩; simp
theorem execWpDisable_hamperCells (ag : Agent) (p : Fin 6) (s : State) : ∀ q1, (execWpDisable ag p s) = .next q1 → q1.hamp.cells = s.hamp.cells := by
  rintro q1 ⟨⟩; simp
theorem execWpRetrain_hamperCells (ag : Agent) (p : Fin 6) (s : State) : ∀ q1, (execWpRetrain ag p s) = .next q1 → q1.hamp.cells = s.hamp.cells := by
  rintro q1 ⟨⟩; simp
theorem execWaleTrnSet_hamperCells (p : Fin 6) (lane : Fin 8) (t : TrnSet) (s : State) : ∀ q1, (execWaleTrnSet p lane t s) = .next q1 → q1.hamp.cells = s.hamp.cells := by
  rintro q1 ⟨⟩; simp
theorem execWaleTrainTimeout_hamperCells (p : Fin 6) (s : State) : ∀ q1, (execWaleTrainTimeout p s) = .next q1 → q1.hamp.cells = s.hamp.cells := by
  rintro q1 ⟨⟩; simp
theorem execWaleLinkUp_hamperCells (p : Fin 6) (s : State) : ∀ q1, (execWaleLinkUp p s) = .next q1 → q1.hamp.cells = s.hamp.cells := by
  rintro q1 ⟨⟩; simp
theorem execWaleAutoRetrain_hamperCells (p : Fin 6) (s : State) : ∀ q1, (execWaleAutoRetrain p s) = .next q1 → q1.hamp.cells = s.hamp.cells := by
  rintro q1 ⟨⟩; simp
theorem execWaleBlockBad_hamperCells (p : Fin 6) (fmt : Option (Fin 4096)) (s : State) : ∀ q1, (execWaleBlockBad p fmt s) = .next q1 → q1.hamp.cells = s.hamp.cells := by
  intro q1 h
  have e := fun q => State.linkRx_hamperCells s p.val q
  unfold execWaleBlockBad at h
  injection h with h
  subst h
  split
  · rfl
  · split
    · simp
    · rename_i q
      have e1 := e q.val
      split <;> (rename_i hr; rw [hr] at e1; simpa using e1)
theorem execWaleAck_hamperCells (p : Fin 6) (aseq : Fin 4096) (junk : Bool) (s : State) : ∀ q1, (execWaleAck p aseq junk s) = .next q1 → q1.hamp.cells = s.hamp.cells := by
  rintro q1 ⟨⟩; simp
theorem execWaleNak_hamperCells (p : Fin 6) (aseq : Fin 4096) (junk : Bool) (s : State) : ∀ q1, (execWaleNak p aseq junk s) = .next q1 → q1.hamp.cells = s.hamp.cells := by
  rintro q1 ⟨⟩; simp
theorem execWaleAckSend_hamperCells (p : Fin 6) (s : State) : ∀ q1, (execWaleAckSend p s) = .next q1 → q1.hamp.cells = s.hamp.cells := by
  rintro q1 ⟨⟩; simp
theorem execWaleAckTimerExpiry_hamperCells (p : Fin 6) (s : State) : ∀ q1, (execWaleAckTimerExpiry p s) = .next q1 → q1.hamp.cells = s.hamp.cells := by
  rintro q1 ⟨⟩; simp
theorem execWaleLaneFail_hamperCells (p : Fin 6) (lane : Fin 8) (s : State) : ∀ q1, (execWaleLaneFail p lane s) = .next q1 → q1.hamp.cells = s.hamp.cells := by
  rintro q1 ⟨⟩; simp
theorem execWaleLaneReadmitReady_hamperCells (p : Fin 6) (lane : Fin 8) (s : State) : ∀ q1, (execWaleLaneReadmitReady p lane s) = .next q1 → q1.hamp.cells = s.hamp.cells := by
  rintro q1 ⟨⟩; simp
theorem execWaleLmgDrop_hamperCells (p : Fin 6) (set : BitVec 8) (junk : Bool) (s : State) : ∀ q1, (execWaleLmgDrop p set junk s) = .next q1 → q1.hamp.cells = s.hamp.cells := by
  rintro q1 ⟨⟩; simp
theorem execWaleLmgReadmit_hamperCells (p : Fin 6) (set : BitVec 8) (junk : Bool) (s : State) : ∀ q1, (execWaleLmgReadmit p set junk s) = .next q1 → q1.hamp.cells = s.hamp.cells := by
  rintro q1 ⟨⟩; simp
theorem execWaleLmgSleep_hamperCells (p : Fin 6) (junk : Bool) (s : State) : ∀ q1, (execWaleLmgSleep p junk s) = .next q1 → q1.hamp.cells = s.hamp.cells := by
  rintro q1 ⟨⟩; simp
theorem execWaleLmgDown_hamperCells (p : Fin 6) (junk : Bool) (s : State) : ∀ q1, (execWaleLmgDown p junk s) = .next q1 → q1.hamp.cells = s.hamp.cells := by
  rintro q1 ⟨⟩; simp
theorem execWaleCompletion_hamperCells (p : Fin 6) (b : WaleBlock) (s : State) : ∀ q1, (execWaleCompletion p b s) = .next q1 → q1.hamp.cells = s.hamp.cells := by
  rintro q1 ⟨⟩; simp
theorem execWaleMessage_hamperCells (p : Fin 6) (b : WaleBlock) (s : State) : ∀ q1, (execWaleMessage p b s) = .next q1 → q1.hamp.cells = s.hamp.cells := by
  rintro q1 ⟨⟩; simp
theorem execWaleRequestDeadline_hamperCells (tag : Fin 256) (s : State) : ∀ q1, (execWaleRequestDeadline tag s) = .next q1 → q1.hamp.cells = s.hamp.cells := by
  rintro q1 ⟨⟩; (repeat' split) <;> simp
@[simp] theorem State.mqPop_hamperCells (s : State) : (State.mqPop s).hamp.cells = s.hamp.cells := by simp [State.mqPop]
theorem execWaleMqPop_hamperCells (ag : Agent) (s : State) : ∀ q1, (execWaleMqPop ag s) = .next q1 → q1.hamp.cells = s.hamp.cells := by
  rintro q1 ⟨⟩; simp

/-! Wale. -/

@[simp] theorem State.gangTake_hamperCells (s : State) (b : WaleBlock) : (State.gangTake s b).hamp.cells = s.hamp.cells := by simp [State.gangTake]
@[simp] theorem State.gangIn_hamperCells (s : State) (b : WaleBlock) : (State.gangIn s b).hamp.cells = s.hamp.cells := by unfold State.gangIn; (repeat' split) <;> simp
@[simp] theorem State.gangOut_hamperCells (s : State) (off : Nat) (ws : List Word) (first last abort : Bool) : (State.gangOut s off ws first last abort).hamp.cells = s.hamp.cells := by
  unfold State.gangOut
  dsimp only
  split
  · simp
  · split
    · rename_i h
      simpa using State.toPort_hamperCells _ _ _ _ h
    · simp
@[simp] theorem State.gangSend_hamperCells (s : State) (keep : Bool) (x0 : Nat) : (State.gangSend s keep x0).hamp.cells = s.hamp.cells := by
  induction x0 generalizing s keep with
  | zero => simp [State.gangSend]
  | succ n ih => unfold State.gangSend; (repeat' split) <;> simp [ih]
@[simp] theorem State.gangGo_hamperCells (s : State) : (State.gangGo s).hamp.cells = s.hamp.cells := by simp [State.gangGo]
@[simp] theorem State.gangAbort_hamperCells (s : State) (blocks : Nat) : (State.gangAbort s blocks).hamp.cells = s.hamp.cells := by unfold State.gangAbort; dsimp only; repeat' first | (simp; done) | split
@[simp] theorem State.gangCtlWrite_hamperCells (s : State) (v : Word) : (State.gangCtlWrite s v).hamp.cells = s.hamp.cells := by simp [State.gangCtlWrite]
@[simp] theorem State.gangResult_hamperCells (s : State) (r : Nat) : (State.gangResult s r).hamp.cells = s.hamp.cells := by simp [State.gangResult]
theorem execWaleGangBlock_hamperCells (p : Fin 6) (b : WaleBlock) (s : State) : ∀ q1, (execWaleGangBlock p b s) = .next q1 → q1.hamp.cells = s.hamp.cells := by
  rintro q1 ⟨⟩; simp
theorem execWaleGangGo_hamperCells (ag : Agent) (hamper bcast : Bool) (dest : Fin 512) (s : State) : ∀ q1, (execWaleGangGo ag hamper bcast dest s) = .next q1 → q1.hamp.cells = s.hamp.cells := by
  rintro q1 ⟨⟩; simp
theorem execWaleGangAbort_hamperCells (ag : Agent) (blocks : Nat) (s : State) : ∀ q1, (execWaleGangAbort ag blocks s) = .next q1 → q1.hamp.cells = s.hamp.cells := by
  rintro q1 ⟨⟩; simp
theorem execWaleGangSendEnd_hamperCells (s : State) : ∀ q1, (execWaleGangSendEnd s) = .next q1 → q1.hamp.cells = s.hamp.cells := by
  rintro q1 ⟨⟩; (repeat' split) <;> simp
theorem execWaleGangStreamTimeout_hamperCells (s : State) : ∀ q1, (execWaleGangStreamTimeout s) = .next q1 → q1.hamp.cells = s.hamp.cells := by
  rintro q1 ⟨⟩; simp
@[simp] theorem State.badBody_hamperCells (s : State) (p : Nat) : (State.badBody s p).hamp.cells = s.hamp.cells := by simp [State.badBody]
theorem execWaleAdvert_hamperCells (p : Fin 6) (b : WaleBlock) (s : State) : ∀ q1, (execWaleAdvert p b s) = .next q1 → q1.hamp.cells = s.hamp.cells := by
  rintro q1 ⟨⟩; (repeat' split) <;> simp
theorem execWaleAdvertTimer_hamperCells (s : State) : ∀ q1, (execWaleAdvertTimer s) = .next q1 → q1.hamp.cells = s.hamp.cells := by
  rintro q1 ⟨⟩; simp
theorem execWaleAdvertExpiry_hamperCells (p : Fin 6) (s : State) : ∀ q1, (execWaleAdvertExpiry p s) = .next q1 → q1.hamp.cells = s.hamp.cells := by
  rintro q1 ⟨⟩; simp
@[simp] theorem State.joinIn_hamperCells (s : State) (x epoch : Nat) : (State.joinIn s x epoch).hamp.cells = s.hamp.cells := by simp [State.joinIn]
theorem execWaleJoin_hamperCells (p : Fin 6) (b : WaleBlock) (s : State) : ∀ q1, (execWaleJoin p b s) = .next q1 → q1.hamp.cells = s.hamp.cells := by
  rintro q1 ⟨⟩; (repeat' split) <;> simp
@[simp] theorem State.timeCorrect_hamperCells (s : State) (o : Int) : (State.timeCorrect s o).hamp.cells = s.hamp.cells := by simp [State.timeCorrect]
@[simp] theorem State.timeLock_hamperCells (s : State) (o : Int) : (State.timeLock s o).hamp.cells = s.hamp.cells := by simp [State.timeLock]
@[simp] theorem State.timeUpdate_hamperCells (s : State) (p : Nat) (t1 t2 t3 t4 : Int) : (State.timeUpdate s p t1 t2 t3 t4).hamp.cells = s.hamp.cells := by simp [State.timeUpdate]
theorem execWaleTimeExchangeStart_hamperCells (fine : Fin 2500) (s : State) : ∀ q1, (execWaleTimeExchangeStart fine s) = .next q1 → q1.hamp.cells = s.hamp.cells := by
  rintro q1 ⟨⟩; simp
theorem execWaleTsyRequest_hamperCells (p : Fin 6) (xn : Fin 65536) (fine : Fin 2500) (turn : Nat) (junk : Bool) (s : State) : ∀ q1, (execWaleTsyRequest p xn fine turn junk s) = .next q1 → q1.hamp.cells = s.hamp.cells := by
  rintro q1 ⟨⟩; simp
theorem execWaleTsyResponse_hamperCells (p : Fin 6) (xn : Fin 65536) (fine : Fin 2500) (junk : Bool) (s : State) : ∀ q1, (execWaleTsyResponse p xn fine junk s) = .next q1 → q1.hamp.cells = s.hamp.cells := by
  rintro q1 ⟨⟩; (repeat' split) <;> simp
@[simp] theorem State.followUpIn_hamperCells (s : State) (p xn : Nat) (t2 t3 : Int) : (State.followUpIn s p xn t2 t3).hamp.cells = s.hamp.cells := by unfold State.followUpIn; (repeat' split) <;> simp
theorem execWaleTimeFollowUp_hamperCells (p : Fin 6) (b : WaleBlock) (s : State) : ∀ q1, (execWaleTimeFollowUp p b s) = .next q1 → q1.hamp.cells = s.hamp.cells := by
  rintro q1 ⟨⟩; (repeat' split) <;> simp
theorem execWaleFollowUpTimeout_hamperCells (s : State) : ∀ q1, (execWaleFollowUpTimeout s) = .next q1 → q1.hamp.cells = s.hamp.cells := by
  rintro q1 ⟨⟩; simp
@[simp] theorem State.bndSend_hamperCells (s : State) (i : Nat) (x : Instant) : (State.bndSend s i x).hamp.cells = s.hamp.cells := by simp [State.bndSend]
@[simp] theorem State.bndIn_hamperCells (s : State) (orig i : Nat) (x : Instant) : (State.bndIn s orig i x).hamp.cells = s.hamp.cells := by simp [State.bndIn]
theorem execWaleBnd_hamperCells (p : Fin 6) (b : WaleBlock) (s : State) : ∀ q1, (execWaleBnd p b s) = .next q1 → q1.hamp.cells = s.hamp.cells := by
  intro q1 h
  unfold execWaleBnd at h
  injection h with h
  subst h
  apply State.blockIn_hamperCells
  intro t
  split <;> simp
@[simp] theorem State.bndrefIn_hamperCells (s : State) (orig refusing : Nat) : (State.bndrefIn s orig refusing).hamp.cells = s.hamp.cells := by simp [State.bndrefIn]
theorem execWaleBndref_hamperCells (p : Fin 6) (b : WaleBlock) (s : State) : ∀ q1, (execWaleBndref p b s) = .next q1 → q1.hamp.cells = s.hamp.cells := by
  rintro q1 ⟨⟩; (repeat' split) <;> simp
@[simp] theorem State.tallyVote_hamperCells (s : State) (x : Instant) (dev : Nat) (ready : Bool) : (State.tallyVote s x dev ready).hamp.cells = s.hamp.cells := by simp [State.tallyVote]
@[simp] theorem State.voteOn_hamperCells (s : State) (x : Instant) (dev : Nat) (ready : Bool) : (State.voteOn s x dev ready).hamp.cells = s.hamp.cells := by simp [State.voteOn]
theorem execWaleVoteCutoff_hamperCells (src : Fin 64) (s : State) : ∀ q1, (execWaleVoteCutoff src s) = .next q1 → q1.hamp.cells = s.hamp.cells := by
  rintro q1 ⟨⟩; (repeat' split) <;> simp
theorem execWaleVote_hamperCells (p : Fin 6) (b : WaleBlock) (s : State) : ∀ q1, (execWaleVote p b s) = .next q1 → q1.hamp.cells = s.hamp.cells := by
  rintro q1 ⟨⟩; (repeat' split) <;> simp
@[simp] theorem State.verdictIn_hamperCells (s : State) (x : Instant) (ready : Bool) : (State.verdictIn s x ready).hamp.cells = s.hamp.cells := by simp [State.verdictIn]
theorem execWaleVerdictTimer_hamperCells (num den : Nat) (s : State) : ∀ q1, (execWaleVerdictTimer num den s) = .next q1 → q1.hamp.cells = s.hamp.cells := by
  rintro q1 ⟨⟩; simp
theorem execWaleVerdict_hamperCells (p : Fin 6) (b : WaleBlock) (s : State) : ∀ q1, (execWaleVerdict p b s) = .next q1 → q1.hamp.cells = s.hamp.cells := by
  rintro q1 ⟨⟩; (repeat' split) <;> simp
@[simp] theorem State.readyReport_hamperCells (s after : State) (src : Nat) (x : Instant) : (State.readyReport s after src x).hamp.cells = after.hamp.cells := by unfold State.readyReport; (repeat' split) <;> simp
theorem execWaleAlarm_hamperCells (p : Fin 6) (b : WaleBlock) (s : State) : ∀ q1, (execWaleAlarm p b s) = .next q1 → q1.hamp.cells = s.hamp.cells := by
  rintro q1 ⟨⟩; (repeat' split) <;> simp
@[simp] theorem State.sysdoneSend_hamperCells (s : State) : (State.sysdoneSend s).hamp.cells = s.hamp.cells := by simp [State.sysdoneSend]
@[simp] theorem State.rosterTake_hamperCells (s : State) : (State.rosterTake s).hamp.cells = s.hamp.cells := by simp [State.rosterTake]
theorem execWaleDoneUpSend_hamperCells (s : State) : ∀ q1, (execWaleDoneUpSend s) = .next q1 → q1.hamp.cells = s.hamp.cells := by
  rintro q1 ⟨⟩; simp
theorem execWaleDoneUp_hamperCells (p : Fin 6) (b : WaleBlock) (s : State) : ∀ q1, (execWaleDoneUp p b s) = .next q1 → q1.hamp.cells = s.hamp.cells := by
  rintro q1 ⟨⟩; (repeat' split) <;> simp
theorem execWaleSysdone_hamperCells (p : Fin 6) (b : WaleBlock) (s : State) : ∀ q1, (execWaleSysdone p b s) = .next q1 → q1.hamp.cells = s.hamp.cells := by
  rintro q1 ⟨⟩; (repeat' split) <;> simp
theorem execWaleSystemDoneInstant_hamperCells (s : State) : ∀ q1, (execWaleSystemDoneInstant s) = .next q1 → q1.hamp.cells = s.hamp.cells := by
  rintro q1 ⟨⟩; simp
theorem execWaleSleepMsg_hamperCells (p : Fin 6) (b : WaleBlock) (s : State) : ∀ q1, (execWaleSleepMsg p b s) = .next q1 → q1.hamp.cells = s.hamp.cells := by
  rintro q1 ⟨⟩; (repeat' split) <;> simp
@[simp] theorem State.awakeIn_hamperCells (s : State) (x : Nat) : (State.awakeIn s x).hamp.cells = s.hamp.cells := by simp [State.awakeIn]
theorem execWaleAwake_hamperCells (p : Fin 6) (b : WaleBlock) (s : State) : ∀ q1, (execWaleAwake p b s) = .next q1 → q1.hamp.cells = s.hamp.cells := by
  rintro q1 ⟨⟩; (repeat' split) <;> simp
theorem execWaleWake_hamperCells (p : Fin 6) (b : WaleBlock) (s : State) : ∀ q1, (execWaleWake p b s) = .next q1 → q1.hamp.cells = s.hamp.cells := by
  rintro q1 ⟨⟩; (repeat' split) <;> simp
@[simp] theorem State.waleSleep_hamperCells (s : State) : (State.waleSleep s).hamp.cells = s.hamp.cells := by simp [State.waleSleep]
@[simp] theorem State.waleWake_hamperCells (s : State) : (State.waleWake s).hamp.cells = s.hamp.cells := by simp [State.waleWake]
@[simp] theorem State.waleCfgWrite_hamperCells (s : State) (v : Word) : (State.waleCfgWrite s v).hamp.cells = s.hamp.cells := by simp [State.waleCfgWrite]

/-! HostPorts. -/

@[simp] theorem State.portStreamCut_hamperCells (s : State) (p : Fin 2) : (State.portStreamCut s p).hamp.cells = s.hamp.cells := by simp [State.portStreamCut]
@[simp] theorem State.pcieDown_hamperCells (s : State) (p : Fin 2) : (State.pcieDown s p).hamp.cells = s.hamp.cells := by simp [State.pcieDown]
@[simp] theorem State.epReset_hamperCells (s : State) (p : Fin 2) : (State.epReset s p).hamp.cells = s.hamp.cells := by simp [State.epReset]
@[simp] theorem State.pcieFlr_hamperCells (s : State) (p : Fin 2) : (State.pcieFlr s p).hamp.cells = s.hamp.cells := by simp [State.pcieFlr]
theorem execPcieLinkUp_hamperCells (port : Fin 2) (gen : BitVec 3) (width : BitVec 2) (s : State) : ∀ q1, (execPcieLinkUp port gen width s) = .next q1 → q1.hamp.cells = s.hamp.cells := by
  rintro q1 ⟨⟩; simp
theorem execPcieLinkDown_hamperCells (port : Fin 2) (s : State) : ∀ q1, (execPcieLinkDown port s) = .next q1 → q1.hamp.cells = s.hamp.cells := by
  rintro q1 ⟨⟩; simp
theorem execPcieFlr_hamperCells (port : Fin 2) (s : State) : ∀ q1, (execPcieFlr port s) = .next q1 → q1.hamp.cells = s.hamp.cells := by
  rintro q1 ⟨⟩; simp
theorem execPcieHotReset_hamperCells (port : Fin 2) (s : State) : ∀ q1, (execPcieHotReset port s) = .next q1 → q1.hamp.cells = s.hamp.cells := by
  rintro q1 ⟨⟩; simp
theorem execPciePerst_hamperCells (port : Fin 2) (s : State) : ∀ q1, (execPciePerst port s) = .next q1 → q1.hamp.cells = s.hamp.cells := by
  rintro q1 ⟨⟩; simp
theorem execPciePowerStateChange_hamperCells (port : Fin 2) (d3hot l1 : Bool) (cfg : EndpointCfg) (s : State) : ∀ q1, (execPciePowerStateChange port d3hot l1 cfg s) = .next q1 → q1.hamp.cells = s.hamp.cells := by
  rintro q1 ⟨⟩; simp
@[simp] theorem State.hpCtlWrite_hamperCells (s : State) (ag : Agent) (p : Fin 2) (v : Word) : (State.hpCtlWrite s ag p v).hamp.cells = s.hamp.cells := by simp [State.hpCtlWrite]
theorem execHpSpirel_hamperCells (ag : Agent) (port : Fin 2) (s : State) : ∀ q1, (execHpSpirel ag port s) = .next q1 → q1.hamp.cells = s.hamp.cells := by
  rintro q1 ⟨⟩; simp
@[simp] theorem State.windowWrite_hamperCells (s : State) (p : Fin 2) (spi : Bool) (ws : List Word) : (State.windowWrite s p spi ws).hamp.cells = s.hamp.cells := by simp [State.windowWrite]
@[simp] theorem State.hpSend_hamperCells (s : State) (ag : Agent) (p : Fin 2) (v : Word) : (State.hpSend s ag p v).hamp.cells = s.hamp.cells := by simp [State.hpSend]
theorem execHpSendEnd_hamperCells (ag : Agent) (port : Fin 2) (v : Word) (s : State) : ∀ q1, (execHpSendEnd ag port v s) = .next q1 → q1.hamp.cells = s.hamp.cells := by
  rintro q1 ⟨⟩; simp
@[simp] theorem State.sretRead_hamperCells (s : State) (p : Fin 2) : (State.sretRead s p).2.hamp.cells = s.hamp.cells := by unfold State.sretRead; dsimp only; repeat' first | (simp; done) | split
theorem execHpSretRead_hamperCells (ag : Agent) (port : Fin 2) (s : State) : ∀ q1, (execHpSretRead ag port s) = .next q1 → q1.hamp.cells = s.hamp.cells := by
  rintro q1 ⟨⟩; simp
@[simp] theorem State.spiAnswer_hamperCells (s : State) (p : Fin 2) : (State.spiAnswer s p).hamp.cells = s.hamp.cells := by simp [State.spiAnswer]
@[simp] theorem State.spiError_hamperCells (s : State) (p : Fin 2) : (State.spiError s p).hamp.cells = s.hamp.cells := by simp [State.spiError]
theorem execSpiFrameError_hamperCells (port : Fin 2) (s : State) : ∀ q1, (execSpiFrameError port s) = .next q1 → q1.hamp.cells = s.hamp.cells := by
  rintro q1 ⟨⟩; simp
@[simp] theorem State.semWrite_hamperCells (s : State) (ag : Agent) (n : Nat) (v : Word) : (State.semWrite s ag n v).hamp.cells = s.hamp.cells := by simp [State.semWrite]
theorem execSemAcquire_hamperCells (ag : Agent) (n : Fin 64) (s : State) : ∀ q1, (execSemAcquire ag n s) = .next q1 → q1.hamp.cells = s.hamp.cells := by
  rintro q1 ⟨⟩; simp
theorem execSemRelease_hamperCells (ag : Agent) (n : Fin 64) (s : State) : ∀ q1, (execSemRelease ag n s) = .next q1 → q1.hamp.cells = s.hamp.cells := by
  rintro q1 ⟨⟩; simp
@[simp] theorem State.semForce_hamperCells (s : State) (ag : Agent) (v : Word) : (State.semForce s ag v).hamp.cells = s.hamp.cells := by simp [State.semForce]
theorem execSemForce_hamperCells (ag : Agent) (v : Word) (s : State) : ∀ q1, (execSemForce ag v s) = .next q1 → q1.hamp.cells = s.hamp.cells := by
  rintro q1 ⟨⟩; simp
@[simp] theorem State.mailCtl_hamperCells (s : State) (ag : Agent) (m : Nat) (v : Word) : (State.mailCtl s ag m v).hamp.cells = s.hamp.cells := by simp [State.mailCtl]
@[simp] theorem State.mailData_hamperCells (s : State) (m i : Nat) (v : Word) : (State.mailData s m i v).hamp.cells = s.hamp.cells := by simp [State.mailData]
theorem execMbRing_hamperCells (ag : Agent) (m : Fin 16) (s : State) : ∀ q1, (execMbRing ag m s) = .next q1 → q1.hamp.cells = s.hamp.cells := by
  rintro q1 ⟨⟩; simp
theorem execMbAck_hamperCells (ag : Agent) (m : Fin 16) (s : State) : ∀ q1, (execMbAck ag m s) = .next q1 → q1.hamp.cells = s.hamp.cells := by
  rintro q1 ⟨⟩; simp
theorem execMbDataWrite_hamperCells (ag : Agent) (m : Fin 16) (i : Fin 8) (v : Word) (s : State) : ∀ q1, (execMbDataWrite ag m i v s) = .next q1 → q1.hamp.cells = s.hamp.cells := by
  rintro q1 ⟨⟩; simp

/-! Cluster. -/

@[simp] theorem State.coreRelease_hamperCells (s : State) (c : Nat) : (State.coreRelease s c).hamp.cells = s.hamp.cells := by simp [State.coreRelease]
@[simp] theorem State.clctlWrite_hamperCells (s : State) (v : Word) : (State.clctlWrite s v).hamp.cells = s.hamp.cells := by simp [State.clctlWrite]
theorem execClusterRunWrite_hamperCells (ag : Agent) (v : Word) (s : State) : ∀ q1, (execClusterRunWrite ag v s) = .next q1 → q1.hamp.cells = s.hamp.cells := by
  rintro q1 ⟨⟩; simp
@[simp] theorem State.setWd_hamperCells (s : State) (i : Nat) (w : WdSt) : (State.setWd s i w).hamp.cells = s.hamp.cells := by simp [State.setWd]
@[simp] theorem State.wdEnable_hamperCells (s : State) (i : Nat) (on : Bool) : (State.wdEnable s i on).hamp.cells = s.hamp.cells := by simp [State.wdEnable]
@[simp] theorem State.wdKick_hamperCells (s : State) (i : Nat) (v : Word) : (State.wdKick s i v).hamp.cells = s.hamp.cells := by simp [State.wdKick]
@[simp] theorem State.wdCore_hamperCells (s : State) (c : Nat) : (State.wdCore s c).hamp.cells = s.hamp.cells := by simp [State.wdCore]
@[simp] theorem State.wdExpire_hamperCells (s : State) (i : Nat) : (State.wdExpire s i).hamp.cells = s.hamp.cells := by simp [State.wdExpire]
theorem execWdEnable_hamperCells (i : Fin 5) (s : State) : ∀ q1, (execWdEnable i s) = .next q1 → q1.hamp.cells = s.hamp.cells := by
  rintro q1 ⟨⟩; simp
theorem execWdKick_hamperCells (i : Fin 5) (v : Word) (s : State) : ∀ q1, (execWdKick i v s) = .next q1 → q1.hamp.cells = s.hamp.cells := by
  rintro q1 ⟨⟩; simp
theorem execWdExpiry_hamperCells (i : Fin 5) (s : State) : ∀ q1, (execWdExpiry i s) = .next q1 → q1.hamp.cells = s.hamp.cells := by
  rintro q1 ⟨⟩; simp
@[simp] theorem State.wdTick_hamperCells (s : State) : (State.wdTick s).hamp.cells = s.hamp.cells := by simp [State.wdTick]
@[simp] theorem State.wdWrite_hamperCells (s : State) (i o : Nat) (v : Word) : (State.wdWrite s i o v).hamp.cells = s.hamp.cells := by unfold State.wdWrite; (repeat' split) <;> simp
@[simp] theorem State.setGw_hamperCells (s : State) (p : Nat) (g : GwSt) : (State.setGw s p g).hamp.cells = s.hamp.cells := by simp [State.setGw]
@[simp] theorem State.gwErr_hamperCells (s : State) (p i : Nat) : (State.gwErr s p i).hamp.cells = s.hamp.cells := by simp [State.gwErr]
@[simp] theorem State.gwAnswer_hamperCells (s : State) (o : GwOrigin) (bs : List (BitVec 64)) : (State.gwAnswer s o bs).hamp.cells = s.hamp.cells := by unfold State.gwAnswer; (repeat' split) <;> simp
theorem State.gwAccess_hamperCells (s : State) (o : GwOrigin) (req : WindowReq) : ∀ q1, (State.gwAccess s o req) = some q1 → q1.hamp.cells = s.hamp.cells := by
  intro q1 h
  simp only [State.gwAccess] at h
  (repeat' split at h) <;> simp_all <;> (try (subst h; simp))
@[simp] theorem State.gwEdge_hamperCells (s : State) (p : Nat) (ready : Bool) : (State.gwEdge s p ready).hamp.cells = s.hamp.cells := by unfold State.gwEdge; dsimp only; repeat' first | (simp; done) | split
@[simp] theorem State.gwBayEdge_hamperCells (s : State) (bay net : Nat) (ready : Bool) : (State.gwBayEdge s bay net ready).hamp.cells = s.hamp.cells := by unfold State.gwBayEdge; (repeat' split) <;> simp
@[simp] theorem State.gwReadEnd_hamperCells (s : State) (p : Nat) (r : GwRead) (bs : List (BitVec 64)) : (State.gwReadEnd s p r bs).hamp.cells = s.hamp.cells := by simp [State.gwReadEnd]
theorem execGwWindowResponse_hamperCells (port : Fin 4) (tag : Fin 32) (data : List (BitVec 64)) (err : Bool) (s : State) : ∀ q1, (execGwWindowResponse port tag data err s) = .next q1 → q1.hamp.cells = s.hamp.cells := by
  rintro q1 ⟨⟩; (repeat' split) <;> simp
theorem execGwWindowTimeout_hamperCells (port : Fin 4) (tag : Fin 32) (s : State) : ∀ q1, (execGwWindowTimeout port tag s) = .next q1 → q1.hamp.cells = s.hamp.cells := by
  rintro q1 ⟨⟩; (repeat' split) <;> simp
theorem execEventRaise_hamperCells (n : Fin 448) (s : State) : ∀ q1, (execEventRaise n s) = .next q1 → q1.hamp.cells = s.hamp.cells := by
  rintro q1 ⟨⟩; simp
theorem execUserEventEdge_hamperCells (w : Fin 2) (j : Fin 32) (s : State) : ∀ q1, (execUserEventEdge w j s) = .next q1 → q1.hamp.cells = s.hamp.cells := by
  rintro q1 ⟨⟩; simp
@[simp] theorem State.claim_hamperCells (s : State) (c : Nat) : (State.claim s c).2.hamp.cells = s.hamp.cells := by unfold State.claim; (repeat' split) <;> simp
theorem execEvtClaim_hamperCells (ag : Agent) (c : Fin 4) (s : State) : ∀ q1, (execEvtClaim ag c s) = .next q1 → q1.hamp.cells = s.hamp.cells := by
  rintro q1 ⟨⟩; simp
@[simp] theorem State.evtRaise_hamperCells (s : State) (v : Word) : (State.evtRaise s v).hamp.cells = s.hamp.cells := by simp [State.evtRaise]
theorem execEvtRaiseWrite_hamperCells (ag : Agent) (v : Word) (s : State) : ∀ q1, (execEvtRaiseWrite ag v s) = .next q1 → q1.hamp.cells = s.hamp.cells := by
  rintro q1 ⟨⟩; simp
@[simp] theorem State.evtSrcWrite_hamperCells (s : State) (n : Nat) (v : Word) : (State.evtSrcWrite s n v).hamp.cells = s.hamp.cells := by simp [State.evtSrcWrite]
@[simp] theorem State.evtThrWrite_hamperCells (s : State) (t : Nat) (v : Word) : (State.evtThrWrite s t v).hamp.cells = s.hamp.cells := by simp [State.evtThrWrite]
@[simp] theorem State.msixTableWrite_hamperCells (s : State) (p : Fin 2) (k : Nat) (v : Word) : (State.msixTableWrite s p k v).hamp.cells = s.hamp.cells := by simp [State.msixTableWrite]

/-! Domains. -/

@[simp] theorem State.wytheOff_hamperCells (s : State) (w : Nat) : (State.wytheOff s w).hamp.cells = s.hamp.cells := by simp [State.wytheOff]
@[simp] theorem State.lanesOff_hamperCells (s : State) (rs : List Nat) : (State.lanesOff s rs).hamp.cells = s.hamp.cells := by simp [State.lanesOff]
@[simp] theorem State.burnCut_hamperCells (s : State) : (State.burnCut s).hamp.cells = s.hamp.cells := by unfold State.burnCut; (repeat' split) <;> simp
@[simp] theorem State.repairCut_hamperCells (s : State) : (State.repairCut s).hamp.cells = s.hamp.cells := by unfold State.repairCut; (repeat' split) <;> simp
@[simp] theorem State.keepRegs_hamperCells (s t : State) (offs : List Nat) : (State.keepRegs s t offs).hamp.cells = t.hamp.cells := by simp [State.keepRegs]

/-! Sounding. -/

@[simp] theorem State.setPhase_hamperCells (s : State) (p : Nat) : (State.setPhase s p).hamp.cells = s.hamp.cells := by simp [State.setPhase]
@[simp] theorem State.sndResult_hamperCells (s : State) (code : Nat) : (State.sndResult s code).hamp.cells = s.hamp.cells := by simp [State.sndResult]
@[simp] theorem State.setSnd_hamperCells (s : State) (v : SndSt) : (State.setSnd s v).hamp.cells = s.hamp.cells := by simp [State.setSnd]
@[simp] theorem State.useSpare_hamperCells (s : State) (col : Nat) : (State.useSpare s col).hamp.cells = s.hamp.cells := by simp [State.useSpare]
@[simp] theorem State.setSteer_hamperCells (s : State) (n : Nat) (b : Bool) : (State.setSteer s n b).hamp.cells = s.hamp.cells := by simp [State.setSteer]
@[simp] theorem State.setCopying_hamperCells (s : State) (n : Nat) (b : Bool) : (State.setCopying s n b).hamp.cells = s.hamp.cells := by simp [State.setCopying]
@[simp] theorem State.rowRepair_hamperCells (s : State) (n rp : Nat) : (State.rowRepair s n rp).hamp.cells = s.hamp.cells := by simp [State.rowRepair]
@[simp] theorem State.rowRepairs_hamperCells (s : State) (n k : Nat) (first : Option Nat) : (State.rowRepairs s n k first).hamp.cells = s.hamp.cells := by unfold State.rowRepairs; (repeat' split) <;> simp
@[simp] theorem State.rowLost_hamperCells (s : State) (n rp : Nat) : (State.rowLost s n rp).hamp.cells = s.hamp.cells := by simp [State.rowLost]
@[simp] theorem State.spareRepair_hamperCells (s : State) (n : Nat) : (State.spareRepair s n).hamp.cells = s.hamp.cells := by simp [State.spareRepair]
@[simp] theorem State.fuseCount_hamperCells (s : State) : (State.fuseCount s).hamp.cells = s.hamp.cells := by simp [State.fuseCount]
@[simp] theorem State.fuseRepairs_hamperCells (s : State) : (State.fuseRepairs s).hamp.cells = s.hamp.cells := by simp [State.fuseRepairs]
@[simp] theorem State.fuseBoot_hamperCells (s : State) : (State.fuseBoot s).hamp.cells = s.hamp.cells := by simp [State.fuseBoot]
@[simp] theorem State.softRepair_hamperCells (s : State) : (State.softRepair s).hamp.cells = s.hamp.cells := by simp [State.softRepair]
@[simp] theorem State.repairCreel_hamperCells (s : State) (badSpares : List Nat) (n rowpairs : Nat) : (State.repairCreel s badSpares n rowpairs).2.hamp.cells = s.hamp.cells := by simp [State.repairCreel]
@[simp] theorem State.repairAll_hamperCells (s : State) (badSpares : List Nat) (x0 : List CreelFail) : (State.repairAll s badSpares x0).1.hamp.cells = s.hamp.cells := by
  induction x0 generalizing s badSpares with
  | nil => simp [State.repairAll]
  | cons a l ih => simp [State.repairAll, ih]
@[simp] theorem State.soundBays_hamperCells (s : State) (bays : List Nat) (rep : SoundReport) : (State.soundBays s bays rep).1.hamp.cells = s.hamp.cells := by simp [State.soundBays]
@[simp] theorem State.unrepairable_hamperCells (s : State) (bay : Nat) : (State.unrepairable s bay).hamp.cells = s.hamp.cells := by simp [State.unrepairable]
theorem execLoadingSoundingBatchDone_hamperCells (rep : SoundReport) (s : State) : ∀ q1, (execLoadingSoundingBatchDone rep s) = .next q1 → q1.hamp.cells = s.hamp.cells := by
  rintro q1 ⟨⟩; simp
@[simp] theorem State.sndRefuse_hamperCells (s : State) (code : Nat) : (State.sndRefuse s code).hamp.cells = s.hamp.cells := by simp [State.sndRefuse]
@[simp] theorem State.sndStart_hamperCells (s : State) : (State.sndStart s).hamp.cells = s.hamp.cells := by simp [State.sndStart]
@[simp] theorem State.sndGo_hamperCells (s : State) (v : Word) : (State.sndGo s v).hamp.cells = s.hamp.cells := by unfold State.sndGo; dsimp only; repeat' first | (simp; done) | split
@[simp] theorem State.sndBack_hamperCells (s : State) (res : Nat) : (State.sndBack s res).hamp.cells = s.hamp.cells := by simp [State.sndBack]
@[simp] theorem State.sndAbort_hamperCells (s : State) : (State.sndAbort s).hamp.cells = s.hamp.cells := by simp [State.sndAbort]
@[simp] theorem State.sndEnd_hamperCells (s : State) : (State.sndEnd s).hamp.cells = s.hamp.cells := by simp [State.sndEnd]
@[simp] theorem State.sndReqWrite_hamperCells (s : State) (v : Word) : (State.sndReqWrite s v).hamp.cells = s.hamp.cells := by simp [State.sndReqWrite]
theorem execSoundingRequest_hamperCells (ag : Agent) (v : Word) (s : State) : ∀ q1, (execSoundingRequest ag v s) = .next q1 → q1.hamp.cells = s.hamp.cells := by
  rintro q1 ⟨⟩; simp
theorem execSoundingAbort_hamperCells (ag : Agent) (s : State) : ∀ q1, (execSoundingAbort ag s) = .next q1 → q1.hamp.cells = s.hamp.cells := by
  rintro q1 ⟨⟩; simp
theorem execSoundingCopyDone_hamperCells (s : State) : ∀ q1, (execSoundingCopyDone s) = .next q1 → q1.hamp.cells = s.hamp.cells := by
  rintro q1 ⟨⟩; simp
@[simp] theorem State.sndRun_hamperCells (s : State) (r : SoundRun) : (State.sndRun s r).hamp.cells = s.hamp.cells := by simp [State.sndRun]
theorem execSoundingRunDone_hamperCells (r : SoundRun) (s : State) : ∀ q1, (execSoundingRunDone r s) = .next q1 → q1.hamp.cells = s.hamp.cells := by
  rintro q1 ⟨⟩; simp
theorem execSoundingMoveBackDone_hamperCells (s : State) : ∀ q1, (execSoundingMoveBackDone s) = .next q1 → q1.hamp.cells = s.hamp.cells := by
  rintro q1 ⟨⟩; simp
@[simp] theorem State.fuseGo_hamperCells (s : State) (v : Word) : (State.fuseGo s v).hamp.cells = s.hamp.cells := by simp [State.fuseGo]
theorem execFuseBurn_hamperCells (ag : Agent) (v : Word) (s : State) : ∀ q1, (execFuseBurn ag v s) = .next q1 → q1.hamp.cells = s.hamp.cells := by
  rintro q1 ⟨⟩; simp
@[simp] theorem State.fuseEffect_hamperCells (s : State) (e : Nat × Nat × Nat) : (State.fuseEffect s e).hamp.cells = s.hamp.cells := by simp [State.fuseEffect]
theorem execFuseBurnDone_hamperCells (s : State) : ∀ q1, (execFuseBurnDone s) = .next q1 → q1.hamp.cells = s.hamp.cells := by
  rintro q1 ⟨⟩; (repeat' split) <;> simp
@[simp] theorem State.staleClrWrite_hamperCells (s : State) (v : Word) : (State.staleClrWrite s v).hamp.cells = s.hamp.cells := by simp [State.staleClrWrite]
theorem execStaleClear_hamperCells (ag : Agent) (v : Word) (s : State) : ∀ q1, (execStaleClear ag v s) = .next q1 → q1.hamp.cells = s.hamp.cells := by
  rintro q1 ⟨⟩; simp
@[simp] theorem State.sndReload_hamperCells (s : State) : (State.sndReload s).hamp.cells = s.hamp.cells := by simp [State.sndReload]

/-! Loading. -/

@[simp] theorem State.readDir_hamperCells (s : State) : (State.readDir s).hamp.cells = s.hamp.cells := by simp [State.readDir]
@[simp] theorem State.strapLatch_hamperCells (s : State) (v : BitVec 7) : (State.strapLatch s v).hamp.cells = s.hamp.cells := by simp [State.strapLatch]
theorem execResetNFall_hamperCells (s : State) : ∀ q1, (execResetNFall s) = .next q1 → q1.hamp.cells = s.hamp.cells := by
  rintro q1 ⟨⟩; simp
theorem execStrapLatch_hamperCells (straps : BitVec 7) (s : State) : ∀ q1, (execStrapLatch straps s) = .next q1 → q1.hamp.cells = s.hamp.cells := by
  rintro q1 ⟨⟩; simp
theorem execXwaitExpiry_hamperCells (present : Bool) (s : State) : ∀ q1, (execXwaitExpiry present s) = .next q1 → q1.hamp.cells = s.hamp.cells := by
  rintro q1 ⟨⟩; simp
@[simp] theorem State.bootNames_hamperCells (s : State) (num : Nat) : (State.bootNames s num).hamp.cells = s.hamp.cells := by simp [State.bootNames]
@[simp] theorem State.keeperReads_hamperCells (s : State) (agree xref : Bool) : (State.keeperReads s agree xref).hamp.cells = s.hamp.cells := by simp [State.keeperReads]
@[simp] theorem State.keeperWork_hamperCells (s : State) (agree xref : Bool) : (State.keeperWork s agree xref).hamp.cells = s.hamp.cells := by simp [State.keeperWork]
@[simp] theorem State.testToken_hamperCells (s : State) (vinOk : Bool) : (State.testToken s vinOk).2.hamp.cells = s.hamp.cells := by unfold State.testToken; (repeat' split) <;> simp
@[simp] theorem State.factory_hamperCells (s : State) : (State.factory s).hamp.cells = s.hamp.cells := by simp [State.factory]
@[simp] theorem State.startTest_hamperCells (s : State) : (State.startTest s).hamp.cells = s.hamp.cells := by simp [State.startTest]
@[simp] theorem State.applyBanks_hamperCells (s : State) : (State.applyBanks s).hamp.cells = s.hamp.cells := by simp [State.applyBanks]
theorem execBankRepower_hamperCells (b : Fin 16) (s : State) : ∀ q1, (execBankRepower b s) = .next q1 → q1.hamp.cells = s.hamp.cells := by
  rintro q1 ⟨⟩; simp
@[simp] theorem State.applyWale_hamperCells (s : State) : (State.applyWale s).hamp.cells = s.hamp.cells := by simp [State.applyWale]
@[simp] theorem State.startCals_hamperCells (s : State) : (State.startCals s).hamp.cells = s.hamp.cells := by simp [State.startCals]
@[simp] theorem State.journalErase_hamperCells (s : State) : (State.journalErase s).hamp.cells = s.hamp.cells := by simp [State.journalErase]
@[simp] theorem State.firstAttempt_hamperCells (s : State) : (State.firstAttempt s).hamp.cells = s.hamp.cells := by simp [State.firstAttempt]
@[simp] theorem State.loadingEntry_hamperCells (s : State) : (State.loadingEntry s).hamp.cells = s.hamp.cells := by simp [State.loadingEntry]
@[simp] theorem State.leaveInit_hamperCells (s : State) (bays : Nat) : (State.leaveInit s bays).hamp.cells = s.hamp.cells := by simp [State.leaveInit]
@[simp] theorem State.enableOuts_hamperCells (s : State) (edge : Nat) : (State.enableOuts s edge).hamp.cells = s.hamp.cells := by simp [State.enableOuts]
theorem execPriorityInitLeave_hamperCells (s : State) : ∀ q1, (execPriorityInitLeave s) = .next q1 → q1.hamp.cells = s.hamp.cells := by
  rintro q1 ⟨⟩; simp
theorem execPriorityOutputEnable_hamperCells (s : State) : ∀ q1, (execPriorityOutputEnable s) = .next q1 → q1.hamp.cells = s.hamp.cells := by
  rintro q1 ⟨⟩; simp
@[simp] theorem State.bondRelease_hamperCells (s : State) : (State.bondRelease s).hamp.cells = s.hamp.cells := by simp [State.bondRelease]
@[simp] theorem State.enterRun_hamperCells (s : State) : (State.enterRun s).hamp.cells = s.hamp.cells := by simp [State.enterRun]
theorem execReleaseStart_hamperCells (s : State) : ∀ q1, (execReleaseStart s) = .next q1 → q1.hamp.cells = s.hamp.cells := by
  rintro q1 ⟨⟩; simp
theorem execReleaseInitLeave_hamperCells (s : State) : ∀ q1, (execReleaseInitLeave s) = .next q1 → q1.hamp.cells = s.hamp.cells := by
  rintro q1 ⟨⟩; simp
theorem execReleaseOutputEnable_hamperCells (s : State) : ∀ q1, (execReleaseOutputEnable s) = .next q1 → q1.hamp.cells = s.hamp.cells := by
  rintro q1 ⟨⟩; simp
theorem execReleaseDoneRelease_hamperCells (s : State) : ∀ q1, (execReleaseDoneRelease s) = .next q1 → q1.hamp.cells = s.hamp.cells := by
  rintro q1 ⟨⟩; simp
theorem execDoneHigh_hamperCells (s : State) : ∀ q1, (execDoneHigh s) = .next q1 → q1.hamp.cells = s.hamp.cells := by
  rintro q1 ⟨⟩; simp
theorem execJournalEraseStart_hamperCells (s : State) : ∀ q1, (execJournalEraseStart s) = .next q1 → q1.hamp.cells = s.hamp.cells := by
  rintro q1 ⟨⟩; simp
@[simp] theorem State.bootClrWrite_hamperCells (s : State) (v : Word) : (State.bootClrWrite s v).hamp.cells = s.hamp.cells := by simp [State.bootClrWrite]
theorem execBootClear_hamperCells (ag : Agent) (v : Word) (s : State) : ∀ q1, (execBootClear ag v s) = .next q1 → q1.hamp.cells = s.hamp.cells := by
  rintro q1 ⟨⟩; simp

/-! Power. -/

@[simp] theorem State.setPwr_hamperCells (s : State) (p : PwrSt) : (State.setPwr s p).hamp.cells = s.hamp.cells := by simp [State.setPwr]
@[simp] theorem State.pwrResult_hamperCells (s : State) (code kind domain : Nat) : (State.pwrResult s code kind domain).hamp.cells = s.hamp.cells := by simp [State.pwrResult]
@[simp] theorem State.setAsked_hamperCells (s : State) (v : Option Word) : (State.setAsked s v).hamp.cells = s.hamp.cells := by simp [State.setAsked]
@[simp] theorem State.setMstate_hamperCells (s : State) (v : Nat) : (State.setMstate s v).hamp.cells = s.hamp.cells := by simp [State.setMstate]
@[simp] theorem State.rampTo_hamperCells (s : State) (l : Nat × Nat) (byReq : Bool) : (State.rampTo s l byReq).hamp.cells = s.hamp.cells := by simp [State.rampTo]
@[simp] theorem State.rampLevels_hamperCells (s : State) : (State.rampLevels s).hamp.cells = s.hamp.cells := by simp [State.rampLevels]
@[simp] theorem State.drainStart_hamperCells (s : State) (mode : Nat) : (State.drainStart s mode).hamp.cells = s.hamp.cells := by simp [State.drainStart]
@[simp] theorem State.drainEnd_hamperCells (s : State) : (State.drainEnd s).hamp.cells = s.hamp.cells := by simp [State.drainEnd]
@[simp] theorem State.dozeEnter_hamperCells (s : State) : (State.dozeEnter s).hamp.cells = s.hamp.cells := by simp [State.dozeEnter]
@[simp] theorem State.modeBegin_hamperCells (s : State) (mode : Nat) : (State.modeBegin s mode).hamp.cells = s.hamp.cells := by unfold State.modeBegin; (repeat' split) <;> simp
@[simp] theorem State.plReqWrite_hamperCells (s : State) (v : Word) : (State.plReqWrite s v).hamp.cells = s.hamp.cells := by simp [State.plReqWrite]
theorem execPlRequest_hamperCells (ag : Agent) (v : Word) (s : State) : ∀ q1, (execPlRequest ag v s) = .next q1 → q1.hamp.cells = s.hamp.cells := by
  rintro q1 ⟨⟩; simp
@[simp] theorem State.plLatch_hamperCells (s : State) (src : Nat) : (State.plLatch s src).hamp.cells = s.hamp.cells := by unfold State.plLatch; (repeat' split) <;> simp
@[simp] theorem State.breachTest_hamperCells (s t : State) (src : Nat) : (s.breachTest t src).hamp.cells = s.hamp.cells := by
  unfold State.breachTest
  split
  · rfl
  · split <;> rfl
@[simp] theorem State.plDeliver_hamperCells (s : State) (src : Nat) : (State.plDeliver s src).hamp.cells = s.hamp.cells := by unfold State.plDeliver; dsimp only; repeat' first | (simp; done) | split
@[simp] theorem State.mreqWrite_hamperCells (s : State) (v : Word) : (State.mreqWrite s v).hamp.cells = s.hamp.cells := by unfold State.mreqWrite; dsimp only; repeat' first | (simp; done) | split
theorem execModeRequestDoze_hamperCells (ag : Agent) (s : State) : ∀ q1, (execModeRequestDoze ag s) = .next q1 → q1.hamp.cells = s.hamp.cells := by
  rintro q1 ⟨⟩; simp
theorem execModeRequestSleep_hamperCells (ag : Agent) (s : State) : ∀ q1, (execModeRequestSleep ag s) = .next q1 → q1.hamp.cells = s.hamp.cells := by
  rintro q1 ⟨⟩; simp
theorem execModeRequestStandby_hamperCells (ag : Agent) (s : State) : ∀ q1, (execModeRequestStandby ag s) = .next q1 → q1.hamp.cells = s.hamp.cells := by
  rintro q1 ⟨⟩; simp
@[simp] theorem State.clocksStop_hamperCells (s : State) : (State.clocksStop s).hamp.cells = s.hamp.cells := by simp [State.clocksStop]
@[simp] theorem State.sleepSteps_hamperCells (s : State) : (State.sleepSteps s).hamp.cells = s.hamp.cells := by simp [State.sleepSteps]
@[simp] theorem State.wakeRecord_hamperCells (s : State) (first : Bool) (src port from_ : Nat) : (State.wakeRecord s first src port from_).hamp.cells = s.hamp.cells := by simp [State.wakeRecord]
@[simp] theorem State.sleepWake_hamperCells (s : State) : (State.sleepWake s).hamp.cells = s.hamp.cells := by simp [State.sleepWake]
theorem execSleepEntered_hamperCells (s : State) : ∀ q1, (execSleepEntered s) = .next q1 → q1.hamp.cells = s.hamp.cells := by
  rintro q1 ⟨⟩; simp
@[simp] theorem State.staleCluster_hamperCells (s : State) : (State.staleCluster s).hamp.cells = s.hamp.cells := by simp [State.staleCluster]
@[simp] theorem State.gradientTest_hamperCells (s : State) (i : Nat) (diff limit rearm : Int) : (State.gradientTest s i diff limit rearm).hamp.cells = s.hamp.cells := by simp [State.gradientTest]
@[simp] theorem State.tempWarning_hamperCells (s : State) (top : Int) : (State.tempWarning s top).hamp.cells = s.hamp.cells := by simp [State.tempWarning]
theorem execRailWarning_hamperCells (r : Fin 26) (s : State) : ∀ q1, (execRailWarning r s) = .next q1 → q1.hamp.cells = s.hamp.cells := by
  rintro q1 ⟨⟩; simp
theorem execVinLow_hamperCells (s : State) : ∀ q1, (execVinLow s) = .next q1 → q1.hamp.cells = s.hamp.cells := by
  rintro q1 ⟨⟩; simp
theorem execVbatLow_hamperCells (s : State) : ∀ q1, (execVbatLow s) = .next q1 → q1.hamp.cells = s.hamp.cells := by
  rintro q1 ⟨⟩; simp
theorem execProgramNRise_hamperCells (s : State) : ∀ q1, (execProgramNRise s) = .next q1 → q1.hamp.cells = s.hamp.cells := by
  rintro q1 ⟨⟩; simp

/-! LifeCycle. -/

@[simp] theorem State.lcRefuse_hamperCells (s : State) (jtag : Bool) (code : Nat) : (State.lcRefuse s jtag code).hamp.cells = s.hamp.cells := by simp [State.lcRefuse]
@[simp] theorem State.lcPresent_hamperCells (s : State) (jtag : Bool) (bytes : List Byte) : (State.lcPresent s jtag bytes).hamp.cells = s.hamp.cells := by simp [State.lcPresent]
@[simp] theorem State.lcGo_hamperCells (s : State) : (State.lcGo s).hamp.cells = s.hamp.cells := by simp [State.lcGo]
@[simp] theorem State.lcClear_hamperCells (s : State) : (State.lcClear s).hamp.cells = s.hamp.cells := by simp [State.lcClear]
@[simp] theorem State.reqctlWrite_hamperCells (s : State) (v : Word) : (State.reqctlWrite s v).hamp.cells = s.hamp.cells := by simp [State.reqctlWrite]
@[simp] theorem State.reqbufWrite_hamperCells (s : State) (i : Nat) (v : Word) : (State.reqbufWrite s i v).hamp.cells = s.hamp.cells := by simp [State.reqbufWrite]
@[simp] theorem State.lcJtagToken_hamperCells (s : State) : (State.lcJtagToken s).hamp.cells = s.hamp.cells := by unfold State.lcJtagToken; (repeat' split) <;> simp
@[simp] theorem State.zeroise_hamperCells (s : State) (cause : Nat) : (State.zeroise s cause).hamp.cells = s.hamp.cells := by simp [State.zeroise]
@[simp] theorem State.burnBegins_hamperCells (s : State) (r : LcReq) : (State.burnBegins s r).hamp.cells = s.hamp.cells := by simp [State.burnBegins]
@[simp] theorem State.lcVerified_hamperCells (s : State) (r : LcReq) (vinOk : Bool) : (State.lcVerified s r vinOk).hamp.cells = s.hamp.cells := by unfold State.lcVerified; (repeat' split) <;> simp
@[simp] theorem State.loadBbr_hamperCells (s : State) (k : Nat) : (State.loadBbr s k).hamp.cells = s.hamp.cells := by simp [State.loadBbr]
@[simp] theorem State.loadFuseKey_hamperCells (s : State) : (State.loadFuseKey s).hamp.cells = s.hamp.cells := by simp [State.loadFuseKey]
@[simp] theorem State.lcPendingState_hamperCells (s : State) (next : Nat) : (State.lcPendingState s next).hamp.cells = s.hamp.cells := by simp [State.lcPendingState]
@[simp] theorem State.lcDone_hamperCells (s : State) (jtag : Bool) : (State.lcDone s jtag).hamp.cells = s.hamp.cells := by simp [State.lcDone]
@[simp] theorem State.lcAction_hamperCells (s : State) (r : LcReq) : (State.lcAction s r).hamp.cells = s.hamp.cells := by unfold State.lcAction; (repeat' split) <;> simp
@[simp] theorem State.lcBurnt_hamperCells (s : State) (r : LcReq) (fs : List FuseRef) (failed : Option Nat) : (State.lcBurnt s r fs failed).hamp.cells = s.hamp.cells := by unfold State.lcBurnt; (repeat' split) <;> simp
theorem execLcTransition_hamperCells (ag : Agent) (s : State) : ∀ q1, (execLcTransition ag s) = .next q1 → q1.hamp.cells = s.hamp.cells := by
  rintro q1 ⟨⟩; simp
theorem execLcSetOwner_hamperCells (ag : Agent) (s : State) : ∀ q1, (execLcSetOwner ag s) = .next q1 → q1.hamp.cells = s.hamp.cells := by
  rintro q1 ⟨⟩; simp
theorem execLcSetKeyFuse_hamperCells (ag : Agent) (s : State) : ∀ q1, (execLcSetKeyFuse ag s) = .next q1 → q1.hamp.cells = s.hamp.cells := by
  rintro q1 ⟨⟩; simp
theorem execLcLoadKeyBbr_hamperCells (ag : Agent) (s : State) : ∀ q1, (execLcLoadKeyBbr ag s) = .next q1 → q1.hamp.cells = s.hamp.cells := by
  rintro q1 ⟨⟩; simp
theorem execLcClearKeyBbr_hamperCells (ag : Agent) (s : State) : ∀ q1, (execLcClearKeyBbr ag s) = .next q1 → q1.hamp.cells = s.hamp.cells := by
  rintro q1 ⟨⟩; simp
theorem execLcDebugToken_hamperCells (ag : Agent) (jtag : Bool) (s : State) : ∀ q1, (execLcDebugToken ag jtag s) = .next q1 → q1.hamp.cells = s.hamp.cells := by
  rintro q1 ⟨⟩; simp
theorem execLcReqbufClear_hamperCells (ag : Agent) (s : State) : ∀ q1, (execLcReqbufClear ag s) = .next q1 → q1.hamp.cells = s.hamp.cells := by
  rintro q1 ⟨⟩; simp
theorem execLcRequestVerified_hamperCells (vinOk : Bool) (s : State) : ∀ q1, (execLcRequestVerified vinOk s) = .next q1 → q1.hamp.cells = s.hamp.cells := by
  rintro q1 ⟨⟩; (repeat' split) <;> simp
theorem execLcBurnDone_hamperCells (failed : Option Nat) (s : State) : ∀ q1, (execLcBurnDone failed s) = .next q1 → q1.hamp.cells = s.hamp.cells := by
  rintro q1 ⟨⟩; (repeat' split) <;> simp
theorem execTamperEvent_hamperCells (cause : Fin 3) (s : State) : ∀ q1, (execTamperEvent cause s) = .next q1 → q1.hamp.cells = s.hamp.cells := by
  rintro q1 ⟨⟩; simp
@[simp] theorem State.tamperWrite_hamperCells (s : State) (v : Word) : (State.tamperWrite s v).hamp.cells = s.hamp.cells := by simp [State.tamperWrite]
theorem execZeroiseWrite_hamperCells (ag : Agent) (v : Word) (s : State) : ∀ q1, (execZeroiseWrite ag v s) = .next q1 → q1.hamp.cells = s.hamp.cells := by
  rintro q1 ⟨⟩; simp
@[simp] theorem State.debugWrite_hamperCells (s : State) (v : Word) : (State.debugWrite s v).hamp.cells = s.hamp.cells := by simp [State.debugWrite]
theorem execDebugClose_hamperCells (ag : Agent) (s : State) : ∀ q1, (execDebugClose ag s) = .next q1 → q1.hamp.cells = s.hamp.cells := by
  rintro q1 ⟨⟩; simp
@[simp] theorem State.tapInstr_hamperCells (s : State) (code : Nat) : (State.tapInstr s code).hamp.cells = s.hamp.cells := by simp [State.tapInstr]
@[simp] theorem State.tapCapture_hamperCells (s : State) (code : Nat) (w : Word) : (State.tapCapture s code w).hamp.cells = s.hamp.cells := by simp [State.tapCapture]
theorem execJtagTapReset_hamperCells (s : State) : ∀ q1, (execJtagTapReset s) = .next q1 → q1.hamp.cells = s.hamp.cells := by
  rintro q1 ⟨⟩; simp
theorem execJtagLcTokenUpdate_hamperCells (shifts : Nat) (bytes : List Byte) (s : State) : ∀ q1, (execJtagLcTokenUpdate shifts bytes s) = .next q1 → q1.hamp.cells = s.hamp.cells := by
  rintro q1 ⟨⟩; simp
theorem execJtagExtest_hamperCells (s : State) : ∀ q1, (execJtagExtest s) = .next q1 → q1.hamp.cells = s.hamp.cells := by
  rintro q1 ⟨⟩; simp
theorem execJtagClamp_hamperCells (s : State) : ∀ q1, (execJtagClamp s) = .next q1 → q1.hamp.cells = s.hamp.cells := by
  rintro q1 ⟨⟩; simp
theorem execJtagHighz_hamperCells (s : State) : ∀ q1, (execJtagHighz s) = .next q1 → q1.hamp.cells = s.hamp.cells := by
  rintro q1 ⟨⟩; simp
theorem execJtagIdcode_hamperCells (s : State) : ∀ q1, (execJtagIdcode s) = .next q1 → q1.hamp.cells = s.hamp.cells := by
  rintro q1 ⟨⟩; simp
theorem execJtagSamplePreload_hamperCells (s : State) : ∀ q1, (execJtagSamplePreload s) = .next q1 → q1.hamp.cells = s.hamp.cells := by
  rintro q1 ⟨⟩; simp
theorem execJtagLcToken_hamperCells (s : State) : ∀ q1, (execJtagLcToken s) = .next q1 → q1.hamp.cells = s.hamp.cells := by
  rintro q1 ⟨⟩; simp
theorem execJtagLcStatus_hamperCells (s : State) : ∀ q1, (execJtagLcStatus s) = .next q1 → q1.hamp.cells = s.hamp.cells := by
  rintro q1 ⟨⟩; simp
theorem execJtagDmi_hamperCells (s : State) : ∀ q1, (execJtagDmi s) = .next q1 → q1.hamp.cells = s.hamp.cells := by
  rintro q1 ⟨⟩; simp
theorem execJtagGrenricTest_hamperCells (code : Fin 16) (s : State) : ∀ q1, (execJtagGrenricTest code s) = .next q1 → q1.hamp.cells = s.hamp.cells := by
  rintro q1 ⟨⟩; simp
theorem execJtagBypass_hamperCells (s : State) : ∀ q1, (execJtagBypass s) = .next q1 → q1.hamp.cells = s.hamp.cells := by
  rintro q1 ⟨⟩; simp

/-! Gates. -/

@[simp] theorem State.gateRequest_hamperCells (s : State) (ag : Agent) (i : Nat) : (State.gateRequest s ag i).hamp.cells = s.hamp.cells := by simp [State.gateRequest]
@[simp] theorem State.gateApply_hamperCells (s : State) (i : Nat) : (State.gateApply s i).hamp.cells = s.hamp.cells := by simp [State.gateApply]
@[simp] theorem State.gateRefuse_hamperCells (s : State) (i : Nat) : (State.gateRefuse s i).hamp.cells = s.hamp.cells := by simp [State.gateRefuse]
@[simp] theorem State.gateOpens_hamperCells (s : State) (i : Nat) : (State.gateOpens s i).hamp.cells = s.hamp.cells := by simp [State.gateOpens]
@[simp] theorem State.hgreqWrite_hamperCells (s : State) (ag : Agent) (j : Nat) (v : Word) : (State.hgreqWrite s ag j v).hamp.cells = s.hamp.cells := by simp [State.hgreqWrite]
theorem execHardBlockGateRequest_hamperCells (ag : Agent) (blk : Fin 64) (s : State) : ∀ q1, (execHardBlockGateRequest ag blk s) = .next q1 → q1.hamp.cells = s.hamp.cells := by
  rintro q1 ⟨⟩; simp
theorem execHardBlockGateApply_hamperCells (blk : Fin 64) (s : State) : ∀ q1, (execHardBlockGateApply blk s) = .next q1 → q1.hamp.cells = s.hamp.cells := by
  rintro q1 ⟨⟩; simp
theorem execHardBlockGateRefused_hamperCells (blk : Fin 64) (s : State) : ∀ q1, (execHardBlockGateRefused blk s) = .next q1 → q1.hamp.cells = s.hamp.cells := by
  rintro q1 ⟨⟩; simp
theorem execHardBlockGateOpen_hamperCells (ag : Agent) (blk : Fin 64) (s : State) : ∀ q1, (execHardBlockGateOpen ag blk s) = .next q1 → q1.hamp.cells = s.hamp.cells := by
  rintro q1 ⟨⟩; simp

/-! Boundary. -/

@[simp] theorem State.mbWrite_hamperCells (s : State) (i : Nat) (v : Word) : (State.mbWrite s i v).hamp.cells = s.hamp.cells := by simp [State.mbWrite]
theorem execMbFire_hamperCells (ag : Agent) (i : Fin 8) (ctl : Word) (s : State) : ∀ q1, (execMbFire ag i ctl s) = .next q1 → q1.hamp.cells = s.hamp.cells := by
  rintro q1 ⟨⟩; simp
@[simp] theorem State.clockApply_hamperCells (s : State) (vals : List (Nat × Word)) : (State.clockApply s vals).hamp.cells = s.hamp.cells := by simp [State.clockApply]
@[simp] theorem State.latch_hamperCells (s : State) (src : Nat) (x : Instant) : (State.latch s src x).hamp.cells = s.hamp.cells := by simp [State.latch]
theorem execBoundaryLatch_hamperCells (src : Fin 64) (s : State) : ∀ q1, (execBoundaryLatch src s) = .next q1 → q1.hamp.cells = s.hamp.cells := by
  rintro q1 ⟨⟩; (repeat' split) <;> simp
@[simp] theorem State.rwbApply_hamperCells (s : State) (x : Instant) (vals : List (Nat × Word)) : (State.rwbApply s x vals).hamp.cells = s.hamp.cells := by
  unfold State.rwbApply
  dsimp only
  rw [foldl_hamperCells _ (fun t n => State.laneCfgApply_hamperCells t n vals),
    foldl_hamperCells _ (fun t q => State.qpllApply_hamperCells t q vals), State.fbrsApply_hamperCells,
    foldl_hamperCells _ (fun t g => State.genApply_hamperCells t g x vals), foldl_hamperCells, foldl_hamperCells]
  · intro t b; split <;> simp
  · intro t i; split <;> simp
@[simp] theorem State.genEvent_hamperCells (s : State) (g : Nat) (x : Instant) (kept : Bool) : (State.genEvent s g x kept).hamp.cells = s.hamp.cells := by unfold State.genEvent; dsimp only; repeat' first | (simp; done) | split
@[simp] theorem State.instantOver_hamperCells (s : State) (src : Nat) (x : Instant) (kept : Bool) : (State.instantOver s src x kept).hamp.cells = s.hamp.cells := by unfold State.instantOver; (repeat' split) <;> simp
@[simp] theorem State.tapsOf_hamperCells (s : State) (src : Nat) (x : Instant) : (State.tapsOf s src x).hamp.cells = s.hamp.cells := by simp [State.tapsOf]
@[simp] theorem State.eventLines_hamperCells (s : State) (src : Nat) : (State.eventLines s src).hamp.cells = s.hamp.cells := by simp [State.eventLines]

/-! Pins. -/

@[simp] theorem State.setPad_hamperCells (s : State) (n : Nat) (p : PadSt) : (State.setPad s n p).hamp.cells = s.hamp.cells := by simp [State.setPad]
@[simp] theorem State.padEdge_hamperCells (s : State) (k net i : Nat) (pins : PadPins) : (State.padEdge s k net i pins).hamp.cells = s.hamp.cells := by simp [State.padEdge]
@[simp] theorem State.padsEdge_hamperCells (s : State) (k net : Nat) (p : EdgePins) : (State.padsEdge s k net p).hamp.cells = s.hamp.cells := by simp [State.padsEdge]

/-! Manager. -/

@[simp] theorem State.rqGo_hamperCells (s : State) (n : Nat) : (State.rqGo s n).hamp.cells = s.hamp.cells := by simp [State.rqGo]
@[simp] theorem State.rqCtlWrite_hamperCells (s : State) (n : Nat) (v : Word) : (State.rqCtlWrite s n v).hamp.cells = s.hamp.cells := by simp [State.rqCtlWrite]
@[simp] theorem State.waleWrite_hamperCells (s : State) (off : Nat) (v : Word) : (State.waleWrite s off v).hamp.cells = s.hamp.cells := by simp [State.waleWrite]
@[simp] theorem State.lcWrite_hamperCells (s : State) (off : Nat) (v : Word) : (State.lcWrite s off v).hamp.cells = s.hamp.cells := by simp [State.lcWrite]
@[simp] theorem State.mailWrite_hamperCells (s : State) (ag : Agent) (m o : Nat) (v : Word) : (State.mailWrite s ag m o v).hamp.cells = s.hamp.cells := by simp [State.mailWrite]
@[simp] theorem State.semBlockWrite_hamperCells (s : State) (ag : Agent) (off : Nat) (v : Word) : (State.semBlockWrite s ag off v).hamp.cells = s.hamp.cells := by simp [State.semBlockWrite]
@[simp] theorem State.evtWrite_hamperCells (s : State) (off : Nat) (v : Word) : (State.evtWrite s off v).hamp.cells = s.hamp.cells := by simp [State.evtWrite]
@[simp] theorem State.hpWrite_hamperCells (s : State) (ag : Agent) (p : Fin 2) (off : Nat) (v : Word) : (State.hpWrite s ag p off v).hamp.cells = s.hamp.cells := by simp [State.hpWrite]
@[simp] theorem State.pwrWrite_hamperCells (s : State) (off : Nat) (v : Word) : (State.pwrWrite s off v).hamp.cells = s.hamp.cells := by simp [State.pwrWrite]
@[simp] theorem State.sndWrite_hamperCells (s : State) (off : Nat) (v : Word) : (State.sndWrite s off v).hamp.cells = s.hamp.cells := by simp [State.sndWrite]
@[simp] theorem State.timeWrite_hamperCells (s : State) (ag : Agent) (off : Nat) (v : Word) : (State.timeWrite s ag off v).hamp.cells = s.hamp.cells := by simp [State.timeWrite]
@[simp] theorem State.measured_hamperCells (s : State) (off : Nat) : (State.measured s off).2.hamp.cells = s.hamp.cells := by simp [State.measured]
@[simp] theorem State.mgrValue_hamperCells (s : State) (ag : Agent) (off : Nat) : (State.mgrValue s ag off).2.hamp.cells = s.hamp.cells := by simp [State.mgrValue]
@[simp] theorem State.mgrRead_hamperCells (s : State) (ag : Agent) (off : Nat) : (State.mgrRead s ag off).2.hamp.cells = s.hamp.cells := by unfold State.mgrRead; (repeat' split) <;> simp

/-! Access. -/

@[simp] theorem State.sramStore_hamperCells (s : State) (a : Nat) (x0 : List Byte) : (State.sramStore s a x0).hamp.cells = s.hamp.cells := by
  induction x0 generalizing s a with
  | nil => simp [State.sramStore]
  | cons a l ih => simp [State.sramStore, ih]
@[simp] theorem State.mgrReads_hamperCells (s : State) (ag : Agent) (off : Nat) (x0 : Nat) : (State.mgrReads s ag off x0).2.hamp.cells = s.hamp.cells := by
  induction x0 generalizing s ag off with
  | zero => simp [State.mgrReads]
  | succ n ih => simp [State.mgrReads, ih]
@[simp] theorem State.flashReads_hamperCells (s : State) (ag : Agent) (off : Nat) (x0 : Nat) : (State.flashReads s ag off x0).2.hamp.cells = s.hamp.cells := by
  induction x0 generalizing s ag off with
  | zero => rfl
  | succ n ih =>
    have e := State.flashRead_hamperCells s ag off
    unfold State.flashReads
    split <;> (rename_i hr; rw [hr] at e; dsimp only at e ⊢; simp [ih, e])
@[simp] theorem State.flashWrites_hamperCells (s : State) (ag : Agent) (off : Nat) (x0 : List Word) : (State.flashWrites s ag off x0).hamp.cells = s.hamp.cells := by
  induction x0 generalizing s ag off with
  | nil => simp [State.flashWrites]
  | cons a l ih => simp [State.flashWrites, ih]
theorem State.windowPlace_hamperCells (s : State) (origin : Nat → GwOrigin) (data : Option (List Byte)) (o0 : Nat) (x0 : List ((Nat × Nat) × Nat)) : ∀ q1, (State.windowPlace s origin data o0 x0) = some q1 → q1.hamp.cells = s.hamp.cells := by
  induction x0 generalizing s with
  | nil => intro q1 h; cases h; rfl
  | cons a l ih =>
    intro q1 h
    unfold State.windowPlace at h
    split at h
    · cases h
    · split at h
      · cases h
      · rename_i hg
        rw [ih _ _ h]
        exact State.gwAccess_hamperCells _ _ _ _ hg
theorem State.windowAccess_hamperCells (s : State) (origin : Nat → GwOrigin) (o n : Nat) (data : Option (List Byte)) : ∀ q1, (State.windowAccess s origin o n data) = some q1 → q1.hamp.cells = s.hamp.cells := by
  intro q1 h
  exact State.windowPlace_hamperCells _ _ _ _ _ _ h
@[simp] theorem State.inboundEnd_hamperCells (s : State) (b : WaleBlock) (status : Nat) (ws : List Word) : (State.inboundEnd s b status ws).hamp.cells = s.hamp.cells := by simp [State.inboundEnd]
@[simp] theorem State.inboundSram_hamperCells (s : State) (b : WaleBlock) (o mem : Nat) : (State.inboundSram s b o mem).hamp.cells = s.hamp.cells := by simp [State.inboundSram]
theorem State.inboundWindow_hamperCells (s : State) (b : WaleBlock) (o : Nat) : ∀ q1, (State.inboundWindow s b o) = some q1 → q1.hamp.cells = s.hamp.cells := by
  intro q1 h
  unfold State.inboundWindow at h
  split at h
  · rw [Option.map_eq_some_iff] at h
    obtain ⟨t, ht, rfl⟩ := h
    rw [State.inboundEnd_hamperCells]
    exact State.windowAccess_hamperCells _ _ _ _ _ _ ht
  · exact State.windowAccess_hamperCells _ _ _ _ _ _ h
theorem State.answerNext_hamperCells (s : State) : ∀ q1, (State.answerNext s) = some q1 → q1.hamp.cells = s.hamp.cells := by
  intro q1 h
  simp only [State.answerNext] at h
  (repeat' split at h) <;> simp_all <;> (try (subst h; simp))
@[simp] theorem State.spiReadWord_hamperCells (s : State) (p : Fin 2) (a : Nat) : (State.spiReadWord s p a).2.hamp.cells = s.hamp.cells := by unfold State.spiReadWord; (repeat' split) <;> simp
@[simp] theorem State.spiReads_hamperCells (s : State) (p : Fin 2) (a : Nat) (x0 : Nat) : (State.spiReads s p a x0).2.hamp.cells = s.hamp.cells := by
  induction x0 generalizing s p a with
  | zero => rfl
  | succ n ih =>
    have e := State.spiReadWord_hamperCells s p a
    unfold State.spiReads
    split <;> (rename_i hr; rw [hr] at e; dsimp only at e ⊢; simp [ih, e])
@[simp] theorem State.masterAway_hamperCells (s : State) (p : Nat) (r : MasterReq) : (State.masterAway s p r).hamp.cells = s.hamp.cells := by simp [State.masterAway]
@[simp] theorem State.gwRespond_hamperCells (s : State) (p tag : Nat) : (State.gwRespond s p tag).hamp.cells = s.hamp.cells := by simp [State.gwRespond]
theorem execGwMasterDone_hamperCells (port : Fin 4) (tag : Fin 32) (s : State) : ∀ q1, (execGwMasterDone port tag s) = .next q1 → q1.hamp.cells = s.hamp.cells := by
  rintro q1 ⟨⟩; (repeat' split) <;> simp
@[simp] theorem State.busError_hamperCells (s : State) (c : Fin 4) : (State.busError s c).hamp.cells = s.hamp.cells := by simp [State.busError]
@[simp] theorem State.loaded_hamperCells (s : State) (c : Fin 4) (o n : Nat) (ws : List Word) : (State.loaded s c o n ws).hamp.cells = s.hamp.cells := by simp [State.loaded]
@[simp] theorem State.busSram_hamperCells (s : State) (c : Fin 4) (a : BusAccess) (o : Nat) : (State.busSram s c a o).hamp.cells = s.hamp.cells := by simp [State.busSram]
@[simp] theorem State.busFlash_hamperCells (s : State) (c : Fin 4) (a : BusAccess) (o : Nat) : (State.busFlash s c a o).hamp.cells = s.hamp.cells := by
  have e := State.flashReads_hamperCells s (.core c) (coverOf o a.size).1 (coverOf o a.size).2
  unfold State.busFlash
  dsimp only
  split
  · split
    · simp
    · split
      · simp
      · split <;> simp
  · split
    · rename_i hr
      rw [hr] at e
      simpa using e
    · rfl
theorem State.busWindow_hamperCells (s : State) (c : Fin 4) (a : BusAccess) (o : Nat) : ∀ q1, (State.busWindow s c a o) = some q1 → q1.hamp.cells = s.hamp.cells := by
  intro q1 h
  exact State.windowAccess_hamperCells _ _ _ _ _ _ h
@[simp] theorem State.wdStore_hamperCells (s : State) (o : Nat) (v : Word) : (State.wdStore s o v).hamp.cells = s.hamp.cells := by simp [State.wdStore]
@[simp] theorem State.busWatchdog_hamperCells (s : State) (c : Fin 4) (a : BusAccess) (o : Nat) : (State.busWatchdog s c a o).hamp.cells = s.hamp.cells := by
  have each : ∀ (l : List (Word × Nat)) (u : State), (l.foldl (fun t e => t.wdStore (o + 4 * e.2) e.1) u).hamp.cells = u.hamp.cells := by
    intro l
    induction l with
    | nil => intro u; rfl
    | cons a l ih => intro u; rw [List.foldl_cons, ih, State.wdStore_hamperCells]
  unfold State.busWatchdog
  dsimp only
  split
  · rw [each]
  · rw [State.loaded_hamperCells]

/-! Weave. -/

@[simp] theorem State.asyncStep_hamperCells (s : State) (levels : List (Nat × Bool)) : (State.asyncStep s levels).hamp.cells = s.hamp.cells := by simp [State.asyncStep]
@[simp] theorem State.asyncSettle_hamperCells (levels : List (Nat × Bool)) (n : Nat) (s : State) : (State.asyncSettle levels n s).hamp.cells = s.hamp.cells := by
  induction n generalizing s with
  | zero => rfl
  | succ n ih =>
    unfold State.asyncSettle
    dsimp only
    split
    · rfl
    · rw [ih, State.asyncStep_hamperCells]

/-! Edge. -/

@[simp] theorem State.bportEdge_hamperCells (s : State) (k net : Nat) : (State.bportEdge s k net).hamp.cells = s.hamp.cells := by unfold State.bportEdge; (repeat' split) <;> simp
@[simp] theorem State.bportsEdge_hamperCells (s : State) (bay net : Nat) : (State.bportsEdge s bay net).hamp.cells = s.hamp.cells := by simp [State.bportsEdge]
@[simp] theorem State.innerEdge_hamperCells (s : State) (bay net : Nat) (p : InnerPins) : (State.innerEdge s bay net p).hamp.cells = s.hamp.cells := by simp [State.innerEdge]
@[simp] theorem State.setHigh_hamperCells (s : State) (bay net : Nat) (high : Bool) : (State.setHigh s bay net high).hamp.cells = s.hamp.cells := by simp [State.setHigh]
@[simp] theorem State.fabricEdge_hamperCells (s : State) (bay net : Nat) (rising : Bool) (p : EdgePins) : (State.fabricEdge s bay net rising p).hamp.cells = s.hamp.cells := by simp [State.fabricEdge]
@[simp] theorem State.portEdges_hamperCells (s : State) (bay net : Nat) (p : EdgePins) : (State.portEdges s bay net p).hamp.cells = s.hamp.cells := by simp [State.portEdges]
@[simp] theorem State.stakePass_hamperCells (s : State) (bay net : Nat) (rising : Bool) (p : EdgePins) : (State.stakePass s bay net rising p).hamp.cells = s.hamp.cells := by simp [State.stakePass]
@[simp] theorem State.stakeEdge_hamperCells (s : State) (bay net : Nat) (rising : Bool) (p : EdgePins) : (State.stakeEdge s bay net rising p).hamp.cells = s.hamp.cells := by simp [State.stakeEdge]
theorem execStakeNetEdge_hamperCells (bay : Fin 96) (net : Fin 24) (rising : Bool) (pins : EdgePins) (s : State) : ∀ q1, (execStakeNetEdge bay net rising pins s) = .next q1 → q1.hamp.cells = s.hamp.cells := by
  rintro q1 ⟨⟩; simp

/-! Ops. -/

theorem foldl_hamperCanonical {α : Type} (f : State → α → State) (l : List α) (s : State)
    (hf : ∀ t a, Store.rising t.hamp.cells → Store.rising (f t a).hamp.cells) (h : Store.rising s.hamp.cells) :
    Store.rising (l.foldl f s).hamp.cells := by
  induction l generalizing s with
  | nil => exact h
  | cons a l ih => exact ih _ (hf _ _ h)
@[simp] theorem State.setHamp_hamp (s : State) (h : HampSt) : (s.setHamp h).hamp = h := rfl
@[simp] theorem HampSt.scramble_cells (h : HampSt) (k : Nat) : (h.scramble k).cells = [] := rfl
@[simp] theorem rising_none {α : Type} : Store.rising ([] : Store α) = true := rfl
theorem HampSt.putByte_hamperCanonical (h : HampSt) (a : Nat) (b : Byte) (hc : Store.rising h.cells) :
    Store.rising (h.putByte a b).cells := Sys2Proof.Laws.rising_insert hc (Nat.zero_le _)

theorem State.guarded_hamperCanonical  (s : State) (ag : Agent) (n off : Nat) (t : State) (h : Store.rising s.hamp.cells) (ht : Store.rising t.hamp.cells) :
    Store.rising (s.guarded ag n off t).hamp.cells := by
  unfold State.guarded
  split
  · exact ht
  · simpa using h
theorem State.rws_hamperCanonical  (s : State) (ag : Agent) (off : Nat) (t : State) (h : Store.rising s.hamp.cells) (ht : Store.rising t.hamp.cells) :
    Store.rising (s.rws ag off t).hamp.cells := by
  unfold State.rws
  split
  · split
    · exact State.guarded_hamperCanonical _ _ _ _ _ h ht
    · exact ht
  · exact ht

/-! Hamper. -/

theorem State.hampScramble_hamperCanonical  (s : State) (h : Store.rising s.hamp.cells) : Store.rising (State.hampScramble s).hamp.cells := by
  unfold State.hampScramble
  repeat' first | assumption | (with_reducible apply foldl_hamperCanonical; intros) | split | simp
theorem State.hampStore_hamperCanonical  (s : State) (a : Nat) (x0 : List Byte) (h : Store.rising s.hamp.cells) : Store.rising (State.hampStore s a x0).hamp.cells := by
  induction x0 generalizing s a with
  | nil => exact h
  | cons b bs ih =>
    unfold State.hampStore
    exact ih _ _ (HampSt.putByte_hamperCanonical _ _ _ h)
theorem State.hampPutBeats_hamperCanonical  (s : State) (a : Nat) (x0 : Nat) (x1 : List HampBeat) (h : Store.rising s.hamp.cells) : Store.rising (State.hampPutBeats s a x0 x1).hamp.cells := by
  induction x1 generalizing s a x0 with
  | nil => cases x0 <;> exact h
  | cons b bs ih =>
    cases x0 with
    | zero => exact h
    | succ n =>
      unfold State.hampPutBeats
      apply ih
      apply foldl_hamperCanonical
      · intro t i ht
        split
        · exact HampSt.putByte_hamperCanonical _ _ _ ht
        · exact ht
      · exact h
theorem State.hampWriteDone_hamperCanonical  (s : State) (n sev : Nat) (h : Store.rising s.hamp.cells) : Store.rising (State.hampWriteDone s n sev).hamp.cells := by
  unfold State.hampWriteDone
  repeat' first | assumption | (with_reducible apply State.hampPutBeats_hamperCanonical) | (with_reducible apply foldl_hamperCanonical; intros) | split | simp
theorem State.hampFlush_hamperCanonical  (s : State) (bay : Nat) (h : Store.rising s.hamp.cells) : Store.rising (State.hampFlush s bay).hamp.cells := by
  unfold State.hampFlush
  repeat' first | assumption | (with_reducible apply State.hampWriteDone_hamperCanonical) | (with_reducible apply foldl_hamperCanonical; intros) | split | simp
theorem execHamperAccessDone_hamperCanonical  (src : HampSrc) (sev : Fin 4) (s : State) (h : Store.rising s.hamp.cells) : ∀ q1, (execHamperAccessDone src sev s) = .next q1 → Store.rising q1.hamp.cells := by
  rintro q1 ⟨⟩
  repeat' first | assumption | (with_reducible apply State.hampWriteDone_hamperCanonical) | (with_reducible apply foldl_hamperCanonical; intros) | split | simp
theorem State.hampReady_hamperCanonical  (s : State) (h : Store.rising s.hamp.cells) : Store.rising (State.hampReady s).hamp.cells := by
  unfold State.hampReady
  repeat' first | assumption | (with_reducible apply State.hampScramble_hamperCanonical) | (with_reducible apply foldl_hamperCanonical; intros) | split | simp
theorem execHamperTrainDone_hamperCanonical  (pass : Bool) (s : State) (h : Store.rising s.hamp.cells) : ∀ q1, (execHamperTrainDone pass s) = .next q1 → Store.rising q1.hamp.cells := by
  rintro q1 ⟨⟩
  repeat' first | assumption | (with_reducible apply State.hampReady_hamperCanonical) | (with_reducible apply foldl_hamperCanonical; intros) | split | simp
theorem State.hampWake_hamperCanonical  (s : State) (h : Store.rising s.hamp.cells) : Store.rising (State.hampWake s).hamp.cells := by
  unfold State.hampWake
  repeat' first | assumption | (with_reducible apply State.hampScramble_hamperCanonical) | (with_reducible apply foldl_hamperCanonical; intros) | split | simp
theorem execHamperSelfRefreshExit_hamperCanonical  (s : State) (h : Store.rising s.hamp.cells) : ∀ q1, (execHamperSelfRefreshExit s) = .next q1 → Store.rising q1.hamp.cells := by
  rintro q1 ⟨⟩
  repeat' first | assumption | (with_reducible apply State.hampWake_hamperCanonical) | (with_reducible apply foldl_hamperCanonical; intros) | split | simp
theorem State.hampTrainStart_hamperCanonical  (s : State) (cons : Bool) (h : Store.rising s.hamp.cells) : Store.rising (State.hampTrainStart s cons).hamp.cells := by
  unfold State.hampTrainStart
  repeat' first | assumption | (with_reducible apply State.hampScramble_hamperCanonical) | (with_reducible apply State.idle_hamperCanonical) | (with_reducible apply foldl_hamperCanonical; intros) | split | simp

/-! Staged. -/

theorem State.bondStart_hamperCanonical  (s : State) (us : List Nat) (h : Store.rising s.hamp.cells) : Store.rising (State.bondStart s us).hamp.cells := by
  unfold State.bondStart
  repeat' first | assumption | (with_reducible apply State.hampFlush_hamperCanonical) | (with_reducible apply foldl_hamperCanonical; intros) | split | simp
theorem State.commitEdge_hamperCanonical  (s : State) (us : List Nat) (h : Store.rising s.hamp.cells) : Store.rising (State.commitEdge s us).hamp.cells := by
  unfold State.commitEdge
  repeat' first | assumption | (with_reducible apply State.bondStart_hamperCanonical) | (with_reducible apply foldl_hamperCanonical; intros) | split | simp
theorem State.deliverCommits_hamperCanonical  (s : State) (src : Nat) (h : Store.rising s.hamp.cells) : Store.rising (State.deliverCommits s src).hamp.cells := by
  unfold State.deliverCommits
  repeat' first | assumption | (with_reducible apply State.commitEdge_hamperCanonical) | (with_reducible apply foldl_hamperCanonical; intros) | split | simp

/-! Pointing. -/

theorem State.holdBay_hamperCanonical  (s : State) (bay : Nat) (h : Store.rising s.hamp.cells) : Store.rising (State.holdBay s bay).hamp.cells := by
  unfold State.holdBay
  repeat' first | assumption | (with_reducible apply State.bondStart_hamperCanonical) | (with_reducible apply foldl_hamperCanonical; intros) | split | simp
theorem State.multiBit_hamperCanonical  (s : State) (latch key : Nat) (h : Store.rising s.hamp.cells) : Store.rising (State.multiBit s latch key).hamp.cells := by
  unfold State.multiBit
  dsimp only
  split
  · rw [State.stageRefresh_hamperCells, State.shadowLost_hamperCells, State.raise_hamperCells, State.logFrame_hamperCells, State.bumpSat_hamperCells]
    exact h
  · have e : Store.rising (((((s.bumpSat Reg.pntMbecnt).logFrame latch key 0 1
        (if (if keyUnit key < 96 ∧ !s.held (keyUnit key) then s.bayPolicy (keyUnit key) else 0) = 1 then 2
          else if (if keyUnit key < 96 ∧ !s.held (keyUnit key) then s.bayPolicy (keyUnit key) else 0) = 2 then 3 else 1)
        (s.bumpSat Reg.pntMbecnt).logTime).raise 193).sysFault 2)).hamp.cells = true := by
      rw [State.sysFault_hamperCells, State.raise_hamperCells, State.logFrame_hamperCells, State.bumpSat_hamperCells]
      exact h
    split
    · exact State.holdBay_hamperCanonical _ _ e
    · rw [State.wantReload_hamperCells]
      exact State.holdBay_hamperCanonical _ _ e
    · exact e
theorem State.frameAct_hamperCanonical  (t : State) (w latch key : Nat) (x0 : FrameClass) (h : Store.rising t.hamp.cells) : Store.rising (State.frameAct t w latch key x0).hamp.cells := by
  unfold State.frameAct
  repeat' first | assumption | (with_reducible apply State.multiBit_hamperCanonical) | (with_reducible apply foldl_hamperCanonical; intros) | split | simp
theorem State.frameRead_hamperCanonical  (s : State) (w latch key : Nat) (entry : Fin 4) (h : Store.rising s.hamp.cells) : Store.rising (State.frameRead s w latch key entry).hamp.cells := by
  unfold State.frameRead
  dsimp only
  split
  · simpa using h
  · exact State.frameAct_hamperCanonical _ _ _ _ _ (by simpa using h)
theorem execPntFrameRead_hamperCanonical  (w : Fin 2) (upset : List (Fin 10240)) (entry : Fin 4) (s : State) (h : Store.rising s.hamp.cells) : ∀ q1, (execPntFrameRead w upset entry s) = .next q1 → Store.rising q1.hamp.cells := by
  rintro q1 ⟨⟩
  repeat' first | assumption | (with_reducible apply State.frameRead_hamperCanonical) | (with_reducible apply foldl_hamperCanonical; intros) | split | simp
theorem execPntSbeWriteBackDone_hamperCanonical  (w : Fin 2) (upset : FrameErrs) (s : State) (h : Store.rising s.hamp.cells) : ∀ q1, (execPntSbeWriteBackDone w upset s) = .next q1 → Store.rising q1.hamp.cells := by
  intro q1 hq
  unfold execPntSbeWriteBackDone at hq
  split at hq
  · injection hq with hq; rw [← hq]; exact h
  · dsimp only at hq
    replace hq := Host.Outcome.next.inj hq
    rw [← hq]
    split
    · rw [State.raise_hamperCells, State.bumpSat_hamperCells, State.logFrame_hamperCells, State.entryRead_hamperCells, State.upsetFrame_hamperCells, State.setFrame_hamperCells]
      exact h
    · apply State.multiBit_hamperCanonical
      rw [State.entryRead_hamperCells, State.upsetFrame_hamperCells, State.setFrame_hamperCells]
      exact h

/-! Domains. -/

theorem State.hampOff_hamperCanonical  (s : State) (h : Store.rising s.hamp.cells) : Store.rising (State.hampOff s).hamp.cells := by
  unfold State.hampOff
  repeat' first | assumption | (with_reducible apply State.hampScramble_hamperCanonical) | (with_reducible apply foldl_hamperCanonical; intros) | split | simp
theorem State.railOff_hamperCanonical  (s : State) (r : Nat) (h : Store.rising s.hamp.cells) : Store.rising (State.railOff s r).hamp.cells := by
  unfold State.railOff
  repeat' first | assumption | (with_reducible apply State.hampOff_hamperCanonical) | (with_reducible apply foldl_hamperCanonical; intros) | split | simp
theorem State.domainsOff_hamperCanonical  (s : State) (cause r : Nat) (h : Store.rising s.hamp.cells) : Store.rising (State.domainsOff s cause r).hamp.cells := by
  unfold State.domainsOff
  split
  all_goals first | (with_reducible exact h) | (with_reducible exact State.railOff_hamperCanonical _ _ h) | simpa using h
theorem State.fabricHeld_hamperCanonical  (s : State) (h : Store.rising s.hamp.cells) : Store.rising (State.fabricHeld s).hamp.cells := by
  unfold State.fabricHeld
  dsimp only
  rw [foldl_hamperCells _ (fun t k => State.setOut_hamperCells t k false), foldl_hamperCells _ (fun t b => State.bayInit_hamperCells t b)]
  exact State.bondStart_hamperCanonical _ _ h
theorem State.enterSafe_hamperCanonical  (s : State) (cause r : Nat) (h : Store.rising s.hamp.cells) : Store.rising (State.enterSafe s cause r).hamp.cells := by
  unfold State.enterSafe
  dsimp only
  have e : Store.rising (((if cause = 5 then s.domainsOff cause r else (s.domainsOff cause r).fabricHeld).safeHold cause)).hamp.cells = true := by
    rw [State.safeHold_hamperCells]
    split
    · exact State.domainsOff_hamperCanonical _ _ _ h
    · exact State.fabricHeld_hamperCanonical _ (State.domainsOff_hamperCanonical _ _ _ h)
  split
  · rw [State.setFld_hamperCells]; exact e
  · rw [State.pcieDown_hamperCells, State.pcieDown_hamperCells, State.setFld_hamperCells]; exact e
theorem State.trip_hamperCanonical  (s : State) (cause r : Nat) (h : Store.rising s.hamp.cells) : Store.rising (State.trip s cause r).hamp.cells := by
  unfold State.trip
  repeat' first | assumption | (with_reducible apply State.railOff_hamperCanonical) | (with_reducible apply State.domainsOff_hamperCanonical) | (with_reducible apply State.enterSafe_hamperCanonical) | (with_reducible apply foldl_hamperCanonical; intros) | split | simp
theorem State.restart_hamperCanonical  (s : State) (h : Store.rising s.hamp.cells) : Store.rising (State.restart s).hamp.cells := by rfl

/-! Loading. -/

theorem State.keeperStart_hamperCanonical  (s : State) (cause : Nat) (h : Store.rising s.hamp.cells) : Store.rising (State.keeperStart s cause).hamp.cells := by
  unfold State.keeperStart
  repeat' first | assumption | (with_reducible apply State.restart_hamperCanonical) | (with_reducible apply foldl_hamperCanonical; intros) | split | simp
theorem execVinFall_hamperCanonical  (s : State) (h : Store.rising s.hamp.cells) : ∀ q1, (execVinFall s) = .next q1 → Store.rising q1.hamp.cells := by
  rintro q1 ⟨⟩
  repeat' first | assumption | (with_reducible apply State.restart_hamperCanonical) | (with_reducible apply foldl_hamperCanonical; intros) | split | simp
theorem execPowerUpComplete_hamperCanonical  (straps : BitVec 7) (s : State) (h : Store.rising s.hamp.cells) : ∀ q1, (execPowerUpComplete straps s) = .next q1 → Store.rising q1.hamp.cells := by
  rintro q1 ⟨⟩
  repeat' first | assumption | (with_reducible apply State.keeperStart_hamperCanonical) | (with_reducible apply foldl_hamperCanonical; intros) | split | simp
theorem execResetNRise_hamperCanonical  (s : State) (h : Store.rising s.hamp.cells) : ∀ q1, (execResetNRise s) = .next q1 → Store.rising q1.hamp.cells := by
  rintro q1 ⟨⟩
  repeat' first | assumption | (with_reducible apply State.keeperStart_hamperCanonical) | (with_reducible apply foldl_hamperCanonical; intros) | split | simp
theorem State.keeperEnds_hamperCanonical  (s : State) (vinOk : Bool) (h : Store.rising s.hamp.cells) : Store.rising (State.keeperEnds s vinOk).hamp.cells := by
  have et := State.testToken_hamperCells s vinOk
  unfold State.keeperEnds
  split
  · rw [State.factory_hamperCells]; exact h
  · rw [State.factory_hamperCells]; exact h
  · rw [State.startTest_hamperCells]; exact h
  · rw [State.startTest_hamperCells]; exact h
  · split
    · rename_i u hr
      rw [hr] at et
      rw [State.factory_hamperCells, show u.hamp.cells = s.hamp.cells from et]
      exact h
    · rename_i u hr
      rw [hr] at et
      rw [State.startTest_hamperCells, show u.hamp.cells = s.hamp.cells from et]
      exact h
  · exact State.enterSafe_hamperCanonical _ _ _ h
  · exact State.enterSafe_hamperCanonical _ _ _ h
theorem execKeeperBootComplete_hamperCanonical  (agree xref vinOk : Bool) (s : State) (h : Store.rising s.hamp.cells) : ∀ q1, (execKeeperBootComplete agree xref vinOk s) = .next q1 → Store.rising q1.hamp.cells := by
  rintro q1 ⟨⟩
  repeat' first | assumption | (with_reducible apply State.keeperEnds_hamperCanonical) | (with_reducible apply foldl_hamperCanonical; intros) | split | simp
theorem State.step6_hamperCanonical  (s : State) (sounded : Nat) (h : Store.rising s.hamp.cells) : Store.rising (State.step6 s sounded).hamp.cells := by
  unfold State.step6
  repeat' first | assumption | (with_reducible apply State.hampTrainStart_hamperCanonical) | (with_reducible apply State.idle_hamperCanonical) | (with_reducible apply foldl_hamperCanonical; intros) | split | simp
theorem State.reloadNow_hamperCanonical  (s : State) (cause : Nat) (h : Store.rising s.hamp.cells) : Store.rising (State.reloadNow s cause).hamp.cells := by
  unfold State.reloadNow
  split
  · exact h
  · dsimp only
    apply State.step6_hamperCanonical
    simpa using h
theorem execStartTestComplete_hamperCanonical  (hub : Bool) (rep : SoundReport) (s : State) (h : Store.rising s.hamp.cells) : ∀ q1, (execStartTestComplete hub rep s) = .next q1 → Store.rising q1.hamp.cells := by
  rintro q1 ⟨⟩
  repeat' first | assumption | (with_reducible apply State.enterSafe_hamperCanonical) | (with_reducible apply State.step6_hamperCanonical) | (with_reducible apply foldl_hamperCanonical; intros) | split | simp
theorem execSrcWaitExpiry_hamperCanonical  (s : State) (h : Store.rising s.hamp.cells) : ∀ q1, (execSrcWaitExpiry s) = .next q1 → Store.rising q1.hamp.cells := by
  rintro q1 ⟨⟩
  repeat' first | assumption | (with_reducible apply State.enterSafe_hamperCanonical) | (with_reducible apply foldl_hamperCanonical; intros) | split | simp
theorem State.partCommit_hamperCanonical  (s : State) (j : PartJob) (h : Store.rising s.hamp.cells) : Store.rising (State.partCommit s j).hamp.cells := by
  unfold State.partCommit
  repeat' first | assumption | (with_reducible apply State.commitEdge_hamperCanonical) | (with_reducible apply foldl_hamperCanonical; intros) | split | simp
theorem execPriorityCommit_hamperCanonical  (s : State) (h : Store.rising s.hamp.cells) : ∀ q1, (execPriorityCommit s) = .next q1 → Store.rising q1.hamp.cells := by
  rintro q1 ⟨⟩
  repeat' first | assumption | (with_reducible apply State.partCommit_hamperCanonical) | (with_reducible apply State.idle_hamperCanonical) | (with_reducible apply foldl_hamperCanonical; intros) | split | simp
theorem execPriorityStageTimeout_hamperCanonical  (s : State) (h : Store.rising s.hamp.cells) : ∀ q1, (execPriorityStageTimeout s) = .next q1 → Store.rising q1.hamp.cells := by
  rintro q1 ⟨⟩
  repeat' first | assumption | (with_reducible apply State.bondStart_hamperCanonical) | (with_reducible apply State.idle_hamperCanonical) | (with_reducible apply foldl_hamperCanonical; intros) | split | simp
theorem execMainCommit_hamperCanonical  (s : State) (h : Store.rising s.hamp.cells) : ∀ q1, (execMainCommit s) = .next q1 → Store.rising q1.hamp.cells := by
  rintro q1 ⟨⟩
  repeat' first | assumption | (with_reducible apply State.partCommit_hamperCanonical) | (with_reducible apply foldl_hamperCanonical; intros) | split | simp
theorem execDoneWaitExpiry_hamperCanonical  (s : State) (h : Store.rising s.hamp.cells) : ∀ q1, (execDoneWaitExpiry s) = .next q1 → Store.rising q1.hamp.cells := by
  rintro q1 ⟨⟩
  repeat' first | assumption | (with_reducible apply State.bondStart_hamperCanonical) | (with_reducible apply State.enterSafe_hamperCanonical) | (with_reducible apply foldl_hamperCanonical; intros) | split | simp

/-! Power. -/

theorem State.wokenRun_hamperCanonical  (s : State) (h : Store.rising s.hamp.cells) : Store.rising (State.wokenRun s).hamp.cells := by
  unfold State.wokenRun
  repeat' first | assumption | (with_reducible apply State.reloadNow_hamperCanonical) | (with_reducible apply foldl_hamperCanonical; intros) | split | simp
theorem State.rampEnd_hamperCanonical  (s : State) (h : Store.rising s.hamp.cells) : Store.rising (State.rampEnd s).hamp.cells := by
  unfold State.rampEnd
  repeat' first | assumption | (with_reducible apply State.wokenRun_hamperCanonical) | (with_reducible apply foldl_hamperCanonical; intros) | split | simp
theorem execPlRampDone_hamperCanonical  (s : State) (h : Store.rising s.hamp.cells) : ∀ q1, (execPlRampDone s) = .next q1 → Store.rising q1.hamp.cells := by
  rintro q1 ⟨⟩
  repeat' first | assumption | (with_reducible apply State.rampEnd_hamperCanonical) | (with_reducible apply foldl_hamperCanonical; intros) | split | simp
theorem State.standbyEnter_hamperCanonical  (s : State) (h : Store.rising s.hamp.cells) : Store.rising (State.standbyEnter s).hamp.cells := by
  unfold State.standbyEnter
  repeat' first | assumption | (with_reducible apply State.restart_hamperCanonical) | (with_reducible apply foldl_hamperCanonical; intros) | split | simp
theorem State.quiesced_hamperCanonical  (s : State) (h : Store.rising s.hamp.cells) : Store.rising (State.quiesced s).hamp.cells := by
  unfold State.quiesced
  repeat' first | assumption | (with_reducible apply State.standbyEnter_hamperCanonical) | (with_reducible apply foldl_hamperCanonical; intros) | split | simp
theorem execQuiesceDone_hamperCanonical  (s : State) (h : Store.rising s.hamp.cells) : ∀ q1, (execQuiesceDone s) = .next q1 → Store.rising q1.hamp.cells := by
  rintro q1 ⟨⟩
  repeat' first | assumption | (with_reducible apply State.quiesced_hamperCanonical) | (with_reducible apply foldl_hamperCanonical; intros) | split | simp
theorem execQuiesceTimeout_hamperCanonical  (busy : BitVec 4) (s : State) (h : Store.rising s.hamp.cells) : ∀ q1, (execQuiesceTimeout busy s) = .next q1 → Store.rising q1.hamp.cells := by
  rintro q1 ⟨⟩
  repeat' first | assumption | (with_reducible apply State.quiesced_hamperCanonical) | (with_reducible apply foldl_hamperCanonical; intros) | split | simp
theorem State.standbyWake_hamperCanonical  (s : State) (h : Store.rising s.hamp.cells) : Store.rising (State.standbyWake s).hamp.cells := by
  unfold State.standbyWake
  repeat' first | assumption | (with_reducible apply State.keeperStart_hamperCanonical) | (with_reducible apply foldl_hamperCanonical; intros) | split | simp
theorem State.wakeSource_hamperCanonical  (s : State) (src port : Nat) (h : Store.rising s.hamp.cells) : Store.rising (State.wakeSource s src port).hamp.cells := by
  unfold State.wakeSource
  repeat' first | assumption | (with_reducible apply State.wokenRun_hamperCanonical) | (with_reducible apply State.standbyWake_hamperCanonical) | (with_reducible apply foldl_hamperCanonical; intros) | split | simp
theorem execWakeSource_hamperCanonical  (src : Fin 8) (port : Fin 2) (s : State) (h : Store.rising s.hamp.cells) : ∀ q1, (execWakeSource src port s) = .next q1 → Store.rising q1.hamp.cells := by
  rintro q1 ⟨⟩
  repeat' first | assumption | (with_reducible apply State.wakeSource_hamperCanonical) | (with_reducible apply foldl_hamperCanonical; intros) | split | simp
theorem State.wakeTimer_hamperCanonical  (s : State) (h : Store.rising s.hamp.cells) : Store.rising (State.wakeTimer s).hamp.cells := by
  unfold State.wakeTimer
  repeat' first | assumption | (with_reducible apply State.wakeSource_hamperCanonical) | (with_reducible apply foldl_hamperCanonical; intros) | split | simp
theorem execWakeTimerExpiry_hamperCanonical  (s : State) (h : Store.rising s.hamp.cells) : ∀ q1, (execWakeTimerExpiry s) = .next q1 → Store.rising q1.hamp.cells := by
  rintro q1 ⟨⟩
  repeat' first | assumption | (with_reducible apply State.wakeTimer_hamperCanonical) | (with_reducible apply foldl_hamperCanonical; intros) | split | simp
theorem State.staleBay_hamperCanonical  (s : State) (b : Nat) (h : Store.rising s.hamp.cells) : Store.rising (State.staleBay s b).hamp.cells := by
  unfold State.staleBay
  repeat' first | assumption | (with_reducible apply State.bondStart_hamperCanonical) | (with_reducible apply foldl_hamperCanonical; intros) | split | simp
theorem execSleepWakeRun_hamperCanonical  (stale : StaleBanks) (s : State) (h : Store.rising s.hamp.cells) : ∀ q1, (execSleepWakeRun stale s) = .next q1 → Store.rising q1.hamp.cells := by
  rintro q1 ⟨⟩
  repeat' first | assumption | (with_reducible apply State.hampWake_hamperCanonical) | (with_reducible apply State.wokenRun_hamperCanonical) | (with_reducible apply State.staleBay_hamperCanonical) | (with_reducible apply foldl_hamperCanonical; intros) | split | simp
theorem execThermalSample_hamperCanonical  (bays hub : List (BitVec 8)) (s : State) (h : Store.rising s.hamp.cells) : ∀ q1, (execThermalSample bays hub s) = .next q1 → Store.rising q1.hamp.cells := by
  rintro q1 ⟨⟩
  repeat' first | assumption | (with_reducible apply State.trip_hamperCanonical) | (with_reducible apply foldl_hamperCanonical; intros) | split | simp
theorem execRegulatorFault_hamperCanonical  (r : Fin 26) (s : State) (h : Store.rising s.hamp.cells) : ∀ q1, (execRegulatorFault r s) = .next q1 → Store.rising q1.hamp.cells := by
  rintro q1 ⟨⟩
  repeat' first | assumption | (with_reducible apply State.trip_hamperCanonical) | (with_reducible apply foldl_hamperCanonical; intros) | split | simp
theorem State.reloadRequest_hamperCanonical  (s : State) (cause : Nat) (h : Store.rising s.hamp.cells) : Store.rising (State.reloadRequest s cause).hamp.cells := by
  unfold State.reloadRequest
  repeat' first | assumption | (with_reducible apply State.reloadNow_hamperCanonical) | (with_reducible apply State.wakeSource_hamperCanonical) | (with_reducible apply foldl_hamperCanonical; intros) | split | simp
theorem execProgramNFall_hamperCanonical  (s : State) (h : Store.rising s.hamp.cells) : ∀ q1, (execProgramNFall s) = .next q1 → Store.rising q1.hamp.cells := by
  rintro q1 ⟨⟩
  repeat' first | assumption | (with_reducible apply State.reloadRequest_hamperCanonical) | (with_reducible apply foldl_hamperCanonical; intros) | split | simp
theorem State.sysCtlWrite_hamperCanonical  (s : State) (v : Word) (h : Store.rising s.hamp.cells) : Store.rising (State.sysCtlWrite s v).hamp.cells := by
  unfold State.sysCtlWrite
  repeat' first | assumption | (with_reducible apply State.reloadRequest_hamperCanonical) | (with_reducible apply foldl_hamperCanonical; intros) | split | simp
theorem execSysCtlReload_hamperCanonical  (ag : Agent) (v : Word) (s : State) (h : Store.rising s.hamp.cells) : ∀ q1, (execSysCtlReload ag v s) = .next q1 → Store.rising q1.hamp.cells := by
  rintro q1 ⟨⟩
  repeat' first | assumption | (with_reducible apply State.sysCtlWrite_hamperCanonical) | (with_reducible apply foldl_hamperCanonical; intros) | split | simp

/-! Boundary. -/

theorem State.delivery_hamperCanonical  (s : State) (a : Announced) (h : Store.rising s.hamp.cells) : Store.rising (State.delivery s a).hamp.cells := by
  unfold State.delivery
  repeat' first | assumption | (with_reducible apply State.deliverCommits_hamperCanonical) | (with_reducible apply foldl_hamperCanonical; intros) | split | simp
theorem execBoundaryDelivery_hamperCanonical  (src : Fin 64) (s : State) (h : Store.rising s.hamp.cells) : ∀ q1, (execBoundaryDelivery src s) = .next q1 → Store.rising q1.hamp.cells := by
  rintro q1 ⟨⟩
  repeat' first | assumption | (with_reducible apply State.delivery_hamperCanonical) | (with_reducible apply foldl_hamperCanonical; intros) | split | simp

/-! Manager. -/

theorem State.sysWrite_hamperCanonical  (s : State) (off : Nat) (v : Word) (h : Store.rising s.hamp.cells) : Store.rising (State.sysWrite s off v).hamp.cells := by
  unfold State.sysWrite
  repeat' first | assumption | (with_reducible apply State.sysCtlWrite_hamperCanonical) | (with_reducible apply foldl_hamperCanonical; intros) | split | simp
theorem State.mgrEffect_hamperCanonical  (s : State) (ag : Agent) (off : Nat) (v : Word) (h : Store.rising s.hamp.cells) : Store.rising (State.mgrEffect s ag off v).hamp.cells := by
  unfold State.mgrEffect
  repeat' first | assumption | (with_reducible apply State.sysWrite_hamperCanonical) | (with_reducible apply foldl_hamperCanonical; intros) | split | simp
theorem State.mgrWrite_hamperCanonical  (s : State) (ag : Agent) (off : Nat) (v : Word) (h : Store.rising s.hamp.cells) : Store.rising (State.mgrWrite s ag off v).hamp.cells := by
  unfold State.mgrWrite
  split
  · exact h
  · split
    · exact State.rws_hamperCanonical _ _ _ _ h (State.mgrEffect_hamperCanonical _ _ _ _ h)
    · exact h

/-! Access. -/

theorem State.mgrWrites_hamperCanonical  (s : State) (ag : Agent) (off : Nat) (x0 : List Word) (h : Store.rising s.hamp.cells) : Store.rising (State.mgrWrites s ag off x0).hamp.cells := by
  induction x0 generalizing s ag off with
  | nil => unfold State.mgrWrites; repeat' first | assumption | (with_reducible apply State.mgrWrite_hamperCanonical) | (with_reducible apply foldl_hamperCanonical; intros) | split | simp
  | cons a l ih =>
    unfold State.mgrWrites
    repeat' first | assumption | (with_reducible apply State.mgrWrite_hamperCanonical) | (with_reducible apply ih) | split | simp
theorem State.inboundHamper_hamperCanonical  (s : State) (b : WaleBlock) (o mem : Nat) (h : Store.rising s.hamp.cells) : ∀ q1, (State.inboundHamper s b o mem) = some q1 → Store.rising q1.hamp.cells := by
  intro q1 hq
  unfold State.inboundHamper at hq
  split at hq
  · cases hq; simpa using h
  split at hq
  · cases hq
  · dsimp only at hq
    injection hq with hq
    rw [← hq]
    split
    · simpa using h
    split
    · rw [State.inboundEnd_hamperCells]
      exact State.hampStore_hamperCanonical _ _ _ (by simpa using h)
    · simpa using h
theorem State.inbound_hamperCanonical  (s : State) (b : WaleBlock) (mem : Nat) (h : Store.rising s.hamp.cells) : ∀ q1, (State.inbound s b mem) = some q1 → Store.rising q1.hamp.cells := by
  intro q1 hq
  unfold State.inbound at hq
  dsimp only at hq
  split at hq
  · cases hq; simpa using h
  · cases hq; simpa using h
  · split at hq
    · cases hq
      rw [State.inboundEnd_hamperCells]
      exact State.mgrWrites_hamperCanonical _ _ _ _ h
    · cases hq; simpa using h
  · rename_i o _
    have e := State.flashReads_hamperCells s (.wale b.src) o b.len.val
    split at hq
    · rename_i hr; rw [hr] at e; cases hq; rw [State.inboundEnd_hamperCells]; dsimp only at e; rw [e]; exact h
    · cases hq
  · exact State.inboundHamper_hamperCanonical _ _ _ _ h _ hq
  · rw [State.inboundWindow_hamperCells _ _ _ _ hq]; exact h
  · cases hq; simpa using h
theorem State.inboundNext_hamperCanonical  (s : State) (h : Store.rising s.hamp.cells) : ∀ q1, (State.inboundNext s) = some q1 → Store.rising q1.hamp.cells := by
  intro q1 hq
  unfold State.inboundNext at hq
  split at hq
  · cases hq
  · split at hq
    · cases hq
    · exact State.inbound_hamperCanonical _ _ _ (by simpa using h) _ hq
theorem State.spiApply_hamperCanonical  (s : State) (p : Fin 2) (a : Nat) (w : Word) (h : Store.rising s.hamp.cells) : Store.rising (State.spiApply s p a w).hamp.cells := by
  unfold State.spiApply
  repeat' first | assumption | (with_reducible apply State.mgrWrite_hamperCanonical) | (with_reducible apply foldl_hamperCanonical; intros) | split | simp
theorem State.spiItem_hamperCanonical  (s : State) (p : Fin 2) (x0 : SpiItem) (h : Store.rising s.hamp.cells) : Store.rising (State.spiItem s p x0).hamp.cells := by
  unfold State.spiItem
  repeat' first | assumption | (with_reducible apply State.spiApply_hamperCanonical) | (with_reducible apply foldl_hamperCanonical; intros) | split | simp
theorem State.spiTake_hamperCanonical  (s : State) (p : Fin 2) (i : SpiItem) (h : Store.rising s.hamp.cells) : Store.rising (State.spiTake s p i).hamp.cells := by
  unfold State.spiTake
  repeat' first | assumption | (with_reducible apply State.spiItem_hamperCanonical) | (with_reducible apply foldl_hamperCanonical; intros) | split | simp
theorem State.spiNext_hamperCanonical  (s : State) (p : Fin 2) (h : Store.rising s.hamp.cells) : ∀ q1, (State.spiNext s p) = some q1 → Store.rising q1.hamp.cells := by
  intro q1 hq
  unfold State.spiNext at hq
  dsimp only at hq
  (repeat' split at hq) <;> first | cases hq | skip
  all_goals (repeat' first | assumption | (with_reducible apply State.spiItem_hamperCanonical) | (with_reducible apply foldl_hamperCanonical; intros) | split | simp)
theorem State.spiWrites_hamperCanonical  (s : State) (p : Fin 2) (a : Nat) (x0 : List Word) (h : Store.rising s.hamp.cells) : Store.rising (State.spiWrites s p a x0).hamp.cells := by
  induction x0 generalizing s p a with
  | nil => unfold State.spiWrites; repeat' first | assumption | (with_reducible apply State.spiTake_hamperCanonical) | (with_reducible apply foldl_hamperCanonical; intros) | split | simp
  | cons a l ih =>
    unfold State.spiWrites
    repeat' first | assumption | (with_reducible apply State.spiTake_hamperCanonical) | (with_reducible apply ih) | split | simp
theorem execSpiRead_hamperCanonical  (port : Fin 2) (addr : Word) (n : Nat) (s : State) (h : Store.rising s.hamp.cells) : ∀ q1, (execSpiRead port addr n s) = .next q1 → Store.rising q1.hamp.cells := by
  rintro q1 ⟨⟩
  repeat' first | assumption | (with_reducible apply State.spiTake_hamperCanonical) | (with_reducible apply foldl_hamperCanonical; intros) | split | simp
theorem execSpiWrite_hamperCanonical  (port : Fin 2) (addr : Word) (words : List Word) (s : State) (h : Store.rising s.hamp.cells) : ∀ q1, (execSpiWrite port addr words s) = .next q1 → Store.rising q1.hamp.cells := by
  rintro q1 ⟨⟩
  repeat' first | assumption | (with_reducible apply State.spiWrites_hamperCanonical) | (with_reducible apply foldl_hamperCanonical; intros) | split | simp
theorem execSpiStatus_hamperCanonical  (port : Fin 2) (s : State) (h : Store.rising s.hamp.cells) : ∀ q1, (execSpiStatus port s) = .next q1 → Store.rising q1.hamp.cells := by
  rintro q1 ⟨⟩
  repeat' first | assumption | (with_reducible apply State.spiTake_hamperCanonical) | (with_reducible apply foldl_hamperCanonical; intros) | split | simp
theorem execStreamWindowWrite_hamperCanonical  (port : Fin 2) (spi : Bool) (words : List Word) (s : State) (h : Store.rising s.hamp.cells) : ∀ q1, (execStreamWindowWrite port spi words s) = .next q1 → Store.rising q1.hamp.cells := by
  rintro q1 ⟨⟩
  repeat' first | assumption | (with_reducible apply State.spiTake_hamperCanonical) | (with_reducible apply foldl_hamperCanonical; intros) | split | simp
theorem State.barWrite_hamperCanonical  (s : State) (p : Fin 2) (off : Nat) (v : Word) (h : Store.rising s.hamp.cells) : Store.rising (State.barWrite s p off v).hamp.cells := by
  unfold State.barWrite
  repeat' first | assumption | (with_reducible apply State.mgrWrite_hamperCanonical) | (with_reducible apply foldl_hamperCanonical; intros) | split | simp
theorem State.masterLocal_hamperCanonical  (s : State) (p : Nat) (r : MasterReq) (h : Store.rising s.hamp.cells) : ∀ q1, (State.masterLocal s p r) = some q1 → Store.rising q1.2.2.hamp.cells := by
  intro q1 hq
  unfold State.masterLocal at hq
  dsimp only at hq
  have dec : Store.rising (s.gwErr p 3).hamp.cells := by simpa using h
  split at hq
  · cases hq; exact dec
  split at hq
  · cases hq; exact dec
  · cases hq; exact dec
  · cases hq; exact dec
  · split at hq
    · cases hq; simpa using h
    · split at hq <;> (cases hq; simpa using h)
  · split at hq
    · cases hq; exact State.mgrWrites_hamperCanonical _ _ _ _ h
    · cases hq; simpa using h
  · rename_i o _
    have e := State.flashReads_hamperCells s .gateway o r.len
    split at hq
    · cases hq; simpa using h
    · split at hq
      · rename_i hr; rw [hr] at e; cases hq; dsimp only at e; rw [e]; exact h
      · cases hq
  · split at hq
    · cases hq; exact h
    · split at hq
      · cases hq
      · cases hq
        split
        · simpa using h
        · split
          · exact State.hampStore_hamperCanonical _ _ _ (by simpa using h)
          · simpa using h
theorem State.masterHere_hamperCanonical  (s : State) (p : Nat) (r : MasterReq) (h : Store.rising s.hamp.cells) : ∀ q1, (State.masterHere s p r) = some q1 → Store.rising q1.hamp.cells := by
  intro q1 hq
  unfold State.masterHere at hq
  split at hq
  · rw [Option.map_eq_some_iff] at hq
    obtain ⟨q, hq, rfl⟩ := hq
    have e := State.masterLocal_hamperCanonical _ _ _ h _ hq
    simpa using e
  · rw [Option.map_eq_some_iff] at hq
    obtain ⟨q, hq, rfl⟩ := hq
    exact State.masterLocal_hamperCanonical _ _ _ h _ hq
theorem State.busManager_hamperCanonical  (s : State) (c : Fin 4) (a : BusAccess) (o : Nat) (h : Store.rising s.hamp.cells) : Store.rising (State.busManager s c a o).hamp.cells := by
  unfold State.busManager
  repeat' first | assumption | (with_reducible apply State.mgrWrites_hamperCanonical) | (with_reducible apply foldl_hamperCanonical; intros) | split | simp
theorem State.busHamper_hamperCanonical  (s : State) (c : Fin 4) (a : BusAccess) (o : Nat) (h : Store.rising s.hamp.cells) : ∀ q1, (State.busHamper s c a o) = some q1 → Store.rising q1.hamp.cells := by
  intro q1 hq
  unfold State.busHamper at hq
  dsimp only at hq
  (repeat' split at hq) <;> first | cases hq | skip
  all_goals (repeat' first | assumption | (with_reducible apply State.hampStore_hamperCanonical) | (with_reducible apply foldl_hamperCanonical; intros) | split | simp)
theorem State.busTry_hamperCanonical  (s : State) (c : Fin 4) (a : BusAccess) (h : Store.rising s.hamp.cells) : ∀ q1, (State.busTry s c a) = some q1 → Store.rising q1.hamp.cells := by
  intro q1 hq
  unfold State.busTry at hq
  split at hq
  · cases hq; simpa using h
  · cases hq; simpa using h
  · cases hq; exact State.busManager_hamperCanonical _ _ _ _ h
  · cases hq; simpa using h
  · exact State.busHamper_hamperCanonical _ _ _ _ h _ hq
  · rw [State.busWindow_hamperCells _ _ _ _ _ hq]; exact h
  · cases hq; simpa using h
theorem State.waitTry_hamperCanonical  (s : State) (i : WaitItem) (h : Store.rising s.hamp.cells) : ∀ q1, (State.waitTry s i) = some q1 → Store.rising q1.hamp.cells := by
  intro q1 hq
  unfold State.waitTry at hq
  split at hq
  · cases hq
  split at hq
  · exact State.busTry_hamperCanonical _ _ _ h _ hq
  · exact State.masterHere_hamperCanonical _ _ _ h _ hq
  · rw [State.gwAccess_hamperCells _ _ _ _ hq]; exact h
  · cases hq
    split
    · exact State.barWrite_hamperCanonical _ _ _ _ h
    · exact State.mgrWrite_hamperCanonical _ _ _ _ h
theorem State.waitTake_hamperCanonical  (s : State) (i : WaitItem) (h : Store.rising s.hamp.cells) : Store.rising (State.waitTake s i).hamp.cells := by
  unfold State.waitTake
  dsimp only
  split
  · exact h
  · cases hw : s.waitTry i with
    | none => exact h
    | some t => exact State.waitTry_hamperCanonical _ _ h _ hw
theorem State.waitFirst_hamperCanonical  (s : State) (before : List Nat) (x0 : List (WaitItem × Nat)) (h : Store.rising s.hamp.cells) : ∀ q1, (State.waitFirst s before x0) = some q1 → Store.rising q1.hamp.cells := by
  induction x0 generalizing s before with
  | nil => intro q1 hq; cases hq
  | cons e l ih =>
    intro q1 hq
    obtain ⟨i, k⟩ := e
    unfold State.waitFirst at hq
    split at hq
    · exact ih _ _ h _ hq
    · split at hq
      · rename_i ht
        cases hq
        exact State.waitTry_hamperCanonical { s with waits := s.waits.eraseIdx k } i h _ ht
      · exact ih _ _ h _ hq
theorem State.settleOne_hamperCanonical  (s : State) (h : Store.rising s.hamp.cells) : ∀ q1, (State.settleOne s) = some q1 → Store.rising q1.hamp.cells := by
  intro q1 hq
  simp only [State.settleOne, Option.orElse_eq_orElse, Option.orElse_eq_or, Option.or_eq_some_iff] at hq
  rcases hq with hq | ⟨-, hq | ⟨-, hq | ⟨-, hq | ⟨-, hq | ⟨-, hq⟩⟩⟩⟩⟩
  · rw [State.answerNext_hamperCells _ _ hq]; exact h
  · exact State.inboundNext_hamperCanonical _ h _ hq
  · rw [State.tagNext_hamperCells _ _ hq]; exact h
  · exact State.spiNext_hamperCanonical _ _ h _ hq
  · exact State.spiNext_hamperCanonical _ _ h _ hq
  · exact State.waitFirst_hamperCanonical _ _ _ h _ hq
theorem State.settle_hamperCanonical  (s : State) (x0 : Nat) (h : Store.rising s.hamp.cells) : Store.rising (State.settle s x0).hamp.cells := by
  induction x0 generalizing s with
  | zero => exact h
  | succ n ih =>
    unfold State.settle
    split
    · rename_i hq
      exact ih _ (State.settleOne_hamperCanonical _ h _ hq)
    · exact h
theorem execWaleWrite_hamperCanonical  (p : Fin 6) (b : WaleBlock) (mem : Fin 4) (s : State) (h : Store.rising s.hamp.cells) : ∀ q1, (execWaleWrite p b mem s) = .next q1 → Store.rising q1.hamp.cells := by
  rintro q1 ⟨⟩
  repeat' first | assumption | (with_reducible apply State.settle_hamperCanonical) | (with_reducible apply foldl_hamperCanonical; intros) | split | simp
theorem execWaleRead_hamperCanonical  (p : Fin 6) (b : WaleBlock) (mem : Fin 4) (s : State) (h : Store.rising s.hamp.cells) : ∀ q1, (execWaleRead p b mem s) = .next q1 → Store.rising q1.hamp.cells := by
  rintro q1 ⟨⟩
  repeat' first | assumption | (with_reducible apply State.settle_hamperCanonical) | (with_reducible apply foldl_hamperCanonical; intros) | split | simp
theorem execWaleRqGo_hamperCanonical  (ag : Agent) (n : Fin 4) (op : Fin 8) (ack : Bool) (len : Fin 256) (s : State) (h : Store.rising s.hamp.cells) : ∀ q1, (execWaleRqGo ag n op ack len s) = .next q1 → Store.rising q1.hamp.cells := by
  rintro q1 ⟨⟩
  repeat' first | assumption | (with_reducible apply State.settle_hamperCanonical) | (with_reducible apply foldl_hamperCanonical; intros) | split | simp
theorem execRegisterWrite_hamperCanonical  (ag : Agent) (off : Nat) (v : Word) (full : Bool) (s : State) (h : Store.rising s.hamp.cells) : ∀ q1, (execRegisterWrite ag off v full s) = .next q1 → Store.rising q1.hamp.cells := by
  rintro q1 ⟨⟩
  repeat' first | assumption | (with_reducible apply State.waitTake_hamperCanonical) | (with_reducible apply foldl_hamperCanonical; intros) | split | simp
theorem execGwWindowAccess_hamperCanonical  (ag : Agent) (req : WindowReq) (s : State) (h : Store.rising s.hamp.cells) : ∀ q1, (execGwWindowAccess ag req s) = .next q1 → Store.rising q1.hamp.cells := by
  rintro q1 ⟨⟩
  repeat' first | assumption | (with_reducible apply State.waitTake_hamperCanonical) | (with_reducible apply foldl_hamperCanonical; intros) | split | simp
theorem execGwMasterRequest_hamperCanonical  (port : Fin 4) (req : MasterReq) (s : State) (h : Store.rising s.hamp.cells) : ∀ q1, (execGwMasterRequest port req s) = .next q1 → Store.rising q1.hamp.cells := by
  rintro q1 ⟨⟩
  repeat' first | assumption | (with_reducible apply State.waitTake_hamperCanonical) | (with_reducible apply State.settle_hamperCanonical) | (with_reducible apply foldl_hamperCanonical; intros) | split | simp
theorem execClusterBusAccess_hamperCanonical  (core : Fin 4) (acc : BusAccess) (s : State) (h : Store.rising s.hamp.cells) : ∀ q1, (execClusterBusAccess core acc s) = .next q1 → Store.rising q1.hamp.cells := by
  intro q1 hq
  unfold execClusterBusAccess at hq
  split at hq
  · cases hq; exact h
  split at hq
  · cases hq
  · cases hq; exact State.waitTake_hamperCanonical _ _ h

/-! Edge. -/

theorem State.wtimerTick_hamperCanonical  (s : State) (h : Store.rising s.hamp.cells) : Store.rising (State.wtimerTick s).hamp.cells := by
  unfold State.wtimerTick
  repeat' first | assumption | (with_reducible apply State.wakeTimer_hamperCanonical) | (with_reducible apply foldl_hamperCanonical; intros) | split | simp
theorem State.eventWake_hamperCanonical  (s : State) (h : Store.rising s.hamp.cells) : Store.rising (State.eventWake s).hamp.cells := by
  unfold State.eventWake
  repeat' first | assumption | (with_reducible apply State.wakeSource_hamperCanonical) | (with_reducible apply foldl_hamperCanonical; intros) | split | simp
theorem State.idle_hamperCanonical  (s : State) (h : Store.rising s.hamp.cells) : Store.rising (State.idle s).hamp.cells := by
  unfold State.idle
  repeat' first | assumption | (with_reducible apply State.settle_hamperCanonical) | (with_reducible apply State.wtimerTick_hamperCanonical) | (with_reducible apply State.eventWake_hamperCanonical) | (with_reducible apply foldl_hamperCanonical; intros) | split | simp

end Sys2Proof.Machine
end

