-- ==== Sys2Proof/Laws/FrameSram.lean ====
section
/-! SUPPORT. Which operations leave cluster SRAM as it is, and that the others keep the canonical form of its list. -/
namespace Sys2Proof.Machine

/-! Ops. -/

@[simp] theorem sram_ite (c : Prop) [Decidable c] (a b : State) :
    (if c then a else b).sram = if c then a.sram else b.sram := by split <;> rfl
@[simp] theorem foldl_sram {α : Type} (f : State → α → State) (h : ∀ t a, (f t a).sram = t.sram)
    (l : List α) (s : State) : (l.foldl f s).sram = s.sram := by
  induction l generalizing s with
  | nil => rfl
  | cons a l ih => simp [ih, h]

@[simp] theorem State.wr_sram (s : State) (off : Nat) (v : Word) : (State.wr s off v).sram = s.sram := by simp [State.wr]
@[simp] theorem State.liveWr_sram (s : State) (off : Nat) (v : Word) : (State.liveWr s off v).sram = s.sram := by simp [State.liveWr]
@[simp] theorem State.setFld_sram (s : State) (off hi lo v : Nat) : (State.setFld s off hi lo v).sram = s.sram := by simp [State.setFld]
@[simp] theorem State.setBit_sram (s : State) (off i : Nat) (b : Bool) : (State.setBit s off i b).sram = s.sram := by simp [State.setBit]
@[simp] theorem State.orReg_sram (s : State) (off : Nat) (m : Word) : (State.orReg s off m).sram = s.sram := by simp [State.orReg]
@[simp] theorem State.bumpSat_sram (s : State) (off : Nat) : (State.bumpSat s off).sram = s.sram := by simp [State.bumpSat]
@[simp] theorem State.plainWrite_sram (s : State) (off : Nat) (v : Word) : (State.plainWrite s off v).sram = s.sram := by unfold State.plainWrite; (repeat' split) <;> simp
@[simp] theorem State.setMode_sram (s : State) (m : Nat) : (State.setMode s m).sram = s.sram := by simp [State.setMode]
@[simp] theorem State.sysFault_sram (s : State) (i : Nat) : (State.sysFault s i).sram = s.sram := by simp [State.sysFault]
@[simp] theorem State.freshWord_sram (s : State) : (State.freshWord s).2.sram = s.sram := by simp [State.freshWord]
@[simp] theorem State.freshNat_sram (s : State) : (State.freshNat s).2.sram = s.sram := by simp [State.freshNat]
@[simp] theorem State.emit_sram (s : State) (e : Emission) : (State.emit s e).sram = s.sram := by simp [State.emit]
@[simp] theorem State.setPort_sram (s : State) (p : Fin 2) (h : HostPort) : (State.setPort s p h).sram = s.sram := by simp [State.setPort]
@[simp] theorem State.msixSend_sram (s : State) (p : Fin 2) (vec : Nat) : (State.msixSend s p vec).sram = s.sram := by simp [State.msixSend]
@[simp] theorem State.msixFlush_sram (s : State) (p : Fin 2) : (State.msixFlush s p).sram = s.sram := by simp [State.msixFlush]
@[simp] theorem State.msixAfter_sram (before : State) (n : Nat) (s : State) : (State.msixAfter before n s).sram = s.sram := by simp [State.msixAfter]
@[simp] theorem State.raise_sram (s : State) (n : Nat) : (State.raise s n).sram = s.sram := by simp [State.raise]
@[simp] theorem State.raiseIf_sram (s : State) (c : Bool) (n : Nat) : (State.raiseIf s c n).sram = s.sram := by simp [State.raiseIf]
@[simp] theorem State.portEvent_sram (s : State) (p : Fin 2) (i : Nat) : (State.portEvent s p i).sram = s.sram := by simp [State.portEvent]
@[simp] theorem State.semFreed_sram (s : State) (n : Nat) : (State.semFreed s n).sram = s.sram := by simp [State.semFreed]
@[simp] theorem State.semFree_sram (s : State) (n : Nat) : (State.semFree s n).sram = s.sram := by simp [State.semFree]
@[simp] theorem State.semAutoRelease_sram (s : State) (ident : Nat) : (State.semAutoRelease s ident).sram = s.sram := by simp [State.semAutoRelease]
@[simp] theorem State.semAllFree_sram (s : State) : (State.semAllFree s).sram = s.sram := by simp [State.semAllFree]
@[simp] theorem State.portDiscard_sram (s : State) (ag : Agent) (region off : Nat) : (State.portDiscard s ag region off).sram = s.sram := by unfold State.portDiscard; dsimp only; repeat' first | (simp; done) | split
@[simp] theorem State.discard_sram (s : State) (ag : Agent) (region off : Nat) : (State.discard s ag region off).sram = s.sram := by simp [State.discard]
@[simp] theorem State.guarded_sram (s : State) (ag : Agent) (n off : Nat) (t : State) (h : t.sram = s.sram) : (s.guarded ag n off t).sram = s.sram := by unfold State.guarded; split <;> simp [h]
@[simp] theorem State.rws_sram (s : State) (ag : Agent) (off : Nat) (t : State) (h : t.sram = s.sram) : (s.rws ag off t).sram = s.sram := by unfold State.rws; (repeat' split) <;> simp [h]

/-! WaleTree. -/

@[simp] theorem State.setWale_sram (s : State) (w : WaleSt) : (State.setWale s w).sram = s.sram := by simp [State.setWale]
@[simp] theorem State.setWp_sram (s : State) (p : Nat) (v : WpSt) : (State.setWp s p v).sram = s.sram := by simp [State.setWp]
@[simp] theorem State.wpEvent_sram (s : State) (p i : Nat) : (State.wpEvent s p i).sram = s.sram := by simp [State.wpEvent]
@[simp] theorem State.wpFault_sram (s : State) (p i : Nat) : (State.wpFault s p i).sram = s.sram := by simp [State.wpFault]
@[simp] theorem State.waleErr_sram (s : State) (i : Nat) : (State.waleErr s i).sram = s.sram := by simp [State.waleErr]
@[simp] theorem State.waleEmit_sram (s : State) (p : Nat) (o : WaleOut) : (State.waleEmit s p o).sram = s.sram := by simp [State.waleEmit]
@[simp] theorem State.wpClear_sram (s : State) (p : Nat) : (State.wpClear s p).sram = s.sram := by simp [State.wpClear]
@[simp] theorem State.linkSend_sram (s : State) (p : Nat) (b : WaleBlock) : (State.linkSend s p b).sram = s.sram := by simp [State.linkSend]
@[simp] theorem State.linkDrain_sram (s : State) (p : Nat) : (State.linkDrain s p).sram = s.sram := by simp [State.linkDrain]
@[simp] theorem State.bcastOut_sram (s : State) (from_ : Option Nat) (b : WaleBlock) : (State.bcastOut s from_ b).sram = s.sram := by simp [State.bcastOut]
@[simp] theorem State.sysBcast_sram (s : State) (m : SysMsg) : (State.sysBcast s m).sram = s.sram := by simp [State.sysBcast]
@[simp] theorem State.sysNeighbour_sram (s : State) (p : Nat) (m : SysMsg) : (State.sysNeighbour s p m).sram = s.sram := by simp [State.sysNeighbour]
@[simp] theorem State.advertise_sram (s : State) (p : Nat) : (State.advertise s p).sram = s.sram := by simp [State.advertise]
@[simp] theorem State.advertiseAll_sram (s : State) : (State.advertiseAll s).sram = s.sram := by simp [State.advertiseAll]
@[simp] theorem State.setTlock_sram (s : State) (b : Bool) : (State.setTlock s b).sram = s.sram := by simp [State.setTlock]
@[simp] theorem State.chainRefresh_sram (s : State) : (State.chainRefresh s).sram = s.sram := by simp [State.chainRefresh]
@[simp] theorem State.waleTimeRefresh_sram (s : State) : (State.waleTimeRefresh s).sram = s.sram := by simp [State.waleTimeRefresh]
@[simp] theorem State.treeRefresh_sram (s : State) : (State.treeRefresh s).sram = s.sram := by simp [State.treeRefresh]
@[simp] theorem State.waleSemRelease_sram (s : State) : (State.waleSemRelease s).sram = s.sram := by simp [State.waleSemRelease]
@[simp] theorem State.linkDrop_sram (s : State) (p cause : Nat) : (State.linkDrop s p cause).sram = s.sram := by simp [State.linkDrop]
@[simp] theorem State.walePortsDrop_sram (s : State) : (State.walePortsDrop s).sram = s.sram := by simp [State.walePortsDrop]

/-! Clocks. -/

@[simp] theorem State.commitRwb_sram (s : State) (off : Nat) (cap val : Word) : (State.commitRwb s off cap val).sram = s.sram := by simp [State.commitRwb]
@[simp] theorem State.hubWrite_sram (s : State) (ag : Agent) (v : Word) : (State.hubWrite s ag v).sram = s.sram := by simp [State.hubWrite]
@[simp] theorem State.hubClockSwitch_sram (s : State) : (State.hubClockSwitch s).sram = s.sram := by simp [State.hubClockSwitch]
theorem execClkHubWrite_sram (ag : Agent) (v : Word) (s : State) : ∀ q1, (execClkHubWrite ag v s) = .next q1 → q1.sram = s.sram := by
  rintro q1 ⟨⟩; simp
theorem execHubSynthLock_sram (s : State) : ∀ q1, (execHubSynthLock s) = .next q1 → q1.sram = s.sram := by
  rintro q1 ⟨⟩; simp
@[simp] theorem State.setSynthPhase_sram (s : State) (n : Nat) (p : SynthPhase) : (State.setSynthPhase s n p).sram = s.sram := by simp [State.setSynthPhase]
@[simp] theorem State.illegalSel_sram (s : State) : (State.illegalSel s).sram = s.sram := by simp [State.illegalSel]
@[simp] theorem State.lockRefresh_sram (s : State) (n : Nat) : (State.lockRefresh s n).sram = s.sram := by simp [State.lockRefresh]
@[simp] theorem State.synthMeasure_sram (s : State) (g n : Nat) : (State.synthMeasure s g n).sram = s.sram := by simp [State.synthMeasure]
@[simp] theorem State.synthBegin_sram (s : State) (n : Nat) (c : SynthClass) : (State.synthBegin s n c).sram = s.sram := by unfold State.synthBegin; (repeat' split) <;> simp
@[simp] theorem State.synthPend_sram (s : State) (n : Nat) : (State.synthPend s n).sram = s.sram := by simp [State.synthPend]
@[simp] theorem State.synthApply_sram (s : State) (n : Nat) (vals : List (Nat × Word)) : (State.synthApply s n vals).sram = s.sram := by simp [State.synthApply]
@[simp] theorem State.synthLose_sram (s : State) (n : Nat) : (State.synthLose s n).sram = s.sram := by simp [State.synthLose]
theorem execSynthGlideDone_sram (n : Fin 32) (s : State) : ∀ q1, (execSynthGlideDone n s) = .next q1 → q1.sram = s.sram := by
  rintro q1 ⟨⟩; simp
theorem execSynthDividerDone_sram (n : Fin 32) (s : State) : ∀ q1, (execSynthDividerDone n s) = .next q1 → q1.sram = s.sram := by
  rintro q1 ⟨⟩; simp
theorem execSynthLock_sram (n : Fin 32) (s : State) : ∀ q1, (execSynthLock n s) = .next q1 → q1.sram = s.sram := by
  rintro q1 ⟨⟩; simp
theorem execSynthLossOfLock_sram (n : Fin 32) (s : State) : ∀ q1, (execSynthLossOfLock n s) = .next q1 → q1.sram = s.sram := by
  rintro q1 ⟨⟩; simp
theorem execSynthHoldoverExit_sram (n : Fin 32) (s : State) : ∀ q1, (execSynthHoldoverExit n s) = .next q1 → q1.sram = s.sram := by
  rintro q1 ⟨⟩; simp
@[simp] theorem State.tclkHoldover_sram (s : State) : (State.tclkHoldover s).sram = s.sram := by simp [State.tclkHoldover]
theorem execRefinLost_sram (s : State) : ∀ q1, (execRefinLost s) = .next q1 → q1.sram = s.sram := by
  rintro q1 ⟨⟩; simp
theorem execRefinRestored_sram (s : State) : ∀ q1, (execRefinRestored s) = .next q1 → q1.sram = s.sram := by
  rintro q1 ⟨⟩; simp
theorem execXrefLost_sram (s : State) : ∀ q1, (execXrefLost s) = .next q1 → q1.sram = s.sram := by
  rintro q1 ⟨⟩; simp
theorem execXrefRestored_sram (s : State) : ∀ q1, (execXrefRestored s) = .next q1 → q1.sram = s.sram := by
  rintro q1 ⟨⟩; simp
@[simp] theorem State.setSwitching_sram (s : State) (k v : Nat) : (State.setSwitching s k v).sram = s.sram := by simp [State.setSwitching]
@[simp] theorem State.netChange_sram (s : State) (k old new : Nat) : (State.netChange s k old new).sram = s.sram := by simp [State.netChange]
@[simp] theorem State.selectWrite_sram (s : State) (off : Nat) (legal : Bool) (v : Word) : (State.selectWrite s off legal v).sram = s.sram := by simp [State.selectWrite]
@[simp] theorem State.rimApply_sram (s : State) (k j : Nat) (vals : List (Nat × Word)) : (State.rimApply s k j vals).sram = s.sram := by unfold State.rimApply; (repeat' split) <;> simp
@[simp] theorem State.vselApply_sram (s : State) (w j : Nat) (vals : List (Nat × Word)) : (State.vselApply s w j vals).sram = s.sram := by unfold State.vselApply; (repeat' split) <;> simp
theorem execRimSelectWrite_sram (ag : Agent) (reg : RimReg) (v : Word) (s : State) : ∀ q1, (execRimSelectWrite ag reg v s) = .next q1 → q1.sram = s.sram := by
  intro q1 h
  cases reg <;> (cases h; simp)
theorem execGlitchFreeSwitchDone_sram (net : ClockNet) (s : State) : ∀ q1, (execGlitchFreeSwitchDone net s) = .next q1 → q1.sram = s.sram := by
  rintro q1 ⟨⟩; simp
theorem execGlitchFreeSwitchForced_sram (net : ClockNet) (s : State) : ∀ q1, (execGlitchFreeSwitchForced net s) = .next q1 → q1.sram = s.sram := by
  rintro q1 ⟨⟩; simp
@[simp] theorem State.setFmRun_sram (s : State) (m v : Nat) : (State.setFmRun s m v).sram = s.sram := by simp [State.setFmRun]
@[simp] theorem State.fmTick_sram (s : State) (m : Nat) : (State.fmTick s m).sram = s.sram := by simp [State.fmTick]
@[simp] theorem State.fmWrite_sram (s : State) (m : Nat) (v : Word) : (State.fmWrite s m v).sram = s.sram := by simp [State.fmWrite]
theorem execFmSourceWrite_sram (ag : Agent) (m : Fin 16) (v : Word) (s : State) : ∀ q1, (execFmSourceWrite ag m v s) = .next q1 → q1.sram = s.sram := by
  rintro q1 ⟨⟩; simp
theorem execFmWindowEnd_sram (m : Fin 16) (count : Word) (s : State) : ∀ q1, (execFmWindowEnd m count s) = .next q1 → q1.sram = s.sram := by
  intro q1 h; unfold execFmWindowEnd at h; dsimp only at h; (repeat' split at h) <;> first | (cases h; simp) | (cases h; (repeat' split) <;> simp_all)
@[simp] theorem State.clkWrite_sram (s : State) (ag : Agent) (off : Nat) (v : Word) : (State.clkWrite s ag off v).sram = s.sram := by simp [State.clkWrite]

/-! Planes. -/

@[simp] theorem State.setFrame_sram (s : State) (latch key : Nat) (f : BitVec 10240) : (State.setFrame s latch key f).sram = s.sram := by simp [State.setFrame]
@[simp] theorem State.setChk_sram (s : State) (latch key : Nat) (w : Word) : (State.setChk s latch key w).sram = s.sram := by simp [State.setChk]
@[simp] theorem State.setDyn_sram (s : State) (latch key : Nat) (b : Bool) : (State.setDyn s latch key b).sram = s.sram := by simp [State.setDyn]
@[simp] theorem State.putFrame_sram (s : State) (latch key : Nat) (f : BitVec 10240) (dyn : Bool) : (State.putFrame s latch key f dyn).sram = s.sram := by simp [State.putFrame]
@[simp] theorem State.clearLatch_sram (s : State) (u latch : Nat) : (State.clearLatch s u latch).sram = s.sram := by simp [State.clearLatch]
@[simp] theorem State.clearPlanes_sram (s : State) : (State.clearPlanes s).sram = s.sram := by simp [State.clearPlanes]
@[simp] theorem State.flipUnit_sram (s : State) (u : Nat) : (State.flipUnit s u).sram = s.sram := by simp [State.flipUnit]
@[simp] theorem State.setShState_sram (s : State) (u v : Nat) : (State.setShState s u v).sram = s.sram := by simp [State.setShState]
@[simp] theorem State.setBport_sram (s : State) (k : Nat) (v : BPort) : (State.setBport s k v).sram = s.sram := by simp [State.setBport]
@[simp] theorem State.bportHold_sram (s : State) (k : Nat) : (State.bportHold s k).sram = s.sram := by unfold State.bportHold; (repeat' split) <;> simp
@[simp] theorem State.bportsHold_sram (s : State) (sel : Nat → Bool) : (State.bportsHold s sel).sram = s.sram := by
  unfold State.bportsHold
  apply foldl_sram
  intro t n
  split
  · split
    · exact State.bportHold_sram _ _
    · rfl
  · rfl
@[simp] theorem State.setBond_sram (s : State) (u : Nat) (hold : Bool) : (State.setBond s u hold).sram = s.sram := by simp [State.setBond]
@[simp] theorem State.setInit_sram (s : State) (bay : Nat) (hold : Bool) : (State.setInit s bay hold).sram = s.sram := by simp [State.setInit]
@[simp] theorem State.setOut_sram (s : State) (k : Nat) (on : Bool) : (State.setOut s k on).sram = s.sram := by simp [State.setOut]
@[simp] theorem State.setArrayWord_sram (s : State) (a w : Nat) (v : BitVec 36) : (State.setArrayWord s a w v).sram = s.sram := by simp [State.setArrayWord]
@[simp] theorem State.setCreelWord_sram (s : State) (n w : Nat) (v : BitVec 36) : (State.setCreelWord s n w v).sram = s.sram := by simp [State.setCreelWord]
@[simp] theorem State.clearArray_sram (s : State) (a : Nat) : (State.clearArray s a).sram = s.sram := by simp [State.clearArray]
@[simp] theorem State.copyArray_sram (s : State) (src dst : Nat) : (State.copyArray s src dst).sram = s.sram := by simp [State.copyArray]
@[simp] theorem State.putContent_sram (s : State) (p : Word) (f : BitVec 10240) : (State.putContent s p f).sram = s.sram := by simp [State.putContent]
@[simp] theorem State.staleReport_sram (s : State) : (State.staleReport s).sram = s.sram := by simp [State.staleReport]
@[simp] theorem State.makeStale_sram (s : State) (n : Nat) : (State.makeStale s n).sram = s.sram := by simp [State.makeStale]
@[simp] theorem State.staleOff_sram (s : State) (n : Nat) : (State.staleOff s n).sram = s.sram := by simp [State.staleOff]
@[simp] theorem State.staleClear_sram (s : State) (n : Nat) : (State.staleClear s n).sram = s.sram := by simp [State.staleClear]

/-! Cadence. -/

@[simp] theorem State.cadErr_sram (s : State) (i : Nat) : (State.cadErr s i).sram = s.sram := by simp [State.cadErr]
@[simp] theorem State.adjDone_sram (s : State) : (State.adjDone s).sram = s.sram := by simp [State.adjDone]
@[simp] theorem State.ppsInstant_sram (s : State) : (State.ppsInstant s).sram = s.sram := by simp [State.ppsInstant]
@[simp] theorem State.tclkEdge_sram (s : State) : (State.tclkEdge s).sram = s.sram := by simp [State.tclkEdge]
@[simp] theorem State.setGen_sram (s : State) (g : Nat) (v : Gen) : (State.setGen s g v).sram = s.sram := by simp [State.setGen]
@[simp] theorem State.genApply_sram (s : State) (g : Nat) (b : Instant) (vals : List (Nat × Word)) : (State.genApply s g b vals).sram = s.sram := by simp [State.genApply]
@[simp] theorem State.setMb_sram (s : State) (i : Nat) (v : Option Instant) : (State.setMb s i v).sram = s.sram := by simp [State.setMb]
@[simp] theorem State.mbTake_sram (s : State) (i : Nat) (x : Instant) (x0 : FireResult) : (State.mbTake s i x x0).sram = s.sram := by
  cases x0 with
  | posted => unfold State.mbTake; dsimp only; split <;> simp
  | late => exact State.cadErr_sram _ _
  | busy => exact State.cadErr_sram _ _
@[simp] theorem State.mbPost_sram (s : State) (i : Nat) (x : Instant) : (State.mbPost s i x).sram = s.sram := by simp [State.mbPost]
@[simp] theorem State.mbSkip_sram (s : State) (i : Nat) (new : Instant) : (State.mbSkip s i new).sram = s.sram := by unfold State.mbSkip; (repeat' split) <;> simp
@[simp] theorem State.tbStep_sram (s : State) (off : Int) : (State.tbStep s off).sram = s.sram := by simp [State.tbStep]
@[simp] theorem State.adjStep_sram (s : State) : (State.adjStep s).sram = s.sram := by simp [State.adjStep]
@[simp] theorem State.adjSlew_sram (s : State) : (State.adjSlew s).sram = s.sram := by simp [State.adjSlew]
@[simp] theorem State.adjWrite_sram (s : State) (v : Word) : (State.adjWrite s v).sram = s.sram := by simp [State.adjWrite]
theorem execAdjStep_sram (ag : Agent) (s : State) : ∀ q1, (execAdjStep ag s) = .next q1 → q1.sram = s.sram := by
  rintro q1 ⟨⟩; simp
theorem execAdjSlew_sram (ag : Agent) (s : State) : ∀ q1, (execAdjSlew ag s) = .next q1 → q1.sram = s.sram := by
  rintro q1 ⟨⟩; simp
theorem execSlewDone_sram (s : State) : ∀ q1, (execSlewDone s) = .next q1 → q1.sram = s.sram := by
  rintro q1 ⟨⟩; simp
theorem execSyncCapture_sram (x : Fin 3) (falling : Bool) (s : State) : ∀ q1, (execSyncCapture x falling s) = .next q1 → q1.sram = s.sram := by
  intro q1 h; unfold execSyncCapture at h; dsimp only at h; (repeat' split at h) <;> first | (cases h; simp) | (cases h; (repeat' split) <;> simp_all)
@[simp] theorem State.setSnap_sram (s : State) (off : Nat) (v : Word) : (State.setSnap s off v).sram = s.sram := by simp [State.setSnap]
@[simp] theorem State.captureRead_sram (s : State) (x : Nat) : (State.captureRead s x).2.sram = s.sram := by simp [State.captureRead]
theorem execCaptureRead_sram (ag : Agent) (x : Fin 3) (s : State) : ∀ q1, (execCaptureRead ag x s) = .next q1 → q1.sram = s.sram := by
  rintro q1 ⟨⟩; simp
theorem execPpsInLost_sram (s : State) : ∀ q1, (execPpsInLost s) = .next q1 → q1.sram = s.sram := by
  rintro q1 ⟨⟩; simp
theorem execPpsOutPulse_sram (s : State) : ∀ q1, (execPpsOutPulse s) = .next q1 → q1.sram = s.sram := by
  rintro q1 ⟨⟩; simp
theorem execPpsOutPulseEnd_sram (s : State) : ∀ q1, (execPpsOutPulseEnd s) = .next q1 → q1.sram = s.sram := by
  rintro q1 ⟨⟩; simp
@[simp] theorem State.wideTick_sram (s : State) (off : Nat) : (State.wideTick s off).sram = s.sram := by simp [State.wideTick]
@[simp] theorem State.snapRead_sram (s0 : State) (off : Nat) : (State.snapRead s0 off).2.sram = s0.sram := by unfold State.snapRead; (repeat' split) <;> simp
theorem execSnapshotRead_sram (ag : Agent) (off : Nat) (s : State) : ∀ q1, (execSnapshotRead ag off s) = .next q1 → q1.sram = s.sram := by
  rintro q1 ⟨⟩; simp
@[simp] theorem State.setTap_sram (s : State) (i : Nat) (v : Option Instant) : (State.setTap s i v).sram = s.sram := by simp [State.setTap]
@[simp] theorem State.tapSchedule_sram (s : State) (i g : Nat) (t : Instant) : (State.tapSchedule s i g t).sram = s.sram := by simp [State.tapSchedule]
@[simp] theorem State.fbrApply_sram (s : State) (n : Nat) (vals : List (Nat × Word)) : (State.fbrApply s n vals).sram = s.sram := by unfold State.fbrApply; dsimp only; repeat' first | (simp; done) | split
@[simp] theorem State.fbrPresent_sram (s t : State) (n : Nat) (vals : List (Nat × Word)) : (State.fbrPresent s t n vals).sram = t.sram := by unfold State.fbrPresent; dsimp only; repeat' first | (simp; done) | split
@[simp] theorem State.fbrsApply_sram (s : State) (vals : List (Nat × Word)) : (State.fbrsApply s vals).sram = s.sram := by simp [State.fbrsApply]
@[simp] theorem State.cadWrite_sram (s : State) (off : Nat) (v : Word) : (State.cadWrite s off v).sram = s.sram := by simp [State.cadWrite]

/-! FlashDie. -/

@[simp] theorem State.withFlash_sram (s : State) (f : FlashState) : (State.withFlash s f).sram = s.sram := by simp [State.withFlash]
@[simp] theorem State.halfReport_sram (s : State) : (State.halfReport s).sram = s.sram := by unfold State.halfReport; (repeat' split) <;> simp
@[simp] theorem State.ledgerLost_sram (s : State) : (State.ledgerLost s).sram = s.sram := by simp [State.ledgerLost]
@[simp] theorem State.ledgerUse_sram (s : State) (f : FlashState) (h blank free seq : Nat) : (State.ledgerUse s f h blank free seq).sram = s.sram := by simp [State.ledgerUse]
@[simp] theorem State.ledgerTake_sram (s : State) (h : Nat) : (State.ledgerTake s h).sram = s.sram := by rw [State.ledgerTake, State.ledgerUse_sram]
@[simp] theorem State.ledgerBuild_sram (s : State) : (State.ledgerBuild s).sram = s.sram := by
  unfold State.ledgerBuild
  split
  · exact State.ledgerLost_sram s
  · exact State.ledgerTake_sram s _
@[simp] theorem State.logProgram_sram (s : State) (w : BitVec 64) : (State.logProgram s w).sram = s.sram := by simp [State.logProgram]
@[simp] theorem State.logSpoil_sram (s : State) : (State.logSpoil s).sram = s.sram := by simp [State.logSpoil]
@[simp] theorem State.compact_sram (s : State) : (State.compact s).sram = s.sram := by simp [State.compact]

/-! Journal. -/

@[simp] theorem State.flashRefuse_sram (s : State) (ag : Agent) (off code : Nat) : (State.flashRefuse s ag off code).sram = s.sram := by simp [State.flashRefuse]
theorem State.journalPut_sram (s : State) (r : Nat) : ∀ q1, (State.journalPut s r) = some q1 → q1.sram = s.sram := by
  intro q1 h
  simp only [State.journalPut] at h
  (repeat' split at h) <;> simp_all <;> (try (subst h; simp))
@[simp] theorem State.journalWriteAll_sram (s : State) (x0 : List Nat) : (State.journalWriteAll s x0).sram = s.sram := by
  induction x0 generalizing s with
  | nil => rfl
  | cons a l ih =>
    unfold State.journalWriteAll
    split
    · rename_i h
      rw [ih, State.journalPut_sram _ _ _ h]
    · rfl
@[simp] theorem State.journalFlush_sram (s : State) : (State.journalFlush s).sram = s.sram := by simp [State.journalFlush]
@[simp] theorem State.journal_sram (s : State) (step outcome code src addr arg : Nat) : (State.journal s step outcome code src addr arg).sram = s.sram := by simp [State.journal]
@[simp] theorem State.eraseTest_sram (s : State) : (State.eraseTest s).sram = s.sram := by simp [State.eraseTest]
@[simp] theorem State.stagingMode_sram (s : State) : (State.stagingMode s).sram = s.sram := by simp [State.stagingMode]

/-! Flash. -/

@[simp] theorem State.flashStart_sram (s : State) (op : FlashOp) : (State.flashStart s op).sram = s.sram := by simp [State.flashStart]
@[simp] theorem State.flashEnd_sram (s : State) : (State.flashEnd s).sram = s.sram := by simp [State.flashEnd]
@[simp] theorem State.lastOp_sram (s : State) (op : FlashOp) (pulses : Nat) (failed : Bool) : (State.lastOp s op pulses failed).sram = s.sram := by simp [State.lastOp]
@[simp] theorem State.wearReport_sram (s : State) (op : FlashOp) (pulses : Nat) : (State.wearReport s op pulses).sram = s.sram := by simp [State.wearReport]
@[simp] theorem State.badEntry_sram (s : State) (op : FlashOp) (e : SecEntry) : (State.badEntry s op e).sram = s.sram := by simp [State.badEntry]
@[simp] theorem State.markBad_sram (s : State) (op : FlashOp) : (State.markBad s op).sram = s.sram := by simp [State.markBad]
@[simp] theorem State.failOp_sram (s : State) (op : FlashOp) : (State.failOp s op).sram = s.sram := by simp [State.failOp]
@[simp] theorem State.flashAbandon_sram (s : State) : (State.flashAbandon s).sram = s.sram := by unfold State.flashAbandon; (repeat' split) <;> simp
@[simp] theorem State.flashSuspend_sram (s : State) (eng : Bool) : (State.flashSuspend s eng).sram = s.sram := by simp [State.flashSuspend]
@[simp] theorem State.flashResume_sram (s : State) (eng : Bool) : (State.flashResume s eng).sram = s.sram := by simp [State.flashResume]
theorem execFlashSuspendEffect_sram (s : State) : ∀ q1, (execFlashSuspendEffect s) = .next q1 → q1.sram = s.sram := by
  intro q1 h; unfold execFlashSuspendEffect at h; dsimp only at h; (repeat' split at h) <;> first | (cases h; simp) | (cases h; (repeat' split) <;> simp_all)
@[simp] theorem State.startProgram_sram (s : State) (ag : Agent) (off : Nat) (line : Bool) (addr : Nat) (words : List (BitVec 64)) : (State.startProgram s ag off line addr words).sram = s.sram := by unfold State.startProgram; (repeat' split) <;> simp
@[simp] theorem State.startErase_sram (s : State) (ag : Agent) (off sec : Nat) : (State.startErase s ag off sec).sram = s.sram := by simp [State.startErase]
@[simp] theorem State.setSeq_sram (s : State) (q : FlashSeq) : (State.setSeq s q).sram = s.sram := by simp [State.setSeq]
@[simp] theorem State.seqErr_sram (s : State) (ag : Agent) (off : Nat) : (State.seqErr s ag off).sram = s.sram := by simp [State.seqErr]
@[simp] theorem State.unlockedCycle_sram (s : State) (ag : Agent) (off code : Nat) : (State.unlockedCycle s ag off code).sram = s.sram := by unfold State.unlockedCycle; (repeat' split) <;> simp
@[simp] theorem State.idleCycle_sram (s : State) (ag : Agent) (off code : Nat) : (State.idleCycle s ag off code).sram = s.sram := by simp [State.idleCycle]
@[simp] theorem State.dataCycle_sram (s : State) (ag : Agent) (off : Nat) (wide : Bool) (v : BitVec 64) (line : Bool) (addr : Nat) (words : List (BitVec 64)) (half : Option Word) : (State.dataCycle s ag off wide v line addr words half).sram = s.sram := by unfold State.dataCycle; (repeat' split) <;> simp
@[simp] theorem State.flashCycle_sram (s : State) (ag : Agent) (off : Nat) (wide : Bool) (v : BitVec 64) : (State.flashCycle s ag off wide v).sram = s.sram := by unfold State.flashCycle; (repeat' split) <;> simp
theorem execFlashUnlockFirst_sram (ag : Agent) (off : Nat) (s : State) : ∀ q1, (execFlashUnlockFirst ag off s) = .next q1 → q1.sram = s.sram := by
  rintro q1 ⟨⟩; simp
theorem execFlashUnlockSecond_sram (ag : Agent) (off : Nat) (s : State) : ∀ q1, (execFlashUnlockSecond ag off s) = .next q1 → q1.sram = s.sram := by
  rintro q1 ⟨⟩; simp
theorem execFlashProgramWordCmd_sram (ag : Agent) (off : Nat) (s : State) : ∀ q1, (execFlashProgramWordCmd ag off s) = .next q1 → q1.sram = s.sram := by
  rintro q1 ⟨⟩; simp
theorem execFlashProgramLineCmd_sram (ag : Agent) (off : Nat) (s : State) : ∀ q1, (execFlashProgramLineCmd ag off s) = .next q1 → q1.sram = s.sram := by
  rintro q1 ⟨⟩; simp
theorem execFlashDataCycle_sram (ag : Agent) (off : Nat) (wide : Bool) (v : BitVec 64) (s : State) : ∀ q1, (execFlashDataCycle ag off wide v s) = .next q1 → q1.sram = s.sram := by
  rintro q1 ⟨⟩; simp
theorem execFlashEraseSetup_sram (ag : Agent) (off : Nat) (s : State) : ∀ q1, (execFlashEraseSetup ag off s) = .next q1 → q1.sram = s.sram := by
  rintro q1 ⟨⟩; simp
theorem execFlashEraseConfirm_sram (ag : Agent) (off : Nat) (s : State) : ∀ q1, (execFlashEraseConfirm ag off s) = .next q1 → q1.sram = s.sram := by
  rintro q1 ⟨⟩; simp
theorem execFlashSuspendCmd_sram (ag : Agent) (off : Nat) (s : State) : ∀ q1, (execFlashSuspendCmd ag off s) = .next q1 → q1.sram = s.sram := by
  rintro q1 ⟨⟩; simp
theorem execFlashResumeCmd_sram (ag : Agent) (off : Nat) (s : State) : ∀ q1, (execFlashResumeCmd ag off s) = .next q1 → q1.sram = s.sram := by
  rintro q1 ⟨⟩; simp
theorem execFlashReadStatusCmd_sram (ag : Agent) (off : Nat) (s : State) : ∀ q1, (execFlashReadStatusCmd ag off s) = .next q1 → q1.sram = s.sram := by
  rintro q1 ⟨⟩; simp
theorem execFlashInfoEntryCmd_sram (ag : Agent) (off : Nat) (s : State) : ∀ q1, (execFlashInfoEntryCmd ag off s) = .next q1 → q1.sram = s.sram := by
  rintro q1 ⟨⟩; simp
theorem execFlashReturnToRead_sram (ag : Agent) (off : Nat) (s : State) : ∀ q1, (execFlashReturnToRead ag off s) = .next q1 → q1.sram = s.sram := by
  rintro q1 ⟨⟩; simp
theorem execFlashProgramDone_sram (pulses : Nat) (pass : Bool) (s : State) : ∀ q1, (execFlashProgramDone pulses pass s) = .next q1 → q1.sram = s.sram := by
  intro q1 h; unfold execFlashProgramDone at h; dsimp only at h; (repeat' split at h) <;> first | (cases h; simp) | (cases h; (repeat' split) <;> simp_all)
@[simp] theorem State.spoilLogs_sram (s : State) (x0 : Nat) : (State.spoilLogs s x0).sram = s.sram := by
  induction x0 generalizing s with
  | zero => simp [State.spoilLogs]
  | succ n ih => simp [State.spoilLogs, ih]
@[simp] theorem State.ledgerFail_sram (s : State) : (State.ledgerFail s).sram = s.sram := by simp [State.ledgerFail]
theorem execFlashIntentRecorded_sram (fails : Fin 9) (s : State) : ∀ q1, (execFlashIntentRecorded fails s) = .next q1 → q1.sram = s.sram := by
  intro q1 h; unfold execFlashIntentRecorded at h; dsimp only at h; (repeat' split at h) <;> first | (cases h; simp) | (cases h; (repeat' split) <;> simp_all)
@[simp] theorem State.opStage_sram (s : State) (op : FlashOp) (st : FlashStage) : (State.opStage s op st).sram = s.sram := by simp [State.opStage]
theorem execFlashCompactionDone_sram (s : State) : ∀ q1, (execFlashCompactionDone s) = .next q1 → q1.sram = s.sram := by
  intro q1 hq
  unfold execFlashCompactionDone at hq
  split at hq
  · split at hq
    · injection hq with hq; rw [← hq]
    split at hq
    · replace hq := Host.Outcome.next.inj hq
      rw [← hq, State.opStage_sram, State.compact_sram]
    · replace hq := Host.Outcome.next.inj hq
      rw [← hq, State.markBad_sram, State.compact_sram]
    · injection hq with hq; rw [← hq]
  · injection hq with hq; rw [← hq]
@[simp] theorem State.logComplete_sram (s : State) (op : FlashOp) (pulses : Nat) : (State.logComplete s op pulses).sram = s.sram := by simp [State.logComplete]
theorem execFlashEraseDone_sram (pulses : Nat) (pass : Bool) (s : State) : ∀ q1, (execFlashEraseDone pulses pass s) = .next q1 → q1.sram = s.sram := by
  intro q1 h; unfold execFlashEraseDone at h; dsimp only at h; (repeat' split at h) <;> first | (cases h; simp) | (cases h; (repeat' split) <;> simp_all)
@[simp] theorem State.busyRead_sram (s : State) : (State.busyRead s).sram = s.sram := by simp [State.busyRead]
@[simp] theorem State.flashRead_sram (s : State) (ag : Agent) (off : Nat) : (State.flashRead s ag off).2.sram = s.sram := by unfold State.flashRead; dsimp only; repeat' first | (simp; done) | split
theorem execFlashHostReadBusy_sram (ag : Agent) (off : Nat) (s : State) : ∀ q1, (execFlashHostReadBusy ag off s) = .next q1 → q1.sram = s.sram := by
  intro q1 h
  have e := State.flashRead_sram s ag off
  unfold execFlashHostReadBusy at h
  split at h <;> (rename_i hr; rw [hr] at e; cases h; simpa using e)
theorem execFlashStalledReadDone_sram (ag : Agent) (off : Nat) (s : State) : ∀ q1, (execFlashStalledReadDone ag off s) = .next q1 → q1.sram = s.sram := by
  intro q1 h
  have e := State.flashRead_sram s ag off
  unfold execFlashStalledReadDone at h
  split at h <;> (rename_i hr; rw [hr] at e; cases h; simpa using e)

/-! Keys. -/

@[simp] theorem State.blow_sram (s : State) (fs : List FuseRef) : (State.blow s fs).sram = s.sram := by simp [State.blow]
@[simp] theorem State.lcRefresh_sram (s : State) : (State.lcRefresh s).sram = s.sram := by simp [State.lcRefresh]
@[simp] theorem State.lcDecode_sram (s : State) (agree : Bool) : (State.lcDecode s agree).sram = s.sram := by simp [State.lcDecode]
@[simp] theorem State.keyClear_sram (s : State) : (State.keyClear s).sram = s.sram := by simp [State.keyClear]
@[simp] theorem State.keyLoad_sram (s : State) : (State.keyLoad s).sram = s.sram := by simp [State.keyLoad]
@[simp] theorem State.zeroiseKey_sram (s : State) (cause : Nat) : (State.zeroiseKey s cause).sram = s.sram := by simp [State.zeroiseKey]
@[simp] theorem State.lcResult_sram (s : State) (jtag : Bool) (code : Nat) : (State.lcResult s jtag code).sram = s.sram := by simp [State.lcResult]
@[simp] theorem State.debugOpen_sram (s : State) (scope : Nat) : (State.debugOpen s scope).sram = s.sram := by simp [State.debugOpen]
@[simp] theorem State.debugEnd_sram (s : State) : (State.debugEnd s).sram = s.sram := by simp [State.debugEnd]

/-! Fabric. -/

@[simp] theorem State.setTileBit_sram (s : State) (bay l r b : Nat) (v : Bool) : (State.setTileBit s bay l r b v).sram = s.sram := by simp [State.setTileBit]
@[simp] theorem State.setFf_sram (s : State) (i : Nat) (v : Bool) : (State.setFf s i v).sram = s.sram := by simp [State.setFf]
@[simp] theorem State.initLoad_sram (s : State) (bay : Nat) : (State.initLoad s bay).sram = s.sram := by
  unfold State.initLoad
  dsimp only
  rw [foldl_sram]
  intro t l
  rw [foldl_sram]
  intro t r
  rw [foldl_sram]
  intro t c
  simp
@[simp] theorem State.tileEdge_sram (s t : State) (bay l r net : Nat) (rising : Bool) (w : FabricPins) : (State.tileEdge s t bay l r net rising w).sram = t.sram := by simp [State.tileEdge]
@[simp] theorem State.cellsEdge_sram (s t : State) (bay net : Nat) (rising : Bool) (w : FabricPins) : (State.cellsEdge s t bay net rising w).sram = t.sram := by simp [State.cellsEdge]
@[simp] theorem State.asyncBay_sram (s t : State) (bay : Nat) (w : FabricPins) : (s.asyncBay t bay w).sram = t.sram := by
  unfold State.asyncBay
  split
  · rfl
  · apply foldl_sram
    intro t l
    apply foldl_sram
    intro t r
    apply foldl_sram
    intro t k
    dsimp only
    split
    · apply foldl_sram
      intro t i
      simp
    · rfl
@[simp] theorem State.setBridge_sram (s : State) (i : Nat) (v : Word) : (State.setBridge s i v).sram = s.sram := by simp [State.setBridge]
@[simp] theorem State.groupEdge_sram (s t : State) (bay net dir band row g : Nat) (w : FabricPins) : (State.groupEdge s t bay net dir band row g w).sram = t.sram := by simp [State.groupEdge]
@[simp] theorem State.bridgesEdge_sram (s t : State) (bay net : Nat) (w : FabricPins) : (State.bridgesEdge s t bay net w).sram = t.sram := by simp [State.bridgesEdge]
@[simp] theorem State.setGate_sram (s : State) (bay net : Nat) (shut : Bool) : (State.setGate s bay net shut).sram = s.sram := by simp [State.setGate]

/-! Creels. -/

@[simp] theorem State.setCreel_sram (s : State) (n : Nat) (c : CreelSt) : (State.setCreel s n c).sram = s.sram := by simp [State.setCreel]
@[simp] theorem State.setCreelBit_sram (s : State) (n nm : Nat) (v : Bool) : (State.setCreelBit s n nm v).sram = s.sram := by simp [State.setCreelBit]
@[simp] theorem State.applyWrites_sram (s : State) (n : Nat) (ws : List (Nat × Bool)) : (State.applyWrites s n ws).sram = s.sram := by simp [State.applyWrites]
@[simp] theorem State.portsEdge_sram (s : State) (n : Nat) (c : CreelCfg) (fa fb : Bool) (p : CreelPins) : (State.portsEdge s n c fa fb p).sram = s.sram := by simp [State.portsEdge]
@[simp] theorem State.fifoEdge_sram (s : State) (n : Nat) (c : CreelCfg) (fw fr : Bool) (p : CreelPins) : (State.fifoEdge s n c fw fr p).sram = s.sram := by simp [State.fifoEdge]
@[simp] theorem State.creelEdge_sram (s : State) (n net : Nat) (rising : Bool) (p : CreelPins) : (State.creelEdge s n net rising p).sram = s.sram := by simp [State.creelEdge]
@[simp] theorem State.creelsEdge_sram (s : State) (bay net : Nat) (rising : Bool) (p : EdgePins) : (State.creelsEdge s bay net rising p).sram = s.sram := by simp [State.creelsEdge]
@[simp] theorem State.fifoReset_sram (s : State) (bay : Nat) (p : EdgePins) : (State.fifoReset s bay p).sram = s.sram := by simp [State.fifoReset]
@[simp] theorem State.creelLoad_sram (s : State) (bay : Nat) : (State.creelLoad s bay).sram = s.sram := by simp [State.creelLoad]
theorem execCreelScrubStep_sram (n : Fin 11520) (s : State) : ∀ q1, (execCreelScrubStep n s) = .next q1 → q1.sram = s.sram := by
  intro q1 h; unfold execCreelScrubStep at h; dsimp only at h; (repeat' split at h) <;> first | (cases h; simp) | (cases h; (repeat' split) <;> simp_all)
theorem execCreelScrubWriteBack_sram (n : Fin 11520) (s : State) : ∀ q1, (execCreelScrubWriteBack n s) = .next q1 → q1.sram = s.sram := by
  intro q1 h
  unfold execCreelScrubWriteBack at h
  split at h
  · cases h; rfl
  cases hs : (s.creel n.val).scrubWrite with
  | none => rw [hs] at h; cases h; rfl
  | some e =>
    rw [hs] at h
    injection h with h
    rw [← h, State.setCreel_sram, State.applyWrites_sram]

/-! Slices. -/

@[simp] theorem State.setSlice_sram (s : State) (n : Nat) (v : SliceSt) : (State.setSlice s n v).sram = s.sram := by simp [State.setSlice]
@[simp] theorem State.sliceColumnEdge_sram (s : State) (base net : Nat) (rising : Bool) (pins : Nat → SlicePins) : (State.sliceColumnEdge s base net rising pins).sram = s.sram := by simp [State.sliceColumnEdge]
@[simp] theorem State.slicesEdge_sram (s : State) (bay net : Nat) (rising : Bool) (p : EdgePins) : (State.slicesEdge s bay net rising p).sram = s.sram := by simp [State.slicesEdge]
@[simp] theorem State.sliceLoad_sram (s : State) (bay : Nat) : (State.sliceLoad s bay).sram = s.sram := by simp [State.sliceLoad]

/-! Modes. -/

@[simp] theorem State.setBoot_sram (s : State) (b : BootSt) : (State.setBoot s b).sram = s.sram := by simp [State.setBoot]
@[simp] theorem State.enterMode_sram (s : State) (m : Nat) : (State.enterMode s m).sram = s.sram := by simp [State.enterMode]
@[simp] theorem State.setRail_sram (s : State) (r : Nat) (on : Bool) : (State.setRail s r on).sram = s.sram := by simp [State.setRail]
@[simp] theorem State.setRails_sram (s : State) (rs : List Nat) (on : Bool) : (State.setRails s rs on).sram = s.sram := by simp [State.setRails]
@[simp] theorem State.setLevels_sram (s : State) (a b : Nat) : (State.setLevels s a b).sram = s.sram := by simp [State.setLevels]
@[simp] theorem State.driveDone_sram (s : State) (low : Bool) : (State.driveDone s low).sram = s.sram := by simp [State.driveDone]
@[simp] theorem State.fabricZero_sram (s : State) : (State.fabricZero s).sram = s.sram := by simp [State.fabricZero]
@[simp] theorem State.holdDevice_sram (s : State) : (State.holdDevice s).sram = s.sram := by simp [State.holdDevice]
@[simp] theorem State.clearShadows_sram (s : State) : (State.clearShadows s).sram = s.sram := by simp [State.clearShadows]
@[simp] theorem State.clearConfig_sram (s : State) : (State.clearConfig s).sram = s.sram := by simp [State.clearConfig]
@[simp] theorem State.clearGroups_sram (s : State) : (State.clearGroups s).sram = s.sram := by simp [State.clearGroups]
@[simp] theorem State.stageRefresh_sram (s : State) : (State.stageRefresh s).sram = s.sram := by simp [State.stageRefresh]
@[simp] theorem State.busDrop_sram (s : State) (c : Nat) : (State.busDrop s c).sram = s.sram := by simp [State.busDrop]
@[simp] theorem State.coreReset_sram (s : State) (c : Nat) : (State.coreReset s c).sram = s.sram := by simp [State.coreReset]
@[simp] theorem State.clusterHold_sram (s : State) : (State.clusterHold s).sram = s.sram := by simp [State.clusterHold]
@[simp] theorem State.safeHold_sram (s : State) (cause : Nat) : (State.safeHold s cause).sram = s.sram := by simp [State.safeHold]
@[simp] theorem State.prioDefer_sram (s : State) (outcome : Nat) : (State.prioDefer s outcome).sram = s.sram := by simp [State.prioDefer]
@[simp] theorem State.feed_sram (s : State) (at_ words : Nat) : (State.feed s at_ words).sram = s.sram := by simp [State.feed]
@[simp] theorem State.xspiStart_sram (s : State) (e : BootImage) : (State.xspiStart s e).sram = s.sram := by simp [State.xspiStart]
@[simp] theorem State.attemptReads_sram (s : State) (image : Nat) (prio : Bool) : (State.attemptReads s image prio).sram = s.sram := by unfold State.attemptReads; dsimp only; repeat' first | (simp; done) | split
@[simp] theorem State.nextAttempt_sram (s : State) : (State.nextAttempt s).sram = s.sram := by unfold State.nextAttempt; (repeat' split) <;> simp
@[simp] theorem State.failAttempt_sram (s : State) (code : Nat) (place : Word) : (State.failAttempt s code place).sram = s.sram := by simp [State.failAttempt]

/-! Hamper. -/

@[simp] theorem State.setHamp_sram (s : State) (h : HampSt) : (State.setHamp s h).sram = s.sram := by simp [State.setHamp]
@[simp] theorem State.hampScramble_sram (s : State) : (State.hampScramble s).sram = s.sram := by simp [State.hampScramble]
@[simp] theorem State.hampStore_sram (s : State) (a : Nat) (x0 : List Byte) : (State.hampStore s a x0).sram = s.sram := by
  induction x0 generalizing s a with
  | nil => simp [State.hampStore]
  | cons a l ih => simp [State.hampStore, ih]
@[simp] theorem State.hampReport_sram (s : State) (agent a : Nat) (write : Bool) (sev : Nat) : (State.hampReport s agent a write sev).2.sram = s.sram := by unfold State.hampReport; (repeat' split) <;> simp
@[simp] theorem State.setHampPort_sram (s : State) (n : Nat) (p : HampPortSt) : (State.setHampPort s n p).sram = s.sram := by simp [State.setHampPort]
@[simp] theorem State.hampEdge_sram (s : State) (n : Nat) (pins : HampPins) : (State.hampEdge s n pins).sram = s.sram := by unfold State.hampEdge; dsimp only; repeat' first | (simp; done) | split
@[simp] theorem State.hampBayEdge_sram (s : State) (bay net : Nat) (pins : HampPins) : (State.hampBayEdge s bay net pins).sram = s.sram := by unfold State.hampBayEdge; (repeat' split) <;> simp
@[simp] theorem State.hampPutBeats_sram (s : State) (a : Nat) (x0 : Nat) (x1 : List HampBeat) : (State.hampPutBeats s a x0 x1).sram = s.sram := by
  induction x1 generalizing s a x0 with
  | nil => cases x0 <;> rfl
  | cons b bs ih =>
    cases x0 with
    | zero => rfl
    | succ n =>
      rw [State.hampPutBeats, ih, foldl_sram]
      intro t i
      split <;> rfl
@[simp] theorem State.hampWriteDone_sram (s : State) (n sev : Nat) : (State.hampWriteDone s n sev).sram = s.sram := by unfold State.hampWriteDone; dsimp only; repeat' first | (simp; done) | split
@[simp] theorem State.hampReadDone_sram (s : State) (n sev : Nat) : (State.hampReadDone s n sev).sram = s.sram := by unfold State.hampReadDone; dsimp only; repeat' first | (simp; done) | split
@[simp] theorem State.hampFlush_sram (s : State) (bay : Nat) : (State.hampFlush s bay).sram = s.sram := by unfold State.hampFlush; (repeat' split) <;> simp
theorem execHamperPortRequest_sram (n : Fin 32) (rq : HampRq) (s : State) : ∀ q1, (execHamperPortRequest n rq s) = .next q1 → q1.sram = s.sram := by
  rintro q1 ⟨⟩; simp
theorem execHamperAccessDone_sram (src : HampSrc) (sev : Fin 4) (s : State) : ∀ q1, (execHamperAccessDone src sev s) = .next q1 → q1.sram = s.sram := by
  rintro q1 ⟨⟩; (repeat' split) <;> simp
@[simp] theorem State.hampDisable_sram (s : State) : (State.hampDisable s).sram = s.sram := by simp [State.hampDisable]
@[simp] theorem State.hampReady_sram (s : State) : (State.hampReady s).sram = s.sram := by simp [State.hampReady]
theorem execHamperTrainDone_sram (pass : Bool) (s : State) : ∀ q1, (execHamperTrainDone pass s) = .next q1 → q1.sram = s.sram := by
  rintro q1 ⟨⟩; simp
theorem execHamperTrainTimeout_sram (s : State) : ∀ q1, (execHamperTrainTimeout s) = .next q1 → q1.sram = s.sram := by
  rintro q1 ⟨⟩; simp
@[simp] theorem State.hampTrainWrite_sram (s : State) : (State.hampTrainWrite s).sram = s.sram := by simp [State.hampTrainWrite]
theorem execHamperRetrain_sram (ag : Agent) (s : State) : ∀ q1, (execHamperRetrain ag s) = .next q1 → q1.sram = s.sram := by
  rintro q1 ⟨⟩; simp
theorem execHamperRetrainDrained_sram (s : State) : ∀ q1, (execHamperRetrainDrained s) = .next q1 → q1.sram = s.sram := by
  rintro q1 ⟨⟩; simp
theorem execHamperDrainTimeout_sram (s : State) : ∀ q1, (execHamperDrainTimeout s) = .next q1 → q1.sram = s.sram := by
  rintro q1 ⟨⟩; simp
theorem execHamperRetrainDone_sram (s : State) : ∀ q1, (execHamperRetrainDone s) = .next q1 → q1.sram = s.sram := by
  rintro q1 ⟨⟩; simp
theorem execHamperTempRead_sram (temp : BitVec 8) (s : State) : ∀ q1, (execHamperTempRead temp s) = .next q1 → q1.sram = s.sram := by
  rintro q1 ⟨⟩; simp
theorem execHamperRefresh_sram (s : State) : ∀ q1, (execHamperRefresh s) = .next q1 → q1.sram = s.sram := by
  rintro q1 ⟨⟩; simp
@[simp] theorem State.hampSleep_sram (s : State) : (State.hampSleep s).sram = s.sram := by simp [State.hampSleep]
@[simp] theorem State.hampWake_sram (s : State) : (State.hampWake s).sram = s.sram := by simp [State.hampWake]
theorem execHamperSelfRefreshExit_sram (s : State) : ∀ q1, (execHamperSelfRefreshExit s) = .next q1 → q1.sram = s.sram := by
  rintro q1 ⟨⟩; simp
@[simp] theorem State.hampTrainStart_sram (s : State) (cons : Bool) : (State.hampTrainStart s cons).sram = s.sram := by simp [State.hampTrainStart]

/-! Stream. -/

@[simp] theorem State.setSt_sram (s : State) (st : StreamSt) : (State.setSt s st).sram = s.sram := by simp [State.setSt]
@[simp] theorem fine_sram (s : State) : (fine s).1.sram = s.sram := by simp [fine]
@[simp] theorem stop_sram (s : State) (code : Nat) : (stop s code).1.sram = s.sram := by simp [stop]
@[simp] theorem State.recordErr_sram (s : State) (src : Nat) (h : Word) (pos : Nat) (e : StreamErr) : (State.recordErr s src h pos e).sram = s.sram := by simp [State.recordErr]
@[simp] theorem State.leaveGroup_sram (s : State) (g bays edge : Nat) : (State.leaveGroup s g bays edge).sram = s.sram := by simp [State.leaveGroup]
@[simp] theorem State.joinGroup_sram (s : State) (g bays edge : Nat) : (State.joinGroup s g bays edge).sram = s.sram := by simp [State.joinGroup]
@[simp] theorem State.setUnits_sram (s : State) (us : List Nat) (v : Nat) : (State.setUnits s us v).sram = s.sram := by simp [State.setUnits]
@[simp] theorem State.dropStaging_sram (s : State) (g bays edge code : Nat) : (State.dropStaging s g bays edge code).sram = s.sram := by simp [State.dropStaging]
@[simp] theorem State.logShow_sram (s : State) : (State.logShow s).sram = s.sram := by unfold State.logShow; (repeat' split) <;> simp
@[simp] theorem State.pntLog_sram (s : State) (e : LogEntry) : (State.pntLog s e).sram = s.sram := by simp [State.pntLog]
@[simp] theorem State.reloadStart_sram (s : State) (bay : Nat) : (State.reloadStart s bay).sram = s.sram := by simp [State.reloadStart]
@[simp] theorem State.reloadNext_sram (s : State) : (State.reloadNext s).sram = s.sram := by unfold State.reloadNext; (repeat' split) <;> simp
@[simp] theorem State.reloadFail_sram (s : State) (code : Nat) : (State.reloadFail s code).sram = s.sram := by unfold State.reloadFail; (repeat' split) <;> simp
@[simp] theorem State.streamError_sram (s : State) (src : Nat) (h : Word) (pos : Nat) (e : StreamErr) : (State.streamError s src h pos e).sram = s.sram := by simp [State.streamError]
@[simp] theorem State.writeIdcode_sram (s : State) (v : Word) : (State.writeIdcode s v).1.sram = s.sram := by simp [State.writeIdcode]
@[simp] theorem State.writeForm_sram (s : State) (v : Word) : (State.writeForm s v).1.sram = s.sram := by simp [State.writeForm]
@[simp] theorem State.writeKeysel_sram (s : State) (v : Word) : (State.writeKeysel s v).1.sram = s.sram := by simp [State.writeKeysel]
@[simp] theorem State.writeSid_sram (s : State) (v : Word) : (State.writeSid s v).1.sram = s.sram := by simp [State.writeSid]
@[simp] theorem State.writeIv_sram (s : State) (ws : List Word) : (State.writeIv s ws).1.sram = s.sram := by simp [State.writeIv]
@[simp] theorem State.writeBodylen_sram (s : State) (v : Word) : (State.writeBodylen s v).1.sram = s.sram := by simp [State.writeBodylen]
@[simp] theorem State.writeBound_sram (s : State) (ws : List Word) : (State.writeBound s ws).1.sram = s.sram := by simp [State.writeBound]
@[simp] theorem State.writeGroup_sram (s : State) (v : Word) : (State.writeGroup s v).1.sram = s.sram := by simp [State.writeGroup]
@[simp] theorem State.writePlfloor_sram (s : State) (v : Word) : (State.writePlfloor s v).1.sram = s.sram := by simp [State.writePlfloor]
@[simp] theorem State.writeClkset_sram (s : State) (ws : List Word) : (State.writeClkset s ws).1.sram = s.sram := by unfold State.writeClkset; dsimp only; repeat' first | (simp; done) | split
@[simp] theorem State.dropWriteBack_sram (s : State) (hit : Nat → Bool) : (State.dropWriteBack s hit).sram = s.sram := by simp [State.dropWriteBack]
@[simp] theorem State.stageAccept_sram (s : State) (src : Nat) : (State.stageAccept s src).sram = s.sram := by simp [State.stageAccept]
@[simp] theorem State.doStage_sram (s : State) (src : Nat) : (State.doStage s src).1.sram = s.sram := by unfold State.doStage; (repeat' split) <;> simp
@[simp] theorem State.doFinish_sram (s : State) : (State.doFinish s).1.sram = s.sram := by simp [State.doFinish]
@[simp] theorem State.writeStep_sram (s : State) (src : Nat) (v : Word) : (State.writeStep s src v).1.sram = s.sram := by unfold State.writeStep; (repeat' split) <;> simp
@[simp] theorem State.writePlace_sram (s : State) (v : Word) : (State.writePlace s v).1.sram = s.sram := by simp [State.writePlace]
@[simp] theorem State.contentStep_sram (s : State) (dyn : Bool) (f : BitVec 10240) : (State.contentStep s dyn f).1.sram = s.sram := by simp [State.contentStep]
@[simp] theorem State.structStep_sram (s : State) (dyn : Bool) (f : BitVec 10240) : (State.structStep s dyn f).1.sram = s.sram := by unfold State.structStep; dsimp only; repeat' first | (simp; done) | split
@[simp] theorem State.writeFrames_sram (s : State) (h : Word) (pos : Nat) (x0 : List (BitVec 10240)) : (State.writeFrames s h pos x0).1.sram = s.sram := by
  induction x0 generalizing s with
  | nil => rfl
  | cons f fs ih =>
    unfold State.writeFrames
    dsimp only
    split
    · rfl
    split
    · rfl
    split
    · rfl
    by_cases hk : plKind s.st.place = 1 <;> simp only [hk, if_true, if_false] <;> split <;> simp [ih]
@[simp] theorem State.doFrames_sram (s : State) (h : Word) (d : List Word) : (State.doFrames s h d).1.sram = s.sram := by unfold State.doFrames; (repeat' split) <;> simp
@[simp] theorem State.doBody_sram (s : State) : (State.doBody s).1.sram = s.sram := by simp [State.doBody]
@[simp] theorem State.clksetApply_sram (s : State) : (State.clksetApply s).sram = s.sram := by simp [State.clksetApply]
@[simp] theorem State.checkPassed_sram (s : State) (src : Nat) : (State.checkPassed s src).sram = s.sram := by simp [State.checkPassed]
@[simp] theorem State.writeSeal_sram (s : State) (src : Nat) (ws : List Word) : (State.writeSeal s src ws).1.sram = s.sram := by simp [State.writeSeal]
@[simp] theorem State.writeCrcv_sram (s : State) (src crc : Nat) (v : Word) : (State.writeCrcv s src crc v).1.sram = s.sram := by simp [State.writeCrcv]
@[simp] theorem State.readFrames_sram (s : State) (acc : List Word) (x0 : Nat) : (State.readFrames s acc x0).1.sram = s.sram := by
  induction x0 generalizing s acc with
  | zero => simp [State.readFrames]
  | succ n ih => simp [State.readFrames, ih]
@[simp] theorem State.refillReturn_sram (s : State) (p : Fin 2) : (State.refillReturn s p).sram = s.sram := by simp [State.refillReturn]
@[simp] theorem State.returnWords_sram (s : State) (src : Nat) (ws : List Word) : (State.returnWords s src ws).sram = s.sram := by unfold State.returnWords; (repeat' split) <;> simp
@[simp] theorem State.doRead_sram (s : State) (src reg n : Nat) : (State.doRead s src reg n).1.sram = s.sram := by unfold State.doRead; (repeat' split) <;> simp
@[simp] theorem State.doSection_sram (s : State) (d : List Word) : (State.doSection s d).1.sram = s.sram := by simp [State.doSection]
@[simp] theorem State.doEnd_sram (s : State) : (State.doEnd s).1.sram = s.sram := by unfold State.doEnd; (repeat' split) <;> simp
@[simp] theorem State.doWrite_sram (s : State) (src crc : Nat) (h : Word) (d : List Word) : (State.doWrite s src crc h d).1.sram = s.sram := by unfold State.doWrite; (repeat' split) <;> simp
@[simp] theorem State.dispatchPacket_sram (s : State) (src crc : Nat) (h : Word) (d : List Word) : (State.dispatchPacket s src crc h d).1.sram = s.sram := by unfold State.dispatchPacket; dsimp only; repeat' first | (simp; done) | split
@[simp] theorem State.actPacket_sram (s : State) (src : Nat) (h : Word) (d : List Word) : (State.actPacket s src h d).1.sram = s.sram := by unfold State.actPacket; dsimp only; repeat' first | (simp; done) | split
@[simp] theorem State.sectionTake_sram (s : State) (n : Nat) : (State.sectionTake s n).sram = s.sram := by simp [State.sectionTake]
@[simp] theorem State.afterError_sram (s : State) (e : StreamErr) : (State.afterError s e).sram = s.sram := by simp [State.afterError]
@[simp] theorem State.sectionShort_sram (s : State) (src : Nat) (h : Word) (pos : Nat) : (State.sectionShort s src h pos).sram = s.sram := by simp [State.sectionShort]
@[simp] theorem State.passOver_sram (s : State) (n : Nat) : (State.passOver s n).sram = s.sram := by simp [State.passOver]
@[simp] theorem State.restPacket_sram (s : State) (h : Word) (d : List Word) : (State.restPacket s h d).sram = s.sram := by simp [State.restPacket]
@[simp] theorem State.sectionStep_sram (s : State) (src n : Nat) : (State.sectionStep s src n).sram = s.sram := by simp [State.sectionStep]
@[simp] theorem State.streamPacket_sram (s : State) (src : Nat) (h : Word) (d : List Word) : (State.streamPacket s src h d).sram = s.sram := by unfold State.streamPacket; dsimp only; repeat' first | (simp; done) | split
@[simp] theorem State.enginePacket_sram (s : State) (src : Nat) (h : Word) (d : List Word) : (State.enginePacket s src h d).sram = s.sram := by unfold State.enginePacket; dsimp only; repeat' first | (simp; done) | split
@[simp] theorem State.engineSync_sram (s : State) (src : Nat) : (State.engineSync s src).sram = s.sram := by unfold State.engineSync; (repeat' split) <;> simp
@[simp] theorem State.engineIdle_sram (s : State) : (State.engineIdle s).sram = s.sram := by simp [State.engineIdle]
@[simp] theorem State.loadSourceEnd_sram (s : State) (src : Nat) : (State.loadSourceEnd s src).sram = s.sram := by unfold State.loadSourceEnd; dsimp only; repeat' first | (simp; done) | split
@[simp] theorem State.partSourceEnd_sram (s : State) (src : Nat) : (State.partSourceEnd s src).sram = s.sram := by unfold State.partSourceEnd; dsimp only; repeat' first | (simp; done) | split
@[simp] theorem State.sourceReset_sram (s : State) (src : Nat) : (State.sourceReset s src).sram = s.sram := by unfold State.sourceReset; (repeat' split) <;> simp
@[simp] theorem State.engineSourceEnd_sram (s : State) : (State.engineSourceEnd s).sram = s.sram := by unfold State.engineSourceEnd; (repeat' split) <;> simp
@[simp] theorem State.windowTake_sram (s : State) (src n : Nat) : (State.windowTake s src n).sram = s.sram := by unfold State.windowTake; (repeat' split) <;> simp
@[simp] theorem State.sourceDrain_sram (s : State) (src : Nat) : (State.sourceDrain s src).sram = s.sram := by simp [State.sourceDrain]
@[simp] theorem State.spentEnd_sram (s : State) (src : Nat) : (State.spentEnd s src).sram = s.sram := by simp [State.spentEnd]
@[simp] theorem State.sourceEnded_sram (s : State) (src : Nat) : (State.sourceEnded s src).sram = s.sram := by unfold State.sourceEnded; (repeat' split) <;> simp
@[simp] theorem State.engineTake_sram (s : State) (src : Nat) (i : EngItem) : (State.engineTake s src i).sram = s.sram := by unfold State.engineTake; (repeat' split) <;> simp
@[simp] theorem State.engineDrain_sram (s : State) (x0 : List EngItem) : (State.engineDrain s x0).sram = s.sram := by
  induction x0 generalizing s with
  | nil => simp [State.engineDrain]
  | cons a l ih => unfold State.engineDrain; (repeat' split) <;> simp [ih]
@[simp] theorem State.engineResume_sram (s : State) : (State.engineResume s).sram = s.sram := by unfold State.engineResume; dsimp only; repeat' first | (simp; done) | split
@[simp] theorem State.unopened_sram (s : State) : (State.unopened s).sram = s.sram := by simp [State.unopened]
@[simp] theorem State.deliver_sram (s : State) (i : EngItem) : (State.deliver s i).sram = s.sram := by unfold State.deliver; (repeat' split) <;> simp
@[simp] theorem State.keyLost_sram (s : State) : (State.keyLost s).sram = s.sram := by unfold State.keyLost; (repeat' split) <;> simp
theorem execSyncWord_sram (s : State) : ∀ q1, (execSyncWord s) = .next q1 → q1.sram = s.sram := by
  rintro q1 ⟨⟩; simp
theorem execPacketBadHeader_sram (h : Word) (s : State) : ∀ q1, (execPacketBadHeader h s) = .next q1 → q1.sram = s.sram := by
  rintro q1 ⟨⟩; simp
theorem execNop_sram (s : State) : ∀ q1, (execNop s) = .next q1 → q1.sram = s.sram := by
  rintro q1 ⟨⟩; simp
theorem execWriteIdcode_sram (ws : List Word) (s : State) : ∀ q1, (execWriteIdcode ws s) = .next q1 → q1.sram = s.sram := by
  rintro q1 ⟨⟩; simp
theorem execWriteForm_sram (ws : List Word) (s : State) : ∀ q1, (execWriteForm ws s) = .next q1 → q1.sram = s.sram := by
  rintro q1 ⟨⟩; simp
theorem execWriteKeysel_sram (ws : List Word) (s : State) : ∀ q1, (execWriteKeysel ws s) = .next q1 → q1.sram = s.sram := by
  rintro q1 ⟨⟩; simp
theorem execWriteSid_sram (ws : List Word) (s : State) : ∀ q1, (execWriteSid ws s) = .next q1 → q1.sram = s.sram := by
  rintro q1 ⟨⟩; simp
theorem execWriteIv_sram (ws : List Word) (s : State) : ∀ q1, (execWriteIv ws s) = .next q1 → q1.sram = s.sram := by
  rintro q1 ⟨⟩; simp
theorem execWriteBodylen_sram (ws : List Word) (s : State) : ∀ q1, (execWriteBodylen ws s) = .next q1 → q1.sram = s.sram := by
  rintro q1 ⟨⟩; simp
theorem execWriteBound_sram (ws : List Word) (s : State) : ∀ q1, (execWriteBound ws s) = .next q1 → q1.sram = s.sram := by
  rintro q1 ⟨⟩; simp
theorem execWriteGroup_sram (ws : List Word) (s : State) : ∀ q1, (execWriteGroup ws s) = .next q1 → q1.sram = s.sram := by
  rintro q1 ⟨⟩; simp
theorem execWritePlfloor_sram (ws : List Word) (s : State) : ∀ q1, (execWritePlfloor ws s) = .next q1 → q1.sram = s.sram := by
  rintro q1 ⟨⟩; simp
theorem execWriteClkset_sram (ws : List Word) (s : State) : ∀ q1, (execWriteClkset ws s) = .next q1 → q1.sram = s.sram := by
  rintro q1 ⟨⟩; simp
theorem execStepNone_sram (v : Word) (s : State) : ∀ q1, (execStepNone v s) = .next q1 → q1.sram = s.sram := by
  rintro q1 ⟨⟩; simp
theorem execStepStage_sram (s : State) : ∀ q1, (execStepStage s) = .next q1 → q1.sram = s.sram := by
  rintro q1 ⟨⟩; simp
theorem execStageClearDone_sram (s : State) : ∀ q1, (execStageClearDone s) = .next q1 → q1.sram = s.sram := by
  rintro q1 ⟨⟩; simp
theorem execStepFinish_sram (s : State) : ∀ q1, (execStepFinish s) = .next q1 → q1.sram = s.sram := by
  rintro q1 ⟨⟩; simp
theorem execStepAbort_sram (s : State) : ∀ q1, (execStepAbort s) = .next q1 → q1.sram = s.sram := by
  rintro q1 ⟨⟩; simp
theorem execWritePlace_sram (ws : List Word) (s : State) : ∀ q1, (execWritePlace ws s) = .next q1 → q1.sram = s.sram := by
  rintro q1 ⟨⟩; simp
theorem execWriteFrames_sram (dyn : Bool) (ws : List Word) (s : State) : ∀ q1, (execWriteFrames dyn ws s) = .next q1 → q1.sram = s.sram := by
  rintro q1 ⟨⟩; simp
theorem execZero_sram (dyn : Bool) (n : BitVec 20) (s : State) : ∀ q1, (execZero dyn n s) = .next q1 → q1.sram = s.sram := by
  rintro q1 ⟨⟩; simp
theorem execRepeat_sram (dyn : Bool) (n : BitVec 20) (s : State) : ∀ q1, (execRepeat dyn n s) = .next q1 → q1.sram = s.sram := by
  rintro q1 ⟨⟩; simp
theorem execPatch_sram (dyn : Bool) (ps : List (Word × Word)) (s : State) : ∀ q1, (execPatch dyn ps s) = .next q1 → q1.sram = s.sram := by
  rintro q1 ⟨⟩; simp
theorem execBody_sram (s : State) : ∀ q1, (execBody s) = .next q1 → q1.sram = s.sram := by
  rintro q1 ⟨⟩; simp
theorem execWriteSeal_sram (ws : List Word) (s : State) : ∀ q1, (execWriteSeal ws s) = .next q1 → q1.sram = s.sram := by
  rintro q1 ⟨⟩; simp
theorem execWriteCrcv_sram (ws : List Word) (s : State) : ∀ q1, (execWriteCrcv ws s) = .next q1 → q1.sram = s.sram := by
  rintro q1 ⟨⟩; simp
theorem execReadFrames_sram (n : BitVec 20) (s : State) : ∀ q1, (execReadFrames n s) = .next q1 → q1.sram = s.sram := by
  rintro q1 ⟨⟩; simp
theorem execReadPlace_sram (s : State) : ∀ q1, (execReadPlace s) = .next q1 → q1.sram = s.sram := by
  rintro q1 ⟨⟩; simp
theorem execReadStat_sram (s : State) : ∀ q1, (execReadStat s) = .next q1 → q1.sram = s.sram := by
  rintro q1 ⟨⟩; simp
theorem execSection_sram (sel len : Word) (s : State) : ∀ q1, (execSection sel len s) = .next q1 → q1.sram = s.sram := by
  rintro q1 ⟨⟩; simp
theorem execEnd_sram (s : State) : ∀ q1, (execEnd s) = .next q1 → q1.sram = s.sram := by
  rintro q1 ⟨⟩; simp
theorem execStreamSourceEnd_sram (s : State) : ∀ q1, (execStreamSourceEnd s) = .next q1 → q1.sram = s.sram := by
  rintro q1 ⟨⟩; simp
theorem execUnopenedSourceWords_sram (s : State) : ∀ q1, (execUnopenedSourceWords s) = .next q1 → q1.sram = s.sram := by
  rintro q1 ⟨⟩; simp
@[simp] theorem State.lockWaitEnd_sram (s : State) : (State.lockWaitEnd s).sram = s.sram := by simp [State.lockWaitEnd]
theorem execClksetLockWaitEnd_sram (s : State) : ∀ q1, (execClksetLockWaitEnd s) = .next q1 → q1.sram = s.sram := by
  rintro q1 ⟨⟩; simp

/-! Staged. -/

@[simp] theorem State.openSource_sram (s : State) (c : Nat) : (State.openSource s c).sram = s.sram := by simp [State.openSource]
theorem execPsrcOpen_sram (ag : Agent) (c : Fin 8) (s : State) : ∀ q1, (execPsrcOpen ag c s) = .next q1 → q1.sram = s.sram := by
  rintro q1 ⟨⟩; simp
@[simp] theorem State.logFrame_sram (s : State) (latch key bit kind action : Nat) (time : Word) : (State.logFrame s latch key bit kind action time).sram = s.sram := by simp [State.logFrame]
@[simp] theorem State.entryRead_sram (s : State) (latch key : Nat) (entry : Fin 4) : (State.entryRead s latch key entry).sram = s.sram := by unfold State.entryRead; (repeat' split) <;> simp
@[simp] theorem State.entriesRead_sram (s : State) (bays edge : Nat) (es : EntryErrs) : (State.entriesRead s bays edge es).sram = s.sram := by simp [State.entriesRead]
@[simp] theorem State.upsetShadow_sram (s : State) (bays edge : Nat) (us : Upsets) : (State.upsetShadow s bays edge us).sram = s.sram := by simp [State.upsetShadow]
@[simp] theorem State.cgResult_sram (s : State) (g code : Nat) : (State.cgResult s g code).sram = s.sram := by simp [State.cgResult]
@[simp] theorem State.cgDisarm_sram (s : State) (g : Nat) : (State.cgDisarm s g).sram = s.sram := by simp [State.cgDisarm]
@[simp] theorem State.cgArm_sram (s : State) (g : Nat) (revert : Bool) : (State.cgArm s g revert).sram = s.sram := by unfold State.cgArm; (repeat' split) <;> simp
@[simp] theorem State.leaveLast_sram (s : State) (keep bays edge : Nat) : (State.leaveLast s keep bays edge).sram = s.sram := by simp [State.leaveLast]
@[simp] theorem State.cgCancel_sram (s : State) (g : Nat) : (State.cgCancel s g).sram = s.sram := by simp [State.cgCancel]
@[simp] theorem State.abortInto_sram (s : State) (g : Nat) : (State.abortInto s g).sram = s.sram := by unfold State.abortInto; (repeat' split) <;> simp
@[simp] theorem State.cgDiscard_sram (s : State) (g : Nat) : (State.cgDiscard s g).sram = s.sram := by simp [State.cgDiscard]
@[simp] theorem State.cgCtlWrite_sram (s : State) (g : Nat) (v : Word) : (State.cgCtlWrite s g v).sram = s.sram := by simp [State.cgCtlWrite]
theorem execCgArmCommit_sram (ag : Agent) (g : Fin 8) (s : State) : ∀ q1, (execCgArmCommit ag g s) = .next q1 → q1.sram = s.sram := by
  rintro q1 ⟨⟩; simp
theorem execCgArmRevert_sram (ag : Agent) (g : Fin 8) (s : State) : ∀ q1, (execCgArmRevert ag g s) = .next q1 → q1.sram = s.sram := by
  rintro q1 ⟨⟩; simp
theorem execCgDisarm_sram (ag : Agent) (g : Fin 8) (mode : Bool) (s : State) : ∀ q1, (execCgDisarm ag g mode s) = .next q1 → q1.sram = s.sram := by
  rintro q1 ⟨⟩; simp
theorem execCgDiscard_sram (ag : Agent) (g : Fin 8) (mode : Bool) (s : State) : ∀ q1, (execCgDiscard ag g mode s) = .next q1 → q1.sram = s.sram := by
  rintro q1 ⟨⟩; simp
theorem execCgDeadlineExpiry_sram (g : Fin 8) (s : State) : ∀ q1, (execCgDeadlineExpiry g s) = .next q1 → q1.sram = s.sram := by
  rintro q1 ⟨⟩; simp
@[simp] theorem State.shadowLost_sram (s : State) (u : Nat) : (State.shadowLost s u).sram = s.sram := by simp [State.shadowLost]
@[simp] theorem State.setDw_sram (s : State) (d : DwSt) : (State.setDw s d).sram = s.sram := by simp [State.setDw]
@[simp] theorem State.dwLose_sram (s : State) (us : List Nat) : (State.dwLose s us).sram = s.sram := by simp [State.dwLose]
@[simp] theorem State.dwRefuse_sram (s : State) (c : Nat) : (State.dwRefuse s c).sram = s.sram := by simp [State.dwRefuse]
@[simp] theorem State.dwPlace_sram (s : State) (p : Word) : (State.dwPlace s p).sram = s.sram := by simp [State.dwPlace]
@[simp] theorem State.dwData_sram (s : State) (w : Word) : (State.dwData s w).sram = s.sram := by unfold State.dwData; dsimp only; repeat' first | (simp; done) | split
@[simp] theorem State.dwCtl_sram (s : State) (v : Word) : (State.dwCtl s v).sram = s.sram := by simp [State.dwCtl]
theorem execDwPlaceWrite_sram (ag : Agent) (p : Word) (s : State) : ∀ q1, (execDwPlaceWrite ag p s) = .next q1 → q1.sram = s.sram := by
  rintro q1 ⟨⟩; simp
theorem execDwDataWrite_sram (ag : Agent) (w : Word) (s : State) : ∀ q1, (execDwDataWrite ag w s) = .next q1 → q1.sram = s.sram := by
  rintro q1 ⟨⟩; simp
theorem execDwApply_sram (ag : Agent) (bsel : Fin 64) (s : State) : ∀ q1, (execDwApply ag bsel s) = .next q1 → q1.sram = s.sram := by
  rintro q1 ⟨⟩; simp
theorem execDwClearBuffer_sram (ag : Agent) (bsel : Fin 64) (s : State) : ∀ q1, (execDwClearBuffer ag bsel s) = .next q1 → q1.sram = s.sram := by
  rintro q1 ⟨⟩; simp
@[simp] theorem State.dwLatch_sram (s : State) (src : Nat) : (State.dwLatch s src).sram = s.sram := by simp [State.dwLatch]
@[simp] theorem State.dwDeliver_sram (s : State) (src : Nat) : (State.dwDeliver s src).sram = s.sram := by simp [State.dwDeliver]
theorem execDwApplyEnd_sram (s : State) : ∀ q1, (execDwApplyEnd s) = .next q1 → q1.sram = s.sram := by
  rintro q1 ⟨⟩; simp
@[simp] theorem State.beginCommit_sram (s : State) (c : Commit) : (State.beginCommit s c).sram = s.sram := by simp [State.beginCommit]
@[simp] theorem State.holdPorts_sram (s : State) (bay : Nat) : (State.holdPorts s bay).sram = s.sram := by simp [State.holdPorts]
@[simp] theorem State.gwFlush_sram (s : State) (bay : Nat) : (State.gwFlush s bay).sram = s.sram := by unfold State.gwFlush; (repeat' split) <;> simp
@[simp] theorem State.gwSems_sram (s : State) : (State.gwSems s).sram = s.sram := by simp [State.gwSems]
@[simp] theorem State.bondStart_sram (s : State) (us : List Nat) : (State.bondStart s us).sram = s.sram := by simp [State.bondStart]
@[simp] theorem State.stakeSwitch_sram (s : State) (bay : Nat) : (State.stakeSwitch s bay).sram = s.sram := by simp [State.stakeSwitch]
@[simp] theorem State.bayInit_sram (s : State) (bay : Nat) : (State.bayInit s bay).sram = s.sram := by simp [State.bayInit]
@[simp] theorem State.commitUnit_sram (s : State) (u : Nat) : (State.commitUnit s u).sram = s.sram := by simp [State.commitUnit]
@[simp] theorem State.commitEdge_sram (s : State) (us : List Nat) : (State.commitEdge s us).sram = s.sram := by simp [State.commitEdge]
@[simp] theorem State.lanesCentre_sram (s : State) (k : Nat) : (State.lanesCentre s k).sram = s.sram := by simp [State.lanesCentre]
@[simp] theorem State.releaseUnits_sram (s : State) (us : List Nat) : (State.releaseUnits s us).sram = s.sram := by simp [State.releaseUnits]
@[simp] theorem State.setLast_sram (s : State) (g bays edge : Nat) : (State.setLast s g bays edge).sram = s.sram := by simp [State.setLast]
@[simp] theorem State.dropCommit_sram (s : State) (c : Commit) : (State.dropCommit s c).sram = s.sram := by simp [State.dropCommit]
@[simp] theorem State.becomePrevious_sram (s : State) (us : List Nat) : (State.becomePrevious s us).sram = s.sram := by simp [State.becomePrevious]
@[simp] theorem State.reloadUnheld_sram (s : State) (us : List Nat) : (State.reloadUnheld s us).sram = s.sram := by unfold State.reloadUnheld; (repeat' split) <;> simp
@[simp] theorem State.groupRelease_sram (s : State) (c : Commit) : (State.groupRelease s c).sram = s.sram := by simp [State.groupRelease]
@[simp] theorem State.reloadRelease_sram (s : State) (c : Commit) : (State.reloadRelease s c).sram = s.sram := by unfold State.reloadRelease; dsimp only; repeat' first | (simp; done) | split
theorem execCommitRelease_sram (g : Fin 9) (s : State) : ∀ q1, (execCommitRelease g s) = .next q1 → q1.sram = s.sram := by
  rintro q1 ⟨⟩; (repeat' split) <;> simp
@[simp] theorem State.groupLatch_sram (s : State) (src g : Nat) (wale : Bool) : (State.groupLatch s src g wale).sram = s.sram := by simp [State.groupLatch]
@[simp] theorem State.deliverCommits_sram (s : State) (src : Nat) : (State.deliverCommits s src).sram = s.sram := by simp [State.deliverCommits]
@[simp] theorem State.setFloors_sram (s : State) (bays : Nat) (v : Word) : (State.setFloors s bays v).sram = s.sram := by simp [State.setFloors]
@[simp] theorem State.panelFire_sram (s : State) (g : Nat) : (State.panelFire s g).sram = s.sram := by simp [State.panelFire]
@[simp] theorem State.verifyPass_sram (s : State) (j : VerifyJob) : (State.verifyPass s j).sram = s.sram := by simp [State.verifyPass]
@[simp] theorem State.verifyFail_sram (s : State) (j : VerifyJob) (key : Nat) : (State.verifyFail s j key).sram = s.sram := by simp [State.verifyFail]
@[simp] theorem State.loadVerifyEnd_sram (s : State) (j : PartJob) (prio : Bool) : (State.loadVerifyEnd s j prio).sram = s.sram := by unfold State.loadVerifyEnd; (repeat' split) <;> simp
@[simp] theorem State.passRead_sram (s : State) (bays edge : Nat) (us : Upsets) (es : EntryErrs) : (State.passRead s bays edge us es).sram = s.sram := by simp [State.passRead]
@[simp] theorem State.verifyEnd_sram (s : State) (us : Upsets) (es : EntryErrs) : (State.verifyEnd s us es).sram = s.sram := by unfold State.verifyEnd; dsimp only; repeat' first | (simp; done) | split
theorem execStagedVerifyEnd_sram (us : PassErrs) (s : State) : ∀ q1, (execStagedVerifyEnd us s) = .next q1 → q1.sram = s.sram := by
  rintro q1 ⟨⟩; simp
@[simp] theorem State.revertVerifyEnd_sram (s : State) (g : Nat) (us : Upsets) (es : EntryErrs) : (State.revertVerifyEnd s g us es).sram = s.sram := by simp [State.revertVerifyEnd]
theorem execRevertVerifyEnd_sram (g : Fin 8) (us : PassErrs) (s : State) : ∀ q1, (execRevertVerifyEnd g us s) = .next q1 → q1.sram = s.sram := by
  rintro q1 ⟨⟩; simp
@[simp] theorem State.isoRefresh_sram (s : State) (g : Nat) : (State.isoRefresh s g).sram = s.sram := by simp [State.isoRefresh]
@[simp] theorem State.pctlWrite_sram (s : State) (g : Nat) (v : Word) : (State.pctlWrite s g v).sram = s.sram := by simp [State.pctlWrite]
theorem execPanelIsoWrite_sram (ag : Agent) (g : Fin 8) (v : Word) (s : State) : ∀ q1, (execPanelIsoWrite ag g v s) = .next q1 → q1.sram = s.sram := by
  rintro q1 ⟨⟩; simp
theorem execPisoChange_sram (g : Fin 8) (level : Bool) (s : State) : ∀ q1, (execPisoChange g level s) = .next q1 → q1.sram = s.sram := by
  rintro q1 ⟨⟩; simp
@[simp] theorem State.groupWrite_sram (s : State) (off : Nat) (v : Word) (g k : Nat) : (State.groupWrite s off v g k).sram = s.sram := by unfold State.groupWrite; (repeat' split) <;> simp
@[simp] theorem State.cfgWrite_sram (s : State) (off : Nat) (v : Word) : (State.cfgWrite s off v).sram = s.sram := by
  rw [State.cfgWrite]
  simp only [sram_ite, State.openSource_sram, State.dwPlace_sram, State.dwData_sram, State.dwCtl_sram, State.groupWrite_sram,
    State.plainWrite_sram, ite_self]

/-! Pointing. -/

@[simp] theorem State.setShadowPos_sram (s : State) (w n : Nat) : (State.setShadowPos s w n).sram = s.sram := by simp [State.setShadowPos]
@[simp] theorem State.passEnd_sram (s : State) (w : Nat) : (State.passEnd s w).sram = s.sram := by simp [State.passEnd]
@[simp] theorem State.passShadow_sram (s : State) (w n : Nat) : (State.passShadow s w n).sram = s.sram := by unfold State.passShadow; (repeat' split) <;> simp
@[simp] theorem State.passNext_sram (s : State) (w : Nat) : (State.passNext s w).sram = s.sram := by unfold State.passNext; (repeat' split) <;> simp
@[simp] theorem State.holdBay_sram (s : State) (bay : Nat) : (State.holdBay s bay).sram = s.sram := by simp [State.holdBay]
@[simp] theorem State.wantReload_sram (s : State) (bay : Nat) : (State.wantReload s bay).sram = s.sram := by simp [State.wantReload]
@[simp] theorem State.holdClear_sram (s : State) (bay : Nat) : (State.holdClear s bay).sram = s.sram := by unfold State.holdClear; dsimp only; repeat' first | (simp; done) | split
theorem execPntHoldClear_sram (ag : Agent) (v : Word) (s : State) : ∀ q1, (execPntHoldClear ag v s) = .next q1 → q1.sram = s.sram := by
  rintro q1 ⟨⟩; simp
@[simp] theorem State.multiBit_sram (s : State) (latch key : Nat) : (State.multiBit s latch key).sram = s.sram := by unfold State.multiBit; dsimp only; repeat' first | (simp; done) | split
@[simp] theorem State.upsetFrame_sram (s : State) (latch key : Nat) (bits : List (Fin 10240)) : (State.upsetFrame s latch key bits).sram = s.sram := by simp [State.upsetFrame]
@[simp] theorem State.frameAct_sram (t : State) (w latch key : Nat) (x0 : FrameClass) : (State.frameAct t w latch key x0).sram = t.sram := by
  unfold State.frameAct; (repeat' split) <;> simp
@[simp] theorem State.frameRead_sram (s : State) (w latch key : Nat) (entry : Fin 4) : (State.frameRead s w latch key entry).sram = s.sram := by simp [State.frameRead]
theorem execPntFrameRead_sram (w : Fin 2) (upset : List (Fin 10240)) (entry : Fin 4) (s : State) : ∀ q1, (execPntFrameRead w upset entry s) = .next q1 → q1.sram = s.sram := by
  rintro q1 ⟨⟩; (repeat' split) <;> simp
theorem execPntSbeWriteBackDone_sram (w : Fin 2) (upset : FrameErrs) (s : State) : ∀ q1, (execPntSbeWriteBackDone w upset s) = .next q1 → q1.sram = s.sram := by
  intro q1 h; unfold execPntSbeWriteBackDone at h; dsimp only at h; (repeat' split at h) <;> first | (cases h; simp) | (cases h; (repeat' split) <;> simp_all)
@[simp] theorem State.pntCtlWrite_sram (s : State) (v : Word) : (State.pntCtlWrite s v).sram = s.sram := by simp [State.pntCtlWrite]
theorem execPntRestart_sram (ag : Agent) (en shadow : Bool) (s : State) : ∀ q1, (execPntRestart ag en shadow s) = .next q1 → q1.sram = s.sram := by
  rintro q1 ⟨⟩; simp
@[simp] theorem State.logPop_sram (s : State) : (State.logPop s).sram = s.sram := by simp [State.logPop]
theorem execPntLogPop_sram (ag : Agent) (s : State) : ∀ q1, (execPntLogPop ag s) = .next q1 → q1.sram = s.sram := by
  rintro q1 ⟨⟩; simp
theorem execPntReloadOpen_sram (s : State) : ∀ q1, (execPntReloadOpen s) = .next q1 → q1.sram = s.sram := by
  intro q1 h; unfold execPntReloadOpen at h; dsimp only at h; (repeat' split at h) <;> first | (cases h; simp) | (cases h; (repeat' split) <;> simp_all)
theorem execPntReloadFire_sram (s : State) : ∀ q1, (execPntReloadFire s) = .next q1 → q1.sram = s.sram := by
  rintro q1 ⟨⟩; simp
theorem execPntReloadWaitExpiry_sram (s : State) : ∀ q1, (execPntReloadWaitExpiry s) = .next q1 → q1.sram = s.sram := by
  rintro q1 ⟨⟩; (repeat' split) <;> simp
@[simp] theorem State.reloadLatch_sram (s : State) (src : Nat) : (State.reloadLatch s src).sram = s.sram := by unfold State.reloadLatch; (repeat' split) <;> simp
@[simp] theorem State.pntLoading_sram (s : State) : (State.pntLoading s).sram = s.sram := by simp [State.pntLoading]
@[simp] theorem State.pntWrite_sram (s : State) (off : Nat) (v : Word) : (State.pntWrite s off v).sram = s.sram := by simp [State.pntWrite]

/-! Lanes. -/

@[simp] theorem State.setLane_sram (s : State) (n : Nat) (l : LaneSt) : (State.setLane s n l).sram = s.sram := by simp [State.setLane]
@[simp] theorem State.laneErr_sram (s : State) (n i : Nat) : (State.laneErr s n i).sram = s.sram := by simp [State.laneErr]
@[simp] theorem State.laneStatus_sram (s : State) (n i : Nat) : (State.laneStatus s n i).sram = s.sram := by simp [State.laneStatus]
@[simp] theorem State.rxOff_sram (s : State) (n : Nat) : (State.rxOff s n).sram = s.sram := by simp [State.rxOff]
@[simp] theorem State.laneRefresh_sram (s : State) (n : Nat) : (State.laneRefresh s n).sram = s.sram := by simp [State.laneRefresh]
@[simp] theorem State.quadRefresh_sram (s : State) (q : Nat) : (State.quadRefresh s q).sram = s.sram := by simp [State.quadRefresh]
@[simp] theorem State.lanesRefresh_sram (s : State) : (State.lanesRefresh s).sram = s.sram := by simp [State.lanesRefresh]
@[simp] theorem State.cdrDrop_sram (s : State) (n : Nat) : (State.cdrDrop s n).sram = s.sram := by simp [State.cdrDrop]
@[simp] theorem State.lgForget_sram (s : State) (n : Nat) : (State.lgForget s n).sram = s.sram := by simp [State.lgForget]
@[simp] theorem State.lgLoad_sram (s : State) (n : Nat) : (State.lgLoad s n).sram = s.sram := by simp [State.lgLoad]
@[simp] theorem State.lgSave_sram (s : State) (n : Nat) : (State.lgSave s n).sram = s.sram := by simp [State.lgSave]
@[simp] theorem State.adaptStep_sram (s : State) (n : Nat) (e : EyeWindow) : (State.adaptStep s n e).sram = s.sram := by simp [State.adaptStep]
@[simp] theorem State.setRevHold_sram (s : State) (n k : Nat) : (State.setRevHold s n k).sram = s.sram := by simp [State.setRevHold]
@[simp] theorem State.floorRevert_sram (s : State) (n : Nat) : (State.floorRevert s n).sram = s.sram := by simp [State.floorRevert]
@[simp] theorem State.adaptEnd_sram (s : State) (n eye : Nat) (qual : Bool) (e : EyeWindow) : (State.adaptEnd s n eye qual e).sram = s.sram := by simp [State.adaptEnd]
@[simp] theorem State.eyeEnd_sram (s : State) (n : Nat) (e : EyeWindow) : (State.eyeEnd s n e).sram = s.sram := by simp [State.eyeEnd]
theorem execEyeWindowEnd_sram (n : Fin 64) (e : EyeWindow) (s : State) : ∀ q1, (execEyeWindowEnd n e s) = .next q1 → q1.sram = s.sram := by
  rintro q1 ⟨⟩; simp
@[simp] theorem State.txeqWrite_sram (s : State) (n : Nat) (v : Word) : (State.txeqWrite s n v).sram = s.sram := by simp [State.txeqWrite]
@[simp] theorem State.rxeqWrite_sram (s : State) (n : Nat) (v : Word) : (State.rxeqWrite s n v).sram = s.sram := by simp [State.rxeqWrite]
@[simp] theorem State.dfeWrite_sram (s : State) (n i : Nat) (v : Word) : (State.dfeWrite s n i v).sram = s.sram := by simp [State.dfeWrite]
@[simp] theorem State.prbsWrite_sram (s : State) (n : Nat) (v : Word) : (State.prbsWrite s n v).sram = s.sram := by simp [State.prbsWrite]
@[simp] theorem State.calStart_sram (s : State) (q : Nat) : (State.calStart s q).sram = s.sram := by simp [State.calStart]
@[simp] theorem State.quadWrite_sram (s : State) (q o : Nat) (v : Word) : (State.quadWrite s q o v).sram = s.sram := by simp [State.quadWrite]
@[simp] theorem State.laneWrite_sram (s : State) (n o : Nat) (v : Word) : (State.laneWrite s n o v).sram = s.sram := by simp [State.laneWrite]
theorem execLaneTxeqWrite_sram (ag : Agent) (n : Fin 64) (v : Word) (s : State) : ∀ q1, (execLaneTxeqWrite ag n v s) = .next q1 → q1.sram = s.sram := by
  rintro q1 ⟨⟩; simp
theorem execLaneLoadlg_sram (ag : Agent) (n : Fin 64) (s : State) : ∀ q1, (execLaneLoadlg ag n s) = .next q1 → q1.sram = s.sram := by
  rintro q1 ⟨⟩; simp
theorem execPrbsClear_sram (ag : Agent) (n : Fin 64) (s : State) : ∀ q1, (execPrbsClear ag n s) = .next q1 → q1.sram = s.sram := by
  rintro q1 ⟨⟩; simp
theorem execQuadCalStart_sram (ag : Agent) (q : Fin 16) (s : State) : ∀ q1, (execQuadCalStart ag q s) = .next q1 → q1.sram = s.sram := by
  rintro q1 ⟨⟩; simp
@[simp] theorem State.calEnd_sram (s : State) (q : Nat) (pass : Bool) : (State.calEnd s q pass).sram = s.sram := by simp [State.calEnd]
theorem execQuadCalDone_sram (q : Fin 16) (pass : Bool) (s : State) : ∀ q1, (execQuadCalDone q pass s) = .next q1 → q1.sram = s.sram := by
  rintro q1 ⟨⟩; simp
theorem execQuadCalTimeout_sram (q : Fin 16) (s : State) : ∀ q1, (execQuadCalTimeout q s) = .next q1 → q1.sram = s.sram := by
  rintro q1 ⟨⟩; simp
@[simp] theorem State.setRelock_sram (s : State) (q h : Nat) (b : Bool) : (State.setRelock s q h b).sram = s.sram := by simp [State.setRelock]
@[simp] theorem State.pllUnlock_sram (s : State) (q h : Nat) : (State.pllUnlock s q h).sram = s.sram := by simp [State.pllUnlock]
@[simp] theorem State.qpllApply_sram (s : State) (q : Nat) (vals : List (Nat × Word)) : (State.qpllApply s q vals).sram = s.sram := by unfold State.qpllApply; dsimp only; repeat' first | (simp; done) | split
theorem execQpllLock_sram (q : Fin 16) (h : Fin 2) (s : State) : ∀ q1, (execQpllLock q h s) = .next q1 → q1.sram = s.sram := by
  rintro q1 ⟨⟩; simp
theorem execQpllLossOfLock_sram (q : Fin 16) (h : Fin 2) (s : State) : ∀ q1, (execQpllLossOfLock q h s) = .next q1 → q1.sram = s.sram := by
  rintro q1 ⟨⟩; simp
@[simp] theorem State.laneCfgApply_sram (s : State) (n : Nat) (vals : List (Nat × Word)) : (State.laneCfgApply s n vals).sram = s.sram := by unfold State.laneCfgApply; (repeat' split) <;> simp
theorem execLaneWakeBurstEnd_sram (n : Fin 64) (s : State) : ∀ q1, (execLaneWakeBurstEnd n s) = .next q1 → q1.sram = s.sram := by
  rintro q1 ⟨⟩; simp
theorem execCdrLockAcquired_sram (n : Fin 64) (s : State) : ∀ q1, (execCdrLockAcquired n s) = .next q1 → q1.sram = s.sram := by
  rintro q1 ⟨⟩; simp
theorem execCdrLockLost_sram (n : Fin 64) (s : State) : ∀ q1, (execCdrLockLost n s) = .next q1 → q1.sram = s.sram := by
  rintro q1 ⟨⟩; simp
theorem execRxidleChange_sram (n : Fin 64) (idle : Bool) (s : State) : ∀ q1, (execRxidleChange n idle s) = .next q1 → q1.sram = s.sram := by
  rintro q1 ⟨⟩; simp
theorem execCommaAlign_sram (n : Fin 64) (s : State) : ∀ q1, (execCommaAlign n s) = .next q1 → q1.sram = s.sram := by
  rintro q1 ⟨⟩; simp
theorem execAlignLost_sram (n : Fin 64) (s : State) : ∀ q1, (execAlignLost n s) = .next q1 → q1.sram = s.sram := by
  rintro q1 ⟨⟩; simp
theorem execBlockLockAcquired_sram (n : Fin 64) (s : State) : ∀ q1, (execBlockLockAcquired n s) = .next q1 → q1.sram = s.sram := by
  rintro q1 ⟨⟩; simp
theorem execBlockLockLost_sram (n : Fin 64) (s : State) : ∀ q1, (execBlockLockLost n s) = .next q1 → q1.sram = s.sram := by
  rintro q1 ⟨⟩; simp
@[simp] theorem State.fifoFault_sram (s : State) (n : Nat) (tx : Bool) : (State.fifoFault s n tx).sram = s.sram := by simp [State.fifoFault]
theorem execPhaseFifoFault_sram (n : Fin 64) (tx : Bool) (s : State) : ∀ q1, (execPhaseFifoFault n tx s) = .next q1 → q1.sram = s.sram := by
  rintro q1 ⟨⟩; simp
theorem execPrbsCheckerLock_sram (n : Fin 64) (s : State) : ∀ q1, (execPrbsCheckerLock n s) = .next q1 → q1.sram = s.sram := by
  rintro q1 ⟨⟩; simp
@[simp] theorem State.countErr_sram (s : State) (n k : Nat) : (State.countErr s n k).sram = s.sram := by simp [State.countErr]
@[simp] theorem State.laneErrIf_sram (s : State) (c : Bool) (n i : Nat) : (State.laneErrIf s c n i).sram = s.sram := by simp [State.laneErrIf]
@[simp] theorem State.prbsCheck_sram (s : State) (n width raw : Nat) : (State.prbsCheck s n width raw).sram = s.sram := by simp [State.prbsCheck]
@[simp] theorem State.rxWord_sram (s : State) (n : Nat) (w : LaneRx) : (State.rxWord s n w).sram = s.sram := by simp [State.rxWord]
theorem execLaneRxWord_sram (n : Fin 64) (w : LaneRx) (s : State) : ∀ q1, (execLaneRxWord n w s) = .next q1 → q1.sram = s.sram := by
  rintro q1 ⟨⟩; simp
@[simp] theorem State.txEdge_sram (s : State) (n : Nat) (p : LanePins) : (State.txEdge s n p).sram = s.sram := by simp [State.txEdge]
@[simp] theorem State.rxEdge_sram (s : State) (n : Nat) : (State.rxEdge s n).sram = s.sram := by unfold State.rxEdge; dsimp only; repeat' first | (simp; done) | split
@[simp] theorem State.lanesEdge_sram (s : State) (k net : Nat) (p : EdgePins) : (State.lanesEdge s k net p).sram = s.sram := by simp [State.lanesEdge]

/-! WaleLink. -/

@[simp] theorem State.gangEnd_sram (s : State) : (State.gangEnd s).sram = s.sram := by simp [State.gangEnd]
@[simp] theorem State.linkDown_sram (s : State) (p cause : Nat) : (State.linkDown s p cause).sram = s.sram := by simp [State.linkDown]
@[simp] theorem State.walePortsDown_sram (s : State) : (State.walePortsDown s).sram = s.sram := by simp [State.walePortsDown]
@[simp] theorem State.ownSet_sram (s : State) (off : Nat) (v : Word) : (State.ownSet s off v).sram = s.sram := by simp [State.ownSet]
@[simp] theorem State.wpTake_sram (s : State) (p : Nat) : (State.wpTake s p).sram = s.sram := by simp [State.wpTake]
@[simp] theorem State.wpTrain_sram (s : State) (p : Nat) : (State.wpTrain s p).sram = s.sram := by simp [State.wpTrain]
@[simp] theorem State.wpStart_sram (s : State) (p : Nat) : (State.wpStart s p).sram = s.sram := by simp [State.wpStart]
@[simp] theorem State.wpDue_sram (s : State) (p : Nat) : (State.wpDue s p).sram = s.sram := by simp [State.wpDue]
@[simp] theorem State.wpCtlWrite_sram (s : State) (p : Nat) (v : Word) : (State.wpCtlWrite s p v).sram = s.sram := by simp [State.wpCtlWrite]
@[simp] theorem State.trnCount_sram (s : State) (p lane : Nat) (t : TrnSet) : (State.trnCount s p lane t).sram = s.sram := by simp [State.trnCount]
@[simp] theorem State.trnTraining_sram (s : State) (p lane : Nat) (t : TrnSet) : (State.trnTraining s p lane t).sram = s.sram := by simp [State.trnTraining]
@[simp] theorem State.trnSet_sram (s : State) (p lane : Nat) (t : TrnSet) : (State.trnSet s p lane t).sram = s.sram := by simp [State.trnSet]
@[simp] theorem State.peerRecord_sram (s : State) (x epoch : Nat) : (State.peerRecord s x epoch).sram = s.sram := by simp [State.peerRecord]
@[simp] theorem State.originEnd_sram (s : State) (o : WaleOrigin) (status : Nat) (read : Bool) (ws : List Word) : (State.originEnd s o status read ws).sram = s.sram := by unfold State.originEnd; (repeat' split) <;> simp
@[simp] theorem State.reqEnd_sram (s : State) (r : WaleReq) (status : Nat) (ws : List Word) : (State.reqEnd s r status ws).sram = s.sram := by simp [State.reqEnd]
@[simp] theorem State.reqsEpoch_sram (s : State) (f : WaleReq → Bool) : (State.reqsEpoch s f).sram = s.sram := by simp [State.reqsEpoch]
@[simp] theorem State.sendJoin_sram (s : State) (p : Nat) : (State.sendJoin s p).sram = s.sram := by simp [State.sendJoin]
@[simp] theorem State.linkUp_sram (s : State) (p : Nat) : (State.linkUp s p).sram = s.sram := by simp [State.linkUp]
@[simp] theorem State.ackDrop_sram (s : State) (p aseq : Nat) : (State.ackDrop s p aseq).sram = s.sram := by unfold State.ackDrop; dsimp only; repeat' first | (simp; done) | split
@[simp] theorem State.ackTake_sram (s : State) (p aseq : Nat) : (State.ackTake s p aseq).sram = s.sram := by unfold State.ackTake; repeat' first | (simp; done) | split
@[simp] theorem State.linkResend_sram (s : State) (p : Nat) : (State.linkResend s p).sram = s.sram := by simp [State.linkResend]
@[simp] theorem State.nakOnce_sram (s : State) (p : Nat) : (State.nakOnce s p).sram = s.sram := by simp [State.nakOnce]
@[simp] theorem State.linkRx_sram (s : State) (p seq : Nat) : (State.linkRx s p seq).2.sram = s.sram := by simp [State.linkRx]
@[simp] theorem State.lanesChanged_sram (s : State) (p : Nat) : (State.lanesChanged s p).sram = s.sram := by simp [State.lanesChanged]
@[simp] theorem State.askSet_sram (s : State) (p op set : Nat) : (State.askSet s p op set).sram = s.sram := by simp [State.askSet]
@[simp] theorem State.laneFail_sram (s : State) (p lane : Nat) : (State.laneFail s p lane).sram = s.sram := by simp [State.laneFail]
@[simp] theorem State.laneReadmit_sram (s : State) (p lane : Nat) : (State.laneReadmit s p lane).sram = s.sram := by simp [State.laneReadmit]
@[simp] theorem State.lmgSet_sram (s : State) (p op set : Nat) : (State.lmgSet s p op set).sram = s.sram := by simp [State.lmgSet]
@[simp] theorem State.dropBlock_sram (s : State) : (State.dropBlock s).sram = s.sram := by simp [State.dropBlock]
@[simp] theorem State.completionIn_sram (s : State) (b : WaleBlock) : (State.completionIn s b).sram = s.sram := by unfold State.completionIn; (repeat' split) <;> simp
theorem State.toPort_sram (s : State) (from_ : Option Nat) (b : WaleBlock) : ∀ q1, (State.toPort s from_ b) = some q1 → q1.sram = s.sram := by
  intro q1 h
  simp only [State.toPort] at h
  (repeat' split at h) <;> simp_all <;> (try (subst h; simp))
@[simp] theorem State.answer_sram (s : State) (b : WaleBlock) (status : Nat) (ws : List Word) : (State.answer s b status ws).sram = s.sram := by
  unfold State.answer
  dsimp only
  split
  · simp
  · split
    · rename_i h
      exact State.toPort_sram _ _ _ _ h
    · split <;> simp
@[simp] theorem State.wakeToward_sram (s : State) (x : Nat) (b : WaleBlock) : (State.wakeToward s x b).sram = s.sram := by simp [State.wakeToward]
@[simp] theorem State.sleepHandle_sram (s : State) (x : Nat) (b : WaleBlock) : (State.sleepHandle s x b).sram = s.sram := by simp [State.sleepHandle]
@[simp] theorem State.routeOn_sram (s : State) (from_ : Option Nat) (b : WaleBlock) : (State.routeOn s from_ b).sram = s.sram := by
  unfold State.routeOn
  dsimp only
  split
  · simp
  · split
    · rename_i h
      split at h
      · cases h
      · exact State.toPort_sram _ _ _ _ h
    · split <;> simp
@[simp] theorem State.mqRefresh_sram (s : State) : (State.mqRefresh s).sram = s.sram := by simp [State.mqRefresh]
@[simp] theorem State.messageIn_sram (s : State) (b : WaleBlock) : (State.messageIn s b).sram = s.sram := by simp [State.messageIn]
@[simp] theorem State.localIn_sram (s : State) (b : WaleBlock) (mem : Nat) : (State.localIn s b mem).sram = s.sram := by unfold State.localIn; (repeat' split) <;> simp
@[simp] theorem State.originate_sram (s : State) (b : WaleBlock) : (State.originate s b).sram = s.sram := by simp [State.originate]
@[simp] theorem State.requestSend_sram (s : State) (o : WaleOrigin) (b : WaleBlock) (tag : Nat) : (State.requestSend s o b tag).sram = s.sram := by simp [State.requestSend]
@[simp] theorem State.waleIssue_sram (s : State) (o : WaleOrigin) (kind : WaleKind) (dest addr len : Nat) (ack : Bool) (ws : List Word) : (State.waleIssue s o kind dest addr len ack ws).sram = s.sram := by unfold State.waleIssue; (repeat' split) <;> simp
theorem State.tagNext_sram (s : State) : ∀ q1, (State.tagNext s) = some q1 → q1.sram = s.sram := by
  intro q1 h
  simp only [State.tagNext] at h
  (repeat' split at h) <;> simp_all <;> (try (subst h; simp))
@[simp] theorem State.epochTest_sram (s : State) (b : WaleBlock) : (State.epochTest s b).2.sram = s.sram := by simp [State.epochTest]
@[simp] theorem State.blockIn_sram (s : State) (p : Nat) (b : WaleBlock) (here join : Bool) (act : State → State) (h : ∀ t, (act t).sram = t.sram) : (s.blockIn p b here join act).sram = s.sram := by
  have e := State.linkRx_sram s p b.seq.val
  unfold State.blockIn
  split
  · rename_i hr
    rw [hr] at e
    exact e
  · rename_i t hr
    rw [hr] at e
    have e2 := State.epochTest_sram t b
    split
    · rename_i hj
      split at hj
      · cases hj
      · rw [hj] at e2
        rw [e2]
        exact e
    · rename_i u hj
      have e3 : u.sram = t.sram := by
        split at hj
        · cases hj; rfl
        · rw [hj] at e2; exact e2
      dsimp only at e
      rw [← e, ← e3]
      split
      · exact h _
      split
      · rw [h]
        split <;> simp
      split
      · simp
      split
      · exact h _
      · simp
theorem execWpEnable_sram (ag : Agent) (p : Fin 6) (s : State) : ∀ q1, (execWpEnable ag p s) = .next q1 → q1.sram = s.sram := by
  rintro q1 ⟨⟩; simp
theorem execWpDisable_sram (ag : Agent) (p : Fin 6) (s : State) : ∀ q1, (execWpDisable ag p s) = .next q1 → q1.sram = s.sram := by
  rintro q1 ⟨⟩; simp
theorem execWpRetrain_sram (ag : Agent) (p : Fin 6) (s : State) : ∀ q1, (execWpRetrain ag p s) = .next q1 → q1.sram = s.sram := by
  rintro q1 ⟨⟩; simp
theorem execWaleTrnSet_sram (p : Fin 6) (lane : Fin 8) (t : TrnSet) (s : State) : ∀ q1, (execWaleTrnSet p lane t s) = .next q1 → q1.sram = s.sram := by
  rintro q1 ⟨⟩; simp
theorem execWaleTrainTimeout_sram (p : Fin 6) (s : State) : ∀ q1, (execWaleTrainTimeout p s) = .next q1 → q1.sram = s.sram := by
  rintro q1 ⟨⟩; simp
theorem execWaleLinkUp_sram (p : Fin 6) (s : State) : ∀ q1, (execWaleLinkUp p s) = .next q1 → q1.sram = s.sram := by
  rintro q1 ⟨⟩; simp
theorem execWaleAutoRetrain_sram (p : Fin 6) (s : State) : ∀ q1, (execWaleAutoRetrain p s) = .next q1 → q1.sram = s.sram := by
  rintro q1 ⟨⟩; simp
theorem execWaleBlockBad_sram (p : Fin 6) (fmt : Option (Fin 4096)) (s : State) : ∀ q1, (execWaleBlockBad p fmt s) = .next q1 → q1.sram = s.sram := by
  intro q1 h
  have e := fun q => State.linkRx_sram s p.val q
  unfold execWaleBlockBad at h
  injection h with h
  subst h
  split
  · rfl
  · split
    · simp
    · rename_i q
      have e1 := e q.val
      split <;> (rename_i hr; rw [hr] at e1; simpa using e1)
theorem execWaleAck_sram (p : Fin 6) (aseq : Fin 4096) (junk : Bool) (s : State) : ∀ q1, (execWaleAck p aseq junk s) = .next q1 → q1.sram = s.sram := by
  rintro q1 ⟨⟩; simp
theorem execWaleNak_sram (p : Fin 6) (aseq : Fin 4096) (junk : Bool) (s : State) : ∀ q1, (execWaleNak p aseq junk s) = .next q1 → q1.sram = s.sram := by
  rintro q1 ⟨⟩; simp
theorem execWaleAckSend_sram (p : Fin 6) (s : State) : ∀ q1, (execWaleAckSend p s) = .next q1 → q1.sram = s.sram := by
  rintro q1 ⟨⟩; simp
theorem execWaleAckTimerExpiry_sram (p : Fin 6) (s : State) : ∀ q1, (execWaleAckTimerExpiry p s) = .next q1 → q1.sram = s.sram := by
  rintro q1 ⟨⟩; simp
theorem execWaleLaneFail_sram (p : Fin 6) (lane : Fin 8) (s : State) : ∀ q1, (execWaleLaneFail p lane s) = .next q1 → q1.sram = s.sram := by
  rintro q1 ⟨⟩; simp
theorem execWaleLaneReadmitReady_sram (p : Fin 6) (lane : Fin 8) (s : State) : ∀ q1, (execWaleLaneReadmitReady p lane s) = .next q1 → q1.sram = s.sram := by
  rintro q1 ⟨⟩; simp
theorem execWaleLmgDrop_sram (p : Fin 6) (set : BitVec 8) (junk : Bool) (s : State) : ∀ q1, (execWaleLmgDrop p set junk s) = .next q1 → q1.sram = s.sram := by
  rintro q1 ⟨⟩; simp
theorem execWaleLmgReadmit_sram (p : Fin 6) (set : BitVec 8) (junk : Bool) (s : State) : ∀ q1, (execWaleLmgReadmit p set junk s) = .next q1 → q1.sram = s.sram := by
  rintro q1 ⟨⟩; simp
theorem execWaleLmgSleep_sram (p : Fin 6) (junk : Bool) (s : State) : ∀ q1, (execWaleLmgSleep p junk s) = .next q1 → q1.sram = s.sram := by
  rintro q1 ⟨⟩; simp
theorem execWaleLmgDown_sram (p : Fin 6) (junk : Bool) (s : State) : ∀ q1, (execWaleLmgDown p junk s) = .next q1 → q1.sram = s.sram := by
  rintro q1 ⟨⟩; simp
theorem execWaleCompletion_sram (p : Fin 6) (b : WaleBlock) (s : State) : ∀ q1, (execWaleCompletion p b s) = .next q1 → q1.sram = s.sram := by
  rintro q1 ⟨⟩; simp
theorem execWaleMessage_sram (p : Fin 6) (b : WaleBlock) (s : State) : ∀ q1, (execWaleMessage p b s) = .next q1 → q1.sram = s.sram := by
  rintro q1 ⟨⟩; simp
theorem execWaleRequestDeadline_sram (tag : Fin 256) (s : State) : ∀ q1, (execWaleRequestDeadline tag s) = .next q1 → q1.sram = s.sram := by
  rintro q1 ⟨⟩; (repeat' split) <;> simp
@[simp] theorem State.mqPop_sram (s : State) : (State.mqPop s).sram = s.sram := by simp [State.mqPop]
theorem execWaleMqPop_sram (ag : Agent) (s : State) : ∀ q1, (execWaleMqPop ag s) = .next q1 → q1.sram = s.sram := by
  rintro q1 ⟨⟩; simp

/-! Wale. -/

@[simp] theorem State.gangTake_sram (s : State) (b : WaleBlock) : (State.gangTake s b).sram = s.sram := by simp [State.gangTake]
@[simp] theorem State.gangIn_sram (s : State) (b : WaleBlock) : (State.gangIn s b).sram = s.sram := by unfold State.gangIn; (repeat' split) <;> simp
@[simp] theorem State.gangOut_sram (s : State) (off : Nat) (ws : List Word) (first last abort : Bool) : (State.gangOut s off ws first last abort).sram = s.sram := by
  unfold State.gangOut
  dsimp only
  split
  · simp
  · split
    · rename_i h
      simpa using State.toPort_sram _ _ _ _ h
    · simp
@[simp] theorem State.gangSend_sram (s : State) (keep : Bool) (x0 : Nat) : (State.gangSend s keep x0).sram = s.sram := by
  induction x0 generalizing s keep with
  | zero => simp [State.gangSend]
  | succ n ih => unfold State.gangSend; (repeat' split) <;> simp [ih]
@[simp] theorem State.gangGo_sram (s : State) : (State.gangGo s).sram = s.sram := by simp [State.gangGo]
@[simp] theorem State.gangAbort_sram (s : State) (blocks : Nat) : (State.gangAbort s blocks).sram = s.sram := by unfold State.gangAbort; dsimp only; repeat' first | (simp; done) | split
@[simp] theorem State.gangCtlWrite_sram (s : State) (v : Word) : (State.gangCtlWrite s v).sram = s.sram := by simp [State.gangCtlWrite]
@[simp] theorem State.gangResult_sram (s : State) (r : Nat) : (State.gangResult s r).sram = s.sram := by simp [State.gangResult]
theorem execWaleGangBlock_sram (p : Fin 6) (b : WaleBlock) (s : State) : ∀ q1, (execWaleGangBlock p b s) = .next q1 → q1.sram = s.sram := by
  rintro q1 ⟨⟩; simp
theorem execWaleGangGo_sram (ag : Agent) (hamper bcast : Bool) (dest : Fin 512) (s : State) : ∀ q1, (execWaleGangGo ag hamper bcast dest s) = .next q1 → q1.sram = s.sram := by
  rintro q1 ⟨⟩; simp
theorem execWaleGangAbort_sram (ag : Agent) (blocks : Nat) (s : State) : ∀ q1, (execWaleGangAbort ag blocks s) = .next q1 → q1.sram = s.sram := by
  rintro q1 ⟨⟩; simp
theorem execWaleGangSendEnd_sram (s : State) : ∀ q1, (execWaleGangSendEnd s) = .next q1 → q1.sram = s.sram := by
  rintro q1 ⟨⟩; (repeat' split) <;> simp
theorem execWaleGangStreamTimeout_sram (s : State) : ∀ q1, (execWaleGangStreamTimeout s) = .next q1 → q1.sram = s.sram := by
  rintro q1 ⟨⟩; simp
@[simp] theorem State.badBody_sram (s : State) (p : Nat) : (State.badBody s p).sram = s.sram := by simp [State.badBody]
theorem execWaleAdvert_sram (p : Fin 6) (b : WaleBlock) (s : State) : ∀ q1, (execWaleAdvert p b s) = .next q1 → q1.sram = s.sram := by
  rintro q1 ⟨⟩; (repeat' split) <;> simp
theorem execWaleAdvertTimer_sram (s : State) : ∀ q1, (execWaleAdvertTimer s) = .next q1 → q1.sram = s.sram := by
  rintro q1 ⟨⟩; simp
theorem execWaleAdvertExpiry_sram (p : Fin 6) (s : State) : ∀ q1, (execWaleAdvertExpiry p s) = .next q1 → q1.sram = s.sram := by
  rintro q1 ⟨⟩; simp
@[simp] theorem State.joinIn_sram (s : State) (x epoch : Nat) : (State.joinIn s x epoch).sram = s.sram := by simp [State.joinIn]
theorem execWaleJoin_sram (p : Fin 6) (b : WaleBlock) (s : State) : ∀ q1, (execWaleJoin p b s) = .next q1 → q1.sram = s.sram := by
  rintro q1 ⟨⟩; (repeat' split) <;> simp
@[simp] theorem State.timeCorrect_sram (s : State) (o : Int) : (State.timeCorrect s o).sram = s.sram := by simp [State.timeCorrect]
@[simp] theorem State.timeLock_sram (s : State) (o : Int) : (State.timeLock s o).sram = s.sram := by simp [State.timeLock]
@[simp] theorem State.timeUpdate_sram (s : State) (p : Nat) (t1 t2 t3 t4 : Int) : (State.timeUpdate s p t1 t2 t3 t4).sram = s.sram := by simp [State.timeUpdate]
theorem execWaleTimeExchangeStart_sram (fine : Fin 2500) (s : State) : ∀ q1, (execWaleTimeExchangeStart fine s) = .next q1 → q1.sram = s.sram := by
  rintro q1 ⟨⟩; simp
theorem execWaleTsyRequest_sram (p : Fin 6) (xn : Fin 65536) (fine : Fin 2500) (turn : Nat) (junk : Bool) (s : State) : ∀ q1, (execWaleTsyRequest p xn fine turn junk s) = .next q1 → q1.sram = s.sram := by
  rintro q1 ⟨⟩; simp
theorem execWaleTsyResponse_sram (p : Fin 6) (xn : Fin 65536) (fine : Fin 2500) (junk : Bool) (s : State) : ∀ q1, (execWaleTsyResponse p xn fine junk s) = .next q1 → q1.sram = s.sram := by
  rintro q1 ⟨⟩; (repeat' split) <;> simp
@[simp] theorem State.followUpIn_sram (s : State) (p xn : Nat) (t2 t3 : Int) : (State.followUpIn s p xn t2 t3).sram = s.sram := by unfold State.followUpIn; (repeat' split) <;> simp
theorem execWaleTimeFollowUp_sram (p : Fin 6) (b : WaleBlock) (s : State) : ∀ q1, (execWaleTimeFollowUp p b s) = .next q1 → q1.sram = s.sram := by
  rintro q1 ⟨⟩; (repeat' split) <;> simp
theorem execWaleFollowUpTimeout_sram (s : State) : ∀ q1, (execWaleFollowUpTimeout s) = .next q1 → q1.sram = s.sram := by
  rintro q1 ⟨⟩; simp
@[simp] theorem State.bndSend_sram (s : State) (i : Nat) (x : Instant) : (State.bndSend s i x).sram = s.sram := by simp [State.bndSend]
@[simp] theorem State.bndIn_sram (s : State) (orig i : Nat) (x : Instant) : (State.bndIn s orig i x).sram = s.sram := by simp [State.bndIn]
theorem execWaleBnd_sram (p : Fin 6) (b : WaleBlock) (s : State) : ∀ q1, (execWaleBnd p b s) = .next q1 → q1.sram = s.sram := by
  intro q1 h
  unfold execWaleBnd at h
  injection h with h
  subst h
  apply State.blockIn_sram
  intro t
  split <;> simp
@[simp] theorem State.bndrefIn_sram (s : State) (orig refusing : Nat) : (State.bndrefIn s orig refusing).sram = s.sram := by simp [State.bndrefIn]
theorem execWaleBndref_sram (p : Fin 6) (b : WaleBlock) (s : State) : ∀ q1, (execWaleBndref p b s) = .next q1 → q1.sram = s.sram := by
  rintro q1 ⟨⟩; (repeat' split) <;> simp
@[simp] theorem State.tallyVote_sram (s : State) (x : Instant) (dev : Nat) (ready : Bool) : (State.tallyVote s x dev ready).sram = s.sram := by simp [State.tallyVote]
@[simp] theorem State.voteOn_sram (s : State) (x : Instant) (dev : Nat) (ready : Bool) : (State.voteOn s x dev ready).sram = s.sram := by simp [State.voteOn]
theorem execWaleVoteCutoff_sram (src : Fin 64) (s : State) : ∀ q1, (execWaleVoteCutoff src s) = .next q1 → q1.sram = s.sram := by
  rintro q1 ⟨⟩; (repeat' split) <;> simp
theorem execWaleVote_sram (p : Fin 6) (b : WaleBlock) (s : State) : ∀ q1, (execWaleVote p b s) = .next q1 → q1.sram = s.sram := by
  rintro q1 ⟨⟩; (repeat' split) <;> simp
@[simp] theorem State.verdictIn_sram (s : State) (x : Instant) (ready : Bool) : (State.verdictIn s x ready).sram = s.sram := by simp [State.verdictIn]
theorem execWaleVerdictTimer_sram (num den : Nat) (s : State) : ∀ q1, (execWaleVerdictTimer num den s) = .next q1 → q1.sram = s.sram := by
  rintro q1 ⟨⟩; simp
theorem execWaleVerdict_sram (p : Fin 6) (b : WaleBlock) (s : State) : ∀ q1, (execWaleVerdict p b s) = .next q1 → q1.sram = s.sram := by
  rintro q1 ⟨⟩; (repeat' split) <;> simp
@[simp] theorem State.readyReport_sram (s after : State) (src : Nat) (x : Instant) : (State.readyReport s after src x).sram = after.sram := by unfold State.readyReport; (repeat' split) <;> simp
theorem execWaleAlarm_sram (p : Fin 6) (b : WaleBlock) (s : State) : ∀ q1, (execWaleAlarm p b s) = .next q1 → q1.sram = s.sram := by
  rintro q1 ⟨⟩; (repeat' split) <;> simp
@[simp] theorem State.sysdoneSend_sram (s : State) : (State.sysdoneSend s).sram = s.sram := by simp [State.sysdoneSend]
@[simp] theorem State.rosterTake_sram (s : State) : (State.rosterTake s).sram = s.sram := by simp [State.rosterTake]
theorem execWaleDoneUpSend_sram (s : State) : ∀ q1, (execWaleDoneUpSend s) = .next q1 → q1.sram = s.sram := by
  rintro q1 ⟨⟩; simp
theorem execWaleDoneUp_sram (p : Fin 6) (b : WaleBlock) (s : State) : ∀ q1, (execWaleDoneUp p b s) = .next q1 → q1.sram = s.sram := by
  rintro q1 ⟨⟩; (repeat' split) <;> simp
theorem execWaleSysdone_sram (p : Fin 6) (b : WaleBlock) (s : State) : ∀ q1, (execWaleSysdone p b s) = .next q1 → q1.sram = s.sram := by
  rintro q1 ⟨⟩; (repeat' split) <;> simp
theorem execWaleSystemDoneInstant_sram (s : State) : ∀ q1, (execWaleSystemDoneInstant s) = .next q1 → q1.sram = s.sram := by
  rintro q1 ⟨⟩; simp
theorem execWaleSleepMsg_sram (p : Fin 6) (b : WaleBlock) (s : State) : ∀ q1, (execWaleSleepMsg p b s) = .next q1 → q1.sram = s.sram := by
  rintro q1 ⟨⟩; (repeat' split) <;> simp
@[simp] theorem State.awakeIn_sram (s : State) (x : Nat) : (State.awakeIn s x).sram = s.sram := by simp [State.awakeIn]
theorem execWaleAwake_sram (p : Fin 6) (b : WaleBlock) (s : State) : ∀ q1, (execWaleAwake p b s) = .next q1 → q1.sram = s.sram := by
  rintro q1 ⟨⟩; (repeat' split) <;> simp
theorem execWaleWake_sram (p : Fin 6) (b : WaleBlock) (s : State) : ∀ q1, (execWaleWake p b s) = .next q1 → q1.sram = s.sram := by
  rintro q1 ⟨⟩; (repeat' split) <;> simp
@[simp] theorem State.waleSleep_sram (s : State) : (State.waleSleep s).sram = s.sram := by simp [State.waleSleep]
@[simp] theorem State.waleWake_sram (s : State) : (State.waleWake s).sram = s.sram := by simp [State.waleWake]
@[simp] theorem State.waleCfgWrite_sram (s : State) (v : Word) : (State.waleCfgWrite s v).sram = s.sram := by simp [State.waleCfgWrite]

/-! HostPorts. -/

@[simp] theorem State.portStreamCut_sram (s : State) (p : Fin 2) : (State.portStreamCut s p).sram = s.sram := by simp [State.portStreamCut]
@[simp] theorem State.pcieDown_sram (s : State) (p : Fin 2) : (State.pcieDown s p).sram = s.sram := by simp [State.pcieDown]
@[simp] theorem State.epReset_sram (s : State) (p : Fin 2) : (State.epReset s p).sram = s.sram := by simp [State.epReset]
@[simp] theorem State.pcieFlr_sram (s : State) (p : Fin 2) : (State.pcieFlr s p).sram = s.sram := by simp [State.pcieFlr]
theorem execPcieLinkUp_sram (port : Fin 2) (gen : BitVec 3) (width : BitVec 2) (s : State) : ∀ q1, (execPcieLinkUp port gen width s) = .next q1 → q1.sram = s.sram := by
  rintro q1 ⟨⟩; simp
theorem execPcieLinkDown_sram (port : Fin 2) (s : State) : ∀ q1, (execPcieLinkDown port s) = .next q1 → q1.sram = s.sram := by
  rintro q1 ⟨⟩; simp
theorem execPcieFlr_sram (port : Fin 2) (s : State) : ∀ q1, (execPcieFlr port s) = .next q1 → q1.sram = s.sram := by
  rintro q1 ⟨⟩; simp
theorem execPcieHotReset_sram (port : Fin 2) (s : State) : ∀ q1, (execPcieHotReset port s) = .next q1 → q1.sram = s.sram := by
  rintro q1 ⟨⟩; simp
theorem execPciePerst_sram (port : Fin 2) (s : State) : ∀ q1, (execPciePerst port s) = .next q1 → q1.sram = s.sram := by
  rintro q1 ⟨⟩; simp
theorem execPciePowerStateChange_sram (port : Fin 2) (d3hot l1 : Bool) (cfg : EndpointCfg) (s : State) : ∀ q1, (execPciePowerStateChange port d3hot l1 cfg s) = .next q1 → q1.sram = s.sram := by
  rintro q1 ⟨⟩; simp
@[simp] theorem State.hpCtlWrite_sram (s : State) (ag : Agent) (p : Fin 2) (v : Word) : (State.hpCtlWrite s ag p v).sram = s.sram := by simp [State.hpCtlWrite]
theorem execHpSpirel_sram (ag : Agent) (port : Fin 2) (s : State) : ∀ q1, (execHpSpirel ag port s) = .next q1 → q1.sram = s.sram := by
  rintro q1 ⟨⟩; simp
@[simp] theorem State.windowWrite_sram (s : State) (p : Fin 2) (spi : Bool) (ws : List Word) : (State.windowWrite s p spi ws).sram = s.sram := by simp [State.windowWrite]
@[simp] theorem State.hpSend_sram (s : State) (ag : Agent) (p : Fin 2) (v : Word) : (State.hpSend s ag p v).sram = s.sram := by simp [State.hpSend]
theorem execHpSendEnd_sram (ag : Agent) (port : Fin 2) (v : Word) (s : State) : ∀ q1, (execHpSendEnd ag port v s) = .next q1 → q1.sram = s.sram := by
  rintro q1 ⟨⟩; simp
@[simp] theorem State.sretRead_sram (s : State) (p : Fin 2) : (State.sretRead s p).2.sram = s.sram := by unfold State.sretRead; dsimp only; repeat' first | (simp; done) | split
theorem execHpSretRead_sram (ag : Agent) (port : Fin 2) (s : State) : ∀ q1, (execHpSretRead ag port s) = .next q1 → q1.sram = s.sram := by
  rintro q1 ⟨⟩; simp
@[simp] theorem State.spiAnswer_sram (s : State) (p : Fin 2) : (State.spiAnswer s p).sram = s.sram := by simp [State.spiAnswer]
@[simp] theorem State.spiError_sram (s : State) (p : Fin 2) : (State.spiError s p).sram = s.sram := by simp [State.spiError]
theorem execSpiFrameError_sram (port : Fin 2) (s : State) : ∀ q1, (execSpiFrameError port s) = .next q1 → q1.sram = s.sram := by
  rintro q1 ⟨⟩; simp
@[simp] theorem State.semWrite_sram (s : State) (ag : Agent) (n : Nat) (v : Word) : (State.semWrite s ag n v).sram = s.sram := by simp [State.semWrite]
theorem execSemAcquire_sram (ag : Agent) (n : Fin 64) (s : State) : ∀ q1, (execSemAcquire ag n s) = .next q1 → q1.sram = s.sram := by
  rintro q1 ⟨⟩; simp
theorem execSemRelease_sram (ag : Agent) (n : Fin 64) (s : State) : ∀ q1, (execSemRelease ag n s) = .next q1 → q1.sram = s.sram := by
  rintro q1 ⟨⟩; simp
@[simp] theorem State.semForce_sram (s : State) (ag : Agent) (v : Word) : (State.semForce s ag v).sram = s.sram := by simp [State.semForce]
theorem execSemForce_sram (ag : Agent) (v : Word) (s : State) : ∀ q1, (execSemForce ag v s) = .next q1 → q1.sram = s.sram := by
  rintro q1 ⟨⟩; simp
@[simp] theorem State.mailCtl_sram (s : State) (ag : Agent) (m : Nat) (v : Word) : (State.mailCtl s ag m v).sram = s.sram := by simp [State.mailCtl]
@[simp] theorem State.mailData_sram (s : State) (m i : Nat) (v : Word) : (State.mailData s m i v).sram = s.sram := by simp [State.mailData]
theorem execMbRing_sram (ag : Agent) (m : Fin 16) (s : State) : ∀ q1, (execMbRing ag m s) = .next q1 → q1.sram = s.sram := by
  rintro q1 ⟨⟩; simp
theorem execMbAck_sram (ag : Agent) (m : Fin 16) (s : State) : ∀ q1, (execMbAck ag m s) = .next q1 → q1.sram = s.sram := by
  rintro q1 ⟨⟩; simp
theorem execMbDataWrite_sram (ag : Agent) (m : Fin 16) (i : Fin 8) (v : Word) (s : State) : ∀ q1, (execMbDataWrite ag m i v s) = .next q1 → q1.sram = s.sram := by
  rintro q1 ⟨⟩; simp

/-! Cluster. -/

@[simp] theorem State.coreRelease_sram (s : State) (c : Nat) : (State.coreRelease s c).sram = s.sram := by simp [State.coreRelease]
@[simp] theorem State.clctlWrite_sram (s : State) (v : Word) : (State.clctlWrite s v).sram = s.sram := by simp [State.clctlWrite]
theorem execClusterRunWrite_sram (ag : Agent) (v : Word) (s : State) : ∀ q1, (execClusterRunWrite ag v s) = .next q1 → q1.sram = s.sram := by
  rintro q1 ⟨⟩; simp
@[simp] theorem State.setWd_sram (s : State) (i : Nat) (w : WdSt) : (State.setWd s i w).sram = s.sram := by simp [State.setWd]
@[simp] theorem State.wdEnable_sram (s : State) (i : Nat) (on : Bool) : (State.wdEnable s i on).sram = s.sram := by simp [State.wdEnable]
@[simp] theorem State.wdKick_sram (s : State) (i : Nat) (v : Word) : (State.wdKick s i v).sram = s.sram := by simp [State.wdKick]
@[simp] theorem State.wdCore_sram (s : State) (c : Nat) : (State.wdCore s c).sram = s.sram := by simp [State.wdCore]
@[simp] theorem State.wdExpire_sram (s : State) (i : Nat) : (State.wdExpire s i).sram = s.sram := by simp [State.wdExpire]
theorem execWdEnable_sram (i : Fin 5) (s : State) : ∀ q1, (execWdEnable i s) = .next q1 → q1.sram = s.sram := by
  rintro q1 ⟨⟩; simp
theorem execWdKick_sram (i : Fin 5) (v : Word) (s : State) : ∀ q1, (execWdKick i v s) = .next q1 → q1.sram = s.sram := by
  rintro q1 ⟨⟩; simp
theorem execWdExpiry_sram (i : Fin 5) (s : State) : ∀ q1, (execWdExpiry i s) = .next q1 → q1.sram = s.sram := by
  rintro q1 ⟨⟩; simp
@[simp] theorem State.wdTick_sram (s : State) : (State.wdTick s).sram = s.sram := by simp [State.wdTick]
@[simp] theorem State.wdWrite_sram (s : State) (i o : Nat) (v : Word) : (State.wdWrite s i o v).sram = s.sram := by unfold State.wdWrite; (repeat' split) <;> simp
@[simp] theorem State.setGw_sram (s : State) (p : Nat) (g : GwSt) : (State.setGw s p g).sram = s.sram := by simp [State.setGw]
@[simp] theorem State.gwErr_sram (s : State) (p i : Nat) : (State.gwErr s p i).sram = s.sram := by simp [State.gwErr]
@[simp] theorem State.gwAnswer_sram (s : State) (o : GwOrigin) (bs : List (BitVec 64)) : (State.gwAnswer s o bs).sram = s.sram := by unfold State.gwAnswer; (repeat' split) <;> simp
theorem State.gwAccess_sram (s : State) (o : GwOrigin) (req : WindowReq) : ∀ q1, (State.gwAccess s o req) = some q1 → q1.sram = s.sram := by
  intro q1 h
  simp only [State.gwAccess] at h
  (repeat' split at h) <;> simp_all <;> (try (subst h; simp))
@[simp] theorem State.gwEdge_sram (s : State) (p : Nat) (ready : Bool) : (State.gwEdge s p ready).sram = s.sram := by unfold State.gwEdge; dsimp only; repeat' first | (simp; done) | split
@[simp] theorem State.gwBayEdge_sram (s : State) (bay net : Nat) (ready : Bool) : (State.gwBayEdge s bay net ready).sram = s.sram := by unfold State.gwBayEdge; (repeat' split) <;> simp
@[simp] theorem State.gwReadEnd_sram (s : State) (p : Nat) (r : GwRead) (bs : List (BitVec 64)) : (State.gwReadEnd s p r bs).sram = s.sram := by simp [State.gwReadEnd]
theorem execGwWindowResponse_sram (port : Fin 4) (tag : Fin 32) (data : List (BitVec 64)) (err : Bool) (s : State) : ∀ q1, (execGwWindowResponse port tag data err s) = .next q1 → q1.sram = s.sram := by
  rintro q1 ⟨⟩; (repeat' split) <;> simp
theorem execGwWindowTimeout_sram (port : Fin 4) (tag : Fin 32) (s : State) : ∀ q1, (execGwWindowTimeout port tag s) = .next q1 → q1.sram = s.sram := by
  rintro q1 ⟨⟩; (repeat' split) <;> simp
theorem execEventRaise_sram (n : Fin 448) (s : State) : ∀ q1, (execEventRaise n s) = .next q1 → q1.sram = s.sram := by
  rintro q1 ⟨⟩; simp
theorem execUserEventEdge_sram (w : Fin 2) (j : Fin 32) (s : State) : ∀ q1, (execUserEventEdge w j s) = .next q1 → q1.sram = s.sram := by
  rintro q1 ⟨⟩; simp
@[simp] theorem State.claim_sram (s : State) (c : Nat) : (State.claim s c).2.sram = s.sram := by unfold State.claim; (repeat' split) <;> simp
theorem execEvtClaim_sram (ag : Agent) (c : Fin 4) (s : State) : ∀ q1, (execEvtClaim ag c s) = .next q1 → q1.sram = s.sram := by
  rintro q1 ⟨⟩; simp
@[simp] theorem State.evtRaise_sram (s : State) (v : Word) : (State.evtRaise s v).sram = s.sram := by simp [State.evtRaise]
theorem execEvtRaiseWrite_sram (ag : Agent) (v : Word) (s : State) : ∀ q1, (execEvtRaiseWrite ag v s) = .next q1 → q1.sram = s.sram := by
  rintro q1 ⟨⟩; simp
@[simp] theorem State.evtSrcWrite_sram (s : State) (n : Nat) (v : Word) : (State.evtSrcWrite s n v).sram = s.sram := by simp [State.evtSrcWrite]
@[simp] theorem State.evtThrWrite_sram (s : State) (t : Nat) (v : Word) : (State.evtThrWrite s t v).sram = s.sram := by simp [State.evtThrWrite]
@[simp] theorem State.msixTableWrite_sram (s : State) (p : Fin 2) (k : Nat) (v : Word) : (State.msixTableWrite s p k v).sram = s.sram := by simp [State.msixTableWrite]

/-! Domains. -/

@[simp] theorem State.wytheOff_sram (s : State) (w : Nat) : (State.wytheOff s w).sram = s.sram := by simp [State.wytheOff]
@[simp] theorem State.lanesOff_sram (s : State) (rs : List Nat) : (State.lanesOff s rs).sram = s.sram := by simp [State.lanesOff]
@[simp] theorem State.hampOff_sram (s : State) : (State.hampOff s).sram = s.sram := by simp [State.hampOff]
@[simp] theorem State.railOff_sram (s : State) (r : Nat) : (State.railOff s r).sram = s.sram := by simp [State.railOff]
@[simp] theorem State.domainsOff_sram (s : State) (cause r : Nat) : (State.domainsOff s cause r).sram = s.sram := by unfold State.domainsOff; (repeat' split) <;> simp
@[simp] theorem State.fabricHeld_sram (s : State) : (State.fabricHeld s).sram = s.sram := by simp [State.fabricHeld]
@[simp] theorem State.enterSafe_sram (s : State) (cause r : Nat) : (State.enterSafe s cause r).sram = s.sram := by simp [State.enterSafe]
@[simp] theorem State.trip_sram (s : State) (cause r : Nat) : (State.trip s cause r).sram = s.sram := by unfold State.trip; (repeat' split) <;> simp
@[simp] theorem State.burnCut_sram (s : State) : (State.burnCut s).sram = s.sram := by unfold State.burnCut; (repeat' split) <;> simp
@[simp] theorem State.repairCut_sram (s : State) : (State.repairCut s).sram = s.sram := by unfold State.repairCut; (repeat' split) <;> simp
@[simp] theorem State.keepRegs_sram (s t : State) (offs : List Nat) : (State.keepRegs s t offs).sram = t.sram := by simp [State.keepRegs]

/-! Sounding. -/

@[simp] theorem State.setPhase_sram (s : State) (p : Nat) : (State.setPhase s p).sram = s.sram := by simp [State.setPhase]
@[simp] theorem State.sndResult_sram (s : State) (code : Nat) : (State.sndResult s code).sram = s.sram := by simp [State.sndResult]
@[simp] theorem State.setSnd_sram (s : State) (v : SndSt) : (State.setSnd s v).sram = s.sram := by simp [State.setSnd]
@[simp] theorem State.useSpare_sram (s : State) (col : Nat) : (State.useSpare s col).sram = s.sram := by simp [State.useSpare]
@[simp] theorem State.setSteer_sram (s : State) (n : Nat) (b : Bool) : (State.setSteer s n b).sram = s.sram := by simp [State.setSteer]
@[simp] theorem State.setCopying_sram (s : State) (n : Nat) (b : Bool) : (State.setCopying s n b).sram = s.sram := by simp [State.setCopying]
@[simp] theorem State.rowRepair_sram (s : State) (n rp : Nat) : (State.rowRepair s n rp).sram = s.sram := by simp [State.rowRepair]
@[simp] theorem State.rowRepairs_sram (s : State) (n k : Nat) (first : Option Nat) : (State.rowRepairs s n k first).sram = s.sram := by unfold State.rowRepairs; (repeat' split) <;> simp
@[simp] theorem State.rowLost_sram (s : State) (n rp : Nat) : (State.rowLost s n rp).sram = s.sram := by simp [State.rowLost]
@[simp] theorem State.spareRepair_sram (s : State) (n : Nat) : (State.spareRepair s n).sram = s.sram := by simp [State.spareRepair]
@[simp] theorem State.fuseCount_sram (s : State) : (State.fuseCount s).sram = s.sram := by simp [State.fuseCount]
@[simp] theorem State.fuseRepairs_sram (s : State) : (State.fuseRepairs s).sram = s.sram := by simp [State.fuseRepairs]
@[simp] theorem State.fuseBoot_sram (s : State) : (State.fuseBoot s).sram = s.sram := by simp [State.fuseBoot]
@[simp] theorem State.softRepair_sram (s : State) : (State.softRepair s).sram = s.sram := by simp [State.softRepair]
@[simp] theorem State.repairCreel_sram (s : State) (badSpares : List Nat) (n rowpairs : Nat) : (State.repairCreel s badSpares n rowpairs).2.sram = s.sram := by simp [State.repairCreel]
@[simp] theorem State.repairAll_sram (s : State) (badSpares : List Nat) (x0 : List CreelFail) : (State.repairAll s badSpares x0).1.sram = s.sram := by
  induction x0 generalizing s badSpares with
  | nil => simp [State.repairAll]
  | cons a l ih => simp [State.repairAll, ih]
@[simp] theorem State.soundBays_sram (s : State) (bays : List Nat) (rep : SoundReport) : (State.soundBays s bays rep).1.sram = s.sram := by simp [State.soundBays]
@[simp] theorem State.unrepairable_sram (s : State) (bay : Nat) : (State.unrepairable s bay).sram = s.sram := by simp [State.unrepairable]
theorem execLoadingSoundingBatchDone_sram (rep : SoundReport) (s : State) : ∀ q1, (execLoadingSoundingBatchDone rep s) = .next q1 → q1.sram = s.sram := by
  rintro q1 ⟨⟩; simp
@[simp] theorem State.sndRefuse_sram (s : State) (code : Nat) : (State.sndRefuse s code).sram = s.sram := by simp [State.sndRefuse]
@[simp] theorem State.sndStart_sram (s : State) : (State.sndStart s).sram = s.sram := by simp [State.sndStart]
@[simp] theorem State.sndGo_sram (s : State) (v : Word) : (State.sndGo s v).sram = s.sram := by unfold State.sndGo; dsimp only; repeat' first | (simp; done) | split
@[simp] theorem State.sndBack_sram (s : State) (res : Nat) : (State.sndBack s res).sram = s.sram := by simp [State.sndBack]
@[simp] theorem State.sndAbort_sram (s : State) : (State.sndAbort s).sram = s.sram := by simp [State.sndAbort]
@[simp] theorem State.sndEnd_sram (s : State) : (State.sndEnd s).sram = s.sram := by simp [State.sndEnd]
@[simp] theorem State.sndReqWrite_sram (s : State) (v : Word) : (State.sndReqWrite s v).sram = s.sram := by simp [State.sndReqWrite]
theorem execSoundingRequest_sram (ag : Agent) (v : Word) (s : State) : ∀ q1, (execSoundingRequest ag v s) = .next q1 → q1.sram = s.sram := by
  rintro q1 ⟨⟩; simp
theorem execSoundingAbort_sram (ag : Agent) (s : State) : ∀ q1, (execSoundingAbort ag s) = .next q1 → q1.sram = s.sram := by
  rintro q1 ⟨⟩; simp
theorem execSoundingCopyDone_sram (s : State) : ∀ q1, (execSoundingCopyDone s) = .next q1 → q1.sram = s.sram := by
  rintro q1 ⟨⟩; simp
@[simp] theorem State.sndRun_sram (s : State) (r : SoundRun) : (State.sndRun s r).sram = s.sram := by simp [State.sndRun]
theorem execSoundingRunDone_sram (r : SoundRun) (s : State) : ∀ q1, (execSoundingRunDone r s) = .next q1 → q1.sram = s.sram := by
  rintro q1 ⟨⟩; simp
theorem execSoundingMoveBackDone_sram (s : State) : ∀ q1, (execSoundingMoveBackDone s) = .next q1 → q1.sram = s.sram := by
  rintro q1 ⟨⟩; simp
@[simp] theorem State.fuseGo_sram (s : State) (v : Word) : (State.fuseGo s v).sram = s.sram := by simp [State.fuseGo]
theorem execFuseBurn_sram (ag : Agent) (v : Word) (s : State) : ∀ q1, (execFuseBurn ag v s) = .next q1 → q1.sram = s.sram := by
  rintro q1 ⟨⟩; simp
@[simp] theorem State.fuseEffect_sram (s : State) (e : Nat × Nat × Nat) : (State.fuseEffect s e).sram = s.sram := by simp [State.fuseEffect]
theorem execFuseBurnDone_sram (s : State) : ∀ q1, (execFuseBurnDone s) = .next q1 → q1.sram = s.sram := by
  rintro q1 ⟨⟩; (repeat' split) <;> simp
@[simp] theorem State.staleClrWrite_sram (s : State) (v : Word) : (State.staleClrWrite s v).sram = s.sram := by simp [State.staleClrWrite]
theorem execStaleClear_sram (ag : Agent) (v : Word) (s : State) : ∀ q1, (execStaleClear ag v s) = .next q1 → q1.sram = s.sram := by
  rintro q1 ⟨⟩; simp
@[simp] theorem State.sndReload_sram (s : State) : (State.sndReload s).sram = s.sram := by simp [State.sndReload]

/-! Loading. -/

@[simp] theorem State.readDir_sram (s : State) : (State.readDir s).sram = s.sram := by simp [State.readDir]
@[simp] theorem State.strapLatch_sram (s : State) (v : BitVec 7) : (State.strapLatch s v).sram = s.sram := by simp [State.strapLatch]
theorem execResetNFall_sram (s : State) : ∀ q1, (execResetNFall s) = .next q1 → q1.sram = s.sram := by
  rintro q1 ⟨⟩; simp
theorem execStrapLatch_sram (straps : BitVec 7) (s : State) : ∀ q1, (execStrapLatch straps s) = .next q1 → q1.sram = s.sram := by
  rintro q1 ⟨⟩; simp
theorem execXwaitExpiry_sram (present : Bool) (s : State) : ∀ q1, (execXwaitExpiry present s) = .next q1 → q1.sram = s.sram := by
  rintro q1 ⟨⟩; simp
@[simp] theorem State.bootNames_sram (s : State) (num : Nat) : (State.bootNames s num).sram = s.sram := by simp [State.bootNames]
@[simp] theorem State.keeperReads_sram (s : State) (agree xref : Bool) : (State.keeperReads s agree xref).sram = s.sram := by simp [State.keeperReads]
@[simp] theorem State.keeperWork_sram (s : State) (agree xref : Bool) : (State.keeperWork s agree xref).sram = s.sram := by simp [State.keeperWork]
@[simp] theorem State.testToken_sram (s : State) (vinOk : Bool) : (State.testToken s vinOk).2.sram = s.sram := by unfold State.testToken; (repeat' split) <;> simp
@[simp] theorem State.factory_sram (s : State) : (State.factory s).sram = s.sram := by simp [State.factory]
@[simp] theorem State.startTest_sram (s : State) : (State.startTest s).sram = s.sram := by simp [State.startTest]
@[simp] theorem State.keeperEnds_sram (s : State) (vinOk : Bool) : (State.keeperEnds s vinOk).sram = s.sram := by
  have e := State.testToken_sram s vinOk
  unfold State.keeperEnds
  split
  · exact State.factory_sram s
  · exact State.factory_sram s
  · exact State.startTest_sram s
  · exact State.startTest_sram s
  · split <;> (rename_i hr; rw [hr] at e; simpa using e)
  · exact State.enterSafe_sram s 4 0
  · exact State.enterSafe_sram s 3 0
theorem execKeeperBootComplete_sram (agree xref vinOk : Bool) (s : State) : ∀ q1, (execKeeperBootComplete agree xref vinOk s) = .next q1 → q1.sram = s.sram := by
  rintro q1 ⟨⟩; simp
@[simp] theorem State.applyBanks_sram (s : State) : (State.applyBanks s).sram = s.sram := by simp [State.applyBanks]
theorem execBankRepower_sram (b : Fin 16) (s : State) : ∀ q1, (execBankRepower b s) = .next q1 → q1.sram = s.sram := by
  rintro q1 ⟨⟩; simp
@[simp] theorem State.applyWale_sram (s : State) : (State.applyWale s).sram = s.sram := by simp [State.applyWale]
@[simp] theorem State.startCals_sram (s : State) : (State.startCals s).sram = s.sram := by simp [State.startCals]
@[simp] theorem State.journalErase_sram (s : State) : (State.journalErase s).sram = s.sram := by simp [State.journalErase]
@[simp] theorem State.firstAttempt_sram (s : State) : (State.firstAttempt s).sram = s.sram := by simp [State.firstAttempt]
@[simp] theorem State.step6_sram (s : State) (sounded : Nat) : (State.step6 s sounded).sram = s.sram := by simp [State.step6]
@[simp] theorem State.loadingEntry_sram (s : State) : (State.loadingEntry s).sram = s.sram := by simp [State.loadingEntry]
@[simp] theorem State.reloadNow_sram (s : State) (cause : Nat) : (State.reloadNow s cause).sram = s.sram := by simp [State.reloadNow]
theorem execStartTestComplete_sram (hub : Bool) (rep : SoundReport) (s : State) : ∀ q1, (execStartTestComplete hub rep s) = .next q1 → q1.sram = s.sram := by
  rintro q1 ⟨⟩; simp
theorem execSrcWaitExpiry_sram (s : State) : ∀ q1, (execSrcWaitExpiry s) = .next q1 → q1.sram = s.sram := by
  rintro q1 ⟨⟩; simp
@[simp] theorem State.partCommit_sram (s : State) (j : PartJob) : (State.partCommit s j).sram = s.sram := by simp [State.partCommit]
theorem execPriorityCommit_sram (s : State) : ∀ q1, (execPriorityCommit s) = .next q1 → q1.sram = s.sram := by
  rintro q1 ⟨⟩; (repeat' split) <;> simp
@[simp] theorem State.leaveInit_sram (s : State) (bays : Nat) : (State.leaveInit s bays).sram = s.sram := by simp [State.leaveInit]
@[simp] theorem State.enableOuts_sram (s : State) (edge : Nat) : (State.enableOuts s edge).sram = s.sram := by simp [State.enableOuts]
theorem execPriorityInitLeave_sram (s : State) : ∀ q1, (execPriorityInitLeave s) = .next q1 → q1.sram = s.sram := by
  rintro q1 ⟨⟩; simp
theorem execPriorityOutputEnable_sram (s : State) : ∀ q1, (execPriorityOutputEnable s) = .next q1 → q1.sram = s.sram := by
  rintro q1 ⟨⟩; simp
theorem execPriorityStageTimeout_sram (s : State) : ∀ q1, (execPriorityStageTimeout s) = .next q1 → q1.sram = s.sram := by
  rintro q1 ⟨⟩; (repeat' split) <;> simp
theorem execMainCommit_sram (s : State) : ∀ q1, (execMainCommit s) = .next q1 → q1.sram = s.sram := by
  rintro q1 ⟨⟩; (repeat' split) <;> simp
@[simp] theorem State.bondRelease_sram (s : State) : (State.bondRelease s).sram = s.sram := by simp [State.bondRelease]
@[simp] theorem State.enterRun_sram (s : State) : (State.enterRun s).sram = s.sram := by simp [State.enterRun]
theorem execReleaseStart_sram (s : State) : ∀ q1, (execReleaseStart s) = .next q1 → q1.sram = s.sram := by
  rintro q1 ⟨⟩; simp
theorem execReleaseInitLeave_sram (s : State) : ∀ q1, (execReleaseInitLeave s) = .next q1 → q1.sram = s.sram := by
  rintro q1 ⟨⟩; simp
theorem execReleaseOutputEnable_sram (s : State) : ∀ q1, (execReleaseOutputEnable s) = .next q1 → q1.sram = s.sram := by
  rintro q1 ⟨⟩; simp
theorem execReleaseDoneRelease_sram (s : State) : ∀ q1, (execReleaseDoneRelease s) = .next q1 → q1.sram = s.sram := by
  rintro q1 ⟨⟩; simp
theorem execDoneHigh_sram (s : State) : ∀ q1, (execDoneHigh s) = .next q1 → q1.sram = s.sram := by
  rintro q1 ⟨⟩; simp
theorem execDoneWaitExpiry_sram (s : State) : ∀ q1, (execDoneWaitExpiry s) = .next q1 → q1.sram = s.sram := by
  rintro q1 ⟨⟩; simp
theorem execJournalEraseStart_sram (s : State) : ∀ q1, (execJournalEraseStart s) = .next q1 → q1.sram = s.sram := by
  rintro q1 ⟨⟩; simp
@[simp] theorem State.bootClrWrite_sram (s : State) (v : Word) : (State.bootClrWrite s v).sram = s.sram := by simp [State.bootClrWrite]
theorem execBootClear_sram (ag : Agent) (v : Word) (s : State) : ∀ q1, (execBootClear ag v s) = .next q1 → q1.sram = s.sram := by
  rintro q1 ⟨⟩; simp

/-! Power. -/

@[simp] theorem State.setPwr_sram (s : State) (p : PwrSt) : (State.setPwr s p).sram = s.sram := by simp [State.setPwr]
@[simp] theorem State.pwrResult_sram (s : State) (code kind domain : Nat) : (State.pwrResult s code kind domain).sram = s.sram := by simp [State.pwrResult]
@[simp] theorem State.setAsked_sram (s : State) (v : Option Word) : (State.setAsked s v).sram = s.sram := by simp [State.setAsked]
@[simp] theorem State.setMstate_sram (s : State) (v : Nat) : (State.setMstate s v).sram = s.sram := by simp [State.setMstate]
@[simp] theorem State.rampTo_sram (s : State) (l : Nat × Nat) (byReq : Bool) : (State.rampTo s l byReq).sram = s.sram := by simp [State.rampTo]
@[simp] theorem State.rampLevels_sram (s : State) : (State.rampLevels s).sram = s.sram := by simp [State.rampLevels]
@[simp] theorem State.drainStart_sram (s : State) (mode : Nat) : (State.drainStart s mode).sram = s.sram := by simp [State.drainStart]
@[simp] theorem State.drainEnd_sram (s : State) : (State.drainEnd s).sram = s.sram := by simp [State.drainEnd]
@[simp] theorem State.dozeEnter_sram (s : State) : (State.dozeEnter s).sram = s.sram := by simp [State.dozeEnter]
@[simp] theorem State.modeBegin_sram (s : State) (mode : Nat) : (State.modeBegin s mode).sram = s.sram := by unfold State.modeBegin; (repeat' split) <;> simp
@[simp] theorem State.wokenRun_sram (s : State) : (State.wokenRun s).sram = s.sram := by simp [State.wokenRun]
@[simp] theorem State.rampEnd_sram (s : State) : (State.rampEnd s).sram = s.sram := by simp [State.rampEnd]
theorem execPlRampDone_sram (s : State) : ∀ q1, (execPlRampDone s) = .next q1 → q1.sram = s.sram := by
  rintro q1 ⟨⟩; simp
@[simp] theorem State.plReqWrite_sram (s : State) (v : Word) : (State.plReqWrite s v).sram = s.sram := by simp [State.plReqWrite]
theorem execPlRequest_sram (ag : Agent) (v : Word) (s : State) : ∀ q1, (execPlRequest ag v s) = .next q1 → q1.sram = s.sram := by
  rintro q1 ⟨⟩; simp
@[simp] theorem State.plLatch_sram (s : State) (src : Nat) : (State.plLatch s src).sram = s.sram := by unfold State.plLatch; (repeat' split) <;> simp
@[simp] theorem State.breachTest_sram (s t : State) (src : Nat) : (s.breachTest t src).sram = s.sram := by
  unfold State.breachTest
  split
  · rfl
  · split <;> rfl
@[simp] theorem State.plDeliver_sram (s : State) (src : Nat) : (State.plDeliver s src).sram = s.sram := by unfold State.plDeliver; dsimp only; repeat' first | (simp; done) | split
@[simp] theorem State.mreqWrite_sram (s : State) (v : Word) : (State.mreqWrite s v).sram = s.sram := by unfold State.mreqWrite; dsimp only; repeat' first | (simp; done) | split
theorem execModeRequestDoze_sram (ag : Agent) (s : State) : ∀ q1, (execModeRequestDoze ag s) = .next q1 → q1.sram = s.sram := by
  rintro q1 ⟨⟩; simp
theorem execModeRequestSleep_sram (ag : Agent) (s : State) : ∀ q1, (execModeRequestSleep ag s) = .next q1 → q1.sram = s.sram := by
  rintro q1 ⟨⟩; simp
theorem execModeRequestStandby_sram (ag : Agent) (s : State) : ∀ q1, (execModeRequestStandby ag s) = .next q1 → q1.sram = s.sram := by
  rintro q1 ⟨⟩; simp
@[simp] theorem State.clocksStop_sram (s : State) : (State.clocksStop s).sram = s.sram := by simp [State.clocksStop]
@[simp] theorem State.sleepSteps_sram (s : State) : (State.sleepSteps s).sram = s.sram := by simp [State.sleepSteps]
@[simp] theorem State.wakeRecord_sram (s : State) (first : Bool) (src port from_ : Nat) : (State.wakeRecord s first src port from_).sram = s.sram := by simp [State.wakeRecord]
@[simp] theorem State.sleepWake_sram (s : State) : (State.sleepWake s).sram = s.sram := by simp [State.sleepWake]
theorem execSleepEntered_sram (s : State) : ∀ q1, (execSleepEntered s) = .next q1 → q1.sram = s.sram := by
  rintro q1 ⟨⟩; simp
@[simp] theorem State.staleBay_sram (s : State) (b : Nat) : (State.staleBay s b).sram = s.sram := by simp [State.staleBay]
@[simp] theorem State.gradientTest_sram (s : State) (i : Nat) (diff limit rearm : Int) : (State.gradientTest s i diff limit rearm).sram = s.sram := by simp [State.gradientTest]
@[simp] theorem State.tempWarning_sram (s : State) (top : Int) : (State.tempWarning s top).sram = s.sram := by simp [State.tempWarning]
theorem execThermalSample_sram (bays hub : List (BitVec 8)) (s : State) : ∀ q1, (execThermalSample bays hub s) = .next q1 → q1.sram = s.sram := by
  rintro q1 ⟨⟩; simp
theorem execRegulatorFault_sram (r : Fin 26) (s : State) : ∀ q1, (execRegulatorFault r s) = .next q1 → q1.sram = s.sram := by
  rintro q1 ⟨⟩; simp
theorem execRailWarning_sram (r : Fin 26) (s : State) : ∀ q1, (execRailWarning r s) = .next q1 → q1.sram = s.sram := by
  rintro q1 ⟨⟩; simp
theorem execVinLow_sram (s : State) : ∀ q1, (execVinLow s) = .next q1 → q1.sram = s.sram := by
  rintro q1 ⟨⟩; simp
theorem execVbatLow_sram (s : State) : ∀ q1, (execVbatLow s) = .next q1 → q1.sram = s.sram := by
  rintro q1 ⟨⟩; simp
theorem execProgramNRise_sram (s : State) : ∀ q1, (execProgramNRise s) = .next q1 → q1.sram = s.sram := by
  rintro q1 ⟨⟩; simp

/-! LifeCycle. -/

@[simp] theorem State.lcRefuse_sram (s : State) (jtag : Bool) (code : Nat) : (State.lcRefuse s jtag code).sram = s.sram := by simp [State.lcRefuse]
@[simp] theorem State.lcPresent_sram (s : State) (jtag : Bool) (bytes : List Byte) : (State.lcPresent s jtag bytes).sram = s.sram := by simp [State.lcPresent]
@[simp] theorem State.lcGo_sram (s : State) : (State.lcGo s).sram = s.sram := by simp [State.lcGo]
@[simp] theorem State.lcClear_sram (s : State) : (State.lcClear s).sram = s.sram := by simp [State.lcClear]
@[simp] theorem State.reqctlWrite_sram (s : State) (v : Word) : (State.reqctlWrite s v).sram = s.sram := by simp [State.reqctlWrite]
@[simp] theorem State.reqbufWrite_sram (s : State) (i : Nat) (v : Word) : (State.reqbufWrite s i v).sram = s.sram := by simp [State.reqbufWrite]
@[simp] theorem State.lcJtagToken_sram (s : State) : (State.lcJtagToken s).sram = s.sram := by unfold State.lcJtagToken; (repeat' split) <;> simp
@[simp] theorem State.zeroise_sram (s : State) (cause : Nat) : (State.zeroise s cause).sram = s.sram := by simp [State.zeroise]
@[simp] theorem State.burnBegins_sram (s : State) (r : LcReq) : (State.burnBegins s r).sram = s.sram := by simp [State.burnBegins]
@[simp] theorem State.lcVerified_sram (s : State) (r : LcReq) (vinOk : Bool) : (State.lcVerified s r vinOk).sram = s.sram := by unfold State.lcVerified; (repeat' split) <;> simp
@[simp] theorem State.loadBbr_sram (s : State) (k : Nat) : (State.loadBbr s k).sram = s.sram := by simp [State.loadBbr]
@[simp] theorem State.loadFuseKey_sram (s : State) : (State.loadFuseKey s).sram = s.sram := by simp [State.loadFuseKey]
@[simp] theorem State.lcPendingState_sram (s : State) (next : Nat) : (State.lcPendingState s next).sram = s.sram := by simp [State.lcPendingState]
@[simp] theorem State.lcDone_sram (s : State) (jtag : Bool) : (State.lcDone s jtag).sram = s.sram := by simp [State.lcDone]
@[simp] theorem State.lcAction_sram (s : State) (r : LcReq) : (State.lcAction s r).sram = s.sram := by unfold State.lcAction; (repeat' split) <;> simp
@[simp] theorem State.lcBurnt_sram (s : State) (r : LcReq) (fs : List FuseRef) (failed : Option Nat) : (State.lcBurnt s r fs failed).sram = s.sram := by unfold State.lcBurnt; (repeat' split) <;> simp
theorem execLcTransition_sram (ag : Agent) (s : State) : ∀ q1, (execLcTransition ag s) = .next q1 → q1.sram = s.sram := by
  rintro q1 ⟨⟩; simp
theorem execLcSetOwner_sram (ag : Agent) (s : State) : ∀ q1, (execLcSetOwner ag s) = .next q1 → q1.sram = s.sram := by
  rintro q1 ⟨⟩; simp
theorem execLcSetKeyFuse_sram (ag : Agent) (s : State) : ∀ q1, (execLcSetKeyFuse ag s) = .next q1 → q1.sram = s.sram := by
  rintro q1 ⟨⟩; simp
theorem execLcLoadKeyBbr_sram (ag : Agent) (s : State) : ∀ q1, (execLcLoadKeyBbr ag s) = .next q1 → q1.sram = s.sram := by
  rintro q1 ⟨⟩; simp
theorem execLcClearKeyBbr_sram (ag : Agent) (s : State) : ∀ q1, (execLcClearKeyBbr ag s) = .next q1 → q1.sram = s.sram := by
  rintro q1 ⟨⟩; simp
theorem execLcDebugToken_sram (ag : Agent) (jtag : Bool) (s : State) : ∀ q1, (execLcDebugToken ag jtag s) = .next q1 → q1.sram = s.sram := by
  rintro q1 ⟨⟩; simp
theorem execLcReqbufClear_sram (ag : Agent) (s : State) : ∀ q1, (execLcReqbufClear ag s) = .next q1 → q1.sram = s.sram := by
  rintro q1 ⟨⟩; simp
theorem execLcRequestVerified_sram (vinOk : Bool) (s : State) : ∀ q1, (execLcRequestVerified vinOk s) = .next q1 → q1.sram = s.sram := by
  rintro q1 ⟨⟩; (repeat' split) <;> simp
theorem execLcBurnDone_sram (failed : Option Nat) (s : State) : ∀ q1, (execLcBurnDone failed s) = .next q1 → q1.sram = s.sram := by
  rintro q1 ⟨⟩; (repeat' split) <;> simp
theorem execTamperEvent_sram (cause : Fin 3) (s : State) : ∀ q1, (execTamperEvent cause s) = .next q1 → q1.sram = s.sram := by
  rintro q1 ⟨⟩; simp
@[simp] theorem State.tamperWrite_sram (s : State) (v : Word) : (State.tamperWrite s v).sram = s.sram := by simp [State.tamperWrite]
theorem execZeroiseWrite_sram (ag : Agent) (v : Word) (s : State) : ∀ q1, (execZeroiseWrite ag v s) = .next q1 → q1.sram = s.sram := by
  rintro q1 ⟨⟩; simp
@[simp] theorem State.debugWrite_sram (s : State) (v : Word) : (State.debugWrite s v).sram = s.sram := by simp [State.debugWrite]
theorem execDebugClose_sram (ag : Agent) (s : State) : ∀ q1, (execDebugClose ag s) = .next q1 → q1.sram = s.sram := by
  rintro q1 ⟨⟩; simp
@[simp] theorem State.tapInstr_sram (s : State) (code : Nat) : (State.tapInstr s code).sram = s.sram := by simp [State.tapInstr]
@[simp] theorem State.tapCapture_sram (s : State) (code : Nat) (w : Word) : (State.tapCapture s code w).sram = s.sram := by simp [State.tapCapture]
theorem execJtagTapReset_sram (s : State) : ∀ q1, (execJtagTapReset s) = .next q1 → q1.sram = s.sram := by
  rintro q1 ⟨⟩; simp
theorem execJtagLcTokenUpdate_sram (shifts : Nat) (bytes : List Byte) (s : State) : ∀ q1, (execJtagLcTokenUpdate shifts bytes s) = .next q1 → q1.sram = s.sram := by
  rintro q1 ⟨⟩; simp
theorem execJtagExtest_sram (s : State) : ∀ q1, (execJtagExtest s) = .next q1 → q1.sram = s.sram := by
  rintro q1 ⟨⟩; simp
theorem execJtagClamp_sram (s : State) : ∀ q1, (execJtagClamp s) = .next q1 → q1.sram = s.sram := by
  rintro q1 ⟨⟩; simp
theorem execJtagHighz_sram (s : State) : ∀ q1, (execJtagHighz s) = .next q1 → q1.sram = s.sram := by
  rintro q1 ⟨⟩; simp
theorem execJtagIdcode_sram (s : State) : ∀ q1, (execJtagIdcode s) = .next q1 → q1.sram = s.sram := by
  rintro q1 ⟨⟩; simp
theorem execJtagSamplePreload_sram (s : State) : ∀ q1, (execJtagSamplePreload s) = .next q1 → q1.sram = s.sram := by
  rintro q1 ⟨⟩; simp
theorem execJtagLcToken_sram (s : State) : ∀ q1, (execJtagLcToken s) = .next q1 → q1.sram = s.sram := by
  rintro q1 ⟨⟩; simp
theorem execJtagLcStatus_sram (s : State) : ∀ q1, (execJtagLcStatus s) = .next q1 → q1.sram = s.sram := by
  rintro q1 ⟨⟩; simp
theorem execJtagDmi_sram (s : State) : ∀ q1, (execJtagDmi s) = .next q1 → q1.sram = s.sram := by
  rintro q1 ⟨⟩; simp
theorem execJtagGrenricTest_sram (code : Fin 16) (s : State) : ∀ q1, (execJtagGrenricTest code s) = .next q1 → q1.sram = s.sram := by
  rintro q1 ⟨⟩; simp
theorem execJtagBypass_sram (s : State) : ∀ q1, (execJtagBypass s) = .next q1 → q1.sram = s.sram := by
  rintro q1 ⟨⟩; simp

/-! Gates. -/

@[simp] theorem State.gateRequest_sram (s : State) (ag : Agent) (i : Nat) : (State.gateRequest s ag i).sram = s.sram := by simp [State.gateRequest]
@[simp] theorem State.gateApply_sram (s : State) (i : Nat) : (State.gateApply s i).sram = s.sram := by simp [State.gateApply]
@[simp] theorem State.gateRefuse_sram (s : State) (i : Nat) : (State.gateRefuse s i).sram = s.sram := by simp [State.gateRefuse]
@[simp] theorem State.gateOpens_sram (s : State) (i : Nat) : (State.gateOpens s i).sram = s.sram := by simp [State.gateOpens]
@[simp] theorem State.hgreqWrite_sram (s : State) (ag : Agent) (j : Nat) (v : Word) : (State.hgreqWrite s ag j v).sram = s.sram := by simp [State.hgreqWrite]
theorem execHardBlockGateRequest_sram (ag : Agent) (blk : Fin 64) (s : State) : ∀ q1, (execHardBlockGateRequest ag blk s) = .next q1 → q1.sram = s.sram := by
  rintro q1 ⟨⟩; simp
theorem execHardBlockGateApply_sram (blk : Fin 64) (s : State) : ∀ q1, (execHardBlockGateApply blk s) = .next q1 → q1.sram = s.sram := by
  rintro q1 ⟨⟩; simp
theorem execHardBlockGateRefused_sram (blk : Fin 64) (s : State) : ∀ q1, (execHardBlockGateRefused blk s) = .next q1 → q1.sram = s.sram := by
  rintro q1 ⟨⟩; simp
theorem execHardBlockGateOpen_sram (ag : Agent) (blk : Fin 64) (s : State) : ∀ q1, (execHardBlockGateOpen ag blk s) = .next q1 → q1.sram = s.sram := by
  rintro q1 ⟨⟩; simp

/-! Boundary. -/

@[simp] theorem State.mbWrite_sram (s : State) (i : Nat) (v : Word) : (State.mbWrite s i v).sram = s.sram := by simp [State.mbWrite]
theorem execMbFire_sram (ag : Agent) (i : Fin 8) (ctl : Word) (s : State) : ∀ q1, (execMbFire ag i ctl s) = .next q1 → q1.sram = s.sram := by
  rintro q1 ⟨⟩; simp
@[simp] theorem State.clockApply_sram (s : State) (vals : List (Nat × Word)) : (State.clockApply s vals).sram = s.sram := by simp [State.clockApply]
@[simp] theorem State.latch_sram (s : State) (src : Nat) (x : Instant) : (State.latch s src x).sram = s.sram := by simp [State.latch]
theorem execBoundaryLatch_sram (src : Fin 64) (s : State) : ∀ q1, (execBoundaryLatch src s) = .next q1 → q1.sram = s.sram := by
  rintro q1 ⟨⟩; (repeat' split) <;> simp
@[simp] theorem State.rwbApply_sram (s : State) (x : Instant) (vals : List (Nat × Word)) : (State.rwbApply s x vals).sram = s.sram := by
  unfold State.rwbApply
  dsimp only
  rw [foldl_sram _ (fun t n => State.laneCfgApply_sram t n vals),
    foldl_sram _ (fun t q => State.qpllApply_sram t q vals), State.fbrsApply_sram,
    foldl_sram _ (fun t g => State.genApply_sram t g x vals), foldl_sram, foldl_sram]
  · intro t b; split <;> simp
  · intro t i; split <;> simp
@[simp] theorem State.genEvent_sram (s : State) (g : Nat) (x : Instant) (kept : Bool) : (State.genEvent s g x kept).sram = s.sram := by unfold State.genEvent; dsimp only; repeat' first | (simp; done) | split
@[simp] theorem State.instantOver_sram (s : State) (src : Nat) (x : Instant) (kept : Bool) : (State.instantOver s src x kept).sram = s.sram := by unfold State.instantOver; (repeat' split) <;> simp
@[simp] theorem State.tapsOf_sram (s : State) (src : Nat) (x : Instant) : (State.tapsOf s src x).sram = s.sram := by simp [State.tapsOf]
@[simp] theorem State.eventLines_sram (s : State) (src : Nat) : (State.eventLines s src).sram = s.sram := by simp [State.eventLines]
@[simp] theorem State.delivery_sram (s : State) (a : Announced) : (State.delivery s a).sram = s.sram := by simp [State.delivery]
theorem execBoundaryDelivery_sram (src : Fin 64) (s : State) : ∀ q1, (execBoundaryDelivery src s) = .next q1 → q1.sram = s.sram := by
  rintro q1 ⟨⟩; (repeat' split) <;> simp

/-! Pins. -/

@[simp] theorem State.setPad_sram (s : State) (n : Nat) (p : PadSt) : (State.setPad s n p).sram = s.sram := by simp [State.setPad]
@[simp] theorem State.padEdge_sram (s : State) (k net i : Nat) (pins : PadPins) : (State.padEdge s k net i pins).sram = s.sram := by simp [State.padEdge]
@[simp] theorem State.padsEdge_sram (s : State) (k net : Nat) (p : EdgePins) : (State.padsEdge s k net p).sram = s.sram := by simp [State.padsEdge]

/-! Manager. -/

@[simp] theorem State.rqGo_sram (s : State) (n : Nat) : (State.rqGo s n).sram = s.sram := by simp [State.rqGo]
@[simp] theorem State.rqCtlWrite_sram (s : State) (n : Nat) (v : Word) : (State.rqCtlWrite s n v).sram = s.sram := by simp [State.rqCtlWrite]
@[simp] theorem State.waleWrite_sram (s : State) (off : Nat) (v : Word) : (State.waleWrite s off v).sram = s.sram := by simp [State.waleWrite]
@[simp] theorem State.lcWrite_sram (s : State) (off : Nat) (v : Word) : (State.lcWrite s off v).sram = s.sram := by simp [State.lcWrite]
@[simp] theorem State.mailWrite_sram (s : State) (ag : Agent) (m o : Nat) (v : Word) : (State.mailWrite s ag m o v).sram = s.sram := by simp [State.mailWrite]
@[simp] theorem State.semBlockWrite_sram (s : State) (ag : Agent) (off : Nat) (v : Word) : (State.semBlockWrite s ag off v).sram = s.sram := by simp [State.semBlockWrite]
@[simp] theorem State.evtWrite_sram (s : State) (off : Nat) (v : Word) : (State.evtWrite s off v).sram = s.sram := by simp [State.evtWrite]
@[simp] theorem State.hpWrite_sram (s : State) (ag : Agent) (p : Fin 2) (off : Nat) (v : Word) : (State.hpWrite s ag p off v).sram = s.sram := by simp [State.hpWrite]
@[simp] theorem State.pwrWrite_sram (s : State) (off : Nat) (v : Word) : (State.pwrWrite s off v).sram = s.sram := by simp [State.pwrWrite]
@[simp] theorem State.sndWrite_sram (s : State) (off : Nat) (v : Word) : (State.sndWrite s off v).sram = s.sram := by simp [State.sndWrite]
@[simp] theorem State.timeWrite_sram (s : State) (ag : Agent) (off : Nat) (v : Word) : (State.timeWrite s ag off v).sram = s.sram := by simp [State.timeWrite]
@[simp] theorem State.measured_sram (s : State) (off : Nat) : (State.measured s off).2.sram = s.sram := by simp [State.measured]
@[simp] theorem State.mgrValue_sram (s : State) (ag : Agent) (off : Nat) : (State.mgrValue s ag off).2.sram = s.sram := by simp [State.mgrValue]
@[simp] theorem State.mgrRead_sram (s : State) (ag : Agent) (off : Nat) : (State.mgrRead s ag off).2.sram = s.sram := by unfold State.mgrRead; (repeat' split) <;> simp

/-! Access. -/

@[simp] theorem State.mgrReads_sram (s : State) (ag : Agent) (off : Nat) (x0 : Nat) : (State.mgrReads s ag off x0).2.sram = s.sram := by
  induction x0 generalizing s ag off with
  | zero => simp [State.mgrReads]
  | succ n ih => simp [State.mgrReads, ih]
@[simp] theorem State.flashReads_sram (s : State) (ag : Agent) (off : Nat) (x0 : Nat) : (State.flashReads s ag off x0).2.sram = s.sram := by
  induction x0 generalizing s ag off with
  | zero => rfl
  | succ n ih =>
    have e := State.flashRead_sram s ag off
    unfold State.flashReads
    split <;> (rename_i hr; rw [hr] at e; dsimp only at e ⊢; simp [ih, e])
@[simp] theorem State.flashWrites_sram (s : State) (ag : Agent) (off : Nat) (x0 : List Word) : (State.flashWrites s ag off x0).sram = s.sram := by
  induction x0 generalizing s ag off with
  | nil => simp [State.flashWrites]
  | cons a l ih => simp [State.flashWrites, ih]
theorem State.windowPlace_sram (s : State) (origin : Nat → GwOrigin) (data : Option (List Byte)) (o0 : Nat) (x0 : List ((Nat × Nat) × Nat)) : ∀ q1, (State.windowPlace s origin data o0 x0) = some q1 → q1.sram = s.sram := by
  induction x0 generalizing s with
  | nil => intro q1 h; cases h; rfl
  | cons a l ih =>
    intro q1 h
    unfold State.windowPlace at h
    split at h
    · cases h
    · split at h
      · cases h
      · rename_i hg
        rw [ih _ _ h]
        exact State.gwAccess_sram _ _ _ _ hg
theorem State.windowAccess_sram (s : State) (origin : Nat → GwOrigin) (o n : Nat) (data : Option (List Byte)) : ∀ q1, (State.windowAccess s origin o n data) = some q1 → q1.sram = s.sram := by
  intro q1 h
  exact State.windowPlace_sram _ _ _ _ _ _ h
@[simp] theorem State.inboundEnd_sram (s : State) (b : WaleBlock) (status : Nat) (ws : List Word) : (State.inboundEnd s b status ws).sram = s.sram := by simp [State.inboundEnd]
theorem State.inboundHamper_sram (s : State) (b : WaleBlock) (o mem : Nat) : ∀ q1, (State.inboundHamper s b o mem) = some q1 → q1.sram = s.sram := by
  intro q1 h
  simp only [State.inboundHamper] at h
  (repeat' split at h) <;> simp_all <;> (try (subst h; simp))
theorem State.inboundWindow_sram (s : State) (b : WaleBlock) (o : Nat) : ∀ q1, (State.inboundWindow s b o) = some q1 → q1.sram = s.sram := by
  intro q1 h
  unfold State.inboundWindow at h
  split at h
  · rw [Option.map_eq_some_iff] at h
    obtain ⟨t, ht, rfl⟩ := h
    rw [State.inboundEnd_sram]
    exact State.windowAccess_sram _ _ _ _ _ _ ht
  · exact State.windowAccess_sram _ _ _ _ _ _ h
theorem State.answerNext_sram (s : State) : ∀ q1, (State.answerNext s) = some q1 → q1.sram = s.sram := by
  intro q1 h
  simp only [State.answerNext] at h
  (repeat' split at h) <;> simp_all <;> (try (subst h; simp))
@[simp] theorem State.spiReadWord_sram (s : State) (p : Fin 2) (a : Nat) : (State.spiReadWord s p a).2.sram = s.sram := by unfold State.spiReadWord; (repeat' split) <;> simp
@[simp] theorem State.spiReads_sram (s : State) (p : Fin 2) (a : Nat) (x0 : Nat) : (State.spiReads s p a x0).2.sram = s.sram := by
  induction x0 generalizing s p a with
  | zero => rfl
  | succ n ih =>
    have e := State.spiReadWord_sram s p a
    unfold State.spiReads
    split <;> (rename_i hr; rw [hr] at e; dsimp only at e ⊢; simp [ih, e])
@[simp] theorem State.masterAway_sram (s : State) (p : Nat) (r : MasterReq) : (State.masterAway s p r).sram = s.sram := by simp [State.masterAway]
@[simp] theorem State.gwRespond_sram (s : State) (p tag : Nat) : (State.gwRespond s p tag).sram = s.sram := by simp [State.gwRespond]
theorem execGwMasterDone_sram (port : Fin 4) (tag : Fin 32) (s : State) : ∀ q1, (execGwMasterDone port tag s) = .next q1 → q1.sram = s.sram := by
  rintro q1 ⟨⟩; (repeat' split) <;> simp
@[simp] theorem State.busError_sram (s : State) (c : Fin 4) : (State.busError s c).sram = s.sram := by simp [State.busError]
@[simp] theorem State.loaded_sram (s : State) (c : Fin 4) (o n : Nat) (ws : List Word) : (State.loaded s c o n ws).sram = s.sram := by simp [State.loaded]
@[simp] theorem State.busFlash_sram (s : State) (c : Fin 4) (a : BusAccess) (o : Nat) : (State.busFlash s c a o).sram = s.sram := by
  have e := State.flashReads_sram s (.core c) (coverOf o a.size).1 (coverOf o a.size).2
  unfold State.busFlash
  dsimp only
  split
  · split
    · simp
    · split
      · simp
      · split <;> simp
  · split
    · rename_i hr
      rw [hr] at e
      simpa using e
    · rfl
theorem State.busHamper_sram (s : State) (c : Fin 4) (a : BusAccess) (o : Nat) : ∀ q1, (State.busHamper s c a o) = some q1 → q1.sram = s.sram := by
  intro q1 h
  simp only [State.busHamper] at h
  (repeat' split at h) <;> simp_all <;> (try (subst h; simp))
theorem State.busWindow_sram (s : State) (c : Fin 4) (a : BusAccess) (o : Nat) : ∀ q1, (State.busWindow s c a o) = some q1 → q1.sram = s.sram := by
  intro q1 h
  exact State.windowAccess_sram _ _ _ _ _ _ h
@[simp] theorem State.wdStore_sram (s : State) (o : Nat) (v : Word) : (State.wdStore s o v).sram = s.sram := by simp [State.wdStore]
@[simp] theorem State.busWatchdog_sram (s : State) (c : Fin 4) (a : BusAccess) (o : Nat) : (State.busWatchdog s c a o).sram = s.sram := by
  have each : ∀ (l : List (Word × Nat)) (u : State), (l.foldl (fun t e => t.wdStore (o + 4 * e.2) e.1) u).sram = u.sram := by
    intro l
    induction l with
    | nil => intro u; rfl
    | cons a l ih => intro u; rw [List.foldl_cons, ih, State.wdStore_sram]
  unfold State.busWatchdog
  dsimp only
  split
  · rw [each]
  · rw [State.loaded_sram]

/-! Weave. -/

@[simp] theorem State.asyncStep_sram (s : State) (levels : List (Nat × Bool)) : (State.asyncStep s levels).sram = s.sram := by simp [State.asyncStep]
@[simp] theorem State.asyncSettle_sram (levels : List (Nat × Bool)) (n : Nat) (s : State) : (State.asyncSettle levels n s).sram = s.sram := by
  induction n generalizing s with
  | zero => rfl
  | succ n ih =>
    unfold State.asyncSettle
    dsimp only
    split
    · rfl
    · rw [ih, State.asyncStep_sram]

/-! Edge. -/

@[simp] theorem State.bportEdge_sram (s : State) (k net : Nat) : (State.bportEdge s k net).sram = s.sram := by unfold State.bportEdge; (repeat' split) <;> simp
@[simp] theorem State.bportsEdge_sram (s : State) (bay net : Nat) : (State.bportsEdge s bay net).sram = s.sram := by simp [State.bportsEdge]
@[simp] theorem State.innerEdge_sram (s : State) (bay net : Nat) (p : InnerPins) : (State.innerEdge s bay net p).sram = s.sram := by simp [State.innerEdge]
@[simp] theorem State.setHigh_sram (s : State) (bay net : Nat) (high : Bool) : (State.setHigh s bay net high).sram = s.sram := by simp [State.setHigh]
@[simp] theorem State.fabricEdge_sram (s : State) (bay net : Nat) (rising : Bool) (p : EdgePins) : (State.fabricEdge s bay net rising p).sram = s.sram := by simp [State.fabricEdge]
@[simp] theorem State.portEdges_sram (s : State) (bay net : Nat) (p : EdgePins) : (State.portEdges s bay net p).sram = s.sram := by simp [State.portEdges]
@[simp] theorem State.stakePass_sram (s : State) (bay net : Nat) (rising : Bool) (p : EdgePins) : (State.stakePass s bay net rising p).sram = s.sram := by simp [State.stakePass]
@[simp] theorem State.stakeEdge_sram (s : State) (bay net : Nat) (rising : Bool) (p : EdgePins) : (State.stakeEdge s bay net rising p).sram = s.sram := by simp [State.stakeEdge]
theorem execStakeNetEdge_sram (bay : Fin 96) (net : Fin 24) (rising : Bool) (pins : EdgePins) (s : State) : ∀ q1, (execStakeNetEdge bay net rising pins s) = .next q1 → q1.sram = s.sram := by
  rintro q1 ⟨⟩; simp

/-! Ops. -/

theorem foldl_sramCanonical {α : Type} (f : State → α → State) (l : List α) (s : State)
    (hf : ∀ t a, Store.rising t.sram → Store.rising (f t a).sram) (h : Store.rising s.sram) :
    Store.rising (l.foldl f s).sram := by
  induction l generalizing s with
  | nil => exact h
  | cons a l ih => exact ih _ (hf _ _ h)

theorem State.guarded_sramCanonical  (s : State) (ag : Agent) (n off : Nat) (t : State) (h : Store.rising s.sram) (ht : Store.rising t.sram) :
    Store.rising (s.guarded ag n off t).sram := by
  unfold State.guarded
  split
  · exact ht
  · simpa using h
theorem State.rws_sramCanonical  (s : State) (ag : Agent) (off : Nat) (t : State) (h : Store.rising s.sram) (ht : Store.rising t.sram) :
    Store.rising (s.rws ag off t).sram := by
  unfold State.rws
  split
  · split
    · exact State.guarded_sramCanonical _ _ _ _ _ h ht
    · exact ht
  · exact ht

/-! Domains. -/

theorem State.restart_sramCanonical  (s : State) (h : Store.rising s.sram) : Store.rising (State.restart s).sram := by rfl

/-! Loading. -/

theorem State.keeperStart_sramCanonical  (s : State) (cause : Nat) (h : Store.rising s.sram) : Store.rising (State.keeperStart s cause).sram := by
  unfold State.keeperStart
  repeat' first | assumption | (with_reducible apply State.restart_sramCanonical) | (with_reducible apply foldl_sramCanonical; intros) | split | simp
theorem execVinFall_sramCanonical  (s : State) (h : Store.rising s.sram) : ∀ q1, (execVinFall s) = .next q1 → Store.rising q1.sram := by
  rintro q1 ⟨⟩
  repeat' first | assumption | (with_reducible apply State.restart_sramCanonical) | (with_reducible apply foldl_sramCanonical; intros) | split | simp
theorem execPowerUpComplete_sramCanonical  (straps : BitVec 7) (s : State) (h : Store.rising s.sram) : ∀ q1, (execPowerUpComplete straps s) = .next q1 → Store.rising q1.sram := by
  rintro q1 ⟨⟩
  repeat' first | assumption | (with_reducible apply State.keeperStart_sramCanonical) | (with_reducible apply foldl_sramCanonical; intros) | split | simp
theorem execResetNRise_sramCanonical  (s : State) (h : Store.rising s.sram) : ∀ q1, (execResetNRise s) = .next q1 → Store.rising q1.sram := by
  rintro q1 ⟨⟩
  repeat' first | assumption | (with_reducible apply State.keeperStart_sramCanonical) | (with_reducible apply foldl_sramCanonical; intros) | split | simp

/-! Power. -/

theorem State.standbyEnter_sramCanonical  (s : State) (h : Store.rising s.sram) : Store.rising (State.standbyEnter s).sram := by
  unfold State.standbyEnter
  repeat' first | assumption | (with_reducible apply State.restart_sramCanonical) | (with_reducible apply foldl_sramCanonical; intros) | split | simp
theorem State.quiesced_sramCanonical  (s : State) (h : Store.rising s.sram) : Store.rising (State.quiesced s).sram := by
  unfold State.quiesced
  repeat' first | assumption | (with_reducible apply State.standbyEnter_sramCanonical) | (with_reducible apply foldl_sramCanonical; intros) | split | simp
theorem execQuiesceDone_sramCanonical  (s : State) (h : Store.rising s.sram) : ∀ q1, (execQuiesceDone s) = .next q1 → Store.rising q1.sram := by
  rintro q1 ⟨⟩
  repeat' first | assumption | (with_reducible apply State.quiesced_sramCanonical) | (with_reducible apply foldl_sramCanonical; intros) | split | simp
theorem execQuiesceTimeout_sramCanonical  (busy : BitVec 4) (s : State) (h : Store.rising s.sram) : ∀ q1, (execQuiesceTimeout busy s) = .next q1 → Store.rising q1.sram := by
  rintro q1 ⟨⟩
  repeat' first | assumption | (with_reducible apply State.quiesced_sramCanonical) | (with_reducible apply foldl_sramCanonical; intros) | split | simp
theorem State.standbyWake_sramCanonical  (s : State) (h : Store.rising s.sram) : Store.rising (State.standbyWake s).sram := by
  unfold State.standbyWake
  repeat' first | assumption | (with_reducible apply State.keeperStart_sramCanonical) | (with_reducible apply foldl_sramCanonical; intros) | split | simp
theorem State.wakeSource_sramCanonical  (s : State) (src port : Nat) (h : Store.rising s.sram) : Store.rising (State.wakeSource s src port).sram := by
  unfold State.wakeSource
  repeat' first | assumption | (with_reducible apply State.standbyWake_sramCanonical) | (with_reducible apply foldl_sramCanonical; intros) | split | simp
theorem execWakeSource_sramCanonical  (src : Fin 8) (port : Fin 2) (s : State) (h : Store.rising s.sram) : ∀ q1, (execWakeSource src port s) = .next q1 → Store.rising q1.sram := by
  rintro q1 ⟨⟩
  repeat' first | assumption | (with_reducible apply State.wakeSource_sramCanonical) | (with_reducible apply foldl_sramCanonical; intros) | split | simp
theorem State.wakeTimer_sramCanonical  (s : State) (h : Store.rising s.sram) : Store.rising (State.wakeTimer s).sram := by
  unfold State.wakeTimer
  repeat' first | assumption | (with_reducible apply State.wakeSource_sramCanonical) | (with_reducible apply foldl_sramCanonical; intros) | split | simp
theorem execWakeTimerExpiry_sramCanonical  (s : State) (h : Store.rising s.sram) : ∀ q1, (execWakeTimerExpiry s) = .next q1 → Store.rising q1.sram := by
  rintro q1 ⟨⟩
  repeat' first | assumption | (with_reducible apply State.wakeTimer_sramCanonical) | (with_reducible apply foldl_sramCanonical; intros) | split | simp
theorem State.staleCluster_sramCanonical  (s : State) (h : Store.rising s.sram) : Store.rising (State.staleCluster s).sram := by
  unfold State.staleCluster
  first | (simp; done) | (simp; rfl)
theorem execSleepWakeRun_sramCanonical  (stale : StaleBanks) (s : State) (h : Store.rising s.sram) : ∀ q1, (execSleepWakeRun stale s) = .next q1 → Store.rising q1.sram := by
  rintro q1 ⟨⟩
  repeat' first | assumption | (with_reducible apply State.staleCluster_sramCanonical) | (with_reducible apply foldl_sramCanonical; intros) | split | simp
theorem State.reloadRequest_sramCanonical  (s : State) (cause : Nat) (h : Store.rising s.sram) : Store.rising (State.reloadRequest s cause).sram := by
  unfold State.reloadRequest
  repeat' first | assumption | (with_reducible apply State.wakeSource_sramCanonical) | (with_reducible apply foldl_sramCanonical; intros) | split | simp
theorem execProgramNFall_sramCanonical  (s : State) (h : Store.rising s.sram) : ∀ q1, (execProgramNFall s) = .next q1 → Store.rising q1.sram := by
  rintro q1 ⟨⟩
  repeat' first | assumption | (with_reducible apply State.reloadRequest_sramCanonical) | (with_reducible apply foldl_sramCanonical; intros) | split | simp
theorem State.sysCtlWrite_sramCanonical  (s : State) (v : Word) (h : Store.rising s.sram) : Store.rising (State.sysCtlWrite s v).sram := by
  unfold State.sysCtlWrite
  repeat' first | assumption | (with_reducible apply State.reloadRequest_sramCanonical) | (with_reducible apply foldl_sramCanonical; intros) | split | simp
theorem execSysCtlReload_sramCanonical  (ag : Agent) (v : Word) (s : State) (h : Store.rising s.sram) : ∀ q1, (execSysCtlReload ag v s) = .next q1 → Store.rising q1.sram := by
  rintro q1 ⟨⟩
  repeat' first | assumption | (with_reducible apply State.sysCtlWrite_sramCanonical) | (with_reducible apply foldl_sramCanonical; intros) | split | simp

/-! Manager. -/

theorem State.sysWrite_sramCanonical  (s : State) (off : Nat) (v : Word) (h : Store.rising s.sram) : Store.rising (State.sysWrite s off v).sram := by
  unfold State.sysWrite
  repeat' first | assumption | (with_reducible apply State.sysCtlWrite_sramCanonical) | (with_reducible apply foldl_sramCanonical; intros) | split | simp
theorem State.mgrEffect_sramCanonical  (s : State) (ag : Agent) (off : Nat) (v : Word) (h : Store.rising s.sram) : Store.rising (State.mgrEffect s ag off v).sram := by
  unfold State.mgrEffect
  repeat' first | assumption | (with_reducible apply State.sysWrite_sramCanonical) | (with_reducible apply foldl_sramCanonical; intros) | split | simp
theorem State.mgrWrite_sramCanonical  (s : State) (ag : Agent) (off : Nat) (v : Word) (h : Store.rising s.sram) : Store.rising (State.mgrWrite s ag off v).sram := by
  unfold State.mgrWrite
  split
  · exact h
  · split
    · exact State.rws_sramCanonical _ _ _ _ h (State.mgrEffect_sramCanonical _ _ _ _ h)
    · exact h

/-! Access. -/

theorem State.sramStore_sramCanonical  (s : State) (a : Nat) (x0 : List Byte) (h : Store.rising s.sram) : Store.rising (State.sramStore s a x0).sram := by
  induction x0 generalizing s a with
  | nil => exact h
  | cons b bs ih =>
    unfold State.sramStore
    exact ih _ _ (Sys2Proof.Laws.rising_insert h (Nat.zero_le _))
theorem State.mgrWrites_sramCanonical  (s : State) (ag : Agent) (off : Nat) (x0 : List Word) (h : Store.rising s.sram) : Store.rising (State.mgrWrites s ag off x0).sram := by
  induction x0 generalizing s ag off with
  | nil => unfold State.mgrWrites; repeat' first | assumption | (with_reducible apply State.mgrWrite_sramCanonical) | (with_reducible apply foldl_sramCanonical; intros) | split | simp
  | cons a l ih =>
    unfold State.mgrWrites
    repeat' first | assumption | (with_reducible apply State.mgrWrite_sramCanonical) | (with_reducible apply ih) | split | simp
theorem State.inboundSram_sramCanonical  (s : State) (b : WaleBlock) (o mem : Nat) (h : Store.rising s.sram) : Store.rising (State.inboundSram s b o mem).sram := by
  unfold State.inboundSram
  repeat' first | assumption | (with_reducible apply State.sramStore_sramCanonical) | (with_reducible apply foldl_sramCanonical; intros) | split | simp
theorem State.inbound_sramCanonical  (s : State) (b : WaleBlock) (mem : Nat) (h : Store.rising s.sram) : ∀ q1, (State.inbound s b mem) = some q1 → Store.rising q1.sram := by
  intro q1 hq
  unfold State.inbound at hq
  dsimp only at hq
  split at hq
  · cases hq; first | simpa using h | exact State.inboundSram_sramCanonical _ _ _ _ h
  · cases hq; first | simpa using h | exact State.inboundSram_sramCanonical _ _ _ _ h
  · split at hq
    · cases hq
      rw [State.inboundEnd_sram]
      exact State.mgrWrites_sramCanonical _ _ _ _ h
    · cases hq; first | simpa using h | exact State.inboundSram_sramCanonical _ _ _ _ h
  · rename_i o _
    have e := State.flashReads_sram s (.wale b.src) o b.len.val
    split at hq
    · rename_i hr; rw [hr] at e; cases hq; rw [State.inboundEnd_sram]; dsimp only at e; rw [e]; exact h
    · cases hq
  · rw [State.inboundHamper_sram _ _ _ _ _ hq]; exact h
  · rw [State.inboundWindow_sram _ _ _ _ hq]; exact h
  · cases hq; first | simpa using h | exact State.inboundSram_sramCanonical _ _ _ _ h
theorem State.inboundNext_sramCanonical  (s : State) (h : Store.rising s.sram) : ∀ q1, (State.inboundNext s) = some q1 → Store.rising q1.sram := by
  intro q1 hq
  unfold State.inboundNext at hq
  split at hq
  · cases hq
  · split at hq
    · cases hq
    · exact State.inbound_sramCanonical _ _ _ (by simpa using h) _ hq
theorem State.spiApply_sramCanonical  (s : State) (p : Fin 2) (a : Nat) (w : Word) (h : Store.rising s.sram) : Store.rising (State.spiApply s p a w).sram := by
  unfold State.spiApply
  repeat' first | assumption | (with_reducible apply State.mgrWrite_sramCanonical) | (with_reducible apply foldl_sramCanonical; intros) | split | simp
theorem State.spiItem_sramCanonical  (s : State) (p : Fin 2) (x0 : SpiItem) (h : Store.rising s.sram) : Store.rising (State.spiItem s p x0).sram := by
  unfold State.spiItem
  repeat' first | assumption | (with_reducible apply State.spiApply_sramCanonical) | (with_reducible apply foldl_sramCanonical; intros) | split | simp
theorem State.spiTake_sramCanonical  (s : State) (p : Fin 2) (i : SpiItem) (h : Store.rising s.sram) : Store.rising (State.spiTake s p i).sram := by
  unfold State.spiTake
  repeat' first | assumption | (with_reducible apply State.spiItem_sramCanonical) | (with_reducible apply foldl_sramCanonical; intros) | split | simp
theorem State.spiNext_sramCanonical  (s : State) (p : Fin 2) (h : Store.rising s.sram) : ∀ q1, (State.spiNext s p) = some q1 → Store.rising q1.sram := by
  intro q1 hq
  unfold State.spiNext at hq
  dsimp only at hq
  (repeat' split at hq) <;> first | cases hq | skip
  all_goals (repeat' first | assumption | (with_reducible apply State.spiItem_sramCanonical) | (with_reducible apply foldl_sramCanonical; intros) | split | simp)
theorem State.spiWrites_sramCanonical  (s : State) (p : Fin 2) (a : Nat) (x0 : List Word) (h : Store.rising s.sram) : Store.rising (State.spiWrites s p a x0).sram := by
  induction x0 generalizing s p a with
  | nil => unfold State.spiWrites; repeat' first | assumption | (with_reducible apply State.spiTake_sramCanonical) | (with_reducible apply foldl_sramCanonical; intros) | split | simp
  | cons a l ih =>
    unfold State.spiWrites
    repeat' first | assumption | (with_reducible apply State.spiTake_sramCanonical) | (with_reducible apply ih) | split | simp
theorem execSpiRead_sramCanonical  (port : Fin 2) (addr : Word) (n : Nat) (s : State) (h : Store.rising s.sram) : ∀ q1, (execSpiRead port addr n s) = .next q1 → Store.rising q1.sram := by
  rintro q1 ⟨⟩
  repeat' first | assumption | (with_reducible apply State.spiTake_sramCanonical) | (with_reducible apply foldl_sramCanonical; intros) | split | simp
theorem execSpiWrite_sramCanonical  (port : Fin 2) (addr : Word) (words : List Word) (s : State) (h : Store.rising s.sram) : ∀ q1, (execSpiWrite port addr words s) = .next q1 → Store.rising q1.sram := by
  rintro q1 ⟨⟩
  repeat' first | assumption | (with_reducible apply State.spiWrites_sramCanonical) | (with_reducible apply foldl_sramCanonical; intros) | split | simp
theorem execSpiStatus_sramCanonical  (port : Fin 2) (s : State) (h : Store.rising s.sram) : ∀ q1, (execSpiStatus port s) = .next q1 → Store.rising q1.sram := by
  rintro q1 ⟨⟩
  repeat' first | assumption | (with_reducible apply State.spiTake_sramCanonical) | (with_reducible apply foldl_sramCanonical; intros) | split | simp
theorem execStreamWindowWrite_sramCanonical  (port : Fin 2) (spi : Bool) (words : List Word) (s : State) (h : Store.rising s.sram) : ∀ q1, (execStreamWindowWrite port spi words s) = .next q1 → Store.rising q1.sram := by
  rintro q1 ⟨⟩
  repeat' first | assumption | (with_reducible apply State.spiTake_sramCanonical) | (with_reducible apply foldl_sramCanonical; intros) | split | simp
theorem State.barWrite_sramCanonical  (s : State) (p : Fin 2) (off : Nat) (v : Word) (h : Store.rising s.sram) : Store.rising (State.barWrite s p off v).sram := by
  unfold State.barWrite
  repeat' first | assumption | (with_reducible apply State.mgrWrite_sramCanonical) | (with_reducible apply foldl_sramCanonical; intros) | split | simp
theorem State.masterLocal_sramCanonical  (s : State) (p : Nat) (r : MasterReq) (h : Store.rising s.sram) : ∀ q1, (State.masterLocal s p r) = some q1 → Store.rising q1.2.2.sram := by
  intro q1 hq
  unfold State.masterLocal at hq
  dsimp only at hq
  have dec : Store.rising (s.gwErr p 3).sram := by simpa using h
  split at hq
  · cases hq; exact dec
  split at hq
  · cases hq; exact dec
  · cases hq; exact dec
  · cases hq; exact dec
  · split at hq
    · cases hq; first | simpa using h | exact State.sramStore_sramCanonical _ _ _ h
    · split at hq <;> (cases hq; first | simpa using h | exact State.sramStore_sramCanonical _ _ _ h)
  · split at hq
    · cases hq; exact State.mgrWrites_sramCanonical _ _ _ _ h
    · cases hq; first | simpa using h | exact State.sramStore_sramCanonical _ _ _ h
  · rename_i o _
    have e := State.flashReads_sram s .gateway o r.len
    split at hq
    · cases hq; first | simpa using h | exact State.sramStore_sramCanonical _ _ _ h
    · split at hq
      · rename_i hr; rw [hr] at e; cases hq; dsimp only at e; rw [e]; exact h
      · cases hq
  · split at hq
    · cases hq; exact h
    · split at hq
      · cases hq
      · cases hq
        split
        · simpa using h
        · split <;> simpa using h
theorem State.masterHere_sramCanonical  (s : State) (p : Nat) (r : MasterReq) (h : Store.rising s.sram) : ∀ q1, (State.masterHere s p r) = some q1 → Store.rising q1.sram := by
  intro q1 hq
  unfold State.masterHere at hq
  split at hq
  · rw [Option.map_eq_some_iff] at hq
    obtain ⟨q, hq, rfl⟩ := hq
    have e := State.masterLocal_sramCanonical _ _ _ h _ hq
    simpa using e
  · rw [Option.map_eq_some_iff] at hq
    obtain ⟨q, hq, rfl⟩ := hq
    exact State.masterLocal_sramCanonical _ _ _ h _ hq
theorem State.busSram_sramCanonical  (s : State) (c : Fin 4) (a : BusAccess) (o : Nat) (h : Store.rising s.sram) : Store.rising (State.busSram s c a o).sram := by
  unfold State.busSram
  repeat' first | assumption | (with_reducible apply State.sramStore_sramCanonical) | (with_reducible apply foldl_sramCanonical; intros) | split | simp
theorem State.busManager_sramCanonical  (s : State) (c : Fin 4) (a : BusAccess) (o : Nat) (h : Store.rising s.sram) : Store.rising (State.busManager s c a o).sram := by
  unfold State.busManager
  repeat' first | assumption | (with_reducible apply State.mgrWrites_sramCanonical) | (with_reducible apply foldl_sramCanonical; intros) | split | simp
theorem State.busTry_sramCanonical  (s : State) (c : Fin 4) (a : BusAccess) (h : Store.rising s.sram) : ∀ q1, (State.busTry s c a) = some q1 → Store.rising q1.sram := by
  intro q1 hq
  unfold State.busTry at hq
  split at hq
  · cases hq; simpa using h
  · cases hq; exact State.busSram_sramCanonical _ _ _ _ h
  · cases hq; exact State.busManager_sramCanonical _ _ _ _ h
  · cases hq; simpa using h
  · rw [State.busHamper_sram _ _ _ _ _ hq]; exact h
  · rw [State.busWindow_sram _ _ _ _ _ hq]; exact h
  · cases hq; simpa using h
theorem State.waitTry_sramCanonical  (s : State) (i : WaitItem) (h : Store.rising s.sram) : ∀ q1, (State.waitTry s i) = some q1 → Store.rising q1.sram := by
  intro q1 hq
  unfold State.waitTry at hq
  split at hq
  · cases hq
  split at hq
  · exact State.busTry_sramCanonical _ _ _ h _ hq
  · exact State.masterHere_sramCanonical _ _ _ h _ hq
  · rw [State.gwAccess_sram _ _ _ _ hq]; exact h
  · cases hq
    split
    · exact State.barWrite_sramCanonical _ _ _ _ h
    · exact State.mgrWrite_sramCanonical _ _ _ _ h
theorem State.waitTake_sramCanonical  (s : State) (i : WaitItem) (h : Store.rising s.sram) : Store.rising (State.waitTake s i).sram := by
  unfold State.waitTake
  dsimp only
  split
  · exact h
  · cases hw : s.waitTry i with
    | none => exact h
    | some t => exact State.waitTry_sramCanonical _ _ h _ hw
theorem State.waitFirst_sramCanonical  (s : State) (before : List Nat) (x0 : List (WaitItem × Nat)) (h : Store.rising s.sram) : ∀ q1, (State.waitFirst s before x0) = some q1 → Store.rising q1.sram := by
  induction x0 generalizing s before with
  | nil => intro q1 hq; cases hq
  | cons e l ih =>
    intro q1 hq
    obtain ⟨i, k⟩ := e
    unfold State.waitFirst at hq
    split at hq
    · exact ih _ _ h _ hq
    · split at hq
      · rename_i ht
        cases hq
        exact State.waitTry_sramCanonical { s with waits := s.waits.eraseIdx k } i h _ ht
      · exact ih _ _ h _ hq
theorem State.settleOne_sramCanonical  (s : State) (h : Store.rising s.sram) : ∀ q1, (State.settleOne s) = some q1 → Store.rising q1.sram := by
  intro q1 hq
  simp only [State.settleOne, Option.orElse_eq_orElse, Option.orElse_eq_or, Option.or_eq_some_iff] at hq
  rcases hq with hq | ⟨-, hq | ⟨-, hq | ⟨-, hq | ⟨-, hq | ⟨-, hq⟩⟩⟩⟩⟩
  · rw [State.answerNext_sram _ _ hq]; exact h
  · exact State.inboundNext_sramCanonical _ h _ hq
  · rw [State.tagNext_sram _ _ hq]; exact h
  · exact State.spiNext_sramCanonical _ _ h _ hq
  · exact State.spiNext_sramCanonical _ _ h _ hq
  · exact State.waitFirst_sramCanonical _ _ _ h _ hq
theorem State.settle_sramCanonical  (s : State) (x0 : Nat) (h : Store.rising s.sram) : Store.rising (State.settle s x0).sram := by
  induction x0 generalizing s with
  | zero => exact h
  | succ n ih =>
    unfold State.settle
    split
    · rename_i hq
      exact ih _ (State.settleOne_sramCanonical _ h _ hq)
    · exact h
theorem execWaleWrite_sramCanonical  (p : Fin 6) (b : WaleBlock) (mem : Fin 4) (s : State) (h : Store.rising s.sram) : ∀ q1, (execWaleWrite p b mem s) = .next q1 → Store.rising q1.sram := by
  rintro q1 ⟨⟩
  repeat' first | assumption | (with_reducible apply State.settle_sramCanonical) | (with_reducible apply foldl_sramCanonical; intros) | split | simp
theorem execWaleRead_sramCanonical  (p : Fin 6) (b : WaleBlock) (mem : Fin 4) (s : State) (h : Store.rising s.sram) : ∀ q1, (execWaleRead p b mem s) = .next q1 → Store.rising q1.sram := by
  rintro q1 ⟨⟩
  repeat' first | assumption | (with_reducible apply State.settle_sramCanonical) | (with_reducible apply foldl_sramCanonical; intros) | split | simp
theorem execWaleRqGo_sramCanonical  (ag : Agent) (n : Fin 4) (op : Fin 8) (ack : Bool) (len : Fin 256) (s : State) (h : Store.rising s.sram) : ∀ q1, (execWaleRqGo ag n op ack len s) = .next q1 → Store.rising q1.sram := by
  rintro q1 ⟨⟩
  repeat' first | assumption | (with_reducible apply State.settle_sramCanonical) | (with_reducible apply foldl_sramCanonical; intros) | split | simp
theorem execRegisterWrite_sramCanonical  (ag : Agent) (off : Nat) (v : Word) (full : Bool) (s : State) (h : Store.rising s.sram) : ∀ q1, (execRegisterWrite ag off v full s) = .next q1 → Store.rising q1.sram := by
  rintro q1 ⟨⟩
  repeat' first | assumption | (with_reducible apply State.waitTake_sramCanonical) | (with_reducible apply foldl_sramCanonical; intros) | split | simp
theorem execGwWindowAccess_sramCanonical  (ag : Agent) (req : WindowReq) (s : State) (h : Store.rising s.sram) : ∀ q1, (execGwWindowAccess ag req s) = .next q1 → Store.rising q1.sram := by
  rintro q1 ⟨⟩
  repeat' first | assumption | (with_reducible apply State.waitTake_sramCanonical) | (with_reducible apply foldl_sramCanonical; intros) | split | simp
theorem execGwMasterRequest_sramCanonical  (port : Fin 4) (req : MasterReq) (s : State) (h : Store.rising s.sram) : ∀ q1, (execGwMasterRequest port req s) = .next q1 → Store.rising q1.sram := by
  rintro q1 ⟨⟩
  repeat' first | assumption | (with_reducible apply State.waitTake_sramCanonical) | (with_reducible apply State.settle_sramCanonical) | (with_reducible apply foldl_sramCanonical; intros) | split | simp
theorem execClusterBusAccess_sramCanonical  (core : Fin 4) (acc : BusAccess) (s : State) (h : Store.rising s.sram) : ∀ q1, (execClusterBusAccess core acc s) = .next q1 → Store.rising q1.sram := by
  intro q1 hq
  unfold execClusterBusAccess at hq
  split at hq
  · cases hq; exact h
  split at hq
  · cases hq
  · cases hq; exact State.waitTake_sramCanonical _ _ h

/-! Edge. -/

theorem State.wtimerTick_sramCanonical  (s : State) (h : Store.rising s.sram) : Store.rising (State.wtimerTick s).sram := by
  unfold State.wtimerTick
  repeat' first | assumption | (with_reducible apply State.wakeTimer_sramCanonical) | (with_reducible apply foldl_sramCanonical; intros) | split | simp
theorem State.eventWake_sramCanonical  (s : State) (h : Store.rising s.sram) : Store.rising (State.eventWake s).sram := by
  unfold State.eventWake
  repeat' first | assumption | (with_reducible apply State.wakeSource_sramCanonical) | (with_reducible apply foldl_sramCanonical; intros) | split | simp
theorem State.idle_sramCanonical  (s : State) (h : Store.rising s.sram) : Store.rising (State.idle s).sram := by
  unfold State.idle
  repeat' first | assumption | (with_reducible apply State.settle_sramCanonical) | (with_reducible apply State.wtimerTick_sramCanonical) | (with_reducible apply State.eventWake_sramCanonical) | (with_reducible apply foldl_sramCanonical; intros) | split | simp

end Sys2Proof.Machine
end

