-- ==== Sys2Proof/Laws/FrameAccess.lean ====
section
/-! SUPPORT. What a waiting access of one kind can do, and what the commands that carry only that kind leave as
it is. -/
namespace Sys2Proof.Machine

/-- A window access waits, or the port takes it. -/
theorem State.waitTake_window (s : State) (ag : Agent) (r : WindowReq) :
    s.waitTake (.window ag r) = { s with waits := s.waits ++ [.window ag r] } ∨
      s.gwAccess (.agent ag) r = some (s.waitTake (.window ag r)) := by
  unfold State.waitTake
  split
  · exact .inl rfl
  · unfold State.waitTry
    split
    · exact .inl rfl
    · dsimp only
      cases h : s.gwAccess (.agent ag) r with
      | none => exact .inl rfl
      | some t => exact .inr rfl

/-- A service SPI access waits, or is carried out. -/
theorem State.spiTake_cases (s : State) (p : Fin 2) (i : SpiItem) :
    s.spiTake p i = s.setPort p { s.port p with spiWait := (s.port p).spiWait ++ [i] } ∨ s.spiTake p i = s.spiItem p i := by
  unfold State.spiTake; split
  · exact .inl rfl
  · exact .inr rfl

/-! fuses. -/

theorem execGwWindowAccess_fuses (ag : Agent) (req : WindowReq) (s : State) : ∀ q, execGwWindowAccess ag req s = .next q → q.keys.fuses = s.keys.fuses := by
  intro q h
  injection h with h; rw [← h]
  split
  · rfl
  · rcases s.waitTake_window ag req with e | e
    · rw [e]
    · exact State.gwAccess_fuses _ _ _ _ e

@[simp] theorem State.spiTake_status_fuses (s : State) (p : Fin 2) : (s.spiTake p (.status)).keys.fuses = s.keys.fuses := by
  rcases s.spiTake_cases p (.status) with e | e <;> rw [e]
  · simp
  · simp [State.spiItem]

@[simp] theorem State.spiTake_read_fuses (s : State) (p : Fin 2) (a k : Nat) : (s.spiTake p (.read a k)).keys.fuses = s.keys.fuses := by
  rcases s.spiTake_cases p (.read a k) with e | e <;> rw [e]
  · simp
  · simp [State.spiItem]

@[simp] theorem State.spiTake_stream_fuses (s : State) (p : Fin 2) (ws : List Word) : (s.spiTake p (.stream ws)).keys.fuses = s.keys.fuses := by
  rcases s.spiTake_cases p (.stream ws) with e | e <;> rw [e]
  · simp
  · simp [State.spiItem]

theorem execSpiStatus_fuses (port : Fin 2) (s : State) : ∀ q, execSpiStatus port s = .next q → q.keys.fuses = s.keys.fuses := by
  intro q h
  injection h with h; rw [← h]
  split <;> simp

theorem execSpiRead_fuses (port : Fin 2) (addr : Word) (k : Nat) (s : State) : ∀ q, execSpiRead port addr k s = .next q → q.keys.fuses = s.keys.fuses := by
  intro q h
  injection h with h; rw [← h]
  repeat' first | rfl | split | simp

theorem execStreamWindowWrite_fuses (port : Fin 2) (spi : Bool) (words : List Word) (s : State) :
    ∀ q, execStreamWindowWrite port spi words s = .next q → q.keys.fuses = s.keys.fuses := by
  intro q h
  injection h with h; rw [← h]
  repeat' first | rfl | split | simp

/-! sram. -/

theorem execGwWindowAccess_sram (ag : Agent) (req : WindowReq) (s : State) : ∀ q, execGwWindowAccess ag req s = .next q → q.sram = s.sram := by
  intro q h
  injection h with h; rw [← h]
  split
  · rfl
  · rcases s.waitTake_window ag req with e | e
    · rw [e]
    · exact State.gwAccess_sram _ _ _ _ e

@[simp] theorem State.spiTake_status_sram (s : State) (p : Fin 2) : (s.spiTake p (.status)).sram = s.sram := by
  rcases s.spiTake_cases p (.status) with e | e <;> rw [e]
  · simp
  · simp [State.spiItem]

@[simp] theorem State.spiTake_read_sram (s : State) (p : Fin 2) (a k : Nat) : (s.spiTake p (.read a k)).sram = s.sram := by
  rcases s.spiTake_cases p (.read a k) with e | e <;> rw [e]
  · simp
  · simp [State.spiItem]

@[simp] theorem State.spiTake_stream_sram (s : State) (p : Fin 2) (ws : List Word) : (s.spiTake p (.stream ws)).sram = s.sram := by
  rcases s.spiTake_cases p (.stream ws) with e | e <;> rw [e]
  · simp
  · simp [State.spiItem]

theorem execSpiStatus_sram (port : Fin 2) (s : State) : ∀ q, execSpiStatus port s = .next q → q.sram = s.sram := by
  intro q h
  injection h with h; rw [← h]
  split <;> simp

theorem execSpiRead_sram (port : Fin 2) (addr : Word) (k : Nat) (s : State) : ∀ q, execSpiRead port addr k s = .next q → q.sram = s.sram := by
  intro q h
  injection h with h; rw [← h]
  repeat' first | rfl | split | simp

theorem execStreamWindowWrite_sram (port : Fin 2) (spi : Bool) (words : List Word) (s : State) :
    ∀ q, execStreamWindowWrite port spi words s = .next q → q.sram = s.sram := by
  intro q h
  injection h with h; rw [← h]
  repeat' first | rfl | split | simp

/-! hamperCells. -/

theorem execGwWindowAccess_hamperCells (ag : Agent) (req : WindowReq) (s : State) : ∀ q, execGwWindowAccess ag req s = .next q → q.hamp.cells = s.hamp.cells := by
  intro q h
  injection h with h; rw [← h]
  split
  · rfl
  · rcases s.waitTake_window ag req with e | e
    · rw [e]
    · exact State.gwAccess_hamperCells _ _ _ _ e

@[simp] theorem State.spiTake_status_hamperCells (s : State) (p : Fin 2) : (s.spiTake p (.status)).hamp.cells = s.hamp.cells := by
  rcases s.spiTake_cases p (.status) with e | e <;> rw [e]
  · simp
  · simp [State.spiItem]

@[simp] theorem State.spiTake_read_hamperCells (s : State) (p : Fin 2) (a k : Nat) : (s.spiTake p (.read a k)).hamp.cells = s.hamp.cells := by
  rcases s.spiTake_cases p (.read a k) with e | e <;> rw [e]
  · simp
  · simp [State.spiItem]

@[simp] theorem State.spiTake_stream_hamperCells (s : State) (p : Fin 2) (ws : List Word) : (s.spiTake p (.stream ws)).hamp.cells = s.hamp.cells := by
  rcases s.spiTake_cases p (.stream ws) with e | e <;> rw [e]
  · simp
  · simp [State.spiItem]

theorem execSpiStatus_hamperCells (port : Fin 2) (s : State) : ∀ q, execSpiStatus port s = .next q → q.hamp.cells = s.hamp.cells := by
  intro q h
  injection h with h; rw [← h]
  split <;> simp

theorem execSpiRead_hamperCells (port : Fin 2) (addr : Word) (k : Nat) (s : State) : ∀ q, execSpiRead port addr k s = .next q → q.hamp.cells = s.hamp.cells := by
  intro q h
  injection h with h; rw [← h]
  repeat' first | rfl | split | simp

theorem execStreamWindowWrite_hamperCells (port : Fin 2) (spi : Bool) (words : List Word) (s : State) :
    ∀ q, execStreamWindowWrite port spi words s = .next q → q.hamp.cells = s.hamp.cells := by
  intro q h
  injection h with h; rw [← h]
  repeat' first | rfl | split | simp

/-! flashCells. -/

theorem execGwWindowAccess_flashCells (ag : Agent) (req : WindowReq) (s : State) : ∀ q, execGwWindowAccess ag req s = .next q → q.flash.cells = s.flash.cells := by
  intro q h
  injection h with h; rw [← h]
  split
  · rfl
  · rcases s.waitTake_window ag req with e | e
    · rw [e]
    · exact State.gwAccess_flashCells _ _ _ _ e

@[simp] theorem State.spiTake_status_flashCells (s : State) (p : Fin 2) : (s.spiTake p (.status)).flash.cells = s.flash.cells := by
  rcases s.spiTake_cases p (.status) with e | e <;> rw [e]
  · simp
  · simp [State.spiItem]

theorem execSpiStatus_flashCells (port : Fin 2) (s : State) : ∀ q, execSpiStatus port s = .next q → q.flash.cells = s.flash.cells := by
  intro q h
  injection h with h; rw [← h]
  split <;> simp

end Sys2Proof.Machine
end

