-- ==== Sys2Proof/Laws/FramePending.lean ====
section
/-! SUPPORT. No command changes the queue: one lemma per operation and per command. -/
namespace Sys2Proof.Machine

/-! Ops. -/

@[simp] theorem pending_ite (c : Prop) [Decidable c] (a b : State) :
    (if c then a else b).pending = if c then a.pending else b.pending := by split <;> rfl
@[simp] theorem foldl_pending {α : Type} (f : State → α → State) (h : ∀ t a, (f t a).pending = t.pending)
    (l : List α) (s : State) : (l.foldl f s).pending = s.pending := by
  induction l generalizing s with
  | nil => rfl
  | cons a l ih => simp [ih, h]

@[simp] theorem State.wr_pending (s : State) (off : Nat) (v : Word) : (State.wr s off v).pending = s.pending := by simp [State.wr]
@[simp] theorem State.liveWr_pending (s : State) (off : Nat) (v : Word) : (State.liveWr s off v).pending = s.pending := by simp [State.liveWr]
@[simp] theorem State.setFld_pending (s : State) (off hi lo v : Nat) : (State.setFld s off hi lo v).pending = s.pending := by simp [State.setFld]
@[simp] theorem State.setBit_pending (s : State) (off i : Nat) (b : Bool) : (State.setBit s off i b).pending = s.pending := by simp [State.setBit]
@[simp] theorem State.orReg_pending (s : State) (off : Nat) (m : Word) : (State.orReg s off m).pending = s.pending := by simp [State.orReg]
@[simp] theorem State.bumpSat_pending (s : State) (off : Nat) : (State.bumpSat s off).pending = s.pending := by simp [State.bumpSat]
@[simp] theorem State.plainWrite_pending (s : State) (off : Nat) (v : Word) : (State.plainWrite s off v).pending = s.pending := by unfold State.plainWrite; (repeat' split) <;> simp
@[simp] theorem State.setMode_pending (s : State) (m : Nat) : (State.setMode s m).pending = s.pending := by simp [State.setMode]
@[simp] theorem State.sysFault_pending (s : State) (i : Nat) : (State.sysFault s i).pending = s.pending := by simp [State.sysFault]
@[simp] theorem State.freshWord_pending (s : State) : (State.freshWord s).2.pending = s.pending := by simp [State.freshWord]
@[simp] theorem State.freshNat_pending (s : State) : (State.freshNat s).2.pending = s.pending := by simp [State.freshNat]
@[simp] theorem State.emit_pending (s : State) (e : Emission) : (State.emit s e).pending = s.pending := by simp [State.emit]
@[simp] theorem State.setPort_pending (s : State) (p : Fin 2) (h : HostPort) : (State.setPort s p h).pending = s.pending := by simp [State.setPort]
@[simp] theorem State.msixSend_pending (s : State) (p : Fin 2) (vec : Nat) : (State.msixSend s p vec).pending = s.pending := by simp [State.msixSend]
@[simp] theorem State.msixFlush_pending (s : State) (p : Fin 2) : (State.msixFlush s p).pending = s.pending := by simp [State.msixFlush]
@[simp] theorem State.msixAfter_pending (before : State) (n : Nat) (s : State) : (State.msixAfter before n s).pending = s.pending := by simp [State.msixAfter]
@[simp] theorem State.raise_pending (s : State) (n : Nat) : (State.raise s n).pending = s.pending := by simp [State.raise]
@[simp] theorem State.raiseIf_pending (s : State) (c : Bool) (n : Nat) : (State.raiseIf s c n).pending = s.pending := by simp [State.raiseIf]
@[simp] theorem State.portEvent_pending (s : State) (p : Fin 2) (i : Nat) : (State.portEvent s p i).pending = s.pending := by simp [State.portEvent]
@[simp] theorem State.semFreed_pending (s : State) (n : Nat) : (State.semFreed s n).pending = s.pending := by simp [State.semFreed]
@[simp] theorem State.semFree_pending (s : State) (n : Nat) : (State.semFree s n).pending = s.pending := by simp [State.semFree]
@[simp] theorem State.semAutoRelease_pending (s : State) (ident : Nat) : (State.semAutoRelease s ident).pending = s.pending := by simp [State.semAutoRelease]
@[simp] theorem State.semAllFree_pending (s : State) : (State.semAllFree s).pending = s.pending := by simp [State.semAllFree]
@[simp] theorem State.portDiscard_pending (s : State) (ag : Agent) (region off : Nat) : (State.portDiscard s ag region off).pending = s.pending := by unfold State.portDiscard; dsimp only; repeat' first | (simp; done) | split
@[simp] theorem State.discard_pending (s : State) (ag : Agent) (region off : Nat) : (State.discard s ag region off).pending = s.pending := by simp [State.discard]
@[simp] theorem State.guarded_pending (s : State) (ag : Agent) (n off : Nat) (t : State) (h : t.pending = s.pending) : (s.guarded ag n off t).pending = s.pending := by unfold State.guarded; split <;> simp [h]
@[simp] theorem State.rws_pending (s : State) (ag : Agent) (off : Nat) (t : State) (h : t.pending = s.pending) : (s.rws ag off t).pending = s.pending := by unfold State.rws; (repeat' split) <;> simp [h]

/-! WaleTree. -/

@[simp] theorem State.setWale_pending (s : State) (w : WaleSt) : (State.setWale s w).pending = s.pending := by simp [State.setWale]
@[simp] theorem State.setWp_pending (s : State) (p : Nat) (v : WpSt) : (State.setWp s p v).pending = s.pending := by simp [State.setWp]
@[simp] theorem State.wpEvent_pending (s : State) (p i : Nat) : (State.wpEvent s p i).pending = s.pending := by simp [State.wpEvent]
@[simp] theorem State.wpFault_pending (s : State) (p i : Nat) : (State.wpFault s p i).pending = s.pending := by simp [State.wpFault]
@[simp] theorem State.waleErr_pending (s : State) (i : Nat) : (State.waleErr s i).pending = s.pending := by simp [State.waleErr]
@[simp] theorem State.waleEmit_pending (s : State) (p : Nat) (o : WaleOut) : (State.waleEmit s p o).pending = s.pending := by simp [State.waleEmit]
@[simp] theorem State.wpClear_pending (s : State) (p : Nat) : (State.wpClear s p).pending = s.pending := by simp [State.wpClear]
@[simp] theorem State.linkSend_pending (s : State) (p : Nat) (b : WaleBlock) : (State.linkSend s p b).pending = s.pending := by simp [State.linkSend]
@[simp] theorem State.linkDrain_pending (s : State) (p : Nat) : (State.linkDrain s p).pending = s.pending := by simp [State.linkDrain]
@[simp] theorem State.bcastOut_pending (s : State) (from_ : Option Nat) (b : WaleBlock) : (State.bcastOut s from_ b).pending = s.pending := by simp [State.bcastOut]
@[simp] theorem State.sysBcast_pending (s : State) (m : SysMsg) : (State.sysBcast s m).pending = s.pending := by simp [State.sysBcast]
@[simp] theorem State.sysNeighbour_pending (s : State) (p : Nat) (m : SysMsg) : (State.sysNeighbour s p m).pending = s.pending := by simp [State.sysNeighbour]
@[simp] theorem State.advertise_pending (s : State) (p : Nat) : (State.advertise s p).pending = s.pending := by simp [State.advertise]
@[simp] theorem State.advertiseAll_pending (s : State) : (State.advertiseAll s).pending = s.pending := by simp [State.advertiseAll]
@[simp] theorem State.setTlock_pending (s : State) (b : Bool) : (State.setTlock s b).pending = s.pending := by simp [State.setTlock]
@[simp] theorem State.chainRefresh_pending (s : State) : (State.chainRefresh s).pending = s.pending := by simp [State.chainRefresh]
@[simp] theorem State.waleTimeRefresh_pending (s : State) : (State.waleTimeRefresh s).pending = s.pending := by simp [State.waleTimeRefresh]
@[simp] theorem State.treeRefresh_pending (s : State) : (State.treeRefresh s).pending = s.pending := by simp [State.treeRefresh]
@[simp] theorem State.waleSemRelease_pending (s : State) : (State.waleSemRelease s).pending = s.pending := by simp [State.waleSemRelease]
@[simp] theorem State.linkDrop_pending (s : State) (p cause : Nat) : (State.linkDrop s p cause).pending = s.pending := by simp [State.linkDrop]
@[simp] theorem State.walePortsDrop_pending (s : State) : (State.walePortsDrop s).pending = s.pending := by simp [State.walePortsDrop]

/-! Clocks. -/

@[simp] theorem State.commitRwb_pending (s : State) (off : Nat) (cap val : Word) : (State.commitRwb s off cap val).pending = s.pending := by simp [State.commitRwb]
@[simp] theorem State.hubWrite_pending (s : State) (ag : Agent) (v : Word) : (State.hubWrite s ag v).pending = s.pending := by simp [State.hubWrite]
@[simp] theorem State.hubClockSwitch_pending (s : State) : (State.hubClockSwitch s).pending = s.pending := by simp [State.hubClockSwitch]
theorem execClkHubWrite_pending (ag : Agent) (v : Word) (s : State) : ∀ q1, (execClkHubWrite ag v s) = .next q1 → q1.pending = s.pending := by
  rintro q1 ⟨⟩; simp
theorem execHubSynthLock_pending (s : State) : ∀ q1, (execHubSynthLock s) = .next q1 → q1.pending = s.pending := by
  rintro q1 ⟨⟩; simp
@[simp] theorem State.setSynthPhase_pending (s : State) (n : Nat) (p : SynthPhase) : (State.setSynthPhase s n p).pending = s.pending := by simp [State.setSynthPhase]
@[simp] theorem State.illegalSel_pending (s : State) : (State.illegalSel s).pending = s.pending := by simp [State.illegalSel]
@[simp] theorem State.lockRefresh_pending (s : State) (n : Nat) : (State.lockRefresh s n).pending = s.pending := by simp [State.lockRefresh]
@[simp] theorem State.synthMeasure_pending (s : State) (g n : Nat) : (State.synthMeasure s g n).pending = s.pending := by simp [State.synthMeasure]
@[simp] theorem State.synthBegin_pending (s : State) (n : Nat) (c : SynthClass) : (State.synthBegin s n c).pending = s.pending := by unfold State.synthBegin; (repeat' split) <;> simp
@[simp] theorem State.synthPend_pending (s : State) (n : Nat) : (State.synthPend s n).pending = s.pending := by simp [State.synthPend]
@[simp] theorem State.synthApply_pending (s : State) (n : Nat) (vals : List (Nat × Word)) : (State.synthApply s n vals).pending = s.pending := by simp [State.synthApply]
@[simp] theorem State.synthLose_pending (s : State) (n : Nat) : (State.synthLose s n).pending = s.pending := by simp [State.synthLose]
theorem execSynthGlideDone_pending (n : Fin 32) (s : State) : ∀ q1, (execSynthGlideDone n s) = .next q1 → q1.pending = s.pending := by
  rintro q1 ⟨⟩; simp
theorem execSynthDividerDone_pending (n : Fin 32) (s : State) : ∀ q1, (execSynthDividerDone n s) = .next q1 → q1.pending = s.pending := by
  rintro q1 ⟨⟩; simp
theorem execSynthLock_pending (n : Fin 32) (s : State) : ∀ q1, (execSynthLock n s) = .next q1 → q1.pending = s.pending := by
  rintro q1 ⟨⟩; simp
theorem execSynthLossOfLock_pending (n : Fin 32) (s : State) : ∀ q1, (execSynthLossOfLock n s) = .next q1 → q1.pending = s.pending := by
  rintro q1 ⟨⟩; simp
theorem execSynthHoldoverExit_pending (n : Fin 32) (s : State) : ∀ q1, (execSynthHoldoverExit n s) = .next q1 → q1.pending = s.pending := by
  rintro q1 ⟨⟩; simp
@[simp] theorem State.tclkHoldover_pending (s : State) : (State.tclkHoldover s).pending = s.pending := by simp [State.tclkHoldover]
theorem execRefinLost_pending (s : State) : ∀ q1, (execRefinLost s) = .next q1 → q1.pending = s.pending := by
  rintro q1 ⟨⟩; simp
theorem execRefinRestored_pending (s : State) : ∀ q1, (execRefinRestored s) = .next q1 → q1.pending = s.pending := by
  rintro q1 ⟨⟩; simp
theorem execXrefLost_pending (s : State) : ∀ q1, (execXrefLost s) = .next q1 → q1.pending = s.pending := by
  rintro q1 ⟨⟩; simp
theorem execXrefRestored_pending (s : State) : ∀ q1, (execXrefRestored s) = .next q1 → q1.pending = s.pending := by
  rintro q1 ⟨⟩; simp
@[simp] theorem State.setSwitching_pending (s : State) (k v : Nat) : (State.setSwitching s k v).pending = s.pending := by simp [State.setSwitching]
@[simp] theorem State.netChange_pending (s : State) (k old new : Nat) : (State.netChange s k old new).pending = s.pending := by simp [State.netChange]
@[simp] theorem State.selectWrite_pending (s : State) (off : Nat) (legal : Bool) (v : Word) : (State.selectWrite s off legal v).pending = s.pending := by simp [State.selectWrite]
@[simp] theorem State.rimApply_pending (s : State) (k j : Nat) (vals : List (Nat × Word)) : (State.rimApply s k j vals).pending = s.pending := by unfold State.rimApply; (repeat' split) <;> simp
@[simp] theorem State.vselApply_pending (s : State) (w j : Nat) (vals : List (Nat × Word)) : (State.vselApply s w j vals).pending = s.pending := by unfold State.vselApply; (repeat' split) <;> simp
theorem execRimSelectWrite_pending (ag : Agent) (reg : RimReg) (v : Word) (s : State) : ∀ q1, (execRimSelectWrite ag reg v s) = .next q1 → q1.pending = s.pending := by
  intro q1 h
  cases reg <;> (cases h; simp)
theorem execGlitchFreeSwitchDone_pending (net : ClockNet) (s : State) : ∀ q1, (execGlitchFreeSwitchDone net s) = .next q1 → q1.pending = s.pending := by
  rintro q1 ⟨⟩; simp
theorem execGlitchFreeSwitchForced_pending (net : ClockNet) (s : State) : ∀ q1, (execGlitchFreeSwitchForced net s) = .next q1 → q1.pending = s.pending := by
  rintro q1 ⟨⟩; simp
@[simp] theorem State.setFmRun_pending (s : State) (m v : Nat) : (State.setFmRun s m v).pending = s.pending := by simp [State.setFmRun]
@[simp] theorem State.fmTick_pending (s : State) (m : Nat) : (State.fmTick s m).pending = s.pending := by simp [State.fmTick]
@[simp] theorem State.fmWrite_pending (s : State) (m : Nat) (v : Word) : (State.fmWrite s m v).pending = s.pending := by simp [State.fmWrite]
theorem execFmSourceWrite_pending (ag : Agent) (m : Fin 16) (v : Word) (s : State) : ∀ q1, (execFmSourceWrite ag m v s) = .next q1 → q1.pending = s.pending := by
  rintro q1 ⟨⟩; simp
theorem execFmWindowEnd_pending (m : Fin 16) (count : Word) (s : State) : ∀ q1, (execFmWindowEnd m count s) = .next q1 → q1.pending = s.pending := by
  intro q1 h; unfold execFmWindowEnd at h; dsimp only at h; (repeat' split at h) <;> first | (cases h; simp) | (cases h; (repeat' split) <;> simp_all)
@[simp] theorem State.clkWrite_pending (s : State) (ag : Agent) (off : Nat) (v : Word) : (State.clkWrite s ag off v).pending = s.pending := by simp [State.clkWrite]

/-! Planes. -/

@[simp] theorem State.setFrame_pending (s : State) (latch key : Nat) (f : BitVec 10240) : (State.setFrame s latch key f).pending = s.pending := by simp [State.setFrame]
@[simp] theorem State.setChk_pending (s : State) (latch key : Nat) (w : Word) : (State.setChk s latch key w).pending = s.pending := by simp [State.setChk]
@[simp] theorem State.setDyn_pending (s : State) (latch key : Nat) (b : Bool) : (State.setDyn s latch key b).pending = s.pending := by simp [State.setDyn]
@[simp] theorem State.putFrame_pending (s : State) (latch key : Nat) (f : BitVec 10240) (dyn : Bool) : (State.putFrame s latch key f dyn).pending = s.pending := by simp [State.putFrame]
@[simp] theorem State.clearLatch_pending (s : State) (u latch : Nat) : (State.clearLatch s u latch).pending = s.pending := by simp [State.clearLatch]
@[simp] theorem State.clearPlanes_pending (s : State) : (State.clearPlanes s).pending = s.pending := by simp [State.clearPlanes]
@[simp] theorem State.flipUnit_pending (s : State) (u : Nat) : (State.flipUnit s u).pending = s.pending := by simp [State.flipUnit]
@[simp] theorem State.setShState_pending (s : State) (u v : Nat) : (State.setShState s u v).pending = s.pending := by simp [State.setShState]
@[simp] theorem State.setBport_pending (s : State) (k : Nat) (v : BPort) : (State.setBport s k v).pending = s.pending := by simp [State.setBport]
@[simp] theorem State.bportHold_pending (s : State) (k : Nat) : (State.bportHold s k).pending = s.pending := by unfold State.bportHold; (repeat' split) <;> simp
@[simp] theorem State.bportsHold_pending (s : State) (sel : Nat → Bool) : (State.bportsHold s sel).pending = s.pending := by
  unfold State.bportsHold
  apply foldl_pending
  intro t n
  split
  · split
    · exact State.bportHold_pending _ _
    · rfl
  · rfl
@[simp] theorem State.setBond_pending (s : State) (u : Nat) (hold : Bool) : (State.setBond s u hold).pending = s.pending := by simp [State.setBond]
@[simp] theorem State.setInit_pending (s : State) (bay : Nat) (hold : Bool) : (State.setInit s bay hold).pending = s.pending := by simp [State.setInit]
@[simp] theorem State.setOut_pending (s : State) (k : Nat) (on : Bool) : (State.setOut s k on).pending = s.pending := by simp [State.setOut]
@[simp] theorem State.setArrayWord_pending (s : State) (a w : Nat) (v : BitVec 36) : (State.setArrayWord s a w v).pending = s.pending := by simp [State.setArrayWord]
@[simp] theorem State.setCreelWord_pending (s : State) (n w : Nat) (v : BitVec 36) : (State.setCreelWord s n w v).pending = s.pending := by simp [State.setCreelWord]
@[simp] theorem State.clearArray_pending (s : State) (a : Nat) : (State.clearArray s a).pending = s.pending := by simp [State.clearArray]
@[simp] theorem State.copyArray_pending (s : State) (src dst : Nat) : (State.copyArray s src dst).pending = s.pending := by simp [State.copyArray]
@[simp] theorem State.putContent_pending (s : State) (p : Word) (f : BitVec 10240) : (State.putContent s p f).pending = s.pending := by simp [State.putContent]
@[simp] theorem State.staleReport_pending (s : State) : (State.staleReport s).pending = s.pending := by simp [State.staleReport]
@[simp] theorem State.makeStale_pending (s : State) (n : Nat) : (State.makeStale s n).pending = s.pending := by simp [State.makeStale]
@[simp] theorem State.staleOff_pending (s : State) (n : Nat) : (State.staleOff s n).pending = s.pending := by simp [State.staleOff]
@[simp] theorem State.staleClear_pending (s : State) (n : Nat) : (State.staleClear s n).pending = s.pending := by simp [State.staleClear]

/-! Cadence. -/

@[simp] theorem State.cadErr_pending (s : State) (i : Nat) : (State.cadErr s i).pending = s.pending := by simp [State.cadErr]
@[simp] theorem State.adjDone_pending (s : State) : (State.adjDone s).pending = s.pending := by simp [State.adjDone]
@[simp] theorem State.ppsInstant_pending (s : State) : (State.ppsInstant s).pending = s.pending := by simp [State.ppsInstant]
@[simp] theorem State.tclkEdge_pending (s : State) : (State.tclkEdge s).pending = s.pending := by simp [State.tclkEdge]
@[simp] theorem State.setGen_pending (s : State) (g : Nat) (v : Gen) : (State.setGen s g v).pending = s.pending := by simp [State.setGen]
@[simp] theorem State.genApply_pending (s : State) (g : Nat) (b : Instant) (vals : List (Nat × Word)) : (State.genApply s g b vals).pending = s.pending := by simp [State.genApply]
@[simp] theorem State.setMb_pending (s : State) (i : Nat) (v : Option Instant) : (State.setMb s i v).pending = s.pending := by simp [State.setMb]
@[simp] theorem State.mbTake_pending (s : State) (i : Nat) (x : Instant) (x0 : FireResult) : (State.mbTake s i x x0).pending = s.pending := by
  cases x0 with
  | posted => unfold State.mbTake; dsimp only; split <;> simp
  | late => exact State.cadErr_pending _ _
  | busy => exact State.cadErr_pending _ _
@[simp] theorem State.mbPost_pending (s : State) (i : Nat) (x : Instant) : (State.mbPost s i x).pending = s.pending := by simp [State.mbPost]
@[simp] theorem State.mbSkip_pending (s : State) (i : Nat) (new : Instant) : (State.mbSkip s i new).pending = s.pending := by unfold State.mbSkip; (repeat' split) <;> simp
@[simp] theorem State.tbStep_pending (s : State) (off : Int) : (State.tbStep s off).pending = s.pending := by simp [State.tbStep]
@[simp] theorem State.adjStep_pending (s : State) : (State.adjStep s).pending = s.pending := by simp [State.adjStep]
@[simp] theorem State.adjSlew_pending (s : State) : (State.adjSlew s).pending = s.pending := by simp [State.adjSlew]
@[simp] theorem State.adjWrite_pending (s : State) (v : Word) : (State.adjWrite s v).pending = s.pending := by simp [State.adjWrite]
theorem execAdjStep_pending (ag : Agent) (s : State) : ∀ q1, (execAdjStep ag s) = .next q1 → q1.pending = s.pending := by
  rintro q1 ⟨⟩; simp
theorem execAdjSlew_pending (ag : Agent) (s : State) : ∀ q1, (execAdjSlew ag s) = .next q1 → q1.pending = s.pending := by
  rintro q1 ⟨⟩; simp
theorem execSlewDone_pending (s : State) : ∀ q1, (execSlewDone s) = .next q1 → q1.pending = s.pending := by
  rintro q1 ⟨⟩; simp
theorem execSyncCapture_pending (x : Fin 3) (falling : Bool) (s : State) : ∀ q1, (execSyncCapture x falling s) = .next q1 → q1.pending = s.pending := by
  intro q1 h; unfold execSyncCapture at h; dsimp only at h; (repeat' split at h) <;> first | (cases h; simp) | (cases h; (repeat' split) <;> simp_all)
@[simp] theorem State.setSnap_pending (s : State) (off : Nat) (v : Word) : (State.setSnap s off v).pending = s.pending := by simp [State.setSnap]
@[simp] theorem State.captureRead_pending (s : State) (x : Nat) : (State.captureRead s x).2.pending = s.pending := by simp [State.captureRead]
theorem execCaptureRead_pending (ag : Agent) (x : Fin 3) (s : State) : ∀ q1, (execCaptureRead ag x s) = .next q1 → q1.pending = s.pending := by
  rintro q1 ⟨⟩; simp
theorem execPpsInLost_pending (s : State) : ∀ q1, (execPpsInLost s) = .next q1 → q1.pending = s.pending := by
  rintro q1 ⟨⟩; simp
theorem execPpsOutPulse_pending (s : State) : ∀ q1, (execPpsOutPulse s) = .next q1 → q1.pending = s.pending := by
  rintro q1 ⟨⟩; simp
theorem execPpsOutPulseEnd_pending (s : State) : ∀ q1, (execPpsOutPulseEnd s) = .next q1 → q1.pending = s.pending := by
  rintro q1 ⟨⟩; simp
@[simp] theorem State.wideTick_pending (s : State) (off : Nat) : (State.wideTick s off).pending = s.pending := by simp [State.wideTick]
@[simp] theorem State.snapRead_pending (s0 : State) (off : Nat) : (State.snapRead s0 off).2.pending = s0.pending := by unfold State.snapRead; (repeat' split) <;> simp
theorem execSnapshotRead_pending (ag : Agent) (off : Nat) (s : State) : ∀ q1, (execSnapshotRead ag off s) = .next q1 → q1.pending = s.pending := by
  rintro q1 ⟨⟩; simp
@[simp] theorem State.setTap_pending (s : State) (i : Nat) (v : Option Instant) : (State.setTap s i v).pending = s.pending := by simp [State.setTap]
@[simp] theorem State.tapSchedule_pending (s : State) (i g : Nat) (t : Instant) : (State.tapSchedule s i g t).pending = s.pending := by simp [State.tapSchedule]
@[simp] theorem State.fbrApply_pending (s : State) (n : Nat) (vals : List (Nat × Word)) : (State.fbrApply s n vals).pending = s.pending := by unfold State.fbrApply; dsimp only; repeat' first | (simp; done) | split
@[simp] theorem State.fbrPresent_pending (s t : State) (n : Nat) (vals : List (Nat × Word)) : (State.fbrPresent s t n vals).pending = t.pending := by unfold State.fbrPresent; dsimp only; repeat' first | (simp; done) | split
@[simp] theorem State.fbrsApply_pending (s : State) (vals : List (Nat × Word)) : (State.fbrsApply s vals).pending = s.pending := by simp [State.fbrsApply]
@[simp] theorem State.cadWrite_pending (s : State) (off : Nat) (v : Word) : (State.cadWrite s off v).pending = s.pending := by simp [State.cadWrite]

/-! FlashDie. -/

@[simp] theorem State.withFlash_pending (s : State) (f : FlashState) : (State.withFlash s f).pending = s.pending := by simp [State.withFlash]
@[simp] theorem State.halfReport_pending (s : State) : (State.halfReport s).pending = s.pending := by unfold State.halfReport; (repeat' split) <;> simp
@[simp] theorem State.ledgerLost_pending (s : State) : (State.ledgerLost s).pending = s.pending := by simp [State.ledgerLost]
@[simp] theorem State.ledgerUse_pending (s : State) (f : FlashState) (h blank free seq : Nat) : (State.ledgerUse s f h blank free seq).pending = s.pending := by simp [State.ledgerUse]
@[simp] theorem State.ledgerTake_pending (s : State) (h : Nat) : (State.ledgerTake s h).pending = s.pending := by rw [State.ledgerTake, State.ledgerUse_pending]
@[simp] theorem State.ledgerBuild_pending (s : State) : (State.ledgerBuild s).pending = s.pending := by
  unfold State.ledgerBuild
  split
  · exact State.ledgerLost_pending s
  · exact State.ledgerTake_pending s _
@[simp] theorem State.logProgram_pending (s : State) (w : BitVec 64) : (State.logProgram s w).pending = s.pending := by simp [State.logProgram]
@[simp] theorem State.logSpoil_pending (s : State) : (State.logSpoil s).pending = s.pending := by simp [State.logSpoil]
@[simp] theorem State.compact_pending (s : State) : (State.compact s).pending = s.pending := by simp [State.compact]

/-! Journal. -/

@[simp] theorem State.flashRefuse_pending (s : State) (ag : Agent) (off code : Nat) : (State.flashRefuse s ag off code).pending = s.pending := by simp [State.flashRefuse]
theorem State.journalPut_pending (s : State) (r : Nat) : ∀ q1, (State.journalPut s r) = some q1 → q1.pending = s.pending := by
  intro q1 h
  simp only [State.journalPut] at h
  (repeat' split at h) <;> simp_all <;> (try (subst h; simp))
@[simp] theorem State.journalWriteAll_pending (s : State) (x0 : List Nat) : (State.journalWriteAll s x0).pending = s.pending := by
  induction x0 generalizing s with
  | nil => rfl
  | cons a l ih =>
    unfold State.journalWriteAll
    split
    · rename_i h
      rw [ih, State.journalPut_pending _ _ _ h]
    · rfl
@[simp] theorem State.journalFlush_pending (s : State) : (State.journalFlush s).pending = s.pending := by simp [State.journalFlush]
@[simp] theorem State.journal_pending (s : State) (step outcome code src addr arg : Nat) : (State.journal s step outcome code src addr arg).pending = s.pending := by simp [State.journal]
@[simp] theorem State.eraseTest_pending (s : State) : (State.eraseTest s).pending = s.pending := by simp [State.eraseTest]
@[simp] theorem State.stagingMode_pending (s : State) : (State.stagingMode s).pending = s.pending := by simp [State.stagingMode]

/-! Flash. -/

@[simp] theorem State.flashStart_pending (s : State) (op : FlashOp) : (State.flashStart s op).pending = s.pending := by simp [State.flashStart]
@[simp] theorem State.flashEnd_pending (s : State) : (State.flashEnd s).pending = s.pending := by simp [State.flashEnd]
@[simp] theorem State.lastOp_pending (s : State) (op : FlashOp) (pulses : Nat) (failed : Bool) : (State.lastOp s op pulses failed).pending = s.pending := by simp [State.lastOp]
@[simp] theorem State.wearReport_pending (s : State) (op : FlashOp) (pulses : Nat) : (State.wearReport s op pulses).pending = s.pending := by simp [State.wearReport]
@[simp] theorem State.badEntry_pending (s : State) (op : FlashOp) (e : SecEntry) : (State.badEntry s op e).pending = s.pending := by simp [State.badEntry]
@[simp] theorem State.markBad_pending (s : State) (op : FlashOp) : (State.markBad s op).pending = s.pending := by simp [State.markBad]
@[simp] theorem State.failOp_pending (s : State) (op : FlashOp) : (State.failOp s op).pending = s.pending := by simp [State.failOp]
@[simp] theorem State.flashAbandon_pending (s : State) : (State.flashAbandon s).pending = s.pending := by unfold State.flashAbandon; (repeat' split) <;> simp
@[simp] theorem State.flashSuspend_pending (s : State) (eng : Bool) : (State.flashSuspend s eng).pending = s.pending := by simp [State.flashSuspend]
@[simp] theorem State.flashResume_pending (s : State) (eng : Bool) : (State.flashResume s eng).pending = s.pending := by simp [State.flashResume]
theorem execFlashSuspendEffect_pending (s : State) : ∀ q1, (execFlashSuspendEffect s) = .next q1 → q1.pending = s.pending := by
  intro q1 h; unfold execFlashSuspendEffect at h; dsimp only at h; (repeat' split at h) <;> first | (cases h; simp) | (cases h; (repeat' split) <;> simp_all)
@[simp] theorem State.startProgram_pending (s : State) (ag : Agent) (off : Nat) (line : Bool) (addr : Nat) (words : List (BitVec 64)) : (State.startProgram s ag off line addr words).pending = s.pending := by unfold State.startProgram; (repeat' split) <;> simp
@[simp] theorem State.startErase_pending (s : State) (ag : Agent) (off sec : Nat) : (State.startErase s ag off sec).pending = s.pending := by simp [State.startErase]
@[simp] theorem State.setSeq_pending (s : State) (q : FlashSeq) : (State.setSeq s q).pending = s.pending := by simp [State.setSeq]
@[simp] theorem State.seqErr_pending (s : State) (ag : Agent) (off : Nat) : (State.seqErr s ag off).pending = s.pending := by simp [State.seqErr]
@[simp] theorem State.unlockedCycle_pending (s : State) (ag : Agent) (off code : Nat) : (State.unlockedCycle s ag off code).pending = s.pending := by unfold State.unlockedCycle; (repeat' split) <;> simp
@[simp] theorem State.idleCycle_pending (s : State) (ag : Agent) (off code : Nat) : (State.idleCycle s ag off code).pending = s.pending := by simp [State.idleCycle]
@[simp] theorem State.dataCycle_pending (s : State) (ag : Agent) (off : Nat) (wide : Bool) (v : BitVec 64) (line : Bool) (addr : Nat) (words : List (BitVec 64)) (half : Option Word) : (State.dataCycle s ag off wide v line addr words half).pending = s.pending := by unfold State.dataCycle; (repeat' split) <;> simp
@[simp] theorem State.flashCycle_pending (s : State) (ag : Agent) (off : Nat) (wide : Bool) (v : BitVec 64) : (State.flashCycle s ag off wide v).pending = s.pending := by unfold State.flashCycle; (repeat' split) <;> simp
theorem execFlashUnlockFirst_pending (ag : Agent) (off : Nat) (s : State) : ∀ q1, (execFlashUnlockFirst ag off s) = .next q1 → q1.pending = s.pending := by
  rintro q1 ⟨⟩; simp
theorem execFlashUnlockSecond_pending (ag : Agent) (off : Nat) (s : State) : ∀ q1, (execFlashUnlockSecond ag off s) = .next q1 → q1.pending = s.pending := by
  rintro q1 ⟨⟩; simp
theorem execFlashProgramWordCmd_pending (ag : Agent) (off : Nat) (s : State) : ∀ q1, (execFlashProgramWordCmd ag off s) = .next q1 → q1.pending = s.pending := by
  rintro q1 ⟨⟩; simp
theorem execFlashProgramLineCmd_pending (ag : Agent) (off : Nat) (s : State) : ∀ q1, (execFlashProgramLineCmd ag off s) = .next q1 → q1.pending = s.pending := by
  rintro q1 ⟨⟩; simp
theorem execFlashDataCycle_pending (ag : Agent) (off : Nat) (wide : Bool) (v : BitVec 64) (s : State) : ∀ q1, (execFlashDataCycle ag off wide v s) = .next q1 → q1.pending = s.pending := by
  rintro q1 ⟨⟩; simp
theorem execFlashEraseSetup_pending (ag : Agent) (off : Nat) (s : State) : ∀ q1, (execFlashEraseSetup ag off s) = .next q1 → q1.pending = s.pending := by
  rintro q1 ⟨⟩; simp
theorem execFlashEraseConfirm_pending (ag : Agent) (off : Nat) (s : State) : ∀ q1, (execFlashEraseConfirm ag off s) = .next q1 → q1.pending = s.pending := by
  rintro q1 ⟨⟩; simp
theorem execFlashSuspendCmd_pending (ag : Agent) (off : Nat) (s : State) : ∀ q1, (execFlashSuspendCmd ag off s) = .next q1 → q1.pending = s.pending := by
  rintro q1 ⟨⟩; simp
theorem execFlashResumeCmd_pending (ag : Agent) (off : Nat) (s : State) : ∀ q1, (execFlashResumeCmd ag off s) = .next q1 → q1.pending = s.pending := by
  rintro q1 ⟨⟩; simp
theorem execFlashReadStatusCmd_pending (ag : Agent) (off : Nat) (s : State) : ∀ q1, (execFlashReadStatusCmd ag off s) = .next q1 → q1.pending = s.pending := by
  rintro q1 ⟨⟩; simp
theorem execFlashInfoEntryCmd_pending (ag : Agent) (off : Nat) (s : State) : ∀ q1, (execFlashInfoEntryCmd ag off s) = .next q1 → q1.pending = s.pending := by
  rintro q1 ⟨⟩; simp
theorem execFlashReturnToRead_pending (ag : Agent) (off : Nat) (s : State) : ∀ q1, (execFlashReturnToRead ag off s) = .next q1 → q1.pending = s.pending := by
  rintro q1 ⟨⟩; simp
theorem execFlashProgramDone_pending (pulses : Nat) (pass : Bool) (s : State) : ∀ q1, (execFlashProgramDone pulses pass s) = .next q1 → q1.pending = s.pending := by
  intro q1 h; unfold execFlashProgramDone at h; dsimp only at h; (repeat' split at h) <;> first | (cases h; simp) | (cases h; (repeat' split) <;> simp_all)
@[simp] theorem State.spoilLogs_pending (s : State) (x0 : Nat) : (State.spoilLogs s x0).pending = s.pending := by
  induction x0 generalizing s with
  | zero => simp [State.spoilLogs]
  | succ n ih => simp [State.spoilLogs, ih]
@[simp] theorem State.ledgerFail_pending (s : State) : (State.ledgerFail s).pending = s.pending := by simp [State.ledgerFail]
theorem execFlashIntentRecorded_pending (fails : Fin 9) (s : State) : ∀ q1, (execFlashIntentRecorded fails s) = .next q1 → q1.pending = s.pending := by
  intro q1 h; unfold execFlashIntentRecorded at h; dsimp only at h; (repeat' split at h) <;> first | (cases h; simp) | (cases h; (repeat' split) <;> simp_all)
@[simp] theorem State.opStage_pending (s : State) (op : FlashOp) (st : FlashStage) : (State.opStage s op st).pending = s.pending := by simp [State.opStage]
theorem execFlashCompactionDone_pending (s : State) : ∀ q1, (execFlashCompactionDone s) = .next q1 → q1.pending = s.pending := by
  intro q1 hq
  unfold execFlashCompactionDone at hq
  split at hq
  · split at hq
    · injection hq with hq; rw [← hq]
    split at hq
    · replace hq := Host.Outcome.next.inj hq
      rw [← hq, State.opStage_pending, State.compact_pending]
    · replace hq := Host.Outcome.next.inj hq
      rw [← hq, State.markBad_pending, State.compact_pending]
    · injection hq with hq; rw [← hq]
  · injection hq with hq; rw [← hq]
@[simp] theorem State.logComplete_pending (s : State) (op : FlashOp) (pulses : Nat) : (State.logComplete s op pulses).pending = s.pending := by simp [State.logComplete]
theorem execFlashEraseDone_pending (pulses : Nat) (pass : Bool) (s : State) : ∀ q1, (execFlashEraseDone pulses pass s) = .next q1 → q1.pending = s.pending := by
  intro q1 h; unfold execFlashEraseDone at h; dsimp only at h; (repeat' split at h) <;> first | (cases h; simp) | (cases h; (repeat' split) <;> simp_all)
@[simp] theorem State.busyRead_pending (s : State) : (State.busyRead s).pending = s.pending := by simp [State.busyRead]
@[simp] theorem State.flashRead_pending (s : State) (ag : Agent) (off : Nat) : (State.flashRead s ag off).2.pending = s.pending := by unfold State.flashRead; dsimp only; repeat' first | (simp; done) | split
theorem execFlashHostReadBusy_pending (ag : Agent) (off : Nat) (s : State) : ∀ q1, (execFlashHostReadBusy ag off s) = .next q1 → q1.pending = s.pending := by
  intro q1 h
  have e := State.flashRead_pending s ag off
  unfold execFlashHostReadBusy at h
  split at h <;> (rename_i hr; rw [hr] at e; cases h; simpa using e)
theorem execFlashStalledReadDone_pending (ag : Agent) (off : Nat) (s : State) : ∀ q1, (execFlashStalledReadDone ag off s) = .next q1 → q1.pending = s.pending := by
  intro q1 h
  have e := State.flashRead_pending s ag off
  unfold execFlashStalledReadDone at h
  split at h <;> (rename_i hr; rw [hr] at e; cases h; simpa using e)

/-! Keys. -/

@[simp] theorem State.blow_pending (s : State) (fs : List FuseRef) : (State.blow s fs).pending = s.pending := by simp [State.blow]
@[simp] theorem State.lcRefresh_pending (s : State) : (State.lcRefresh s).pending = s.pending := by simp [State.lcRefresh]
@[simp] theorem State.lcDecode_pending (s : State) (agree : Bool) : (State.lcDecode s agree).pending = s.pending := by simp [State.lcDecode]
@[simp] theorem State.keyClear_pending (s : State) : (State.keyClear s).pending = s.pending := by simp [State.keyClear]
@[simp] theorem State.keyLoad_pending (s : State) : (State.keyLoad s).pending = s.pending := by simp [State.keyLoad]
@[simp] theorem State.zeroiseKey_pending (s : State) (cause : Nat) : (State.zeroiseKey s cause).pending = s.pending := by simp [State.zeroiseKey]
@[simp] theorem State.lcResult_pending (s : State) (jtag : Bool) (code : Nat) : (State.lcResult s jtag code).pending = s.pending := by simp [State.lcResult]
@[simp] theorem State.debugOpen_pending (s : State) (scope : Nat) : (State.debugOpen s scope).pending = s.pending := by simp [State.debugOpen]
@[simp] theorem State.debugEnd_pending (s : State) : (State.debugEnd s).pending = s.pending := by simp [State.debugEnd]

/-! Fabric. -/

@[simp] theorem State.setTileBit_pending (s : State) (bay l r b : Nat) (v : Bool) : (State.setTileBit s bay l r b v).pending = s.pending := by simp [State.setTileBit]
@[simp] theorem State.setFf_pending (s : State) (i : Nat) (v : Bool) : (State.setFf s i v).pending = s.pending := by simp [State.setFf]
@[simp] theorem State.initLoad_pending (s : State) (bay : Nat) : (State.initLoad s bay).pending = s.pending := by
  unfold State.initLoad
  dsimp only
  rw [foldl_pending]
  intro t l
  rw [foldl_pending]
  intro t r
  rw [foldl_pending]
  intro t c
  simp
@[simp] theorem State.tileEdge_pending (s t : State) (bay l r net : Nat) (rising : Bool) (w : FabricPins) : (State.tileEdge s t bay l r net rising w).pending = t.pending := by simp [State.tileEdge]
@[simp] theorem State.cellsEdge_pending (s t : State) (bay net : Nat) (rising : Bool) (w : FabricPins) : (State.cellsEdge s t bay net rising w).pending = t.pending := by simp [State.cellsEdge]
@[simp] theorem State.asyncBay_pending (s t : State) (bay : Nat) (w : FabricPins) : (s.asyncBay t bay w).pending = t.pending := by
  unfold State.asyncBay
  split
  · rfl
  · apply foldl_pending
    intro t l
    apply foldl_pending
    intro t r
    apply foldl_pending
    intro t k
    dsimp only
    split
    · apply foldl_pending
      intro t i
      simp
    · rfl
@[simp] theorem State.setBridge_pending (s : State) (i : Nat) (v : Word) : (State.setBridge s i v).pending = s.pending := by simp [State.setBridge]
@[simp] theorem State.groupEdge_pending (s t : State) (bay net dir band row g : Nat) (w : FabricPins) : (State.groupEdge s t bay net dir band row g w).pending = t.pending := by simp [State.groupEdge]
@[simp] theorem State.bridgesEdge_pending (s t : State) (bay net : Nat) (w : FabricPins) : (State.bridgesEdge s t bay net w).pending = t.pending := by simp [State.bridgesEdge]
@[simp] theorem State.setGate_pending (s : State) (bay net : Nat) (shut : Bool) : (State.setGate s bay net shut).pending = s.pending := by simp [State.setGate]

/-! Creels. -/

@[simp] theorem State.setCreel_pending (s : State) (n : Nat) (c : CreelSt) : (State.setCreel s n c).pending = s.pending := by simp [State.setCreel]
@[simp] theorem State.setCreelBit_pending (s : State) (n nm : Nat) (v : Bool) : (State.setCreelBit s n nm v).pending = s.pending := by simp [State.setCreelBit]
@[simp] theorem State.applyWrites_pending (s : State) (n : Nat) (ws : List (Nat × Bool)) : (State.applyWrites s n ws).pending = s.pending := by simp [State.applyWrites]
@[simp] theorem State.portsEdge_pending (s : State) (n : Nat) (c : CreelCfg) (fa fb : Bool) (p : CreelPins) : (State.portsEdge s n c fa fb p).pending = s.pending := by simp [State.portsEdge]
@[simp] theorem State.fifoEdge_pending (s : State) (n : Nat) (c : CreelCfg) (fw fr : Bool) (p : CreelPins) : (State.fifoEdge s n c fw fr p).pending = s.pending := by simp [State.fifoEdge]
@[simp] theorem State.creelEdge_pending (s : State) (n net : Nat) (rising : Bool) (p : CreelPins) : (State.creelEdge s n net rising p).pending = s.pending := by simp [State.creelEdge]
@[simp] theorem State.creelsEdge_pending (s : State) (bay net : Nat) (rising : Bool) (p : EdgePins) : (State.creelsEdge s bay net rising p).pending = s.pending := by simp [State.creelsEdge]
@[simp] theorem State.fifoReset_pending (s : State) (bay : Nat) (p : EdgePins) : (State.fifoReset s bay p).pending = s.pending := by simp [State.fifoReset]
@[simp] theorem State.creelLoad_pending (s : State) (bay : Nat) : (State.creelLoad s bay).pending = s.pending := by simp [State.creelLoad]
theorem execCreelScrubStep_pending (n : Fin 11520) (s : State) : ∀ q1, (execCreelScrubStep n s) = .next q1 → q1.pending = s.pending := by
  intro q1 h; unfold execCreelScrubStep at h; dsimp only at h; (repeat' split at h) <;> first | (cases h; simp) | (cases h; (repeat' split) <;> simp_all)
theorem execCreelScrubWriteBack_pending (n : Fin 11520) (s : State) : ∀ q1, (execCreelScrubWriteBack n s) = .next q1 → q1.pending = s.pending := by
  intro q1 h
  unfold execCreelScrubWriteBack at h
  split at h
  · cases h; rfl
  cases hs : (s.creel n.val).scrubWrite with
  | none => rw [hs] at h; cases h; rfl
  | some e =>
    rw [hs] at h
    injection h with h
    rw [← h, State.setCreel_pending, State.applyWrites_pending]

/-! Slices. -/

@[simp] theorem State.setSlice_pending (s : State) (n : Nat) (v : SliceSt) : (State.setSlice s n v).pending = s.pending := by simp [State.setSlice]
@[simp] theorem State.sliceColumnEdge_pending (s : State) (base net : Nat) (rising : Bool) (pins : Nat → SlicePins) : (State.sliceColumnEdge s base net rising pins).pending = s.pending := by simp [State.sliceColumnEdge]
@[simp] theorem State.slicesEdge_pending (s : State) (bay net : Nat) (rising : Bool) (p : EdgePins) : (State.slicesEdge s bay net rising p).pending = s.pending := by simp [State.slicesEdge]
@[simp] theorem State.sliceLoad_pending (s : State) (bay : Nat) : (State.sliceLoad s bay).pending = s.pending := by simp [State.sliceLoad]

/-! Modes. -/

@[simp] theorem State.setBoot_pending (s : State) (b : BootSt) : (State.setBoot s b).pending = s.pending := by simp [State.setBoot]
@[simp] theorem State.enterMode_pending (s : State) (m : Nat) : (State.enterMode s m).pending = s.pending := by simp [State.enterMode]
@[simp] theorem State.setRail_pending (s : State) (r : Nat) (on : Bool) : (State.setRail s r on).pending = s.pending := by simp [State.setRail]
@[simp] theorem State.setRails_pending (s : State) (rs : List Nat) (on : Bool) : (State.setRails s rs on).pending = s.pending := by simp [State.setRails]
@[simp] theorem State.setLevels_pending (s : State) (a b : Nat) : (State.setLevels s a b).pending = s.pending := by simp [State.setLevels]
@[simp] theorem State.driveDone_pending (s : State) (low : Bool) : (State.driveDone s low).pending = s.pending := by simp [State.driveDone]
@[simp] theorem State.fabricZero_pending (s : State) : (State.fabricZero s).pending = s.pending := by simp [State.fabricZero]
@[simp] theorem State.holdDevice_pending (s : State) : (State.holdDevice s).pending = s.pending := by simp [State.holdDevice]
@[simp] theorem State.clearShadows_pending (s : State) : (State.clearShadows s).pending = s.pending := by simp [State.clearShadows]
@[simp] theorem State.clearConfig_pending (s : State) : (State.clearConfig s).pending = s.pending := by simp [State.clearConfig]
@[simp] theorem State.clearGroups_pending (s : State) : (State.clearGroups s).pending = s.pending := by simp [State.clearGroups]
@[simp] theorem State.stageRefresh_pending (s : State) : (State.stageRefresh s).pending = s.pending := by simp [State.stageRefresh]
@[simp] theorem State.busDrop_pending (s : State) (c : Nat) : (State.busDrop s c).pending = s.pending := by simp [State.busDrop]
@[simp] theorem State.coreReset_pending (s : State) (c : Nat) : (State.coreReset s c).pending = s.pending := by simp [State.coreReset]
@[simp] theorem State.clusterHold_pending (s : State) : (State.clusterHold s).pending = s.pending := by simp [State.clusterHold]
@[simp] theorem State.safeHold_pending (s : State) (cause : Nat) : (State.safeHold s cause).pending = s.pending := by simp [State.safeHold]
@[simp] theorem State.prioDefer_pending (s : State) (outcome : Nat) : (State.prioDefer s outcome).pending = s.pending := by simp [State.prioDefer]
@[simp] theorem State.feed_pending (s : State) (at_ words : Nat) : (State.feed s at_ words).pending = s.pending := by simp [State.feed]
@[simp] theorem State.xspiStart_pending (s : State) (e : BootImage) : (State.xspiStart s e).pending = s.pending := by simp [State.xspiStart]
@[simp] theorem State.attemptReads_pending (s : State) (image : Nat) (prio : Bool) : (State.attemptReads s image prio).pending = s.pending := by unfold State.attemptReads; dsimp only; repeat' first | (simp; done) | split
@[simp] theorem State.nextAttempt_pending (s : State) : (State.nextAttempt s).pending = s.pending := by unfold State.nextAttempt; (repeat' split) <;> simp
@[simp] theorem State.failAttempt_pending (s : State) (code : Nat) (place : Word) : (State.failAttempt s code place).pending = s.pending := by simp [State.failAttempt]

/-! Hamper. -/

@[simp] theorem State.setHamp_pending (s : State) (h : HampSt) : (State.setHamp s h).pending = s.pending := by simp [State.setHamp]
@[simp] theorem State.hampScramble_pending (s : State) : (State.hampScramble s).pending = s.pending := by simp [State.hampScramble]
@[simp] theorem State.hampStore_pending (s : State) (a : Nat) (x0 : List Byte) : (State.hampStore s a x0).pending = s.pending := by
  induction x0 generalizing s a with
  | nil => simp [State.hampStore]
  | cons a l ih => simp [State.hampStore, ih]
@[simp] theorem State.hampReport_pending (s : State) (agent a : Nat) (write : Bool) (sev : Nat) : (State.hampReport s agent a write sev).2.pending = s.pending := by unfold State.hampReport; (repeat' split) <;> simp
@[simp] theorem State.setHampPort_pending (s : State) (n : Nat) (p : HampPortSt) : (State.setHampPort s n p).pending = s.pending := by simp [State.setHampPort]
@[simp] theorem State.hampEdge_pending (s : State) (n : Nat) (pins : HampPins) : (State.hampEdge s n pins).pending = s.pending := by unfold State.hampEdge; dsimp only; repeat' first | (simp; done) | split
@[simp] theorem State.hampBayEdge_pending (s : State) (bay net : Nat) (pins : HampPins) : (State.hampBayEdge s bay net pins).pending = s.pending := by unfold State.hampBayEdge; (repeat' split) <;> simp
@[simp] theorem State.hampPutBeats_pending (s : State) (a : Nat) (x0 : Nat) (x1 : List HampBeat) : (State.hampPutBeats s a x0 x1).pending = s.pending := by
  induction x1 generalizing s a x0 with
  | nil => cases x0 <;> rfl
  | cons b bs ih =>
    cases x0 with
    | zero => rfl
    | succ n =>
      rw [State.hampPutBeats, ih, foldl_pending]
      intro t i
      split <;> rfl
@[simp] theorem State.hampWriteDone_pending (s : State) (n sev : Nat) : (State.hampWriteDone s n sev).pending = s.pending := by unfold State.hampWriteDone; dsimp only; repeat' first | (simp; done) | split
@[simp] theorem State.hampReadDone_pending (s : State) (n sev : Nat) : (State.hampReadDone s n sev).pending = s.pending := by unfold State.hampReadDone; dsimp only; repeat' first | (simp; done) | split
@[simp] theorem State.hampFlush_pending (s : State) (bay : Nat) : (State.hampFlush s bay).pending = s.pending := by unfold State.hampFlush; (repeat' split) <;> simp
theorem execHamperPortRequest_pending (n : Fin 32) (rq : HampRq) (s : State) : ∀ q1, (execHamperPortRequest n rq s) = .next q1 → q1.pending = s.pending := by
  rintro q1 ⟨⟩; simp
theorem execHamperAccessDone_pending (src : HampSrc) (sev : Fin 4) (s : State) : ∀ q1, (execHamperAccessDone src sev s) = .next q1 → q1.pending = s.pending := by
  rintro q1 ⟨⟩; (repeat' split) <;> simp
@[simp] theorem State.hampDisable_pending (s : State) : (State.hampDisable s).pending = s.pending := by simp [State.hampDisable]
@[simp] theorem State.hampReady_pending (s : State) : (State.hampReady s).pending = s.pending := by simp [State.hampReady]
theorem execHamperTrainDone_pending (pass : Bool) (s : State) : ∀ q1, (execHamperTrainDone pass s) = .next q1 → q1.pending = s.pending := by
  rintro q1 ⟨⟩; simp
theorem execHamperTrainTimeout_pending (s : State) : ∀ q1, (execHamperTrainTimeout s) = .next q1 → q1.pending = s.pending := by
  rintro q1 ⟨⟩; simp
@[simp] theorem State.hampTrainWrite_pending (s : State) : (State.hampTrainWrite s).pending = s.pending := by simp [State.hampTrainWrite]
theorem execHamperRetrain_pending (ag : Agent) (s : State) : ∀ q1, (execHamperRetrain ag s) = .next q1 → q1.pending = s.pending := by
  rintro q1 ⟨⟩; simp
theorem execHamperRetrainDrained_pending (s : State) : ∀ q1, (execHamperRetrainDrained s) = .next q1 → q1.pending = s.pending := by
  rintro q1 ⟨⟩; simp
theorem execHamperDrainTimeout_pending (s : State) : ∀ q1, (execHamperDrainTimeout s) = .next q1 → q1.pending = s.pending := by
  rintro q1 ⟨⟩; simp
theorem execHamperRetrainDone_pending (s : State) : ∀ q1, (execHamperRetrainDone s) = .next q1 → q1.pending = s.pending := by
  rintro q1 ⟨⟩; simp
theorem execHamperTempRead_pending (temp : BitVec 8) (s : State) : ∀ q1, (execHamperTempRead temp s) = .next q1 → q1.pending = s.pending := by
  rintro q1 ⟨⟩; simp
theorem execHamperRefresh_pending (s : State) : ∀ q1, (execHamperRefresh s) = .next q1 → q1.pending = s.pending := by
  rintro q1 ⟨⟩; simp
@[simp] theorem State.hampSleep_pending (s : State) : (State.hampSleep s).pending = s.pending := by simp [State.hampSleep]
@[simp] theorem State.hampWake_pending (s : State) : (State.hampWake s).pending = s.pending := by simp [State.hampWake]
theorem execHamperSelfRefreshExit_pending (s : State) : ∀ q1, (execHamperSelfRefreshExit s) = .next q1 → q1.pending = s.pending := by
  rintro q1 ⟨⟩; simp
@[simp] theorem State.hampTrainStart_pending (s : State) (cons : Bool) : (State.hampTrainStart s cons).pending = s.pending := by simp [State.hampTrainStart]

/-! Stream. -/

@[simp] theorem State.setSt_pending (s : State) (st : StreamSt) : (State.setSt s st).pending = s.pending := by simp [State.setSt]
@[simp] theorem fine_pending (s : State) : (fine s).1.pending = s.pending := by simp [fine]
@[simp] theorem stop_pending (s : State) (code : Nat) : (stop s code).1.pending = s.pending := by simp [stop]
@[simp] theorem State.recordErr_pending (s : State) (src : Nat) (h : Word) (pos : Nat) (e : StreamErr) : (State.recordErr s src h pos e).pending = s.pending := by simp [State.recordErr]
@[simp] theorem State.leaveGroup_pending (s : State) (g bays edge : Nat) : (State.leaveGroup s g bays edge).pending = s.pending := by simp [State.leaveGroup]
@[simp] theorem State.joinGroup_pending (s : State) (g bays edge : Nat) : (State.joinGroup s g bays edge).pending = s.pending := by simp [State.joinGroup]
@[simp] theorem State.setUnits_pending (s : State) (us : List Nat) (v : Nat) : (State.setUnits s us v).pending = s.pending := by simp [State.setUnits]
@[simp] theorem State.dropStaging_pending (s : State) (g bays edge code : Nat) : (State.dropStaging s g bays edge code).pending = s.pending := by simp [State.dropStaging]
@[simp] theorem State.logShow_pending (s : State) : (State.logShow s).pending = s.pending := by unfold State.logShow; (repeat' split) <;> simp
@[simp] theorem State.pntLog_pending (s : State) (e : LogEntry) : (State.pntLog s e).pending = s.pending := by simp [State.pntLog]
@[simp] theorem State.reloadStart_pending (s : State) (bay : Nat) : (State.reloadStart s bay).pending = s.pending := by simp [State.reloadStart]
@[simp] theorem State.reloadNext_pending (s : State) : (State.reloadNext s).pending = s.pending := by unfold State.reloadNext; (repeat' split) <;> simp
@[simp] theorem State.reloadFail_pending (s : State) (code : Nat) : (State.reloadFail s code).pending = s.pending := by unfold State.reloadFail; (repeat' split) <;> simp
@[simp] theorem State.streamError_pending (s : State) (src : Nat) (h : Word) (pos : Nat) (e : StreamErr) : (State.streamError s src h pos e).pending = s.pending := by simp [State.streamError]
@[simp] theorem State.writeIdcode_pending (s : State) (v : Word) : (State.writeIdcode s v).1.pending = s.pending := by simp [State.writeIdcode]
@[simp] theorem State.writeForm_pending (s : State) (v : Word) : (State.writeForm s v).1.pending = s.pending := by simp [State.writeForm]
@[simp] theorem State.writeKeysel_pending (s : State) (v : Word) : (State.writeKeysel s v).1.pending = s.pending := by simp [State.writeKeysel]
@[simp] theorem State.writeSid_pending (s : State) (v : Word) : (State.writeSid s v).1.pending = s.pending := by simp [State.writeSid]
@[simp] theorem State.writeIv_pending (s : State) (ws : List Word) : (State.writeIv s ws).1.pending = s.pending := by simp [State.writeIv]
@[simp] theorem State.writeBodylen_pending (s : State) (v : Word) : (State.writeBodylen s v).1.pending = s.pending := by simp [State.writeBodylen]
@[simp] theorem State.writeBound_pending (s : State) (ws : List Word) : (State.writeBound s ws).1.pending = s.pending := by simp [State.writeBound]
@[simp] theorem State.writeGroup_pending (s : State) (v : Word) : (State.writeGroup s v).1.pending = s.pending := by simp [State.writeGroup]
@[simp] theorem State.writePlfloor_pending (s : State) (v : Word) : (State.writePlfloor s v).1.pending = s.pending := by simp [State.writePlfloor]
@[simp] theorem State.writeClkset_pending (s : State) (ws : List Word) : (State.writeClkset s ws).1.pending = s.pending := by unfold State.writeClkset; dsimp only; repeat' first | (simp; done) | split
@[simp] theorem State.dropWriteBack_pending (s : State) (hit : Nat → Bool) : (State.dropWriteBack s hit).pending = s.pending := by simp [State.dropWriteBack]
@[simp] theorem State.stageAccept_pending (s : State) (src : Nat) : (State.stageAccept s src).pending = s.pending := by simp [State.stageAccept]
@[simp] theorem State.doStage_pending (s : State) (src : Nat) : (State.doStage s src).1.pending = s.pending := by unfold State.doStage; (repeat' split) <;> simp
@[simp] theorem State.doFinish_pending (s : State) : (State.doFinish s).1.pending = s.pending := by simp [State.doFinish]
@[simp] theorem State.writeStep_pending (s : State) (src : Nat) (v : Word) : (State.writeStep s src v).1.pending = s.pending := by unfold State.writeStep; (repeat' split) <;> simp
@[simp] theorem State.writePlace_pending (s : State) (v : Word) : (State.writePlace s v).1.pending = s.pending := by simp [State.writePlace]
@[simp] theorem State.contentStep_pending (s : State) (dyn : Bool) (f : BitVec 10240) : (State.contentStep s dyn f).1.pending = s.pending := by simp [State.contentStep]
@[simp] theorem State.structStep_pending (s : State) (dyn : Bool) (f : BitVec 10240) : (State.structStep s dyn f).1.pending = s.pending := by unfold State.structStep; dsimp only; repeat' first | (simp; done) | split
@[simp] theorem State.writeFrames_pending (s : State) (h : Word) (pos : Nat) (x0 : List (BitVec 10240)) : (State.writeFrames s h pos x0).1.pending = s.pending := by
  induction x0 generalizing s with
  | nil => rfl
  | cons f fs ih =>
    unfold State.writeFrames
    dsimp only
    split
    · rfl
    split
    · rfl
    split
    · rfl
    by_cases hk : plKind s.st.place = 1 <;> simp only [hk, if_true, if_false] <;> split <;> simp [ih]
@[simp] theorem State.doFrames_pending (s : State) (h : Word) (d : List Word) : (State.doFrames s h d).1.pending = s.pending := by unfold State.doFrames; (repeat' split) <;> simp
@[simp] theorem State.doBody_pending (s : State) : (State.doBody s).1.pending = s.pending := by simp [State.doBody]
@[simp] theorem State.clksetApply_pending (s : State) : (State.clksetApply s).pending = s.pending := by simp [State.clksetApply]
@[simp] theorem State.checkPassed_pending (s : State) (src : Nat) : (State.checkPassed s src).pending = s.pending := by simp [State.checkPassed]
@[simp] theorem State.writeSeal_pending (s : State) (src : Nat) (ws : List Word) : (State.writeSeal s src ws).1.pending = s.pending := by simp [State.writeSeal]
@[simp] theorem State.writeCrcv_pending (s : State) (src crc : Nat) (v : Word) : (State.writeCrcv s src crc v).1.pending = s.pending := by simp [State.writeCrcv]
@[simp] theorem State.readFrames_pending (s : State) (acc : List Word) (x0 : Nat) : (State.readFrames s acc x0).1.pending = s.pending := by
  induction x0 generalizing s acc with
  | zero => simp [State.readFrames]
  | succ n ih => simp [State.readFrames, ih]
@[simp] theorem State.refillReturn_pending (s : State) (p : Fin 2) : (State.refillReturn s p).pending = s.pending := by simp [State.refillReturn]
@[simp] theorem State.returnWords_pending (s : State) (src : Nat) (ws : List Word) : (State.returnWords s src ws).pending = s.pending := by unfold State.returnWords; (repeat' split) <;> simp
@[simp] theorem State.doRead_pending (s : State) (src reg n : Nat) : (State.doRead s src reg n).1.pending = s.pending := by unfold State.doRead; (repeat' split) <;> simp
@[simp] theorem State.doSection_pending (s : State) (d : List Word) : (State.doSection s d).1.pending = s.pending := by simp [State.doSection]
@[simp] theorem State.doEnd_pending (s : State) : (State.doEnd s).1.pending = s.pending := by unfold State.doEnd; (repeat' split) <;> simp
@[simp] theorem State.doWrite_pending (s : State) (src crc : Nat) (h : Word) (d : List Word) : (State.doWrite s src crc h d).1.pending = s.pending := by unfold State.doWrite; (repeat' split) <;> simp
@[simp] theorem State.dispatchPacket_pending (s : State) (src crc : Nat) (h : Word) (d : List Word) : (State.dispatchPacket s src crc h d).1.pending = s.pending := by unfold State.dispatchPacket; dsimp only; repeat' first | (simp; done) | split
@[simp] theorem State.actPacket_pending (s : State) (src : Nat) (h : Word) (d : List Word) : (State.actPacket s src h d).1.pending = s.pending := by unfold State.actPacket; dsimp only; repeat' first | (simp; done) | split
@[simp] theorem State.sectionTake_pending (s : State) (n : Nat) : (State.sectionTake s n).pending = s.pending := by simp [State.sectionTake]
@[simp] theorem State.afterError_pending (s : State) (e : StreamErr) : (State.afterError s e).pending = s.pending := by simp [State.afterError]
@[simp] theorem State.sectionShort_pending (s : State) (src : Nat) (h : Word) (pos : Nat) : (State.sectionShort s src h pos).pending = s.pending := by simp [State.sectionShort]
@[simp] theorem State.passOver_pending (s : State) (n : Nat) : (State.passOver s n).pending = s.pending := by simp [State.passOver]
@[simp] theorem State.restPacket_pending (s : State) (h : Word) (d : List Word) : (State.restPacket s h d).pending = s.pending := by simp [State.restPacket]
@[simp] theorem State.sectionStep_pending (s : State) (src n : Nat) : (State.sectionStep s src n).pending = s.pending := by simp [State.sectionStep]
@[simp] theorem State.streamPacket_pending (s : State) (src : Nat) (h : Word) (d : List Word) : (State.streamPacket s src h d).pending = s.pending := by unfold State.streamPacket; dsimp only; repeat' first | (simp; done) | split
@[simp] theorem State.enginePacket_pending (s : State) (src : Nat) (h : Word) (d : List Word) : (State.enginePacket s src h d).pending = s.pending := by unfold State.enginePacket; dsimp only; repeat' first | (simp; done) | split
@[simp] theorem State.engineSync_pending (s : State) (src : Nat) : (State.engineSync s src).pending = s.pending := by unfold State.engineSync; (repeat' split) <;> simp
@[simp] theorem State.engineIdle_pending (s : State) : (State.engineIdle s).pending = s.pending := by simp [State.engineIdle]
@[simp] theorem State.loadSourceEnd_pending (s : State) (src : Nat) : (State.loadSourceEnd s src).pending = s.pending := by unfold State.loadSourceEnd; dsimp only; repeat' first | (simp; done) | split
@[simp] theorem State.partSourceEnd_pending (s : State) (src : Nat) : (State.partSourceEnd s src).pending = s.pending := by unfold State.partSourceEnd; dsimp only; repeat' first | (simp; done) | split
@[simp] theorem State.sourceReset_pending (s : State) (src : Nat) : (State.sourceReset s src).pending = s.pending := by unfold State.sourceReset; (repeat' split) <;> simp
@[simp] theorem State.engineSourceEnd_pending (s : State) : (State.engineSourceEnd s).pending = s.pending := by unfold State.engineSourceEnd; (repeat' split) <;> simp
@[simp] theorem State.windowTake_pending (s : State) (src n : Nat) : (State.windowTake s src n).pending = s.pending := by unfold State.windowTake; (repeat' split) <;> simp
@[simp] theorem State.sourceDrain_pending (s : State) (src : Nat) : (State.sourceDrain s src).pending = s.pending := by simp [State.sourceDrain]
@[simp] theorem State.spentEnd_pending (s : State) (src : Nat) : (State.spentEnd s src).pending = s.pending := by simp [State.spentEnd]
@[simp] theorem State.sourceEnded_pending (s : State) (src : Nat) : (State.sourceEnded s src).pending = s.pending := by unfold State.sourceEnded; (repeat' split) <;> simp
@[simp] theorem State.engineTake_pending (s : State) (src : Nat) (i : EngItem) : (State.engineTake s src i).pending = s.pending := by unfold State.engineTake; (repeat' split) <;> simp
@[simp] theorem State.engineDrain_pending (s : State) (x0 : List EngItem) : (State.engineDrain s x0).pending = s.pending := by
  induction x0 generalizing s with
  | nil => simp [State.engineDrain]
  | cons a l ih => unfold State.engineDrain; (repeat' split) <;> simp [ih]
@[simp] theorem State.engineResume_pending (s : State) : (State.engineResume s).pending = s.pending := by unfold State.engineResume; dsimp only; repeat' first | (simp; done) | split
@[simp] theorem State.unopened_pending (s : State) : (State.unopened s).pending = s.pending := by simp [State.unopened]
@[simp] theorem State.deliver_pending (s : State) (i : EngItem) : (State.deliver s i).pending = s.pending := by unfold State.deliver; (repeat' split) <;> simp
@[simp] theorem State.keyLost_pending (s : State) : (State.keyLost s).pending = s.pending := by unfold State.keyLost; (repeat' split) <;> simp
theorem execSyncWord_pending (s : State) : ∀ q1, (execSyncWord s) = .next q1 → q1.pending = s.pending := by
  rintro q1 ⟨⟩; simp
theorem execPacketBadHeader_pending (h : Word) (s : State) : ∀ q1, (execPacketBadHeader h s) = .next q1 → q1.pending = s.pending := by
  rintro q1 ⟨⟩; simp
theorem execNop_pending (s : State) : ∀ q1, (execNop s) = .next q1 → q1.pending = s.pending := by
  rintro q1 ⟨⟩; simp
theorem execWriteIdcode_pending (ws : List Word) (s : State) : ∀ q1, (execWriteIdcode ws s) = .next q1 → q1.pending = s.pending := by
  rintro q1 ⟨⟩; simp
theorem execWriteForm_pending (ws : List Word) (s : State) : ∀ q1, (execWriteForm ws s) = .next q1 → q1.pending = s.pending := by
  rintro q1 ⟨⟩; simp
theorem execWriteKeysel_pending (ws : List Word) (s : State) : ∀ q1, (execWriteKeysel ws s) = .next q1 → q1.pending = s.pending := by
  rintro q1 ⟨⟩; simp
theorem execWriteSid_pending (ws : List Word) (s : State) : ∀ q1, (execWriteSid ws s) = .next q1 → q1.pending = s.pending := by
  rintro q1 ⟨⟩; simp
theorem execWriteIv_pending (ws : List Word) (s : State) : ∀ q1, (execWriteIv ws s) = .next q1 → q1.pending = s.pending := by
  rintro q1 ⟨⟩; simp
theorem execWriteBodylen_pending (ws : List Word) (s : State) : ∀ q1, (execWriteBodylen ws s) = .next q1 → q1.pending = s.pending := by
  rintro q1 ⟨⟩; simp
theorem execWriteBound_pending (ws : List Word) (s : State) : ∀ q1, (execWriteBound ws s) = .next q1 → q1.pending = s.pending := by
  rintro q1 ⟨⟩; simp
theorem execWriteGroup_pending (ws : List Word) (s : State) : ∀ q1, (execWriteGroup ws s) = .next q1 → q1.pending = s.pending := by
  rintro q1 ⟨⟩; simp
theorem execWritePlfloor_pending (ws : List Word) (s : State) : ∀ q1, (execWritePlfloor ws s) = .next q1 → q1.pending = s.pending := by
  rintro q1 ⟨⟩; simp
theorem execWriteClkset_pending (ws : List Word) (s : State) : ∀ q1, (execWriteClkset ws s) = .next q1 → q1.pending = s.pending := by
  rintro q1 ⟨⟩; simp
theorem execStepNone_pending (v : Word) (s : State) : ∀ q1, (execStepNone v s) = .next q1 → q1.pending = s.pending := by
  rintro q1 ⟨⟩; simp
theorem execStepStage_pending (s : State) : ∀ q1, (execStepStage s) = .next q1 → q1.pending = s.pending := by
  rintro q1 ⟨⟩; simp
theorem execStageClearDone_pending (s : State) : ∀ q1, (execStageClearDone s) = .next q1 → q1.pending = s.pending := by
  rintro q1 ⟨⟩; simp
theorem execStepFinish_pending (s : State) : ∀ q1, (execStepFinish s) = .next q1 → q1.pending = s.pending := by
  rintro q1 ⟨⟩; simp
theorem execStepAbort_pending (s : State) : ∀ q1, (execStepAbort s) = .next q1 → q1.pending = s.pending := by
  rintro q1 ⟨⟩; simp
theorem execWritePlace_pending (ws : List Word) (s : State) : ∀ q1, (execWritePlace ws s) = .next q1 → q1.pending = s.pending := by
  rintro q1 ⟨⟩; simp
theorem execWriteFrames_pending (dyn : Bool) (ws : List Word) (s : State) : ∀ q1, (execWriteFrames dyn ws s) = .next q1 → q1.pending = s.pending := by
  rintro q1 ⟨⟩; simp
theorem execZero_pending (dyn : Bool) (n : BitVec 20) (s : State) : ∀ q1, (execZero dyn n s) = .next q1 → q1.pending = s.pending := by
  rintro q1 ⟨⟩; simp
theorem execRepeat_pending (dyn : Bool) (n : BitVec 20) (s : State) : ∀ q1, (execRepeat dyn n s) = .next q1 → q1.pending = s.pending := by
  rintro q1 ⟨⟩; simp
theorem execPatch_pending (dyn : Bool) (ps : List (Word × Word)) (s : State) : ∀ q1, (execPatch dyn ps s) = .next q1 → q1.pending = s.pending := by
  rintro q1 ⟨⟩; simp
theorem execBody_pending (s : State) : ∀ q1, (execBody s) = .next q1 → q1.pending = s.pending := by
  rintro q1 ⟨⟩; simp
theorem execWriteSeal_pending (ws : List Word) (s : State) : ∀ q1, (execWriteSeal ws s) = .next q1 → q1.pending = s.pending := by
  rintro q1 ⟨⟩; simp
theorem execWriteCrcv_pending (ws : List Word) (s : State) : ∀ q1, (execWriteCrcv ws s) = .next q1 → q1.pending = s.pending := by
  rintro q1 ⟨⟩; simp
theorem execReadFrames_pending (n : BitVec 20) (s : State) : ∀ q1, (execReadFrames n s) = .next q1 → q1.pending = s.pending := by
  rintro q1 ⟨⟩; simp
theorem execReadPlace_pending (s : State) : ∀ q1, (execReadPlace s) = .next q1 → q1.pending = s.pending := by
  rintro q1 ⟨⟩; simp
theorem execReadStat_pending (s : State) : ∀ q1, (execReadStat s) = .next q1 → q1.pending = s.pending := by
  rintro q1 ⟨⟩; simp
theorem execSection_pending (sel len : Word) (s : State) : ∀ q1, (execSection sel len s) = .next q1 → q1.pending = s.pending := by
  rintro q1 ⟨⟩; simp
theorem execEnd_pending (s : State) : ∀ q1, (execEnd s) = .next q1 → q1.pending = s.pending := by
  rintro q1 ⟨⟩; simp
theorem execStreamSourceEnd_pending (s : State) : ∀ q1, (execStreamSourceEnd s) = .next q1 → q1.pending = s.pending := by
  rintro q1 ⟨⟩; simp
theorem execUnopenedSourceWords_pending (s : State) : ∀ q1, (execUnopenedSourceWords s) = .next q1 → q1.pending = s.pending := by
  rintro q1 ⟨⟩; simp
@[simp] theorem State.lockWaitEnd_pending (s : State) : (State.lockWaitEnd s).pending = s.pending := by simp [State.lockWaitEnd]
theorem execClksetLockWaitEnd_pending (s : State) : ∀ q1, (execClksetLockWaitEnd s) = .next q1 → q1.pending = s.pending := by
  rintro q1 ⟨⟩; simp

/-! Staged. -/

@[simp] theorem State.openSource_pending (s : State) (c : Nat) : (State.openSource s c).pending = s.pending := by simp [State.openSource]
theorem execPsrcOpen_pending (ag : Agent) (c : Fin 8) (s : State) : ∀ q1, (execPsrcOpen ag c s) = .next q1 → q1.pending = s.pending := by
  rintro q1 ⟨⟩; simp
@[simp] theorem State.logFrame_pending (s : State) (latch key bit kind action : Nat) (time : Word) : (State.logFrame s latch key bit kind action time).pending = s.pending := by simp [State.logFrame]
@[simp] theorem State.entryRead_pending (s : State) (latch key : Nat) (entry : Fin 4) : (State.entryRead s latch key entry).pending = s.pending := by unfold State.entryRead; (repeat' split) <;> simp
@[simp] theorem State.entriesRead_pending (s : State) (bays edge : Nat) (es : EntryErrs) : (State.entriesRead s bays edge es).pending = s.pending := by simp [State.entriesRead]
@[simp] theorem State.upsetShadow_pending (s : State) (bays edge : Nat) (us : Upsets) : (State.upsetShadow s bays edge us).pending = s.pending := by simp [State.upsetShadow]
@[simp] theorem State.cgResult_pending (s : State) (g code : Nat) : (State.cgResult s g code).pending = s.pending := by simp [State.cgResult]
@[simp] theorem State.cgDisarm_pending (s : State) (g : Nat) : (State.cgDisarm s g).pending = s.pending := by simp [State.cgDisarm]
@[simp] theorem State.cgArm_pending (s : State) (g : Nat) (revert : Bool) : (State.cgArm s g revert).pending = s.pending := by unfold State.cgArm; (repeat' split) <;> simp
@[simp] theorem State.leaveLast_pending (s : State) (keep bays edge : Nat) : (State.leaveLast s keep bays edge).pending = s.pending := by simp [State.leaveLast]
@[simp] theorem State.cgCancel_pending (s : State) (g : Nat) : (State.cgCancel s g).pending = s.pending := by simp [State.cgCancel]
@[simp] theorem State.abortInto_pending (s : State) (g : Nat) : (State.abortInto s g).pending = s.pending := by unfold State.abortInto; (repeat' split) <;> simp
@[simp] theorem State.cgDiscard_pending (s : State) (g : Nat) : (State.cgDiscard s g).pending = s.pending := by simp [State.cgDiscard]
@[simp] theorem State.cgCtlWrite_pending (s : State) (g : Nat) (v : Word) : (State.cgCtlWrite s g v).pending = s.pending := by simp [State.cgCtlWrite]
theorem execCgArmCommit_pending (ag : Agent) (g : Fin 8) (s : State) : ∀ q1, (execCgArmCommit ag g s) = .next q1 → q1.pending = s.pending := by
  rintro q1 ⟨⟩; simp
theorem execCgArmRevert_pending (ag : Agent) (g : Fin 8) (s : State) : ∀ q1, (execCgArmRevert ag g s) = .next q1 → q1.pending = s.pending := by
  rintro q1 ⟨⟩; simp
theorem execCgDisarm_pending (ag : Agent) (g : Fin 8) (mode : Bool) (s : State) : ∀ q1, (execCgDisarm ag g mode s) = .next q1 → q1.pending = s.pending := by
  rintro q1 ⟨⟩; simp
theorem execCgDiscard_pending (ag : Agent) (g : Fin 8) (mode : Bool) (s : State) : ∀ q1, (execCgDiscard ag g mode s) = .next q1 → q1.pending = s.pending := by
  rintro q1 ⟨⟩; simp
theorem execCgDeadlineExpiry_pending (g : Fin 8) (s : State) : ∀ q1, (execCgDeadlineExpiry g s) = .next q1 → q1.pending = s.pending := by
  rintro q1 ⟨⟩; simp
@[simp] theorem State.shadowLost_pending (s : State) (u : Nat) : (State.shadowLost s u).pending = s.pending := by simp [State.shadowLost]
@[simp] theorem State.setDw_pending (s : State) (d : DwSt) : (State.setDw s d).pending = s.pending := by simp [State.setDw]
@[simp] theorem State.dwLose_pending (s : State) (us : List Nat) : (State.dwLose s us).pending = s.pending := by simp [State.dwLose]
@[simp] theorem State.dwRefuse_pending (s : State) (c : Nat) : (State.dwRefuse s c).pending = s.pending := by simp [State.dwRefuse]
@[simp] theorem State.dwPlace_pending (s : State) (p : Word) : (State.dwPlace s p).pending = s.pending := by simp [State.dwPlace]
@[simp] theorem State.dwData_pending (s : State) (w : Word) : (State.dwData s w).pending = s.pending := by unfold State.dwData; dsimp only; repeat' first | (simp; done) | split
@[simp] theorem State.dwCtl_pending (s : State) (v : Word) : (State.dwCtl s v).pending = s.pending := by simp [State.dwCtl]
theorem execDwPlaceWrite_pending (ag : Agent) (p : Word) (s : State) : ∀ q1, (execDwPlaceWrite ag p s) = .next q1 → q1.pending = s.pending := by
  rintro q1 ⟨⟩; simp
theorem execDwDataWrite_pending (ag : Agent) (w : Word) (s : State) : ∀ q1, (execDwDataWrite ag w s) = .next q1 → q1.pending = s.pending := by
  rintro q1 ⟨⟩; simp
theorem execDwApply_pending (ag : Agent) (bsel : Fin 64) (s : State) : ∀ q1, (execDwApply ag bsel s) = .next q1 → q1.pending = s.pending := by
  rintro q1 ⟨⟩; simp
theorem execDwClearBuffer_pending (ag : Agent) (bsel : Fin 64) (s : State) : ∀ q1, (execDwClearBuffer ag bsel s) = .next q1 → q1.pending = s.pending := by
  rintro q1 ⟨⟩; simp
@[simp] theorem State.dwLatch_pending (s : State) (src : Nat) : (State.dwLatch s src).pending = s.pending := by simp [State.dwLatch]
@[simp] theorem State.dwDeliver_pending (s : State) (src : Nat) : (State.dwDeliver s src).pending = s.pending := by simp [State.dwDeliver]
theorem execDwApplyEnd_pending (s : State) : ∀ q1, (execDwApplyEnd s) = .next q1 → q1.pending = s.pending := by
  rintro q1 ⟨⟩; simp
@[simp] theorem State.beginCommit_pending (s : State) (c : Commit) : (State.beginCommit s c).pending = s.pending := by simp [State.beginCommit]
@[simp] theorem State.holdPorts_pending (s : State) (bay : Nat) : (State.holdPorts s bay).pending = s.pending := by simp [State.holdPorts]
@[simp] theorem State.gwFlush_pending (s : State) (bay : Nat) : (State.gwFlush s bay).pending = s.pending := by unfold State.gwFlush; (repeat' split) <;> simp
@[simp] theorem State.gwSems_pending (s : State) : (State.gwSems s).pending = s.pending := by simp [State.gwSems]
@[simp] theorem State.bondStart_pending (s : State) (us : List Nat) : (State.bondStart s us).pending = s.pending := by simp [State.bondStart]
@[simp] theorem State.stakeSwitch_pending (s : State) (bay : Nat) : (State.stakeSwitch s bay).pending = s.pending := by simp [State.stakeSwitch]
@[simp] theorem State.bayInit_pending (s : State) (bay : Nat) : (State.bayInit s bay).pending = s.pending := by simp [State.bayInit]
@[simp] theorem State.commitUnit_pending (s : State) (u : Nat) : (State.commitUnit s u).pending = s.pending := by simp [State.commitUnit]
@[simp] theorem State.commitEdge_pending (s : State) (us : List Nat) : (State.commitEdge s us).pending = s.pending := by simp [State.commitEdge]
@[simp] theorem State.lanesCentre_pending (s : State) (k : Nat) : (State.lanesCentre s k).pending = s.pending := by simp [State.lanesCentre]
@[simp] theorem State.releaseUnits_pending (s : State) (us : List Nat) : (State.releaseUnits s us).pending = s.pending := by simp [State.releaseUnits]
@[simp] theorem State.setLast_pending (s : State) (g bays edge : Nat) : (State.setLast s g bays edge).pending = s.pending := by simp [State.setLast]
@[simp] theorem State.dropCommit_pending (s : State) (c : Commit) : (State.dropCommit s c).pending = s.pending := by simp [State.dropCommit]
@[simp] theorem State.becomePrevious_pending (s : State) (us : List Nat) : (State.becomePrevious s us).pending = s.pending := by simp [State.becomePrevious]
@[simp] theorem State.reloadUnheld_pending (s : State) (us : List Nat) : (State.reloadUnheld s us).pending = s.pending := by unfold State.reloadUnheld; (repeat' split) <;> simp
@[simp] theorem State.groupRelease_pending (s : State) (c : Commit) : (State.groupRelease s c).pending = s.pending := by simp [State.groupRelease]
@[simp] theorem State.reloadRelease_pending (s : State) (c : Commit) : (State.reloadRelease s c).pending = s.pending := by unfold State.reloadRelease; dsimp only; repeat' first | (simp; done) | split
theorem execCommitRelease_pending (g : Fin 9) (s : State) : ∀ q1, (execCommitRelease g s) = .next q1 → q1.pending = s.pending := by
  rintro q1 ⟨⟩; (repeat' split) <;> simp
@[simp] theorem State.groupLatch_pending (s : State) (src g : Nat) (wale : Bool) : (State.groupLatch s src g wale).pending = s.pending := by simp [State.groupLatch]
@[simp] theorem State.deliverCommits_pending (s : State) (src : Nat) : (State.deliverCommits s src).pending = s.pending := by simp [State.deliverCommits]
@[simp] theorem State.setFloors_pending (s : State) (bays : Nat) (v : Word) : (State.setFloors s bays v).pending = s.pending := by simp [State.setFloors]
@[simp] theorem State.panelFire_pending (s : State) (g : Nat) : (State.panelFire s g).pending = s.pending := by simp [State.panelFire]
@[simp] theorem State.verifyPass_pending (s : State) (j : VerifyJob) : (State.verifyPass s j).pending = s.pending := by simp [State.verifyPass]
@[simp] theorem State.verifyFail_pending (s : State) (j : VerifyJob) (key : Nat) : (State.verifyFail s j key).pending = s.pending := by simp [State.verifyFail]
@[simp] theorem State.loadVerifyEnd_pending (s : State) (j : PartJob) (prio : Bool) : (State.loadVerifyEnd s j prio).pending = s.pending := by unfold State.loadVerifyEnd; (repeat' split) <;> simp
@[simp] theorem State.passRead_pending (s : State) (bays edge : Nat) (us : Upsets) (es : EntryErrs) : (State.passRead s bays edge us es).pending = s.pending := by simp [State.passRead]
@[simp] theorem State.verifyEnd_pending (s : State) (us : Upsets) (es : EntryErrs) : (State.verifyEnd s us es).pending = s.pending := by unfold State.verifyEnd; dsimp only; repeat' first | (simp; done) | split
theorem execStagedVerifyEnd_pending (us : PassErrs) (s : State) : ∀ q1, (execStagedVerifyEnd us s) = .next q1 → q1.pending = s.pending := by
  rintro q1 ⟨⟩; simp
@[simp] theorem State.revertVerifyEnd_pending (s : State) (g : Nat) (us : Upsets) (es : EntryErrs) : (State.revertVerifyEnd s g us es).pending = s.pending := by simp [State.revertVerifyEnd]
theorem execRevertVerifyEnd_pending (g : Fin 8) (us : PassErrs) (s : State) : ∀ q1, (execRevertVerifyEnd g us s) = .next q1 → q1.pending = s.pending := by
  rintro q1 ⟨⟩; simp
@[simp] theorem State.isoRefresh_pending (s : State) (g : Nat) : (State.isoRefresh s g).pending = s.pending := by simp [State.isoRefresh]
@[simp] theorem State.pctlWrite_pending (s : State) (g : Nat) (v : Word) : (State.pctlWrite s g v).pending = s.pending := by simp [State.pctlWrite]
theorem execPanelIsoWrite_pending (ag : Agent) (g : Fin 8) (v : Word) (s : State) : ∀ q1, (execPanelIsoWrite ag g v s) = .next q1 → q1.pending = s.pending := by
  rintro q1 ⟨⟩; simp
theorem execPisoChange_pending (g : Fin 8) (level : Bool) (s : State) : ∀ q1, (execPisoChange g level s) = .next q1 → q1.pending = s.pending := by
  rintro q1 ⟨⟩; simp
@[simp] theorem State.groupWrite_pending (s : State) (off : Nat) (v : Word) (g k : Nat) : (State.groupWrite s off v g k).pending = s.pending := by unfold State.groupWrite; (repeat' split) <;> simp
@[simp] theorem State.cfgWrite_pending (s : State) (off : Nat) (v : Word) : (State.cfgWrite s off v).pending = s.pending := by
  rw [State.cfgWrite]
  simp only [pending_ite, State.openSource_pending, State.dwPlace_pending, State.dwData_pending, State.dwCtl_pending, State.groupWrite_pending,
    State.plainWrite_pending, ite_self]

/-! Pointing. -/

@[simp] theorem State.setShadowPos_pending (s : State) (w n : Nat) : (State.setShadowPos s w n).pending = s.pending := by simp [State.setShadowPos]
@[simp] theorem State.passEnd_pending (s : State) (w : Nat) : (State.passEnd s w).pending = s.pending := by simp [State.passEnd]
@[simp] theorem State.passShadow_pending (s : State) (w n : Nat) : (State.passShadow s w n).pending = s.pending := by unfold State.passShadow; (repeat' split) <;> simp
@[simp] theorem State.passNext_pending (s : State) (w : Nat) : (State.passNext s w).pending = s.pending := by unfold State.passNext; (repeat' split) <;> simp
@[simp] theorem State.holdBay_pending (s : State) (bay : Nat) : (State.holdBay s bay).pending = s.pending := by simp [State.holdBay]
@[simp] theorem State.wantReload_pending (s : State) (bay : Nat) : (State.wantReload s bay).pending = s.pending := by simp [State.wantReload]
@[simp] theorem State.holdClear_pending (s : State) (bay : Nat) : (State.holdClear s bay).pending = s.pending := by unfold State.holdClear; dsimp only; repeat' first | (simp; done) | split
theorem execPntHoldClear_pending (ag : Agent) (v : Word) (s : State) : ∀ q1, (execPntHoldClear ag v s) = .next q1 → q1.pending = s.pending := by
  rintro q1 ⟨⟩; simp
@[simp] theorem State.multiBit_pending (s : State) (latch key : Nat) : (State.multiBit s latch key).pending = s.pending := by unfold State.multiBit; dsimp only; repeat' first | (simp; done) | split
@[simp] theorem State.upsetFrame_pending (s : State) (latch key : Nat) (bits : List (Fin 10240)) : (State.upsetFrame s latch key bits).pending = s.pending := by simp [State.upsetFrame]
@[simp] theorem State.frameAct_pending (t : State) (w latch key : Nat) (x0 : FrameClass) : (State.frameAct t w latch key x0).pending = t.pending := by
  unfold State.frameAct; (repeat' split) <;> simp
@[simp] theorem State.frameRead_pending (s : State) (w latch key : Nat) (entry : Fin 4) : (State.frameRead s w latch key entry).pending = s.pending := by simp [State.frameRead]
theorem execPntFrameRead_pending (w : Fin 2) (upset : List (Fin 10240)) (entry : Fin 4) (s : State) : ∀ q1, (execPntFrameRead w upset entry s) = .next q1 → q1.pending = s.pending := by
  rintro q1 ⟨⟩; (repeat' split) <;> simp
theorem execPntSbeWriteBackDone_pending (w : Fin 2) (upset : FrameErrs) (s : State) : ∀ q1, (execPntSbeWriteBackDone w upset s) = .next q1 → q1.pending = s.pending := by
  intro q1 h; unfold execPntSbeWriteBackDone at h; dsimp only at h; (repeat' split at h) <;> first | (cases h; simp) | (cases h; (repeat' split) <;> simp_all)
@[simp] theorem State.pntCtlWrite_pending (s : State) (v : Word) : (State.pntCtlWrite s v).pending = s.pending := by simp [State.pntCtlWrite]
theorem execPntRestart_pending (ag : Agent) (en shadow : Bool) (s : State) : ∀ q1, (execPntRestart ag en shadow s) = .next q1 → q1.pending = s.pending := by
  rintro q1 ⟨⟩; simp
@[simp] theorem State.logPop_pending (s : State) : (State.logPop s).pending = s.pending := by simp [State.logPop]
theorem execPntLogPop_pending (ag : Agent) (s : State) : ∀ q1, (execPntLogPop ag s) = .next q1 → q1.pending = s.pending := by
  rintro q1 ⟨⟩; simp
theorem execPntReloadOpen_pending (s : State) : ∀ q1, (execPntReloadOpen s) = .next q1 → q1.pending = s.pending := by
  intro q1 h; unfold execPntReloadOpen at h; dsimp only at h; (repeat' split at h) <;> first | (cases h; simp) | (cases h; (repeat' split) <;> simp_all)
theorem execPntReloadFire_pending (s : State) : ∀ q1, (execPntReloadFire s) = .next q1 → q1.pending = s.pending := by
  rintro q1 ⟨⟩; simp
theorem execPntReloadWaitExpiry_pending (s : State) : ∀ q1, (execPntReloadWaitExpiry s) = .next q1 → q1.pending = s.pending := by
  rintro q1 ⟨⟩; (repeat' split) <;> simp
@[simp] theorem State.reloadLatch_pending (s : State) (src : Nat) : (State.reloadLatch s src).pending = s.pending := by unfold State.reloadLatch; (repeat' split) <;> simp
@[simp] theorem State.pntLoading_pending (s : State) : (State.pntLoading s).pending = s.pending := by simp [State.pntLoading]
@[simp] theorem State.pntWrite_pending (s : State) (off : Nat) (v : Word) : (State.pntWrite s off v).pending = s.pending := by simp [State.pntWrite]

/-! Lanes. -/

@[simp] theorem State.setLane_pending (s : State) (n : Nat) (l : LaneSt) : (State.setLane s n l).pending = s.pending := by simp [State.setLane]
@[simp] theorem State.laneErr_pending (s : State) (n i : Nat) : (State.laneErr s n i).pending = s.pending := by simp [State.laneErr]
@[simp] theorem State.laneStatus_pending (s : State) (n i : Nat) : (State.laneStatus s n i).pending = s.pending := by simp [State.laneStatus]
@[simp] theorem State.rxOff_pending (s : State) (n : Nat) : (State.rxOff s n).pending = s.pending := by simp [State.rxOff]
@[simp] theorem State.laneRefresh_pending (s : State) (n : Nat) : (State.laneRefresh s n).pending = s.pending := by simp [State.laneRefresh]
@[simp] theorem State.quadRefresh_pending (s : State) (q : Nat) : (State.quadRefresh s q).pending = s.pending := by simp [State.quadRefresh]
@[simp] theorem State.lanesRefresh_pending (s : State) : (State.lanesRefresh s).pending = s.pending := by simp [State.lanesRefresh]
@[simp] theorem State.cdrDrop_pending (s : State) (n : Nat) : (State.cdrDrop s n).pending = s.pending := by simp [State.cdrDrop]
@[simp] theorem State.lgForget_pending (s : State) (n : Nat) : (State.lgForget s n).pending = s.pending := by simp [State.lgForget]
@[simp] theorem State.lgLoad_pending (s : State) (n : Nat) : (State.lgLoad s n).pending = s.pending := by simp [State.lgLoad]
@[simp] theorem State.lgSave_pending (s : State) (n : Nat) : (State.lgSave s n).pending = s.pending := by simp [State.lgSave]
@[simp] theorem State.adaptStep_pending (s : State) (n : Nat) (e : EyeWindow) : (State.adaptStep s n e).pending = s.pending := by simp [State.adaptStep]
@[simp] theorem State.setRevHold_pending (s : State) (n k : Nat) : (State.setRevHold s n k).pending = s.pending := by simp [State.setRevHold]
@[simp] theorem State.floorRevert_pending (s : State) (n : Nat) : (State.floorRevert s n).pending = s.pending := by simp [State.floorRevert]
@[simp] theorem State.adaptEnd_pending (s : State) (n eye : Nat) (qual : Bool) (e : EyeWindow) : (State.adaptEnd s n eye qual e).pending = s.pending := by simp [State.adaptEnd]
@[simp] theorem State.eyeEnd_pending (s : State) (n : Nat) (e : EyeWindow) : (State.eyeEnd s n e).pending = s.pending := by simp [State.eyeEnd]
theorem execEyeWindowEnd_pending (n : Fin 64) (e : EyeWindow) (s : State) : ∀ q1, (execEyeWindowEnd n e s) = .next q1 → q1.pending = s.pending := by
  rintro q1 ⟨⟩; simp
@[simp] theorem State.txeqWrite_pending (s : State) (n : Nat) (v : Word) : (State.txeqWrite s n v).pending = s.pending := by simp [State.txeqWrite]
@[simp] theorem State.rxeqWrite_pending (s : State) (n : Nat) (v : Word) : (State.rxeqWrite s n v).pending = s.pending := by simp [State.rxeqWrite]
@[simp] theorem State.dfeWrite_pending (s : State) (n i : Nat) (v : Word) : (State.dfeWrite s n i v).pending = s.pending := by simp [State.dfeWrite]
@[simp] theorem State.prbsWrite_pending (s : State) (n : Nat) (v : Word) : (State.prbsWrite s n v).pending = s.pending := by simp [State.prbsWrite]
@[simp] theorem State.calStart_pending (s : State) (q : Nat) : (State.calStart s q).pending = s.pending := by simp [State.calStart]
@[simp] theorem State.quadWrite_pending (s : State) (q o : Nat) (v : Word) : (State.quadWrite s q o v).pending = s.pending := by simp [State.quadWrite]
@[simp] theorem State.laneWrite_pending (s : State) (n o : Nat) (v : Word) : (State.laneWrite s n o v).pending = s.pending := by simp [State.laneWrite]
theorem execLaneTxeqWrite_pending (ag : Agent) (n : Fin 64) (v : Word) (s : State) : ∀ q1, (execLaneTxeqWrite ag n v s) = .next q1 → q1.pending = s.pending := by
  rintro q1 ⟨⟩; simp
theorem execLaneLoadlg_pending (ag : Agent) (n : Fin 64) (s : State) : ∀ q1, (execLaneLoadlg ag n s) = .next q1 → q1.pending = s.pending := by
  rintro q1 ⟨⟩; simp
theorem execPrbsClear_pending (ag : Agent) (n : Fin 64) (s : State) : ∀ q1, (execPrbsClear ag n s) = .next q1 → q1.pending = s.pending := by
  rintro q1 ⟨⟩; simp
theorem execQuadCalStart_pending (ag : Agent) (q : Fin 16) (s : State) : ∀ q1, (execQuadCalStart ag q s) = .next q1 → q1.pending = s.pending := by
  rintro q1 ⟨⟩; simp
@[simp] theorem State.calEnd_pending (s : State) (q : Nat) (pass : Bool) : (State.calEnd s q pass).pending = s.pending := by simp [State.calEnd]
theorem execQuadCalDone_pending (q : Fin 16) (pass : Bool) (s : State) : ∀ q1, (execQuadCalDone q pass s) = .next q1 → q1.pending = s.pending := by
  rintro q1 ⟨⟩; simp
theorem execQuadCalTimeout_pending (q : Fin 16) (s : State) : ∀ q1, (execQuadCalTimeout q s) = .next q1 → q1.pending = s.pending := by
  rintro q1 ⟨⟩; simp
@[simp] theorem State.setRelock_pending (s : State) (q h : Nat) (b : Bool) : (State.setRelock s q h b).pending = s.pending := by simp [State.setRelock]
@[simp] theorem State.pllUnlock_pending (s : State) (q h : Nat) : (State.pllUnlock s q h).pending = s.pending := by simp [State.pllUnlock]
@[simp] theorem State.qpllApply_pending (s : State) (q : Nat) (vals : List (Nat × Word)) : (State.qpllApply s q vals).pending = s.pending := by unfold State.qpllApply; dsimp only; repeat' first | (simp; done) | split
theorem execQpllLock_pending (q : Fin 16) (h : Fin 2) (s : State) : ∀ q1, (execQpllLock q h s) = .next q1 → q1.pending = s.pending := by
  rintro q1 ⟨⟩; simp
theorem execQpllLossOfLock_pending (q : Fin 16) (h : Fin 2) (s : State) : ∀ q1, (execQpllLossOfLock q h s) = .next q1 → q1.pending = s.pending := by
  rintro q1 ⟨⟩; simp
@[simp] theorem State.laneCfgApply_pending (s : State) (n : Nat) (vals : List (Nat × Word)) : (State.laneCfgApply s n vals).pending = s.pending := by unfold State.laneCfgApply; (repeat' split) <;> simp
theorem execLaneWakeBurstEnd_pending (n : Fin 64) (s : State) : ∀ q1, (execLaneWakeBurstEnd n s) = .next q1 → q1.pending = s.pending := by
  rintro q1 ⟨⟩; simp
theorem execCdrLockAcquired_pending (n : Fin 64) (s : State) : ∀ q1, (execCdrLockAcquired n s) = .next q1 → q1.pending = s.pending := by
  rintro q1 ⟨⟩; simp
theorem execCdrLockLost_pending (n : Fin 64) (s : State) : ∀ q1, (execCdrLockLost n s) = .next q1 → q1.pending = s.pending := by
  rintro q1 ⟨⟩; simp
theorem execRxidleChange_pending (n : Fin 64) (idle : Bool) (s : State) : ∀ q1, (execRxidleChange n idle s) = .next q1 → q1.pending = s.pending := by
  rintro q1 ⟨⟩; simp
theorem execCommaAlign_pending (n : Fin 64) (s : State) : ∀ q1, (execCommaAlign n s) = .next q1 → q1.pending = s.pending := by
  rintro q1 ⟨⟩; simp
theorem execAlignLost_pending (n : Fin 64) (s : State) : ∀ q1, (execAlignLost n s) = .next q1 → q1.pending = s.pending := by
  rintro q1 ⟨⟩; simp
theorem execBlockLockAcquired_pending (n : Fin 64) (s : State) : ∀ q1, (execBlockLockAcquired n s) = .next q1 → q1.pending = s.pending := by
  rintro q1 ⟨⟩; simp
theorem execBlockLockLost_pending (n : Fin 64) (s : State) : ∀ q1, (execBlockLockLost n s) = .next q1 → q1.pending = s.pending := by
  rintro q1 ⟨⟩; simp
@[simp] theorem State.fifoFault_pending (s : State) (n : Nat) (tx : Bool) : (State.fifoFault s n tx).pending = s.pending := by simp [State.fifoFault]
theorem execPhaseFifoFault_pending (n : Fin 64) (tx : Bool) (s : State) : ∀ q1, (execPhaseFifoFault n tx s) = .next q1 → q1.pending = s.pending := by
  rintro q1 ⟨⟩; simp
theorem execPrbsCheckerLock_pending (n : Fin 64) (s : State) : ∀ q1, (execPrbsCheckerLock n s) = .next q1 → q1.pending = s.pending := by
  rintro q1 ⟨⟩; simp
@[simp] theorem State.countErr_pending (s : State) (n k : Nat) : (State.countErr s n k).pending = s.pending := by simp [State.countErr]
@[simp] theorem State.laneErrIf_pending (s : State) (c : Bool) (n i : Nat) : (State.laneErrIf s c n i).pending = s.pending := by simp [State.laneErrIf]
@[simp] theorem State.prbsCheck_pending (s : State) (n width raw : Nat) : (State.prbsCheck s n width raw).pending = s.pending := by simp [State.prbsCheck]
@[simp] theorem State.rxWord_pending (s : State) (n : Nat) (w : LaneRx) : (State.rxWord s n w).pending = s.pending := by simp [State.rxWord]
theorem execLaneRxWord_pending (n : Fin 64) (w : LaneRx) (s : State) : ∀ q1, (execLaneRxWord n w s) = .next q1 → q1.pending = s.pending := by
  rintro q1 ⟨⟩; simp
@[simp] theorem State.txEdge_pending (s : State) (n : Nat) (p : LanePins) : (State.txEdge s n p).pending = s.pending := by simp [State.txEdge]
@[simp] theorem State.rxEdge_pending (s : State) (n : Nat) : (State.rxEdge s n).pending = s.pending := by unfold State.rxEdge; dsimp only; repeat' first | (simp; done) | split
@[simp] theorem State.lanesEdge_pending (s : State) (k net : Nat) (p : EdgePins) : (State.lanesEdge s k net p).pending = s.pending := by simp [State.lanesEdge]

/-! WaleLink. -/

@[simp] theorem State.gangEnd_pending (s : State) : (State.gangEnd s).pending = s.pending := by simp [State.gangEnd]
@[simp] theorem State.linkDown_pending (s : State) (p cause : Nat) : (State.linkDown s p cause).pending = s.pending := by simp [State.linkDown]
@[simp] theorem State.walePortsDown_pending (s : State) : (State.walePortsDown s).pending = s.pending := by simp [State.walePortsDown]
@[simp] theorem State.ownSet_pending (s : State) (off : Nat) (v : Word) : (State.ownSet s off v).pending = s.pending := by simp [State.ownSet]
@[simp] theorem State.wpTake_pending (s : State) (p : Nat) : (State.wpTake s p).pending = s.pending := by simp [State.wpTake]
@[simp] theorem State.wpTrain_pending (s : State) (p : Nat) : (State.wpTrain s p).pending = s.pending := by simp [State.wpTrain]
@[simp] theorem State.wpStart_pending (s : State) (p : Nat) : (State.wpStart s p).pending = s.pending := by simp [State.wpStart]
@[simp] theorem State.wpDue_pending (s : State) (p : Nat) : (State.wpDue s p).pending = s.pending := by simp [State.wpDue]
@[simp] theorem State.wpCtlWrite_pending (s : State) (p : Nat) (v : Word) : (State.wpCtlWrite s p v).pending = s.pending := by simp [State.wpCtlWrite]
@[simp] theorem State.trnCount_pending (s : State) (p lane : Nat) (t : TrnSet) : (State.trnCount s p lane t).pending = s.pending := by simp [State.trnCount]
@[simp] theorem State.trnTraining_pending (s : State) (p lane : Nat) (t : TrnSet) : (State.trnTraining s p lane t).pending = s.pending := by simp [State.trnTraining]
@[simp] theorem State.trnSet_pending (s : State) (p lane : Nat) (t : TrnSet) : (State.trnSet s p lane t).pending = s.pending := by simp [State.trnSet]
@[simp] theorem State.peerRecord_pending (s : State) (x epoch : Nat) : (State.peerRecord s x epoch).pending = s.pending := by simp [State.peerRecord]
@[simp] theorem State.originEnd_pending (s : State) (o : WaleOrigin) (status : Nat) (read : Bool) (ws : List Word) : (State.originEnd s o status read ws).pending = s.pending := by unfold State.originEnd; (repeat' split) <;> simp
@[simp] theorem State.reqEnd_pending (s : State) (r : WaleReq) (status : Nat) (ws : List Word) : (State.reqEnd s r status ws).pending = s.pending := by simp [State.reqEnd]
@[simp] theorem State.reqsEpoch_pending (s : State) (f : WaleReq → Bool) : (State.reqsEpoch s f).pending = s.pending := by simp [State.reqsEpoch]
@[simp] theorem State.sendJoin_pending (s : State) (p : Nat) : (State.sendJoin s p).pending = s.pending := by simp [State.sendJoin]
@[simp] theorem State.linkUp_pending (s : State) (p : Nat) : (State.linkUp s p).pending = s.pending := by simp [State.linkUp]
@[simp] theorem State.ackDrop_pending (s : State) (p aseq : Nat) : (State.ackDrop s p aseq).pending = s.pending := by unfold State.ackDrop; dsimp only; repeat' first | (simp; done) | split
@[simp] theorem State.ackTake_pending (s : State) (p aseq : Nat) : (State.ackTake s p aseq).pending = s.pending := by
  unfold State.ackTake
  simp
@[simp] theorem State.linkResend_pending (s : State) (p : Nat) : (State.linkResend s p).pending = s.pending := by simp [State.linkResend]
@[simp] theorem State.nakOnce_pending (s : State) (p : Nat) : (State.nakOnce s p).pending = s.pending := by simp [State.nakOnce]
@[simp] theorem State.linkRx_pending (s : State) (p seq : Nat) : (State.linkRx s p seq).2.pending = s.pending := by simp [State.linkRx]
@[simp] theorem State.lanesChanged_pending (s : State) (p : Nat) : (State.lanesChanged s p).pending = s.pending := by simp [State.lanesChanged]
@[simp] theorem State.askSet_pending (s : State) (p op set : Nat) : (State.askSet s p op set).pending = s.pending := by simp [State.askSet]
@[simp] theorem State.laneFail_pending (s : State) (p lane : Nat) : (State.laneFail s p lane).pending = s.pending := by simp [State.laneFail]
@[simp] theorem State.laneReadmit_pending (s : State) (p lane : Nat) : (State.laneReadmit s p lane).pending = s.pending := by simp [State.laneReadmit]
@[simp] theorem State.lmgSet_pending (s : State) (p op set : Nat) : (State.lmgSet s p op set).pending = s.pending := by simp [State.lmgSet]
@[simp] theorem State.dropBlock_pending (s : State) : (State.dropBlock s).pending = s.pending := by simp [State.dropBlock]
@[simp] theorem State.completionIn_pending (s : State) (b : WaleBlock) : (State.completionIn s b).pending = s.pending := by unfold State.completionIn; (repeat' split) <;> simp
theorem State.toPort_pending (s : State) (from_ : Option Nat) (b : WaleBlock) : ∀ q1, (State.toPort s from_ b) = some q1 → q1.pending = s.pending := by
  intro q1 h
  simp only [State.toPort] at h
  (repeat' split at h) <;> simp_all <;> (try (subst h; simp))
@[simp] theorem State.answer_pending (s : State) (b : WaleBlock) (status : Nat) (ws : List Word) : (State.answer s b status ws).pending = s.pending := by
  unfold State.answer
  dsimp only
  split
  · simp
  · split
    · rename_i h
      exact State.toPort_pending _ _ _ _ h
    · split <;> simp
@[simp] theorem State.wakeToward_pending (s : State) (x : Nat) (b : WaleBlock) : (State.wakeToward s x b).pending = s.pending := by simp [State.wakeToward]
@[simp] theorem State.sleepHandle_pending (s : State) (x : Nat) (b : WaleBlock) : (State.sleepHandle s x b).pending = s.pending := by simp [State.sleepHandle]
@[simp] theorem State.routeOn_pending (s : State) (from_ : Option Nat) (b : WaleBlock) : (State.routeOn s from_ b).pending = s.pending := by
  unfold State.routeOn
  dsimp only
  split
  · simp
  · split
    · rename_i h
      split at h
      · cases h
      · exact State.toPort_pending _ _ _ _ h
    · split <;> simp
@[simp] theorem State.mqRefresh_pending (s : State) : (State.mqRefresh s).pending = s.pending := by simp [State.mqRefresh]
@[simp] theorem State.messageIn_pending (s : State) (b : WaleBlock) : (State.messageIn s b).pending = s.pending := by simp [State.messageIn]
@[simp] theorem State.localIn_pending (s : State) (b : WaleBlock) (mem : Nat) : (State.localIn s b mem).pending = s.pending := by unfold State.localIn; (repeat' split) <;> simp
@[simp] theorem State.originate_pending (s : State) (b : WaleBlock) : (State.originate s b).pending = s.pending := by simp [State.originate]
@[simp] theorem State.requestSend_pending (s : State) (o : WaleOrigin) (b : WaleBlock) (tag : Nat) : (State.requestSend s o b tag).pending = s.pending := by simp [State.requestSend]
@[simp] theorem State.waleIssue_pending (s : State) (o : WaleOrigin) (kind : WaleKind) (dest addr len : Nat) (ack : Bool) (ws : List Word) : (State.waleIssue s o kind dest addr len ack ws).pending = s.pending := by unfold State.waleIssue; (repeat' split) <;> simp
theorem State.tagNext_pending (s : State) : ∀ q1, (State.tagNext s) = some q1 → q1.pending = s.pending := by
  intro q1 h
  simp only [State.tagNext] at h
  (repeat' split at h) <;> simp_all <;> (try (subst h; simp))
@[simp] theorem State.epochTest_pending (s : State) (b : WaleBlock) : (State.epochTest s b).2.pending = s.pending := by simp [State.epochTest]
@[simp] theorem State.blockIn_pending (s : State) (p : Nat) (b : WaleBlock) (here join : Bool) (act : State → State) (h : ∀ t, (act t).pending = t.pending) : (s.blockIn p b here join act).pending = s.pending := by
  have e := State.linkRx_pending s p b.seq.val
  unfold State.blockIn
  split
  · rename_i hr
    rw [hr] at e
    exact e
  · rename_i t hr
    rw [hr] at e
    have e2 := State.epochTest_pending t b
    split
    · rename_i hj
      split at hj
      · cases hj
      · rw [hj] at e2
        rw [e2]
        exact e
    · rename_i u hj
      have e3 : u.pending = t.pending := by
        split at hj
        · cases hj; rfl
        · rw [hj] at e2; exact e2
      dsimp only at e
      rw [← e, ← e3]
      split
      · exact h _
      split
      · rw [h]
        split <;> simp
      split
      · simp
      split
      · exact h _
      · simp
theorem execWpEnable_pending (ag : Agent) (p : Fin 6) (s : State) : ∀ q1, (execWpEnable ag p s) = .next q1 → q1.pending = s.pending := by
  rintro q1 ⟨⟩; simp
theorem execWpDisable_pending (ag : Agent) (p : Fin 6) (s : State) : ∀ q1, (execWpDisable ag p s) = .next q1 → q1.pending = s.pending := by
  rintro q1 ⟨⟩; simp
theorem execWpRetrain_pending (ag : Agent) (p : Fin 6) (s : State) : ∀ q1, (execWpRetrain ag p s) = .next q1 → q1.pending = s.pending := by
  rintro q1 ⟨⟩; simp
theorem execWaleTrnSet_pending (p : Fin 6) (lane : Fin 8) (t : TrnSet) (s : State) : ∀ q1, (execWaleTrnSet p lane t s) = .next q1 → q1.pending = s.pending := by
  rintro q1 ⟨⟩; simp
theorem execWaleTrainTimeout_pending (p : Fin 6) (s : State) : ∀ q1, (execWaleTrainTimeout p s) = .next q1 → q1.pending = s.pending := by
  rintro q1 ⟨⟩; simp
theorem execWaleLinkUp_pending (p : Fin 6) (s : State) : ∀ q1, (execWaleLinkUp p s) = .next q1 → q1.pending = s.pending := by
  rintro q1 ⟨⟩; simp
theorem execWaleAutoRetrain_pending (p : Fin 6) (s : State) : ∀ q1, (execWaleAutoRetrain p s) = .next q1 → q1.pending = s.pending := by
  rintro q1 ⟨⟩; simp
theorem execWaleBlockBad_pending (p : Fin 6) (fmt : Option (Fin 4096)) (s : State) : ∀ q1, (execWaleBlockBad p fmt s) = .next q1 → q1.pending = s.pending := by
  intro q1 h
  have e := fun q => State.linkRx_pending s p.val q
  unfold execWaleBlockBad at h
  injection h with h
  subst h
  split
  · rfl
  · split
    · simp
    · rename_i q
      have e1 := e q.val
      split <;> (rename_i hr; rw [hr] at e1; simpa using e1)
theorem execWaleAck_pending (p : Fin 6) (aseq : Fin 4096) (junk : Bool) (s : State) : ∀ q1, (execWaleAck p aseq junk s) = .next q1 → q1.pending = s.pending := by
  rintro q1 ⟨⟩; simp
theorem execWaleNak_pending (p : Fin 6) (aseq : Fin 4096) (junk : Bool) (s : State) : ∀ q1, (execWaleNak p aseq junk s) = .next q1 → q1.pending = s.pending := by
  rintro q1 ⟨⟩; simp
theorem execWaleAckSend_pending (p : Fin 6) (s : State) : ∀ q1, (execWaleAckSend p s) = .next q1 → q1.pending = s.pending := by
  rintro q1 ⟨⟩; simp
theorem execWaleAckTimerExpiry_pending (p : Fin 6) (s : State) : ∀ q1, (execWaleAckTimerExpiry p s) = .next q1 → q1.pending = s.pending := by
  rintro q1 ⟨⟩; simp
theorem execWaleLaneFail_pending (p : Fin 6) (lane : Fin 8) (s : State) : ∀ q1, (execWaleLaneFail p lane s) = .next q1 → q1.pending = s.pending := by
  rintro q1 ⟨⟩; simp
theorem execWaleLaneReadmitReady_pending (p : Fin 6) (lane : Fin 8) (s : State) : ∀ q1, (execWaleLaneReadmitReady p lane s) = .next q1 → q1.pending = s.pending := by
  rintro q1 ⟨⟩; simp
theorem execWaleLmgDrop_pending (p : Fin 6) (set : BitVec 8) (junk : Bool) (s : State) : ∀ q1, (execWaleLmgDrop p set junk s) = .next q1 → q1.pending = s.pending := by
  rintro q1 ⟨⟩; simp
theorem execWaleLmgReadmit_pending (p : Fin 6) (set : BitVec 8) (junk : Bool) (s : State) : ∀ q1, (execWaleLmgReadmit p set junk s) = .next q1 → q1.pending = s.pending := by
  rintro q1 ⟨⟩; simp
theorem execWaleLmgSleep_pending (p : Fin 6) (junk : Bool) (s : State) : ∀ q1, (execWaleLmgSleep p junk s) = .next q1 → q1.pending = s.pending := by
  rintro q1 ⟨⟩; simp
theorem execWaleLmgDown_pending (p : Fin 6) (junk : Bool) (s : State) : ∀ q1, (execWaleLmgDown p junk s) = .next q1 → q1.pending = s.pending := by
  rintro q1 ⟨⟩; simp
theorem execWaleCompletion_pending (p : Fin 6) (b : WaleBlock) (s : State) : ∀ q1, (execWaleCompletion p b s) = .next q1 → q1.pending = s.pending := by
  rintro q1 ⟨⟩; simp
theorem execWaleMessage_pending (p : Fin 6) (b : WaleBlock) (s : State) : ∀ q1, (execWaleMessage p b s) = .next q1 → q1.pending = s.pending := by
  rintro q1 ⟨⟩; simp
theorem execWaleRequestDeadline_pending (tag : Fin 256) (s : State) : ∀ q1, (execWaleRequestDeadline tag s) = .next q1 → q1.pending = s.pending := by
  rintro q1 ⟨⟩; (repeat' split) <;> simp
@[simp] theorem State.mqPop_pending (s : State) : (State.mqPop s).pending = s.pending := by simp [State.mqPop]
theorem execWaleMqPop_pending (ag : Agent) (s : State) : ∀ q1, (execWaleMqPop ag s) = .next q1 → q1.pending = s.pending := by
  rintro q1 ⟨⟩; simp

/-! Wale. -/

@[simp] theorem State.gangTake_pending (s : State) (b : WaleBlock) : (State.gangTake s b).pending = s.pending := by simp [State.gangTake]
@[simp] theorem State.gangIn_pending (s : State) (b : WaleBlock) : (State.gangIn s b).pending = s.pending := by unfold State.gangIn; (repeat' split) <;> simp
@[simp] theorem State.gangOut_pending (s : State) (off : Nat) (ws : List Word) (first last abort : Bool) : (State.gangOut s off ws first last abort).pending = s.pending := by
  unfold State.gangOut
  dsimp only
  split
  · simp
  · split
    · rename_i h
      simpa using State.toPort_pending _ _ _ _ h
    · simp
@[simp] theorem State.gangSend_pending (s : State) (keep : Bool) (x0 : Nat) : (State.gangSend s keep x0).pending = s.pending := by
  induction x0 generalizing s keep with
  | zero => simp [State.gangSend]
  | succ n ih => unfold State.gangSend; (repeat' split) <;> simp [ih]
@[simp] theorem State.gangGo_pending (s : State) : (State.gangGo s).pending = s.pending := by simp [State.gangGo]
@[simp] theorem State.gangAbort_pending (s : State) (blocks : Nat) : (State.gangAbort s blocks).pending = s.pending := by unfold State.gangAbort; dsimp only; repeat' first | (simp; done) | split
@[simp] theorem State.gangCtlWrite_pending (s : State) (v : Word) : (State.gangCtlWrite s v).pending = s.pending := by simp [State.gangCtlWrite]
@[simp] theorem State.gangResult_pending (s : State) (r : Nat) : (State.gangResult s r).pending = s.pending := by simp [State.gangResult]
theorem execWaleGangBlock_pending (p : Fin 6) (b : WaleBlock) (s : State) : ∀ q1, (execWaleGangBlock p b s) = .next q1 → q1.pending = s.pending := by
  rintro q1 ⟨⟩; simp
theorem execWaleGangGo_pending (ag : Agent) (hamper bcast : Bool) (dest : Fin 512) (s : State) : ∀ q1, (execWaleGangGo ag hamper bcast dest s) = .next q1 → q1.pending = s.pending := by
  rintro q1 ⟨⟩; simp
theorem execWaleGangAbort_pending (ag : Agent) (blocks : Nat) (s : State) : ∀ q1, (execWaleGangAbort ag blocks s) = .next q1 → q1.pending = s.pending := by
  rintro q1 ⟨⟩; simp
theorem execWaleGangSendEnd_pending (s : State) : ∀ q1, (execWaleGangSendEnd s) = .next q1 → q1.pending = s.pending := by
  rintro q1 ⟨⟩; (repeat' split) <;> simp
theorem execWaleGangStreamTimeout_pending (s : State) : ∀ q1, (execWaleGangStreamTimeout s) = .next q1 → q1.pending = s.pending := by
  rintro q1 ⟨⟩; simp
@[simp] theorem State.badBody_pending (s : State) (p : Nat) : (State.badBody s p).pending = s.pending := by simp [State.badBody]
theorem execWaleAdvert_pending (p : Fin 6) (b : WaleBlock) (s : State) : ∀ q1, (execWaleAdvert p b s) = .next q1 → q1.pending = s.pending := by
  rintro q1 ⟨⟩; (repeat' split) <;> simp
theorem execWaleAdvertTimer_pending (s : State) : ∀ q1, (execWaleAdvertTimer s) = .next q1 → q1.pending = s.pending := by
  rintro q1 ⟨⟩; simp
theorem execWaleAdvertExpiry_pending (p : Fin 6) (s : State) : ∀ q1, (execWaleAdvertExpiry p s) = .next q1 → q1.pending = s.pending := by
  rintro q1 ⟨⟩; simp
@[simp] theorem State.joinIn_pending (s : State) (x epoch : Nat) : (State.joinIn s x epoch).pending = s.pending := by simp [State.joinIn]
theorem execWaleJoin_pending (p : Fin 6) (b : WaleBlock) (s : State) : ∀ q1, (execWaleJoin p b s) = .next q1 → q1.pending = s.pending := by
  rintro q1 ⟨⟩; (repeat' split) <;> simp
@[simp] theorem State.timeCorrect_pending (s : State) (o : Int) : (State.timeCorrect s o).pending = s.pending := by simp [State.timeCorrect]
@[simp] theorem State.timeLock_pending (s : State) (o : Int) : (State.timeLock s o).pending = s.pending := by simp [State.timeLock]
@[simp] theorem State.timeUpdate_pending (s : State) (p : Nat) (t1 t2 t3 t4 : Int) : (State.timeUpdate s p t1 t2 t3 t4).pending = s.pending := by simp [State.timeUpdate]
theorem execWaleTimeExchangeStart_pending (fine : Fin 2500) (s : State) : ∀ q1, (execWaleTimeExchangeStart fine s) = .next q1 → q1.pending = s.pending := by
  rintro q1 ⟨⟩; simp
theorem execWaleTsyRequest_pending (p : Fin 6) (xn : Fin 65536) (fine : Fin 2500) (turn : Nat) (junk : Bool) (s : State) : ∀ q1, (execWaleTsyRequest p xn fine turn junk s) = .next q1 → q1.pending = s.pending := by
  rintro q1 ⟨⟩; simp
theorem execWaleTsyResponse_pending (p : Fin 6) (xn : Fin 65536) (fine : Fin 2500) (junk : Bool) (s : State) : ∀ q1, (execWaleTsyResponse p xn fine junk s) = .next q1 → q1.pending = s.pending := by
  rintro q1 ⟨⟩; (repeat' split) <;> simp
@[simp] theorem State.followUpIn_pending (s : State) (p xn : Nat) (t2 t3 : Int) : (State.followUpIn s p xn t2 t3).pending = s.pending := by unfold State.followUpIn; (repeat' split) <;> simp
theorem execWaleTimeFollowUp_pending (p : Fin 6) (b : WaleBlock) (s : State) : ∀ q1, (execWaleTimeFollowUp p b s) = .next q1 → q1.pending = s.pending := by
  rintro q1 ⟨⟩; (repeat' split) <;> simp
theorem execWaleFollowUpTimeout_pending (s : State) : ∀ q1, (execWaleFollowUpTimeout s) = .next q1 → q1.pending = s.pending := by
  rintro q1 ⟨⟩; simp
@[simp] theorem State.bndSend_pending (s : State) (i : Nat) (x : Instant) : (State.bndSend s i x).pending = s.pending := by simp [State.bndSend]
@[simp] theorem State.bndIn_pending (s : State) (orig i : Nat) (x : Instant) : (State.bndIn s orig i x).pending = s.pending := by simp [State.bndIn]
theorem execWaleBnd_pending (p : Fin 6) (b : WaleBlock) (s : State) : ∀ q1, (execWaleBnd p b s) = .next q1 → q1.pending = s.pending := by
  intro q1 h
  unfold execWaleBnd at h
  injection h with h
  subst h
  apply State.blockIn_pending
  intro t
  split <;> simp
@[simp] theorem State.bndrefIn_pending (s : State) (orig refusing : Nat) : (State.bndrefIn s orig refusing).pending = s.pending := by simp [State.bndrefIn]
theorem execWaleBndref_pending (p : Fin 6) (b : WaleBlock) (s : State) : ∀ q1, (execWaleBndref p b s) = .next q1 → q1.pending = s.pending := by
  rintro q1 ⟨⟩; (repeat' split) <;> simp
@[simp] theorem State.tallyVote_pending (s : State) (x : Instant) (dev : Nat) (ready : Bool) : (State.tallyVote s x dev ready).pending = s.pending := by simp [State.tallyVote]
@[simp] theorem State.voteOn_pending (s : State) (x : Instant) (dev : Nat) (ready : Bool) : (State.voteOn s x dev ready).pending = s.pending := by simp [State.voteOn]
theorem execWaleVoteCutoff_pending (src : Fin 64) (s : State) : ∀ q1, (execWaleVoteCutoff src s) = .next q1 → q1.pending = s.pending := by
  rintro q1 ⟨⟩; (repeat' split) <;> simp
theorem execWaleVote_pending (p : Fin 6) (b : WaleBlock) (s : State) : ∀ q1, (execWaleVote p b s) = .next q1 → q1.pending = s.pending := by
  rintro q1 ⟨⟩; (repeat' split) <;> simp
@[simp] theorem State.verdictIn_pending (s : State) (x : Instant) (ready : Bool) : (State.verdictIn s x ready).pending = s.pending := by simp [State.verdictIn]
theorem execWaleVerdictTimer_pending (num den : Nat) (s : State) : ∀ q1, (execWaleVerdictTimer num den s) = .next q1 → q1.pending = s.pending := by
  rintro q1 ⟨⟩; simp
theorem execWaleVerdict_pending (p : Fin 6) (b : WaleBlock) (s : State) : ∀ q1, (execWaleVerdict p b s) = .next q1 → q1.pending = s.pending := by
  rintro q1 ⟨⟩; (repeat' split) <;> simp
@[simp] theorem State.readyReport_pending (s after : State) (src : Nat) (x : Instant) : (State.readyReport s after src x).pending = after.pending := by unfold State.readyReport; (repeat' split) <;> simp
theorem execWaleAlarm_pending (p : Fin 6) (b : WaleBlock) (s : State) : ∀ q1, (execWaleAlarm p b s) = .next q1 → q1.pending = s.pending := by
  rintro q1 ⟨⟩; (repeat' split) <;> simp
@[simp] theorem State.sysdoneSend_pending (s : State) : (State.sysdoneSend s).pending = s.pending := by simp [State.sysdoneSend]
@[simp] theorem State.rosterTake_pending (s : State) : (State.rosterTake s).pending = s.pending := by simp [State.rosterTake]
theorem execWaleDoneUpSend_pending (s : State) : ∀ q1, (execWaleDoneUpSend s) = .next q1 → q1.pending = s.pending := by
  rintro q1 ⟨⟩; simp
theorem execWaleDoneUp_pending (p : Fin 6) (b : WaleBlock) (s : State) : ∀ q1, (execWaleDoneUp p b s) = .next q1 → q1.pending = s.pending := by
  rintro q1 ⟨⟩; (repeat' split) <;> simp
theorem execWaleSysdone_pending (p : Fin 6) (b : WaleBlock) (s : State) : ∀ q1, (execWaleSysdone p b s) = .next q1 → q1.pending = s.pending := by
  rintro q1 ⟨⟩; (repeat' split) <;> simp
theorem execWaleSystemDoneInstant_pending (s : State) : ∀ q1, (execWaleSystemDoneInstant s) = .next q1 → q1.pending = s.pending := by
  rintro q1 ⟨⟩; simp
theorem execWaleSleepMsg_pending (p : Fin 6) (b : WaleBlock) (s : State) : ∀ q1, (execWaleSleepMsg p b s) = .next q1 → q1.pending = s.pending := by
  rintro q1 ⟨⟩; (repeat' split) <;> simp
@[simp] theorem State.awakeIn_pending (s : State) (x : Nat) : (State.awakeIn s x).pending = s.pending := by simp [State.awakeIn]
theorem execWaleAwake_pending (p : Fin 6) (b : WaleBlock) (s : State) : ∀ q1, (execWaleAwake p b s) = .next q1 → q1.pending = s.pending := by
  rintro q1 ⟨⟩; (repeat' split) <;> simp
theorem execWaleWake_pending (p : Fin 6) (b : WaleBlock) (s : State) : ∀ q1, (execWaleWake p b s) = .next q1 → q1.pending = s.pending := by
  rintro q1 ⟨⟩; (repeat' split) <;> simp
@[simp] theorem State.waleSleep_pending (s : State) : (State.waleSleep s).pending = s.pending := by simp [State.waleSleep]
@[simp] theorem State.waleWake_pending (s : State) : (State.waleWake s).pending = s.pending := by simp [State.waleWake]
@[simp] theorem State.waleCfgWrite_pending (s : State) (v : Word) : (State.waleCfgWrite s v).pending = s.pending := by simp [State.waleCfgWrite]

/-! HostPorts. -/

@[simp] theorem State.portStreamCut_pending (s : State) (p : Fin 2) : (State.portStreamCut s p).pending = s.pending := by simp [State.portStreamCut]
@[simp] theorem State.pcieDown_pending (s : State) (p : Fin 2) : (State.pcieDown s p).pending = s.pending := by simp [State.pcieDown]
@[simp] theorem State.epReset_pending (s : State) (p : Fin 2) : (State.epReset s p).pending = s.pending := by simp [State.epReset]
@[simp] theorem State.pcieFlr_pending (s : State) (p : Fin 2) : (State.pcieFlr s p).pending = s.pending := by simp [State.pcieFlr]
theorem execPcieLinkUp_pending (port : Fin 2) (gen : BitVec 3) (width : BitVec 2) (s : State) : ∀ q1, (execPcieLinkUp port gen width s) = .next q1 → q1.pending = s.pending := by
  rintro q1 ⟨⟩; simp
theorem execPcieLinkDown_pending (port : Fin 2) (s : State) : ∀ q1, (execPcieLinkDown port s) = .next q1 → q1.pending = s.pending := by
  rintro q1 ⟨⟩; simp
theorem execPcieFlr_pending (port : Fin 2) (s : State) : ∀ q1, (execPcieFlr port s) = .next q1 → q1.pending = s.pending := by
  rintro q1 ⟨⟩; simp
theorem execPcieHotReset_pending (port : Fin 2) (s : State) : ∀ q1, (execPcieHotReset port s) = .next q1 → q1.pending = s.pending := by
  rintro q1 ⟨⟩; simp
theorem execPciePerst_pending (port : Fin 2) (s : State) : ∀ q1, (execPciePerst port s) = .next q1 → q1.pending = s.pending := by
  rintro q1 ⟨⟩; simp
theorem execPciePowerStateChange_pending (port : Fin 2) (d3hot l1 : Bool) (cfg : EndpointCfg) (s : State) : ∀ q1, (execPciePowerStateChange port d3hot l1 cfg s) = .next q1 → q1.pending = s.pending := by
  rintro q1 ⟨⟩; simp
@[simp] theorem State.hpCtlWrite_pending (s : State) (ag : Agent) (p : Fin 2) (v : Word) : (State.hpCtlWrite s ag p v).pending = s.pending := by simp [State.hpCtlWrite]
theorem execHpSpirel_pending (ag : Agent) (port : Fin 2) (s : State) : ∀ q1, (execHpSpirel ag port s) = .next q1 → q1.pending = s.pending := by
  rintro q1 ⟨⟩; simp
@[simp] theorem State.windowWrite_pending (s : State) (p : Fin 2) (spi : Bool) (ws : List Word) : (State.windowWrite s p spi ws).pending = s.pending := by simp [State.windowWrite]
@[simp] theorem State.hpSend_pending (s : State) (ag : Agent) (p : Fin 2) (v : Word) : (State.hpSend s ag p v).pending = s.pending := by simp [State.hpSend]
theorem execHpSendEnd_pending (ag : Agent) (port : Fin 2) (v : Word) (s : State) : ∀ q1, (execHpSendEnd ag port v s) = .next q1 → q1.pending = s.pending := by
  rintro q1 ⟨⟩; simp
@[simp] theorem State.sretRead_pending (s : State) (p : Fin 2) : (State.sretRead s p).2.pending = s.pending := by unfold State.sretRead; dsimp only; repeat' first | (simp; done) | split
theorem execHpSretRead_pending (ag : Agent) (port : Fin 2) (s : State) : ∀ q1, (execHpSretRead ag port s) = .next q1 → q1.pending = s.pending := by
  rintro q1 ⟨⟩; simp
@[simp] theorem State.spiAnswer_pending (s : State) (p : Fin 2) : (State.spiAnswer s p).pending = s.pending := by simp [State.spiAnswer]
@[simp] theorem State.spiError_pending (s : State) (p : Fin 2) : (State.spiError s p).pending = s.pending := by simp [State.spiError]
theorem execSpiFrameError_pending (port : Fin 2) (s : State) : ∀ q1, (execSpiFrameError port s) = .next q1 → q1.pending = s.pending := by
  rintro q1 ⟨⟩; simp
@[simp] theorem State.semWrite_pending (s : State) (ag : Agent) (n : Nat) (v : Word) : (State.semWrite s ag n v).pending = s.pending := by simp [State.semWrite]
theorem execSemAcquire_pending (ag : Agent) (n : Fin 64) (s : State) : ∀ q1, (execSemAcquire ag n s) = .next q1 → q1.pending = s.pending := by
  rintro q1 ⟨⟩; simp
theorem execSemRelease_pending (ag : Agent) (n : Fin 64) (s : State) : ∀ q1, (execSemRelease ag n s) = .next q1 → q1.pending = s.pending := by
  rintro q1 ⟨⟩; simp
@[simp] theorem State.semForce_pending (s : State) (ag : Agent) (v : Word) : (State.semForce s ag v).pending = s.pending := by simp [State.semForce]
theorem execSemForce_pending (ag : Agent) (v : Word) (s : State) : ∀ q1, (execSemForce ag v s) = .next q1 → q1.pending = s.pending := by
  rintro q1 ⟨⟩; simp
@[simp] theorem State.mailCtl_pending (s : State) (ag : Agent) (m : Nat) (v : Word) : (State.mailCtl s ag m v).pending = s.pending := by simp [State.mailCtl]
@[simp] theorem State.mailData_pending (s : State) (m i : Nat) (v : Word) : (State.mailData s m i v).pending = s.pending := by simp [State.mailData]
theorem execMbRing_pending (ag : Agent) (m : Fin 16) (s : State) : ∀ q1, (execMbRing ag m s) = .next q1 → q1.pending = s.pending := by
  rintro q1 ⟨⟩; simp
theorem execMbAck_pending (ag : Agent) (m : Fin 16) (s : State) : ∀ q1, (execMbAck ag m s) = .next q1 → q1.pending = s.pending := by
  rintro q1 ⟨⟩; simp
theorem execMbDataWrite_pending (ag : Agent) (m : Fin 16) (i : Fin 8) (v : Word) (s : State) : ∀ q1, (execMbDataWrite ag m i v s) = .next q1 → q1.pending = s.pending := by
  rintro q1 ⟨⟩; simp

/-! Cluster. -/

@[simp] theorem State.coreRelease_pending (s : State) (c : Nat) : (State.coreRelease s c).pending = s.pending := by simp [State.coreRelease]
@[simp] theorem State.clctlWrite_pending (s : State) (v : Word) : (State.clctlWrite s v).pending = s.pending := by simp [State.clctlWrite]
theorem execClusterRunWrite_pending (ag : Agent) (v : Word) (s : State) : ∀ q1, (execClusterRunWrite ag v s) = .next q1 → q1.pending = s.pending := by
  rintro q1 ⟨⟩; simp
@[simp] theorem State.setWd_pending (s : State) (i : Nat) (w : WdSt) : (State.setWd s i w).pending = s.pending := by simp [State.setWd]
@[simp] theorem State.wdEnable_pending (s : State) (i : Nat) (on : Bool) : (State.wdEnable s i on).pending = s.pending := by simp [State.wdEnable]
@[simp] theorem State.wdKick_pending (s : State) (i : Nat) (v : Word) : (State.wdKick s i v).pending = s.pending := by simp [State.wdKick]
@[simp] theorem State.wdCore_pending (s : State) (c : Nat) : (State.wdCore s c).pending = s.pending := by simp [State.wdCore]
@[simp] theorem State.wdExpire_pending (s : State) (i : Nat) : (State.wdExpire s i).pending = s.pending := by simp [State.wdExpire]
theorem execWdEnable_pending (i : Fin 5) (s : State) : ∀ q1, (execWdEnable i s) = .next q1 → q1.pending = s.pending := by
  rintro q1 ⟨⟩; simp
theorem execWdKick_pending (i : Fin 5) (v : Word) (s : State) : ∀ q1, (execWdKick i v s) = .next q1 → q1.pending = s.pending := by
  rintro q1 ⟨⟩; simp
theorem execWdExpiry_pending (i : Fin 5) (s : State) : ∀ q1, (execWdExpiry i s) = .next q1 → q1.pending = s.pending := by
  rintro q1 ⟨⟩; simp
@[simp] theorem State.wdTick_pending (s : State) : (State.wdTick s).pending = s.pending := by simp [State.wdTick]
@[simp] theorem State.wdWrite_pending (s : State) (i o : Nat) (v : Word) : (State.wdWrite s i o v).pending = s.pending := by unfold State.wdWrite; (repeat' split) <;> simp
@[simp] theorem State.setGw_pending (s : State) (p : Nat) (g : GwSt) : (State.setGw s p g).pending = s.pending := by simp [State.setGw]
@[simp] theorem State.gwErr_pending (s : State) (p i : Nat) : (State.gwErr s p i).pending = s.pending := by simp [State.gwErr]
@[simp] theorem State.gwAnswer_pending (s : State) (o : GwOrigin) (bs : List (BitVec 64)) : (State.gwAnswer s o bs).pending = s.pending := by unfold State.gwAnswer; (repeat' split) <;> simp
theorem State.gwAccess_pending (s : State) (o : GwOrigin) (req : WindowReq) : ∀ q1, (State.gwAccess s o req) = some q1 → q1.pending = s.pending := by
  intro q1 h
  simp only [State.gwAccess] at h
  (repeat' split at h) <;> simp_all <;> (try (subst h; simp))
@[simp] theorem State.gwEdge_pending (s : State) (p : Nat) (ready : Bool) : (State.gwEdge s p ready).pending = s.pending := by unfold State.gwEdge; dsimp only; repeat' first | (simp; done) | split
@[simp] theorem State.gwBayEdge_pending (s : State) (bay net : Nat) (ready : Bool) : (State.gwBayEdge s bay net ready).pending = s.pending := by unfold State.gwBayEdge; (repeat' split) <;> simp
@[simp] theorem State.gwReadEnd_pending (s : State) (p : Nat) (r : GwRead) (bs : List (BitVec 64)) : (State.gwReadEnd s p r bs).pending = s.pending := by simp [State.gwReadEnd]
theorem execGwWindowResponse_pending (port : Fin 4) (tag : Fin 32) (data : List (BitVec 64)) (err : Bool) (s : State) : ∀ q1, (execGwWindowResponse port tag data err s) = .next q1 → q1.pending = s.pending := by
  rintro q1 ⟨⟩; (repeat' split) <;> simp
theorem execGwWindowTimeout_pending (port : Fin 4) (tag : Fin 32) (s : State) : ∀ q1, (execGwWindowTimeout port tag s) = .next q1 → q1.pending = s.pending := by
  rintro q1 ⟨⟩; (repeat' split) <;> simp
theorem execEventRaise_pending (n : Fin 448) (s : State) : ∀ q1, (execEventRaise n s) = .next q1 → q1.pending = s.pending := by
  rintro q1 ⟨⟩; simp
theorem execUserEventEdge_pending (w : Fin 2) (j : Fin 32) (s : State) : ∀ q1, (execUserEventEdge w j s) = .next q1 → q1.pending = s.pending := by
  rintro q1 ⟨⟩; simp
@[simp] theorem State.claim_pending (s : State) (c : Nat) : (State.claim s c).2.pending = s.pending := by unfold State.claim; (repeat' split) <;> simp
theorem execEvtClaim_pending (ag : Agent) (c : Fin 4) (s : State) : ∀ q1, (execEvtClaim ag c s) = .next q1 → q1.pending = s.pending := by
  rintro q1 ⟨⟩; simp
@[simp] theorem State.evtRaise_pending (s : State) (v : Word) : (State.evtRaise s v).pending = s.pending := by simp [State.evtRaise]
theorem execEvtRaiseWrite_pending (ag : Agent) (v : Word) (s : State) : ∀ q1, (execEvtRaiseWrite ag v s) = .next q1 → q1.pending = s.pending := by
  rintro q1 ⟨⟩; simp
@[simp] theorem State.evtSrcWrite_pending (s : State) (n : Nat) (v : Word) : (State.evtSrcWrite s n v).pending = s.pending := by simp [State.evtSrcWrite]
@[simp] theorem State.evtThrWrite_pending (s : State) (t : Nat) (v : Word) : (State.evtThrWrite s t v).pending = s.pending := by simp [State.evtThrWrite]
@[simp] theorem State.msixTableWrite_pending (s : State) (p : Fin 2) (k : Nat) (v : Word) : (State.msixTableWrite s p k v).pending = s.pending := by simp [State.msixTableWrite]

/-! Domains. -/

@[simp] theorem State.wytheOff_pending (s : State) (w : Nat) : (State.wytheOff s w).pending = s.pending := by simp [State.wytheOff]
@[simp] theorem State.lanesOff_pending (s : State) (rs : List Nat) : (State.lanesOff s rs).pending = s.pending := by simp [State.lanesOff]
@[simp] theorem State.hampOff_pending (s : State) : (State.hampOff s).pending = s.pending := by simp [State.hampOff]
@[simp] theorem State.railOff_pending (s : State) (r : Nat) : (State.railOff s r).pending = s.pending := by simp [State.railOff]
@[simp] theorem State.domainsOff_pending (s : State) (cause r : Nat) : (State.domainsOff s cause r).pending = s.pending := by unfold State.domainsOff; (repeat' split) <;> simp
@[simp] theorem State.fabricHeld_pending (s : State) : (State.fabricHeld s).pending = s.pending := by simp [State.fabricHeld]
@[simp] theorem State.enterSafe_pending (s : State) (cause r : Nat) : (State.enterSafe s cause r).pending = s.pending := by simp [State.enterSafe]
@[simp] theorem State.trip_pending (s : State) (cause r : Nat) : (State.trip s cause r).pending = s.pending := by unfold State.trip; (repeat' split) <;> simp
@[simp] theorem State.burnCut_pending (s : State) : (State.burnCut s).pending = s.pending := by unfold State.burnCut; (repeat' split) <;> simp
@[simp] theorem State.repairCut_pending (s : State) : (State.repairCut s).pending = s.pending := by unfold State.repairCut; (repeat' split) <;> simp
@[simp] theorem State.restart_pending (s : State) : (State.restart s).pending = s.pending := by simp [State.restart]
@[simp] theorem State.keepRegs_pending (s t : State) (offs : List Nat) : (State.keepRegs s t offs).pending = t.pending := by simp [State.keepRegs]

/-! Sounding. -/

@[simp] theorem State.setPhase_pending (s : State) (p : Nat) : (State.setPhase s p).pending = s.pending := by simp [State.setPhase]
@[simp] theorem State.sndResult_pending (s : State) (code : Nat) : (State.sndResult s code).pending = s.pending := by simp [State.sndResult]
@[simp] theorem State.setSnd_pending (s : State) (v : SndSt) : (State.setSnd s v).pending = s.pending := by simp [State.setSnd]
@[simp] theorem State.useSpare_pending (s : State) (col : Nat) : (State.useSpare s col).pending = s.pending := by simp [State.useSpare]
@[simp] theorem State.setSteer_pending (s : State) (n : Nat) (b : Bool) : (State.setSteer s n b).pending = s.pending := by simp [State.setSteer]
@[simp] theorem State.setCopying_pending (s : State) (n : Nat) (b : Bool) : (State.setCopying s n b).pending = s.pending := by simp [State.setCopying]
@[simp] theorem State.rowRepair_pending (s : State) (n rp : Nat) : (State.rowRepair s n rp).pending = s.pending := by simp [State.rowRepair]
@[simp] theorem State.rowRepairs_pending (s : State) (n k : Nat) (first : Option Nat) : (State.rowRepairs s n k first).pending = s.pending := by unfold State.rowRepairs; (repeat' split) <;> simp
@[simp] theorem State.rowLost_pending (s : State) (n rp : Nat) : (State.rowLost s n rp).pending = s.pending := by simp [State.rowLost]
@[simp] theorem State.spareRepair_pending (s : State) (n : Nat) : (State.spareRepair s n).pending = s.pending := by simp [State.spareRepair]
@[simp] theorem State.fuseCount_pending (s : State) : (State.fuseCount s).pending = s.pending := by simp [State.fuseCount]
@[simp] theorem State.fuseRepairs_pending (s : State) : (State.fuseRepairs s).pending = s.pending := by simp [State.fuseRepairs]
@[simp] theorem State.fuseBoot_pending (s : State) : (State.fuseBoot s).pending = s.pending := by simp [State.fuseBoot]
@[simp] theorem State.softRepair_pending (s : State) : (State.softRepair s).pending = s.pending := by simp [State.softRepair]
@[simp] theorem State.repairCreel_pending (s : State) (badSpares : List Nat) (n rowpairs : Nat) : (State.repairCreel s badSpares n rowpairs).2.pending = s.pending := by simp [State.repairCreel]
@[simp] theorem State.repairAll_pending (s : State) (badSpares : List Nat) (x0 : List CreelFail) : (State.repairAll s badSpares x0).1.pending = s.pending := by
  induction x0 generalizing s badSpares with
  | nil => simp [State.repairAll]
  | cons a l ih => simp [State.repairAll, ih]
@[simp] theorem State.soundBays_pending (s : State) (bays : List Nat) (rep : SoundReport) : (State.soundBays s bays rep).1.pending = s.pending := by simp [State.soundBays]
@[simp] theorem State.unrepairable_pending (s : State) (bay : Nat) : (State.unrepairable s bay).pending = s.pending := by simp [State.unrepairable]
theorem execLoadingSoundingBatchDone_pending (rep : SoundReport) (s : State) : ∀ q1, (execLoadingSoundingBatchDone rep s) = .next q1 → q1.pending = s.pending := by
  rintro q1 ⟨⟩; simp
@[simp] theorem State.sndRefuse_pending (s : State) (code : Nat) : (State.sndRefuse s code).pending = s.pending := by simp [State.sndRefuse]
@[simp] theorem State.sndStart_pending (s : State) : (State.sndStart s).pending = s.pending := by simp [State.sndStart]
@[simp] theorem State.sndGo_pending (s : State) (v : Word) : (State.sndGo s v).pending = s.pending := by unfold State.sndGo; dsimp only; repeat' first | (simp; done) | split
@[simp] theorem State.sndBack_pending (s : State) (res : Nat) : (State.sndBack s res).pending = s.pending := by simp [State.sndBack]
@[simp] theorem State.sndAbort_pending (s : State) : (State.sndAbort s).pending = s.pending := by simp [State.sndAbort]
@[simp] theorem State.sndEnd_pending (s : State) : (State.sndEnd s).pending = s.pending := by simp [State.sndEnd]
@[simp] theorem State.sndReqWrite_pending (s : State) (v : Word) : (State.sndReqWrite s v).pending = s.pending := by simp [State.sndReqWrite]
theorem execSoundingRequest_pending (ag : Agent) (v : Word) (s : State) : ∀ q1, (execSoundingRequest ag v s) = .next q1 → q1.pending = s.pending := by
  rintro q1 ⟨⟩; simp
theorem execSoundingAbort_pending (ag : Agent) (s : State) : ∀ q1, (execSoundingAbort ag s) = .next q1 → q1.pending = s.pending := by
  rintro q1 ⟨⟩; simp
theorem execSoundingCopyDone_pending (s : State) : ∀ q1, (execSoundingCopyDone s) = .next q1 → q1.pending = s.pending := by
  rintro q1 ⟨⟩; simp
@[simp] theorem State.sndRun_pending (s : State) (r : SoundRun) : (State.sndRun s r).pending = s.pending := by simp [State.sndRun]
theorem execSoundingRunDone_pending (r : SoundRun) (s : State) : ∀ q1, (execSoundingRunDone r s) = .next q1 → q1.pending = s.pending := by
  rintro q1 ⟨⟩; simp
theorem execSoundingMoveBackDone_pending (s : State) : ∀ q1, (execSoundingMoveBackDone s) = .next q1 → q1.pending = s.pending := by
  rintro q1 ⟨⟩; simp
@[simp] theorem State.fuseGo_pending (s : State) (v : Word) : (State.fuseGo s v).pending = s.pending := by simp [State.fuseGo]
theorem execFuseBurn_pending (ag : Agent) (v : Word) (s : State) : ∀ q1, (execFuseBurn ag v s) = .next q1 → q1.pending = s.pending := by
  rintro q1 ⟨⟩; simp
@[simp] theorem State.fuseEffect_pending (s : State) (e : Nat × Nat × Nat) : (State.fuseEffect s e).pending = s.pending := by simp [State.fuseEffect]
theorem execFuseBurnDone_pending (s : State) : ∀ q1, (execFuseBurnDone s) = .next q1 → q1.pending = s.pending := by
  rintro q1 ⟨⟩; (repeat' split) <;> simp
@[simp] theorem State.staleClrWrite_pending (s : State) (v : Word) : (State.staleClrWrite s v).pending = s.pending := by simp [State.staleClrWrite]
theorem execStaleClear_pending (ag : Agent) (v : Word) (s : State) : ∀ q1, (execStaleClear ag v s) = .next q1 → q1.pending = s.pending := by
  rintro q1 ⟨⟩; simp
@[simp] theorem State.sndReload_pending (s : State) : (State.sndReload s).pending = s.pending := by simp [State.sndReload]

/-! Loading. -/

@[simp] theorem State.readDir_pending (s : State) : (State.readDir s).pending = s.pending := by simp [State.readDir]
@[simp] theorem State.strapLatch_pending (s : State) (v : BitVec 7) : (State.strapLatch s v).pending = s.pending := by simp [State.strapLatch]
@[simp] theorem State.keeperStart_pending (s : State) (cause : Nat) : (State.keeperStart s cause).pending = s.pending := by simp [State.keeperStart]
theorem execVinFall_pending (s : State) : ∀ q1, (execVinFall s) = .next q1 → q1.pending = s.pending := by
  rintro q1 ⟨⟩; simp
theorem execPowerUpComplete_pending (straps : BitVec 7) (s : State) : ∀ q1, (execPowerUpComplete straps s) = .next q1 → q1.pending = s.pending := by
  rintro q1 ⟨⟩; simp
theorem execResetNFall_pending (s : State) : ∀ q1, (execResetNFall s) = .next q1 → q1.pending = s.pending := by
  rintro q1 ⟨⟩; simp
theorem execResetNRise_pending (s : State) : ∀ q1, (execResetNRise s) = .next q1 → q1.pending = s.pending := by
  rintro q1 ⟨⟩; simp
theorem execStrapLatch_pending (straps : BitVec 7) (s : State) : ∀ q1, (execStrapLatch straps s) = .next q1 → q1.pending = s.pending := by
  rintro q1 ⟨⟩; simp
theorem execXwaitExpiry_pending (present : Bool) (s : State) : ∀ q1, (execXwaitExpiry present s) = .next q1 → q1.pending = s.pending := by
  rintro q1 ⟨⟩; simp
@[simp] theorem State.bootNames_pending (s : State) (num : Nat) : (State.bootNames s num).pending = s.pending := by simp [State.bootNames]
@[simp] theorem State.keeperReads_pending (s : State) (agree xref : Bool) : (State.keeperReads s agree xref).pending = s.pending := by simp [State.keeperReads]
@[simp] theorem State.keeperWork_pending (s : State) (agree xref : Bool) : (State.keeperWork s agree xref).pending = s.pending := by simp [State.keeperWork]
@[simp] theorem State.testToken_pending (s : State) (vinOk : Bool) : (State.testToken s vinOk).2.pending = s.pending := by unfold State.testToken; (repeat' split) <;> simp
@[simp] theorem State.factory_pending (s : State) : (State.factory s).pending = s.pending := by simp [State.factory]
@[simp] theorem State.startTest_pending (s : State) : (State.startTest s).pending = s.pending := by simp [State.startTest]
@[simp] theorem State.keeperEnds_pending (s : State) (vinOk : Bool) : (State.keeperEnds s vinOk).pending = s.pending := by
  have e := State.testToken_pending s vinOk
  unfold State.keeperEnds
  split
  · exact State.factory_pending s
  · exact State.factory_pending s
  · exact State.startTest_pending s
  · exact State.startTest_pending s
  · split <;> (rename_i hr; rw [hr] at e; simpa using e)
  · exact State.enterSafe_pending s 4 0
  · exact State.enterSafe_pending s 3 0
theorem execKeeperBootComplete_pending (agree xref vinOk : Bool) (s : State) : ∀ q1, (execKeeperBootComplete agree xref vinOk s) = .next q1 → q1.pending = s.pending := by
  rintro q1 ⟨⟩; simp
@[simp] theorem State.applyBanks_pending (s : State) : (State.applyBanks s).pending = s.pending := by simp [State.applyBanks]
theorem execBankRepower_pending (b : Fin 16) (s : State) : ∀ q1, (execBankRepower b s) = .next q1 → q1.pending = s.pending := by
  rintro q1 ⟨⟩; simp
@[simp] theorem State.applyWale_pending (s : State) : (State.applyWale s).pending = s.pending := by simp [State.applyWale]
@[simp] theorem State.startCals_pending (s : State) : (State.startCals s).pending = s.pending := by simp [State.startCals]
@[simp] theorem State.journalErase_pending (s : State) : (State.journalErase s).pending = s.pending := by simp [State.journalErase]
@[simp] theorem State.firstAttempt_pending (s : State) : (State.firstAttempt s).pending = s.pending := by simp [State.firstAttempt]
@[simp] theorem State.step6_pending (s : State) (sounded : Nat) : (State.step6 s sounded).pending = s.pending := by simp [State.step6]
@[simp] theorem State.loadingEntry_pending (s : State) : (State.loadingEntry s).pending = s.pending := by simp [State.loadingEntry]
@[simp] theorem State.reloadNow_pending (s : State) (cause : Nat) : (State.reloadNow s cause).pending = s.pending := by simp [State.reloadNow]
theorem execStartTestComplete_pending (hub : Bool) (rep : SoundReport) (s : State) : ∀ q1, (execStartTestComplete hub rep s) = .next q1 → q1.pending = s.pending := by
  rintro q1 ⟨⟩; simp
theorem execSrcWaitExpiry_pending (s : State) : ∀ q1, (execSrcWaitExpiry s) = .next q1 → q1.pending = s.pending := by
  rintro q1 ⟨⟩; simp
@[simp] theorem State.partCommit_pending (s : State) (j : PartJob) : (State.partCommit s j).pending = s.pending := by simp [State.partCommit]
theorem execPriorityCommit_pending (s : State) : ∀ q1, (execPriorityCommit s) = .next q1 → q1.pending = s.pending := by
  rintro q1 ⟨⟩; (repeat' split) <;> simp
@[simp] theorem State.leaveInit_pending (s : State) (bays : Nat) : (State.leaveInit s bays).pending = s.pending := by simp [State.leaveInit]
@[simp] theorem State.enableOuts_pending (s : State) (edge : Nat) : (State.enableOuts s edge).pending = s.pending := by simp [State.enableOuts]
theorem execPriorityInitLeave_pending (s : State) : ∀ q1, (execPriorityInitLeave s) = .next q1 → q1.pending = s.pending := by
  rintro q1 ⟨⟩; simp
theorem execPriorityOutputEnable_pending (s : State) : ∀ q1, (execPriorityOutputEnable s) = .next q1 → q1.pending = s.pending := by
  rintro q1 ⟨⟩; simp
theorem execPriorityStageTimeout_pending (s : State) : ∀ q1, (execPriorityStageTimeout s) = .next q1 → q1.pending = s.pending := by
  rintro q1 ⟨⟩; (repeat' split) <;> simp
theorem execMainCommit_pending (s : State) : ∀ q1, (execMainCommit s) = .next q1 → q1.pending = s.pending := by
  rintro q1 ⟨⟩; (repeat' split) <;> simp
@[simp] theorem State.bondRelease_pending (s : State) : (State.bondRelease s).pending = s.pending := by simp [State.bondRelease]
@[simp] theorem State.enterRun_pending (s : State) : (State.enterRun s).pending = s.pending := by simp [State.enterRun]
theorem execReleaseStart_pending (s : State) : ∀ q1, (execReleaseStart s) = .next q1 → q1.pending = s.pending := by
  rintro q1 ⟨⟩; simp
theorem execReleaseInitLeave_pending (s : State) : ∀ q1, (execReleaseInitLeave s) = .next q1 → q1.pending = s.pending := by
  rintro q1 ⟨⟩; simp
theorem execReleaseOutputEnable_pending (s : State) : ∀ q1, (execReleaseOutputEnable s) = .next q1 → q1.pending = s.pending := by
  rintro q1 ⟨⟩; simp
theorem execReleaseDoneRelease_pending (s : State) : ∀ q1, (execReleaseDoneRelease s) = .next q1 → q1.pending = s.pending := by
  rintro q1 ⟨⟩; simp
theorem execDoneHigh_pending (s : State) : ∀ q1, (execDoneHigh s) = .next q1 → q1.pending = s.pending := by
  rintro q1 ⟨⟩; simp
theorem execDoneWaitExpiry_pending (s : State) : ∀ q1, (execDoneWaitExpiry s) = .next q1 → q1.pending = s.pending := by
  rintro q1 ⟨⟩; simp
theorem execJournalEraseStart_pending (s : State) : ∀ q1, (execJournalEraseStart s) = .next q1 → q1.pending = s.pending := by
  rintro q1 ⟨⟩; simp
@[simp] theorem State.bootClrWrite_pending (s : State) (v : Word) : (State.bootClrWrite s v).pending = s.pending := by simp [State.bootClrWrite]
theorem execBootClear_pending (ag : Agent) (v : Word) (s : State) : ∀ q1, (execBootClear ag v s) = .next q1 → q1.pending = s.pending := by
  rintro q1 ⟨⟩; simp

/-! Power. -/

@[simp] theorem State.setPwr_pending (s : State) (p : PwrSt) : (State.setPwr s p).pending = s.pending := by simp [State.setPwr]
@[simp] theorem State.pwrResult_pending (s : State) (code kind domain : Nat) : (State.pwrResult s code kind domain).pending = s.pending := by simp [State.pwrResult]
@[simp] theorem State.setAsked_pending (s : State) (v : Option Word) : (State.setAsked s v).pending = s.pending := by simp [State.setAsked]
@[simp] theorem State.setMstate_pending (s : State) (v : Nat) : (State.setMstate s v).pending = s.pending := by simp [State.setMstate]
@[simp] theorem State.rampTo_pending (s : State) (l : Nat × Nat) (byReq : Bool) : (State.rampTo s l byReq).pending = s.pending := by simp [State.rampTo]
@[simp] theorem State.rampLevels_pending (s : State) : (State.rampLevels s).pending = s.pending := by simp [State.rampLevels]
@[simp] theorem State.drainStart_pending (s : State) (mode : Nat) : (State.drainStart s mode).pending = s.pending := by simp [State.drainStart]
@[simp] theorem State.drainEnd_pending (s : State) : (State.drainEnd s).pending = s.pending := by simp [State.drainEnd]
@[simp] theorem State.dozeEnter_pending (s : State) : (State.dozeEnter s).pending = s.pending := by simp [State.dozeEnter]
@[simp] theorem State.modeBegin_pending (s : State) (mode : Nat) : (State.modeBegin s mode).pending = s.pending := by unfold State.modeBegin; (repeat' split) <;> simp
@[simp] theorem State.wokenRun_pending (s : State) : (State.wokenRun s).pending = s.pending := by simp [State.wokenRun]
@[simp] theorem State.rampEnd_pending (s : State) : (State.rampEnd s).pending = s.pending := by simp [State.rampEnd]
theorem execPlRampDone_pending (s : State) : ∀ q1, (execPlRampDone s) = .next q1 → q1.pending = s.pending := by
  rintro q1 ⟨⟩; simp
@[simp] theorem State.plReqWrite_pending (s : State) (v : Word) : (State.plReqWrite s v).pending = s.pending := by simp [State.plReqWrite]
theorem execPlRequest_pending (ag : Agent) (v : Word) (s : State) : ∀ q1, (execPlRequest ag v s) = .next q1 → q1.pending = s.pending := by
  rintro q1 ⟨⟩; simp
@[simp] theorem State.plLatch_pending (s : State) (src : Nat) : (State.plLatch s src).pending = s.pending := by unfold State.plLatch; (repeat' split) <;> simp
@[simp] theorem State.breachTest_pending (s t : State) (src : Nat) : (s.breachTest t src).pending = s.pending := by
  unfold State.breachTest
  split
  · rfl
  · split <;> rfl
@[simp] theorem State.plDeliver_pending (s : State) (src : Nat) : (State.plDeliver s src).pending = s.pending := by unfold State.plDeliver; dsimp only; repeat' first | (simp; done) | split
@[simp] theorem State.mreqWrite_pending (s : State) (v : Word) : (State.mreqWrite s v).pending = s.pending := by unfold State.mreqWrite; dsimp only; repeat' first | (simp; done) | split
theorem execModeRequestDoze_pending (ag : Agent) (s : State) : ∀ q1, (execModeRequestDoze ag s) = .next q1 → q1.pending = s.pending := by
  rintro q1 ⟨⟩; simp
theorem execModeRequestSleep_pending (ag : Agent) (s : State) : ∀ q1, (execModeRequestSleep ag s) = .next q1 → q1.pending = s.pending := by
  rintro q1 ⟨⟩; simp
theorem execModeRequestStandby_pending (ag : Agent) (s : State) : ∀ q1, (execModeRequestStandby ag s) = .next q1 → q1.pending = s.pending := by
  rintro q1 ⟨⟩; simp
@[simp] theorem State.clocksStop_pending (s : State) : (State.clocksStop s).pending = s.pending := by simp [State.clocksStop]
@[simp] theorem State.sleepSteps_pending (s : State) : (State.sleepSteps s).pending = s.pending := by simp [State.sleepSteps]
@[simp] theorem State.standbyEnter_pending (s : State) : (State.standbyEnter s).pending = s.pending := by simp [State.standbyEnter]
@[simp] theorem State.quiesced_pending (s : State) : (State.quiesced s).pending = s.pending := by simp [State.quiesced]
theorem execQuiesceDone_pending (s : State) : ∀ q1, (execQuiesceDone s) = .next q1 → q1.pending = s.pending := by
  rintro q1 ⟨⟩; simp
theorem execQuiesceTimeout_pending (busy : BitVec 4) (s : State) : ∀ q1, (execQuiesceTimeout busy s) = .next q1 → q1.pending = s.pending := by
  rintro q1 ⟨⟩; (repeat' split) <;> simp
@[simp] theorem State.wakeRecord_pending (s : State) (first : Bool) (src port from_ : Nat) : (State.wakeRecord s first src port from_).pending = s.pending := by simp [State.wakeRecord]
@[simp] theorem State.sleepWake_pending (s : State) : (State.sleepWake s).pending = s.pending := by simp [State.sleepWake]
theorem execSleepEntered_pending (s : State) : ∀ q1, (execSleepEntered s) = .next q1 → q1.pending = s.pending := by
  rintro q1 ⟨⟩; simp
@[simp] theorem State.standbyWake_pending (s : State) : (State.standbyWake s).pending = s.pending := by simp [State.standbyWake]
@[simp] theorem State.wakeSource_pending (s : State) (src port : Nat) : (State.wakeSource s src port).pending = s.pending := by simp [State.wakeSource]
theorem execWakeSource_pending (src : Fin 8) (port : Fin 2) (s : State) : ∀ q1, (execWakeSource src port s) = .next q1 → q1.pending = s.pending := by
  rintro q1 ⟨⟩; simp
@[simp] theorem State.wakeTimer_pending (s : State) : (State.wakeTimer s).pending = s.pending := by simp [State.wakeTimer]
theorem execWakeTimerExpiry_pending (s : State) : ∀ q1, (execWakeTimerExpiry s) = .next q1 → q1.pending = s.pending := by
  rintro q1 ⟨⟩; simp
@[simp] theorem State.staleBay_pending (s : State) (b : Nat) : (State.staleBay s b).pending = s.pending := by simp [State.staleBay]
@[simp] theorem State.staleCluster_pending (s : State) : (State.staleCluster s).pending = s.pending := by simp [State.staleCluster]
theorem execSleepWakeRun_pending (stale : StaleBanks) (s : State) : ∀ q1, (execSleepWakeRun stale s) = .next q1 → q1.pending = s.pending := by
  rintro q1 ⟨⟩; simp
@[simp] theorem State.gradientTest_pending (s : State) (i : Nat) (diff limit rearm : Int) : (State.gradientTest s i diff limit rearm).pending = s.pending := by simp [State.gradientTest]
@[simp] theorem State.tempWarning_pending (s : State) (top : Int) : (State.tempWarning s top).pending = s.pending := by simp [State.tempWarning]
theorem execThermalSample_pending (bays hub : List (BitVec 8)) (s : State) : ∀ q1, (execThermalSample bays hub s) = .next q1 → q1.pending = s.pending := by
  rintro q1 ⟨⟩; simp
theorem execRegulatorFault_pending (r : Fin 26) (s : State) : ∀ q1, (execRegulatorFault r s) = .next q1 → q1.pending = s.pending := by
  rintro q1 ⟨⟩; simp
theorem execRailWarning_pending (r : Fin 26) (s : State) : ∀ q1, (execRailWarning r s) = .next q1 → q1.pending = s.pending := by
  rintro q1 ⟨⟩; simp
theorem execVinLow_pending (s : State) : ∀ q1, (execVinLow s) = .next q1 → q1.pending = s.pending := by
  rintro q1 ⟨⟩; simp
theorem execVbatLow_pending (s : State) : ∀ q1, (execVbatLow s) = .next q1 → q1.pending = s.pending := by
  rintro q1 ⟨⟩; simp
@[simp] theorem State.reloadRequest_pending (s : State) (cause : Nat) : (State.reloadRequest s cause).pending = s.pending := by simp [State.reloadRequest]
theorem execProgramNFall_pending (s : State) : ∀ q1, (execProgramNFall s) = .next q1 → q1.pending = s.pending := by
  rintro q1 ⟨⟩; simp
theorem execProgramNRise_pending (s : State) : ∀ q1, (execProgramNRise s) = .next q1 → q1.pending = s.pending := by
  rintro q1 ⟨⟩; simp
@[simp] theorem State.sysCtlWrite_pending (s : State) (v : Word) : (State.sysCtlWrite s v).pending = s.pending := by simp [State.sysCtlWrite]
theorem execSysCtlReload_pending (ag : Agent) (v : Word) (s : State) : ∀ q1, (execSysCtlReload ag v s) = .next q1 → q1.pending = s.pending := by
  rintro q1 ⟨⟩; simp

/-! LifeCycle. -/

@[simp] theorem State.lcRefuse_pending (s : State) (jtag : Bool) (code : Nat) : (State.lcRefuse s jtag code).pending = s.pending := by simp [State.lcRefuse]
@[simp] theorem State.lcPresent_pending (s : State) (jtag : Bool) (bytes : List Byte) : (State.lcPresent s jtag bytes).pending = s.pending := by simp [State.lcPresent]
@[simp] theorem State.lcGo_pending (s : State) : (State.lcGo s).pending = s.pending := by simp [State.lcGo]
@[simp] theorem State.lcClear_pending (s : State) : (State.lcClear s).pending = s.pending := by simp [State.lcClear]
@[simp] theorem State.reqctlWrite_pending (s : State) (v : Word) : (State.reqctlWrite s v).pending = s.pending := by simp [State.reqctlWrite]
@[simp] theorem State.reqbufWrite_pending (s : State) (i : Nat) (v : Word) : (State.reqbufWrite s i v).pending = s.pending := by simp [State.reqbufWrite]
@[simp] theorem State.lcJtagToken_pending (s : State) : (State.lcJtagToken s).pending = s.pending := by unfold State.lcJtagToken; (repeat' split) <;> simp
@[simp] theorem State.zeroise_pending (s : State) (cause : Nat) : (State.zeroise s cause).pending = s.pending := by simp [State.zeroise]
@[simp] theorem State.burnBegins_pending (s : State) (r : LcReq) : (State.burnBegins s r).pending = s.pending := by simp [State.burnBegins]
@[simp] theorem State.lcVerified_pending (s : State) (r : LcReq) (vinOk : Bool) : (State.lcVerified s r vinOk).pending = s.pending := by unfold State.lcVerified; (repeat' split) <;> simp
@[simp] theorem State.loadBbr_pending (s : State) (k : Nat) : (State.loadBbr s k).pending = s.pending := by simp [State.loadBbr]
@[simp] theorem State.loadFuseKey_pending (s : State) : (State.loadFuseKey s).pending = s.pending := by simp [State.loadFuseKey]
@[simp] theorem State.lcPendingState_pending (s : State) (next : Nat) : (State.lcPendingState s next).pending = s.pending := by simp [State.lcPendingState]
@[simp] theorem State.lcDone_pending (s : State) (jtag : Bool) : (State.lcDone s jtag).pending = s.pending := by simp [State.lcDone]
@[simp] theorem State.lcAction_pending (s : State) (r : LcReq) : (State.lcAction s r).pending = s.pending := by unfold State.lcAction; (repeat' split) <;> simp
@[simp] theorem State.lcBurnt_pending (s : State) (r : LcReq) (fs : List FuseRef) (failed : Option Nat) : (State.lcBurnt s r fs failed).pending = s.pending := by unfold State.lcBurnt; (repeat' split) <;> simp
theorem execLcTransition_pending (ag : Agent) (s : State) : ∀ q1, (execLcTransition ag s) = .next q1 → q1.pending = s.pending := by
  rintro q1 ⟨⟩; simp
theorem execLcSetOwner_pending (ag : Agent) (s : State) : ∀ q1, (execLcSetOwner ag s) = .next q1 → q1.pending = s.pending := by
  rintro q1 ⟨⟩; simp
theorem execLcSetKeyFuse_pending (ag : Agent) (s : State) : ∀ q1, (execLcSetKeyFuse ag s) = .next q1 → q1.pending = s.pending := by
  rintro q1 ⟨⟩; simp
theorem execLcLoadKeyBbr_pending (ag : Agent) (s : State) : ∀ q1, (execLcLoadKeyBbr ag s) = .next q1 → q1.pending = s.pending := by
  rintro q1 ⟨⟩; simp
theorem execLcClearKeyBbr_pending (ag : Agent) (s : State) : ∀ q1, (execLcClearKeyBbr ag s) = .next q1 → q1.pending = s.pending := by
  rintro q1 ⟨⟩; simp
theorem execLcDebugToken_pending (ag : Agent) (jtag : Bool) (s : State) : ∀ q1, (execLcDebugToken ag jtag s) = .next q1 → q1.pending = s.pending := by
  rintro q1 ⟨⟩; simp
theorem execLcReqbufClear_pending (ag : Agent) (s : State) : ∀ q1, (execLcReqbufClear ag s) = .next q1 → q1.pending = s.pending := by
  rintro q1 ⟨⟩; simp
theorem execLcRequestVerified_pending (vinOk : Bool) (s : State) : ∀ q1, (execLcRequestVerified vinOk s) = .next q1 → q1.pending = s.pending := by
  rintro q1 ⟨⟩; (repeat' split) <;> simp
theorem execLcBurnDone_pending (failed : Option Nat) (s : State) : ∀ q1, (execLcBurnDone failed s) = .next q1 → q1.pending = s.pending := by
  rintro q1 ⟨⟩; (repeat' split) <;> simp
theorem execTamperEvent_pending (cause : Fin 3) (s : State) : ∀ q1, (execTamperEvent cause s) = .next q1 → q1.pending = s.pending := by
  rintro q1 ⟨⟩; simp
@[simp] theorem State.tamperWrite_pending (s : State) (v : Word) : (State.tamperWrite s v).pending = s.pending := by simp [State.tamperWrite]
theorem execZeroiseWrite_pending (ag : Agent) (v : Word) (s : State) : ∀ q1, (execZeroiseWrite ag v s) = .next q1 → q1.pending = s.pending := by
  rintro q1 ⟨⟩; simp
@[simp] theorem State.debugWrite_pending (s : State) (v : Word) : (State.debugWrite s v).pending = s.pending := by simp [State.debugWrite]
theorem execDebugClose_pending (ag : Agent) (s : State) : ∀ q1, (execDebugClose ag s) = .next q1 → q1.pending = s.pending := by
  rintro q1 ⟨⟩; simp
@[simp] theorem State.tapInstr_pending (s : State) (code : Nat) : (State.tapInstr s code).pending = s.pending := by simp [State.tapInstr]
@[simp] theorem State.tapCapture_pending (s : State) (code : Nat) (w : Word) : (State.tapCapture s code w).pending = s.pending := by simp [State.tapCapture]
theorem execJtagTapReset_pending (s : State) : ∀ q1, (execJtagTapReset s) = .next q1 → q1.pending = s.pending := by
  rintro q1 ⟨⟩; simp
theorem execJtagLcTokenUpdate_pending (shifts : Nat) (bytes : List Byte) (s : State) : ∀ q1, (execJtagLcTokenUpdate shifts bytes s) = .next q1 → q1.pending = s.pending := by
  rintro q1 ⟨⟩; simp
theorem execJtagExtest_pending (s : State) : ∀ q1, (execJtagExtest s) = .next q1 → q1.pending = s.pending := by
  rintro q1 ⟨⟩; simp
theorem execJtagClamp_pending (s : State) : ∀ q1, (execJtagClamp s) = .next q1 → q1.pending = s.pending := by
  rintro q1 ⟨⟩; simp
theorem execJtagHighz_pending (s : State) : ∀ q1, (execJtagHighz s) = .next q1 → q1.pending = s.pending := by
  rintro q1 ⟨⟩; simp
theorem execJtagIdcode_pending (s : State) : ∀ q1, (execJtagIdcode s) = .next q1 → q1.pending = s.pending := by
  rintro q1 ⟨⟩; simp
theorem execJtagSamplePreload_pending (s : State) : ∀ q1, (execJtagSamplePreload s) = .next q1 → q1.pending = s.pending := by
  rintro q1 ⟨⟩; simp
theorem execJtagLcToken_pending (s : State) : ∀ q1, (execJtagLcToken s) = .next q1 → q1.pending = s.pending := by
  rintro q1 ⟨⟩; simp
theorem execJtagLcStatus_pending (s : State) : ∀ q1, (execJtagLcStatus s) = .next q1 → q1.pending = s.pending := by
  rintro q1 ⟨⟩; simp
theorem execJtagDmi_pending (s : State) : ∀ q1, (execJtagDmi s) = .next q1 → q1.pending = s.pending := by
  rintro q1 ⟨⟩; simp
theorem execJtagGrenricTest_pending (code : Fin 16) (s : State) : ∀ q1, (execJtagGrenricTest code s) = .next q1 → q1.pending = s.pending := by
  rintro q1 ⟨⟩; simp
theorem execJtagBypass_pending (s : State) : ∀ q1, (execJtagBypass s) = .next q1 → q1.pending = s.pending := by
  rintro q1 ⟨⟩; simp

/-! Gates. -/

@[simp] theorem State.gateRequest_pending (s : State) (ag : Agent) (i : Nat) : (State.gateRequest s ag i).pending = s.pending := by simp [State.gateRequest]
@[simp] theorem State.gateApply_pending (s : State) (i : Nat) : (State.gateApply s i).pending = s.pending := by simp [State.gateApply]
@[simp] theorem State.gateRefuse_pending (s : State) (i : Nat) : (State.gateRefuse s i).pending = s.pending := by simp [State.gateRefuse]
@[simp] theorem State.gateOpens_pending (s : State) (i : Nat) : (State.gateOpens s i).pending = s.pending := by simp [State.gateOpens]
@[simp] theorem State.hgreqWrite_pending (s : State) (ag : Agent) (j : Nat) (v : Word) : (State.hgreqWrite s ag j v).pending = s.pending := by simp [State.hgreqWrite]
theorem execHardBlockGateRequest_pending (ag : Agent) (blk : Fin 64) (s : State) : ∀ q1, (execHardBlockGateRequest ag blk s) = .next q1 → q1.pending = s.pending := by
  rintro q1 ⟨⟩; simp
theorem execHardBlockGateApply_pending (blk : Fin 64) (s : State) : ∀ q1, (execHardBlockGateApply blk s) = .next q1 → q1.pending = s.pending := by
  rintro q1 ⟨⟩; simp
theorem execHardBlockGateRefused_pending (blk : Fin 64) (s : State) : ∀ q1, (execHardBlockGateRefused blk s) = .next q1 → q1.pending = s.pending := by
  rintro q1 ⟨⟩; simp
theorem execHardBlockGateOpen_pending (ag : Agent) (blk : Fin 64) (s : State) : ∀ q1, (execHardBlockGateOpen ag blk s) = .next q1 → q1.pending = s.pending := by
  rintro q1 ⟨⟩; simp

/-! Boundary. -/

@[simp] theorem State.mbWrite_pending (s : State) (i : Nat) (v : Word) : (State.mbWrite s i v).pending = s.pending := by simp [State.mbWrite]
theorem execMbFire_pending (ag : Agent) (i : Fin 8) (ctl : Word) (s : State) : ∀ q1, (execMbFire ag i ctl s) = .next q1 → q1.pending = s.pending := by
  rintro q1 ⟨⟩; simp
@[simp] theorem State.clockApply_pending (s : State) (vals : List (Nat × Word)) : (State.clockApply s vals).pending = s.pending := by simp [State.clockApply]
@[simp] theorem State.latch_pending (s : State) (src : Nat) (x : Instant) : (State.latch s src x).pending = s.pending := by simp [State.latch]
theorem execBoundaryLatch_pending (src : Fin 64) (s : State) : ∀ q1, (execBoundaryLatch src s) = .next q1 → q1.pending = s.pending := by
  rintro q1 ⟨⟩; (repeat' split) <;> simp
@[simp] theorem State.rwbApply_pending (s : State) (x : Instant) (vals : List (Nat × Word)) : (State.rwbApply s x vals).pending = s.pending := by
  unfold State.rwbApply
  dsimp only
  rw [foldl_pending _ (fun t n => State.laneCfgApply_pending t n vals),
    foldl_pending _ (fun t q => State.qpllApply_pending t q vals), State.fbrsApply_pending,
    foldl_pending _ (fun t g => State.genApply_pending t g x vals), foldl_pending, foldl_pending]
  · intro t b; split <;> simp
  · intro t i; split <;> simp
@[simp] theorem State.genEvent_pending (s : State) (g : Nat) (x : Instant) (kept : Bool) : (State.genEvent s g x kept).pending = s.pending := by unfold State.genEvent; dsimp only; repeat' first | (simp; done) | split
@[simp] theorem State.instantOver_pending (s : State) (src : Nat) (x : Instant) (kept : Bool) : (State.instantOver s src x kept).pending = s.pending := by unfold State.instantOver; (repeat' split) <;> simp
@[simp] theorem State.tapsOf_pending (s : State) (src : Nat) (x : Instant) : (State.tapsOf s src x).pending = s.pending := by simp [State.tapsOf]
@[simp] theorem State.eventLines_pending (s : State) (src : Nat) : (State.eventLines s src).pending = s.pending := by simp [State.eventLines]
@[simp] theorem State.delivery_pending (s : State) (a : Announced) : (State.delivery s a).pending = s.pending := by simp [State.delivery]
theorem execBoundaryDelivery_pending (src : Fin 64) (s : State) : ∀ q1, (execBoundaryDelivery src s) = .next q1 → q1.pending = s.pending := by
  rintro q1 ⟨⟩; (repeat' split) <;> simp

/-! Pins. -/

@[simp] theorem State.setPad_pending (s : State) (n : Nat) (p : PadSt) : (State.setPad s n p).pending = s.pending := by simp [State.setPad]
@[simp] theorem State.padEdge_pending (s : State) (k net i : Nat) (pins : PadPins) : (State.padEdge s k net i pins).pending = s.pending := by simp [State.padEdge]
@[simp] theorem State.padsEdge_pending (s : State) (k net : Nat) (p : EdgePins) : (State.padsEdge s k net p).pending = s.pending := by simp [State.padsEdge]

/-! Manager. -/

@[simp] theorem State.rqGo_pending (s : State) (n : Nat) : (State.rqGo s n).pending = s.pending := by simp [State.rqGo]
@[simp] theorem State.rqCtlWrite_pending (s : State) (n : Nat) (v : Word) : (State.rqCtlWrite s n v).pending = s.pending := by simp [State.rqCtlWrite]
@[simp] theorem State.waleWrite_pending (s : State) (off : Nat) (v : Word) : (State.waleWrite s off v).pending = s.pending := by simp [State.waleWrite]
@[simp] theorem State.lcWrite_pending (s : State) (off : Nat) (v : Word) : (State.lcWrite s off v).pending = s.pending := by simp [State.lcWrite]
@[simp] theorem State.sysWrite_pending (s : State) (off : Nat) (v : Word) : (State.sysWrite s off v).pending = s.pending := by simp [State.sysWrite]
@[simp] theorem State.mailWrite_pending (s : State) (ag : Agent) (m o : Nat) (v : Word) : (State.mailWrite s ag m o v).pending = s.pending := by simp [State.mailWrite]
@[simp] theorem State.semBlockWrite_pending (s : State) (ag : Agent) (off : Nat) (v : Word) : (State.semBlockWrite s ag off v).pending = s.pending := by simp [State.semBlockWrite]
@[simp] theorem State.evtWrite_pending (s : State) (off : Nat) (v : Word) : (State.evtWrite s off v).pending = s.pending := by simp [State.evtWrite]
@[simp] theorem State.hpWrite_pending (s : State) (ag : Agent) (p : Fin 2) (off : Nat) (v : Word) : (State.hpWrite s ag p off v).pending = s.pending := by simp [State.hpWrite]
@[simp] theorem State.pwrWrite_pending (s : State) (off : Nat) (v : Word) : (State.pwrWrite s off v).pending = s.pending := by simp [State.pwrWrite]
@[simp] theorem State.sndWrite_pending (s : State) (off : Nat) (v : Word) : (State.sndWrite s off v).pending = s.pending := by simp [State.sndWrite]
@[simp] theorem State.timeWrite_pending (s : State) (ag : Agent) (off : Nat) (v : Word) : (State.timeWrite s ag off v).pending = s.pending := by simp [State.timeWrite]
@[simp] theorem State.mgrEffect_pending (s : State) (ag : Agent) (off : Nat) (v : Word) : (State.mgrEffect s ag off v).pending = s.pending := by simp [State.mgrEffect]
@[simp] theorem State.mgrWrite_pending (s : State) (ag : Agent) (off : Nat) (v : Word) : (State.mgrWrite s ag off v).pending = s.pending := by unfold State.mgrWrite; (repeat' split) <;> simp
@[simp] theorem State.measured_pending (s : State) (off : Nat) : (State.measured s off).2.pending = s.pending := by simp [State.measured]
@[simp] theorem State.mgrValue_pending (s : State) (ag : Agent) (off : Nat) : (State.mgrValue s ag off).2.pending = s.pending := by simp [State.mgrValue]
@[simp] theorem State.mgrRead_pending (s : State) (ag : Agent) (off : Nat) : (State.mgrRead s ag off).2.pending = s.pending := by unfold State.mgrRead; (repeat' split) <;> simp

/-! Access. -/

@[simp] theorem State.sramStore_pending (s : State) (a : Nat) (x0 : List Byte) : (State.sramStore s a x0).pending = s.pending := by
  induction x0 generalizing s a with
  | nil => simp [State.sramStore]
  | cons a l ih => simp [State.sramStore, ih]
@[simp] theorem State.mgrReads_pending (s : State) (ag : Agent) (off : Nat) (x0 : Nat) : (State.mgrReads s ag off x0).2.pending = s.pending := by
  induction x0 generalizing s ag off with
  | zero => simp [State.mgrReads]
  | succ n ih => simp [State.mgrReads, ih]
@[simp] theorem State.mgrWrites_pending (s : State) (ag : Agent) (off : Nat) (x0 : List Word) : (State.mgrWrites s ag off x0).pending = s.pending := by
  induction x0 generalizing s ag off with
  | nil => simp [State.mgrWrites]
  | cons a l ih => simp [State.mgrWrites, ih]
@[simp] theorem State.flashReads_pending (s : State) (ag : Agent) (off : Nat) (x0 : Nat) : (State.flashReads s ag off x0).2.pending = s.pending := by
  induction x0 generalizing s ag off with
  | zero => rfl
  | succ n ih =>
    have e := State.flashRead_pending s ag off
    unfold State.flashReads
    split <;> (rename_i hr; rw [hr] at e; dsimp only at e ⊢; simp [ih, e])
@[simp] theorem State.flashWrites_pending (s : State) (ag : Agent) (off : Nat) (x0 : List Word) : (State.flashWrites s ag off x0).pending = s.pending := by
  induction x0 generalizing s ag off with
  | nil => simp [State.flashWrites]
  | cons a l ih => simp [State.flashWrites, ih]
theorem State.windowPlace_pending (s : State) (origin : Nat → GwOrigin) (data : Option (List Byte)) (o0 : Nat) (x0 : List ((Nat × Nat) × Nat)) : ∀ q1, (State.windowPlace s origin data o0 x0) = some q1 → q1.pending = s.pending := by
  induction x0 generalizing s with
  | nil => intro q1 h; cases h; rfl
  | cons a l ih =>
    intro q1 h
    unfold State.windowPlace at h
    split at h
    · cases h
    · split at h
      · cases h
      · rename_i hg
        rw [ih _ _ h]
        exact State.gwAccess_pending _ _ _ _ hg
theorem State.windowAccess_pending (s : State) (origin : Nat → GwOrigin) (o n : Nat) (data : Option (List Byte)) : ∀ q1, (State.windowAccess s origin o n data) = some q1 → q1.pending = s.pending := by
  intro q1 h
  exact State.windowPlace_pending _ _ _ _ _ _ h
@[simp] theorem State.inboundEnd_pending (s : State) (b : WaleBlock) (status : Nat) (ws : List Word) : (State.inboundEnd s b status ws).pending = s.pending := by simp [State.inboundEnd]
@[simp] theorem State.inboundSram_pending (s : State) (b : WaleBlock) (o mem : Nat) : (State.inboundSram s b o mem).pending = s.pending := by simp [State.inboundSram]
theorem State.inboundHamper_pending (s : State) (b : WaleBlock) (o mem : Nat) : ∀ q1, (State.inboundHamper s b o mem) = some q1 → q1.pending = s.pending := by
  intro q1 h
  simp only [State.inboundHamper] at h
  (repeat' split at h) <;> simp_all <;> (try (subst h; simp))
theorem State.inboundWindow_pending (s : State) (b : WaleBlock) (o : Nat) : ∀ q1, (State.inboundWindow s b o) = some q1 → q1.pending = s.pending := by
  intro q1 h
  unfold State.inboundWindow at h
  split at h
  · rw [Option.map_eq_some_iff] at h
    obtain ⟨t, ht, rfl⟩ := h
    rw [State.inboundEnd_pending]
    exact State.windowAccess_pending _ _ _ _ _ _ ht
  · exact State.windowAccess_pending _ _ _ _ _ _ h
theorem State.inbound_pending (s : State) (b : WaleBlock) (mem : Nat) : ∀ q1, (State.inbound s b mem) = some q1 → q1.pending = s.pending := by
  intro q1 h
  unfold State.inbound at h
  dsimp only at h
  split at h
  · cases h; simp
  · cases h; simp
  · split at h <;> (cases h; simp)
  · rename_i o _
    have e := State.flashReads_pending s (.wale b.src) o b.len.val
    split at h
    · rename_i hr; rw [hr] at e; cases h; simpa using e
    · cases h
  · exact State.inboundHamper_pending _ _ _ _ _ h
  · exact State.inboundWindow_pending _ _ _ _ h
  · cases h; simp
theorem State.inboundNext_pending (s : State) : ∀ q1, (State.inboundNext s) = some q1 → q1.pending = s.pending := by
  intro q1 h
  unfold State.inboundNext at h
  split at h
  · cases h
  · split at h
    · cases h
    · have e := State.inbound_pending _ _ _ _ h
      simpa using e
theorem State.answerNext_pending (s : State) : ∀ q1, (State.answerNext s) = some q1 → q1.pending = s.pending := by
  intro q1 h
  simp only [State.answerNext] at h
  (repeat' split at h) <;> simp_all <;> (try (subst h; simp))
@[simp] theorem State.spiApply_pending (s : State) (p : Fin 2) (a : Nat) (w : Word) : (State.spiApply s p a w).pending = s.pending := by unfold State.spiApply; (repeat' split) <;> simp
@[simp] theorem State.spiReadWord_pending (s : State) (p : Fin 2) (a : Nat) : (State.spiReadWord s p a).2.pending = s.pending := by unfold State.spiReadWord; (repeat' split) <;> simp
@[simp] theorem State.spiReads_pending (s : State) (p : Fin 2) (a : Nat) (x0 : Nat) : (State.spiReads s p a x0).2.pending = s.pending := by
  induction x0 generalizing s p a with
  | zero => rfl
  | succ n ih =>
    have e := State.spiReadWord_pending s p a
    unfold State.spiReads
    split <;> (rename_i hr; rw [hr] at e; dsimp only at e ⊢; simp [ih, e])
@[simp] theorem State.spiItem_pending (s : State) (p : Fin 2) (x0 : SpiItem) : (State.spiItem s p x0).pending = s.pending := by
  unfold State.spiItem; (repeat' split) <;> simp
@[simp] theorem State.spiTake_pending (s : State) (p : Fin 2) (i : SpiItem) : (State.spiTake s p i).pending = s.pending := by simp [State.spiTake]
theorem State.spiNext_pending (s : State) (p : Fin 2) : ∀ q1, (State.spiNext s p) = some q1 → q1.pending = s.pending := by
  intro q1 h
  simp only [State.spiNext] at h
  (repeat' split at h) <;> simp_all <;> (try (subst h; simp))
@[simp] theorem State.spiWrites_pending (s : State) (p : Fin 2) (a : Nat) (x0 : List Word) : (State.spiWrites s p a x0).pending = s.pending := by
  induction x0 generalizing s p a with
  | nil => simp [State.spiWrites]
  | cons a l ih => simp [State.spiWrites, ih]
theorem execSpiRead_pending (port : Fin 2) (addr : Word) (n : Nat) (s : State) : ∀ q1, (execSpiRead port addr n s) = .next q1 → q1.pending = s.pending := by
  rintro q1 ⟨⟩; simp
theorem execSpiWrite_pending (port : Fin 2) (addr : Word) (words : List Word) (s : State) : ∀ q1, (execSpiWrite port addr words s) = .next q1 → q1.pending = s.pending := by
  rintro q1 ⟨⟩; simp
theorem execSpiStatus_pending (port : Fin 2) (s : State) : ∀ q1, (execSpiStatus port s) = .next q1 → q1.pending = s.pending := by
  rintro q1 ⟨⟩; simp
theorem execStreamWindowWrite_pending (port : Fin 2) (spi : Bool) (words : List Word) (s : State) : ∀ q1, (execStreamWindowWrite port spi words s) = .next q1 → q1.pending = s.pending := by
  rintro q1 ⟨⟩; simp
@[simp] theorem State.barWrite_pending (s : State) (p : Fin 2) (off : Nat) (v : Word) : (State.barWrite s p off v).pending = s.pending := by simp [State.barWrite]
theorem State.masterLocal_pending (s : State) (p : Nat) (r : MasterReq) : ∀ q1, (State.masterLocal s p r) = some q1 → q1.2.2.pending = s.pending := by
  intro q1 h
  unfold State.masterLocal at h
  dsimp only at h
  split at h
  · cases h; simp
  split at h
  · cases h; simp
  · cases h; simp
  · cases h; simp
  · split at h
    · cases h; simp
    · split at h <;> (cases h; simp)
  · split at h <;> (cases h; simp)
  · rename_i o _
    have e := State.flashReads_pending s .gateway o r.len
    split at h
    · cases h; simp
    · split at h
      · rename_i hr; rw [hr] at e; cases h; exact e
      · cases h
  · split at h
    · cases h; rfl
    · split at h
      · cases h
      · cases h
        split
        · simp
        · split <;> simp
theorem State.masterHere_pending (s : State) (p : Nat) (r : MasterReq) : ∀ q1, (State.masterHere s p r) = some q1 → q1.pending = s.pending := by
  intro q1 h
  unfold State.masterHere at h
  split at h
  · rw [Option.map_eq_some_iff] at h
    obtain ⟨q, hq, rfl⟩ := h
    have e := State.masterLocal_pending _ _ _ _ hq
    simpa using e
  · rw [Option.map_eq_some_iff] at h
    obtain ⟨q, hq, rfl⟩ := h
    exact State.masterLocal_pending _ _ _ _ hq
@[simp] theorem State.masterAway_pending (s : State) (p : Nat) (r : MasterReq) : (State.masterAway s p r).pending = s.pending := by simp [State.masterAway]
@[simp] theorem State.gwRespond_pending (s : State) (p tag : Nat) : (State.gwRespond s p tag).pending = s.pending := by simp [State.gwRespond]
theorem execGwMasterDone_pending (port : Fin 4) (tag : Fin 32) (s : State) : ∀ q1, (execGwMasterDone port tag s) = .next q1 → q1.pending = s.pending := by
  rintro q1 ⟨⟩; (repeat' split) <;> simp
@[simp] theorem State.busError_pending (s : State) (c : Fin 4) : (State.busError s c).pending = s.pending := by simp [State.busError]
@[simp] theorem State.loaded_pending (s : State) (c : Fin 4) (o n : Nat) (ws : List Word) : (State.loaded s c o n ws).pending = s.pending := by simp [State.loaded]
@[simp] theorem State.busSram_pending (s : State) (c : Fin 4) (a : BusAccess) (o : Nat) : (State.busSram s c a o).pending = s.pending := by simp [State.busSram]
@[simp] theorem State.busManager_pending (s : State) (c : Fin 4) (a : BusAccess) (o : Nat) : (State.busManager s c a o).pending = s.pending := by simp [State.busManager]
@[simp] theorem State.busFlash_pending (s : State) (c : Fin 4) (a : BusAccess) (o : Nat) : (State.busFlash s c a o).pending = s.pending := by
  have e := State.flashReads_pending s (.core c) (coverOf o a.size).1 (coverOf o a.size).2
  unfold State.busFlash
  dsimp only
  split
  · split
    · simp
    · split
      · simp
      · split <;> simp
  · split
    · rename_i hr
      rw [hr] at e
      simpa using e
    · rfl
theorem State.busHamper_pending (s : State) (c : Fin 4) (a : BusAccess) (o : Nat) : ∀ q1, (State.busHamper s c a o) = some q1 → q1.pending = s.pending := by
  intro q1 h
  simp only [State.busHamper] at h
  (repeat' split at h) <;> simp_all <;> (try (subst h; simp))
theorem State.busWindow_pending (s : State) (c : Fin 4) (a : BusAccess) (o : Nat) : ∀ q1, (State.busWindow s c a o) = some q1 → q1.pending = s.pending := by
  intro q1 h
  exact State.windowAccess_pending _ _ _ _ _ _ h
@[simp] theorem State.wdStore_pending (s : State) (o : Nat) (v : Word) : (State.wdStore s o v).pending = s.pending := by simp [State.wdStore]
@[simp] theorem State.busWatchdog_pending (s : State) (c : Fin 4) (a : BusAccess) (o : Nat) : (State.busWatchdog s c a o).pending = s.pending := by
  have each : ∀ (l : List (Word × Nat)) (u : State), (l.foldl (fun t e => t.wdStore (o + 4 * e.2) e.1) u).pending = u.pending := by
    intro l
    induction l with
    | nil => intro u; rfl
    | cons a l ih => intro u; rw [List.foldl_cons, ih, State.wdStore_pending]
  unfold State.busWatchdog
  dsimp only
  split
  · rw [each]
  · rw [State.loaded_pending]
theorem State.busTry_pending (s : State) (c : Fin 4) (a : BusAccess) : ∀ q1, (State.busTry s c a) = some q1 → q1.pending = s.pending := by
  intro q1 h
  unfold State.busTry at h
  split at h
  · cases h; simp
  · cases h; simp
  · cases h; simp
  · cases h; simp
  · exact State.busHamper_pending _ _ _ _ _ h
  · exact State.busWindow_pending _ _ _ _ _ h
  · cases h; simp
theorem State.waitTry_pending (s : State) (i : WaitItem) : ∀ q1, (State.waitTry s i) = some q1 → q1.pending = s.pending := by
  intro q1 h
  unfold State.waitTry at h
  split at h
  · cases h
  split at h
  · exact State.busTry_pending _ _ _ _ h
  · exact State.masterHere_pending _ _ _ _ h
  · exact State.gwAccess_pending _ _ _ _ h
  · cases h; split <;> simp
@[simp] theorem State.waitTake_pending (s : State) (i : WaitItem) : (State.waitTake s i).pending = s.pending := by
  unfold State.waitTake
  dsimp only
  split
  · rfl
  · cases h : s.waitTry i with
    | none => rfl
    | some t => exact State.waitTry_pending _ _ _ h
theorem State.waitFirst_pending (s : State) (before : List Nat) (x0 : List (WaitItem × Nat)) : ∀ q1, (State.waitFirst s before x0) = some q1 → q1.pending = s.pending := by
  induction x0 generalizing s before with
  | nil => intro q1 h; cases h
  | cons e l ih =>
    intro q1 h
    obtain ⟨i, k⟩ := e
    unfold State.waitFirst at h
    split at h
    · exact ih _ _ _ h
    · split at h
      · rename_i ht
        cases h
        exact State.waitTry_pending { s with waits := s.waits.eraseIdx k } i _ ht
      · exact ih _ _ _ h
theorem State.settleOne_pending (s : State) : ∀ q1, (State.settleOne s) = some q1 → q1.pending = s.pending := by
  intro q1 h
  simp only [State.settleOne, Option.orElse_eq_orElse, Option.orElse_eq_or, Option.or_eq_some_iff] at h
  rcases h with h | ⟨-, h | ⟨-, h | ⟨-, h | ⟨-, h | ⟨-, h⟩⟩⟩⟩⟩
  · exact State.answerNext_pending _ _ h
  · exact State.inboundNext_pending _ _ h
  · exact State.tagNext_pending _ _ h
  · exact State.spiNext_pending _ _ _ h
  · exact State.spiNext_pending _ _ _ h
  · exact State.waitFirst_pending _ _ _ _ h
@[simp] theorem State.settle_pending (s : State) (x0 : Nat) : (State.settle s x0).pending = s.pending := by
  induction x0 generalizing s with
  | zero => rfl
  | succ n ih =>
    unfold State.settle
    split
    · rename_i h
      rw [ih]
      exact State.settleOne_pending _ _ h
    · rfl
theorem execWaleWrite_pending (p : Fin 6) (b : WaleBlock) (mem : Fin 4) (s : State) : ∀ q1, (execWaleWrite p b mem s) = .next q1 → q1.pending = s.pending := by
  rintro q1 ⟨⟩; simp
theorem execWaleRead_pending (p : Fin 6) (b : WaleBlock) (mem : Fin 4) (s : State) : ∀ q1, (execWaleRead p b mem s) = .next q1 → q1.pending = s.pending := by
  rintro q1 ⟨⟩; simp
theorem execWaleRqGo_pending (ag : Agent) (n : Fin 4) (op : Fin 8) (ack : Bool) (len : Fin 256) (s : State) : ∀ q1, (execWaleRqGo ag n op ack len s) = .next q1 → q1.pending = s.pending := by
  rintro q1 ⟨⟩; simp
theorem execRegisterWrite_pending (ag : Agent) (off : Nat) (v : Word) (full : Bool) (s : State) : ∀ q1, (execRegisterWrite ag off v full s) = .next q1 → q1.pending = s.pending := by
  rintro q1 ⟨⟩; (repeat' split) <;> simp
theorem execGwWindowAccess_pending (ag : Agent) (req : WindowReq) (s : State) : ∀ q1, (execGwWindowAccess ag req s) = .next q1 → q1.pending = s.pending := by
  rintro q1 ⟨⟩; simp
theorem execGwMasterRequest_pending (port : Fin 4) (req : MasterReq) (s : State) : ∀ q1, (execGwMasterRequest port req s) = .next q1 → q1.pending = s.pending := by
  rintro q1 ⟨⟩; simp
theorem execClusterBusAccess_pending (core : Fin 4) (acc : BusAccess) (s : State) : ∀ q1, (execClusterBusAccess core acc s) = .next q1 → q1.pending = s.pending := by
  intro q1 h
  unfold execClusterBusAccess at h
  split at h
  · cases h; rfl
  split at h
  · cases h
  · cases h; simp

/-! Weave. -/

@[simp] theorem State.asyncStep_pending (s : State) (levels : List (Nat × Bool)) : (State.asyncStep s levels).pending = s.pending := by simp [State.asyncStep]
@[simp] theorem State.asyncSettle_pending (levels : List (Nat × Bool)) (n : Nat) (s : State) : (State.asyncSettle levels n s).pending = s.pending := by
  induction n generalizing s with
  | zero => rfl
  | succ n ih =>
    unfold State.asyncSettle
    dsimp only
    split
    · rfl
    · rw [ih, State.asyncStep_pending]

/-! Edge. -/

@[simp] theorem State.bportEdge_pending (s : State) (k net : Nat) : (State.bportEdge s k net).pending = s.pending := by unfold State.bportEdge; (repeat' split) <;> simp
@[simp] theorem State.bportsEdge_pending (s : State) (bay net : Nat) : (State.bportsEdge s bay net).pending = s.pending := by simp [State.bportsEdge]
@[simp] theorem State.innerEdge_pending (s : State) (bay net : Nat) (p : InnerPins) : (State.innerEdge s bay net p).pending = s.pending := by simp [State.innerEdge]
@[simp] theorem State.setHigh_pending (s : State) (bay net : Nat) (high : Bool) : (State.setHigh s bay net high).pending = s.pending := by simp [State.setHigh]
@[simp] theorem State.fabricEdge_pending (s : State) (bay net : Nat) (rising : Bool) (p : EdgePins) : (State.fabricEdge s bay net rising p).pending = s.pending := by simp [State.fabricEdge]
@[simp] theorem State.portEdges_pending (s : State) (bay net : Nat) (p : EdgePins) : (State.portEdges s bay net p).pending = s.pending := by simp [State.portEdges]
@[simp] theorem State.stakePass_pending (s : State) (bay net : Nat) (rising : Bool) (p : EdgePins) : (State.stakePass s bay net rising p).pending = s.pending := by simp [State.stakePass]
@[simp] theorem State.stakeEdge_pending (s : State) (bay net : Nat) (rising : Bool) (p : EdgePins) : (State.stakeEdge s bay net rising p).pending = s.pending := by simp [State.stakeEdge]
theorem execStakeNetEdge_pending (bay : Fin 96) (net : Fin 24) (rising : Bool) (pins : EdgePins) (s : State) : ∀ q1, (execStakeNetEdge bay net rising pins s) = .next q1 → q1.pending = s.pending := by
  rintro q1 ⟨⟩; simp
@[simp] theorem State.wtimerTick_pending (s : State) : (State.wtimerTick s).pending = s.pending := by simp [State.wtimerTick]
@[simp] theorem State.eventWake_pending (s : State) : (State.eventWake s).pending = s.pending := by simp [State.eventWake]
@[simp] theorem State.idle_pending (s : State) : (State.idle s).pending = s.pending := by simp [State.idle]

end Sys2Proof.Machine
end

