-- ==== Sys2Proof/Tests/Slice0.lean ====
section
/-! SUPPORT. Tests: for every statement with hypotheses a state and operands that meet them, an ill-formed term for every check of
WellFormed, and worked examples of the spec. -/
namespace Sys2Proof.Tests

open Sys2Proof Sys2Proof.Machine

set_option Elab.async false

theorem witness_AnEmptyQueueTicksTheClock : State.reset.pending = [] := rfl

theorem witness_TheQueueIsFirstInFirstOut :
    step { State.reset with pending := [.programNRise, .nop] } =
      .next (({ State.reset with pending := [.nop] } : State).setBoot { State.reset.boot with programLow := false }) := rfl

theorem witness_NoFuseIsEverRestored : step State.reset = .next State.reset.idle := rfl

theorem witness_OnlyBurnsBlowFuses : mayBlowFuses .vinLow = false ∧
    exec .vinLow State.reset = .next ((State.reset.setBit Reg.pwrErr 2 true).raise 291) := ⟨rfl, rfl⟩

theorem witness_OnlyAccessesAndRestartsTouchSram : mayWriteSram .vinLow = false ∧
    exec .vinLow State.reset = .next ((State.reset.setBit Reg.pwrErr 2 true).raise 291) := ⟨rfl, rfl⟩

theorem witness_OnlyTheNamedCommandsTouchTheHamper : mayWriteHamper .vinLow = false ∧
    exec .vinLow State.reset = .next ((State.reset.setBit Reg.pwrErr 2 true).raise 291) := ⟨rfl, rfl⟩

theorem witness_OnlyTheNamedCommandsTouchFlash : mayWriteFlash .vinLow = false ∧
    exec .vinLow State.reset = .next ((State.reset.setBit Reg.pwrErr 2 true).raise 291) := ⟨rfl, rfl⟩

theorem witness_MemoriesStayCanonical :
    State.MemoriesWf { State.reset with sram := [(4, 9#8)], pending := [.nop] } ∧
      (step { State.reset with sram := [(4, 9#8)] } = .next (State.idle { State.reset with sram := [(4, 9#8)] })) :=
  ⟨⟨rfl, rfl, rfl⟩, rfl⟩

theorem witness_SynthesizerCommandsComplete :
    ((State.synthPhase { clk := { phase := [(31, { glide := true })] } } 31).glide = true) ∧
    ((State.synthPhase { clk := { phase := [(0, { divider := true })] } } 0).divider = true) ∧
    ((State.synthPhase { clk := { phase := [(0, { relock := true })] }, live := [(Reg.fsCfg 0, 4#32)] } 0).relock = true) ∧
    (State.synthLive { live := [(Reg.fsCfg 0, 4#32)] } 0).refsrc ≠ 0 ∧
    (State.bit { live := [(Reg.fsCfg 0, 4#32)] } (Reg.fsStat 0) 2 = false) ∧
    ((State.phaseErr { live := [(Reg.fsCfg 0, 4#32)], regs := [(Reg.fsStat 0, 0xFF9C0000#32)] } 0).natAbs ≤ 100) ∧
    (State.bit { regs := [(Reg.fsStat 31, 4#32)] } (Reg.fsStat 31) 2 = true) ∧
    (State.bit { regs := [(Reg.clkStatus, 8#32)] } Reg.clkStatus 3 = true) ∧
    (State.bit { regs := [(Reg.clkStatus, 1#32)] } Reg.clkStatus 3 = false) := by decide

theorem witness_ClockNetCommandsComplete :
    (rimLegal 0x24242424#32 = true) ∧ (rimLegal 0x25#32 = false) ∧ (vselLegal 0x40404040#32 = true) ∧
    (State.switching { clk := { switching := [(netKey (.stake 95 23), 1)] } } (netKey (.stake 95 23)) ≠ 0) ∧
    (State.bit {} (hgreq 1) 25 = false) ∧
    (State.gateWaits { regs := [(hgreq 1, 0x02000000#32)] } 57 = true) ∧
    (State.blockIdle { regs := [(hgreq 1, 0x02000000#32)] } 57 = true) ∧
    (State.gateWaits { regs := [(hgreq 1, 0x400000#32)], ports := [(0, { linkUp := true })] } 54 = true) ∧
    (State.blockIdle { regs := [(hgreq 1, 0x400000#32)], ports := [(0, { linkUp := true })] } 54 = false) ∧
    (State.bit { regs := [(hgreq 1, 0x2000000#32), (Reg.sndStat, 4#32)] } (hgreq 1) (57 % 32) = true ∧
      State.sndPhase { regs := [(hgreq 1, 0x2000000#32), (Reg.sndStat, 4#32)] } = 4) ∧
    (State.bit { regs := [(hgreq 0, 4#32)] } (hgreq (2 / 32)) (2 % 32) = true) ∧
    (getBit 0x10000#32 16 = true ∧ State.bit { regs := [(Reg.clkStatus, 0x80#32)] } Reg.clkStatus 7 = true) ∧
    (fmLegal (getBits 1#32 9 0) = true ∧ getBits 1#32 9 0 = State.fld { regs := [(Reg.fmCfg 15, 1#32)] } (Reg.fmCfg 15) 9 0) ∧
    (getBits 1#32 9 0 ≠ State.fld {} (Reg.fmCfg 15) 9 0) ∧
    (State.bit { regs := [(Reg.fmCfg 15, 1#32)] } (Reg.fmCfg 15) 18 = false ∧
      ¬ (0#32 < State.rd {} (Reg.fmMin 15)) ∧ ¬ (State.rd {} (Reg.fmMax 15) < 0#32)) := by decide

theorem witness_CadenceCommandsComplete :
    (State.waleTime {} = false ∧ State.adjOpposed (State.plainWrite {} Reg.cadAdjCtl 1#32) = false) ∧
    (State.adjOpposed (State.plainWrite { regs := [(Reg.cadAdjNs, 1#32)] } Reg.cadAdjCtl 3#32) = false ∧
      (State.adjOffset (State.plainWrite { regs := [(Reg.cadAdjNs, 1#32)] } Reg.cadAdjCtl 3#32)).natAbs < giga ∧
      State.adjOffset (State.plainWrite { regs := [(Reg.cadAdjNs, 1#32)] } Reg.cadAdjCtl 3#32) ≠ 0) ∧
    (State.bit { regs := [(Reg.cadStat, 2#32)] } Reg.cadStat 1 = true) ∧
    (getBit 4#32 2 = true ∧ getBit 4#32 (3 + 2) = false ∧ getBit 4#32 (6 + 2) = false ∧ (timeWords (captureTb 0)).length = 4) ∧
    (getBit 0x104#32 2 = true ∧ getBit 0x104#32 (6 + 2) = true) ∧
    (State.bit { regs := [(Reg.cadCapCtl, 4#32)] } Reg.cadCapCtl 2 = true) ∧
    (State.fld { regs := [(Reg.cadPpsCfg, 0xDE#32)] } Reg.cadPpsCfg 1 0 = 2 ∧ State.fld { regs := [(Reg.cadPpsCfg, 0xDE#32)] } Reg.cadPpsCfg 7 2 = 55) ∧
    (1 < ({ cad := { ppsPulses := 2 } } : State).cad.ppsPulses) ∧
    (isSnapUpper Reg.cadTimeFrac = false ∧ isSnapUpper Reg.cadTimeSechi = true) := by decide

theorem witness_BoundaryCommandsComplete :
    (getBit (putBit 0#32 0 true) 0 = true ∧ getBit (putBit 0#32 0 true) 2 = false ∧
      (State.plainWrite {} (Reg.cadMbCtl 7) 1#32).mbAnswer 7 ((State.plainWrite {} (Reg.cadMbCtl 7) 1#32).mbInstant 7) = .posted ∧
      (State.plainWrite {} (Reg.cadMbCtl 7) 1#32).mb 7 = none) ∧
    ((State.plainWrite { regs := [(Reg.cadMbAtNs 0, 159#32)] } (Reg.cadMbCtl 0) 3#32).mbAnswer 0
      ((State.plainWrite { regs := [(Reg.cadMbAtNs 0, 159#32)] } (Reg.cadMbCtl 0) 3#32).mbInstant 0) = .late) ∧
    ((State.plainWrite { cad := { mbs := [(0, some { num := 500 })] } } (Reg.cadMbCtl 0) 1#32).mbAnswer 0
      ((State.plainWrite { cad := { mbs := [(0, some { num := 500 })] } } (Reg.cadMbCtl 0) 1#32).mbInstant 0) = .busy) ∧
    (State.sourceNext { cad := { mbs := [(7, some { num := 500 })] } } 7 = some { num := 500 } ∧
      State.announcedAt { cad := { mbs := [(7, some { num := 500 })] } } 7 { num := 500 } = false) ∧
    ((List.find? (fun (a : Announced) => a.src == 55) [⟨55, {}, [], false⟩]).isSome = true ∧ State.tapWaits {} 55 = false) := by decide

/-- A block in RUN that reads a partial stream, of which the words `ws` wait, from host port A. -/
def streamAt (st : StreamSt) (ws : List Word) : State :=
  { regs := [(Reg.sysMode, 6#32), (Reg.lcState, 2#32), (Reg.cfgPsrc, 2#32), (Reg.clkHub, 0x10000#32)],
    ports := [(0, { window := ws })], eng := { phase := .packets, st := st } }

theorem streamAt_spells (st : StreamSt) (h : Word) (d : List Word) (h2 : st.inBody = false) :
    (streamAt st (h :: d)).spells 2 (.packet h d) = true := by
  have e1 : (streamAt st (h :: d)).sourceQueue 2 = h :: d := rfl
  have e2 : (streamAt st (h :: d)).st.inBody = false := h2
  have e3 : (streamAt st (h :: d)).sourceWords 2 (h :: d).length = some (h :: d) := by
    simp [State.sourceWords, e1]
  have e4 : (streamAt st (h :: d)).carried (h :: d) = (streamBytes (h :: d)).map BitVec.toNat := by
    simp only [State.carried, e2]; simp
  simp only [State.spells, EngItem.words, e3, e4]
  simp

theorem witness_HandsOver (st : StreamSt) (h : Word) (d : List Word) (h1 : st.stall = false) (h2 : st.inBody = false) :
    (streamAt st (h :: d)).HandsOver ((streamAt st (h :: d)).wordsTaken 2 (1 + d.length)) 2 h d :=
  ⟨(by decide : (streamAt {} []).engSource = some 2), (by decide : (streamAt {} []).hubOnSynth = true), by unfold State.stalled; simp [streamAt, State.st, h1], streamAt_spells st h d h2, rfl, rfl, rfl, rfl,
    fun e => by rw [show State.st _ = st from rfl, h2] at e; exact absurd e (by decide)⟩

theorem witness_InStream (st : StreamSt) (h : Word) (d : List Word) (h1 : st.stall = false) (h2 : st.inBody = false)
    (h3 : st.idOk = true) (h4 : st.passed = false) (h5 : st.bodyDone = false) :
    (streamAt st (h :: d)).InStream ((streamAt st (h :: d)).wordsTaken 2 (1 + d.length)) 2 h d :=
  ⟨witness_HandsOver st h d h1 h2, h3, h4, h5⟩

/-- Port A's stream, searched for sync, with one word before the sync word. -/
def searching : State := { streamAt {} [7#32, 0x7E96A55A#32] with eng := {} }

theorem witness_StreamHeaderRegistersComplete :
    (searching.engSource = some 2 ∧ searching.hubOnSynth = true ∧ searching.stalled = false ∧ searching.syncAhead 2 = some 1 ∧
      (searching.wordsTaken 2 2).eng.phase = .search ∧ (searching.wordsTaken 2 2).eng.gang ≠ .inside) ∧
    (∃ t, (streamAt {} [0#32]).HandsOver t 2 0#32 []) ∧
    (∃ t, (streamAt {} [0x10800001#32, 0xF0700963#32]).HandsOver t 2 0x10800001#32 [0xF0700963#32] ∧
      getBits 0xF0700963#32 27 0 = getBits (t.rd Reg.cfgIdcode) 27 0 ∧ getBits 0xF0700963#32 31 28 = 15) ∧
    (∃ t, (streamAt { idOk := true } [0x11000001#32, 4#32]).InStream t 2 0x11000001#32 [4#32] ∧
      t.kindOk (getBit 4#32 0) = true ∧ getBit 4#32 1 = false ∧ getBit 4#32 2 = true ∧ t.st.has 3 = false ∧ t.st.early = true ∧ t.mode ≠ 4) ∧
    (∃ t, (streamAt { idOk := true } [0x11800001#32, 2#32]).InStream t 2 0x11800001#32 [2#32] ∧ t.st.has 2 = false) ∧
    (∃ t, (streamAt { idOk := true } [0x12000001#32, 2#32]).InStream t 2 0x12000001#32 [2#32] ∧ t.st.has 4 = false) ∧
    (∃ t, (streamAt { idOk := true } [0x12800003#32, 1#32, 2#32, 3#32]).InStream t 2 0x12800003#32 [1#32, 2#32, 3#32] ∧
      t.st.crcOnly = false ∧ t.st.has 5 = false) ∧
    (∃ t, (streamAt { idOk := true } [0x13000001#32, 8#32]).InStream t 2 0x13000001#32 [8#32] ∧ t.st.has 6 = false) :=
  ⟨by decide, ⟨_, witness_HandsOver {} 0#32 [] rfl rfl⟩, ⟨_, witness_HandsOver {} _ [_] rfl rfl, by decide⟩,
    ⟨_, witness_InStream _ _ [_] rfl rfl rfl rfl rfl, by decide⟩, ⟨_, witness_InStream _ _ [_] rfl rfl rfl rfl rfl, by decide⟩,
    ⟨_, witness_InStream _ _ [_] rfl rfl rfl rfl rfl, by decide⟩, ⟨_, witness_InStream _ _ [_, _, _] rfl rfl rfl rfl rfl, by decide⟩,
    ⟨_, witness_InStream _ _ [_] rfl rfl rfl rfl rfl, by decide⟩⟩

/-- A sealed full stream in its body, of which one packet's ciphertext under the zero key waits. -/
def sealedAt : State :=
  streamAt { idOk := true, form := 1#32, inBody := true, bodylen := 8, iv := [0#32, 0#32, 0#32] } [0x2840A7CC#32, 0x6E6B744D#32, 0xD3C54E06#32]

theorem sealedAt_spells : sealedAt.spells 2 (.packet (writeHdr 10 2 false) [0x1400#32, 1#32]) = true := by decide +kernel

theorem sealedAt_InStream : sealedAt.InStream (sealedAt.wordsTaken 2 3) 2 (writeHdr 10 2 false) [0x1400#32, 1#32] :=
  ⟨⟨by decide, by decide, by decide, sealedAt_spells, rfl, rfl, rfl, rfl, by decide⟩, rfl, rfl, rfl⟩

theorem witness_StreamBodyRegistersComplete :
    (∃ t, (streamAt { idOk := true, form := 4#32 } [0x13800004#32, 1#32, 0#32, 2#32, 0x8001#32]).InStream t 2 0x13800004#32
        [1#32, 0#32, 2#32, 0x8001#32] ∧ t.st.mid = true ∧ t.st.staged = false ∧ t.st.full = false ∧ t.st.has 7 = false) ∧
      (∀ k < 16, (0x8001 : Nat).testBit k = true → (2 ^ 0 + 2 ^ 90 : Nat).testBit (edgeBay k) = true) ∧
    (∃ t, (streamAt { idOk := true, form := 4#32 } [0x14000001#32, 7#32]).InStream t 2 0x14000001#32 [7#32] ∧ t.st.has 8 = false) ∧
    (∃ t, (streamAt { idOk := true, form := 4#32 } [0x14800001#32, 0x10D#32]).InStream t 2 0x14800001#32 [0x10D#32] ∧ t.st.has 9 = false) ∧
      getBits 0x0000_010D#32 5 3 ≤ getBits 0x0000_010D#32 2 0 ∧ getBits 0x0000_010D#32 7 6 = 0 ∧ getBits 0x0000_010D#32 19 8 ≠ 0 ∧
    (∃ t, sealedAt.InStream t 2 (writeHdr 10 2 false) [0x1400#32, 1#32] ∧ t.st.full = true ∧ t.st.mid = true ∧ t.st.staged = false ∧
      t.clksetOk (0x1400#32, 1#32) = true) ∧
    (∃ t, (streamAt { idOk := true, form := 4#32, staged := true } [0x16000001#32, 0x31550900#32]).InStream t 2 0x16000001#32 [0x31550900#32] ∧
      t.st.mid = true ∧ t.st.staged = true) ∧ placeBad 0x31550900#32 = false :=
  ⟨⟨_, witness_InStream _ _ [_, _, _, _] rfl rfl rfl rfl rfl, by decide⟩, by decide, ⟨_, witness_InStream _ _ [_] rfl rfl rfl rfl rfl, by decide⟩,
    ⟨_, witness_InStream _ _ [_] rfl rfl rfl rfl rfl, by decide⟩, by decide, by decide, by decide, ⟨_, sealedAt_InStream, by decide⟩,
    ⟨_, witness_InStream _ _ [_] rfl rfl rfl rfl rfl, by decide⟩, by decide⟩

theorem witness_StreamStepsComplete :
    (∃ t, (streamAt { idOk := true, form := 4#32, bays := 1 } [0x15800001#32, 1#32]).InStream t 2 0x15800001#32 [1#32] ∧
      t.stageErr 2 = none ∧ t.pnt.reload = none) ∧
    (∃ t, (streamAt { idOk := true, form := 4#32 } [0x15800001#32, 9#32]).InStream t 2 0x15800001#32 [9#32] ∧ t.st.finished = false) ∧
    (∃ t, (streamAt { idOk := true, form := 4#32, staged := true } [0x15800001#32, 2#32]).InStream t 2 0x15800001#32 [2#32] ∧
      t.st.mid = true ∧ t.st.staged = true ∧ t.st.full = false) ∧
    (∃ t, (streamAt { idOk := true, keysel := 1, written := [5, 6] } [0x60000000#32]).InStream t 2 0x60000000#32 [] ∧
      t.st.early = true ∧ t.st.has 5 = true ∧ t.st.has 6 = true ∧ t.kindOk t.st.full = true) ∧
    State.streamKey { keys := { entryFuse := some 0 } } 1 = some 0 ∧
    (∃ t, (streamAt { idOk := true, bodyDone := true, finished := true } [0x17000004#32, 0#32, 0#32, 0#32, 0#32]).HandsOver t 2 0x17000004#32
      [0#32, 0#32, 0#32, 0#32] ∧ t.st.bodyDone = true ∧ t.st.finished = true) ∧
    (∃ t, (streamAt { idOk := true, form := 4#32, finished := true } [0x17800001#32, 0x21A8A5F5#32]).InStream t 2 0x17800001#32 [0x21A8A5F5#32] ∧
      t.st.crcOnly = true ∧ t.st.finished = true) ∧ 0x21A8A5F5 = crc32 (streamBytes [0x17800001#32]) ∧
    (∃ t, (streamAt { passed := true } [0xF0000000#32]).HandsOver t 2 0xF0000000#32 [] ∧ t.st.passed = true) ∧
    (∃ t, (streamAt { pos := 1 } [0x70000002#32, 0x0003FE00#32, 5#32]).HandsOver t 2 0x70000002#32 [0x0003FE00#32, 5#32] ∧
      t.st.pos = 1 ∧ t.selected 0x0003FE00#32 = true) ∧
    (∃ t, (streamAt { pos := 1 } [0x70000002#32, 0x00000201#32, 5#32]).HandsOver t 2 0x70000002#32 [0x00000201#32, 5#32] ∧
      t.selected 0x00000201#32 = false) ∧
    (∃ t, (streamAt {} [0x80000000#32]).HandsOver t 2 0x80000000#32 []) ∧
    headerErr 2 0x80000000#32 = some 2 ∧ headerErr 2 0x10000001#32 = some 3 ∧ headerErr 2 0x11000002#32 = some 4 ∧
    (State.engSource { regs := [(Reg.sysMode, 6#32), (Reg.cfgPsrc, 0#32)] } = some 0 ∧ State.feedBarren { regs := [(Reg.sysMode, 6#32), (Reg.cfgPsrc, 0#32)] } 0 = true) ∧
    State.mode { regs := [(Reg.sysMode, 8#32)] } = 8 ∧
    State.tapsLocked { boot := { mainJob := some ⟨1, 0, 7#32, true, true⟩ } } = true :=
  ⟨⟨_, witness_InStream _ _ [_] rfl rfl rfl rfl rfl, by decide +kernel⟩, ⟨_, witness_InStream _ _ [_] rfl rfl rfl rfl rfl, by decide⟩,
    ⟨_, witness_InStream _ _ [_] rfl rfl rfl rfl rfl, by decide⟩, ⟨_, witness_InStream _ _ [] rfl rfl rfl rfl rfl, by decide⟩, by decide +kernel,
    ⟨_, witness_HandsOver _ _ [_, _, _, _] rfl rfl, by decide⟩, ⟨_, witness_InStream _ _ [_] rfl rfl rfl rfl rfl, by decide⟩, by decide +kernel,
    ⟨_, witness_HandsOver _ _ [] rfl rfl, by decide⟩, ⟨_, witness_HandsOver _ _ [_, _] rfl rfl, by decide⟩,
    ⟨_, witness_HandsOver _ _ [_, _] rfl rfl, by decide⟩, ⟨_, witness_HandsOver _ _ [] rfl rfl⟩, by decide +kernel⟩

/-- The sealed-stream witness: the AES-256-GCM tag under the zero key and nonce of nothing, from the published test cases of GCM. -/
theorem witness_StreamSeal :
    (streamBytes [0xFB8A0F53#32, 0xB93645C7#32, 0xF1B463A9#32, 0x8B73CBC4#32]).map BitVec.toNat =
      State.sealTag { keys := { entryFuse := some 0 }, eng := { st := { keysel := 1, iv := [0#32, 0#32, 0#32], bodyDone := true, finished := true } } } := by
  decide +kernel

/-- A staged partial stream with a last frame, whose next packet has the header `h` and the words `d`. -/
def stagedAt (h : Word) (d : List Word) : State :=
  streamAt { idOk := true, form := 4#32, staged := true, bays := 1, place := 0x00010000#32, last := some 1 } (h :: d)

theorem witness_StreamFramesComplete :
    ((stagedAt 0x30000002#32 []).InStream ((stagedAt 0x30000002#32 []).wordsTaken 2 1) 2 0x30000002#32 [] ∧
      (((stagedAt 0x30000002#32 []).wordsTaken 2 1).writeFrames 0x30000002#32 0 [0, 0]).2 = none) ∧
    ((stagedAt 0x50000001#32 [0#32, 0#32]).InStream ((stagedAt 0x50000001#32 [0#32, 0#32]).wordsTaken 2 3) 2 0x50000001#32 [0#32, 0#32] ∧
      (((stagedAt 0x50000001#32 [0#32, 0#32]).wordsTaken 2 3).writeFrames 0x50000001#32 0 [patchWord 1 0 0#32]).2 = none) ∧
    (∃ t, (streamAt { idOk := true, form := 4#32 } [0x26000001#32]).InStream t 2 0x26000001#32 [] ∧ t.readbackOk = true ∧ t.st.inBody = false ∧
      t.st.finished = false ∧ (t.readFrames [] 1).2.2 = none) :=
  ⟨⟨witness_InStream _ _ [] rfl rfl rfl rfl rfl, by decide +kernel⟩, ⟨witness_InStream _ _ [_, _] rfl rfl rfl rfl rfl, by decide +kernel⟩,
    ⟨_, witness_InStream _ _ [] rfl rfl rfl rfl rfl, by decide +kernel⟩⟩

theorem witness_CommitGroupCommandsComplete :
    (State.mayWrite { regs := [(Reg.sem 0, 1#32)] } .keeper Reg.cfgPsrc = true ∧
      State.fld { regs := [(Reg.sem 0, 1#32)] } Reg.cfgPsrc 2 0 = 7 ∧
      State.fld { regs := [(Reg.cfgPsrc, 0#32), (Reg.sem 0, 1#32)] } Reg.cfgPsrc 2 0 = 0) ∧
    (State.mayWrite { regs := [(Reg.sem 0, 1#32)] } .keeper (Reg.cgCtl 7) = true ∧
      (State.plainWrite { regs := [(Reg.cgMask0 7, 1#32)] } (Reg.cgCtl 7) 1#32).cgState 7 = 0 ∧
      (State.plainWrite { regs := [(Reg.cgMask0 7, 1#32)] } (Reg.cgCtl 7) 1#32).cgBays 7 = 1) ∧
    ((State.plainWrite { regs := [(shadowReg 0, 4#32), (Reg.cgLast0 0, 1#32)] } (Reg.cgCtl 0) 3#32).lastUnits 0 = [0] ∧
      (State.plainWrite { regs := [(shadowReg 0, 4#32), (Reg.cgLast0 0, 1#32)] } (Reg.cgCtl 0) 3#32).shState 0 = 4) ∧
    (State.cgState { regs := [(Reg.cgStat 3, 1#32)] } 3 = 1 ∧
      State.fld { regs := [(Reg.cgDeadline 3, 5#32)] } (Reg.cgDeadline 3) 23 0 ≠ 0) ∧
    (([⟨2, false, 1, 0, true⟩] : List Commit).find? (fun c => c.group == 2 && c.flipped) = some ⟨2, false, 1, 0, true⟩ ∧
      ([⟨8, false, 1, 0, true⟩] : List Commit).find? (fun c => c.group == 8 && c.flipped) = some ⟨8, false, 1, 0, true⟩) ∧
    (State.firstMismatch (State.passRead {} 1 0 [] []) (unitsOf 1 0) false = none) := by
  refine ⟨?_, ?_, ?_, ?_, ?_, ?_⟩ <;> decide +kernel

/-- A block whose shadow of bay 0 holds a zero frame with the check word `c`. -/
def mismatched (c : Word) : State := { planes := { chk := [(latchKey 1 0x100, c)] } }
theorem mismatched_keys (c : Word) : (mismatched c).listedKeys 0 1 = [0x100] := by
  unfold State.listedKeys; simp [mismatched, keyInLatch, latchKey, keyUnit, unitOf]
theorem mismatched_frame (c : Word) : (mismatched c).frameIn 1 0x100 = 0 := by unfold State.frameIn; rfl
theorem mismatched_dyn (c : Word) : (mismatched c).dynIn 1 0x100 = false := rfl
theorem mismatched_check (c : Word) : (mismatched c).chkIn 1 0x100 = c := by unfold State.chkIn; rfl
theorem units_of_bay0 : unitsOf 1 0 = [0] := by decide +kernel
theorem mismatched_latch (c : Word) : (mismatched c).shadowLatch 0 = 1 := rfl
theorem frameMatches_false (s : State) (l k : Nat) (f : BitVec 10240) (d : Bool) (c : Word) (hf : s.frameIn l k = f) (hd : s.dynIn l k = d)
    (hc : s.chkIn l k = c) (h : frameCheck k d f ≠ c) : s.frameMatches l k = false := by
  subst hf hd hc; unfold State.frameMatches; exact beq_eq_false_iff_ne.2 h

theorem mismatched_matches (c : Word) (f : BitVec 10240) (hf : f = 0) (h : frameCheck 0x100 false f ≠ c) : (mismatched c).frameMatches 1 0x100 = false :=
  frameMatches_false (mismatched c) 1 0x100 f false c (by rw [hf]; exact mismatched_frame c) (mismatched_dyn c) (mismatched_check c) h

theorem firstMismatch_one (s : State) (u l k : Nat) (h1 : s.shadowLatch u = l) (h2 : s.listedKeys u l = [k]) (h3 : s.frameMatches l k = false) :
    s.firstMismatch [u] false = some k := by
  subst h1; unfold State.firstMismatch; simp [h2, h3]
theorem mismatched_first (c : Word) (f : BitVec 10240) (hf : f = 0) (h : frameCheck 0x100 false f ≠ c) : (mismatched c).firstMismatch (unitsOf 1 0) false = some 0x100 :=
  units_of_bay0 ▸ firstMismatch_one (mismatched c) 0 1 0x100 (mismatched_latch c) (mismatched_keys c) (mismatched_matches c f hf h)
theorem another_word (x : Word) : ∃ c, x ≠ c := ⟨x + 1#32, by intro h; have := congrArg BitVec.toNat h; simp at this; omega⟩
theorem witness_mismatch : ∃ c, (mismatched c).firstMismatch (unitsOf 1 0) false = some 0x100 := by
  obtain ⟨f, hf⟩ : ∃ f : BitVec 10240, f = 0 := ⟨0, rfl⟩
  exact (another_word _).imp (fun c h => mismatched_first c f hf h)

theorem witness_DirectWritesAndPanelsComplete :
    State.mayWrite { regs := [(Reg.sem 0, 1#32)] } .keeper Reg.cfgDwplace = true ∧
    State.mayWrite { regs := [(Reg.sem 0, 1#32)] } .keeper Reg.cfgDwdata = true ∧
    State.mayWrite { regs := [(Reg.sem 0, 1#32)] } .keeper Reg.cfgDwctl = true ∧
    State.mayWrite { regs := [(Reg.sem 0, 1#32)] } .keeper (Reg.cgPctl 7) = true ∧
    frameOfWords (0#32 :: List.replicate 319 0#32).reverse = 0 ∧
    State.dwRefusal { regs := [(Reg.lcState, 2#32)] } 0x00010000#32 0 = none ∧
    State.dwRefusal { regs := [(Reg.lcState, 5#32)] } 0x00010000#32 0 = some 6 := by decide +kernel

/-- A block that passes over frame 0 of wythe 0, whose check word is `c`. -/
def passing (c : Word) : State :=
  { regs := [(Reg.sysMode, 6#32), (Reg.clkHub, 0x10000#32), (Reg.pntCtl, 1#32)],
    planes := { chk := [(latchKey 0 0, c)] } }
/-- The block after that read has moved the pass on. -/
def passed (c : Word) : State := ((passing c).upsetFrame 0 0 []).passNext 0
theorem passing_on (c : Word) : (passing c).pntRuns = true := (by decide +kernel : (passing 0).pntRuns = true)
theorem passing_free (c : Word) : (passing c).writeBack 0 = none := rfl
theorem passing_live (c) : (passing c).shadowPos 0 = 0 := rfl
theorem passing_pos (c) : ((passing c).rd (Reg.pntPos 0)) = 0 := (by decide +kernel : ((passing 0).rd (Reg.pntPos 0)) = 0)
theorem passing_key  : wytheKey 0 0 = 0 := by decide +kernel
theorem passing_next (c : Word) : (passing c).passFrame 0 = some (0, 0) := by
  unfold State.passFrame; rw [if_pos (passing_live c), passing_pos c]
  simp only [show (0 : Word).toNat = 0 from rfl, passing_key]; rfl
theorem passed_eq (c : Word) : (passed c) = (passing c).wr (Reg.pntPos 0) 1#32 := by
  unfold passed State.upsetFrame; rw [if_pos rfl]; unfold State.passNext; rw [if_pos (passing_live c), passing_pos c]; rfl
theorem passed_bits (c : Word) : (passed c).frameIn 0 0 = 0 := by rw [passed_eq]; rfl
theorem passed_dyn (c : Word) : (passed c).dynIn 0 0 = false := by rw [passed_eq]; rfl
theorem passed_check (c : Word) : (passed c).chkIn 0 0 = c := by rw [passed_eq]; rfl
theorem passed_state (c : Word) : (passed c).shState (keyUnit 0) ≠ 3 := by rw [passed_eq]; exact (by decide +kernel : ((passing 0).wr (Reg.pntPos 0) 1#32).shState (keyUnit 0) ≠ 3)

theorem passed_frame (c : Word) : (passed c).frameIn 0 0 = 0 ∧ (passed c).dynIn 0 0 = false ∧ (passed c).chkIn 0 0 = c :=
  ⟨passed_bits c, passed_dyn c, passed_check c⟩
theorem passing_runs (c : Word) : (passing c).pntRuns = true ∧ (passing c).writeBack 0 = none ∧
    (passing c).passFrame 0 = some (0, 0) ∧ (passed c).shState (keyUnit 0) ≠ 3 := ⟨passing_on c, passing_free c, passing_next c, passed_state c⟩

theorem classify_clean (s : State) (l k : Nat) (f : BitVec 10240) (d : Bool) (c : Word) (hf : s.frameIn l k = f)
    (hd : s.dynIn l k = d) (hc : s.chkIn l k = c) (h : frameCheck k d f = c) : s.classify l k = .clean := by
  subst hf hd hc; unfold State.classify; rw [if_pos h]

theorem classify_multi (s : State) (l k : Nat) (f : BitVec 10240) (d : Bool) (c : Word) (hf : s.frameIn l k = f)
    (hd : s.dynIn l k = d) (hc : s.chkIn l k = c) (h : frameCheck k d f ≠ c) (h15 : getBit (frameCheck k d f) 15 = getBit c 15) :
    s.classify l k = .multi := by
  subst hf hd hc; unfold State.classify; rw [if_neg h, if_neg (fun h => h.1 h15)]

theorem classify_single (s : State) (l k : Nat) (f : BitVec 10240) (c : Word) (hf : s.frameIn l k = f)
    (hd : s.dynIn l k = false) (hc : s.chkIn l k = c) (h15 : getBit (frameCheck k false f) 15 ≠ getBit c 15)
    (hl : getBits (frameCheck k false f) 14 0 ^^^ getBits c 14 0 = 1)
    (hh : getBits (frameCheck k false (flipBit f 0)) 31 16 = getBits c 31 16) : s.classify l k = .single 0 := by
  have hne : frameCheck k false f ≠ c := fun h => h15 (by rw [h])
  unfold State.classify; rw [hd, hf, hc, if_neg hne, hl]
  rw [if_pos ⟨h15, by decide, by decide, hh, by simp⟩]

theorem single_word (a b : Word) : ∃ c : Word, getBit a 15 ≠ getBit c 15 ∧ getBits a 14 0 ^^^ getBits c 14 0 = 1 ∧
    getBits b 31 16 = getBits c 31 16 := by
  have hx : (a.toNat % 2 ^ 15) ^^^ 1 < 2 ^ 15 := Nat.xor_lt_two_pow (Nat.mod_lt _ (by decide)) (by decide)
  have hb := b.isLt
  refine ⟨BitVec.ofNat 32 (b.toNat / 2 ^ 16 * 2 ^ 16 + (1 - a.toNat / 2 ^ 15 % 2) * 2 ^ 15 + ((a.toNat % 2 ^ 15) ^^^ 1)), ?_, ?_, ?_⟩
  · unfold getBit
    rw [BitVec.getLsbD_ofNat, ← BitVec.testBit_toNat, Nat.testBit_eq_decide_div_mod_eq, Nat.testBit_eq_decide_div_mod_eq]
    generalize (a.toNat % 2 ^ 15) ^^^ 1 = x at hx
    simp only [show (decide (15 < 32)) = true from rfl, Bool.true_and, ne_eq, decide_eq_decide]
    omega
  · have e : getBits (BitVec.ofNat 32 (b.toNat / 2 ^ 16 * 2 ^ 16 + (1 - a.toNat / 2 ^ 15 % 2) * 2 ^ 15 + ((a.toNat % 2 ^ 15) ^^^ 1))) 14 0 =
        (a.toNat % 2 ^ 15) ^^^ 1 := by
      unfold getBits; rw [BitVec.toNat_ofNat]
      generalize (a.toNat % 2 ^ 15) ^^^ 1 = x at hx ⊢
      omega
    rw [e]; unfold getBits
    simp only [Nat.sub_zero, Nat.pow_zero, Nat.div_one]
    rw [← Nat.xor_assoc, Nat.xor_self, Nat.zero_xor]
  · unfold getBits; rw [BitVec.toNat_ofNat]
    generalize (a.toNat % 2 ^ 15) ^^^ 1 = x at hx ⊢
    omega

theorem witness_BackgroundPass_clean : ∃ c, (passed c).classify 0 0 = .clean := by
  obtain ⟨f, hf⟩ : ∃ f : BitVec 10240, f = 0 := ⟨0, rfl⟩
  exact ⟨frameCheck 0 false f, classify_clean _ 0 0 f false _ (by rw [hf]; exact (passed_frame _).1) (passed_frame _).2.1 (passed_frame _).2.2 rfl⟩

theorem witness_BackgroundPass_single : ∃ c, (passed c).classify 0 0 = .single 0 := by
  obtain ⟨f, hf⟩ : ∃ f : BitVec 10240, f = 0 := ⟨0, rfl⟩
  obtain ⟨c, h1, h2, h3⟩ := single_word (frameCheck 0 false f) (frameCheck 0 false (flipBit f 0))
  exact ⟨c, classify_single _ 0 0 f c (by rw [hf]; exact (passed_frame _).1) (passed_frame _).2.1 (passed_frame _).2.2 h1 h2 h3⟩

theorem witness_BackgroundPass_multi : ∃ c, (passed c).classify 0 0 = .multi := by
  obtain ⟨f, hf⟩ : ∃ f : BitVec 10240, f = 0 := ⟨0, rfl⟩
  obtain ⟨c, h⟩ : ∃ c : Word, frameCheck 0 false f ≠ c ∧ getBit (frameCheck 0 false f) 15 = getBit c 15 := by
    generalize frameCheck 0 false f = x
    refine ⟨x ^^^ 1#32, ?_, ?_⟩
    · intro h; have := congrArg (fun w : Word => w.getLsbD 0) h; simp at this
    · unfold getBit; simp
  exact ⟨c, classify_multi _ 0 0 f false c (by rw [hf]; exact (passed_frame _).1) (passed_frame _).2.1 (passed_frame _).2.2 h.1 h.2⟩

theorem witness_BackgroundPassCommandsComplete :
    (State.passFrame { passing 0 with pnt := { shadowPos := [(0, 67585)] } } 0 = none ∧
      State.pntRuns { passing 0 with pnt := { shadowPos := [(0, 67585)] } } = true) ∧
    (State.writeBack { pnt := { writeBack := [(0, (0, 5, 9#32))] } } 0 = some (0, 5, 9#32)) ∧
    (State.mayWrite {} .keeper Reg.pntCtl = true ∧ State.mayWrite {} .keeper Reg.pntHoldclr = true ∧ State.mayWrite {} .keeper Reg.pntLogPop = true) ∧
    (getBits 0x3C5A005F#32 31 16 = 0x3C5A ∧ getBits 0x3C5A005F#32 6 0 = 95 ∧
      State.held { regs := [(Reg.pntHold 2, 0x80000000#32)] } 95 = true) ∧
    (State.fld { regs := [(Reg.pntRlLen 0, 4#32)] } (Reg.pntRlLen (State.baySlot { regs := [(Reg.pntRlLen 0, 4#32)] } 7)) 29 0 = 4 ∧
      State.mode (passing 0) = 6 ∧ (passing 0).bit Reg.cfgStgstat 15 = false ∧ (passing 0).fld Reg.cfgPsrc 2 0 = 7) ∧
    (State.fld { regs := [(Reg.pntCfg, 0x70000#32)] } Reg.pntCfg 21 16 = 7 ∧
      State.mbAnswer { regs := [(Reg.pntCfg, 0x70000#32)] } 7 ((State.now { regs := [(Reg.pntCfg, 0x70000#32)] }).addNs 200) = .posted) := by
  refine ⟨?_, ?_, ?_, ?_, ?_, ?_⟩ <;> decide +kernel

/-- A write-back that leaves the frame matching its check word, and one that does not. -/
theorem witness_WriteBackDone : (∃ c, (passed c).frameMatches 0 0 = true) ∧ (∃ c, (passed c).frameMatches 0 0 = false) := by
  obtain ⟨f, hf⟩ : ∃ f : BitVec 10240, f = 0 := ⟨0, rfl⟩
  have h1 : ∀ c, (passed c).frameIn 0 0 = f := fun c => by rw [hf]; exact (passed_frame c).1
  refine ⟨⟨frameCheck 0 false f, ?_⟩, (another_word (frameCheck 0 false f)).imp
    (fun c h => frameMatches_false _ 0 0 f false c (h1 c) (passed_frame c).2.1 (passed_frame c).2.2 h)⟩
  unfold State.frameMatches
  rw [h1, (passed_frame _).2.1, (passed_frame _).2.2]; exact beq_self_eq_true _

theorem witness_FlashCommandCyclesComplete :
    (State.flashServes { regs := [(Reg.sysMode, 6#32), (Reg.sem 1, 16#32)] } (.core 0) = true ∧ State.holds { regs := [(Reg.sem 1, 16#32)] } (.core 0) 1 = true ∧ State.flashBusy {} = false ∧ State.flashOpBusy {} = false) ∧
    (State.cycleAddr {} 0x3FFFFF00 = some 0x3FFFFF00 ∧ State.programRefusal {} 0x3FFFFF00 [0#64] = none ∧
      State.cycleAddr { regs := [(Reg.flcStat, 0x100#32)] } 0x100000 = none) ∧
    (State.flashProtected {} 4095 = false ∧ (FlashState.entry {} 4095).bad = false ∧ sectorOf 0x3FFFFF00 = 4095) ∧
    (State.flashOpBusy { regs := [(Reg.flcStat, 1#32)] } = true ∧
      State.flashSuspended { regs := [(Reg.flcStat, 1#32)] } = false ∧
      State.flashSuspended { regs := [(Reg.flcStat, 0x20#32)] } = true) := by decide +kernel

theorem witness_FlashOperationsEnd :
    (State.flashBusy { regs := [(Reg.flcStat, 1#32)] } = true ∧
      State.fld { regs := [(Reg.flcCfg, 9#32)] } Reg.flcSuspcnt 15 0 + 1 < max 1 (State.fld { regs := [(Reg.flcCfg, 9#32)] } Reg.flcCfg 15 0)) ∧
    (State.flashSuspended { flash := { op := some ⟨1, 5, 0x50000, [7#64], .program, 0, 0, 0⟩ } } = false) ∧
    (State.flashServes { regs := [(Reg.sysMode, 6#32)] } (.hostPcie 0) = true ∧ State.holds {} (.hostPcie 0) 1 = false ∧ hostReader (.hostPcie 0) = true ∧ State.flashBusy {} = false ∧
      State.erasedUnder {} 0x3FFFFFFC = false) := by decide +kernel

/-- A block whose lane 0 is powered and on, with LANE_STAT and the PLLs locked. -/
def laneBlock (stat : Word) : State :=
  { regs := [(Reg.pwrRail 4, 0x10000#32), (Reg.pwrRail 6, 0x10000#32), (Reg.laneCtl 0, 2#32), (Reg.laneStat 0, stat), (Reg.qstat 0, 3#32),
      (Reg.lanePrbs 0, 0x10#32)] }

theorem witness_LaneAndQuadCommandsComplete :
    (State.laneOwned {} 63 = false ∧ State.laneOwned {} 0 = false ∧ getBits 0x03F0#32 3 0 + getBits 0x03F0#32 9 4 + getBits 0x03F0#32 14 10 = 63) ∧
    (State.quadOwner {} 15 = 0 ∧ ∀ i < 4, State.fld {} (Reg.laneCtl (60 + i)) 1 0 = 0) ∧
    (State.bit { regs := [(Reg.qstat 15, 4#32)] } (Reg.qstat 15) 2 = true) ∧
    ((laneBlock 2).laneUp 0 = true ∧ (laneBlock 2).windowFrozen 0 ⟨0, 0, false, false, 50, 0, 0, []⟩ = true) ∧
    ((laneBlock 1).laneUp 0 = true ∧ (laneBlock 1).windowFrozen 0 ⟨0, 0, false, false, 50, 0, 0, []⟩ = false) ∧
    (State.pllRelocks { qrelock := [(0, true)] } 0 0 = true ∧
      State.pllOn { laneBlock 1 with live := [(Reg.qplllCfg 0, 0x8000#32)] } 0 0 = true) ∧
    ((laneBlock 1).bit (Reg.qstat 0) 1 = true) ∧
    (State.txStopped (State.laneRefresh { laneBlock 1 with regs := (Reg.hpCtl 0, 1#32) :: (laneBlock 1).regs } 0) 0 = false) := by
  refine ⟨?_, ?_, ?_, ?_, ?_, ?_, ?_, ?_⟩ <;> decide +kernel

theorem witness_LaneReceiverEventsComplete :
    ((laneBlock 0).laneUp 0 = true ∧ (laneBlock 0).lanePllOk 0 = true ∧ (laneBlock 0).bit (Reg.laneStat 0) 0 = false) ∧
    ((laneBlock 0x19).bit (Reg.laneStat 0) 0 = true ∧ (laneBlock 0x19).bit (Reg.laneStat 0) 3 = true ∧
      (laneBlock 0x19).bit (Reg.laneStat 0) 4 = true ∧ (laneBlock 0x19).bit (Reg.laneStat 0) 1 ≠ true) ∧
    (State.lanePcs { laneBlock 1 with live := [(Reg.laneCfg 0, 0x410#32)] } 0 = 1 ∧
      State.liveFld { laneBlock 1 with live := [(Reg.laneCfg 0, 0x410#32)] } (Reg.laneCfg 0) 11 10 = 1) ∧
    (State.lanePcs { laneBlock 1 with live := [(Reg.laneCfg 0, 0x1A0#32)] } 0 = 2 ∧ (laneBlock 1).bit (Reg.laneStat 0) 4 = false) ∧
    ((laneBlock 1).fld (Reg.lanePrbs 0) 6 4 = 1 ∧ (laneBlock 1).blockGated 0 = false) := by decide +kernel

/-- Port 0 of device 5, which is the root, with WP_STAT at `stat` and WP_CTL at `ctl`, running in USER OPERATION. -/
def walePort (stat ctl : Word) (w : WpSt) : State :=
  { regs := [(Reg.wpStat 0, stat), (Reg.wpCtl 0, ctl), (Reg.waleId, 5#32), (Reg.waleTree, 0x1E005#32), (Reg.sysMode, 6#32)]
    wale := { ports := [(0, w)] } }

/-- A block with sequence number `q` of device 9 for device `d`. -/
def waleBlock (q : Fin 4096) (d : Fin 512) (bcast : Bool) (body : WaleBody) : WaleBlock :=
  { seq := q, kind := .sysctl, src := 9, dest := d, hops := 3, len := 1, bcast := bcast, first := true, last := true, ackreq := false
    sub := 0, addr := 0, tag := 0, epoch := 0, status := 0, body := body }

theorem witness_WalePortCommandsComplete :
    (let s := walePort 0 0x06#32 {}
     let t := s.plainWrite (Reg.wpCtl 0) (putBit (s.rd (Reg.wpCtl 0)) 0 true)
     let u := t.setWp 0 { t.wp 0 with width := s.fld (Reg.wpCtl 0) 2 1 }
     s.bit (Reg.wpCtl 0) 0 = false ∧ s.fld (Reg.wpCtl 0) 5 3 < 6 ∧ u.waleModes = true ∧ u.wpGated 0 = false) ∧
    (let s := walePort 0 0x69#32 {}
     let t := (s.plainWrite (Reg.wpCtl 0) (putBit (s.rd (Reg.wpCtl 0)) 8 true)).linkDown 0 4
     s.bit (Reg.wpCtl 0) 0 = true ∧ s.fld (Reg.wpCtl 0) 5 3 = 5 ∧ t.waleModes = true ∧ t.wpGated 0 = false ∧
      s.bit (Reg.wpCtl 0) 6 = true ∧ s.waleModes = true ∧ s.wpState 0 = 0 ∧ s.wpGated 0 = false) ∧
    (let s := walePort 0 0x69#32 {}
     let g : State := { s with regs := (Reg.clkHgstat 1, 0x10000#32) :: s.regs }
     g.wpGated 0 = true ∧ g.wpState 0 = 0 ∧ g.waleModes = true) := by
  refine ⟨?_, ?_, ?_⟩ <;> decide +kernel

theorem witness_WaleTrainingComplete :
    ((walePort 0x405#32 1 {}).wpState 0 = 1 ∧ (walePort 0x405#32 1 {}).devid = 5 ∧ (walePort 0x405#32 1 {}).waleModes = true ∧
      (walePort 0x405#32 1 {}).fld (Reg.wpStat 0) 9 2 = 1 ∧ (walePort 0x405#32 1 {}).fld (Reg.wpStat 0) 17 10 = 1) ∧
    ((walePort 0x407#32 1 {}).wpState 0 = 3 ∧ ((walePort 0x407#32 1 {}).wpTrain 0).wpState 0 = 1 ∧ ((walePort 0x407#32 1 {}).wpTrain 0).devid = 5) ∧
    (walePort 0x406#32 1 {}).wpState 0 = 2 := by
  refine ⟨?_, ?_, ?_⟩ <;> decide +kernel

theorem witness_WaleLinkLayerComplete :
    ((walePort 0x406#32 1 {}).wpUp 0 = true ∧ ((walePort 0x406#32 1 {}).wp 0).rxSeq = 0 ∧ ((walePort 0x406#32 1 { got := true }).wp 0).got = true) ∧
    ((((walePort 0x406#32 1 { nak := true }).bumpSat (Reg.wpCntBad 0)).wpFault 0 4).wp 0).nak = true ∧
    ((((walePort 0x406#32 1 {}).bumpSat (Reg.wpCntBad 0)).wpFault 0 4).wp 0).nak = false ∧
    ((walePort 0x406#32 1 { buf := [waleBlock 7 5 false (.words [])], resends := 6 }).wp 0).buf.findIdx? (fun b => b.seq.val == 7) = some 0 ∧
    ((State.ackDrop (walePort 0x406#32 1 { buf := [waleBlock 7 5 false (.words [])], resends := 6 }) 0 4095).wp 0).buf ≠ [] ∧
    ((State.ackDrop (walePort 0x406#32 1 { buf := [waleBlock 7 5 false (.words [])], resends := 6 }) 0 4095).wp 0).resends < 7 ∧
    ((walePort 0x406#32 1 { buf := [waleBlock 7 5 false (.words [])], resends := 7 }).wp 0).resends = 7 := by decide +kernel

theorem witness_WaleLaneSetsComplete :
    ((walePort 0x406#32 1 {}).wpUp 0 = true ∧ ((walePort 0x406#32 1 {}).wp 0).pend = none ∧
      ((walePort 0x406#32 1 {}).fld (Reg.wpStat 0) 17 10).testBit 0 = true ∧ ((walePort 0x406#32 1 { pend := some 255 }).wp 0).pend = some 255) ∧
    (let s : State := { walePort 0x0C0A#32 1 { good := 3, fixed := 2, drops := [(0, 0), (0, 0), (0, 0)] } with
       regs := [(Reg.wpStat 0, 0xC0A#32), (Reg.laneStat 8, 9#32), (Reg.laneStat 9, 9#32)] }
     let ds : List (Nat × Nat) := ((s.wp 0).drops.filter (fun d => decide (s.boot.ticks < d.2 + 400000000))) ++ [(0, s.boot.ticks)]
     s.wpUp 0 = true ∧ decide (4 ≤ (ds.filter (fun d => d.1 == 0)).length) = true ∧ chooseSet 2 (s.wp 0).fixed = 2 ∧ chooseSet 0 (s.wp 0).fixed = 0) ∧
    (let s : State := { regs := [(Reg.wpStat 0, 2#32), (Reg.laneStat 15, 9#32)], wale := { ports := [(0, { dropped := 128, fixed := 8, trn := [(7, 64)] })] } }
     let t := s.setWp 0 { s.wp 0 with good := (s.wp 0).good ||| 2 ^ 7, dropped := (s.wp 0).dropped &&& (255 - 2 ^ 7) }
     s.wpUp 0 = true ∧ (s.wp 0).dropped.testBit 7 = true ∧ (s.wp 0).quar.testBit 7 = false ∧ s.laneLocked 0 7 = true ∧
      Store.get (fun _ => 0) (s.wp 0).trn 7 = 64 ∧
      ((List.range 8).filter ((s.wp 0).pend.getD (s.fld (Reg.wpStat 0) 17 10)).testBit).length <
        ((List.range 8).filter (chooseSet (t.goodLanes 0) (s.wp 0).fixed).testBit).length) := by
  refine ⟨?_, ?_, ?_⟩ <;> decide +kernel

/-- Port 0 UP on device 5, which is the root and reads its configuration from Wale. -/
def walePortUp (w : WaleSt) : State :=
  { regs := [(Reg.wpStat 0, 0x406#32), (Reg.waleId, 5#32), (Reg.waleTree, 0x1E005#32), (Reg.sysMode, 6#32), (Reg.cfgPsrc, 4#32)], wale := w }

/-- A block that is accepted, of a device whose epoch is not known. -/
theorem witness_WaleBlocksComplete (b : WaleBody) :
    (walePortUp {}).ReceivesHere (((walePortUp {}).afterRx 0).peerRecord 9 0) 0 (waleBlock 0 5 false b) ∧
    (walePortUp {}).Receives (((walePortUp {}).afterRx 0).peerRecord 9 0) 0 (waleBlock 0 5 true b) := by
  have h1 : (walePortUp {}).wpUp 0 = true := by decide +kernel
  have h2 : (0 : Nat) = ((walePortUp {}).wp 0).rxSeq := by decide +kernel
  have h3 : ((walePortUp {}).afterRx 0).devid = 5 ∧ ((walePortUp {}).afterRx 0).bit (Reg.walePeer 9) 8 = false := by decide +kernel
  have hf : ∀ c, ((walePortUp {}).afterRx 0).epochTest (waleBlock 0 5 c b) = (true, ((walePortUp {}).afterRx 0).peerRecord 9 0) := by
    intro c; unfold State.epochTest
    rw [show (waleBlock 0 5 c b).src.val = 9 from rfl, show (waleBlock 0 5 c b).epoch.val = 0 from rfl, h3.1]; dsimp only; rw [h3.2]; rfl
  have h4 : (((walePortUp {}).afterRx 0).peerRecord 9 0).devid ≠ 511 := by decide +kernel
  have h5 : (((walePortUp {}).afterRx 0).peerRecord 9 0).routeOf 5 = 6 := by decide +kernel
  exact ⟨⟨⟨h1, h2, hf false⟩, rfl, h4, h5⟩, ⟨h1, h2, hf true⟩⟩

theorem witness_WaleBlocksComplete_states :
    (let t := ((walePortUp { reqs := [⟨0, 9, true, .slot 0⟩] }).afterRx 0).peerRecord 9 0
     t.wale.reqs.find? (fun r => r.tag == (waleBlock 0 5 false (.words [])).tag.val && (r.dest == (waleBlock 0 5 false (.words [])).src.val ||
      (waleBlock 0 5 false (.words [])).status == 2 || (waleBlock 0 5 false (.words [])).status == 3)) =
      some ⟨0, 9, true, .slot 0⟩) ∧
    (let t := ((walePortUp { gangRx := some 9 }).afterRx 0).peerRecord 9 0
     t.engSource = some 4 ∧ t.wale.gangRx = some 9 ∧ t.wale.gangEnded = false ∧ t.wale.mq.length < 16) ∧
    (let t := ((walePortUp { exch := some ⟨0, 3, 0, some 9⟩ }).afterRx 0).peerRecord 9 0
     t.wale.exch = some ⟨0, 3, 0, some 9⟩ ∧ (t.wp 0).skip = 0) ∧
    (let t := (((walePortUp {}).afterRx 0).peerRecord 9 0).forwarded 0 (waleBlock 0 5 true (.words []))
     t.devid = 5 ∧ t.bit Reg.waleBndref 31 = false ∧ t.bit Reg.waleTree 23 = false ∧ t.routeOf 9 ≠ 0 ∧
      t.mbAnswer 7 (msgInstant 500 1) = .posted) := by
  refine ⟨?_, ?_, ?_, ?_⟩ <;> decide +kernel

/-- Device 5 below port 0, with time and an armed group 0 on mailbox 0. -/
def waleChild (cfg : Word) : State :=
  { regs := [(Reg.wpStat 0, 0x406#32), (Reg.waleId, 5#32), (Reg.waleTree, 0x200#32), (Reg.waleSysCfg, 1#32), (Reg.sysMode, 6#32),
      (Reg.cgStat 0, 1#32), (Reg.cgCfg 0, cfg)]
    cad := { mbs := [(0, some ⟨9, 1⟩)] }, wale := { exch := some ⟨0, 7, 0, none⟩, sysAt := some ⟨9, 1⟩, gangTx := some (0, false) } }

theorem witness_WaleSystemCommandsComplete :
    ((waleChild 0x10000#32).upPort = 0 ∧ (waleChild 0x10000#32).wpUp 0 = true ∧ (waleChild 0x10000#32).bit Reg.waleSysCfg 0 = true ∧
      (waleChild 0x10000#32).wale.exch = some ⟨0, 7, 0, none⟩ ∧ (waleChild 0x10000#32).wale.sysAt.isSome = true) ∧
    ((waleChild 0x10000#32).sourceNext 0 = some ⟨9, 1⟩ ∧ (waleChild 0x10000#32).wreadyGroups 0 = [0] ∧ (waleChild 0x10000#32).isRoot = false ∧
      (waleChild 0x10000#32).bit Reg.waleTree 24 = false ∧ State.gangRoute {} = false ∧
      (waleChild 0x10000#32).bit Reg.waleGangCtl 2 = false) ∧
    ((walePortUp { tally := [(⟨9, 1⟩, 3, true)], gangTx := some (0, true), gangRx := some 3 }).isRoot = true ∧
      (State.wale (walePortUp { tally := [(⟨9, 1⟩, 3, true)] })).tally.any (fun v => v.1.same (msgInstant 9 1)) = true) ∧
    ((walePortUp {}).doneConditions = true ∧ (walePortUp {}).wale.sysSent = false ∧ (walePortUp {}).bit Reg.waleGangCtl 16 = false ∧ (walePortUp {}).flashOpBusy = false) ∧
    (State.gangRoute { regs := [(Reg.wpStat 0, 2#32), (Reg.waleId, 5#32), (Reg.waleTree, 0x20000#32), (Reg.waleGangCtl, 8#32)] } = true) ∧
    getBit (goWord 0 true 255) 12 = true ∧
    ((walePortUp {}).plainWrite Reg.waleGangCtl (BitVec.ofNat 32 (1 + 4 * 1 + 8 * 1 + 16 * 511))).bit Reg.waleGangCtl 16 = false := by
  refine ⟨?_, ?_, ?_, ?_, ?_, ?_, ?_⟩ <;> decide +kernel

theorem witness_WaleVotes :
    State.groupWait (waleChild 0x10000#32) 0 0 true = 0 ∧ State.groupWait { regs := [(Reg.cgMask0 0, 1#32)] } 0 0 true ≠ 0 := by decide +kernel

/-- A block in RUN whose port A is the stream source, with the port's hidden state `h`. -/
def hostPort (h : HostPort) : State :=
  { regs := [(Reg.sysMode, 6#32), (Reg.cfgPsrc, 2#32), (Reg.pwrRail 4, 0x10000#32), (Reg.pwrRail 6, 0x10000#32), (Reg.qstat 0, 9#32), (Reg.qstat 1, 9#32)], ports := [(0, h)] }

theorem witness_HostPortCommandsComplete :
    ((hostPort {}).bit (Reg.hpCtl 0) 0 = true ∧ (hostPort {}).pcieModes = true ∧ (hostPort {}).blockGated 54 = false ∧
      (portQuads 0 3).all (hostPort {}).quadReady = true ∧ (State.port (hostPort {}) 0).linkUp = false ∧
      (hostPort {}).fld (Reg.hpCtl 0) 3 1 = 5 ∧ (hostPort {}).fld (Reg.hpCtl 0) 5 4 = 3) ∧
    ((State.port (hostPort { linkUp := true }) 0).linkUp = true ∧ State.mode (hostPort {}) = 6 ∧ (hostPort {}).pwr.drained = false ∧
      (hostPort { linkUp := true }).rd (Reg.hpStat 0) ≠ putBit (putBits ((hostPort { linkUp := true }).rd (Reg.hpStat 0)) 7 6 3) 8 true) ∧
    ((hostPort {}).engSource = some 2 ∧ (State.port (hostPort {}) 0).ended = false ∧ (hostPort { linkUp := true }).engSource = some 2 ∧
      (State.port (hostPort {}) 0).spiWait = []) ∧
    (getBits 0xE5D00001#32 31 16 = 0xE5D0 ∧ getBit 0xE5D00001#32 0 = true ∧ viaPort (.hostSpi 0) 0 = true) ∧
    (State.port { ports := [(1, { retQueue := [5#32] })] } 1).retQueue = [5#32] ∧ State.engSource { ports := [(1, { retQueue := [5#32] })] } ≠ some 3 ∧
    ((hostPort {}).spiServes 0 = true ∧ getBits 0xBFFFFFFC#32 31 30 ≠ 3 ∧ (0xBFFFFFFC#32).toNat % 4 = 0 ∧ (hostPort {}).spiHeld 0 = false ∧ (hostPort {}).spiRuns = true ∧
      ({ hostPort {} with pwr := { entering := 1 } } : State).spiHeld 0 = true ∧ State.spiServes { hostPort {} with pwr := { entering := 1 } } 0 = true) := by
  refine ⟨?_, ?_, ?_, ?_, ?_, ?_, ?_⟩ <;> decide +kernel

theorem witness_SemaphoresFollowR374 :
    (State.semOwner {} 63 = 0 ∧ State.semOwner { regs := [(Reg.sem 0, 0x10#32)] } 0 = agentIdent (.core 0) ∧
      State.holds { regs := [(Reg.sem 0, 0x10#32)] } (.core 0) 0 = true ∧ State.holds { regs := [(Reg.sem 0, 0x10#32)] } (.wale 511) 0 = false ∧
      State.semOwner { regs := [(Reg.sem 0, 0x10#32)] } 0 ≠ 0) ∧
    (State.holds { regs := [(Reg.sem 1, 0x203FF#32)] } (.wale 511) 1 = true ∧ State.bit { regs := [(Reg.sem 1, 0x103FF#32)] } (Reg.sem 1) 16 = true ∧
      State.bit {} (Reg.sem 63) 16 = false) := by
  refine ⟨?_, ?_⟩ <;> decide +kernel

theorem witness_ForcedReleaseFollowsR377 :
    (getBits 0xC35A003F#32 31 16 = 0xC35A ∧ ((State.wr {} Reg.semFrclog (BitVec.ofNat 32 (agentIdent .keeper + 2 ^ 16 * 63))).raise 378).semOwner 63 = 0) ∧
    (((State.wr { regs := [(Reg.sem 1, 0x10#32), (Reg.sem 63, 0x10#32)] } Reg.semFrclog (BitVec.ofNat 32 (agentIdent .keeper + 2 ^ 16 * 63))).raise 378).semOwner 63 ≠ 0 ∧
      ((State.wr { regs := [(Reg.sem 1, 0x10#32), (Reg.sem 63, 0x10#32)] } Reg.semFrclog (BitVec.ofNat 32 (agentIdent .keeper + 2 ^ 16 * 1))).raise 378).semOwner 1 ≠ 0) := by
  refine ⟨?_, ?_⟩ <;> decide +kernel

theorem witness_MailboxesFollowR380 : State.bit {} (Reg.mbCtl 15) 2 = false ∧ State.bit { regs := [(Reg.mbCtl 0, 4#32)] } (Reg.mbCtl 0) 2 = true ∧
    getBit 3#32 0 = true ∧ getBit 3#32 1 = true := by decide +kernel

/-- Frame `m` of a clock column in which the enable of the port and the lowest bit of its clock select are 1. -/
def portFrame (m : Nat) : BitVec 10240 :=
  (if Config.clockBit 176 / 10240 = m then BitVec.twoPow 10240 (Config.clockBit 176 % 10240) else 0) |||
    (if Config.clockBit 181 / 10240 = m then BitVec.twoPow 10240 (Config.clockBit 181 % 10240) else 0)

/-- The block with an enabled port, clocked by stake net 0, in the clock column of a bay that is released. -/
def portBay (bay : Nat) (s : State) : State :=
  { s with planes := { frames := (List.range 8).map (fun m => (frameKeyOf (bayBand bay) (bayPos bay clockPos) 0 + m, portFrame m)), bondFree := [(bay, true)], initFree := [(bay, true)] } }

theorem portFrames_get (k : Nat) (f : Nat → BitVec 10240) (m : Nat) (h : m < 8) :
    Store.get zeroFrame ((List.range 8).map (fun m => (k + m, f m))) (k + m) = f m := by
  simp only [List.range, List.range.loop, List.map]
  interval_cases m <;> simp [Store.get]

theorem clockBit_lt (b : Nat) : Config.clockBit b < 81920 := (Config.clockPlace _).isLt

theorem clockBit_inj (a b : Nat) (ha : a < 81920) (hb : b < 81920) (h : Config.clockBit a = Config.clockBit b) : a = b := by
  have h2 := Config.clockPlace.injective (Fin.ext h)
  have h3 := congrArg Fin.val h2
  simp only [Fin.ofNat, Nat.mod_eq_of_lt ha, Nat.mod_eq_of_lt hb] at h3
  exact h3

/-- The fields of the port's column, as placed. -/
theorem portBay_col (bay : Nat) (s : State) (b : Nat) (h : b < 81920) : (portBay bay s).clockCol bay b = (b == 176 || b == 181) := by
  have hl := clockBit_lt b
  unfold State.clockCol State.bayBit State.colBit State.frameIn
  have e : (portBay bay s).liveLatch bay = 0 := rfl
  rw [e]
  have hk : latchKey 0 (frameKeyOf (bayBand bay) (bayPos bay clockPos) (Config.clockBit b / 10240)) =
      frameKeyOf (bayBand bay) (bayPos bay clockPos) 0 + Config.clockBit b / 10240 := by simp [latchKey, frameKeyOf]
  rw [hk]
  show BitVec.getLsbD (Store.get zeroFrame ((List.range 8).map (fun m => (frameKeyOf (bayBand bay) (bayPos bay clockPos) 0 + m, portFrame m))) _) _ = _
  rw [portFrames_get _ _ _ (by omega)]
  unfold portFrame
  have key : ∀ c, c < 81920 → ((if Config.clockBit c / 10240 = Config.clockBit b / 10240 then BitVec.twoPow 10240 (Config.clockBit c % 10240) else 0).getLsbD (Config.clockBit b % 10240)) = (b == c) := by
    intro c hc
    split
    · rename_i h1
      rw [BitVec.getLsbD_twoPow]
      have hlt : Config.clockBit c % 10240 < 10240 := Nat.mod_lt _ (by decide)
      simp only [hlt, decide_true, Bool.true_and]
      by_cases hbc : b = c
      · subst hbc; simp
      · have : Config.clockBit c ≠ Config.clockBit b := fun h' => hbc (clockBit_inj _ _ hc h h').symm
        have h3 : ¬ (Config.clockBit c % 10240 = Config.clockBit b % 10240) := by omega
        simp [h3, hbc]
    · rename_i h1
      have : b ≠ c := by rintro rfl; exact h1 rfl
      simp [this]
  rw [BitVec.getLsbD_or, key 176 (by decide), key 181 (by decide)]

theorem portBay_clk (bay : Nat) (s : State) : (portBay bay s).clockCol bay oPortEn = true ∧ fieldAt ((portBay bay s).clockCol bay) oPortClk 5 = 1 := by
  refine ⟨by rw [portBay_col _ _ _ (by decide)]; rfl, ?_⟩
  have h : ∀ i, i < 5 → (portBay bay s).clockCol bay (oPortClk + i) = (i == 0) := by
    intro i hi; rw [portBay_col _ _ _ (by unfold oPortClk; omega)]; interval_cases i <;> rfl
  unfold fieldAt
  simp only [List.range, List.range.loop, List.foldl, h 0 (by decide), h 1 (by decide), h 2 (by decide), h 3 (by decide), h 4 (by decide)]
  rfl
/-- The hamper in state `stat`, with hidden state `h`. -/
def hamper (stat : Word) (h : HampSt) : State := { regs := [(Reg.hampStat, stat)], hamp := h }

/-- A request of 32 bytes. -/
def hampRq (write : Bool) : HampRq := { write := write, addr := 536870911, len := 0, tag := 63 }

/-- The last beat of a write. -/
def hampLast : HampBeat := { data := 1#256, be := 0xFFFFFFFF#32, last := true }

theorem witness_HamperCommandsComplete_port :
    (portBay 1 (hamper 1#32 {})).hampEnabled 0 = true ∧ (portBay 1 (hamper 1#32 {})).clamped (hampBay 0) = false ∧
      (portBay 1 (hamper 1#32 {})).hampReqReady 0 = true := by
  refine ⟨?_, by decide +kernel, by decide +kernel⟩
  have h := portBay_clk 1 (hamper 1#32 {})
  unfold State.hampEnabled State.hampClk
  rw [show hampBay 0 = 1 from rfl]; simp only [h.1, h.2, if_true]; rfl

theorem witness_HamperCommandsComplete :
    ((hamper 1#32 { ports := [(0, { reqs := [hampRq true], beats := [hampLast] })] }).hampGated 0 = false ∧
      (State.hampPort (hamper 1#32 { ports := [(0, { reqs := [hampRq true], beats := [hampLast] })] }) 0).oldest true = some (0, hampRq true) ∧
      takeWrite [hampLast] = some ([hampLast], []) ∧
      (hamper 1#32 {}).hampFaults (hampRq true) = false ∧ (hamper 2#32 {}).hampFaults (hampRq true) = true ∧
      (hamper 1#32 {}).hampReport 0 (rqAddr (hampRq true)) true 0 = (0, hamper 1#32 {}) ∧
      (hamper 1#32 {}).hampReport 0 (rqAddr (hampRq false)) false 0 = (0, hamper 1#32 {})) ∧
    ((State.hampPort (hamper 1#32 { ports := [(0, { reqs := [hampRq false] })] }) 0).oldest false = some (0, hampRq false) ∧
      (State.hampPort (hamper 1#32 { ports := [(0, { reqs := [hampRq false] })] }) 0).readSpace 1 ≤ 64) ∧
    ((hamper 0#32 { training := true }).hamp.training = true ∧ (hamper 1#32 { rate := 2 }).fld Reg.hampStat 5 4 ≠ 2 ∧ (hamper 1#32 {}).hampState = 1 ∧
      (95#8).toInt ≤ 95 ∧ 95 < (127#8).toInt ∧ (hamper 1#32 {}).bit Reg.hampStat 6 = false) ∧
    (∃ e ∈ (hamper 1#32 { phase := .draining, ports := [(0, { reqs := [hampRq false] })] }).hamp.ports, e.2.reqs ≠ []) ∧
    ((hamper 3#32 {}).hampState = 3 ∧ (hamper 3#32 {}).bit Reg.hampStat 3 = (hamper 3#32 {}).bit Reg.hampCfg 0 ∧
      (hamper 11#32 {}).hampState = 3 ∧ (hamper 11#32 {}).bit Reg.hampStat 3 ≠ (hamper 11#32 {}).bit Reg.hampCfg 0) := by
  refine ⟨?_, ?_, ?_, ⟨(0, { reqs := [hampRq false] }), List.mem_cons_self .., by simp⟩, ?_⟩ <;> decide +kernel

/-- A block in RUN with core 0 running, an enabled watchdog 0 and a busy gateway port 0. -/
def clusterRun (stage : Bool) : State :=
  { regs := [(Reg.sysMode, 6#32), (Reg.sysClstat, 1#32)], wds := [(0, { en := true, stage := stage })]
    gws := [(0, { reads := [⟨31, 64, .agent .keeper, true⟩], tags := [31], done := [(31, 0, [])] })] }

theorem witness_GatewayAvailable (g : List (Nat × GwSt)) : (portBay 2 { clusterRun false with gws := g }).gwAvail 0 = true := by
  have h := portBay_clk 2 { clusterRun false with gws := g }
  have hc : (portBay 2 { clusterRun false with gws := g }).clamped 2 = false := by
    have : (portBay 2 (clusterRun false)).clamped 2 = false := by decide +kernel
    exact this
  have hm : (portBay 2 { clusterRun false with gws := g }).mode = 6 := by
    have : (portBay 2 (clusterRun false)).mode = 6 := by decide +kernel
    exact this
  unfold State.gwAvail State.gwClk
  rw [show gwBay 0 = 2 from rfl]; simp only [h.1, h.2, hc, hm, if_true]; rfl

theorem witness_ClusterAndGatewayCommandsComplete :
    (getBits 0x3CA50001#32 31 16 = 0x3CA5 ∧ (clusterRun false).coresHeld = false ∧ (clusterRun false).coreRuns 0 = true ∧ (clusterRun false).hubHeld = false ∧
      (clusterRun false).waits = [] ∧ ({ clusterRun false with pwr := { entering := 1 } } : State).hubHeld = true) ∧
    ((State.wd (clusterRun false) 4).en = false ∧ (State.wd (clusterRun false) 0).en = true ∧ getBits 0x6A950000#32 31 16 = 0x6A95 ∧ State.mode (clusterRun false) = 6) ∧
    ((State.wd (clusterRun true) 0).stage = true ∧
      State.coreRuns ((clusterRun true).setWd 0 { State.wd (clusterRun true) 0 with stage := false, reset := true, count := 0 }) 0 = true) ∧
    (regionOf 0x8000000 8 = some (.sram, 0) ∧ regionOf 0x10000000 4 = some (.manager, 0) ∧ regionOf 0x200000000 8 = some (.flash, 0) ∧
      regionOf 0xBFFFFFFF8 8 = some (.hamper, 0x3FFFFFFF8) ∧ regionOf 0xBFFFFFFFC 8 = none) ∧
    ((State.gw (clusterRun false) 0).reads.find? (fun r => r.tag == 31 && r.sent) = some ⟨31, 64, .agent .keeper, true⟩ ∧
      (State.gw (clusterRun false) 0).tags.contains 31 = true ∧ State.gwCollect (clusterRun false) 0 31 = some (0, []) ∧
      (State.gw (clusterRun false) 1).reads = [] ∧ (State.gw (clusterRun false) 1).queue.length < 16) ∧
    State.masterLocal (clusterRun false) 0 ⟨0, false, 0, .message, 0, true, 0, [], 0⟩ = some (8, [], (clusterRun false).gwErr 0 3) := by
  refine ⟨?_, ?_, ?_, ?_, ?_, ?_⟩ <;> decide +kernel

theorem witness_GatewayAbsent (p : Nat) : State.gwAvail {} p = false := by
  have h : decide (6 ≤ State.mode {}) = false := by decide +kernel
  unfold State.gwAvail; rw [h]; simp

/-- A store of a byte at the bottom of a region. -/
def byteStore (addr : Nat) : BusAccess := { kind := .store, addr := addr, size := 1, data := 5#64, mem := 0 }

theorem witness_ClusterAccessHamper : ∃ t, State.busHamper { clusterRun false with regs := [(Reg.hampStat, 2#32)] } 0 (byteStore 0x800000000) 0 = some t :=
  ⟨_, rfl⟩

theorem witness_ClusterAccessWindow : ∃ t, State.busWindow {} 0 (byteStore 0x1C00000000) 0xC00000000 = some t := by
  have hp : (windowParts 0xC00000000 1).zipIdx = [((0xC00000000, 1), 0)] := by decide
  have ht : State.gwTag {} (0xC00000000 / 2 ^ 34) = some 0 := by decide
  unfold State.busWindow State.windowAccess
  rw [show (byteStore 0x1C00000000).size = 1 from rfl, hp]
  unfold State.windowPlace
  simp only [ht, State.gwAccess, windowReq, witness_GatewayAbsent]
  exact ⟨_, rfl⟩

theorem witness_EventsAreRaisedAndClaimed :
    (State.eventsRun {} = true ∧ State.bit {} (Reg.evtSrc 447) 31 = false ∧ State.bit { regs := [(Reg.evtSrc 0, 0x80000000#32)] } (Reg.evtSrc 0) 31 = true) ∧
    (getBits 0xFFFFFFBF#32 8 0 ≤ 447 ∧ (portBay 0 {}).clamped 0 = false) ∧ (∀ m < 448, State.presented {} m 0 = false) := by
  refine ⟨?_, ?_, ?_⟩ <;> decide +kernel

/-- Sources 7 and 447 are presented to core 3 with one priority, no other is. -/
theorem witness_EventsAreRaisedAndClaimed_claim :
    let s : State := { regs := [(Reg.evtSrc 7, 0x8000008D#32), (Reg.evtSrc 447, 0x8000008D#32)] }
    s.presented 7 3 = true ∧ ∀ m < 448, s.presented m 3 = true → m ≠ 7 →
      s.fld (Reg.evtSrc m) 2 0 < s.fld (Reg.evtSrc 7) 2 0 ∨ s.fld (Reg.evtSrc m) 2 0 = s.fld (Reg.evtSrc 7) 2 0 ∧ 7 < m := by
  decide +kernel

/-- The keeper holds the power semaphore in mode `m`. -/
def powerRun (m : Word) (p : PwrSt) : State :=
  { regs := [(Reg.sysMode, m), (Reg.sem 3, 1#32), (Reg.pwrWakeen, 2#32), (Reg.pwrStat, 0x77#32), (Reg.clkHub, 0x10000#32)], pwr := p }

theorem witness_PowerCommandsComplete :
    ((powerRun 6#32 {}).mayWrite .keeper Reg.pwrPlreq = true ∧ (powerRun 6#32 {}).ramps = false ∧ getBit (putBit 0x3788#32 16 true) 3 = true ∧
      getBits (putBit 0x37FF#32 16 true) 2 0 ≠ 0 ∧ getBit (putBit 0x37FF#32 16 true) 3 = true ∧ getBits (putBit 0x37FF#32 16 true) 6 4 ≠ 0 ∧
      getBit (putBit 0x37FF#32 16 true) 7 = true ∧ getBits (putBit 0x37FF#32 16 true) 13 8 = 55 ∧ State.mode (powerRun 6#32 {}) = 6) ∧
    (State.ramps { regs := [(Reg.pwrStat, 8#32)] } = true ∧ (State.rampLevels { regs := [(Reg.pwrStat, 8#32)] }).pwr.undoze = false ∧
      (State.rampLevels { regs := [(Reg.pwrStat, 8#32)] }).pwr.waiting = 0) ∧
    ((powerRun 6#32 {}).mayWrite .keeper Reg.pwrMreq = true ∧ ((powerRun 6#32 {}).plainWrite Reg.pwrMreq 0x11#32).modeCheck 1 = none ∧
      ((powerRun 6#32 {}).plainWrite Reg.pwrMreq 0x11#32).ramps = false ∧ State.mode ((powerRun 6#32 {}).plainWrite Reg.pwrMreq 0x11#32) = 6) ∧
    (((powerRun 6#32 {}).plainWrite Reg.pwrMreq 0x12#32).modeCheck 2 = none ∧ ((powerRun 6#32 {}).plainWrite Reg.pwrMreq 0x12#32).sndAbort.ramps = false ∧
      State.mode ((powerRun 6#32 {}).plainWrite Reg.pwrMreq 0x12#32).sndAbort = 6 ∧ ((powerRun 6#32 {}).plainWrite Reg.pwrMreq 0x13#32).modeCheck 3 = none ∧
      ((powerRun 6#32 {}).plainWrite Reg.pwrMreq 0x13#32).sndAbort.ramps = false ∧ State.mode ((powerRun 6#32 {}).plainWrite Reg.pwrMreq 0x13#32).sndAbort = 6) ∧
    ((powerRun 6#32 { entering := 9 }).undrained = [] ∧ (powerRun 6#32 { entering := 0xA }).undrained = [] ∧
      [1, 2, 3, 4].find? (fun d => (powerRun 6#32 { entering := 9 }).undrained.contains d || (8#4).getLsbD (d - 1)) = some 4) ∧
    ((powerRun 6#32 { entering := 9, drained := true }).ramps = false ∧ (powerRun 6#32 { entering := 9, drained := true }).sndPhase ≠ 3) ∧
    (State.mode (powerRun 9#32 {}) = 9 ∧ (powerRun 9#32 {}).bit Reg.pwrWakeen 1 = true ∧ State.mode ((powerRun 9#32 {}).wakeRecord true 1 1 9) = 9 ∧
      State.rd { regs := [(Reg.pwrWtimer, 1#32)] } Reg.pwrWtimer ≠ 0) ∧
    (hottest [115#8] = 115 ∧ max (hottest [115#8]) (hottest [0x80#8]) ≤ 115) ∧
    (getBits 0xA5C30001#32 31 16 = 0xA5C3 ∧ getBit 0xA5C30001#32 0 = true) := by
  refine ⟨?_, ?_, ?_, ?_, ?_, ?_, ?_, ?_, ?_⟩ <;> decide +kernel

theorem witness_PowerCommandsComplete_sleep :
    (let t := ((((powerRun 6#32 { entering := 9, drained := true }).setPwr { entering := 0, drained := false }).setMstate 0).enterMode 9)
     ((t.raise 242).pwrResult 2 1 0).pwr.waking = false) ∧
    (let s := powerRun 9#32 { waking := true }
     s.mode = 9 ∧ s.ramps = false ∧ s.hubOnSynth = true ∧ s.hampState ≠ 3) := by
  refine ⟨?_, ?_⟩ <;> decide +kernel

/-- A boot directory without images. -/
def bootDir : BootDir :=
  { copy := 0, seq := 0, bankv := 0, faultMask := 0, doneWait := 1, doneFilter := 0, doneLate := false, waleDone := false, refhz := 0, devid := 5
    gclass := 0, ports := 0, srcWait := 1, xspi := 0, prioBays := 0, images := [] }

/-- A block in mode `m` with boot state `b`, clocked by its synthesizer, reading its boot stream from a host port. -/
def booting (m : Word) (b : BootSt) : State :=
  { regs := [(Reg.sysMode, m), (Reg.clkHub, 0x10000#32), (Reg.sysBoot, 2#32)], boot := b }

theorem witness_StartCommands :
    ((booting 6#32 {}).powerStopped = false ∧ State.powerStopped { regs := [(Reg.sysMode, 0xA#32), (Reg.pwrRail 0, 0x40000#32)] } = true ∧ State.mode { regs := [(Reg.sysMode, 1#32)] } = 1 ∧
      ∀ o ∈ railRegs, State.bit { regs := [(Reg.sysMode, 1#32)] } o 18 = false) ∧
    ((booting 2#32 { resetLow := true }).boot.resetLow = true ∧ State.mode (booting 2#32 { resetLow := true }) ≠ 1) ∧
    ((booting 2#32 {}).boot.latchDue = true ∧ State.mode (booting 2#32 {}) = 2) ∧
    ((booting 2#32 { latchDue := false }).boot.latchDue = false ∧ State.mode (booting 2#32 { latchDue := false }) = 2) ∧
    ((booting 3#32 {}).unrepairedMark = false ∧ ((booting 3#32 {}).soundBays ((List.range 96).filter (booting 3#32 {}).boot.prioBays.testBit) ⟨[], [], []⟩).2 = [] ∧
      ((booting 3#32 {}).soundBays ((List.range 96).filter (booting 3#32 {}).boot.prioBays.testBit) ⟨[], [], []⟩).1.fld Reg.sndBoot 7 0 = 0) := by
  refine ⟨?_, ?_, ?_, ?_, ?_⟩ <;> decide +kernel

theorem witness_ReleaseCommands :
    (State.mode (booting 4#32 { dir := some bootDir, reading := true }) = 4 ∧ (booting 4#32 {}).fld Reg.sysBoot 1 0 = 2 ∧
      (booting 4#32 { dir := some bootDir, reading := true }).dirField BootDir.srcWait 0 ≠ 0 ∧
      (booting 4#32 { calPend := 0xFFF0, srcQuads := 0xF }).boot.calPend &&& (booting 4#32 { calPend := 0xFFF0, srcQuads := 0xF }).boot.srcQuads = 0) ∧
    (PartJob.ready ⟨1, 0, 0, false, false⟩ = true ∧ (booting 4#32 {}).hubOnSynth = true ∧
      (booting 4#32 { mainJob := some ⟨1, 0, 0, false, false⟩, hampDone := true }).mainReady = some [⟨1, 0, 0, false, false⟩]) ∧
    (State.mode (booting 5#32 { rel := .waitDone, dir := some bootDir }) = 5 ∧
      (booting 5#32 { rel := .waitDone, dir := some bootDir }).dirField BootDir.waleDone false = false ∧
      (booting 5#32 { rel := .waitDone, dir := some bootDir }).dirField BootDir.doneWait 0 ≠ 0) ∧
    (((booting 6#32 { eraseDue := true }).setFld (Reg.sem 1) 15 0 (agentIdent .keeper)).flashOpBusy = false ∧ (booting 6#32 { eraseDue := true }).semOwner 1 = 0 ∧
      State.holds { regs := [(Reg.sem 1, 16#32)] } .keeper 1 = false ∧ State.semOwner { regs := [(Reg.sem 1, 16#32)] } 1 ≠ 0 ∧
      (booting 6#32 { repower := [15] }).boot.repower.contains 15 = true) := by
  refine ⟨?_, ?_, ?_, ?_⟩ <;> decide +kernel

theorem witness_KeeperEnds :
    State.lcState { regs := [(Reg.lcState, 1#32)] } < 2 ∧ State.lcState { regs := [(Reg.lcState, 3#32)] } = 3 ∧
    State.lcState { regs := [(Reg.lcState, 4#32)] } = 4 ∧ (State.testToken { regs := [(Reg.lcState, 4#32)] } true).1 = false ∧
    State.lcState { regs := [(Reg.lcState, 5#32)] } = 5 ∧ 5 < State.lcState { regs := [(Reg.lcState, 6#32)] } := by decide +kernel

/-- A block in mode `m` whose sounding engine shows phase `p` in SND_STAT. -/
def sounding (m p : Word) : State := { regs := [(Reg.sysMode, m), (Reg.sndStat, p)] }

theorem witness_SoundingCommands :
    (getBit (0x2D00#32) 30 = false ∧ (sounding 6#32 0#32).sndPhase = 0 ∧
      ((sounding 6#32 0#32).plainWrite Reg.sndReq (putBit 0x2D00#32 31 true)).sndCheck (getBits (putBit 0x2D00#32 31 true) 13 0)
        (getBits (putBit 0x2D00#32 31 true) 17 16) = some 0x13) ∧
    (sounding 6#32 4#32).sndPhase ≠ 0 ∧
    ((sounding 6#32 0#32).sndPhase = 0 ∧
      ((sounding 6#32 0#32).plainWrite Reg.sndReq (putBit 0x2CFF#32 31 true)).sndCheck (getBits (putBit 0x2CFF#32 31 true) 13 0)
        (getBits (putBit 0x2CFF#32 31 true) 17 16) = none) ∧
    ((sounding 6#32 1#32).plainWrite Reg.sndReq (putBit (putBit ((sounding 6#32 1#32).rd Reg.sndReq) 30 true) 31 false)).sndPhase = 1 ∧
    ((sounding 6#32 2#32).plainWrite Reg.sndReq (putBit (putBit ((sounding 6#32 2#32).rd Reg.sndReq) 30 true) 31 false)).sndPhase = 2 ∧
    ((sounding 6#32 1#32).sndPhase = 1 ∧ (sounding 6#32 2#32).sndPhase = 2 ∧ (sounding 6#32 3#32).sndPhase = 3) ∧
    ((sounding 6#32 2#32).snd.again = false ∧
      (sounding 6#32 2#32).rowsUsed 0 = 0 ∧ State.rowsUsed { snd := { rowPairs := [(0, 255)] } } 0 ≠ 0 ∧
      ({ sounding 6#32 2#32 with snd := { again := true } } : State).snd.again = true) ∧
    (State.mode { sounding 4#32 0#32 with boot := { unsounded := 1 } } = 4 ∧
      ({ sounding 4#32 0#32 with boot := { unsounded := 1 } } : State).boot.unsounded ≠ 0) := by
  refine ⟨?_, ?_, ?_, ?_, ?_, ?_, ?_, ?_⟩ <;> decide +kernel

/-- A block whose life cycle is DEV, with repair fuses written and SND_FUSE set. -/
def repairing (fs : List (Nat × Nat × Nat)) (w : Word) : State :=
  { regs := [(Reg.lcState, 2#32), (Reg.sndFuse, w)], snd := { fuses := fs, burn := some (0, 11519, 255) } }

/-- Frame `m` of a creel column in which creel 0 has CMODE 1, both ECC sides and SCRUB 1. -/
def scrubFrame (m : Nat) : BitVec 10240 :=
  [0, 26, 27, 28].foldl (fun f b => f ||| (if Config.creelBit 0 b / 10240 = m then BitVec.twoPow 10240 (Config.creelBit 0 b % 10240) else 0)) 0

/-- A block whose creel 0 scrubs, its bay out of INIT hold. -/
def scrubBay : State :=
  { planes := { frames := (List.range 8).map (fun m => (frameKeyOf (bayBand 0) (bayPos 0 (creelPos 0)) 0 + m, scrubFrame m)), initFree := [(0, true)] } }

theorem creelBit_inj (a b : Nat) (ha : a < 1280) (hb : b < 1280) (h : Config.creelBit 0 a = Config.creelBit 0 b) : a = b := by
  have h2 := Config.creelPlace.injective (Fin.ext h)
  have h3 := congrArg Fin.val h2
  simp only [Fin.ofNat] at h3
  omega

/-- The fields of creel 0, as placed. -/
theorem scrubBay_bit (b : Nat) (h : b < 1280) :
    scrubBay.bayBit 0 (creelPos 0) (Config.creelBit 0 b) = ([0, 26, 27, 28] : List Nat).contains b := by
  have hl : Config.creelBit 0 b < 40960 := (Config.creelPlace _).isLt
  unfold State.bayBit State.colBit State.frameIn
  have e : scrubBay.liveLatch 0 = 0 := rfl
  rw [e]
  have hk : latchKey 0 (frameKeyOf (bayBand 0) (bayPos 0 (creelPos 0)) (Config.creelBit 0 b / 10240)) =
      frameKeyOf (bayBand 0) (bayPos 0 (creelPos 0)) 0 + Config.creelBit 0 b / 10240 := by simp [latchKey, frameKeyOf]
  rw [hk]
  show BitVec.getLsbD (Store.get zeroFrame ((List.range 8).map (fun m => (frameKeyOf (bayBand 0) (bayPos 0 (creelPos 0)) 0 + m, scrubFrame m))) _) _ = _
  rw [portFrames_get _ _ _ (by omega)]
  unfold scrubFrame
  have key : ∀ c, c < 1280 → ((if Config.creelBit 0 c / 10240 = Config.creelBit 0 b / 10240 then BitVec.twoPow 10240 (Config.creelBit 0 c % 10240) else 0).getLsbD (Config.creelBit 0 b % 10240)) = (b == c) := by
    intro c hc
    split
    · rename_i h1
      rw [BitVec.getLsbD_twoPow]
      have hlt : Config.creelBit 0 c % 10240 < 10240 := Nat.mod_lt _ (by decide)
      simp only [hlt, decide_true, Bool.true_and]
      by_cases hbc : b = c
      · subst hbc; simp
      · have : Config.creelBit 0 c ≠ Config.creelBit 0 b := fun h' => hbc (creelBit_inj _ _ hc h h').symm
        have h3 : ¬ (Config.creelBit 0 c % 10240 = Config.creelBit 0 b % 10240) := by omega
        simp [h3, hbc]
    · rename_i h1
      have : b ≠ c := by rintro rfl; exact h1 rfl
      simp [this]
  simp only [List.foldl, BitVec.getLsbD_or, key 0 (by decide), key 26 (by decide), key 27 (by decide), key 28 (by decide)]
  rw [Bool.eq_iff_iff]; simp [or_assoc]

theorem scrubBay_field (o w : Nat) (h : o + w ≤ 1280) :
    fieldAt (fun b => scrubBay.bayBit 0 (creelPos 0) (Config.creelBit 0 b)) o w = fieldAt (([0, 26, 27, 28] : List Nat).contains ·) o w := by
  unfold fieldAt
  refine List.foldl_ext _ _ _ (fun a i hi => ?_)
  have hi' := List.mem_range.mp hi
  simp only [scrubBay_bit (o + i) (by omega)]

theorem witness_CreelScrubStep :
    scrubBay.activeCreels 0 ≠ [] ∧ scrubBay.initHold 0 = false ∧ (scrubBay.creelCfg 0).scrubOn = true := by
  refine ⟨?_, by decide +kernel, ?_⟩
  · have h : scrubBay.planes.frames.any (fun e => decide (e.1 / 2 ^ 7 =
        scrubBay.liveLatch 0 * 2 ^ 14 + bayBand 0 * 2 ^ 10 + bayPos 0 (creelPos (0 / 30)))) = true := by decide +kernel
    exact List.ne_nil_of_mem (List.mem_filter.mpr ⟨List.mem_range.mpr (by decide), h⟩)
  · have hc : scrubBay.creelCfg 0 = creelCfgOf (([0, 26, 27, 28] : List Nat).contains ·) := by
      show creelCfgOf (fun b => scrubBay.bayBit 0 (creelPos 0) (Config.creelBit 0 b)) = _
      unfold creelCfgOf
      simp (disch := decide) only [scrubBay_field, scrubBay_bit]
    rw [hc]; decide +kernel

theorem witness_RepairCommands :
    (getBits (0x96C20001#32) 31 16 ≠ 0x96C3 ∧ getBits (0x96C30001#32) 31 16 = 0x96C3 ∧ getBit (0x96C30001#32) 0 = true) ∧
    ((repairing [] 0#32).bit Reg.sndFusestat 0 = false ∧ (repairing [] 0#32).lcState = 2 ∧ State.lcState { regs := [(Reg.lcState, 5#32)] } = 5) ∧
    ((repairing [] 0#32).snd.burn = some (0, 11519, 255)) ∧
    (getBits (0x5AC32CFF#32) 31 16 = 0x5AC3 ∧ getBits (0x5AC32CFF#32) 13 0 < 11520) ∧
    ((({} : State).setCreel 11519 { scrubWrite := some (511, 1) }).creel 11519).scrubWrite = some (511, 1) := by
  refine ⟨?_, ?_, ?_, ?_, ?_⟩ <;> decide +kernel

/-- Core 0 holds the life-cycle semaphore in mode `m`, with `stat` in LC_REQSTAT. -/
def keeper (m stat : Word) : State := { regs := [(Reg.sysMode, m), (Reg.lcState, 3#32), (Reg.lcReqstat, stat), (Reg.sem 2, 0xFFFF0010#32)] }

theorem witness_RequestsFollowR458 :
    ((keeper 8#32 0#32).mayWrite (.core 0) Reg.lcReqctl = true ∧ (keeper 8#32 0#32).mayWrite (.core 0) Reg.lcDebug = true) ∧
    ((keeper 8#32 0#32).lcGoMode = false ∧ (keeper 6#32 1#32).lcGoMode = true ∧ (keeper 0xC#32 0#32).lcGoMode = true) ∧
    ((keeper 6#32 1#32).bit Reg.lcReqstat 0 = true ∧ (keeper 6#32 1#32).mayWrite (.core 0) Reg.lcReqctl = true) ∧
    ((keeper 0xC#32 0#32).bit Reg.lcReqstat 0 = false ∧ (keeper 0xC#32 0#32).mayWrite (.core 0) Reg.lcReqctl = true) ∧
    ((keeper 6#32 0#32).lcState = 3 ∧ State.mode (keeper 6#32 0#32) = 6) := by
  refine ⟨?_, ?_, ?_, ?_, ?_⟩ <;> decide +kernel

/-- A request of type `t`, its other fields 0 but `k` in the first byte of KEY. -/
def reqOf (t k : Byte) : List Byte := [0x51, 0x52, 0x43, 0x4C, t, 0, 0, 0] ++ List.replicate 28 0 ++ [k] ++ List.replicate 235 0

/-- A block that verifies or burns a request of type `t`. -/
def requesting (t k : Byte) (fs : Option (List FuseRef)) (tampered : Bool) : State :=
  { boot := { tested := true }, keys := { req := some ⟨false, reqOf t k, fs, tampered⟩ } }

theorem witness_BurnsFollowR457 :
    ((requesting 9 0 none false).keys.req = some ⟨false, reqOf 9 0, none, false⟩ ∧
      reqCheck (requesting 9 0 none false).keys.fuses (requesting 9 0 none false).lcState false (reqOf 9 0) true = some 0x10) ∧
    (reqType (reqOf 1 0) = 1 ∧ reqType (reqOf 2 0) = 2 ∧ reqType (reqOf 3 0) = 3 ∧ reqType (reqOf 4 1) = 4 ∧ reqType (reqOf 5 0) = 5 ∧
      reqType (reqOf 0x11 0) = 0x11) ∧
    (reqField (reqOf 4 1) 0x24 32 ≠ 0 ∧ (requesting 3 0 (some [.counter]) false).boot.tested = true ∧
      (({ requesting 3 0 (some [.counter]) false with keys := { (requesting 3 0 (some [.counter]) false).keys with req := none } } : State).blow
        [.counter]).keys.fuses.kill = false) ∧
    ((requesting 3 0 (some [.counter]) false).keys.req = some ⟨false, reqOf 3 0, some [.counter], false⟩ ∧
      (requesting 4 1 (some [.counter]) true).keys.req = some ⟨false, reqOf 4 1, some [.counter], true⟩) ∧
    (State.bit { regs := [(Reg.lcTamper, 1#32)] } Reg.lcTamper 0 = true ∧ State.bit {} Reg.lcTamper 0 = false) ∧
    ((keeper 6#32 0#32).mayWrite (.core 0) Reg.lcTamper = true ∧ getBit (0x7E3A0004#32) 2 = true ∧ getBits (0x7E3A0004#32) 31 16 = 0x7E3A ∧
      getBit (0x7E3B0004#32) 2 = true ∧ getBits (0x7E3B0004#32) 31 16 ≠ 0x7E3A) := by
  refine ⟨?_, ?_, ?_, ?_, ?_, ?_⟩ <;> decide +kernel

/-- A block in mode `m` whose state in effect is `st`, with instruction `ir` selected. -/
def tapped (m st : Word) (ir : Nat) : State := { regs := [(Reg.sysMode, m), (Reg.lcState, st)], keys := { ir := ir } }

theorem witness_JtagCommandsComplete :
    (State.mode (tapped 0xC#32 0#32 1) = 0xC ∧ State.mode (tapped 6#32 2#32 1) = 6 ∧ (tapped 6#32 2#32 1).lcState = 2 ∧ (tapped 6#32 4#32 1).lcState = 4) ∧
    (State.mode (tapped 9#32 3#32 1) = 9 ∧ (tapped 9#32 3#32 1).lcState = 3 ∧ (tapped 6#32 5#32 1).lcState = 5) ∧
    ((tapped 6#32 3#32 0x10).keys.ir = 0x10 ∧ (tapped 6#32 3#32 0x10).tapPermits 0x10 = true ∧ (tapped 6#32 4#32 0x10).tapPermits 0x10 = true ∧ (tapped 6#32 3#32 0x10).lcState = 3 ∧ (tapped 6#32 3#32 0x10).bit Reg.lcReqstat 0 = false ∧
      (List.replicate 272 (0#8)).length = 272) := by
  refine ⟨?_, ?_, ?_⟩ <;> decide +kernel

theorem witness_RegisterWritesComplete :
    ((State.port {} 1).linkUp = false ∧ (State.port { ports := [(1, { linkUp := true })] } 1).linkUp = true) ∧
    (State.hubHeld { regs := [(Reg.sysMode, 6#32)] } = false ∧ State.hubHeld { regs := [(Reg.sysMode, 9#32)] } = true ∧ State.waits {} = []) ∧
    (∀ p, Agent.keeper ≠ .hostPcie p) ∧
    (State.mgrServes { regs := [(Reg.sysMode, 6#32)] } Reg.sysFault = true ∧ State.spiClosed {} (.hostSpi 0) = false ∧ (regRow? Reg.sysFault).isSome = true) ∧
    (State.mgrServes { regs := [(Reg.sysMode, 0xA#32)] } 0 = false ∧ State.spiClosed { regs := [(Reg.sysMode, 0x3000B#32)] } (.hostSpi 0) = true ∧ regRow? 0xFFFFFC = none) := by
  refine ⟨?_, ?_, ?_, ?_, ?_⟩ <;> decide +kernel

/-- Frame `m` of a clock column in which stake net 0 selects rim net 0. -/
def stakeFrame (m : Nat) : BitVec 10240 :=
  if Config.clockBit 0 / 10240 = m then BitVec.twoPow 10240 (Config.clockBit 0 % 10240) else 0

/-- The block in RUN with rim net 0 of band-wythe 0 on tap 0 of synthesizer 0, and stake net 0 of bay 0 on it, high or low. -/
def staked (high : Bool) : State :=
  { regs := [(Reg.sysMode, 6#32)], live := [(Reg.clkRim 0 0, 1#32), (Reg.fsCfg 0, 1#32), (Reg.fsTap01 0, 0x8000#32)]
    fab := { netHigh := [(0, high)] }
    planes := { frames := (List.range 8).map (fun m => (frameKeyOf (bayBand 0) (bayPos 0 clockPos) 0 + m, stakeFrame m)) } }

/-- No pin of the bay is driven. -/
def lowPins : EdgePins := ⟨[], [], [], 0#24, ⟨0#128, false, false, 0⟩, [], ⟨none, false, false⟩, false, []⟩

theorem staked_col (high : Bool) (b : Nat) (h : b < 81920) : (staked high).clockCol 0 b = (b == 0) := by
  have hl := clockBit_lt b
  unfold State.clockCol State.bayBit State.colBit State.frameIn
  have e : (staked high).liveLatch 0 = 0 := rfl
  rw [e]
  have hk : latchKey 0 (frameKeyOf (bayBand 0) (bayPos 0 clockPos) (Config.clockBit b / 10240)) =
      frameKeyOf (bayBand 0) (bayPos 0 clockPos) 0 + Config.clockBit b / 10240 := by simp [latchKey, frameKeyOf]
  rw [hk]
  show BitVec.getLsbD (Store.get zeroFrame ((List.range 8).map (fun m => (frameKeyOf (bayBand 0) (bayPos 0 clockPos) 0 + m, stakeFrame m))) _) _ = _
  rw [portFrames_get _ _ _ (by omega)]
  unfold stakeFrame
  split
  · rename_i h1
    rw [BitVec.getLsbD_twoPow]
    have hlt : Config.clockBit 0 % 10240 < 10240 := Nat.mod_lt _ (by decide)
    simp only [hlt, decide_true, Bool.true_and]
    by_cases hb : b = 0
    · subst hb; simp
    · have : Config.clockBit 0 ≠ Config.clockBit b := fun h' => hb (clockBit_inj _ _ (by decide) h h').symm
      have h3 : ¬ (Config.clockBit 0 % 10240 = Config.clockBit b % 10240) := by omega
      simp [h3, hb]
  · rename_i h1
    have : b ≠ 0 := by rintro rfl; exact h1 rfl
    simp [this]

theorem staked_runs (high : Bool) : (staked high).stakeRuns 0 0 = true := by
  have h : fieldAt ((staked high).clockCol 0) (oStksel 0) 6 = 1 := by
    have g : ∀ i, i < 6 → (staked high).clockCol 0 (oStksel 0 + i) = (i == 0) := by
      intro i hi; rw [staked_col _ _ (by unfold oStksel; omega)]; interval_cases i <;> rfl
    unfold fieldAt
    simp only [List.range, List.range.loop, List.foldl, g 0 (by decide), g 1 (by decide), g 2 (by decide), g 3 (by decide), g 4 (by decide), g 5 (by decide)]
    rfl
  have ha : (staked high).clockActive 0 = true := by cases high <;> decide +kernel
  have hs : (staked high).stksel 0 0 = 1 := by unfold State.stksel; rw [h]; rfl
  have hr : (staked high).rimRuns (bayBand 0) 0 = true := by cases high <;> decide +kernel
  unfold State.stakeRuns; rw [ha, hs, hr]; cases high <;> rfl

/-- With every bay in INIT hold nothing acts without a clock. -/
theorem held_settles (s : State) (p : EdgePins) (h : ∀ b, s.initHold b = true) (b : Nat) :
    (s.asyncSettle p.levels ffCount).fifoReset b p = s := by
  have hs : s.asyncStep p.levels = s := by
    have : ∀ l : List Nat, l.foldl (fun t bay => s.asyncBay t bay (s.weave bay p.levels)) s = s := by
      intro l
      induction l with
      | nil => rfl
      | cons a l ih =>
        rw [List.foldl_cons]
        have e : s.asyncBay s a (s.weave a p.levels) = s := by unfold State.asyncBay; rw [if_pos (h a)]
        rw [e]; exact ih
    exact this _
  have he : ∀ n, s.asyncSettle p.levels n = s := by
    intro n
    cases n with
    | zero => rfl
    | succ n => unfold State.asyncSettle; dsimp only; rw [hs, if_pos rfl]
  rw [he]; unfold State.fifoReset; rw [if_pos (h b)]

theorem witness_StakeNetEdgesComplete (high : Bool) :
    State.fabricAwake { regs := [(Reg.sysMode, 9#32)] } = false ∧ (staked high).fabricAwake = true ∧
    ∃ u, u = ((staked high).asyncSettle lowPins.levels ffCount).fifoReset 0 lowPins ∧ u.stakeRuns 0 0 = true ∧ u.gateIsShut 0 0 = false ∧ u.stakeHigh 0 0 = high := by
  refine ⟨by decide +kernel, by cases high <;> decide +kernel, staked high, ?_, staked_runs high, by cases high <;> decide +kernel, by cases high <;> decide +kernel⟩
  exact (held_settles _ _ (fun b => rfl) _).symm

/-- A net that no rim net feeds, high from before and with its gate shut. -/
theorem witness_StakeNetEdgesStopped :
    ∃ s u : State, s.fabricAwake = true ∧ u = (s.asyncSettle lowPins.levels ffCount).fifoReset 95 lowPins ∧ u.stakeRuns 95 23 = false ∧
      u.gateIsShut 95 23 = true ∧ u.stakeHigh 95 23 = true := by
  refine ⟨{ regs := [(Reg.sysMode, 6#32)], fab := { gateShut := [(2303, true)], netHigh := [(2303, true)] } }, _, by decide +kernel,
    (held_settles _ _ (fun b => rfl) _).symm, by decide +kernel, by decide +kernel, by decide +kernel⟩

/-! One ill-formed term for every check of WellFormed. -/

/-- A window access of no beats (R406). -/
theorem test_wf_window_no_beats : Instr.wf (.gwWindowAccess .gateway ⟨0, false, 0, 0, []⟩) = false := by decide
/-- A window access across 512 bytes (R406). -/
theorem test_wf_window_crosses : Instr.wf (.gwWindowAccess .gateway ⟨504, false, 2, 0, []⟩) = false := by decide
/-- A window write without data (R406). -/
theorem test_wf_window_no_data : Instr.wf (.gwWindowAccess .gateway ⟨0, true, 1, 0, []⟩) = false := by decide
/-- A window access off the 8-byte grid (R406). -/
theorem test_wf_window_offset : Instr.wf (.gwWindowAccess .gateway ⟨4, false, 1, 0, []⟩) = false := by decide
/-- A master request of more than 128 words (R407). -/
theorem test_wf_master_length : Instr.wf (.gwMasterRequest 0 ⟨0, false, 0, .read, 129, false, 0, [], 0⟩) = false := by decide
/-- A master write without its data (R407). -/
theorem test_wf_master_data : Instr.wf (.gwMasterRequest 0 ⟨0, false, 0, .write, 1, false, 0, [], 0⟩) = false := by decide
/-- A flash offset past the array (R276). -/
theorem test_wf_offset_past : Instr.wf (.flashUnlockFirst .keeper (2 ^ 30)) = false := by decide
/-- A flash offset off the word grid. -/
theorem test_wf_offset_grid : Instr.wf (.flashUnlockFirst .keeper 2) = false := by decide
/-- A program of no pulses (R287). -/
theorem test_wf_program_pulses : Instr.wf (.flashProgramDone 0 true) = false := by decide
/-- An erase of more pulses than 500 (R288). -/
theorem test_wf_erase_pulses : Instr.wf (.flashEraseDone 501 true) = false := by decide
/-- A thermal sample without its sensors (R482). -/
theorem test_wf_thermal : Instr.wf (.thermalSample [] []) = false := by decide
/-- A snapshot read off the register grid. -/
theorem test_wf_snapshot : Instr.wf (.snapshotRead .keeper 1) = false := by decide
/-- A STEP write that is STAGE (R172). -/
theorem test_wf_step : Instr.wf (.stepNone 1#32) = false := by decide
/-- An eye window with more taps than a lane has. -/
theorem test_wf_eye : Instr.wf (.eyeWindowEnd 0 ⟨0, 0, false, false, 0, 0, 0, List.replicate 16 0⟩) = false := by decide
/-- A WRITE block that carries no words (R338). -/
theorem test_wf_block_words :
    Instr.wf (.waleWrite 0 ⟨0, .write, 0, 0, 0, 1, false, true, true, false, 0, 0#40, 0, 0, 0, .words []⟩ 0) = false := by decide
/-- A time follow-up that carries words (R353). -/
theorem test_wf_follow_up :
    Instr.wf (.waleTimeFollowUp 0 ⟨0, .sysctl, 0, 0, 0, 0, false, true, true, false, 0, 0#40, 0, 0, 0, .words []⟩) = false := by decide
/-- An advertisement that carries another message (R352). -/
theorem test_wf_advert :
    Instr.wf (.waleAdvert 0 ⟨0, .sysctl, 0, 0, 0, 0, false, true, true, false, 0, 0#40, 0, 0, 0, .sys .awake⟩) = false := by decide
/-- An instant with no denominator. -/
theorem test_wf_verdict : Instr.wf (.waleVerdictTimer 0 0) = false := by decide
/-- A PCIe generation past 5. -/
theorem test_wf_gen : Instr.wf (.pcieLinkUp 0 6#3 0#2) = false := by decide
/-- A burn that fails at a fuse that does not exist. -/
theorem test_wf_burn : Instr.wf (.lcBurnDone (some 4096)) = false := by decide
/-- A register write past the aperture of its agent. -/
theorem test_wf_register : Instr.wf (.registerWrite .keeper (2 ^ 24) 0#32 true) = false := by decide
/-- A partial write that no PCIe port sends. -/
theorem test_wf_register_partial : Instr.wf (.registerWrite .keeper 0 0#32 false) = false := by decide
/-- Pins of a creel that a bay does not have. -/
theorem test_wf_pins :
    Instr.wf (.stakeNetEdge 0 0 true ⟨[], [(120, ⟨⟨false, 0, 0, 0, false⟩, ⟨false, 0, 0, 0, false⟩, false, false, false, false⟩)], [], 0#24, ⟨0#128, false, false, 0⟩, [], ⟨none, false, false⟩, false, []⟩) = false := by
  decide
/-- A bus access of three bytes. -/
theorem test_wf_bus : Instr.wf (.clusterBusAccess 0 ⟨.load, 0, 3, 0#64, 0⟩) = false := by decide
/-- A response of more beats than a window access has. -/
theorem test_wf_response : Instr.wf (.gwWindowResponse 0 0 (List.replicate 65 0#64) false) = false := by decide

/-! Worked examples of the spec. -/

/-- The erase of sector 1,030, its twelfth, of 72 pulses: the log word after its intent (chapter 10). -/
theorem test_log_intent : logIntent 1030 4 12 = 0xFFFFFFB1000C4406#64 := by decide
/-- The same word after its completion. -/
theorem test_log_completion : logIntent 1030 4 12 &&& logCompletion 72 = 0x370048B1000C4406#64 := by decide
/-- The word after its completion names its sector and is complete. -/
theorem test_log_read : logValid 0x370048B1000C4406#64 = some (1030, 4, 12) ∧ logDone 0x370048B1000C4406#64 = true := by decide
/-- Bay 53, creel column 2, minor 9 of the content plane (chapter 06). -/
theorem test_place : mkPlace false 1 (bayBand 53) (bayPos 53 (creelPos 2)) 9 = 0x31550900#32 := by decide
/-- That frame belongs to bay 53. -/
theorem test_place_unit : plUnit 0x31550900#32 = 53 := by decide
/-- Hamper address 0x1_2345_6700 under the interleaved and the banded map (chapter 14). -/
theorem test_hamper_interleaved : State.hampChannel {} 0x123456700 = 5 := by decide
theorem test_hamper_banded : State.hampChannel { regs := [(Reg.hampStat, 8#32)] } 0x123456700 = 9 := by decide
/-- The compositor of bay 50 raises EV432 (chapter 15). -/
theorem test_user_event :
    (match exec (.userEventEdge 1 16) { planes := { bondFree := [(50, true)], initFree := [(50, true)] } } with | .next t => t.bit (Reg.evtSrc 432) 31 | _ => false) = true := by decide
/-- K28.5 with the running disparity at -1 is 0011111010 on the line, first bit first (IEEE 802.3, named by R321). -/
theorem test_comma : bitRev 10 (encSym false true 0xBC) = 0b0011111010 := by decide

end Sys2Proof.Tests
end

section
/-! A register table that lists nothing reads the Reset column (R10). -/
namespace Sys2Proof.Machine

/-- An empty table reads its default everywhere. -/
@[simp] theorem Store.get_nil {α : Type} (d : Nat → α) (k : Nat) : Store.get d [] k = d k := rfl

theorem State.rd_of_regs_eq_nil {s : State} (h : s.regs = []) (off : Nat) : s.rd off = resetWord off := by
  rw [State.rd, h, Store.get_nil]

theorem State.liveRd_of_live_eq_nil {s : State} (h : s.live = []) (off : Nat) : s.liveRd off = resetWord off := by
  rw [State.liveRd, h, Store.get_nil]

@[simp] theorem State.reset_regs : State.reset.regs = [] := rfl
@[simp] theorem State.reset_live : State.reset.live = [] := rfl

/-- Settles O11: at reset neither the registers nor the values in effect list an entry. -/
theorem resetGivesEachRegisterItsResetColumn : Obligations.ResetGivesEachRegisterItsResetColumn := by
  intro off
  exact ⟨State.rd_of_regs_eq_nil State.reset_regs off, State.liveRd_of_live_eq_nil State.reset_live off⟩

end Sys2Proof.Machine
end

section
/-! What becomes of an access that reaches the hub (R423, R426): carried out, or held behind the accesses that wait.
Stated for every kind of access. -/
namespace Sys2Proof.Machine

theorem State.waitTry_of_hubHeld {s : State} (held : s.hubHeld = true) (i : WaitItem) : s.waitTry i = none := by
  unfold State.waitTry
  exact if_pos held

/-- The accesses of one agent, core or port stay in their order. -/
theorem State.waitTake_of_line_waits {s : State} {i : WaitItem} (busy : (s.waits.any fun j => j.line == i.line) = true) :
    s.waitTake i = { s with waits := s.waits ++ [i] } := by
  rw [State.waitTake, if_pos busy]

theorem State.waitTake_of_waitTry_eq_none {s : State} {i : WaitItem} (h : s.waitTry i = none) :
    s.waitTake i = { s with waits := s.waits ++ [i] } := by
  rw [State.waitTake, h, Option.getD_none, ite_self]

/-- A drain or SLEEP makes an access wait, and so does an earlier access of its line. -/
theorem State.waitTake_held {s : State} {i : WaitItem}
    (h : s.hubHeld = true ∨ (s.waits.any fun j => j.line == i.line) = true) :
    s.waitTake i = { s with waits := s.waits ++ [i] } := by
  rcases h with held | busy
  · exact State.waitTake_of_waitTry_eq_none (State.waitTry_of_hubHeld held i)
  · exact State.waitTake_of_line_waits busy

/-- An access whose line is free and that can be carried out is carried out at once. -/
theorem State.waitTake_of_waitTry_eq_some {s t : State} {i : WaitItem}
    (free : (s.waits.any fun j => j.line == i.line) = false) (h : s.waitTry i = some t) : s.waitTake i = t := by
  rw [State.waitTake, if_neg (Bool.eq_false_iff.mp free), h, Option.getD_some]

end Sys2Proof.Machine
end

section
/-! A write of one register, from its agent to manager space (R8, R365, R368, R375, R378, R488). -/
namespace Sys2Proof.Machine

variable {s : State} {ag : Agent} {p : Fin 2} {off : Nat} {v : Word}

/-! Manager space. -/

/-- A write that reaches a register of a powered block has the register's effect, under its semaphore. -/
theorem State.mgrWrite_of_defined (serves : s.mgrServes off = true) (opened : s.spiClosed ag = false)
    (defined : (regRow? off).isSome = true) : s.mgrWrite ag off v = s.rws ag off (s.mgrEffect ag off v) := by
  obtain ⟨row, hrow⟩ := Option.isSome_iff_exists.mp defined
  simp [State.mgrWrite, serves, opened, hrow]

theorem State.mgrWrite_of_unserved (h : s.mgrServes off = false) : s.mgrWrite ag off v = s := by
  simp [State.mgrWrite, h]

theorem State.mgrWrite_of_spiClosed (h : s.spiClosed ag = true) : s.mgrWrite ag off v = s := by
  simp [State.mgrWrite, h]

theorem State.mgrWrite_of_undefined (h : regRow? off = none) : s.mgrWrite ag off v = s := by
  simp [State.mgrWrite, h]

/-! The write as an access of the hub. -/

theorem State.waitTry_write_hostPcie (running : s.hubHeld = false) :
    s.waitTry (.write (.hostPcie p) off v) = some (s.barWrite p off v) := by
  simp [State.waitTry, running]

theorem State.waitTry_write_of_ne_hostPcie (running : s.hubHeld = false) (notPcie : ∀ p, ag ≠ .hostPcie p) :
    s.waitTry (.write ag off v) = some (s.mgrWrite ag off v) := by
  unfold State.waitTry
  rw [if_neg (Bool.eq_false_iff.mp running)]
  cases ag with
  | hostPcie p => exact absurd rfl (notPcie p)
  | _ => rfl

/-! The command REGISTER_WRITE. -/

theorem execRegisterWrite_hostPcie_of_linkDown {full : Bool} (down : (s.port p).linkUp = false) :
    execRegisterWrite (.hostPcie p) off v full s = .next s := by
  simp [execRegisterWrite, down]

theorem execRegisterWrite_hostPcie_of_notFull (up : (s.port p).linkUp = true) :
    execRegisterWrite (.hostPcie p) off v false s = .next (s.setBit (Reg.hpStat p.val) 10 true) := by
  simp [execRegisterWrite, up]

theorem execRegisterWrite_hostPcie_of_full (up : (s.port p).linkUp = true) :
    execRegisterWrite (.hostPcie p) off v true s = .next (s.waitTake (.write (.hostPcie p) off v)) := by
  simp [execRegisterWrite, up]

theorem execRegisterWrite_of_ne_hostPcie {full : Bool} (notPcie : ∀ p, ag ≠ .hostPcie p) :
    execRegisterWrite ag off v full s = .next (s.waitTake (.write ag off v)) := by
  cases ag with
  | hostPcie p => exact absurd rfl (notPcie p)
  | _ => rfl

end Sys2Proof.Machine
end

section
namespace Sys2Proof.Machine

/-- Settles O47, clause by clause: the link and the byte enables of PCIe, an access carried out by PCIe and by every
other agent, an access that waits, and what manager space does with the write or ignores. -/
theorem registerWritesComplete : Obligations.RegisterWritesComplete := by
  refine ⟨?linkDown, ?someBytes, ?pcieWrite, ?agentWrite, ?waiting, ?effect, ?ignored⟩
  case linkDown =>
    intro p off v full s down
    rw [exec_registerWrite, execRegisterWrite_hostPcie_of_linkDown down]
  case someBytes =>
    intro p off v s up
    rw [exec_registerWrite, execRegisterWrite_hostPcie_of_notFull up]
  case pcieWrite =>
    intro p off v s up running free
    rw [exec_registerWrite, execRegisterWrite_hostPcie_of_full up,
      State.waitTake_of_waitTry_eq_some free (State.waitTry_write_hostPcie running), State.barWrite]
  case agentWrite =>
    intro ag off v full s notPcie running free
    rw [exec_registerWrite, execRegisterWrite_of_ne_hostPcie notPcie,
      State.waitTake_of_waitTry_eq_some free (State.waitTry_write_of_ne_hostPcie running notPcie)]
  case waiting =>
    intro ag off v full s notPcie held
    rw [exec_registerWrite, execRegisterWrite_of_ne_hostPcie notPcie, State.waitTake_held held]
  case effect =>
    intro ag off v s serves opened defined
    exact State.mgrWrite_of_defined serves opened defined
  case ignored =>
    intro ag off v s h
    rcases h with unserved | closed | undefined
    · exact State.mgrWrite_of_unserved unserved
    · exact State.mgrWrite_of_spiClosed closed
    · exact State.mgrWrite_of_undefined undefined

end Sys2Proof.Machine
end

section
/-! Raising an event (R409, R489). -/
namespace Sys2Proof.Machine

variable {s : State} {n : Nat}

theorem State.raise_of_pend_clear (running : s.eventsRun = true) (source : n < 448)
    (clear : s.bit (Reg.evtSrc n) 31 = false) :
    s.raise n = State.msixAfter s n (s.setBit (Reg.evtSrc n) 31 true) := by
  simp [State.raise, running, source, clear]

/-- A source whose PEND is 1 stays as it is, whether the controller runs or not. -/
theorem State.raise_of_pend_set (pend : s.bit (Reg.evtSrc n) 31 = true) : s.raise n = s := by
  rw [State.raise, if_pos pend, ite_self]

theorem execUserEventEdge_of_not_clamped {w : Fin 2} {j : Fin 32}
    (free : s.clamped (48 * w.val + 6 * (j.val % 8) + j.val / 8) = false) :
    execUserEventEdge w j s = .next (s.raise (384 + 32 * w.val + j.val)) := by
  simp [execUserEventEdge, free]

theorem State.evtRaise_of_source {v : Word} (source : getBits v 8 0 ≤ 447) : s.evtRaise v = s.raise (getBits v 8 0) :=
  if_pos source

end Sys2Proof.Machine
end

section
/-! The claim (R410): the fold over the 448 sources keeps the highest priority met so far, and of equals the first. -/
namespace Sys2Proof.Machine

variable {s : State} {c k n b : Nat}

/-- Source `n` goes before source `m` in a claim: a higher PRI, or an equal PRI and a lower number. -/
def State.outranks (s : State) (n m : Nat) : Prop :=
  s.fld (Reg.evtSrc m) 2 0 < s.fld (Reg.evtSrc n) 2 0 ∨
    s.fld (Reg.evtSrc m) 2 0 = s.fld (Reg.evtSrc n) 2 0 ∧ n < m

/-- The choice between the best source met so far and source `n`. -/
def State.claimStep (s : State) (c : Nat) (best : Option Nat) (n : Nat) : Option Nat :=
  if s.presented n c then
    match best with
    | none => some n
    | some b => if s.fld (Reg.evtSrc b) 2 0 < s.fld (Reg.evtSrc n) 2 0 then some n else best
  else best

/-- The source that a claim would return if only the sources below `k` existed. -/
def State.claimBelow (s : State) (c k : Nat) : Option Nat := (List.range k).foldl (s.claimStep c) none

theorem State.claimOf_eq_claimBelow (s : State) (c : Nat) : s.claimOf c = s.claimBelow c 448 := rfl

theorem State.claimStep_of_not_presented {best : Option Nat} (h : s.presented n c = false) : s.claimStep c best n = best := by
  simp [State.claimStep, h]

theorem State.claimStep_none (h : s.presented n c = true) : s.claimStep c none n = some n := by
  simp [State.claimStep, h]

theorem State.claimStep_of_higher (h : s.presented n c = true) (higher : s.fld (Reg.evtSrc b) 2 0 < s.fld (Reg.evtSrc n) 2 0) :
    s.claimStep c (some b) n = some n := by
  simp [State.claimStep, h, higher]

theorem State.claimStep_of_not_higher (notHigher : ¬ s.fld (Reg.evtSrc b) 2 0 < s.fld (Reg.evtSrc n) 2 0) :
    s.claimStep c (some b) n = some b := by
  simp [State.claimStep, notHigher]

/-- A step keeps the best source or takes the new one, which is then presented. -/
theorem State.claimStep_eq (s : State) (c : Nat) (best : Option Nat) (n : Nat) :
    s.claimStep c best n = best ∨ s.claimStep c best n = some n ∧ s.presented n c = true := by
  cases hp : s.presented n c with
  | false => exact .inl (State.claimStep_of_not_presented hp)
  | true =>
    cases best with
    | none => exact .inr ⟨State.claimStep_none hp, rfl⟩
    | some b =>
      by_cases higher : s.fld (Reg.evtSrc b) 2 0 < s.fld (Reg.evtSrc n) 2 0
      · exact .inr ⟨State.claimStep_of_higher hp higher, rfl⟩
      · exact .inl (State.claimStep_of_not_higher higher)

theorem State.claimBelow_succ (s : State) (c k : Nat) : s.claimBelow c (k + 1) = s.claimStep c (s.claimBelow c k) k := by
  simp [State.claimBelow, List.range_succ]

theorem State.claimBelow_eq_none (h : ∀ m < k, s.presented m c = false) : s.claimBelow c k = none := by
  induction k with
  | zero => rfl
  | succ k ih =>
    rw [State.claimBelow_succ, ih fun m hm => h m (Nat.lt_succ_of_lt hm), State.claimStep_of_not_presented (h k k.lt_succ_self)]

/-- What a claim returns is a source that is presented. -/
theorem State.presented_of_claimBelow (h : s.claimBelow c k = some b) : b < k ∧ s.presented b c = true := by
  induction k with
  | zero => cases h
  | succ k ih =>
    rw [State.claimBelow_succ] at h
    rcases State.claimStep_eq s c (s.claimBelow c k) k with kept | ⟨taken, pres⟩
    · obtain ⟨lt, pres⟩ := ih (kept ▸ h)
      exact ⟨Nat.lt_succ_of_lt lt, pres⟩
    · obtain rfl : k = b := Option.some.inj (taken ▸ h)
      exact ⟨k.lt_succ_self, pres⟩

/-- The source that outranks every other presented one wins the fold: it displaces whatever was best before it, and
no later source displaces it. -/
theorem State.claimBelow_eq_some (below : n < k) (pres : s.presented n c = true)
    (best : ∀ m < k, s.presented m c = true → m ≠ n → s.outranks n m) : s.claimBelow c k = some n := by
  induction k with
  | zero => cases below
  | succ k ih =>
    rw [State.claimBelow_succ]
    rcases Nat.lt_succ_iff_lt_or_eq.mp below with lt | rfl
    · rw [ih lt fun m hm => best m (Nat.lt_succ_of_lt hm)]
      cases hp : s.presented k c with
      | false => exact State.claimStep_of_not_presented hp
      | true =>
        have rank : s.outranks n k := best k k.lt_succ_self hp (Nat.ne_of_gt lt)
        exact State.claimStep_of_not_higher (by unfold State.outranks at rank; omega)
    · cases hbest : s.claimBelow c n with
      | none => exact State.claimStep_none pres
      | some b =>
        obtain ⟨hb, hpb⟩ := State.presented_of_claimBelow hbest
        have rank : s.outranks n b := best b (Nat.lt_succ_of_lt hb) hpb (Nat.ne_of_lt hb)
        exact State.claimStep_of_higher pres (by unfold State.outranks at rank; omega)

theorem execEvtClaim_of_claimOf_none {ag : Agent} {core : Fin 4} (h : s.claimOf core.val = none) :
    execEvtClaim ag core s = .next (s.emit (.read ag [0])) := by
  simp [execEvtClaim, State.claim, h]

theorem execEvtClaim_of_claimOf_some {ag : Agent} {core : Fin 4} (h : s.claimOf core.val = some n) :
    execEvtClaim ag core s =
      .next ((s.setBit (Reg.evtSrc n) 31 false).emit (.read ag [BitVec.ofNat 32 (n + 2 ^ 31)])) := by
  simp [execEvtClaim, State.claim, h]

/-- Settles O39: the raises go through `State.raise`, and a claim is the fold over all 448 sources. -/
theorem eventsAreRaisedAndClaimed : Obligations.EventsAreRaisedAndClaimed := by
  refine ⟨?raised, ?pending, ?userLine, ?raiseWrite, ?claimNone, ?claimSome⟩
  case raised =>
    intro n s running clear
    rw [exec_eventRaise, execEventRaise, State.raise_of_pend_clear running n.isLt clear]
  case pending =>
    intro n s pend
    rw [exec_eventRaise, execEventRaise, State.raise_of_pend_set pend]
  case userLine =>
    intro w j s free
    rw [exec_userEventEdge, execUserEventEdge_of_not_clamped free]
  case raiseWrite =>
    intro ag v s source
    rw [exec_evtRaiseWrite, execEvtRaiseWrite, State.evtRaise_of_source source]
  case claimNone =>
    intro ag c s none
    have claim : s.claimOf c.val = .none := s.claimOf_eq_claimBelow c ▸ State.claimBelow_eq_none none
    rw [exec_evtClaim, execEvtClaim_of_claimOf_none claim]
  case claimSome =>
    intro ag c s n source pres best
    have claim : s.claimOf c.val = some n := s.claimOf_eq_claimBelow c ▸ State.claimBelow_eq_some source pres best
    rw [exec_evtClaim, execEvtClaim_of_claimOf_some claim]

end Sys2Proof.Machine
end

section
/-! Shared by the commands of power and start: a write by the holder of its semaphore (R375), and the accessors of the
boot state and the mode. -/
namespace Sys2Proof.Machine

variable {s t : State} {ag : Agent} {off : Nat}

/-- A write that the agent may make has its effect. -/
theorem State.rws_of_mayWrite (may : s.mayWrite ag off = true) : s.rws ag off t = t := by
  unfold State.mayWrite at may
  unfold State.rws
  cases hrow : regRow? off with
  | none => rfl
  | some row =>
    rw [hrow] at may
    cases hsem : row.sem with
    | none => simp [hsem]
    | some n =>
      simp only [hsem] at may
      simp [hsem, State.guarded, may]

@[simp] theorem State.setBoot_boot (s : State) (b : BootSt) : (s.setBoot b).boot = b := rfl
@[simp] theorem State.setBoot_mode (s : State) (b : BootSt) : (s.setBoot b).mode = s.mode := rfl

/-- LOADING, RELEASE, RUN and STAGING: a reload acts there at once (R21, R22). -/
theorem State.reloadRequest_of_running {cause : Nat} (running : s.mode = 4 ∨ s.mode = 5 ∨ s.mode = 6 ∨ s.mode = 7)
    (awake : s.pwr.drained = false) : s.reloadRequest cause = s.reloadNow cause := by
  rw [State.reloadRequest, if_neg]
  simp only [awake, Bool.false_eq_true, and_false, or_false]
  omega

end Sys2Proof.Machine
end

section
/-! Level requests and ramps (R417, R418). -/
namespace Sys2Proof.Machine

variable {s t : State} {v : Word}

/-- A legal request for both wythes waits for the boundary of its source. -/
theorem State.plReqWrite_of_legal (go : getBit v 16 = true) (alone : s.pwr.asked = none) (still : s.ramps = false)
    (mode : s.mode = 6 ∨ s.mode = 7) (set0 : getBit v 3 = true) (level0 : getBits v 2 0 ≠ 0) (set1 : getBit v 7 = true)
    (level1 : getBits v 6 4 ≠ 0) (source : getBits v 13 8 < 56) :
    s.plReqWrite v = (s.plainWrite Reg.pwrPlreq v).setAsked (some v) := by
  have mode' : ¬ (s.mode ≠ 6 ∧ s.mode ≠ 7) := by omega
  simp [State.plReqWrite, go, alone, still, mode', set0, level0, set1, level1, source]

theorem execPlRampDone_of_ramps (ramping : s.ramps = true) : execPlRampDone s = .next s.rampEnd := by
  simp [execPlRampDone, ramping]

/-- Nothing waited for the ramp: its end sets the levels and no more. -/
theorem State.rampEnd_of_none_waits (noWake : s.rampLevels.pwr.undoze = false) (noMode : s.rampLevels.pwr.waiting = 0) :
    s.rampEnd = s.rampLevels := by
  simp [State.rampEnd, noWake, noMode]

end Sys2Proof.Machine
end

section
/-! Mode requests, and the drain before an entry (R422, R423). -/
namespace Sys2Proof.Machine

variable {s t : State} {v : Word} {m d : Nat}

/-- The levels in PWR_DOZE are among the reasons to refuse a request for DOZE. -/
theorem State.dozeCheck_of_modeCheck (accepted : s.modeCheck 1 = none) : s.dozeCheck = none := by
  unfold State.modeCheck at accepted
  split at accepted
  · cases accepted
  · split at accepted
    · cases accepted
    · exact accepted

/-- An accepted request for DOZE leaves a sounding alone. -/
theorem State.mreqWrite_of_accepted_doze (ht : t = s.plainWrite Reg.pwrMreq v) (go : getBit v 4 = true)
    (hm : getBits v 1 0 = 1) (accepted : t.modeCheck 1 = none) (alone : t.pwr.asked = none) (still : t.ramps = false) :
    s.mreqWrite v = t.modeBegin 8 := by
  subst ht
  simp [State.mreqWrite, go, hm, accepted, alone, still]

/-- An accepted request for SLEEP or STANDBY ends a sounding. -/
theorem State.mreqWrite_of_accepted_off (ht : t = s.plainWrite Reg.pwrMreq v) (go : getBit v 4 = true)
    (hm : getBits v 1 0 = m) (deep : 2 ≤ m) (accepted : t.modeCheck m = none) (alone : t.pwr.asked = none)
    (still : t.sndAbort.ramps = false) : s.mreqWrite v = t.sndAbort.modeBegin (7 + m) := by
  subst ht
  simp [State.mreqWrite, go, hm, deep, accepted, alone, still]

theorem State.modeBegin_doze (run : s.mode = 6) (levels : s.dozeCheck = none) : s.modeBegin 8 = s.dozeEnter := by
  simp [State.modeBegin, run, levels]

theorem State.modeBegin_drain (run : s.mode = 6) (notDoze : m ≠ 8) : s.modeBegin m = s.drainStart m := by
  simp [State.modeBegin, run, notDoze]

theorem execQuiesceDone_of_undrained_nil (entry : s.pwr.entering ≠ 0) (draining : s.pwr.drained = false)
    (done : s.undrained = []) : execQuiesceDone s = .next s.quiesced := by
  simp [execQuiesceDone, entry, draining, done]

theorem State.quiesced_sleep (run : s.mode = 6) (entry : s.pwr.entering = 9) : s.quiesced = s.sleepSteps := by
  simp [State.quiesced, run, entry]

theorem State.quiesced_standby (run : s.mode = 6) (entry : s.pwr.entering ≠ 9) : s.quiesced = s.standbyEnter := by
  simp [State.quiesced, run, entry]

theorem execQuiesceTimeout_of_busy {busy : BitVec 4} (entry : s.pwr.entering ≠ 0) (draining : s.pwr.drained = false)
    (first : [1, 2, 3, 4].find? (fun d => s.undrained.contains d || busy.getLsbD (d - 1)) = some d) :
    execQuiesceTimeout busy s = .next (s.drainEnd.pwrResult 0x13 1 d) := by
  unfold execQuiesceTimeout
  rw [if_neg (by simp [entry, draining]), first]

end Sys2Proof.Machine
end

section
/-! SLEEP and its wake sources (R425, R427, R428). -/
namespace Sys2Proof.Machine

variable {s t : State} {src port : Nat}

/-- No source fired during the entry: the device stays in SLEEP. -/
theorem execSleepEntered_of_quiet (entry : s.pwr.entering = 9) (drained : s.pwr.drained = true) (still : s.ramps = false)
    (noMove : s.sndPhase ≠ 3)
    (ht : t = ((((s.setPwr { s.pwr with entering := 0, drained := false }).setMstate 0).enterMode 9).raise 242).pwrResult 2 1 0)
    (quiet : t.pwr.waking = false) : execSleepEntered s = .next t := by
  subst ht
  unfold execSleepEntered
  rw [if_pos (by simp [entry, drained, still, noMove])]
  dsimp only
  rw [if_neg (by simp [quiet])]

/-- In SLEEP an enabled source that is neither PROGRAM_N nor a wake pin records itself and starts the wake. -/
theorem State.wakeSource_of_sleep (sleep : s.mode = 9) (enabled : s.bit Reg.pwrWakeen src = true) (notProgram : src ≠ 2)
    (notPin : src ≠ 3) (noEntry : s.pwr.entering = 0) (noUndoze : s.pwr.undoze = false) (noWake : s.pwr.waking = false)
    (wale : src = 6 → s.waleWakes = true) (still : (s.wakeRecord true src port 9).mode = 9) :
    s.wakeSource src port = (s.wakeRecord true src port 9).sleepWake := by
  have lane0 : (src != 6 || s.waleWakes) = true := by
    by_cases h : src = 6
    · simp [wale h]
    · simp [h]
  simp [State.wakeSource, sleep, enabled, notProgram, notPin, noEntry, noUndoze, noWake, lane0, still, wakeActs]

theorem execWakeTimerExpiry_of_counting (counting : s.rd Reg.pwrWtimer ≠ 0) :
    execWakeTimerExpiry s = .next ((s.wr Reg.pwrWtimer 0).wakeSource 1 0) :=
  congrArg Host.Outcome.next (if_neg counting)

/-- Every retention bank held and the hamper was not asleep: the device runs again. -/
theorem execSleepWakeRun_of_retained (sleep : s.mode = 9) (waking : s.pwr.waking = true) (still : s.ramps = false)
    (clocked : s.hubOnSynth = true) (hamper : s.hampState ≠ 3) :
    execSleepWakeRun ⟨[], [], false⟩ s = .next s.waleWake.wokenRun := by
  simp [execSleepWakeRun, sleep, waking, still, clocked, hamper]

end Sys2Proof.Machine
end

section
/-! Monitors (R72, R411, R433) and the PROGRAM_N pin (R20, R21). -/
namespace Sys2Proof.Machine

variable {s : State}

/-- The registers that show a sample of the sensors: NOW and MAX of each bay pair and of the hub, and the spread of each
wythe (R433). -/
def State.showTemps (s : State) (bays hub : List (BitVec 8)) : State :=
  let t := (List.range 64).foldl (fun t n =>
    t.wr (Reg.pwrTemp n) (tempReg (t.rd (Reg.pwrTemp n)) (!s.pwr.temps.isEmpty) (bays.getD n 0).toInt)) s
  let w0 := (bays.drop 0).take 48
  let w1 := (bays.drop 48).take 48
  (t.wr Reg.pwrThub (tempReg (t.rd Reg.pwrThub) (!s.pwr.temps.isEmpty) (hottest hub))).wr Reg.pwrTstat
    (BitVec.ofNat 32 (tempByte (hottest w0) + 2 ^ 8 * tempByte (hottest w1) + 2 ^ 16 * (hottest w0 - coolest w0).toNat +
      2 ^ 24 * (hottest w1 - coolest w1).toNat))

/-- The three difference tests of R72 and the warning of R433, on a sample that has been shown. -/
def State.testTemps (s : State) (bays hub : List (BitVec 8)) : State :=
  let w0 := (bays.drop 0).take 48
  let w1 := (bays.drop 48).take 48
  ((((s.setPwr { s.pwr with temps := bays ++ hub }).gradientTest 0 (hottest w0 - coolest w0) 20 18).gradientTest 1
    (hottest w1 - coolest w1) 20 18).gradientTest 2 (hottest w0 - hottest w1).natAbs 25 23).tempWarning
    (max (hottest bays) (hottest hub))

theorem execThermalSample_of_cool {bays hub : List (BitVec 8)} (notStandby : s.mode ≠ 0xA) (notPowerUp : s.mode ≠ 1)
    (cool : max (hottest bays) (hottest hub) ≤ 115) :
    execThermalSample bays hub s = .next ((s.showTemps bays hub).testTemps bays hub) := by
  unfold execThermalSample
  rw [if_neg (by simp [notStandby, notPowerUp])]
  dsimp only
  rw [if_neg (Int.not_lt.mpr cool)]
  rfl

theorem execVbatLow_of_key (key : s.keys.bbr ≠ 0) :
    execVbatLow s = .next ((s.setBit Reg.pwrErr 3 true).raise 292) := by
  simp [execVbatLow, key]

theorem execProgramNFall_of_running (running : s.mode = 4 ∨ s.mode = 5 ∨ s.mode = 6 ∨ s.mode = 7)
    (awake : s.pwr.drained = false) :
    execProgramNFall s = .next ((s.setBoot { s.boot with programLow := true }).reloadNow 2) :=
  congrArg Host.Outcome.next (State.reloadRequest_of_running running awake)

/-- A rise of PROGRAM_N starts the attempt that waited for it. -/
theorem execProgramNRise_of_due (loading : s.mode = 4) (due : s.boot.attemptDue = true) :
    execProgramNRise s = .next (s.setBoot { s.boot with programLow := false }).nextAttempt := by
  simp [execProgramNRise, loading, due]

theorem execProgramNRise_of_not_due (h : s.mode ≠ 4 ∨ s.boot.attemptDue = false) :
    execProgramNRise s = .next (s.setBoot { s.boot with programLow := false }) := by
  unfold execProgramNRise
  dsimp only
  rw [if_neg]
  rintro ⟨loading, due⟩
  rcases h with h | h
  · exact h loading
  · exact absurd due (by simp [h])

theorem State.sysCtlWrite_of_reload {v : Word} (key : getBits v 31 16 = 0xA5C3) (reload : getBit v 0 = true) :
    s.sysCtlWrite v = s.reloadRequest 3 :=
  if_pos ⟨key, reload⟩

end Sys2Proof.Machine
end

section
namespace Sys2Proof.Machine

/-- Settles O40, clause by clause: levels, modes and drains, SLEEP and its wakes, the monitors, and the two requests for
a reload. -/
theorem powerCommandsComplete : Obligations.PowerCommandsComplete := by
  refine ⟨?levelRequest, ?rampEnd, ?doze, ?sleep, ?standby, ?drainedSleep, ?drainedStandby, ?drainTimeout, ?sleepEntered,
    ?wakeSource, ?wakeTimer, ?wakeRun, ?thermal, ?regulator, ?rail, ?vin, ?vbat, ?programFall, ?programRise, ?programRiseIdle, ?sysCtl⟩
  case levelRequest =>
    rintro ag v w s t may rfl rfl alone still mode set0 level0 set1 level1 source
    have go : getBit (putBit v 16 true) 16 = true := Laws.getBit_putBit v 16 true (by decide)
    rw [exec_plRequest, execPlRequest, State.rws_of_mayWrite may,
      State.plReqWrite_of_legal go alone still mode set0 level0 set1 level1 source]
  case rampEnd =>
    intro s ramping noWake noMode
    rw [exec_plRampDone, execPlRampDone_of_ramps ramping, State.rampEnd_of_none_waits noWake noMode]
  case doze =>
    intro ag s t may ht accepted alone still run
    rw [exec_modeRequestDoze, execModeRequestDoze, State.rws_of_mayWrite may,
      State.mreqWrite_of_accepted_doze ht (by decide) (by decide) accepted alone still,
      State.modeBegin_doze run (State.dozeCheck_of_modeCheck accepted)]
  case sleep =>
    intro ag s t may ht accepted alone still run
    rw [exec_modeRequestSleep, execModeRequestSleep, State.rws_of_mayWrite may,
      State.mreqWrite_of_accepted_off ht (by decide) (by decide) (by decide) accepted alone still,
      State.modeBegin_drain run (by decide)]
  case standby =>
    intro ag s t may ht accepted alone still run
    rw [exec_modeRequestStandby, execModeRequestStandby, State.rws_of_mayWrite may,
      State.mreqWrite_of_accepted_off ht (by decide) (by decide) (by decide) accepted alone still,
      State.modeBegin_drain run (by decide)]
  case drainedSleep =>
    intro s entry draining done run
    rw [exec_quiesceDone, execQuiesceDone_of_undrained_nil (by simp [entry]) draining done, State.quiesced_sleep run entry]
  case drainedStandby =>
    intro s entry draining done run
    rw [exec_quiesceDone, execQuiesceDone_of_undrained_nil (by simp [entry]) draining done,
      State.quiesced_standby run (by simp [entry])]
  case drainTimeout =>
    intro busy s d entry draining first
    rw [exec_quiesceTimeout, execQuiesceTimeout_of_busy entry draining first]
  case sleepEntered =>
    intro s t entry drained still noMove ht quiet
    rw [exec_sleepEntered, execSleepEntered_of_quiet entry drained still noMove ht quiet]
  case wakeSource =>
    intro src port s sleep enabled notProgram notPin noEntry noUndoze noWake wale still
    rw [exec_wakeSource, execWakeSource,
      State.wakeSource_of_sleep sleep enabled notProgram notPin noEntry noUndoze noWake wale still]
  case wakeTimer =>
    intro s counting
    rw [exec_wakeTimerExpiry, execWakeTimerExpiry_of_counting counting]
  case wakeRun =>
    intro s sleep waking still clocked hamper
    rw [exec_sleepWakeRun, execSleepWakeRun_of_retained sleep waking still clocked hamper]
  case thermal =>
    rintro bays hub s t u notStandby notPowerUp rfl rfl cool
    exact execThermalSample_of_cool notStandby notPowerUp cool
  case regulator =>
    rintro r s t rfl
    rfl
  case rail =>
    intro r s
    rfl
  case vin =>
    intro s
    rfl
  case vbat =>
    intro s key
    rw [exec_vbatLow, execVbatLow_of_key key]
  case programFall =>
    rintro s t rfl running awake
    exact execProgramNFall_of_running running awake
  case programRise =>
    rintro s t rfl loading due
    exact execProgramNRise_of_due loading due
  case programRiseIdle =>
    rintro s t rfl h
    exact execProgramNRise_of_not_due h
  case sysCtl =>
    intro ag v s key reload running awake
    rw [exec_sysCtlReload, execSysCtlReload, State.sysCtlWrite_of_reload key reload,
      State.reloadRequest_of_running running awake]

end Sys2Proof.Machine
end

section
/-! Power and reset pins (R25, R201, R203): a command that its guard lets through, and the restarts. -/
namespace Sys2Proof.Machine

variable {s t u : State}

/-- A command whose guard holds has its effect. -/
theorem next_ite_of_guard {p : Prop} [Decidable p] (h : p) :
    (Host.Outcome.next (if p then t else u) : Host.Outcome State Fault Refusal) = .next t :=
  congrArg Host.Outcome.next (if_pos h)

/-- No regulator fault stops the power-up order. -/
theorem execPowerUpComplete_of_rails_ok {straps : BitVec 7} (powerUp : s.mode = 1)
    (rails : ∀ o ∈ railRegs, s.bit o 18 = false) : execPowerUpComplete straps s =
      .next (((s.keeperStart 0).setBoot { (s.keeperStart 0).boot with
        ticks := s.boot.ticks, start := s.boot.start, vin := true }).strapLatch straps) := by
  have noFault : railRegs.any (fun o => s.bit o 18) = false := List.any_eq_false.mpr fun o ho => by simp [rails o ho]
  unfold execPowerUpComplete
  rw [if_neg (by simp [powerUp, noFault])]

/-- In POWER-UP, and after a VAON fault in STANDBY, RESET_N starts nothing. -/
theorem execResetNRise_of_powerStopped (low : s.boot.resetLow = true) (stopped : s.powerStopped = true) :
    execResetNRise s = .next (s.setBoot { s.boot with resetLow := false }) := by
  simp [execResetNRise, low, stopped]

/-- Otherwise the keeper starts with boot cause 1; LC_ZCAUSE and the FAULT bits of the rails stay. -/
theorem execResetNRise_of_powered (low : s.boot.resetLow = true) (powered : s.powerStopped = false) :
    execResetNRise s = .next (railRegs.foldl (fun u o => u.setBit o 18 (s.bit o 18))
      (State.keepRegs s ((s.setBoot { s.boot with resetLow := false }).keeperStart 1) [Reg.lcZcause])) := by
  simp [execResetNRise, low, powered]

end Sys2Proof.Machine
end

section
/-! KEEPER BOOT and START TEST (R20, R438, R448, R461). -/
namespace Sys2Proof.Machine

variable {s t u : State} {vinOk : Bool}

theorem execKeeperBootComplete_of_latched {agree xref : Bool} (keeper : s.mode = 2) (latched : s.boot.latchDue = false) :
    execKeeperBootComplete agree xref vinOk s = .next ((s.keeperWork agree xref).keeperEnds vinOk) := by
  simp [execKeeperBootComplete, keeper, latched]

/-! The mode after KEEPER BOOT, by the life-cycle state. -/

theorem State.keeperEnds_of_lt_two (h : s.lcState < 2) : s.keeperEnds vinOk = s.factory := by
  obtain h | h : s.lcState = 0 ∨ s.lcState = 1 := by omega
  · simp [State.keeperEnds, h]
  · simp [State.keeperEnds, h]

theorem State.keeperEnds_of_two_le_of_lt_four (low : 2 ≤ s.lcState) (high : s.lcState < 4) :
    s.keeperEnds vinOk = s.startTest := by
  obtain h | h : s.lcState = 2 ∨ s.lcState = 3 := by omega
  · simp [State.keeperEnds, h]
  · simp [State.keeperEnds, h]

theorem State.keeperEnds_of_token (h : s.lcState = 4) (token : s.testToken vinOk = (true, u)) :
    s.keeperEnds vinOk = u.factory := by
  simp [State.keeperEnds, h, token]

theorem State.keeperEnds_of_no_token (h : s.lcState = 4) (token : s.testToken vinOk = (false, u)) :
    s.keeperEnds vinOk = u.startTest := by
  simp [State.keeperEnds, h, token]

theorem State.keeperEnds_of_eq_five (h : s.lcState = 5) : s.keeperEnds vinOk = s.enterSafe 4 0 := by
  simp [State.keeperEnds, h]

theorem State.keeperEnds_of_five_lt (h : 5 < s.lcState) : s.keeperEnds vinOk = s.enterSafe 3 0 := by
  obtain ⟨n, hn⟩ := Nat.exists_eq_add_of_le' h
  simp [State.keeperEnds, hn]

/-- The hub passed, no priority bay failed and none needed a soft repair: the device loads. -/
theorem execStartTestComplete_of_pass {rep : SoundReport} (startTest : s.mode = 3) (unmarked : s.unrepairedMark = false)
    (sounded : s.soundBays ((List.range 96).filter s.boot.prioBays.testBit) rep = (t, [])) (noSoft : t.fld Reg.sndBoot 7 0 = 0)
    (hu : u = t.journal 0x02 jPass 0 t.bootSource 0 0) : execStartTestComplete true rep s =
      .next (((u.keyLoad).setBoot { u.boot with tested := true }).loadingEntry.step6 s.boot.prioBays) := by
  subst hu
  unfold execStartTestComplete
  rw [if_neg (by simp [startTest])]
  dsimp only
  rw [sounded, if_neg (by simp [unmarked])]
  simp [noSoft]

end Sys2Proof.Machine
end

section
/-! The priority stage and the main commit (R214, R215, R217). -/
namespace Sys2Proof.Machine

variable {s : State} {j : PartJob}

/-- Cycle 0 of the priority stage. -/
theorem execPriorityCommit_of_ready (job : s.boot.prioJob = some j) (loading : s.mode = 4) (ready : j.ready = true)
    (idle : s.boot.prioPhase = .idle) (clocked : s.hubOnSynth = true) : execPriorityCommit s =
      let t := (unitsOf j.bays j.edge).foldl (fun t u => t.setBond u false) (s.partCommit j)
      .next (t.setBoot { t.boot with prioPhase := .bond, prioJob := none }) := by
  unfold execPriorityCommit
  rw [job]
  exact next_ite_of_guard ⟨loading, ready, idle, clocked⟩

/-- The time is up before the part could commit: it is left to the main commit. -/
theorem execPriorityStageTimeout_of_waiting (loading : s.mode = 4) (first : s.boot.prioLate = false)
    (idle : s.boot.prioPhase = .idle) (job : s.boot.prioJob.isSome = true) :
    execPriorityStageTimeout s = .next ((s.setBoot { s.boot with prioLate := true }).prioDefer jFail) := by
  simp [execPriorityStageTimeout, loading, first, idle, job]

/-- The time is up after the bond cells were released: the bays return to their holds. -/
theorem execPriorityStageTimeout_of_bond (loading : s.mode = 4) (first : s.boot.prioLate = false)
    (bond : s.boot.prioPhase = .bond) : execPriorityStageTimeout s =
      .next (((unitsOf s.boot.prioBound 0).foldl (fun t b => t.bayInit b)
        ((s.setBoot { s.boot with prioLate := true }).bondStart (unitsOf s.boot.prioBound s.boot.prioEdge))).prioDefer jFail) := by
  simp [execPriorityStageTimeout, loading, first, bond]

/-- Every part of the main commit flips before the attempt ends. -/
theorem execMainCommit_of_ready {js : List PartJob} (ready : s.mainReady = some js) : execMainCommit s =
      let t := js.foldl State.partCommit s
      let u := t.setBoot { t.boot with committed := true, attempt := false, reading := false, mainJob := none, prioJob := none }
      .next ((u.journalFlush).journal 0x05 jPass 0 u.bootSource 0 0) := by
  unfold execMainCommit
  rw [ready]

end Sys2Proof.Machine
end

section
/-! The journal's erase (R225) and the wait for XREF (R117). -/
namespace Sys2Proof.Machine

variable {s t : State}

/-- SEM1 is free, or the keeper's already, and no operation runs in the flash: the erase starts. -/
theorem execJournalEraseStart_of_free (due : s.boot.eraseDue = true) (notLoading : s.mode ≠ 4)
    (sem : s.semOwner 1 = 0 ∨ s.holds .keeper 1 = true) (ht : t = s.setFld (Reg.sem 1) 15 0 (agentIdent .keeper))
    (idle : t.flashOpBusy = false) : execJournalEraseStart s = .next t.journalErase := by
  subst ht
  have notHeld : ¬ (s.semOwner 1 ≠ 0 ∧ (!s.holds .keeper 1) = true) := by
    rintro ⟨owned, other⟩
    rcases sem with free | own
    · exact owned free
    · simp [own] at other
  unfold execJournalEraseStart
  rw [if_neg (by simp [due, notLoading]), if_neg notHeld]
  dsimp only
  rw [if_neg (by simp [idle])]

/-- Another agent holds SEM1: the keeper waits for it. -/
theorem execJournalEraseStart_of_held (due : s.boot.eraseDue = true) (notLoading : s.mode ≠ 4)
    (owned : s.semOwner 1 ≠ 0) (other : s.holds .keeper 1 = false) :
    execJournalEraseStart s = .next (s.setBit (Reg.sem 1) 16 true) := by
  simp [execJournalEraseStart, due, notLoading, owned, other]

/-- XREF has come within its time. -/
theorem execXwaitExpiry_of_present (waiting : s.boot.xwaitDone = false) : execXwaitExpiry true s =
    .next (((s.setBoot { s.boot with xwaitDone := true }).setBit Reg.clkStatus 8 true).setBit Reg.clkStatus 4 true) := by
  simp [execXwaitExpiry, waiting]

end Sys2Proof.Machine
end

section
namespace Sys2Proof.Machine

/-- Settles O41, clause by clause, in the order of the boot sequence: pins, KEEPER BOOT, START TEST, the priority stage,
the main commit, RELEASE, and what runs beside them. -/
theorem startAndReleaseCommandsComplete : Obligations.StartAndReleaseCommandsComplete := by
  refine ⟨?vinFall, ?powerUp, ?resetFall, ?resetRiseStopped, ?resetRise, ?straps, ?keeperBoot, ?lcFactory, ?lcStartTest,
    ?lcToken, ?lcNoToken, ?lcScrap, ?lcInvalid, ?startTest, ?srcWait, ?prioCommit, ?prioInit, ?prioOutputs, ?prioTimeout,
    ?prioTimeoutBond, ?mainCommit, ?release, ?releaseInit, ?releaseOutputs, ?releaseDone, ?doneHigh, ?doneWait, ?erase,
    ?eraseWaits, ?bootClear, ?repower, ?xwait⟩
  case vinFall =>
    rintro s t rfl
    rw [exec_vinFall, execVinFall]
  case powerUp =>
    rintro straps s t powerUp rails rfl
    rw [exec_powerUpComplete, execPowerUpComplete_of_rails_ok powerUp rails]
  case resetFall =>
    intro s
    rw [exec_resetNFall, execResetNFall, State.setBoot]
  case resetRiseStopped =>
    rintro s t low rfl stopped
    rw [exec_resetNRise, execResetNRise_of_powerStopped low stopped, State.setBoot]
  case resetRise =>
    rintro s t low rfl powered
    rw [exec_resetNRise, execResetNRise_of_powered low powered, State.setBoot]
  case straps =>
    intro straps s keeper due
    rw [exec_strapLatch, execStrapLatch]
    exact next_ite_of_guard ⟨keeper, due⟩
  case keeperBoot =>
    rintro agree xref vinOk s t keeper latched rfl
    rw [exec_keeperBootComplete, execKeeperBootComplete_of_latched keeper latched]
  case lcFactory => exact fun v s h => State.keeperEnds_of_lt_two h
  case lcStartTest => exact fun v s low high => State.keeperEnds_of_two_le_of_lt_four low high
  case lcToken => exact fun v s u h token => State.keeperEnds_of_token h token
  case lcNoToken => exact fun v s u h token => State.keeperEnds_of_no_token h token
  case lcScrap => exact fun v s h => State.keeperEnds_of_eq_five h
  case lcInvalid => exact fun v s h => State.keeperEnds_of_five_lt h
  case startTest =>
    intro rep s t u startTest unmarked sounded noSoft hu
    rw [exec_startTestComplete, execStartTestComplete_of_pass startTest unmarked sounded noSoft hu]
  case srcWait =>
    intro s loading high boot wait reading first silent calibrated
    rw [exec_srcWaitExpiry, execSrcWaitExpiry]
    exact next_ite_of_guard ⟨loading, by simp [high], boot, wait, reading, first, by simp [silent], calibrated⟩
  case prioCommit =>
    rintro s t j job loading ready idle clocked rfl
    rw [exec_priorityCommit, execPriorityCommit_of_ready job loading ready idle clocked]
    rfl
  case prioInit =>
    intro s loading bond
    rw [exec_priorityInitLeave, execPriorityInitLeave]
    exact next_ite_of_guard ⟨loading, bond⟩
  case prioOutputs =>
    rintro s t loading init rfl
    rw [exec_priorityOutputEnable, execPriorityOutputEnable]
    exact next_ite_of_guard ⟨loading, init⟩
  case prioTimeout =>
    intro s loading first idle job
    rw [exec_priorityStageTimeout, execPriorityStageTimeout_of_waiting loading first idle job, State.setBoot]
  case prioTimeoutBond =>
    rintro s t loading first bond rfl
    rw [exec_priorityStageTimeout, execPriorityStageTimeout_of_bond loading first bond, State.setBoot]
  case mainCommit =>
    rintro s t u js ready rfl rfl
    rw [exec_mainCommit, execMainCommit_of_ready ready]
  case release =>
    rintro s t loading committed waited rfl
    rw [exec_releaseStart, execReleaseStart]
    exact next_ite_of_guard ⟨loading, committed, waited⟩
  case releaseInit =>
    intro s release bond
    rw [exec_releaseInitLeave, execReleaseInitLeave]
    exact next_ite_of_guard ⟨release, bond⟩
  case releaseOutputs =>
    rintro s t release init rfl
    rw [exec_releaseOutputEnable, execReleaseOutputEnable]
    exact next_ite_of_guard ⟨release, init⟩
  case releaseDone =>
    intro s release outputs
    rw [exec_releaseDoneRelease, execReleaseDoneRelease]
    exact next_ite_of_guard ⟨release, outputs⟩
  case doneHigh =>
    intro s release waiting noWale
    rw [exec_doneHigh, execDoneHigh]
    exact next_ite_of_guard ⟨release, waiting, .inl (by simp [noWale])⟩
  case doneWait =>
    rintro s t release waiting wait rfl
    rw [exec_doneWaitExpiry, execDoneWaitExpiry]
    exact next_ite_of_guard ⟨release, waiting, wait⟩
  case erase =>
    intro s t due notLoading sem ht idle
    rw [exec_journalEraseStart, execJournalEraseStart_of_free due notLoading sem ht idle]
  case eraseWaits =>
    intro s due notLoading owned other
    rw [exec_journalEraseStart, execJournalEraseStart_of_held due notLoading owned other]
  case bootClear =>
    intro ag v s
    rw [exec_bootClear, execBootClear]
  case repower =>
    intro b s off
    rw [exec_bankRepower, execBankRepower]
    exact next_ite_of_guard off
  case xwait =>
    intro s waiting
    rw [exec_xwaitExpiry, execXwaitExpiry_of_present waiting, State.setBoot]

end Sys2Proof.Machine
end

section
/-! An edge of a stake net: what the net shows of it, what its gate samples, and what acts without a clock before and
after it (R43, R97, R132, R135, R425). -/
namespace Sys2Proof.Machine

variable {s : State} {p : EdgePins}

/-! What the net shows. -/

/-- The hard blocks see a rising edge only. -/
theorem State.stakePass_rising (bay net : Nat) : s.stakePass bay net true p =
    ((s.fabricEdge bay net true p).portEdges bay net p).setHigh bay net true := rfl

theorem State.stakePass_falling (bay net : Nat) : s.stakePass bay net false p =
    (s.fabricEdge bay net false p).setHigh bay net false := rfl

/-! An edge of the net's source. -/

section
variable {bay net : Nat}

theorem State.stakeEdge_rising_of_open (runs : s.stakeRuns bay net = true) (gate : s.gateIsShut bay net = false) :
    s.stakeEdge bay net true p = s.stakePass bay net true p := by
  simp [State.stakeEdge, runs, gate]

/-- A shut gate, and a source that does not run, hold the net low. -/
theorem State.stakeEdge_rising_of_blocked (blocked : s.stakeRuns bay net = false ∨ s.gateIsShut bay net = true) :
    s.stakeEdge bay net true p = s := by
  rcases blocked with stopped | shut
  · simp [State.stakeEdge, stopped]
  · simp [State.stakeEdge, shut]

/-- The end of a high phase, after which the gate takes the enables. -/
theorem State.stakeEdge_falling_of_high_of_runs (high : s.stakeHigh bay net = true) (runs : s.stakeRuns bay net = true) :
    s.stakeEdge bay net false p = (s.stakePass bay net false p).setGate bay net (!s.gateOpen bay net p.sce) := by
  simp [State.stakeEdge, high, runs]

/-- The fall that ends the last pulse of a source that stopped: the gate stays as it is. -/
theorem State.stakeEdge_falling_of_high_of_stopped (high : s.stakeHigh bay net = true)
    (stopped : s.stakeRuns bay net = false) : s.stakeEdge bay net false p = s.stakePass bay net false p := by
  simp [State.stakeEdge, high, stopped]

/-- A low net shows no fall, but its gate still takes the enables. -/
theorem State.stakeEdge_falling_of_low_of_runs (low : s.stakeHigh bay net = false) (runs : s.stakeRuns bay net = true) :
    s.stakeEdge bay net false p = s.setGate bay net (!s.gateOpen bay net p.sce) := by
  simp [State.stakeEdge, low, runs]

end

/-! The command STAKE_NET_EDGE. -/

variable {bay : Fin 96} {net : Fin 24} {rising : Bool}

theorem execStakeNetEdge_of_asleep (asleep : s.fabricAwake = false) : execStakeNetEdge bay net rising p s = .next s := by
  rw [execStakeNetEdge, asleep, Bool.not_false, if_pos rfl]

/-- Asynchronous set and reset, and the FIFO resets, stand before the edge; asynchronous set and reset after it. -/
theorem execStakeNetEdge_of_awake (awake : s.fabricAwake = true) : execStakeNetEdge bay net rising p s =
    .next ((((s.asyncSettle p.levels ffCount).fifoReset bay.val p).stakeEdge bay.val net.val rising p).asyncSettle
      p.levels ffCount) := by
  rw [execStakeNetEdge, awake, Bool.not_true, if_neg Bool.false_ne_true]

/-- Settles O48, clause by clause: SLEEP, a rising edge that passes and one that does not, and the falling edge by the
net's level and its source. -/
theorem stakeNetEdgesComplete : Obligations.StakeNetEdgesComplete := by
  unfold Obligations.StakeNetEdgesComplete
  refine ⟨?asleep, ?risePasses, ?riseBlocked, ?fallHighRuns, ?fallHighStopped, ?fallLowRuns⟩
  case asleep =>
    intro bay net rising pins s asleep
    rw [exec_stakeNetEdge, execStakeNetEdge_of_asleep asleep]
  case risePasses =>
    rintro bay net pins s u awake rfl runs gate
    rw [exec_stakeNetEdge, execStakeNetEdge_of_awake awake, State.stakeEdge_rising_of_open runs gate,
      State.stakePass_rising]
  case riseBlocked =>
    rintro bay net pins s u awake rfl blocked
    rw [exec_stakeNetEdge, execStakeNetEdge_of_awake awake, State.stakeEdge_rising_of_blocked blocked]
  case fallHighRuns =>
    rintro bay net pins s u v awake rfl high rfl runs
    rw [exec_stakeNetEdge, execStakeNetEdge_of_awake awake, State.stakeEdge_falling_of_high_of_runs high runs,
      State.stakePass_falling]
  case fallHighStopped =>
    rintro bay net pins s u v awake rfl high rfl stopped
    rw [exec_stakeNetEdge, execStakeNetEdge_of_awake awake, State.stakeEdge_falling_of_high_of_stopped high stopped,
      State.stakePass_falling]
  case fallLowRuns =>
    rintro bay net pins s u awake rfl low runs
    rw [exec_stakeNetEdge, execStakeNetEdge_of_awake awake, State.stakeEdge_falling_of_low_of_runs low runs]

end Sys2Proof.Machine
end

section
/-! A write of SND_REQ (R442, R444): GO outside a sounding and during one, and ABORT. -/
namespace Sys2Proof.Machine

variable {s : State} {v : Word} {code : Nat}

/-- A GO outside a sounding is judged; during one it is refused BUSY. -/
theorem State.sndReqWrite_of_go (go : getBit v 31 = true) (noAbort : getBit v 30 = false) : s.sndReqWrite v =
    if s.sndPhase = 0 then (s.plainWrite Reg.sndReq v).sndGo v else (s.plainWrite Reg.sndReq v).sndRefuse 0x11 := by
  by_cases idle : s.sndPhase = 0 <;> simp [State.sndReqWrite, go, noAbort, idle]

theorem State.sndReqWrite_of_abort (noGo : getBit v 31 = false) (abort : getBit v 30 = true) :
    s.sndReqWrite v = (s.plainWrite Reg.sndReq v).sndAbort := by
  simp [State.sndReqWrite, noGo, abort]

theorem State.sndGo_of_sndCheck_eq_some (refused : s.sndCheck (getBits v 13 0) (getBits v 17 16) = some code) :
    s.sndGo v = s.sndRefuse code := by
  rw [State.sndGo, refused]

/-- The engine's state when a request for creel `n` with algorithm `algo` is accepted. -/
def State.sndAccept (s : State) (n algo : Nat) : State :=
  s.setSnd { s.snd with creel := n, algo := algo, again := false, res := 0 }

/-- An accepted request waits for the engine's gate, or its copy starts. -/
theorem State.sndGo_of_sndCheck_eq_none (accepted : s.sndCheck (getBits v 13 0) (getBits v 17 16) = none) :
    s.sndGo v = if (s.sndAccept (getBits v 13 0) (getBits v 17 16)).blockGated 57
      then (s.sndAccept (getBits v 13 0) (getBits v 17 16)).setPhase 4
      else (s.sndAccept (getBits v 13 0) (getBits v 17 16)).sndStart := by
  rw [State.sndGo, accepted]
  rfl

/-- A copy that is aborted leaves the original in service. -/
theorem State.sndAbort_of_copying (copying : s.sndPhase = 1) :
    s.sndAbort = ((s.setCopying s.snd.creel false).setPhase 0).sndRefuse 0x15 := if_pos copying

/-- A test that is aborted becomes the move back. -/
theorem State.sndAbort_of_testing (testing : s.sndPhase = 2) : s.sndAbort = (s.sndBack 0).sndRefuse 0x15 := by
  simp [State.sndAbort, testing]

/-! The commands SOUNDING_REQUEST and SOUNDING_ABORT. -/

variable {ag : Agent}

theorem execSoundingRequest_of_no_abort (noAbort : getBit v 30 = false) : execSoundingRequest ag v s =
    .next (if s.sndPhase = 0 then (s.plainWrite Reg.sndReq (putBit v 31 true)).sndGo (putBit v 31 true)
      else (s.plainWrite Reg.sndReq (putBit v 31 true)).sndRefuse 0x11) := by
  have go : getBit (putBit v 31 true) 31 = true := Laws.getBit_putBit v 31 true (by decide)
  have noAbort' : getBit (putBit v 31 true) 30 = false := by rw [Laws.getBit_putBit_other v 31 30 true (by decide), noAbort]
  rw [execSoundingRequest, State.sndReqWrite_of_go go noAbort']

theorem execSoundingAbort_eq_sndAbort : execSoundingAbort ag s =
    .next (s.plainWrite Reg.sndReq (putBit (putBit (s.rd Reg.sndReq) 30 true) 31 false)).sndAbort := by
  have noGo : getBit (putBit (putBit (s.rd Reg.sndReq) 30 true) 31 false) 31 = false := Laws.getBit_putBit _ 31 false (by decide)
  have abort : getBit (putBit (putBit (s.rd Reg.sndReq) 30 true) 31 false) 30 = true := by
    rw [Laws.getBit_putBit_other _ 31 30 false (by decide), Laws.getBit_putBit _ 30 true (by decide)]
  rw [execSoundingAbort, State.sndReqWrite_of_abort noGo abort]

end Sys2Proof.Machine
end

section
/-! The phases of a sounding (R437, R443), and a batch of LOADING (R440, R441). -/
namespace Sys2Proof.Machine

variable {s : State} {r : SoundRun}

/-- A run without a failure moves the creel back. -/
theorem execSoundingRunDone_of_pass (testing : s.sndPhase = 2) (noFail : r.rowpairs = 0) (signature : r.sig = r.ref) :
    execSoundingRunDone r s = .next ((s.sndRun r).sndBack (if s.snd.again then 3 else 1)) := by
  simp [execSoundingRunDone, testing, noFail, signature]

/-- One or two row-pairs of a creel that has no repair of a row-pair are repaired, and the test runs again. -/
theorem execSoundingRunDone_of_repairable (testing : s.sndPhase = 2) (few : r.rowpairs = 1 ∨ r.rowpairs = 2)
    (first : s.snd.again = false) (unused : s.rowsUsed s.snd.creel = 0) : execSoundingRunDone r s =
      let u := (s.sndRun r).rowRepairs s.snd.creel r.rowpairs.toNat (some (r.word.toNat / 4))
      .next ((u.setSnd { u.snd with again := true }).setBit Reg.sndStat 3 false) := by
  have noPass : ¬ (r.rowpairs = 0 ∧ r.sig = r.ref) := by rcases few with h | h <;> simp [h]
  have repair : 1 ≤ r.rowpairs.toNat ∧ r.rowpairs.toNat ≤ 2 ∧ (!s.snd.again) = true ∧ s.rowsUsed s.snd.creel = 0 := by
    rcases few with h | h <;> simp [h, first, unused]
  unfold execSoundingRunDone
  rw [if_neg (not_not_intro testing)]
  dsimp only
  rw [if_neg noPass, if_pos repair]

/-- Any other failure leaves the spare in: too many row-pairs, a run after a repair, or a creel that has one already. -/
theorem execSoundingRunDone_of_unrepairable (testing : s.sndPhase = 2) (failed : r.rowpairs ≠ 0)
    (unrepairable : 2 < r.rowpairs.toNat ∨ s.snd.again = true ∨ s.rowsUsed s.snd.creel ≠ 0) : execSoundingRunDone r s =
      .next (((((s.sndRun r).useSpare (s.snd.creel / 30)).setPhase 0).sndResult 2).raise 305) := by
  have noRepair : ¬ (1 ≤ r.rowpairs.toNat ∧ r.rowpairs.toNat ≤ 2 ∧ (!s.snd.again) = true ∧ s.rowsUsed s.snd.creel = 0) := by
    rintro ⟨-, few, first, unused⟩
    rcases unrepairable with many | again | used
    · omega
    · simp [again] at first
    · exact used unused
  unfold execSoundingRunDone
  rw [if_neg (not_not_intro testing)]
  dsimp only
  rw [if_neg fun pass => failed pass.1, if_neg noRepair]

/-- The original serves again; a sounding that was aborted has recorded its result before. -/
theorem execSoundingMoveBackDone_of_moving (moving : s.sndPhase = 3) : execSoundingMoveBackDone s =
    let t := ((s.setSteer s.snd.creel false).setCopying s.snd.creel false).setPhase 0
    .next (if s.snd.res = 0 then t else (t.sndResult s.snd.res).raise (if s.snd.res = 3 then 307 else 304)) :=
  congrArg Host.Outcome.next (if_neg (not_not_intro moving))

theorem execLoadingSoundingBatchDone_of_unsounded {rep : SoundReport} (loading : s.mode = 4) (unsounded : s.boot.unsounded ≠ 0) :
    execLoadingSoundingBatchDone rep s =
      let t := (s.soundBays s.nextBatch rep).2.foldl State.unrepairable (s.soundBays s.nextBatch rep).1
      let u := if t.fld Reg.sndBoot 7 0 = s.fld Reg.sndBoot 7 0 then t else t.journal 0x02 jAltered 0 t.bootSource 0 0
      .next (u.setBoot { u.boot with
        unsounded := s.nextBatch.foldl (fun m b => m &&& (2 ^ 96 - 1 - 2 ^ b)) u.boot.unsounded }).engineResume :=
  congrArg Host.Outcome.next (if_neg (by simp [loading, unsounded]))

end Sys2Proof.Machine
end

section
namespace Sys2Proof.Machine

/-- Settles O42, clause by clause: GO refused, BUSY and accepted, ABORT in the copy and in the test, the end of the
copy, the four ends of a run, the end of the move back, and a batch of LOADING. -/
theorem soundingCommandsComplete : Obligations.SoundingCommandsComplete := by
  refine ⟨?refused, ?busy, ?accepted, ?abortCopy, ?abortTest, ?copyDone, ?pass, ?repair, ?manyRows,
    ?secondFailure, ?movedBack, ?batch⟩
  case refused =>
    rintro ag v s t code rfl noAbort idle check
    rw [exec_soundingRequest, execSoundingRequest_of_no_abort noAbort, if_pos idle,
      State.sndGo_of_sndCheck_eq_some check, State.sndRefuse]
  case busy =>
    rintro ag v s t rfl noAbort busy
    rw [exec_soundingRequest, execSoundingRequest_of_no_abort noAbort, if_neg busy, State.sndRefuse]
  case accepted =>
    rintro ag v s t u rfl noAbort idle check rfl
    rw [exec_soundingRequest, execSoundingRequest_of_no_abort noAbort, if_pos idle,
      State.sndGo_of_sndCheck_eq_none check]
    rfl
  case abortCopy =>
    rintro ag s t rfl copying
    rw [exec_soundingAbort, execSoundingAbort_eq_sndAbort, State.sndAbort_of_copying copying, State.sndRefuse, State.setPhase]
  case abortTest =>
    rintro ag s t rfl testing
    rw [exec_soundingAbort, execSoundingAbort_eq_sndAbort, State.sndAbort_of_testing testing, State.sndRefuse]
  case copyDone =>
    intro s copying
    rw [exec_soundingCopyDone, execSoundingCopyDone]
    exact next_ite_of_guard copying
  case pass =>
    rintro r s t u testing noFail signature rfl rfl
    rw [exec_soundingRunDone, execSoundingRunDone_of_pass testing noFail signature]
    rfl
  case repair =>
    rintro r s t u testing few rfl first unused rfl
    rw [exec_soundingRunDone, execSoundingRunDone_of_repairable testing few first unused]
    rfl
  case manyRows =>
    rintro r s t testing many rfl
    have failed : r.rowpairs ≠ 0 := by rintro h; simp [h] at many
    rw [exec_soundingRunDone, execSoundingRunDone_of_unrepairable testing failed (.inl many), State.setPhase]
  case secondFailure =>
    rintro r s t testing failed rfl unrepairable
    rw [exec_soundingRunDone, execSoundingRunDone_of_unrepairable testing failed (.inr unrepairable), State.setPhase]
  case movedBack =>
    rintro s t moving rfl
    rw [exec_soundingMoveBackDone, execSoundingMoveBackDone_of_moving moving, State.setPhase]
  case batch =>
    rintro rep s t u loading unsounded rfl rfl
    rw [exec_loadingSoundingBatchDone, execLoadingSoundingBatchDone_of_unsounded loading unsounded]
    rfl

end Sys2Proof.Machine
end

section
/-! Repair fuses and STALE records (R102, R445, R446). -/
namespace Sys2Proof.Machine

variable {s : State} {v : Word}

theorem State.fuseGo_of_no_key (noKey : getBits v 31 16 ≠ 0x96C3) : s.fuseGo v = s := if_pos (.inl noKey)

/-- The answer to a burn that the life-cycle state allows: FULL, KIND, SPARE_TAKEN, or the burn of what SND_FUSE holds. -/
def State.fuseStart (s : State) : State :=
  let kind := s.fld Reg.sndFuse 15 14
  let n := s.fld Reg.sndFuse 13 0
  if 256 ≤ s.snd.fuses.length then s.setFld Reg.sndFusestat 3 1 3
  else if 2 ≤ kind ∨ 11520 ≤ n then s.setFld Reg.sndFusestat 3 1 5
  else if kind = 1 ∧ s.spareTaken n then s.setFld Reg.sndFusestat 3 1 4
  else ((s.setFld Reg.sndFusestat 3 1 0).setBit Reg.sndFusestat 0 true).setSnd
    { s.snd with burn := some (kind, n, s.fld Reg.sndFuse 23 16) }

section
variable (key : getBits v 31 16 = 0x96C3) (go : getBit v 0 = true) (idle : s.bit Reg.sndFusestat 0 = false)
include key go idle

/-- With its key, and no burn running, a GO is refused POLICY or answered by `fuseStart`. -/
theorem State.fuseGo_of_key : s.fuseGo v =
    if s.lcState ≠ 2 ∧ s.lcState ≠ 3 ∧ s.lcState ≠ 4 then s.setFld Reg.sndFusestat 3 1 2 else s.fuseStart :=
  if_neg (by simp [key, go, idle])

theorem State.fuseGo_of_allowed (allowed : s.lcState = 2 ∨ s.lcState = 3 ∨ s.lcState = 4) : s.fuseGo v = s.fuseStart := by
  rw [State.fuseGo_of_key key go idle, if_neg (by omega)]

theorem State.fuseGo_of_forbidden (forbidden : s.lcState ≠ 2 ∧ s.lcState ≠ 3 ∧ s.lcState ≠ 4) :
    s.fuseGo v = s.setFld Reg.sndFusestat 3 1 2 := by
  rw [State.fuseGo_of_key key go idle, if_pos forbidden]

end

theorem execFuseBurnDone_of_burning {e : Nat × Nat × Nat} (burning : s.snd.burn = some e) : execFuseBurnDone s =
    let t := (s.setSnd { s.snd with burn := none, fuses := s.snd.fuses ++ [e] }).fuseCount
    .next ((((t.setBit Reg.sndFusestat 0 false).setFld Reg.sndFusestat 3 1 1).fuseEffect e).raise 308) := by
  rw [execFuseBurnDone, burning]

theorem State.staleClrWrite_of_key (key : getBits v 31 16 = 0x5AC3) (creel : getBits v 13 0 < 11520) :
    s.staleClrWrite v = s.staleClear (getBits v 13 0) := if_pos ⟨key, creel⟩

end Sys2Proof.Machine
end

section
/-! Scrub of a creel (R91, R93). -/
namespace Sys2Proof.Machine

variable {s : State} {n : Fin 11520}

/-- What a scrub step leaves in a creel that stands at pair `a` and reads `r` there: the next position, and the
write-back and the pulse that the check asks for. -/
def CreelSt.scrubbed (st : CreelSt) (a : Nat) (r : Nat × Bool × Bool) : CreelSt :=
  let st := { st with scrubPos := (a + 1) % 512 }
  if r.2.1 then { st with scrubWrite := some (a, r.1), scrubPulse := some (false, a) }
  else if r.2.2 then { st with scrubPulse := some (true, a) } else { st with scrubPulse := none }

theorem execCreelScrubStep_of_on {a : Nat} (active : s.activeCreels (n.val / 120) ≠ []) (released : s.initHold (n.val / 120) = false)
    (on : (s.creelCfg n.val).scrubOn = true) (pair : a = (s.creel n.val).scrubPos % 512) : execCreelScrubStep n s =
      .next (s.setCreel n.val ((s.creel n.val).scrubbed a (eccDecode (s.creelPair n.val a)))) := by
  rw [pair]
  exact if_neg (by simp [active, released, on])

theorem execCreelScrubWriteBack_of_pending {a v : Nat} (released : s.initHold (n.val / 120) = false)
    (on : (s.creelCfg n.val).scrubOn = true) (pending : (s.creel n.val).scrubWrite = some (a, v)) :
    execCreelScrubWriteBack n s =
      let t := s.applyWrites n.val (((portBits true 6 a).zip (List.range 72)).map (fun e => (e.1, v.testBit e.2)))
      .next (t.setCreel n.val { t.creel n.val with scrubWrite := none }) := by
  rw [execCreelScrubWriteBack, if_neg (by simp [released, on]), pending]

end Sys2Proof.Machine
end

section
namespace Sys2Proof.Machine

/-- Settles O43, clause by clause: a burn without its key, with it, and out of policy, the burn's end, STALE_CLEAR, and
a scrub's step and write-back. -/
theorem repairAndScrubCommandsComplete : Obligations.RepairAndScrubCommandsComplete := by
  refine ⟨?noKey, ?burn, ?policy, ?burnDone, ?staleClear, ?scrubStep, ?writeBack⟩
  case noKey =>
    intro ag v s noKey
    rw [exec_fuseBurn, execFuseBurn, State.fuseGo_of_no_key noKey]
  case burn =>
    intro ag v s key go idle allowed
    rw [exec_fuseBurn, execFuseBurn, State.fuseGo_of_allowed key go idle allowed]
    rfl
  case policy =>
    intro ag v s key go idle notDev notSealed notReturn
    rw [exec_fuseBurn, execFuseBurn, State.fuseGo_of_forbidden key go idle ⟨notDev, notSealed, notReturn⟩]
  case burnDone =>
    rintro s t u e burning rfl rfl
    rw [exec_fuseBurnDone, execFuseBurnDone_of_burning burning]
    rfl
  case staleClear =>
    intro ag v s key creel
    rw [exec_staleClear, execStaleClear, State.staleClrWrite_of_key key creel]
    rfl
  case scrubStep =>
    -- Not `rintro … rfl`: substituting `r` would evaluate the decoder.
    intro n s st a r active released on ha hst hr
    rw [exec_creelScrubStep, execCreelScrubStep_of_on active released on ha, State.creelPair, CreelSt.scrubbed, hr, hst]
  case writeBack =>
    intro n s t a v released on pending ht
    rw [exec_creelScrubWriteBack, execCreelScrubWriteBack_of_pending released on pending, ht]

end Sys2Proof.Machine
end

section
/-! Synthesizers (R124, R126, R127): the ends of their changes, and holdover. -/
namespace Sys2Proof.Machine

variable {s : State} {n : Fin 32}

theorem execSynthGlideDone_of_glide (gliding : (s.synthPhase n.val).glide = true) : execSynthGlideDone n s =
    .next (((s.setSynthPhase n.val { s.synthPhase n.val with glide := false, reacquire := false }).setBit
      (Reg.fsStat n.val) 1 false).lockRefresh n.val) :=
  next_ite_of_guard gliding

theorem execSynthDividerDone_of_divider (changing : (s.synthPhase n.val).divider = true) :
    execSynthDividerDone n s = .next (s.setSynthPhase n.val { s.synthPhase n.val with divider := false }) :=
  next_ite_of_guard changing

/-- Outside cadence lock the phase error does not matter; in it, 100 ps either way is near enough (R124). -/
theorem State.phaseOk_of_near {n : Nat} (near : (s.synthLive n).refsrc = 4 → (s.phaseErr n).natAbs ≤ 100) :
    s.phaseOk n = true := by
  by_cases cadence : (s.synthLive n).refsrc = 4
  · simp [State.phaseOk, near cadence]
  · simp [State.phaseOk, State.inCadence, cadence]

theorem execSynthLock_of_phaseOk (relocking : (s.synthPhase n.val).relock = true) (ref : (s.synthLive n.val).refsrc ≠ 0)
    (noHoldover : s.bit (Reg.fsStat n.val) 2 = false) (phase : s.phaseOk n.val = true) :
    execSynthLock n s = .next ((s.setSynthPhase n.val {}).setBit (Reg.fsStat n.val) 0 true) :=
  next_ite_of_guard ⟨relocking, ref, by simp [noHoldover], phase⟩

/-- Out of holdover, a loop that is not relocking reacquires by gliding. -/
theorem execSynthHoldoverExit_of_no_relock (holdover : s.bit (Reg.fsStat n.val) 2 = true)
    (noRelock : (s.synthPhase n.val).relock = false) : execSynthHoldoverExit n s =
      .next (((s.setBit (Reg.fsStat n.val) 2 false).setSynthPhase n.val
        { s.synthPhase n.val with glide := true, reacquire := true }).setBit (Reg.fsStat n.val) 1 true) := by
  simp [execSynthHoldoverExit, holdover, noRelock]

/-- A relock outlives the holdover. -/
theorem execSynthHoldoverExit_of_relock (holdover : s.bit (Reg.fsStat n.val) 2 = true)
    (relocking : (s.synthPhase n.val).relock = true) :
    execSynthHoldoverExit n s = .next (s.setBit (Reg.fsStat n.val) 2 false) := by
  simp [execSynthHoldoverExit, holdover, relocking]

end Sys2Proof.Machine
end

section
/-! References lost and restored (R118, R119), by the primary reference: REFIN where CLK_STATUS.REF_ACTIVE (bit 3) is 1,
else XREF.  The TCLK loop runs from it, and follows only its own reference into and out of holdover. -/
namespace Sys2Proof.Machine

variable {s : State}

theorem execXrefLost_of_refin_active (active : s.bit Reg.clkStatus 3 = true) : execXrefLost s =
    .next (({ s.wr Reg.clkStatus (putBit (putBit (s.rd Reg.clkStatus) 9 false) 10 true) with
      clk := { s.clk with hubHold := true } } : State).raise 255) :=
  next_ite_of_guard active

theorem execXrefRestored_of_refin_active (active : s.bit Reg.clkStatus 3 = true) : execXrefRestored s =
    .next { s.setBit Reg.clkStatus 9 true with clk := { s.clk with hubHold := false } } :=
  next_ite_of_guard active

theorem execRefinLost_of_xref_active (active : s.bit Reg.clkStatus 3 = false) : execRefinLost s =
    .next ((List.range 32).foldl (fun t n => if t.usesRefin n then t.synthLose n else t)
      ((s.wr Reg.clkStatus (putBit (putBit (s.rd Reg.clkStatus) 4 false) 6 true)).raise 255)) :=
  congrArg Host.Outcome.next (if_neg (Bool.eq_false_iff.mp active))

theorem execRefinRestored_of_refin_active (active : s.bit Reg.clkStatus 3 = true) :
    execRefinRestored s = .next ((s.setBit Reg.clkStatus 4 true).setBit Reg.cadStat 3 false) :=
  next_ite_of_guard active

end Sys2Proof.Machine
end

section
namespace Sys2Proof.Machine

/-- Settles O12, clause by clause: the hub synthesizer's lock, the ends of a fabric synthesizer's changes, its loss of
lock and its way out of holdover, and the two references. -/
theorem synthesizerCommandsComplete : Obligations.SynthesizerCommandsComplete := by
  refine ⟨?hubLock, ?glideDone, ?dividerDone, ?lock, ?lossOfLock, ?reacquire, ?relockGoesOn, ?xrefLost, ?xrefRestored,
    ?refinLost, ?refinRestored⟩
  case hubLock =>
    intro s
    rw [exec_hubSynthLock, execHubSynthLock, State.hubClockSwitch]
  case glideDone =>
    intro n s gliding
    rw [exec_synthGlideDone, execSynthGlideDone_of_glide gliding]
  case dividerDone =>
    intro n s changing
    rw [exec_synthDividerDone, execSynthDividerDone_of_divider changing]
  case lock =>
    intro n s relocking ref noHoldover near
    rw [exec_synthLock, execSynthLock_of_phaseOk relocking ref noHoldover (State.phaseOk_of_near near)]
  case lossOfLock =>
    intro n s
    rw [exec_synthLossOfLock, execSynthLossOfLock, State.synthLose]
  case reacquire =>
    intro n s holdover noRelock
    rw [exec_synthHoldoverExit, execSynthHoldoverExit_of_no_relock holdover noRelock]
  case relockGoesOn =>
    intro n s holdover relocking
    rw [exec_synthHoldoverExit, execSynthHoldoverExit_of_relock holdover relocking]
  case xrefLost =>
    intro s active
    rw [exec_xrefLost, execXrefLost_of_refin_active active]
  case xrefRestored =>
    intro s active
    rw [exec_xrefRestored, execXrefRestored_of_refin_active active]
  case refinLost =>
    intro s active
    rw [exec_refinLost, execRefinLost_of_xref_active active]
  case refinRestored =>
    intro s active
    rw [exec_refinRestored, execRefinRestored_of_refin_active active]

end Sys2Proof.Machine
end

section
/-! Net selects and glitch-free switches (R131, R132), and CLK_HUB (R120). -/
namespace Sys2Proof.Machine

variable {s : State} {v : Word} {off : Nat} {net : ClockNet}

theorem State.selectWrite_of_legal {legal : Bool} (h : legal = true) : s.selectWrite off legal v = s.plainWrite off v :=
  if_pos h

theorem State.selectWrite_of_illegal {legal : Bool} (h : legal = false) :
    s.selectWrite off legal v = s.setBit Reg.clkErr 0 true :=
  if_neg (Bool.eq_false_iff.mp h)

theorem execGlitchFreeSwitchForced_of_switching (switching : s.switching (netKey net) ≠ 0) :
    execGlitchFreeSwitchForced net s = .next ((s.setSwitching (netKey net) 0).setBit Reg.clkErr 2 true) :=
  congrArg Host.Outcome.next (if_neg switching)

/-- Once the hub synthesizer is locked, any agent may move the hub clocks to it. -/
theorem State.hubWrite_of_src_of_hubLock {ag : Agent} (src : getBit v 16 = true) (locked : s.bit Reg.clkStatus 7 = true) :
    s.hubWrite ag v = s.wr Reg.clkHub (putBit (applyWrite 0x03F3F 0 0 (s.rd Reg.clkHub) v) 16 true) := by
  simp [State.hubWrite, src, locked]

end Sys2Proof.Machine
end

section
/-! Clock gates of hard blocks (R138, R139). -/
namespace Sys2Proof.Machine

variable {s : State} {i : Nat} {blk : Fin 64}

/-- The hard blocks are 0 to 57; an agent may ask for the gate of each but those it reaches the device through. -/
theorem State.gateRequest_of_block {ag : Agent} (block : i < 58) (other : s.selfGate ag i = false) :
    s.gateRequest ag i = s.setBit (hgreq (i / 32)) (i % 32) true := by
  simp [State.gateRequest, block, other]

/-- The keeper reaches the device through no hard block. -/
@[simp] theorem State.selfGate_keeper (s : State) (i : Nat) : s.selfGate .keeper i = false := rfl

theorem State.gateOpens_of_block {t : State} (block : i < 58)
    (ht : t = (s.setBit (hgreq (i / 32)) (i % 32) false).setBit (Reg.clkHgstat (i / 32)) (i % 32) false) :
    s.gateOpens i = if i = 57 ∧ s.sndPhase = 4 then t.sndStart
      else if 2 ≤ i ∧ i < 14 then t.wpDue ((i - 2) / 2)
      else if 48 ≤ i ∧ i < 54 then t.wpDue (i - 48) else t := by
  rw [ht]
  exact if_neg (Nat.not_le_of_lt block)

theorem execHardBlockGateRequest_of_unasked {ag : Agent} (unasked : s.bit (hgreq (blk.val / 32)) (blk.val % 32) = false) :
    execHardBlockGateRequest ag blk s = .next (s.gateRequest ag blk.val) :=
  congrArg Host.Outcome.next (if_neg (Bool.eq_false_iff.mp unasked))

theorem execHardBlockGateApply_of_idle (waits : s.gateWaits blk.val = true) (idle : s.blockIdle blk.val = true) :
    execHardBlockGateApply blk s = .next (s.gateApply blk.val) :=
  next_ite_of_guard ⟨waits, idle⟩

theorem execHardBlockGateRefused_of_busy (waits : s.gateWaits blk.val = true) (busy : s.blockIdle blk.val = false) :
    execHardBlockGateRefused blk s = .next (s.gateRefuse blk.val) := by
  simp [execHardBlockGateRefused, waits, busy]

theorem execHardBlockGateOpen_of_asked {ag : Agent} (asked : s.bit (hgreq (blk.val / 32)) (blk.val % 32) = true) :
    execHardBlockGateOpen ag blk s = .next (s.gateOpens blk.val) :=
  next_ite_of_guard asked

end Sys2Proof.Machine
end

section
/-! Frequency monitors (R140, R141). -/
namespace Sys2Proof.Machine

variable {s : State} {v count : Word} {m : Nat}

/-- A write that keeps the source keeps the running count. -/
theorem State.fmWrite_of_same_source (legal : fmLegal (getBits v 9 0) = true)
    (same : getBits v 9 0 = s.fld (Reg.fmCfg m) 9 0) :
    s.fmWrite m v = (s.plainWrite (Reg.fmCfg m) v).setBit (Reg.fmCfg m) 17 false :=
  (if_pos legal).trans (if_pos same)

/-- A change of source starts the running count at 0. -/
theorem State.fmWrite_of_new_source (legal : fmLegal (getBits v 9 0) = true)
    (new : getBits v 9 0 ≠ s.fld (Reg.fmCfg m) 9 0) :
    s.fmWrite m v = ((s.plainWrite (Reg.fmCfg m) v).setBit (Reg.fmCfg m) 17 false).setFmRun m 0 :=
  (if_pos legal).trans (if_neg new)

/-- A count from FMm_MIN to FMm_MAX leaves OOR at 0 and raises nothing. -/
theorem execFmWindowEnd_of_in_range {m : Fin 16} (runs : s.fld (Reg.fmCfg m.val) 9 0 ≠ 0)
    (notBelow : ¬ count < s.rd (Reg.fmMin m.val)) (notAbove : ¬ s.rd (Reg.fmMax m.val) < count)
    (inRange : s.bit (Reg.fmCfg m.val) 18 = false) : execFmWindowEnd m count s =
      .next (((s.wr (Reg.fmCount m.val) count).wr (Reg.fmCfg m.val)
        (putBit (putBit (s.rd (Reg.fmCfg m.val)) 17 true) 18 false)).setFmRun m.val
          (Store.get (fun _ => 0) s.clk.fmBase m.val + count.toNat)) := by
  have noOor : (decide (count < s.rd (Reg.fmMin m.val)) || decide (s.rd (Reg.fmMax m.val) < count)) = false := by
    simp only [notBelow, notAbove, decide_false, Bool.or_self]
  simp only [execFmWindowEnd, if_neg runs, noOor, inRange, Bool.or_self, Bool.false_and, State.raiseIf,
    Bool.false_eq_true, if_false]

end Sys2Proof.Machine
end

section
namespace Sys2Proof.Machine

/-- Settles O13, clause by clause: the selects, the switches, the four steps of a gate, CLK_HUB and the monitors. -/
theorem clockNetCommandsComplete : Obligations.ClockNetCommandsComplete := by
  refine ⟨?rimLegal, ?rimIllegal, ?lineLegal, ?switchDone, ?switchForced, ?gateRequest, ?gateApply, ?gateRefused,
    ?gateOpen, ?hub, ?sameSource, ?newSource, ?window⟩
  case rimLegal =>
    intro ag k j v s legal
    rw [exec_rimSelectWrite, execRimSelectWrite, State.selectWrite_of_legal legal]
  case rimIllegal =>
    intro ag k j v s illegal
    rw [exec_rimSelectWrite, execRimSelectWrite, State.selectWrite_of_illegal illegal]
  case lineLegal =>
    intro ag w j v s legal
    rw [exec_rimSelectWrite, execRimSelectWrite, State.selectWrite_of_legal legal]
  case switchDone =>
    intro net s
    rw [exec_glitchFreeSwitchDone, execGlitchFreeSwitchDone]
  case switchForced =>
    intro net s switching
    rw [exec_glitchFreeSwitchForced, execGlitchFreeSwitchForced_of_switching switching]
  case gateRequest =>
    intro blk s block unasked
    rw [exec_hardBlockGateRequest, execHardBlockGateRequest_of_unasked unasked,
      State.gateRequest_of_block block (s.selfGate_keeper blk.val)]
  case gateApply =>
    intro blk s waits idle
    rw [exec_hardBlockGateApply, execHardBlockGateApply_of_idle waits idle, State.gateApply]
  case gateRefused =>
    intro blk s waits busy
    rw [exec_hardBlockGateRefused, execHardBlockGateRefused_of_busy waits busy, State.gateRefuse]
  case gateOpen =>
    intro ag blk s t asked block ht
    rw [exec_hardBlockGateOpen, execHardBlockGateOpen_of_asked asked, State.gateOpens_of_block block ht]
  case hub =>
    intro v s src locked
    rw [exec_clkHubWrite, execClkHubWrite, State.hubWrite_of_src_of_hubLock src locked]
  case sameSource =>
    intro ag m v s legal same
    rw [exec_fmSourceWrite, execFmSourceWrite, State.fmWrite_of_same_source legal same]
  case newSource =>
    intro ag m v s legal new
    rw [exec_fmSourceWrite, execFmSourceWrite, State.fmWrite_of_new_source legal new]
  case window =>
    intro m count s runs notBelow notAbove inRange
    rw [exec_fmWindowEnd, execFmWindowEnd_of_in_range runs notBelow notAbove inRange]

end Sys2Proof.Machine
end

section
/-! A write of WP_CTL (R334, R342, R361): training starts in the modes in which a port may train, unless a clock gate
makes it wait (R139). -/
namespace Sys2Proof.Machine

variable {s t u : State} {p : Nat} {v : Word}

theorem State.wpStart_of_open (opened : s.wpGated p = false) : s.wpStart p = s.wpTrain p :=
  if_neg (Bool.eq_false_iff.mp opened)

theorem State.wpStart_of_gated (gated : s.wpGated p = true) :
    s.wpStart p = s.setWp p { s.wp p with trainDue := true } :=
  if_pos gated

/-- What a write of WP_CTL that asks for training comes to: no link changes outside the modes of R361. -/
def State.wpAsk (s : State) (p : Nat) : State := if s.waleModes then s.wpStart p else s

/-- The three outcomes of asking for training. -/
theorem State.next_wpAsk (s : State) (p : Nat) :
    (s.waleModes = true → s.wpGated p = false →
      (Host.Outcome.next (s.wpAsk p) : Host.Outcome State Fault Refusal) = .next (s.wpTrain p)) ∧
    (s.waleModes = true → s.wpGated p = true →
      (Host.Outcome.next (s.wpAsk p) : Host.Outcome State Fault Refusal) = .next (s.setWp p { s.wp p with trainDue := true })) ∧
    (s.waleModes = false → (Host.Outcome.next (s.wpAsk p) : Host.Outcome State Fault Refusal) = .next s) := by
  unfold State.wpAsk
  refine ⟨fun mode opened => ?_, fun mode gated => ?_, fun mode => ?_⟩
  · rw [if_pos mode, State.wpStart_of_open opened]
  · rw [if_pos mode, State.wpStart_of_gated gated]
  · rw [if_neg (Bool.eq_false_iff.mp mode)]

/-- EN set: the port takes the WIDTH written. -/
theorem State.wpCtlWrite_of_enable (rate : getBits v 5 3 < 6) (off : s.bit (Reg.wpCtl p) 0 = false)
    (en : getBit v 0 = true) (ht : t = s.plainWrite (Reg.wpCtl p) v)
    (hu : u = t.setWp p { t.wp p with width := getBits v 2 1 }) : s.wpCtlWrite p v = u.wpAsk p := by
  subst ht hu
  simp [State.wpCtlWrite, State.wpAsk, rate, off, en]

/-- RETRAIN with EN kept at 1. -/
theorem State.wpCtlWrite_of_retrain (rate : getBits v 5 3 < 6) (on : s.bit (Reg.wpCtl p) 0 = true)
    (en : getBit v 0 = true) (retrain : getBit v 8 = true) :
    s.wpCtlWrite p v = ((s.plainWrite (Reg.wpCtl p) v).linkDown p 4).wpAsk p := by
  simp [State.wpCtlWrite, State.wpAsk, rate, on, en, retrain]

/-- EN cleared. -/
theorem State.wpCtlWrite_of_disable (rate : getBits v 5 3 < 6) (on : s.bit (Reg.wpCtl p) 0 = true)
    (en : getBit v 0 = false) : s.wpCtlWrite p v =
      (((((s.plainWrite (Reg.wpCtl p) v).linkDown p 4).wpClear p).quadRefresh (2 * p + 2)).quadRefresh (2 * p + 3)) := by
  simp [State.wpCtlWrite, rate, on, en]

/-- A port that is DOWN, with EN and AUTO, trains again. -/
theorem execWaleAutoRetrain_of_auto {p : Fin 6} (down : s.wpState p.val = 0) (on : s.bit (Reg.wpCtl p.val) 0 = true)
    (auto : s.bit (Reg.wpCtl p.val) 6 = true) (mode : s.waleModes = true) :
    execWaleAutoRetrain p s = .next (s.wpStart p.val) :=
  next_ite_of_guard ⟨down, on, auto, mode⟩

end Sys2Proof.Machine
end

section
/-! The commands of WP_CTL write back the register with one bit changed: RATE, WIDTH and EN are otherwise what it held. -/
namespace Sys2Proof.Machine

variable {s t u : State} {ag : Agent} {p : Fin 6}

theorem execWpEnable_of_off (off : s.bit (Reg.wpCtl p.val) 0 = false) (rate : s.fld (Reg.wpCtl p.val) 5 3 < 6)
    (ht : t = s.plainWrite (Reg.wpCtl p.val) (putBit (s.rd (Reg.wpCtl p.val)) 0 true))
    (hu : u = t.setWp p.val { t.wp p.val with width := s.fld (Reg.wpCtl p.val) 2 1 }) :
    execWpEnable ag p s = .next (u.wpAsk p.val) := by
  have rateKept := Laws.getBits_putBit_other (s.rd (Reg.wpCtl p.val)) 0 5 3 true (by decide) (by decide)
  have widthKept := Laws.getBits_putBit_other (s.rd (Reg.wpCtl p.val)) 0 2 1 true (by decide) (by decide)
  have widthTaken : u = t.setWp p.val { t.wp p.val with width := getBits (putBit (s.rd (Reg.wpCtl p.val)) 0 true) 2 1 } := by
    rw [hu, widthKept, State.fld]
  rw [execWpEnable,
    State.wpCtlWrite_of_enable (rateKept ▸ rate) off (Laws.getBit_putBit _ 0 true (by decide)) ht widthTaken]

theorem execWpDisable_of_on (on : s.bit (Reg.wpCtl p.val) 0 = true) (rate : s.fld (Reg.wpCtl p.val) 5 3 < 6)
    (ht : t = s.plainWrite (Reg.wpCtl p.val) (putBit (s.rd (Reg.wpCtl p.val)) 0 false)) : execWpDisable ag p s =
      .next ((((t.linkDown p.val 4).wpClear p.val).quadRefresh (2 * p.val + 2)).quadRefresh (2 * p.val + 3)) := by
  have rateKept := Laws.getBits_putBit_other (s.rd (Reg.wpCtl p.val)) 0 5 3 false (by decide) (by decide)
  rw [execWpDisable, State.wpCtlWrite_of_disable (rateKept ▸ rate) on (Laws.getBit_putBit _ 0 false (by decide)), ht]

theorem execWpRetrain_of_on (on : s.bit (Reg.wpCtl p.val) 0 = true) (rate : s.fld (Reg.wpCtl p.val) 5 3 < 6)
    (ht : t = (s.plainWrite (Reg.wpCtl p.val) (putBit (s.rd (Reg.wpCtl p.val)) 8 true)).linkDown p.val 4) :
    execWpRetrain ag p s = .next (t.wpAsk p.val) := by
  have rateKept := Laws.getBits_putBit_other (s.rd (Reg.wpCtl p.val)) 8 5 3 true (by decide) (by decide)
  have enKept := Laws.getBit_putBit_other (s.rd (Reg.wpCtl p.val)) 8 0 true (by decide)
  rw [execWpRetrain, State.wpCtlWrite_of_retrain (rateKept ▸ rate) on (enKept.trans on)
    (Laws.getBit_putBit _ 8 true (by decide)), ht]

end Sys2Proof.Machine
end

section
namespace Sys2Proof.Machine

/-- Settles O27: each command of a port comes to one `State.wpAsk`, whose three outcomes are training, a wait for the
gate, and no change. -/
theorem walePortCommandsComplete : Obligations.WalePortCommandsComplete := by
  refine ⟨?enable, ?disable, ?retrain, ?auto⟩
  case enable =>
    intro ag p s t u off rate ht hu
    rw [exec_wpEnable, execWpEnable_of_off off rate ht hu]
    exact u.next_wpAsk p.val
  case disable =>
    intro ag p s t on rate ht
    rw [exec_wpDisable, execWpDisable_of_on on rate ht]
  case retrain =>
    intro ag p s t on rate ht
    rw [exec_wpRetrain, execWpRetrain_of_on on rate ht]
    exact t.next_wpAsk p.val
  case auto =>
    intro p s down on auto mode
    rw [exec_waleAutoRetrain, execWaleAutoRetrain_of_auto down on auto mode]
    exact ⟨fun opened => by rw [State.wpStart_of_open opened], fun gated => by rw [State.wpStart_of_gated gated]⟩

end Sys2Proof.Machine
end

section
/-! Adjustments of the timebase (R145, R147): GO takes the offset unless Wale holds the time or its two words carry
opposite signs. -/
namespace Sys2Proof.Machine

variable {s : State} {v : Word}

theorem State.adjWrite_of_go_step (free : s.waleTime = false) (go : getBit v 0 = true) (step : getBit v 1 = false) :
    s.adjWrite v = (s.plainWrite Reg.cadAdjCtl v).adjStep := by
  simp [State.adjWrite, free, go, step]

theorem State.adjWrite_of_go_slew (free : s.waleTime = false) (go : getBit v 0 = true) (slew : getBit v 1 = true) :
    s.adjWrite v = (s.plainWrite Reg.cadAdjCtl v).adjSlew := by
  simp [State.adjWrite, free, go, slew]

theorem State.adjStep_of_not_opposed (agree : s.adjOpposed = false) :
    s.adjStep = (s.tbStep (s.adjOffset * tbUnit)).adjDone :=
  if_neg (Bool.eq_false_iff.mp agree)

/-- A slew of less than 1 s, and not of 0, is started and left to the TCLK edges. -/
theorem State.adjSlew_of_below_second (agree : s.adjOpposed = false) (below : s.adjOffset.natAbs < giga)
    (nonzero : s.adjOffset ≠ 0) :
    s.adjSlew = { s with cad := { s.cad with slew := s.adjOffset * tbUnit } }.setBit Reg.cadStat 1 true := by
  have accepted : ¬ (s.adjOpposed = true ∨ giga ≤ s.adjOffset.natAbs) :=
    not_or.mpr ⟨Bool.eq_false_iff.mp agree, Nat.not_le_of_lt below⟩
  exact (if_neg accepted).trans (if_neg nonzero)

theorem execSlewDone_of_slewing (slewing : s.bit Reg.cadStat 1 = true) : execSlewDone s =
    .next ((({ s with cad := { s.cad with tb := (((s.cad.tb : Int) + s.cad.slew) % (tbWrap : Int)).toNat, slew := 0 } }
      : State).setBit Reg.cadStat 1 false).adjDone) :=
  next_ite_of_guard slewing

end Sys2Proof.Machine
end

section
/-! Captures and PPS (R149, R150). -/
namespace Sys2Proof.Machine

variable {s : State} {x : Fin 3} {f n l h : Word}

/-- An enabled capture at its edge: the four words of the timebase are stored, and OVR is set where NEW still stands. -/
theorem execSyncCapture_of_enabled {e : Bool} (enabled : getBit (s.rd Reg.cadCapCtl) x.val = true)
    (edge : getBit (s.rd Reg.cadCapCtl) (3 + x.val) = e) (words : timeWords (captureTb s.cad.tb) = [f, n, l, h]) :
    execSyncCapture x e s =
      .next ((((((s.wr (Reg.cadCapFrac x.val) f).wr (Reg.cadCapNs x.val) n).wr (Reg.cadCapSeclo x.val) l).wr
        (Reg.cadCapSechi x.val) h).wr Reg.cadCapCtl
          (putBit (if getBit (s.rd Reg.cadCapCtl) (6 + x.val) then putBit (s.rd Reg.cadCapCtl) (9 + x.val) true
            else s.rd Reg.cadCapCtl) (6 + x.val) true)).raise (264 + x.val)) := by
  have taken : (getBit (s.rd Reg.cadCapCtl) x.val && (getBit (s.rd Reg.cadCapCtl) (3 + x.val) == e)) = true := by
    rw [enabled, edge, beq_self_eq_true, Bool.and_self]
  simp only [execSyncCapture, if_pos taken, words]

theorem State.captureRead_eq (s : State) (x : Nat) : s.captureRead x = (s.rd (Reg.cadCapFrac x),
    (((s.setSnap (Reg.cadCapNs x) (s.rd (Reg.cadCapNs x))).setSnap (Reg.cadCapSeclo x) (s.rd (Reg.cadCapSeclo x))).setSnap
      (Reg.cadCapSechi x) (s.rd (Reg.cadCapSechi x))).setBit Reg.cadCapCtl (6 + x) false) := rfl

theorem execPpsInLost_of_enabled (enabled : s.bit Reg.cadCapCtl 2 = true) :
    execPpsInLost s = .next ((s.setBit Reg.cadCapCtl 12 true).raise 267) :=
  next_ite_of_guard enabled

/-- In MODE 2 the output follows the source that PPS_CFG names, where that code is one that fires. -/
theorem State.ppsFrom_of_mode_two (mode : s.fld Reg.cadPpsCfg 1 0 = 2) (fires : s.fld Reg.cadPpsCfg 7 2 < 56) :
    s.ppsFrom (s.fld Reg.cadPpsCfg 7 2) = true := by
  simp [State.ppsFrom, mode, fires]

theorem execPpsOutPulse_of_low (low : s.cad.pps = false)
    (given : s.fld Reg.cadPpsCfg 1 0 = 1 ∨ s.ppsFrom (s.fld Reg.cadPpsCfg 7 2) = true) :
    execPpsOutPulse s = .next s.ppsInstant :=
  next_ite_of_guard ⟨by rw [low, Bool.not_false], given⟩

/-- The end of the only WIDTH begun. -/
theorem execPpsOutPulseEnd_of_last (last : s.cad.ppsPulses ≤ 1) :
    execPpsOutPulseEnd s = .next { s with cad := { s.cad with pps := false, ppsPulses := 0 } } := by
  rw [execPpsOutPulseEnd, decide_eq_false (Nat.not_lt_of_le last), Nat.sub_eq_zero_of_le last]

/-- The end of a WIDTH with a later one begun. -/
theorem execPpsOutPulseEnd_of_later (later : 1 < s.cad.ppsPulses) :
    execPpsOutPulseEnd s = .next { s with cad := { s.cad with pps := true, ppsPulses := s.cad.ppsPulses - 1 } } := by
  rw [execPpsOutPulseEnd, decide_eq_true later]

end Sys2Proof.Machine
end

section
/-! Reads of wide values (R7): the lower word takes a snapshot of the upper ones, which later reads return. -/
namespace Sys2Proof.Machine

variable {s t : State} {off : Nat}

theorem State.snapRead_of_lower (ht : t = s.wideTick off) (lower : isSnapUpper off = false) :
    s.snapRead off = (t.wideNow off, (snapUppers off).foldl (fun u o => u.setSnap o (t.wideNow o)) t) := by
  subst ht
  exact if_neg (Bool.eq_false_iff.mp lower)

theorem State.snapRead_of_upper (ht : t = s.wideTick off) (upper : isSnapUpper off = true) :
    s.snapRead off = (Store.get (fun _ => 0#32) t.snap off, t) := by
  subst ht
  exact if_pos upper

end Sys2Proof.Machine
end

section
namespace Sys2Proof.Machine

/-- Settles O14, clause by clause: adjustments, captures, PPS in and out, and the reads of wide values. -/
theorem cadenceCommandsComplete : Obligations.CadenceCommandsComplete := by
  refine ⟨?step, ?slew, ?slewDone, ?capture, ?overrun, ?captureRead, ?ppsLost, ?pulse, ?lastEnd, ?earlierEnd, ?lower,
    ?upper⟩
  case step =>
    intro ag s free agree
    rw [exec_adjStep, execAdjStep, State.adjWrite_of_go_step free (by decide) (by decide),
      State.adjStep_of_not_opposed agree]
  case slew =>
    intro ag s t ht free agree below nonzero
    rw [exec_adjSlew, execAdjSlew, State.adjWrite_of_go_slew free (by decide) (by decide), ← ht,
      State.adjSlew_of_below_second agree below nonzero]
  case slewDone =>
    intro s slewing
    rw [exec_slewDone, execSlewDone_of_slewing slewing]
  case capture =>
    intro x e s f n l h enabled edge seen words
    rw [exec_syncCapture, execSyncCapture_of_enabled enabled edge words, if_neg (Bool.eq_false_iff.mp seen)]
  case overrun =>
    intro x e s f n l h enabled edge unread words
    rw [exec_syncCapture, execSyncCapture_of_enabled enabled edge words, if_pos unread]
  case captureRead =>
    intro ag x s
    rw [exec_captureRead, execCaptureRead, State.captureRead_eq]
  case ppsLost =>
    intro s enabled
    rw [exec_ppsInLost, execPpsInLost_of_enabled enabled]
  case pulse =>
    intro s low mode
    have given := mode.imp_right fun ⟨two, fires⟩ => State.ppsFrom_of_mode_two two fires
    rw [exec_ppsOutPulse, execPpsOutPulse_of_low low given, State.ppsInstant]
  case lastEnd =>
    intro s last
    rw [exec_ppsOutPulseEnd, execPpsOutPulseEnd_of_last last]
  case earlierEnd =>
    intro s later
    rw [exec_ppsOutPulseEnd, execPpsOutPulseEnd_of_later later]
  case lower =>
    intro ag off s t ht lower
    rw [exec_snapshotRead, execSnapshotRead, State.snapRead_of_lower ht lower]
  case upper =>
    intro ag off s t ht upper
    rw [exec_snapshotRead, execSnapshotRead, State.snapRead_of_upper ht upper]

end Sys2Proof.Machine
end

section
/-! A fire of a manual boundary (R155, R156) and its three answers. -/
namespace Sys2Proof.Machine

variable {s t : State} {i : Nat} {v : Word}

/-- A FIRE that sends nothing over Wale: a local one, or a SYSTEM one that is refused. -/
theorem State.mbWrite_of_unsent (ht : t = s.plainWrite (Reg.cadMbCtl i) v) (fire : getBit v 0 = true)
    (unsent : ¬ (getBit v 2 = true ∧ t.mbAnswer i (t.mbInstant i) = .posted)) :
    s.mbWrite i v = t.mbPost i (t.mbInstant i) := by
  subst ht
  have fired : ¬ (!getBit v 0) = true := by rw [fire]; decide
  exact (if_neg fired).trans (if_neg unsent)

variable {x : Instant}

theorem State.mbPost_of_posted (posted : t.mbAnswer i x = .posted) (idle : t.mb i = none) :
    t.mbPost i x = t.setMb i (some x) := by
  simp [State.mbPost, posted, State.mbTake, idle]

theorem State.mbPost_of_late (late : t.mbAnswer i x = .late) : t.mbPost i x = t.cadErr 2 := by
  rw [State.mbPost, late, State.mbTake]

theorem State.mbPost_of_busy (busy : t.mbAnswer i x = .busy) : t.mbPost i x = t.cadErr 3 := by
  rw [State.mbPost, busy, State.mbTake]

end Sys2Proof.Machine
end

section
/-! The latch point and the delivery of a boundary source (R158, R160). -/
namespace Sys2Proof.Machine

variable {s : State} {src : Fin 64}

theorem execBoundaryLatch_of_unannounced {x : Instant} (next : s.sourceNext src.val = some x)
    (fresh : s.announcedAt src.val x = false) : execBoundaryLatch src s = .next (s.latch src.val x) := by
  simp [execBoundaryLatch, next, fresh]

theorem execBoundaryDelivery_of_announced {a : Announced}
    (found : s.cad.announced.find? (fun b => b.src == src.val) = some a) (parent : s.tapWaits src.val = false) :
    execBoundaryDelivery src s = .next (s.delivery a) := by
  simp [execBoundaryDelivery, found, parent]

end Sys2Proof.Machine
end

section
namespace Sys2Proof.Machine

/-- Settles O15: the three answers to a fire, of which only an accepted local one pends its instant, then the latch point
and the delivery. -/
theorem boundaryCommandsComplete : Obligations.BoundaryCommandsComplete := by
  refine ⟨?posted, ?late, ?busy, ?latch, ?delivery⟩
  case posted =>
    intro ag i ctl s t ht fire own posted idle
    have unsent : ¬ (getBit (putBit ctl 0 true) 2 = true ∧ t.mbAnswer i.val (t.mbInstant i.val) = .posted) :=
      fun ⟨system, _⟩ => absurd system (Bool.eq_false_iff.mp own)
    rw [exec_mbFire, execMbFire, State.mbWrite_of_unsent ht fire unsent, State.mbPost_of_posted posted idle]
  case late =>
    intro ag i ctl s t ht fire late
    rw [exec_mbFire, execMbFire, State.mbWrite_of_unsent ht fire (by simp [late]), State.mbPost_of_late late]
  case busy =>
    intro ag i ctl s t ht fire busy
    rw [exec_mbFire, execMbFire, State.mbWrite_of_unsent ht fire (by simp [busy]), State.mbPost_of_busy busy]
  case latch =>
    intro src s x next fresh
    rw [exec_boundaryLatch, execBoundaryLatch_of_unannounced next fresh]
  case delivery =>
    intro src s a found parent
    rw [exec_boundaryDelivery, execBoundaryDelivery_of_announced found parent]

end Sys2Proof.Machine
end

section
/-! The fields of a packet header (R168), read back from a header put together from them, and the headers that carry no
error of their own (R170, R183, R196). -/
namespace Sys2Proof.Machine

variable {op reg n src : Nat} {dyn : Bool}

/-- The header with the fields OP, REG, DYN and COUNT, of which `writeHdr`, `opHdr` and `readHdr` are the three forms. -/
def packetHdr (op reg n : Nat) (dyn : Bool) : Word :=
  BitVec.ofNat 32 (op * 2 ^ 28 + reg * 2 ^ 23 + dyn.toNat * 2 ^ 22 + n % 2 ^ 20)

theorem writeHdr_eq_packetHdr : writeHdr reg n dyn = packetHdr 1 reg n dyn := by
  rw [writeHdr, packetHdr, Nat.one_mul]

theorem opHdr_eq_packetHdr : opHdr op n dyn = packetHdr op 0 n dyn := by
  rw [opHdr, packetHdr, Nat.zero_mul, Nat.add_zero]

theorem readHdr_eq_packetHdr : readHdr reg n = packetHdr 2 reg n false := by
  rw [readHdr, packetHdr, Bool.toNat_false, Nat.zero_mul, Nat.add_zero]

@[simp] theorem hdrOp_packetHdr (opBound : op < 16) (regBound : reg < 32) : hdrOp (packetHdr op reg n dyn) = op := by
  have := dyn.toNat_le
  simp only [hdrOp, getBits, packetHdr, BitVec.toNat_ofNat]
  omega

@[simp] theorem hdrReg_packetHdr (regBound : reg < 32) : hdrReg (packetHdr op reg n dyn) = reg := by
  have := dyn.toNat_le
  simp only [hdrReg, getBits, packetHdr, BitVec.toNat_ofNat]
  omega

@[simp] theorem hdrCount_packetHdr (count : n < 2 ^ 20) : hdrCount (packetHdr op reg n dyn) = n := by
  have := dyn.toNat_le
  simp only [hdrCount, getBits, packetHdr, BitVec.toNat_ofNat]
  omega

@[simp] theorem hdrDyn_packetHdr : hdrDyn (packetHdr op reg n dyn) = dyn := by
  rw [hdrDyn, getBit, packetHdr, BitVec.getLsbD_ofNat, Nat.testBit_eq_decide_div_mod_eq]
  cases dyn <;> simp <;> omega

/-- The bits between DYN and COUNT are 0. -/
@[simp] theorem spare_packetHdr : getBits (packetHdr op reg n dyn) 21 20 = 0 := by
  have := dyn.toNat_le
  simp only [getBits, packetHdr, BitVec.toNat_ofNat]
  omega

theorem hdrOp_writeHdr (regBound : reg < 32) : hdrOp (writeHdr reg n dyn) = 1 := by
  rw [writeHdr_eq_packetHdr, hdrOp_packetHdr (by decide) regBound]

theorem hdrReg_writeHdr (regBound : reg < 32) : hdrReg (writeHdr reg n dyn) = reg := by
  rw [writeHdr_eq_packetHdr, hdrReg_packetHdr regBound]

theorem hdrCount_writeHdr (count : n < 2 ^ 20) : hdrCount (writeHdr reg n dyn) = n := by
  rw [writeHdr_eq_packetHdr, hdrCount_packetHdr count]

/-- A WRITE of a writable register is in order, where its COUNT is, and DYN stands only on FRAMES. -/
theorem headerErr_writeHdr (writes : 1 ≤ reg ∧ reg ≤ 15) (dynamic : dyn = true → reg = 13) (bound : n < 2 ^ 20)
    (count : countOk 1 reg n = true) : headerErr src (writeHdr reg n dyn) = none := by
  have regBound : reg < 32 := by omega
  have frames : ¬ (dyn = true ∧ frameWriting 1 reg = false) := fun ⟨d, notFrames⟩ => by
    simp [frameWriting, dynamic d] at notFrames
  simp [writeHdr_eq_packetHdr, headerErr, regBound, hdrCount_packetHdr bound, count, writable, writes, frames]

/-- ZERO, REPEAT and PATCH are in order with any COUNT but 0. -/
theorem headerErr_opHdr_frames (frames : op = 3 ∨ op = 4 ∨ op = 5) (bound : n < 2 ^ 20) (nonzero : n ≠ 0) :
    headerErr src (opHdr op n dyn) = none := by
  rcases frames with rfl | rfl | rfl <;>
    simp [opHdr_eq_packetHdr, headerErr, hdrCount_packetHdr bound, countOk, frameWriting, nonzero]

/-- A READ of PLACE, FRAMES or STAT is in order from the sources with a return path. -/
theorem headerErr_readHdr (path : src = 2 ∨ src = 3 ∨ src = 5) (reads : reg = 12 ∨ reg = 13 ∨ reg = 16) (bound : n < 2 ^ 20)
    (count : countOk 2 reg n = true) : headerErr src (readHdr reg n) = none := by
  have regBound : reg < 32 := by omega
  have source : ¬ (src ≠ 2 ∧ src ≠ 3 ∧ src ≠ 5) := by omega
  have register : ¬ (reg ≠ 12 ∧ reg ≠ 13 ∧ reg ≠ 16) := by omega
  simp [readHdr_eq_packetHdr, headerErr, regBound, hdrCount_packetHdr bound, count, source, register]

end Sys2Proof.Machine
end

section
/-! What the open source hands over acts as one packet (R169, R170, R198): it takes effect and enters the stream's record,
or its error ends the stream. -/
namespace Sys2Proof.Machine

variable {s t u : State} {src : Nat} {h : Word} {d : List Word} {e : StreamErr}

/-- A source that holds the packet next gives up its words to the engine, which reads them. -/
theorem State.HandsOver.deliver_packet (hand : s.HandsOver t src h d) :
    s.deliver (.packet h d) = (t.streamPacket src h d).spentEnd src := by
  have offer : s.offers src (.packet h d) = some (1 + d.length) := by
    simp [State.offers, hand.offered, EngItem.words, Nat.add_comm]
  have taken : s.engineTake src (.packet h d) = t.enginePacket src h d := by
    simp [State.engineTake, offer, hand.taken, State.wordsTaken]
  have read : t.enginePacket src h d = t.streamPacket src h d := by
    simp [State.enginePacket, hand.packets, hand.whole, hand.single]
  simp [State.deliver, hand.source, hand.clocks, hand.ready, taken, read]

/-- The CRC-32 of a stream's words through the header of a CRCV write, 0 at any other header (R193). -/
def State.crcThrough (t : State) (h : Word) : Nat :=
  if hdrOp h = 1 ∧ hdrReg h = 15 then crc32 (streamBytes (h :: t.st.seen).reverse) else 0

/-- A packet in a body that ends past BODYLEN is refused (R189). -/
theorem State.HandsOver.not_overrun (hand : s.HandsOver t src h d) :
    ¬ (t.st.inBody = true ∧ t.st.bodylen < t.st.body.length + 1 + d.length) := by
  rintro ⟨inBody, overrun⟩
  have := hand.room inBody
  omega

/-- `u` is the block after a packet's own effect, from `t`: the packet's words enter the stream's record, unless the packet
ended the stream. -/
def State.recorded (t u : State) (h : Word) (d : List Word) : State :=
  if u.eng.phase = .search ∧ t.eng.phase = .packets then u
  else u.setSt (if t.st.inBody then ({ u.st with inBody := true }).take h d
    else if u.st.inBody then { ({ u.st with inBody := false }).take h d with inBody := true }
    else u.st.take h d)

theorem State.packetDone_eq_spentEnd : t.packetDone u src h d = (t.recorded u h d).spentEnd src := rfl

theorem State.HandsOver.actPacket_of_fine (hand : s.HandsOver t src h d) (legal : headerErr src h = none)
    (effect : t.dispatchPacket src (t.crcThrough h) h d = fine u) : t.actPacket src h d = fine (t.recorded u h d) := by
  rw [State.crcThrough] at effect
  simp only [State.actPacket, legal, if_neg hand.not_overrun, effect]
  rw [State.recorded]
  by_cases ended : u.eng.phase = .search ∧ t.eng.phase = .packets
  · rw [if_pos ended]
    exact if_pos ended
  · rw [if_neg ended]
    exact if_neg ended

theorem State.HandsOver.actPacket_of_error (hand : s.HandsOver t src h d) (legal : headerErr src h = none)
    (error : t.dispatchPacket src (t.crcThrough h) h d = (u, some e)) : t.actPacket src h d = (u, some e) := by
  rw [State.crcThrough] at error
  simp only [State.actPacket, legal, if_neg hand.not_overrun, error]

/-- A packet with no error has its effect and enters the stream's record. -/
theorem State.HandsOver.deliver_of_fine (hand : s.HandsOver t src h d) (legal : headerErr src h = none)
    (effect : t.dispatchPacket src (t.crcThrough h) h d = fine u) : s.deliver (.packet h d) = t.packetDone u src h d := by
  simp [hand.deliver_packet, State.streamPacket, hand.actPacket_of_fine legal effect, fine, hand.single,
    State.packetDone_eq_spentEnd]

/-- A packet's error ends the stream; only a bad seal can do more (R213). -/
theorem State.HandsOver.deliver_of_error (hand : s.HandsOver t src h d) (legal : headerErr src h = none)
    (error : t.dispatchPacket src (t.crcThrough h) h d = (u, some e)) (notSeal : e.code ≠ 0x13) :
    s.deliver (.packet h d) = (u.streamError src h t.st.pos e).spentEnd src := by
  simp [hand.deliver_packet, State.streamPacket, hand.actPacket_of_error legal error, State.afterError, notSeal]

/-- A header's own error is BAD_OPCODE, BAD_REG or BAD_COUNT. -/
theorem headerErr_code {c : Nat} (bad : headerErr src h = some c) : c = 2 ∨ c = 3 ∨ c = 4 := by
  simp only [headerErr] at bad
  split_ifs at bad <;> simp_all

/-- The error a header carries in itself ends the stream. -/
theorem State.HandsOver.deliver_of_headerErr {c : Nat} (hand : s.HandsOver t src h d) (bad : headerErr src h = some c) :
    s.deliver (.packet h d) = (t.streamError src h t.st.pos { code := c }).spentEnd src := by
  have notSeal : c ≠ 0x13 := by
    have := headerErr_code bad
    omega
  rw [hand.deliver_packet, State.streamPacket, State.actPacket, bad]
  simp [stop, State.afterError, notSeal]

end Sys2Proof.Machine
end

section
/-! The engine's choice by OP (R169, R173, R186, R194, R197) and by the register a WRITE names. -/
namespace Sys2Proof.Machine

variable {s t u : State} {src crc reg : Nat} {dyn : Bool} {h : Word} {d : List Word}

/-! Before the IDCODE write, and after the body or the check. -/

theorem State.HandsOver.dispatchPacket_nop (hand : s.HandsOver t src h d) (op : hdrOp h = 0)
    (ended : t.st.bodyDone = true → t.st.passed = true) : t.dispatchPacket src crc h d = fine t := by
  have unsealed : ¬ (t.st.bodyDone = true ∧ t.st.passed = false) := fun ⟨done, unchecked⟩ => by
    simp [ended done] at unchecked
  simp [State.dispatchPacket, hand.single, op, unsealed]

theorem State.HandsOver.dispatchPacket_idcode (hand : s.HandsOver t src h d) (op : hdrOp h = 1) (idcode : hdrReg h = 1)
    (unchecked : t.st.passed = false) (unidentified : t.st.idOk = false) :
    t.dispatchPacket src crc h d = t.writeIdcode (d.getD 0 0) := by
  simp [State.dispatchPacket, hand.single, op, idcode, unchecked, unidentified]

theorem State.HandsOver.dispatchPacket_section (hand : s.HandsOver t src h d) (op : hdrOp h = 7)
    (unchecked : t.st.passed = false) (unidentified : t.st.idOk = false) (first : t.st.pos = 1) :
    t.dispatchPacket src crc h d = t.doSection d := by
  simp [State.dispatchPacket, hand.single, op, unchecked, unidentified, first]

theorem State.HandsOver.dispatchPacket_end (hand : s.HandsOver t src h d) (op : hdrOp h = 15) (checked : t.st.passed = true) :
    t.dispatchPacket src crc h d = t.doEnd := by
  simp [State.dispatchPacket, hand.single, op, checked]

theorem State.HandsOver.dispatchPacket_seal (hand : s.HandsOver t src h d) (op : hdrOp h = 1) (sealReg : hdrReg h = 14)
    (unchecked : t.st.passed = false) (identified : t.st.idOk = true) :
    t.dispatchPacket src crc h d = t.writeSeal src d := by
  simp [State.dispatchPacket, State.doWrite, hand.single, op, sealReg, unchecked, identified]

/-! Between the IDCODE write and the end of the body. -/

theorem State.InStream.dispatchPacket_write (ins : s.InStream t src h d) (op : hdrOp h = 1) :
    t.dispatchPacket src crc h d = t.doWrite src crc h d := by
  simp [State.dispatchPacket, ins.single, op, ins.unchecked, ins.identified, ins.before]

theorem State.InStream.dispatchPacket_read (ins : s.InStream t src h d) (op : hdrOp h = 2) :
    t.dispatchPacket src crc h d = t.doRead src (hdrReg h) (hdrCount h) := by
  simp [State.dispatchPacket, ins.single, op, ins.unchecked, ins.identified, ins.before]

theorem State.InStream.dispatchPacket_frames (ins : s.InStream t src h d) (op : hdrOp h = 3 ∨ hdrOp h = 4 ∨ hdrOp h = 5) :
    t.dispatchPacket src crc h d = t.doFrames h d := by
  rcases op with op | op | op <;>
    simp [State.dispatchPacket, ins.single, op, ins.unchecked, ins.identified, ins.before]

theorem State.InStream.dispatchPacket_body (ins : s.InStream t src h d) (op : hdrOp h = 6) :
    t.dispatchPacket src crc h d = t.doBody := by
  simp [State.dispatchPacket, ins.single, op, ins.unchecked, ins.identified, ins.before]

/-- A WRITE in order has its register's effect. -/
theorem State.InStream.deliver_write (ins : s.InStream t src h d) (op : hdrOp h = 1) (legal : headerErr src h = none)
    (effect : t.doWrite src (t.crcThrough h) h d = fine u) : s.deliver (.packet h d) = t.packetDone u src h d :=
  ins.deliver_of_fine legal ((ins.dispatchPacket_write op).trans effect)

end Sys2Proof.Machine
end

section
/-! A legal write of each register before BODY and STAGE (R171 to R174, R188, R189). -/
namespace Sys2Proof.Machine

variable {s : State} {v : Word}

theorem State.writeIdcode_of_agrees (part : getBits v 27 0 = getBits (s.rd Reg.cfgIdcode) 27 0)
    (rev : getBits v 31 28 = getBits (s.rd Reg.cfgIdcode) 31 28 ∨ getBits v 31 28 = 15) :
    s.writeIdcode v = fine (s.setSt ({ s.st with idOk := true }.wrote 1)) :=
  if_pos ⟨part, rev⟩

theorem State.writeForm_of_legal (fresh : s.st.has 2 = false) (early : s.st.early = true) (bits : v.toNat < 8)
    (prioFull : getBit v 1 = true → getBit v 0 = true)
    (crcOnly : getBit v 2 = true → getBit v 0 = false ∧ s.st.has 5 = false ∧ s.st.has 6 = false)
    (slot : s.st.has 3 = true → slotClash v s.st.keysel = false) (kind : s.kindOk (getBit v 0) = true)
    (part : s.mode = 4 → s.bootSource ≤ 1 → getBit v 1 = s.boot.inPrio) :
    s.writeForm v = fine (s.setSt ({ s.st with form := v }.wrote 2)) := by
  have order : ¬ (s.st.has 2 = true ∨ (!s.st.early) = true ∨ (getBit v 2 && (s.st.has 5 || s.st.has 6)) = true) := by
    rintro (again | late | body)
    · simp [fresh] at again
    · simp [early] at late
    · obtain ⟨crc, body⟩ := Bool.and_eq_true_iff.mp body
      obtain ⟨-, noIv, noLength⟩ := crcOnly crc
      simp [noIv, noLength] at body
  have value : ¬ (8 ≤ v.toNat ∨ (getBit v 1 && !getBit v 0) = true ∨ (getBit v 2 && getBit v 0) = true ∨
      (s.st.has 3 && slotClash v s.st.keysel) = true) := by
    rintro (wide | priority | crc | clash)
    · omega
    · obtain ⟨prio, notFull⟩ := Bool.and_eq_true_iff.mp priority
      simp [prioFull prio] at notFull
    · obtain ⟨crc, full⟩ := Bool.and_eq_true_iff.mp crc
      simp [(crcOnly crc).1] at full
    · obtain ⟨written, clash⟩ := Bool.and_eq_true_iff.mp clash
      simp [slot written] at clash
  have otherPart : ¬ (s.mode = 4 ∧ s.bootSource ≤ 1 ∧ getBit v 1 ≠ s.boot.inPrio) := fun ⟨loading, flash, other⟩ =>
    other (part loading flash)
  rw [State.writeForm]
  simp only [if_neg order, if_neg value, if_neg otherPart, kind]
  rfl

theorem State.writeKeysel_of_legal (fresh : s.st.has 3 = false) (early : s.st.early = true) (bits : v.toNat < 3)
    (slot : s.st.has 2 = true → slotClash s.st.form v.toNat = false) :
    s.writeKeysel v = fine (s.setSt ({ s.st with keysel := v.toNat }.wrote 3)) := by
  have value : ¬ (3 ≤ v.toNat ∨ (s.st.has 2 && slotClash s.st.form v.toNat) = true) := by
    rintro (wide | clash)
    · omega
    · obtain ⟨written, clash⟩ := Bool.and_eq_true_iff.mp clash
      simp [slot written] at clash
  simp only [State.writeKeysel, fresh, early, if_neg value]
  rfl

theorem State.writeSid_of_fresh (fresh : s.st.has 4 = false) (early : s.st.early = true) :
    s.writeSid v = fine (s.setSt ({ s.st with sid := v }.wrote 4)) := by
  simp [State.writeSid, fresh, early]

theorem State.writeIv_of_fresh {ws : List Word} (fresh : s.st.has 5 = false) (early : s.st.early = true)
    (notCrc : s.st.crcOnly = false) : s.writeIv ws = fine (s.setSt ({ s.st with iv := ws }.wrote 5)) := by
  simp [State.writeIv, fresh, early, notCrc]

theorem State.writeBodylen_of_legal (fresh : s.st.has 6 = false) (early : s.st.early = true) (notCrc : s.st.crcOnly = false)
    (nonzero : v.toNat ≠ 0) (blocks : v.toNat % 4 = 0) :
    s.writeBodylen v = fine (s.setSt ({ s.st with bodylen := v.toNat }.wrote 6)) := by
  simp [State.writeBodylen, fresh, early, notCrc, nonzero, blocks]

/-- The sync word that a search finds resets the stream registers (R167, R171). -/
theorem State.deliver_sync {t : State} {src n : Nat} (source : s.engSource = some src) (clocks : s.hubOnSynth = true)
    (ready : s.stalled = false) (searching : s.eng.phase = .search) (ahead : s.syncAhead src = some n)
    (taken : t = s.wordsTaken src (n + 1)) (search : t.eng.phase = .search) (outside : t.eng.gang ≠ .inside) :
    s.deliver .sync =
      ({ t with eng := { t.eng with phase := .packets, skip := 0, st := { seen := [0x7E96A55A#32], pos := 1 } } } : State).spentEnd
        src := by
  have offer : s.offers src .sync = some (n + 1) := by
    simp [State.offers, searching, ahead]
  have synced : s.engineTake src .sync = t.engineSync src := by
    simp [State.engineTake, offer, taken, State.wordsTaken]
  have read : t.engineSync src =
      { t with eng := { t.eng with phase := .packets, skip := 0, st := { seen := [0x7E96A55A#32], pos := 1 } } } := by
    simp [State.engineSync, search, outside]
  simp [State.deliver, source, clocks, ready, synced, read]

end Sys2Proof.Machine
end

section
namespace Sys2Proof.Machine

/-- Settles O16: the sync word, which resets the stream, then each packet with the effect its register has. -/
theorem streamHeaderRegistersComplete : Obligations.StreamHeaderRegistersComplete := by
  refine ⟨?sync, ?nop, ?idcode, ?form, ?keysel, ?sid, ?iv, ?bodylen⟩
  case sync =>
    intro s t src n source clocks ready searching ahead taken search outside
    rw [exec_syncWord, execSyncWord, State.deliver_sync source clocks ready searching ahead taken search outside]
  case nop =>
    intro s t src hand ended
    rw [exec_nop, execNop]
    exact congrArg _ (hand.deliver_of_fine rfl (hand.dispatchPacket_nop rfl ended))
  case idcode =>
    intro s t src v hand unchecked unidentified part rev
    rw [exec_writeIdcode, execWriteIdcode]
    exact congrArg _ (hand.deliver_of_fine rfl
      ((hand.dispatchPacket_idcode rfl rfl unchecked unidentified).trans (State.writeIdcode_of_agrees part rev)))
  case form =>
    intro s t src v ins fresh early bits prioFull crcOnly slot kind part
    rw [exec_writeForm, execWriteForm]
    exact congrArg _ (ins.deliver_write rfl rfl
      (State.writeForm_of_legal fresh early bits prioFull crcOnly slot kind part))
  case keysel =>
    intro s t src v ins fresh early bits slot
    rw [exec_writeKeysel, execWriteKeysel]
    exact congrArg _ (ins.deliver_write rfl rfl
      (State.writeKeysel_of_legal fresh early bits slot))
  case sid =>
    intro s t src v ins fresh early
    rw [exec_writeSid, execWriteSid]
    exact congrArg _ (ins.deliver_write rfl rfl
      (State.writeSid_of_fresh fresh early))
  case iv =>
    intro s t src a b c ins fresh early notCrc
    rw [exec_writeIv, execWriteIv]
    exact congrArg _ (ins.deliver_write rfl rfl
      (State.writeIv_of_fresh fresh early notCrc))
  case bodylen =>
    intro s t src v ins fresh early notCrc nonzero blocks
    rw [exec_writeBodylen, execWriteBodylen]
    exact congrArg _ (ins.deliver_write rfl rfl
      (State.writeBodylen_of_legal fresh early notCrc nonzero blocks))

end Sys2Proof.Machine
end

section
/-! A legal write of each register of the body, and of PLACE (R171, R175, R178, R179, R236, R241). -/
namespace Sys2Proof.Machine

variable {s : State} {src crc : Nat} {v : Word} {h : Word} {ws : List Word}

theorem State.doWrite_clkset (reg : hdrReg h = 10) : s.doWrite src crc h ws = s.writeClkset ws := by
  simp [State.doWrite, reg]

theorem State.writeBound_of_legal {a b c e : Word} (fresh : s.st.has 7 = false) (mid : s.st.mid = true)
    (unstaged : s.st.staged = false) (edges : e.toNat < 2 ^ 16)
    (beside : s.st.full = false → ∀ k < 16, e.toNat.testBit k = true →
      (a.toNat + b.toNat * 2 ^ 32 + c.toNat * 2 ^ 64).testBit (edgeBay k) = true) :
    s.writeBound [a, b, c, e] = fine (s.setSt (
      { s.st with begun := true, edge := e.toNat, bays := a.toNat + b.toNat * 2 ^ 32 + c.toNat * 2 ^ 64 }.wrote 7)) := by
  have order : ¬ (s.st.has 7 = true ∨ (!s.st.mid) = true ∨ s.st.staged = true) := by
    simp [fresh, mid, unstaged]
  have value : ¬ (2 ^ 16 ≤ e.toNat ∨ ((!s.st.full) = true ∧ (List.range 16).any (fun k => e.toNat.testBit k &&
      !(a.toNat + b.toNat * 2 ^ 32 + c.toNat * 2 ^ 64).testBit (edgeBay k)) = true)) := by
    rintro (wide | ⟨isPartial, alone⟩)
    · omega
    · obtain ⟨k, below, bits⟩ := List.any_eq_true.mp alone
      obtain ⟨edgeBit, noBay⟩ := Bool.and_eq_true_iff.mp bits
      have bayBit := beside (by simpa using isPartial) k (List.mem_range.mp below) edgeBit
      rw [bayBit] at noBay
      contradiction
  exact (if_neg order).trans (if_neg value)

theorem State.writeGroup_of_legal (fresh : s.st.has 8 = false) (mid : s.st.mid = true) (unstaged : s.st.staged = false)
    (group : v.toNat < 8) : s.writeGroup v = fine (s.setSt ({ s.st with group := v.toNat, begun := true }.wrote 8)) := by
  simp [State.writeGroup, fresh, mid, unstaged, Nat.not_le.mpr group]

theorem State.writePlfloor_of_legal (fresh : s.st.has 9 = false) (mid : s.st.mid = true) (unstaged : s.st.staged = false)
    (low : getBits v 7 6 = 0) (high : getBits v 31 20 = 0) (levels : getBits v 5 3 ≤ getBits v 2 0)
    (noFrequency : getBits v 19 8 = 0 → getBits v 5 3 = 0) :
    s.writePlfloor v = fine (s.setSt ({ s.st with floor := v, begun := true }.wrote 9)) := by
  have noLevel : ¬ (getBits v 19 8 = 0 ∧ getBits v 5 3 ≠ 0) := fun ⟨no, level⟩ => level (noFrequency no)
  simp only [State.writePlfloor, fresh, mid, unstaged, low, high, Nat.not_lt.mpr levels, noLevel]
  rfl

theorem State.writeClkset_of_legal (full : s.st.full = true) (mid : s.st.mid = true) (unstaged : s.st.staged = false)
    (pairs : ∀ p ∈ pairsOf ws, s.clksetOk p = true) :
    s.writeClkset ws = fine (s.setSt (
      { s.st with begun := true, clkset := s.st.clkset ++ (pairsOf ws).map (fun (p : Word × Word) => (0x50000 + getBits p.1 15 0, p.2)) }.wrote
        10)) := by
  have noneFails : (pairsOf ws).findIdx? (fun p => !s.clksetOk p) = none :=
    List.findIdx?_eq_none_iff.mpr fun p mem => by simp [pairs p mem]
  simp [State.writeClkset, full, mid, unstaged, noneFails]

theorem State.writePlace_of_valid (mid : s.st.mid = true) (staged : s.st.staged = true) (valid : placeBad v = false) :
    s.writePlace v = fine (s.setSt { s.st with place := v, past := false }) := by
  simp [State.writePlace, StreamSt.framesOk, mid, staged, valid]

end Sys2Proof.Machine
end

section
namespace Sys2Proof.Machine

/-- Settles O17: each packet with the effect its register has; a CLKSET is the one whose COUNT is open. -/
theorem streamBodyRegistersComplete : Obligations.StreamBodyRegistersComplete := by
  refine ⟨?bound, ?group, ?plfloor, ?clkset, ?place⟩
  case bound =>
    intro s t src a b c e ins fresh mid unstaged edges beside
    rw [exec_writeBound, execWriteBound]
    exact congrArg _ (ins.deliver_write rfl rfl (State.writeBound_of_legal fresh mid unstaged edges beside))
  case group =>
    intro s t src v ins fresh mid unstaged group
    rw [exec_writeGroup, execWriteGroup]
    exact congrArg _ (ins.deliver_write rfl rfl (State.writeGroup_of_legal fresh mid unstaged group))
  case plfloor =>
    intro s t src v ins fresh mid unstaged low high levels noFrequency
    rw [exec_writePlfloor, execWritePlfloor]
    exact congrArg _ (ins.deliver_write rfl rfl
      (State.writePlfloor_of_legal fresh mid unstaged low high levels noFrequency))
  case clkset =>
    intro s t src ws ins full mid unstaged atLeast atMost even pairs
    have count : countOk 1 10 ws.length = true := by simp [countOk, atLeast, atMost, even]
    have legal := headerErr_writeHdr (src := src) (reg := 10) (dyn := false) (by decide) nofun (by omega) count
    rw [exec_writeClkset, execWriteClkset, ins.deliver_write (hdrOp_writeHdr (by decide)) legal
      ((State.doWrite_clkset (hdrReg_writeHdr (by decide))).trans (State.writeClkset_of_legal full mid unstaged pairs))]
  case place =>
    intro s t src v ins mid staged valid
    rw [exec_writePlace, execWritePlace]
    exact congrArg _ (ins.deliver_write rfl rfl (State.writePlace_of_valid mid staged valid))

end Sys2Proof.Machine
end

section
/-! What ends a step, a body or a stream: STEP, BODY, SEAL, CRCV, END and SECTION (R174, R176, R187 to R195). -/
namespace Sys2Proof.Machine

variable {s t u : State} {src crc : Nat} {v : Word} {h : Word} {d : List Word}

/-! STEP. -/

theorem State.writeStep_of_zero (unfinished : s.st.finished = false) (before : s.st.bodyDone = false) :
    s.writeStep src 0#32 = fine s := by
  simp [State.writeStep, unfinished, before]

/-- A value that is no step is BAD_VALUE. -/
theorem State.writeStep_of_three_lt (unfinished : s.st.finished = false) (before : s.st.bodyDone = false)
    (other : 3 < v.toNat) : s.writeStep src v = stop s 5 := by
  simp only [State.writeStep]
  split <;> simp_all

theorem State.doStage_of_accepted (accepted : s.stageErr src = none) (noReload : s.pnt.reload = none) :
    s.doStage src = fine (s.stageAccept src) := by
  simp only [State.doStage, accepted, noReload]

/-- FINISH of a staged stream; a main part and the priority part before it cover the device, and nothing twice (R187). -/
theorem State.doFinish_of_staged (mid : s.st.mid = true) (staged : s.st.staged = true)
    (cover : s.st.full = true → s.st.prio = false → s.boot.prioBound &&& s.st.bays = 0 ∧ s.boot.prioEdge &&& s.st.edge = 0 ∧
      s.boot.prioBound ||| s.st.bays = 2 ^ 96 - 1 ∧ s.boot.prioEdge ||| s.st.edge = 2 ^ 16 - 1) :
    s.doFinish = fine (s.setSt { s.st with finished := true }) := by
  have order : ¬ ((!s.st.mid) = true ∨ (!s.st.staged) = true) := by
    simp [mid, staged]
  have covers : ¬ (s.st.full = true ∧ (!s.st.prio) = true ∧ (s.boot.prioBound &&& s.st.bays ≠ 0 ∨
      s.boot.prioEdge &&& s.st.edge ≠ 0 ∨ s.boot.prioBound ||| s.st.bays ≠ 2 ^ 96 - 1 ∨
      s.boot.prioEdge ||| s.st.edge ≠ 2 ^ 16 - 1)) := by
    rintro ⟨full, main, gap⟩
    obtain ⟨bays, edges, allBays, allEdges⟩ := cover full (by simpa using main)
    simp only [bays, edges, allBays, allEdges, ne_eq, not_true, or_self] at gap
  exact (if_neg order).trans (if_neg covers)

/-! BODY, SEAL and CRCV. -/

theorem State.doBody_of_ready (early : s.st.early = true) (notCrc : s.st.crcOnly = false) (iv : s.st.has 5 = true)
    (bodylen : s.st.has 6 = true) (kind : s.kindOk s.st.full = true) (key : (s.streamKey s.st.keysel).isSome = true) :
    s.doBody = fine (s.setSt { s.st with inBody := true }) := by
  have known : (s.streamKey s.st.keysel).isNone = false := by
    simpa [← Option.not_isSome] using key
  simp [State.doBody, early, notCrc, iv, bodylen, kind, known]

theorem State.writeSeal_of_tag (done : s.st.bodyDone = true) (finished : s.st.finished = true)
    (tag : (streamBytes d).map BitVec.toNat = s.sealTag) : s.writeSeal src d = fine (s.checkPassed src) := by
  simp [State.writeSeal, done, finished, tag]

theorem State.writeCrcv_of_crc (crcOnly : s.st.crcOnly = true) (finished : s.st.finished = true) (same : v.toNat = crc) :
    s.writeCrcv src crc v = fine (s.checkPassed src) := by
  simp [State.writeCrcv, crcOnly, finished, same]

/-! END and SECTION. -/

theorem State.doEnd_of_passed (checked : s.st.passed = true) (single : s.eng.gang = .none) :
    s.doEnd = fine { s with eng := { s.eng with phase := .search } } := by
  have outside : ¬ s.eng.gang = .inside := by simp [single]
  rw [State.doEnd, if_pos checked, if_neg outside]

theorem State.doSection_of_selected {sel len : Word} (spare : getBits sel 30 26 = 0) (mine : s.selected sel = true) :
    s.doSection [sel, len] =
      fine { s with eng := { s.eng with gang := .inside, left := len.toNat, phase := .search, st := {} } } := by
  simp [State.doSection, spare, mine]

theorem State.doSection_of_other {sel len : Word} (spare : getBits sel 30 26 = 0) (other : s.selected sel = false) :
    s.doSection [sel, len] = fine { s with eng := { s.eng with gang := .between, skip := len.toNat } } := by
  simp [State.doSection, spare, other]

/-- A packet that returns the engine to its search leaves no record. -/
theorem State.packetDone_of_search (ended : u.eng.phase = .search) (packets : t.eng.phase = .packets) :
    t.packetDone u src h d = u.spentEnd src := by
  rw [State.packetDone, if_pos ⟨ended, packets⟩]

end Sys2Proof.Machine
end

section
/-! The end of a source (R197) and the lock wait of a part (R178). -/
namespace Sys2Proof.Machine

variable {s : State} {src : Nat}

theorem State.deliver_sourceEnd (source : s.engSource = some src) (clocks : s.hubOnSynth = true)
    (ready : s.stalled = false) : s.deliver .sourceEnd = (s.engineTake src .sourceEnd).spentEnd src := by
  simp [State.deliver, source, clocks, ready]

theorem State.engineTake_sourceEnd_of_queue (queue : 2 ≤ src) : s.engineTake src .sourceEnd = s.sourceEnded src := by
  simp [State.engineTake, queue]

theorem State.engineTake_sourceEnd_of_barren (image : src < 2) (barren : s.feedBarren src = true) :
    s.engineTake src .sourceEnd = { s with eng := { s.eng with feedLeft := 0 } } := by
  simp [State.engineTake, Nat.not_le.mpr image, barren]

theorem State.lockWaitEnd_of_main {j : PartJob} (main : s.boot.mainJob = some j) (noPriority : s.boot.prioJob = none)
    (locking : j.locking = true) (locked : s.tapsLocked = true) :
    s.lockWaitEnd = s.setBoot { s.boot with mainJob := some { j with locking := false } } := by
  simp [State.lockWaitEnd, main, noPriority, locking, locked]

end Sys2Proof.Machine
end

section
namespace Sys2Proof.Machine

/-- Settles O18: each step, the body and both checks, END, both answers to a SECTION, and the ends of the STAGE clear, of
a source, of a bad header and of a lock wait. -/
theorem streamStepsComplete : Obligations.StreamStepsComplete := by
  refine ⟨?stepNone, ?noStep, ?stage, ?finish, ?abort, ?clear, ?body, ?sealed, ?crcv, ?endPacket, ?opens, ?passes, ?badHeader,
    ?queueEnd, ?imageEnd, ?unopened, ?lockWait⟩
  case stepNone =>
    intro s t src ins unfinished
    rw [exec_stepNone, execStepNone, if_neg (by decide)]
    exact congrArg _ (ins.deliver_write rfl rfl (State.writeStep_of_zero (src := src) unfinished ins.before))
  case noStep =>
    intro s t src v ins unfinished other
    have noStep : ¬ (v = 1 ∨ v = 2 ∨ v = 3) := by
      rintro (rfl | rfl | rfl) <;> simp at other
    rw [exec_stepNone, execStepNone, if_neg noStep]
    exact congrArg _ (ins.deliver_of_error rfl
      ((ins.dispatchPacket_write rfl).trans (State.writeStep_of_three_lt unfinished ins.before other)) (by decide))
  case stage =>
    intro s t src ins accepted noReload
    rw [exec_stepStage, execStepStage]
    exact congrArg _ (ins.deliver_write rfl rfl (State.doStage_of_accepted accepted noReload))
  case finish =>
    intro s t src ins mid staged cover
    rw [exec_stepFinish, execStepFinish]
    exact congrArg _ (ins.deliver_write rfl rfl (State.doFinish_of_staged mid staged cover))
  case abort =>
    intro s t src ins
    rw [exec_stepAbort, execStepAbort]
    exact congrArg _ (ins.deliver_of_error rfl (ins.dispatchPacket_write rfl) (by simp))
  case clear =>
    intro s stall
    rw [exec_stageClearDone, execStageClearDone, if_pos stall]
  case body =>
    intro s t src ins early notCrc iv bodylen kind key
    rw [exec_body, execBody]
    exact congrArg _ (ins.deliver_of_fine rfl
      ((ins.dispatchPacket_body rfl).trans (State.doBody_of_ready early notCrc iv bodylen kind key)))
  case sealed =>
    intro s t src a b c d hand identified unchecked done finished tag
    rw [exec_writeSeal, execWriteSeal]
    exact congrArg _ (hand.deliver_of_fine rfl
      ((hand.dispatchPacket_seal rfl rfl unchecked identified).trans (State.writeSeal_of_tag done finished tag)))
  case crcv =>
    intro s t src v ins crcOnly finished same
    rw [exec_writeCrcv, execWriteCrcv]
    exact congrArg _ (ins.deliver_write rfl rfl (State.writeCrcv_of_crc crcOnly finished same))
  case endPacket =>
    intro s t src hand checked
    rw [exec_endPacket, execEnd]
    exact congrArg _ ((hand.deliver_of_fine rfl
      ((hand.dispatchPacket_end rfl checked).trans (State.doEnd_of_passed checked hand.single))).trans
      (State.packetDone_of_search rfl hand.packets))
  case opens =>
    intro s t src sel len hand unchecked unidentified first spare mine
    rw [exec_sectionPacket, execSection]
    exact congrArg _ ((hand.deliver_of_fine rfl
      ((hand.dispatchPacket_section rfl unchecked unidentified first).trans (State.doSection_of_selected spare mine))).trans
      (State.packetDone_of_search rfl hand.packets))
  case passes =>
    intro s t src sel len hand unchecked unidentified first spare other
    rw [exec_sectionPacket, execSection]
    exact congrArg _ (hand.deliver_of_fine rfl
      ((hand.dispatchPacket_section rfl unchecked unidentified first).trans (State.doSection_of_other spare other)))
  case badHeader =>
    intro s t src c h hand bad
    have carries : (headerErr (s.engSource.getD 0) h).isSome = true := by simp [hand.source, bad]
    rw [exec_packetBadHeader, execPacketBadHeader, if_pos carries, hand.deliver_of_headerErr bad]
  case queueEnd =>
    intro s src source clocks ready queue
    rw [exec_streamSourceEnd, execStreamSourceEnd, State.deliver_sourceEnd source clocks ready,
      State.engineTake_sourceEnd_of_queue queue]
  case imageEnd =>
    intro s src source clocks ready image barren
    rw [exec_streamSourceEnd, execStreamSourceEnd, State.deliver_sourceEnd source clocks ready,
      State.engineTake_sourceEnd_of_barren image barren]
  case unopened =>
    intro s running
    rw [exec_unopenedSourceWords, execUnopenedSourceWords, State.unopened, if_pos running]
  case lockWait =>
    intro s j main noPriority locking locked
    rw [exec_clksetLockWaitEnd, execClksetLockWaitEnd, State.lockWaitEnd_of_main main noPriority locking locked]

end Sys2Proof.Machine
end

section
/-! Frame-writing packets (R172, R182, R185) and READs (R196). -/
namespace Sys2Proof.Machine

variable {s t u : State} {src crc n k reg : Nat} {h : Word} {d ws : List Word} {f : BitVec 10240}

/-! The frames a packet writes between STAGE and FINISH. -/

theorem State.packetFrames_write (mid : s.st.mid = true) (staged : s.st.staged = true) :
    s.packetFrames 1 n d = .ok (framesOfWords (n / 320) d) := by
  simp [State.packetFrames, StreamSt.framesOk, mid, staged]

theorem State.packetFrames_zero (mid : s.st.mid = true) (staged : s.st.staged = true) :
    s.packetFrames 3 n d = .ok (List.replicate n 0) := by
  simp [State.packetFrames, StreamSt.framesOk, mid, staged]

theorem State.packetFrames_repeat (mid : s.st.mid = true) (staged : s.st.staged = true) (last : s.st.last = some f) :
    s.packetFrames 4 n d = .ok (List.replicate n f) := by
  simp [State.packetFrames, StreamSt.framesOk, mid, staged, last]

theorem pairsOf_flatMap (ps : List (Word × Word)) : pairsOf (ps.flatMap fun p => [p.1, p.2]) = ps := by
  induction ps with
  | nil => rfl
  | cons p ps ih => simp [pairsOf, ih]

theorem State.packetFrames_patch {ps : List (Word × Word)} (mid : s.st.mid = true) (staged : s.st.staged = true)
    (last : s.st.last = some f) (indices : ∀ p ∈ ps, p.1.toNat < 320) :
    s.packetFrames 5 n (ps.flatMap fun p => [p.1, p.2]) = .ok [ps.foldl (fun f p => patchWord f p.1.toNat p.2) f] := by
  have inFrame : ¬ (ps.any fun p => decide (320 ≤ p.1.toNat)) = true := by
    simpa using indices
  simp [State.packetFrames, StreamSt.framesOk, mid, staged, last, pairsOf_flatMap, inFrame]

/-- A packet whose frames meet no error writes them from PLACE on. -/
theorem State.doFrames_of_fine {fs : List (BitVec 10240)} (frames : s.packetFrames (hdrOp h) (hdrCount h) d = .ok fs)
    (written : (s.writeFrames h s.st.pos fs).2 = none) : s.doFrames h d = fine (s.writeFrames h s.st.pos fs).1 := by
  simp only [State.doFrames, frames]
  exact Prod.ext rfl written

theorem State.doWrite_frames (frames : hdrReg h = 13) : s.doWrite src crc h d = s.doFrames h d := by
  simp [State.doWrite, frames]

/-- FRAMES in order writes its frames. -/
theorem State.InStream.deliver_frames {dyn : Bool} (ins : s.InStream t src (writeHdr 13 ws.length dyn) ws)
    (mid : t.st.mid = true) (staged : t.st.staged = true) (length : ws.length = 320 * k) (least : 1 ≤ k) (most : k ≤ 3276)
    (written : (t.writeFrames (writeHdr 13 ws.length dyn) t.st.pos (framesOfWords k ws)).2 = none) :
    s.deliver (.packet (writeHdr 13 ws.length dyn) ws) =
      t.packetDone (t.writeFrames (writeHdr 13 ws.length dyn) t.st.pos (framesOfWords k ws)).1 src
        (writeHdr 13 ws.length dyn) ws := by
  have bound : ws.length < 2 ^ 20 := by omega
  have count : countOk 1 13 ws.length = true := by
    simp [countOk, length]
    omega
  have frames : t.packetFrames (hdrOp (writeHdr 13 ws.length dyn)) (hdrCount (writeHdr 13 ws.length dyn)) ws =
      .ok (framesOfWords k ws) := by
    rw [hdrOp_writeHdr (by decide), hdrCount_writeHdr bound, State.packetFrames_write mid staged,
      show ws.length / 320 = k by omega]
  exact ins.deliver_write (hdrOp_writeHdr (by decide)) (headerErr_writeHdr (by decide) (fun _ => rfl) bound count)
    ((State.doWrite_frames (hdrReg_writeHdr (by decide))).trans (State.doFrames_of_fine frames written))

/-- ZERO, REPEAT and PATCH with a COUNT write their frames. -/
theorem State.InStream.deliver_opFrames {op : Nat} {dyn : Bool} {fs : List (BitVec 10240)}
    (ins : s.InStream t src (opHdr op n dyn) d) (writes : op = 3 ∨ op = 4 ∨ op = 5) (bound : n < 2 ^ 20) (nonzero : n ≠ 0)
    (frames : t.packetFrames op n d = .ok fs) (written : (t.writeFrames (opHdr op n dyn) t.st.pos fs).2 = none) :
    s.deliver (.packet (opHdr op n dyn) d) =
      t.packetDone (t.writeFrames (opHdr op n dyn) t.st.pos fs).1 src (opHdr op n dyn) d := by
  have hop : hdrOp (opHdr op n dyn) = op := by
    rw [opHdr_eq_packetHdr, hdrOp_packetHdr (by omega) (by decide)]
  have hcount : hdrCount (opHdr op n dyn) = n := by
    rw [opHdr_eq_packetHdr, hdrCount_packetHdr bound]
  exact ins.deliver_of_fine (headerErr_opHdr_frames writes bound nonzero)
    ((ins.dispatchPacket_frames (by rw [hop]; exact writes)).trans
      (State.doFrames_of_fine (by rw [hop, hcount]; exact frames) written))

/-! READ, outside any body and where policy permits it. -/

theorem State.doRead_frames (outside : s.st.inBody = false) (before : s.st.bodyDone = false)
    (unfinished : s.st.finished = false) (permitted : s.readbackOk = true)
    (reads : s.readFrames [] (n / 320) = (u, ws, none)) : s.doRead src 13 n = fine (u.returnWords src ws) := by
  simp [State.doRead, outside, before, unfinished, permitted, reads, fine]

theorem State.doRead_place (outside : s.st.inBody = false) (before : s.st.bodyDone = false)
    (unfinished : s.st.finished = false) (permitted : s.readbackOk = true) :
    s.doRead src 12 n = fine (s.returnWords src [s.st.place]) := by
  simp [State.doRead, outside, before, unfinished, permitted]

theorem State.doRead_stat (outside : s.st.inBody = false) (before : s.st.bodyDone = false)
    (unfinished : s.st.finished = false) (permitted : s.readbackOk = true) :
    s.doRead src 16 n = fine (s.returnWords src [s.st.stat]) := by
  simp [State.doRead, outside, before, unfinished, permitted]

/-- A READ in order, from a source with a return path. -/
theorem State.InStream.deliver_read (ins : s.InStream t src (readHdr reg n) []) (path : src = 2 ∨ src = 3 ∨ src = 5)
    (reads : reg = 12 ∨ reg = 13 ∨ reg = 16) (bound : n < 2 ^ 20) (count : countOk 2 reg n = true)
    (effect : t.doRead src reg n = fine u) :
    s.deliver (.packet (readHdr reg n) []) = t.packetDone u src (readHdr reg n) [] := by
  have regBound : reg < 32 := by omega
  have hop : hdrOp (readHdr reg n) = 2 := by rw [readHdr_eq_packetHdr, hdrOp_packetHdr (by decide) regBound]
  have hreg : hdrReg (readHdr reg n) = reg := by rw [readHdr_eq_packetHdr, hdrReg_packetHdr regBound]
  have hcount : hdrCount (readHdr reg n) = n := by rw [readHdr_eq_packetHdr, hdrCount_packetHdr bound]
  exact ins.deliver_of_fine (headerErr_readHdr path reads bound count)
    ((ins.dispatchPacket_read hop).trans (by rw [hreg, hcount, effect]))

end Sys2Proof.Machine
end

section
namespace Sys2Proof.Machine

/-- Settles O19: FRAMES, then the packets without REG by the frames each stands for, then the three READs. -/
theorem streamFramesComplete : Obligations.StreamFramesComplete := by
  refine ⟨?frames, ?zero, ?repeats, ?patch, ?readFrames, ?readPlace, ?readStat⟩
  case frames =>
    intro s t src k dyn ws ins mid staged length least most written
    rw [exec_writeFrames, execWriteFrames, ins.deliver_frames mid staged length least most written]
  case zero =>
    intro s t src dyn n ins mid staged nonzero written
    rw [exec_zero, execZero,
      ins.deliver_opFrames (by decide) n.isLt nonzero (State.packetFrames_zero mid staged) written]
  case repeats =>
    intro s t src dyn n f ins mid staged last nonzero written
    rw [exec_repeatPacket, execRepeat,
      ins.deliver_opFrames (by decide) n.isLt nonzero (State.packetFrames_repeat mid staged last) written]
  case patch =>
    intro s t src dyn ps f g ins mid staged last nonempty bound indices patched written
    subst patched
    have nonzero : ps.length ≠ 0 := fun empty => nonempty (List.length_eq_zero_iff.mp empty)
    rw [exec_patch, execPatch, ins.deliver_opFrames (by decide) bound nonzero
      (State.packetFrames_patch mid staged last indices) written]
  case readFrames =>
    intro s t u src k n ws ins path outside unfinished permitted length least reads
    have quotient : n.toNat / 320 = k := by omega
    have count : countOk 2 13 n.toNat = true := by
      simp [countOk, length]
      omega
    rw [exec_readFrames, execReadFrames, ins.deliver_read path (by decide) n.isLt count
      (State.doRead_frames outside ins.before unfinished permitted (by rw [quotient]; exact reads))]
  case readPlace =>
    intro s t src ins path outside unfinished permitted
    rw [exec_readPlace, execReadPlace]
    exact congrArg _ (State.InStream.deliver_read (reg := 12) (n := 1) ins path (by decide) (by decide) rfl
      (State.doRead_place outside ins.before unfinished permitted))
  case readStat =>
    intro s t src ins path outside unfinished permitted
    rw [exec_readStat, execReadStat]
    exact congrArg _ (State.InStream.deliver_read (reg := 16) (n := 1) ins path (by decide) (by decide) rfl
      (State.doRead_stat outside ins.before unfinished permitted))

end Sys2Proof.Machine
end

section
/-! Links of the host ports (R363 to R366, R376). -/
namespace Sys2Proof.Machine

variable {s : State} {p q : Fin 2}

/-- With MAXGEN 5 a link comes up at any generation, where its quads are ready (R18, R366). -/
theorem execPcieLinkUp_of_ready {gen : BitVec 3} {width : BitVec 2} (enabled : s.bit (Reg.hpCtl p.val) 0 = true)
    (mode : s.pcieModes = true) (running : s.blockGated (54 + p.val) = false)
    (quads : (portQuads p.val width.toNat).all s.quadReady = true) (down : (s.port p).linkUp = false)
    (maxGen : s.fld (Reg.hpCtl p.val) 3 1 = 5) (genLow : 1 ≤ gen.toNat) (genHigh : gen.toNat ≤ 5)
    (maxWidth : width.toNat ≤ s.fld (Reg.hpCtl p.val) 5 4) {t : State}
    (ht : t = s.setPort p { s.port p with linkUp := true }) :
    execPcieLinkUp p gen width s = .next (((t.wr (Reg.hpStat p.val)
      (putBits (putBits (putBit (t.rd (Reg.hpStat p.val)) 0 true) 3 1 gen.toNat) 5 4 width.toNat)).portEvent p 0).msixFlush
        p) := by
  rw [State.bit] at enabled
  rw [State.fld] at maxGen maxWidth
  simp only [execPcieLinkUp, maxGen, ht]
  rw [if_pos]
  simp [enabled, mode, running, down, genLow, genHigh, maxWidth, quads]

/-- In RUN a link that goes down frees the port's semaphores. -/
theorem State.pcieDown_of_run {t : State} (up : (s.port p).linkUp = true) (run : s.mode = 6)
    (undrained : s.pwr.drained = false) (ht : t = s.setPort p { s.port p with linkUp := false }) :
    s.pcieDown p = (((t.wr (Reg.hpStat p.val) (putBits (t.rd (Reg.hpStat p.val)) 8 0 0)).portEvent p 1).semAutoRelease
      (0x20 + p.val)).portStreamCut p := by
  simp [State.pcieDown, up, run, undrained, ht]

theorem State.pcieFlr_of_linkUp (up : (s.port p).linkUp = true) :
    s.pcieFlr p = ((s.epReset p).semAutoRelease (0x20 + p.val)).portStreamCut p := by
  simp [State.pcieFlr, up]

theorem execPciePowerStateChange_of_change {d3 l1 : Bool} {cfg : EndpointCfg} {new : Word}
    (up : (s.port p).linkUp = true) (hnew : new = putBit (putBits (s.rd (Reg.hpStat p.val)) 7 6 (if d3 then 3 else 0)) 8 l1)
    (change : s.rd (Reg.hpStat p.val) ≠ new) : execPciePowerStateChange p d3 l1 cfg s =
      .next ((((s.wr (Reg.hpStat p.val) new).setPort p { s.port p with cfg := cfg }).portEvent p 4).msixFlush p) := by
  subst hnew
  simp [execPciePowerStateChange, up, change]

/-- SPIREL by the other port's PCIe identity, on a port whose PCIE bit stays 1 (R376). -/
theorem State.hpCtlWrite_of_spirel {t : State} {v : Word} (other : p ≠ q)
    (hv : v = putBit (s.rd (Reg.hpCtl p.val)) 7 true) (enabled : s.bit (Reg.hpCtl p.val) 0 = true)
    (ht : t = s.plainWrite (Reg.hpCtl p.val) v) : s.hpCtlWrite (.hostPcie q) p v =
      (if p.val = 0 then (t.quadRefresh 0).quadRefresh 1 else (t.quadRefresh 14).quadRefresh 15).semAutoRelease
        (0x22 + p.val) := by
  have kept : getBit v 0 = true := by
    rw [hv, Laws.getBit_putBit_other _ _ _ _ (by decide)]
    exact enabled
  have spirel : getBit v 7 = true := by rw [hv, Laws.getBit_putBit _ _ _ (by decide)]
  simp [State.hpCtlWrite, kept, spirel, ht, bne_iff_ne, other.symm]

end Sys2Proof.Machine
end

section
/-! The stream window and the return queue (R369, R370). -/
namespace Sys2Proof.Machine

variable {s : State} {p : Fin 2} {w : Word} {ws : List Word}

/-- Words for the open window reach the engine. -/
theorem State.windowWrite_of_open {spi : Bool} (source : s.engSource = some (2 + p.val)) (notEnded : (s.port p).ended = false)
    (words : ws ≠ []) : s.windowWrite p spi ws = ({ s.setPort p { s.port p with window := (s.port p).window ++
      (if spi then ws.take (1024 - (s.port p).window.length) else ws) } with eng := { s.eng with arrived := true } } :
        State).spentEnd (2 + p.val) := by
  have opened : ¬ (s.engSource ≠ some (2 + p.val) ∨ (s.port p).ended = true) := by simp [source, notEnded]
  rw [State.windowWrite, if_neg words, if_neg opened]

theorem State.hpSend_of_end {ag : Agent} {v : Word} (key : getBits v 31 16 = 0xE5D0) (ended : getBit v 0 = true)
    (via : viaPort ag p = true) (source : s.engSource = some (2 + p.val)) :
    s.hpSend ag p v = (s.setPort p { s.port p with ended := true }).spentEnd (2 + p.val) := by
  simp [State.hpSend, key, ended, via, source]

/-- While no stream of the port is open, a read takes the head word alone. -/
theorem State.sretRead_of_cons (queue : (s.port p).retQueue = w :: ws) (closed : s.engSource ≠ some (2 + p.val)) :
    s.sretRead p = (w, (s.setPort p { s.port p with retQueue := ws }).wr (Reg.hpSrcnt p.val) (BitVec.ofNat 32 ws.length)) := by
  simp [State.sretRead, queue, closed]

end Sys2Proof.Machine
end

section
/-! Service SPI (R364, R365, R371, R372): a frame's access is carried out, or waits in its port's order. -/
namespace Sys2Proof.Machine

variable {s : State} {p : Fin 2} {a : Word}

theorem State.spiTake_of_free {i : SpiItem} (running : s.spiHeld p = false) (idle : (s.port p).spiWait = []) :
    s.spiTake p i = s.spiItem p i := by
  simp [State.spiTake, running, idle]

theorem State.spiTake_of_held {i : SpiItem} (held : s.spiHeld p = true) :
    s.spiTake p i = s.setPort p { s.port p with spiWait := (s.port p).spiWait ++ [i] } := by
  simp [State.spiTake, held]

/-- The slave serves frames with the link down, where it runs. -/
theorem State.spiServes_iff : s.spiServes p = true ↔ (s.port p).linkUp = false ∧ s.spiRuns = true := by
  simp [State.spiServes]

theorem execStreamWindowWrite_spi (serves : s.spiServes p = true) (ws : List Word) :
    execStreamWindowWrite p true ws s = .next (s.spiTake p (.stream ws)) := by
  simp [execStreamWindowWrite, serves]

theorem execStreamWindowWrite_pcie (up : (s.port p).linkUp = true) (ws : List Word) :
    execStreamWindowWrite p false ws s = .next (s.windowWrite p false ws) := by
  simp [execStreamWindowWrite, up]

theorem execSpiRead_of_serves (serves : s.spiServes p = true) (region : getBits a 31 30 ≠ 3) (aligned : a.toNat % 4 = 0)
    (n : Nat) : execSpiRead p a n s = .next (s.spiTake p (.read a.toNat n)) := by
  obtain ⟨down, runs⟩ := State.spiServes_iff.mp serves
  simp [execSpiRead, down, runs, region, aligned]

theorem execSpiWrite_of_serves (serves : s.spiServes p = true) (region : getBits a 31 30 ≠ 3) (aligned : a.toNat % 4 = 0)
    (ws : List Word) : execSpiWrite p a ws s = .next (s.spiWrites p a.toNat ws) := by
  simp [execSpiWrite, serves, region, aligned]

theorem execSpiStatus_of_runs (runs : s.spiRuns = true) : execSpiStatus p s = .next (s.spiTake p .status) := by
  simp [execSpiStatus, runs]

end Sys2Proof.Machine
end

section
namespace Sys2Proof.Machine

/-- Settles O33: the link and the resets of the function, the stream window by its two ways, END, the return queue, SPIREL
and the frames of service SPI. -/
theorem hostPortCommandsComplete : Obligations.HostPortCommandsComplete := by
  refine ⟨?linkUp, ?linkDown, ?flr, ?hotReset, ?perst, ?power, ?window, ?spiWindow, ?spiWaits, ?sendEnd, ?sret, ?spirel, ?read,
    ?write, ?status, ?frameError⟩
  case linkUp =>
    intro p gen width s t enabled mode running quads down maxGen genLow genHigh maxWidth ht
    rw [exec_pcieLinkUp, execPcieLinkUp_of_ready enabled mode running quads down maxGen genLow genHigh maxWidth ht]
  case linkDown =>
    intro p s t up run undrained ht
    rw [exec_pcieLinkDown, execPcieLinkDown, State.pcieDown_of_run up run undrained ht]
  case flr =>
    intro p s up
    rw [exec_pcieFlr, execPcieFlr, State.pcieFlr_of_linkUp up]
  case hotReset =>
    intro p s up
    rw [exec_pcieHotReset, execPcieHotReset, State.pcieFlr_of_linkUp up]
  case perst =>
    intro p s t ht
    rw [exec_pciePerst, execPciePerst, ht]
  case power =>
    intro p d3 l1 cfg s new up hnew change
    rw [exec_pciePowerStateChange, execPciePowerStateChange_of_change up hnew change]
  case window =>
    intro p ws s up source notEnded words
    rw [exec_streamWindowWrite, execStreamWindowWrite_pcie up, State.windowWrite_of_open source notEnded words]
    rfl
  case spiWindow =>
    intro p ws s serves running idle source notEnded words
    rw [exec_streamWindowWrite, execStreamWindowWrite_spi serves, State.spiTake_of_free running idle, State.spiItem,
      State.windowWrite_of_open source notEnded words]
    rfl
  case spiWaits =>
    intro p ws s serves held
    rw [exec_streamWindowWrite, execStreamWindowWrite_spi serves, State.spiTake_of_held held]
  case sendEnd =>
    intro ag p v s key ended via source
    rw [exec_hpSendEnd, execHpSendEnd, State.hpSend_of_end key ended via source]
  case sret =>
    intro ag p s w ws queue closed
    rw [exec_hpSretRead, execHpSretRead, State.sretRead_of_cons queue closed]
  case spirel =>
    intro p q s t v other hv enabled ht
    rw [exec_hpSpirel, execHpSpirel, ← hv, State.hpCtlWrite_of_spirel other hv enabled ht]
  case read =>
    intro p a n s serves region aligned running idle
    rw [exec_spiRead, execSpiRead_of_serves serves region aligned, State.spiTake_of_free running idle, State.spiItem]
  case write =>
    intro p a ws s serves region aligned
    rw [exec_spiWrite, execSpiWrite_of_serves serves region aligned]
  case status =>
    intro p s runs running idle
    rw [exec_spiStatus, execSpiStatus_of_runs runs, State.spiTake_of_free running idle, State.spiItem, State.spiAnswer,
      State.spiStatus]
  case frameError =>
    intro p s
    rw [exec_spiFrameError, execSpiFrameError, State.spiError]

end Sys2Proof.Machine
end

section
/-! Opening a source (R233, R271). -/
namespace Sys2Proof.Machine

variable {s t : State} {c : Nat}

/-- An engine that has read nothing of the open source, and reads for no reload, may open a new one. -/
theorem State.openSource_of_new (legal : c ≠ 1 ∧ c ≠ 6) (new : c ≠ s.fld Reg.cfgPsrc 2 0) (noReload : s.reloadReads = false)
    (fresh : s.eng.arrived = false) (ht : t = (s.setFld Reg.cfgPsrc 2 0 c).engineIdle) : s.openSource c =
      if c = 0 then ((t.feed (t.fld Reg.cfgPflashAddr 29 0 / 4 * 4) (t.fld Reg.cfgPflashLen 29 0 / 4)).flashSuspend
        true).spentEnd 0
      else if s.fld Reg.cfgPsrc 2 0 = 0 then (t.flashResume true).journalFlush else t := by
  subst ht
  simp only [State.openSource]
  rw [if_neg]
  simp [legal, new, noReload, fresh]

end Sys2Proof.Machine
end

section
/-! Commit groups: arming, DISARM, DISCARD and the deadline (R242, R244, R245). -/
namespace Sys2Proof.Machine

variable {s t : State} {g : Nat} {v : Word}

/-! Of the three command bits DISCARD comes first, then DISARM. -/

theorem State.cgCtlWrite_of_discard (ht : t = s.plainWrite (Reg.cgCtl g) v) (discard : getBit v 3 = true) :
    s.cgCtlWrite g v = t.cgDiscard g := by
  simp [State.cgCtlWrite, ht, discard]

theorem State.cgCtlWrite_of_disarm (ht : t = s.plainWrite (Reg.cgCtl g) v) (noDiscard : getBit v 3 = false)
    (disarm : getBit v 2 = true) : s.cgCtlWrite g v = t.cgCancel g := by
  simp [State.cgCtlWrite, ht, noDiscard, disarm]

theorem State.cgCtlWrite_of_arm {revert : Bool} (ht : t = s.plainWrite (Reg.cgCtl g) v) (noDiscard : getBit v 3 = false)
    (noDisarm : getBit v 2 = false) (arm : getBit v 0 = true) (mode : getBit v 1 = revert) :
    s.cgCtlWrite g v = t.cgArm g revert := by
  simp [State.cgCtlWrite, ht, noDiscard, noDisarm, arm, mode]

/-! What an arming asks, and its effect. -/

/-- A commit needs members. -/
theorem State.armRefusal_commit_of_members (idle : s.cgState g = 0) (members : s.cgBays g ≠ 0 ∨ s.cgEdgeSet g ≠ 0) :
    s.armRefusal g false = none := by
  have nonempty : (s.cgBays g == 0 && s.cgEdgeSet g == 0) = false := by
    rw [Bool.and_eq_false_iff]
    exact members.imp beq_false_of_ne beq_false_of_ne
  simp [State.armRefusal, idle, nonempty]

/-- A revert needs a LAST whose units are all PREVIOUS, and no members. -/
theorem State.armRefusal_revert_of_previous (idle : s.cgState g = 0) (noBays : s.cgBays g = 0) (noEdge : s.cgEdgeSet g = 0)
    (last : s.lastUnits g ≠ []) (previous : ∀ u ∈ s.lastUnits g, s.shState u = 4) : s.armRefusal g true = none := by
  have allPrevious : (s.lastUnits g).any (fun u => s.shState u != 4) = false :=
    List.any_eq_false.mpr fun u hu => by simp [previous u hu]
  simp [State.armRefusal, idle, noBays, noEdge, last, allPrevious]

theorem State.cgArm_commit (accepted : s.armRefusal g false = none) : s.cgArm g false =
    (s.wr (Reg.cgStat g) (putBits (putBit (putBits (s.rd (Reg.cgStat g)) 1 0 1) 2 false) 6 4 0)).stageRefresh := by
  simp [State.cgArm, accepted]

/-- A group armed for a revert waits for its verify. -/
theorem State.cgArm_revert (accepted : s.armRefusal g true = none)
    (ht : t = s.wr (Reg.cgStat g) (putBits (putBit (putBits (s.rd (Reg.cgStat g)) 1 0 1) 2 true) 6 4 0)) :
    s.cgArm g true = ({ t with eng := { t.eng with revVerify := g :: t.eng.revVerify } } : State).stageRefresh := by
  simp [State.cgArm, accepted, ht]

theorem State.cgCancel_of_not_committing (free : s.cgState g ≠ 2) : s.cgCancel g = (s.cgDisarm g).cgResult g 4 :=
  if_neg free

theorem State.cgDiscard_of_not_committing (free : s.cgState g ≠ 2)
    (ht : t = (((((s.abortInto g).cgDisarm g).setUnits (s.cgUnits g) 5).wr (Reg.cgMask0 g) 0).wr (Reg.cgMask1 g) 0).wr
      (Reg.cgMask2 g) 0) : s.cgDiscard g = ((t.setFld (Reg.cgEdge g) 15 0 0).cgResult g 5).stageRefresh := by
  subst ht
  exact if_neg free

theorem execCgDeadlineExpiry_of_armed {g : Fin 8} (armed : s.cgState g.val = 1)
    (limited : s.fld (Reg.cgDeadline g.val) 23 0 ≠ 0) :
    execCgDeadlineExpiry g s = .next ((s.cgDisarm g.val).cgResult g.val 3) :=
  next_ite_of_guard ⟨armed, limited⟩

end Sys2Proof.Machine
end

section
/-! Releases and the ends of verify passes (R239, R248, R252, R271). -/
namespace Sys2Proof.Machine

variable {s t : State} {us : Upsets} {es : EntryErrs}

theorem execCommitRelease_of_flipped {g : Fin 9} {c : Commit}
    (flipped : s.eng.commits.find? (fun c => c.group == g.val && c.flipped) = some c) :
    execCommitRelease g s = .next (if g.val = 8 then s.reloadRelease c else s.groupRelease c) := by
  simp only [execCommitRelease, flipped]

/-! The verify of a partial staging comes before that of a full image's part. -/

theorem State.verifyEnd_of_match {j : VerifyJob} (job : s.eng.verify = some j) (ht : t = s.passRead j.bays j.edge us es)
    (matched : t.firstMismatch (unitsOf j.bays j.edge) false = none) : s.verifyEnd us es = t.verifyPass j := by
  subst ht
  simp only [State.verifyEnd, job, matched]

theorem State.verifyEnd_of_mismatch {j : VerifyJob} {k : Nat} (job : s.eng.verify = some j)
    (ht : t = s.passRead j.bays j.edge us es) (mismatch : t.firstMismatch (unitsOf j.bays j.edge) false = some k) :
    s.verifyEnd us es = t.verifyFail j k := by
  subst ht
  simp only [State.verifyEnd, job, mismatch]

theorem State.revertVerifyEnd_of_match {g : Nat} (pends : s.eng.revVerify.contains g = true)
    (ht : t = s.passRead (s.cgLast g) (s.cgLastEdge g) us es)
    (matched : ∀ u ∈ t.lastUnits g, t.firstMismatch [u] true = none) :
    s.revertVerifyEnd g us es = { t with eng := { t.eng with revVerify := t.eng.revVerify.filter (· != g) } } := by
  have noBad : (t.lastUnits g).filter (fun u => (t.firstMismatch [u] true).isSome) = [] :=
    List.filter_eq_nil_iff.mpr fun u hu => by simp [matched u hu]
  rw [State.revertVerifyEnd, if_pos pends, ← ht]
  exact if_pos noBad

end Sys2Proof.Machine
end

section
namespace Sys2Proof.Machine

/-- Settles O20, clause by clause: the three ways to change the source, the two armings, DISARM, DISCARD and the deadline,
the two releases, and the ends of a staging's verify and of a revert's. -/
theorem commitGroupCommandsComplete : Obligations.CommitGroupCommandsComplete := by
  refine ⟨?openOther, ?openFlash, ?leaveFlash, ?armCommit, ?armRevert, ?disarm, ?discard, ?deadline, ?groupRelease,
    ?reloadRelease, ?verifyPass, ?verifyFail, ?revertVerify⟩
  case openOther =>
    intro ag c s may notFlash legal1 legal6 new noReload fresh fromOther
    rw [exec_psrcOpen, execPsrcOpen, State.rws_of_mayWrite may,
      State.openSource_of_new ⟨legal1, legal6⟩ new noReload fresh rfl, if_neg notFlash, if_neg fromOther]
  case openFlash =>
    intro ag s t ht may fromOther noReload fresh
    rw [exec_psrcOpen, execPsrcOpen, State.rws_of_mayWrite may]
    exact congrArg _ ((State.openSource_of_new (by decide) fromOther.symm noReload fresh ht).trans (if_pos rfl))
  case leaveFlash =>
    intro ag c s may notFlash legal1 legal6 noReload fresh fromFlash
    rw [exec_psrcOpen, execPsrcOpen, State.rws_of_mayWrite may,
      State.openSource_of_new ⟨legal1, legal6⟩ (by rwa [fromFlash]) noReload fresh rfl, if_neg notFlash, if_pos fromFlash]
  case armCommit =>
    intro ag g s t ht may idle members
    rw [exec_cgArmCommit, execCgArmCommit, State.rws_of_mayWrite may]
    exact congrArg _ ((State.cgCtlWrite_of_arm ht rfl rfl rfl rfl).trans
      (State.cgArm_commit (State.armRefusal_commit_of_members idle members)))
  case armRevert =>
    intro ag g s t u ht may idle noBays noEdge last previous hu
    rw [exec_cgArmRevert, execCgArmRevert, State.rws_of_mayWrite may]
    exact congrArg _ ((State.cgCtlWrite_of_arm ht rfl rfl rfl rfl).trans
      (State.cgArm_revert (State.armRefusal_revert_of_previous idle noBays noEdge last previous) hu))
  case disarm =>
    intro ag g m s t ht may free
    rw [exec_cgDisarm, execCgDisarm, State.rws_of_mayWrite may,
      State.cgCtlWrite_of_disarm ht (by cases m <;> rfl) (by cases m <;> rfl), State.cgCancel_of_not_committing free]
  case discard =>
    intro ag g m s t u ht may free hu
    rw [exec_cgDiscard, execCgDiscard, State.rws_of_mayWrite may, State.cgCtlWrite_of_discard ht (by cases m <;> rfl),
      State.cgDiscard_of_not_committing free hu]
  case deadline =>
    intro g s armed limited
    rw [exec_cgDeadlineExpiry, execCgDeadlineExpiry_of_armed armed limited]
  case groupRelease =>
    intro g s c flipped group
    rw [exec_commitRelease, execCommitRelease_of_flipped flipped, if_neg (by omega)]
  case reloadRelease =>
    intro s c flipped
    rw [exec_commitRelease, execCommitRelease_of_flipped (g := 8) flipped]
    rfl
  case verifyPass =>
    intro us es s t j job ht matched
    rw [exec_stagedVerifyEnd, execStagedVerifyEnd, State.verifyEnd_of_match job ht matched]
  case verifyFail =>
    intro us es s t j k job ht mismatch
    rw [exec_stagedVerifyEnd, execStagedVerifyEnd, State.verifyEnd_of_mismatch job ht mismatch]
  case revertVerify =>
    intro g us es s t pends ht matched
    rw [exec_revertVerifyEnd, execRevertVerifyEnd, State.revertVerifyEnd_of_match pends ht matched]

end Sys2Proof.Machine
end

section
/-! The direct-write buffer (R254, R255). -/
namespace Sys2Proof.Machine

variable {s : State} {v w : Word}

theorem State.dwData_of_full (full : s.eng.dw.full = true) : s.dwData w = s.dwRefuse 7 :=
  if_pos full

/-- A word short of the 320th joins the frame. -/
theorem State.dwData_of_short (partly : s.eng.dw.full = false) (short : s.eng.dw.words.length < 319) :
    s.dwData w = s.setDw { s.eng.dw with words := w :: s.eng.dw.words } := by
  have joins : (w :: s.eng.dw.words).length < 320 := Nat.succ_lt_succ short
  exact (if_neg (Bool.eq_false_iff.mp partly)).trans (if_pos joins)

/-! The 320th word completes the frame, which is put to the test. -/

theorem State.dwData_of_accepted {f : BitVec 10240} (partly : s.eng.dw.full = false) (length : s.eng.dw.words.length = 319)
    (hf : f = frameOfWords (w :: s.eng.dw.words).reverse) (accepted : s.dwRefusal s.eng.dw.place f = none) :
    s.dwData w = s.setDw { s.eng.dw with words := [], full := true, buf := s.eng.dw.buf ++ [(s.eng.dw.place, f)] } := by
  subst hf
  have complete : ¬ (w :: s.eng.dw.words).length < 320 := by simp [length]
  simp only [State.dwData, partly, Bool.false_eq_true, if_false, if_neg complete, accepted]

theorem State.dwData_of_refused {c : Nat} (partly : s.eng.dw.full = false) (length : s.eng.dw.words.length = 319)
    (refused : s.dwRefusal s.eng.dw.place (frameOfWords (w :: s.eng.dw.words).reverse) = some c) :
    s.dwData w = (s.setDw { s.eng.dw with words := [], full := true }).dwRefuse c := by
  have complete : ¬ (w :: s.eng.dw.words).length < 320 := by simp [length]
  simp only [State.dwData, partly, Bool.false_eq_true, if_false, if_neg complete, refused]

theorem State.dwCtl_of_apply (idle : s.eng.dw.phase = .none) (apply : getBit v 8 = true) :
    s.dwCtl v = ((s.plainWrite Reg.cfgDwctl v).setBit Reg.cfgDwctl 8 true).setDw
      { s.eng.dw with phase := .queued, src := getBits v 5 0 } := by
  simp [State.dwCtl, idle, apply]

theorem State.dwCtl_of_clear (idle : s.eng.dw.phase = .none) (noApply : getBit v 8 = false) (clear : getBit v 9 = true) :
    s.dwCtl v = (s.plainWrite Reg.cfgDwctl v).setDw { s.eng.dw with buf := [] } := by
  simp [State.dwCtl, idle, noApply, clear]

theorem execDwApplyEnd_of_writing (writing : s.eng.dw.phase = .writing) : execDwApplyEnd s =
    .next (((s.setDw { s.eng.dw with phase := .none, buf := [] }).setBit Reg.cfgDwctl 8 false).raise 181) :=
  next_ite_of_guard writing

/-! CFG_DWCTL as a command writes it: one command bit, with BSEL below it. -/

theorem getBit_two_pow_add {k b : Nat} (word : k < 32) (below : b < 2 ^ k) : getBit (BitVec.ofNat 32 (2 ^ k + b)) k = true := by
  simp [getBit, BitVec.getLsbD_ofNat, word, Nat.testBit_two_pow_add_eq, Nat.testBit_lt_two_pow below]

theorem getBit_two_pow_add_below {k j b : Nat} (less : j < k) (below : b < 2 ^ j) :
    getBit (BitVec.ofNat 32 (2 ^ k + b)) j = false := by
  simp [getBit, BitVec.getLsbD_ofNat, Nat.testBit_two_pow_add_gt less, Nat.testBit_lt_two_pow below]

theorem bsel_of_apply (b : Fin 64) : getBits (BitVec.ofNat 32 (2 ^ 8 + b.val)) 5 0 = b.val := by
  simp only [getBits, BitVec.toNat_ofNat]
  omega

end Sys2Proof.Machine
end

section
namespace Sys2Proof.Machine

/-- Settles O21: the start of a frame, the four answers to a data word, APPLY, CLRBUF and the apply's end, then a panel's ISO
and PISO. -/
theorem directWritesAndPanelsComplete : Obligations.DirectWritesAndPanelsComplete := by
  refine ⟨?place, ?short, ?taken, ?refused, ?surplus, ?apply, ?clear, ?applyEnd, ?iso, ?piso⟩
  case place =>
    intro ag p s may
    rw [exec_dwPlaceWrite, execDwPlaceWrite, State.rws_of_mayWrite may, State.dwPlace]
  case short =>
    intro ag w s may partly short
    rw [exec_dwDataWrite, execDwDataWrite, State.rws_of_mayWrite may, State.dwData_of_short partly short]
  case taken =>
    intro ag w s f may partly length hf accepted
    rw [exec_dwDataWrite, execDwDataWrite, State.rws_of_mayWrite may, State.dwData_of_accepted partly length hf accepted]
  case refused =>
    intro ag w s c may partly length refused
    rw [exec_dwDataWrite, execDwDataWrite, State.rws_of_mayWrite may, State.dwData_of_refused partly length refused,
      State.dwRefuse]
  case surplus =>
    intro ag w s may full
    rw [exec_dwDataWrite, execDwDataWrite, State.rws_of_mayWrite may, State.dwData_of_full full, State.dwRefuse]
  case apply =>
    intro ag b s may idle
    have apply : getBit (BitVec.ofNat 32 (2 ^ 8 + b.val)) 8 = true := getBit_two_pow_add (by decide) (by omega)
    rw [exec_dwApply, execDwApply, State.rws_of_mayWrite may, State.dwCtl_of_apply idle apply, bsel_of_apply]
  case clear =>
    intro ag b s may idle
    have clear : getBit (BitVec.ofNat 32 (2 ^ 9 + b.val)) 9 = true := getBit_two_pow_add (by decide) (by omega)
    have noApply : getBit (BitVec.ofNat 32 (2 ^ 9 + b.val)) 8 = false := getBit_two_pow_add_below (by decide) (by omega)
    rw [exec_dwClearBuffer, execDwClearBuffer, State.rws_of_mayWrite may, State.dwCtl_of_clear idle noApply clear]
  case applyEnd =>
    intro s writing
    rw [exec_dwApplyEnd, execDwApplyEnd_of_writing writing]
  case iso =>
    intro ag g v s may
    rw [exec_panelIsoWrite, execPanelIsoWrite, State.rws_of_mayWrite may, State.pctlWrite]
  case piso =>
    intro g l s
    rw [exec_pisoChange, execPisoChange]

end Sys2Proof.Machine
end

section
/-! A frame read of the background pass (R263, R266), and the end of a write-back (R267). -/
namespace Sys2Proof.Machine

variable {s t u v : State} {w : Fin 2} {us : List (Fin 10240)} {e : Fin 4} {l k : Nat}

/-- While the pass runs and its wythe writes nothing back, it reads the frame at its position and moves on. -/
theorem execPntFrameRead_of_frame (runs : s.pntRuns = true) (idle : s.writeBack w.val = none)
    (frame : s.passFrame w.val = some (l, k)) (ht : t = (s.upsetFrame l k us).passNext w.val) :
    execPntFrameRead w us e s = .next (t.frameRead w.val l k e) := by
  simp [execPntFrameRead, runs, idle, frame, ht]

theorem execPntFrameRead_of_no_frame (runs : s.pntRuns = true) (idle : s.writeBack w.val = none)
    (last : s.passFrame w.val = none) : execPntFrameRead w us e s = .next (s.passEnd w.val) := by
  simp [execPntFrameRead, runs, idle, last]

/-- An entry that is not lost is compared with its frame. -/
theorem State.frameRead_of_compared {n : Nat} (compared : e ≠ 2) (hu : u = t.entryRead l k e) :
    t.frameRead n l k e = u.frameAct n l k (u.classify l k) := by
  subst hu
  exact if_neg compared

/-- A lost entry takes the check word of the frame as read, and nothing is compared (R261). -/
theorem State.frameRead_of_lost {n : Nat} (hv : v = t.setBit Reg.pntStat 3 true)
    (hu : u = v.setChk l k (frameCheck k (t.dynIn l k) (t.frameIn l k))) :
    t.frameRead n l k 2 = (u.logFrame l k 0 2 0 u.logTime).raise 199 := by
  subst hu hv
  simp only [State.frameRead, State.entryRead, if_true]

/-- A write-back inverts the bit it was begun for and reads the frame again; the match of the frame decides. -/
theorem execPntSbeWriteBackDone_of_writeBack {n b : Nat} {time : Word} (pending : s.writeBack w.val = some (n, b, time))
    (hl : l = n / 2 ^ 21) (hk : k = n % 2 ^ 21)
    (ht : t = { s with pnt := { s.pnt with writeBack := Store.erase s.pnt.writeBack w.val } })
    (hu : u = ((t.setFrame l k (flipBit (t.frameIn l k) b)).upsetFrame l k us).entryRead l k e) :
    execPntSbeWriteBackDone w ⟨us, e⟩ s = .next (if u.frameMatches l k then
      ((u.logFrame l k b 0 0 time).bumpSat Reg.pntSbecnt).raise 192 else u.multiBit l k) := by
  subst hu ht hk hl
  simp only [execPntSbeWriteBackDone, pending]

end Sys2Proof.Machine
end

section
/-! RESTART, the end of a hold, and the three commands of a reload (R263, R270, R271). -/
namespace Sys2Proof.Machine

variable {s t : State} {r : Reload}

/-- RESTART forgets the shadow positions and both live positions, whatever the other bits are. -/
theorem State.pntCtlWrite_of_restart {v : Word} (ht : t = s.plainWrite Reg.pntCtl v) (restart : getBit v 2 = true) :
    s.pntCtlWrite v =
      (({ t with pnt := { t.pnt with shadowPos := [] } } : State).wr (Reg.pntPos 0) 0).wr (Reg.pntPos 1) 0 := by
  subst ht
  exact if_pos restart

/-- A held bay leaves its hold, and no longer waits for a reload. -/
theorem State.holdClear_of_held {bay : Nat} (legal : bay < 96) (held : s.held bay = true) (ht : t = s.releaseUnits [bay]) :
    s.holdClear bay = ({ t with pnt := { t.pnt with wants := t.pnt.wants &&& (2 ^ 96 - 1 - 2 ^ bay) } } : State).reloadUnheld
      [bay] := by
  subst ht
  exact if_neg (by simp [legal, held])

/-- A waiting reload opens its slot where no staging is in progress and no source is open (step 2). -/
theorem execPntReloadOpen_of_waiting (reload : s.pnt.reload = some r) (waiting : r.step = .waiting)
    (noStaging : s.bit Reg.cfgStgstat 15 = false) (noSource : s.fld Reg.cfgPsrc 2 0 = 7)
    (mode : s.mode = 6 ∨ s.mode = 7 ∨ s.mode = 8) (length : s.fld (Reg.pntRlLen (s.baySlot r.bay)) 29 0 ≠ 0)
    (ht : t = (((s.setFld Reg.cfgPsrc 2 0 0).engineIdle).feed (s.fld (Reg.pntRlAddr (s.baySlot r.bay)) 29 0 / 4 * 4)
      (s.fld (Reg.pntRlLen (s.baySlot r.bay)) 29 0 / 4)).flashSuspend true) : execPntReloadOpen s =
      .next ({ t with pnt := { t.pnt with reload := some { r with step := .reading } } } : State).stageRefresh := by
  have serves : (s.mode == 6 || s.mode == 7 || s.mode == 8) = true := by simpa [or_assoc] using mode
  have ready : ¬ (r.step ≠ .waiting ∨ s.bit Reg.cfgStgstat 15 ∨ s.fld Reg.cfgPsrc 2 0 ≠ 7 ∨
      !(s.mode == 6 || s.mode == 7 || s.mode == 8)) := by
    simp only [waiting, noStaging, noSource, serves]
    decide
  subst ht
  simp only [execPntReloadOpen, reload, if_neg ready, if_neg length]

/-- The fire of a reload's manual boundary is not repeated once the boundary takes it (step 5). -/
theorem execPntReloadFire_of_posted (fire : s.pnt.fire = true) (manual : s.fld Reg.pntCfg 21 16 ≤ 7)
    (posted : s.mbAnswer (s.fld Reg.pntCfg 21 16) (s.now.addNs 200) = .posted) : execPntReloadFire s =
      .next (({ s with pnt := { s.pnt with fire := false } } : State).mbPost (s.fld Reg.pntCfg 21 16) (s.now.addNs 200)) := by
  simp [execPntReloadFire, fire, manual, posted]

/-- RLWAIT fails every reload whose bays have not begun to commit (step 7). -/
theorem execPntReloadWaitExpiry_of_not_committing (reload : s.pnt.reload = some r) (notYet : r.step ≠ .committing) :
    execPntReloadWaitExpiry s = .next (s.reloadFail 0x30) := by
  simp only [execPntReloadWaitExpiry, reload, if_neg notYet]

end Sys2Proof.Machine
end

section
namespace Sys2Proof.Machine

/-- Settles O22: what a frame read leads to by the frame's class, the two ends of a write-back, then RESTART, the end of a
hold, the log and the reload's commands. -/
theorem backgroundPassCommandsComplete : Obligations.BackgroundPassCommandsComplete := by
  refine ⟨?frameRead, ?passEnd, ?writeBack, ?restart, ?holdClear, ?logPop, ?reloadOpen, ?reloadFire, ?waitExpiry⟩
  case frameRead =>
    intro w us e s t u v x l k runs idle frame ht hu hv hx
    have compared (he : e ≠ 2) : exec (.pntFrameRead w us e) s = .next (u.frameAct w.val l k (u.classify l k)) := by
      rw [exec_pntFrameRead, execPntFrameRead_of_frame runs idle frame ht, State.frameRead_of_compared he hu]
    refine ⟨?clean, ?single, ?multi, ?lost⟩
    case clean =>
      intro he clean
      rw [compared he, clean, State.frameAct]
    case single =>
      intro b he single
      rw [compared he, single, State.frameAct]
    case multi =>
      intro he multi
      rw [compared he, multi, State.frameAct]
    case lost =>
      rw [exec_pntFrameRead, execPntFrameRead_of_frame runs idle frame ht, State.frameRead_of_lost hv hx]
  case passEnd =>
    intro w us e s runs idle last
    rw [exec_pntFrameRead, execPntFrameRead_of_no_frame runs idle last]
  case writeBack =>
    intro w us e s t u n b l k time pending hl hk ht hu
    rw [exec_pntSbeWriteBackDone, execPntSbeWriteBackDone_of_writeBack pending hl hk ht hu]
    constructor
    · intro right
      rw [if_pos right]
    · intro wrong
      rw [if_neg (Bool.eq_false_iff.mp wrong)]
  case restart =>
    intro ag en sh s t may ht
    have restart : getBit (BitVec.ofNat 32 (4 + 2 * sh.toNat + en.toNat)) 2 = true := by cases sh <;> cases en <;> rfl
    rw [exec_pntRestart, execPntRestart, State.rws_of_mayWrite may, State.pntCtlWrite_of_restart ht restart]
  case holdClear =>
    intro ag v s t may key legal held ht
    rw [exec_pntHoldClear, execPntHoldClear, State.rws_of_mayWrite may, if_pos key, State.holdClear_of_held legal held ht]
  case logPop =>
    intro ag s may
    rw [exec_pntLogPop, execPntLogPop, State.rws_of_mayWrite may, State.logPop]
  case reloadOpen =>
    intro s t r reload waiting noStaging noSource mode length ht
    rw [exec_pntReloadOpen, execPntReloadOpen_of_waiting reload waiting noStaging noSource mode length ht]
  case reloadFire =>
    intro s fire manual posted
    rw [exec_pntReloadFire, execPntReloadFire_of_posted fire manual posted]
  case waitExpiry =>
    intro s r reload notYet
    rw [exec_pntReloadWaitExpiry, execPntReloadWaitExpiry_of_not_committing reload notYet]

end Sys2Proof.Machine
end

section
/-! Which case of the sequencer answers a cycle, from an agent the controller serves that holds semaphore 1 (R278 to R280). -/
namespace Sys2Proof.Machine

variable {s : State} {ag : Agent} {off sec : Nat} {v : BitVec 64}

theorem State.flashBusy_of_not_flashOpBusy (free : s.flashOpBusy = false) : s.flashBusy = false := by
  rw [State.flashBusy, free, Bool.false_and]

variable (served : s.flashServes ag = true) (holder : s.holds ag 1 = true)
include served holder

/-- While a program waits for its data, every cycle is one of data. -/
theorem State.flashCycle_of_data {wide line : Bool} {a : Nat} {ws : List (BitVec 64)} {half : Option Word}
    (seq : s.flash.seq = .data line a ws half) : s.flashCycle ag off wide v = s.dataCycle ag off wide v line a ws half := by
  simp [State.flashCycle, served, holder, seq]

/-! In every other phase a cycle carries a command code of one byte, at an offset on the 8-byte grid. -/

theorem State.flashCycle_of_idle (seq : s.flash.seq = .idle) (code : v.toNat < 0x100) (grid : off % 8 = 0) :
    s.flashCycle ag off true v = s.idleCycle ag off v.toNat := by
  simp [State.flashCycle, served, holder, seq, grid, Nat.not_le.mpr code]

theorem State.flashCycle_of_unlocked (seq : s.flash.seq = .unlocked) (code : v.toNat < 0x100) (grid : off % 8 = 0) :
    s.flashCycle ag off true v = s.unlockedCycle ag off v.toNat := by
  simp [State.flashCycle, served, holder, seq, grid, Nat.not_le.mpr code]

theorem State.flashCycle_unlockSecond (seq : s.flash.seq = .unlock1) (free : s.flashBusy = false) :
    s.flashCycle ag unlockOff2 true 0x3C#64 = s.setSeq .unlocked := by
  simp [State.flashCycle, served, holder, seq, free, unlockOff2]

theorem State.flashCycle_eraseUnlockFirst (seq : s.flash.seq = .eraseSetup sec) :
    s.flashCycle ag unlockOff1 true 0xC3#64 = s.setSeq (.eraseUnlock1 sec) := by
  simp [State.flashCycle, served, holder, seq, unlockOff1]

theorem State.flashCycle_eraseUnlockSecond (seq : s.flash.seq = .eraseUnlock1 sec) :
    s.flashCycle ag unlockOff2 true 0x3C#64 = s.setSeq (.eraseUnlocked sec) := by
  simp [State.flashCycle, served, holder, seq, unlockOff2]

theorem State.flashCycle_eraseConfirm (seq : s.flash.seq = .eraseUnlocked sec) (grid : off % 8 = 0)
    (same : (s.cycleAddr off).map sectorOf = some sec) : s.flashCycle ag off true 0x71#64 = s.startErase ag off sec := by
  simp [State.flashCycle, served, holder, seq, grid, same]

end Sys2Proof.Machine
end

section
/-! What each command code does: after a complete unlock, and outside a sequence (R280, R281, R289, R290). -/
namespace Sys2Proof.Machine

variable {s : State} {ag : Agent} {off a : Nat}

theorem State.unlockedCycle_infoEntry (place : s.cycleAddr off = some a) (free : s.flashBusy = false) :
    s.unlockedCycle ag off 0x98 =
      (s.setSeq .idle).wr Reg.flcStat (putBit (putBit (s.rd Reg.flcStat) 7 false) 8 true) := by
  simp [State.unlockedCycle, place, free]

theorem State.unlockedCycle_programWord (place : s.cycleAddr off = some a) (free : s.flashOpBusy = false) :
    s.unlockedCycle ag off 0xA1 = s.setSeq (.data false a [] none) := by
  simp [State.unlockedCycle, place, free, State.flashBusy_of_not_flashOpBusy free]

theorem State.unlockedCycle_programLine (place : s.cycleAddr off = some a) (free : s.flashOpBusy = false)
    (line : a % 256 = 0) : s.unlockedCycle ag off 0xA5 = s.setSeq (.data true a [] none) := by
  simp [State.unlockedCycle, place, free, State.flashBusy_of_not_flashOpBusy free, line]

theorem State.unlockedCycle_eraseSetup (place : s.cycleAddr off = some a) (free : s.flashOpBusy = false) :
    s.unlockedCycle ag off 0xE7 = s.setSeq (.eraseSetup (sectorOf a)) := by
  simp [State.unlockedCycle, place, free, State.flashBusy_of_not_flashOpBusy free]

theorem State.idleCycle_unlockFirst (free : s.flashBusy = false) :
    s.idleCycle ag unlockOff1 0xC3 = s.setSeq .unlock1 := by
  simp [State.idleCycle, free]

section
variable (located : s.infoMode = true → off < 0x100000)
include located

theorem State.not_infoMode_past_block : ¬ (s.infoMode = true ∧ 0x100000 ≤ off) :=
  fun past => Nat.not_le.mpr (located past.1) past.2

theorem State.idleCycle_suspend : s.idleCycle ag off 0xB0 = s.flashSuspend false := by
  simp [State.idleCycle, State.not_infoMode_past_block located]

theorem State.idleCycle_resume (suspended : s.bit Reg.flcStat 4 = true) :
    s.idleCycle ag off 0x30 = s.setBit Reg.flcStat 4 false := by
  simp [State.idleCycle, State.not_infoMode_past_block located, suspended, State.flashResume]

theorem State.idleCycle_readStatus :
    s.idleCycle ag off 0x70 = s.wr Reg.flcStat (putBit (putBit (s.rd Reg.flcStat) 7 true) 8 false) := by
  simp [State.idleCycle, State.not_infoMode_past_block located]

theorem State.idleCycle_returnToRead :
    s.idleCycle ag off 0xF0 = s.wr Reg.flcStat (putBit (putBit (s.rd Reg.flcStat) 7 false) 8 false) := by
  simp [State.idleCycle, State.not_infoMode_past_block located]
end

/-! A source that asks waits for the pulse's end, unless the other source holds the operation already. -/

theorem State.flashSuspend_of_running (running : s.flashOpBusy = true) (free : s.flashSuspended = false) :
    s.flashSuspend false = { s with flash := { s.flash with reqFw := true } } := by
  simp [State.flashSuspend, running, free]

theorem State.flashSuspend_of_suspended (running : s.flashOpBusy = true) (suspended : s.flashSuspended = true) :
    s.flashSuspend false = s.setBit Reg.flcStat 4 true := by
  simp [State.flashSuspend, running, suspended]

end Sys2Proof.Machine
end

section
/-! The data cycles of a program, and what the last of them or a confirm starts (R280, R283, R285, R295). -/
namespace Sys2Proof.Machine

variable {s : State} {ag : Agent} {off a : Nat} {line : Bool} {ws : List (BitVec 64)} {v : BitVec 64}

/-- A whole word short of the last joins the program. -/
theorem State.dataCycle_of_more (place : s.cycleAddr off = some (a + 8 * ws.length))
    (more : ws.length + 1 ≠ if line then 32 else 1) :
    s.dataCycle ag off true v line a ws none = s.setSeq (.data line a (ws ++ [v]) none) := by
  simp [State.dataCycle, place, more]

/-- The last word starts the program. -/
theorem State.dataCycle_of_last (place : s.cycleAddr off = some (a + 8 * ws.length))
    (last : ws.length + 1 = if line then 32 else 1) :
    s.dataCycle ag off true v line a ws none = s.startProgram ag off line a (ws ++ [v]) := by
  simp [State.dataCycle, place, last]

theorem State.dataCycle_of_lower_half (place : s.cycleAddr off = some (a + 8 * ws.length)) :
    s.dataCycle ag off false v line a ws none = s.setSeq (.data line a ws (some (v.truncate 32))) := by
  simp [State.dataCycle, place]

/-- The upper half of the only word of a word program starts it. -/
theorem State.dataCycle_of_upper_half {lo : Word} (place : s.cycleAddr off = some (a + 4)) :
    s.dataCycle ag off false v false a [] (some lo) = s.startProgram ag off false a [(v.truncate 32) ++ lo] := by
  simp [State.dataCycle, place]

theorem State.startProgram_of_accepted (accepted : s.programRefusal a ws = none) :
    s.startProgram ag off line a ws = (s.setSeq .idle).flashStart
      { kind := if line then 2 else 1, sector := sectorOf a, addr := a, words := ws, stage := .program, attempts := 0
        logWord := 0, pulses := 0 } := by
  simp only [State.startProgram, accepted, State.setSeq]

theorem State.startErase_of_accepted {sec : Nat} (writable : s.flashProtected sec = false)
    (sound : (s.flash.entry sec).bad = false) :
    s.startErase ag off sec = (s.setSeq .idle).flashStart
      { kind := eraseKind sec, sector := sec, addr := (sectorSpan sec).1, words := []
        stage := if s.flash.nextLog < 8192 then .intent else .compactThenIntent, attempts := 0, logWord := 0, pulses := 0 } := by
  simp only [State.startErase, writable, sound, Bool.false_eq_true, if_false, State.setSeq]

end Sys2Proof.Machine
end

section
namespace Sys2Proof.Machine

/-- Settles O23: the unlock cycles, the commands that follow an unlock, the data cycles of whole words and of halves, the
confirm of an erase, and the commands outside a sequence. -/
theorem flashCommandCyclesComplete : Obligations.FlashCommandCyclesComplete := by
  refine ⟨?unlock, ?command, ?data, ?upperHalf, ?confirm, ?idle⟩
  case unlock =>
    intro ag s served holder
    refine ⟨?first, ?eraseFirst, ?second, ?eraseSecond⟩
    case first =>
      intro seq free
      rw [exec_flashUnlockFirst, execFlashUnlockFirst,
        State.flashCycle_of_idle served holder seq (by decide) (by decide)]
      exact congrArg _ (State.idleCycle_unlockFirst free)
    case eraseFirst =>
      intro sec seq
      rw [exec_flashUnlockFirst, execFlashUnlockFirst, State.flashCycle_eraseUnlockFirst served holder seq]
    case second =>
      intro seq free
      rw [exec_flashUnlockSecond, execFlashUnlockSecond, State.flashCycle_unlockSecond served holder seq free]
    case eraseSecond =>
      intro sec seq
      rw [exec_flashUnlockSecond, execFlashUnlockSecond, State.flashCycle_eraseUnlockSecond served holder seq]
  case command =>
    intro ag s off a served holder seq grid place
    have unlocked {v : BitVec 64} (code : v.toNat < 0x100) :
        s.flashCycle ag off true v = s.unlockedCycle ag off v.toNat :=
      State.flashCycle_of_unlocked served holder seq code grid
    refine ⟨fun free => ?info, fun free => ⟨?word, fun line => ?line, ?setup⟩⟩
    case info =>
      rw [exec_flashInfoEntryCmd, execFlashInfoEntryCmd, unlocked (by decide)]
      exact congrArg _ (State.unlockedCycle_infoEntry place free)
    case word =>
      rw [exec_flashProgramWordCmd, execFlashProgramWordCmd, unlocked (by decide)]
      exact congrArg _ (State.unlockedCycle_programWord place free)
    case line =>
      rw [exec_flashProgramLineCmd, execFlashProgramLineCmd, unlocked (by decide)]
      exact congrArg _ (State.unlockedCycle_programLine place free line)
    case setup =>
      rw [exec_flashEraseSetup, execFlashEraseSetup, unlocked (by decide)]
      exact congrArg _ (State.unlockedCycle_eraseSetup place free)
  case data =>
    intro ag s off a line ws v served holder seq place
    refine ⟨fun more => ?joins, fun last accepted => ?starts, ?lowerHalf⟩ <;>
      rw [exec_flashDataCycle, execFlashDataCycle, State.flashCycle_of_data served holder seq]
    case joins => rw [State.dataCycle_of_more place more]
    case starts => rw [State.dataCycle_of_last place last, State.startProgram_of_accepted accepted]
    case lowerHalf => rw [State.dataCycle_of_lower_half place]
  case upperHalf =>
    intro ag s off a lo v served holder seq place accepted
    rw [exec_flashDataCycle, execFlashDataCycle, State.flashCycle_of_data served holder seq,
      State.dataCycle_of_upper_half place, State.startProgram_of_accepted accepted]
    rfl
  case confirm =>
    intro ag s off sec served holder seq grid same writable sound
    rw [exec_flashEraseConfirm, execFlashEraseConfirm, State.flashCycle_eraseConfirm served holder seq grid same,
      State.startErase_of_accepted writable sound]
  case idle =>
    intro ag s off served holder seq grid located
    have idle {v : BitVec 64} (code : v.toNat < 0x100) : s.flashCycle ag off true v = s.idleCycle ag off v.toNat :=
      State.flashCycle_of_idle served holder seq code grid
    have suspend : exec (.flashSuspendCmd ag off) s = .next (s.flashSuspend false) := by
      rw [exec_flashSuspendCmd, execFlashSuspendCmd, idle (by decide)]
      exact congrArg _ (State.idleCycle_suspend located)
    refine ⟨fun running free => ?suspends, fun running suspended => ?joins, fun suspended => ?resume, ?status, ?read⟩
    case suspends => rw [suspend, State.flashSuspend_of_running running free]
    case joins => rw [suspend, State.flashSuspend_of_suspended running suspended]
    case resume =>
      rw [exec_flashResumeCmd, execFlashResumeCmd, idle (by decide)]
      exact congrArg _ (State.idleCycle_resume located suspended)
    case status =>
      rw [exec_flashReadStatusCmd, execFlashReadStatusCmd, idle (by decide)]
      exact congrArg _ (State.idleCycle_readStatus located)
    case read =>
      rw [exec_flashReturnToRead, execFlashReturnToRead, idle (by decide)]
      exact congrArg _ (State.idleCycle_returnToRead located)

end Sys2Proof.Machine
end

section
/-! The moment a suspend takes effect (R290, R291), and the reads of the array by others than the holder (R287, R288). -/
namespace Sys2Proof.Machine

variable {s t : State} {ag : Agent} {off : Nat}

/-- Short of the threshold the count of suspends only rises: nothing is reported. -/
theorem execFlashSuspendEffect_of_below_threshold (busy : s.flashBusy = true)
    (asked : s.flash.reqFw = true ∨ s.flash.reqEng = true)
    (below : s.fld Reg.flcSuspcnt 15 0 + 1 < max 1 (s.fld Reg.flcCfg 15 0)) (room : s.fld Reg.flcSuspcnt 15 0 < 0xFFFF)
    (ht : t = s.wr Reg.flcStat (putBit (putBit (s.rd Reg.flcStat) 4 s.flash.reqFw) 5 s.flash.reqEng)) :
    execFlashSuspendEffect s = .next (({ t with flash := { t.flash with reqFw := false, reqEng := false } } : State).wr
      Reg.flcSuspcnt (BitVec.ofNat 32 (s.fld Reg.flcSuspcnt 15 0 + 1 + min 0xFFFF (s.fld Reg.flcSuspcnt 31 16 + 1) * 2 ^ 16))) := by
  have pends : (s.flashBusy && (s.flash.reqFw || s.flash.reqEng)) = true := by simp [busy, asked]
  have count : min 0xFFFF (s.fld Reg.flcSuspcnt 15 0 + 1) = s.fld Reg.flcSuspcnt 15 0 + 1 := Nat.min_eq_right room
  subst ht
  simp only [execFlashSuspendEffect, if_pos pends, count, below.ne, false_and, if_false]

/-- A host's read of the busy die returns all ones at once. -/
theorem State.flashRead_of_busy (served : s.flashServes ag = true) (other : s.holds ag 1 = false) (busy : s.flashBusy = true)
    (host : hostReader ag = true) : s.flashRead ag off = (some 0xFFFFFFFF#32, s.busyRead) := by
  simp [State.flashRead, served, other, busy, host]

theorem State.flashRead_of_idle (served : s.flashServes ag = true) (other : s.holds ag 1 = false)
    (idle : s.flashBusy = false) (inside : off < 2 ^ 30) (kept : s.erasedUnder off = false) :
    s.flashRead ag off = (some (s.flash.word32 off), s) := by
  simp only [State.flashRead, served, other, idle, kept, Bool.false_and, Bool.not_true, Bool.false_eq_true, if_false, if_pos inside]

end Sys2Proof.Machine
end

section
/-! The ends of an operation's stages, where no suspend holds it (R286, R292, R295, R298, R300, R301). -/
namespace Sys2Proof.Machine

variable {s t u : State} {op o : FlashOp} {f : FlashState} {e : SecEntry} {n : Nat} {pass : Bool}

/-- A verify that fails, or that took more pulses than the limit, is no pass (R292). -/
theorem not_pass_within_limit {limit : Nat} (fail : pass = false ∨ limit < n) : ¬ (pass = true ∧ n ≤ limit) := by
  rintro ⟨rfl, within⟩
  exact fail.elim Bool.noConfusion within.not_gt

variable (running : s.flash.op = some op) (free : s.flashSuspended = false)
include running free

theorem execFlashProgramDone_of_pass (stage : op.stage = .program) (limit : n ≤ pulseLimit op.kind)
    (hf : f = (op.words.foldl (fun (p : FlashState × Nat) w => (p.1.program p.2 s.freeCtr w, p.2 + 8)) (s.flash, op.addr)).1) :
    execFlashProgramDone n true s = .next (((((s.withFlash f).flashEnd).lastOp op n false).wearReport op n).raise 200) := by
  subst hf
  simp [execFlashProgramDone, running, free, stage, limit]

theorem execFlashProgramDone_of_fail (stage : op.stage = .program) (fail : pass = false ∨ pulseLimit op.kind < n)
    (hf : f = (op.words.foldl (fun (p : FlashState × Nat) w =>
      (if w = BitVec.allOnes 64 then p.1 else p.1.spoilWord p.2 s.freeCtr, p.2 + 8)) (s.flash, op.addr)).1)
    (ho : o = { op with pulses := pulseLimit op.kind }) :
    execFlashProgramDone n pass s = .next (((s.withFlash f).wearReport o (pulseLimit op.kind)).failOp o) := by
  subst hf ho
  simp [execFlashProgramDone, running, free, stage, not_pass_within_limit fail]

/-- An intent programmed without a failure starts the erase, which remembers the intent's log word. -/
theorem execFlashIntentRecorded_of_no_fail (stage : op.stage = .intent) (attempts : op.attempts < 8)
    (blank : s.flash.nextLog < 8192)
    (ht : t = s.logProgram (logIntent (op.sector % 4096) (if op.sector < 4096 then 4 else 5)
      (min 0xFFFF ((s.flash.entry op.sector).erases + 1)))) : execFlashIntentRecorded 0 s =
      .next { t with flash := { t.flash with op := some { op with stage := .erase, logWord := s.flash.nextLog } } } := by
  subst ht
  simp [execFlashIntentRecorded, running, free, stage, Nat.not_le.mpr attempts, blank, State.spoilLogs]

theorem execFlashCompactionDone_of_intent (stage : op.stage = .compactThenIntent) :
    execFlashCompactionDone s = .next (s.compact.opStage op .intent) := by
  simp [execFlashCompactionDone, running, free, stage]

theorem execFlashCompactionDone_of_bad (stage : op.stage = .compactThenBad) :
    execFlashCompactionDone s = .next (s.compact.markBad op) := by
  simp [execFlashCompactionDone, running, free, stage]

theorem execFlashEraseDone_of_pass (stage : op.stage = .erase) (limit : n ≤ 500) (ht : t = s.logComplete op n)
    (he : e = { s.flash.entry op.sector with erases := min 0xFFFF ((s.flash.entry op.sector).erases + 1), half := false })
    (hu : u = { t with flash := (t.flash.eraseSector op.sector).setEntry op.sector e }) :
    execFlashEraseDone n true s = .next ((((u.flashEnd.halfReport).lastOp op n false).wearReport op n).raise 200) := by
  subst hu he ht
  simp [execFlashEraseDone, running, free, stage, limit]

theorem execFlashEraseDone_of_fail (stage : op.stage = .erase) (fail : pass = false ∨ 500 < n) (ht : t = s.logComplete op 500)
    (he : e = { s.flash.entry op.sector with erases := min 0xFFFF ((s.flash.entry op.sector).erases + 1), half := false })
    (hu : u = { t with flash := t.flash.setEntry op.sector e }) (ho : o = { op with pulses := 500 }) :
    execFlashEraseDone n pass s = .next ((u.wearReport o 500).failOp o) := by
  subst hu he ht ho
  simp [execFlashEraseDone, running, free, stage, not_pass_within_limit fail]

end Sys2Proof.Machine
end

section
namespace Sys2Proof.Machine

/-- Settles O24: a suspend, the two ends of a program, the intent, both compactions, the two ends of an erase, and the two
reads. -/
theorem flashOperationsEnd : Obligations.FlashOperationsEnd := by
  refine ⟨?suspend, ?programPass, ?programFail, ?intent, ?compactIntent, ?compactBad, ?erasePass, ?eraseFail, ?readBusy,
    ?readIdle⟩
  case suspend =>
    intro s t busy asked below room ht
    rw [exec_flashSuspendEffect, execFlashSuspendEffect_of_below_threshold busy asked below room ht]
  case programPass =>
    intro n s op f running stage free limit hf
    rw [exec_flashProgramDone, execFlashProgramDone_of_pass running free stage limit hf]
  case programFail =>
    intro n pass s op o f running stage free fail hf ho
    rw [exec_flashProgramDone, execFlashProgramDone_of_fail running free stage fail hf ho]
  case intent =>
    intro s t op running stage free attempts blank ht
    rw [exec_flashIntentRecorded, execFlashIntentRecorded_of_no_fail running free stage attempts blank ht]
  case compactIntent =>
    intro s op running stage free
    rw [exec_flashCompactionDone, execFlashCompactionDone_of_intent running free stage]
  case compactBad =>
    intro s op running stage free
    rw [exec_flashCompactionDone, execFlashCompactionDone_of_bad running free stage]
  case erasePass =>
    intro n s t u op e running stage free limit ht he hu
    rw [exec_flashEraseDone, execFlashEraseDone_of_pass running free stage limit ht he hu]
  case eraseFail =>
    intro n pass s t u op o e running stage free fail ht he hu ho
    rw [exec_flashEraseDone, execFlashEraseDone_of_fail running free stage fail ht he hu ho]
  case readBusy =>
    intro ag off s served other busy host
    rw [exec_flashHostReadBusy, execFlashHostReadBusy, State.flashRead_of_busy served other busy host, State.busyRead]
  case readIdle =>
    intro ag off s served other idle inside kept
    rw [exec_flashStalledReadDone, execFlashStalledReadDone, State.flashRead_of_idle served other idle inside kept]

end Sys2Proof.Machine
end

section
/-! Writes that LANE_TXEQ, LANE_RXEQ, LANE_PRBS and QCTL of a quad without an owner take (R305, R306). -/
namespace Sys2Proof.Machine

variable {s t : State} {n q : Nat} {v : Word}

section
variable (free : s.laneOwned n = false)
include free

theorem State.laneWrite_txeq : s.laneWrite n 8 v = s.txeqWrite n v := by
  simp [State.laneWrite, free]

theorem State.laneWrite_rxeq : s.laneWrite n 0xC v = s.rxeqWrite n v := by
  simp [State.laneWrite, free]

theorem State.laneWrite_prbs : s.laneWrite n 0x60 v = s.prbsWrite n v := by
  simp [State.laneWrite, free]

end

/-- A quad's registers are reached at its lane 0. -/
theorem State.laneWrite_qctl (free : s.laneOwned (4 * q) = false) : s.laneWrite (4 * q) 0x810 v = s.quadWrite q 0x810 v := by
  simp [State.laneWrite, free]

theorem State.txeqWrite_of_legal (sum : getBits v 3 0 + getBits v 9 4 + getBits v 14 10 = 63)
    (main : getBits v 3 0 + getBits v 14 10 + 8 ≤ getBits v 9 4) : s.txeqWrite n v = s.plainWrite (Reg.laneTxeq n) v := by
  rw [State.txeqWrite, if_pos ⟨sum, main⟩]

/-- LOADLG loads the last-good set (R319); without ADAPT the CTLE takes the written value all the same (R318). -/
theorem State.rxeqWrite_of_loadlg (load : getBit v 7 = true) (ht : t = (s.plainWrite (Reg.laneRxeq n) v).lgLoad n) :
    s.rxeqWrite n v = if getBit v 4 then t else t.setFld (Reg.laneRxeq n) 11 8 (getBits v 3 0) := by
  subst ht
  simp only [State.rxeqWrite, load, if_true]

/-- A clear that keeps the checker's pattern keeps its lock too (R329). -/
theorem State.prbsWrite_of_clear (pattern : getBits v 6 4 = s.fld (Reg.lanePrbs n) 6 4) (clear : getBit v 8 = true) :
    s.prbsWrite n v = (((s.plainWrite (Reg.lanePrbs n) v).wr (Reg.laneCntErr n) 0).wr (Reg.laneCntBitsLo n) 0).wr
      (Reg.laneCntBitsHi n) 0 := by
  simp [State.prbsWrite, pattern, clear]

theorem State.quadWrite_of_cal (cal : getBit v 8 = true)
    (ht : t = (s.plainWrite (0x100000 + 0x4000 * q + 0x810) v).setBit (Reg.qstat q) 7
      ([Reg.qplllCfg q, Reg.qplllFrac q, Reg.qpllhCfg q, Reg.qpllhFrac q, Reg.qctl q].any
        (s.plainWrite (0x100000 + 0x4000 * q + 0x810) v).pends)) : s.quadWrite q 0x810 v = t.calStart q := by
  subst ht
  rw [State.quadWrite, if_pos ⟨rfl, cal⟩]

theorem State.calStart_of_lanes_off (free : s.quadOwner q = 0)
    (off : ∀ i < 4, s.fld (Reg.laneCtl (4 * q + i)) 1 0 = 0 ∨ s.fld (Reg.laneCtl (4 * q + i)) 1 0 = 3) :
    s.calStart q = s.setBit (Reg.qstat q) 2 true := by
  rw [State.calStart, if_pos ⟨free, by simpa using off⟩]

end Sys2Proof.Machine
end

section
/-! The ends of a calibration (R328, R217) and of an eye window (R316, R317). -/
namespace Sys2Proof.Machine

variable {s t : State} {n q y : Nat} {e : EyeWindow} {qual : Bool}

section
variable (running : s.bit (Reg.qstat q) 2 = true)
  (ht : t = (List.range 4).foldl (fun t i => t.lgForget (4 * q + i))
    (s.setBoot { s.boot with calPend := s.boot.calPend &&& (2 ^ 16 - 1 - 2 ^ q) }))
include running ht

theorem State.calEnd_of_pass :
    s.calEnd q true = (t.wr (Reg.qstat q) (putBits (putBits (s.rd (Reg.qstat q)) 4 2 2) 6 5 0)).quadRefresh q := by
  subst ht
  simp [State.calEnd, running]

/-- A failure the keeper does not wait for at boot leaves no journal entry. -/
theorem State.calEnd_of_fail (unawaited : s.boot.calPend.testBit q = false) : s.calEnd q false =
    ((t.wr (Reg.qstat q) (putBit (putBits (s.rd (Reg.qstat q)) 4 2 4) 5 true)).laneErr (4 * q) 9).quadRefresh q := by
  subst ht
  simp [State.calEnd, running, unawaited]

end

theorem State.eyeEnd_of_frozen (frozen : s.windowFrozen n e = true) :
    s.eyeEnd n e = s.wr (Reg.laneEye n) (putBit (putBits (s.rd (Reg.laneEye n)) 25 24 2) 26
      (e.idleSet && (s.lanePcs n == 1 || s.lanePcs n == 2))) := by
  rw [State.eyeEnd, if_pos frozen]

theorem State.eyeEnd_of_not_frozen (moving : s.windowFrozen n e = false) (hy : y = min e.hfig.val e.vfig.val)
    (hq : qual = s.windowQualified n e)
    (ht : t = s.wr (Reg.laneEye n) (putBits (putBit (putBits (putBits (putBits (s.rd (Reg.laneEye n)) 7 0 y) 15 8 e.hfig.val) 23 16
      e.vfig.val) 24 qual) 26 25 0)) :
    s.eyeEnd n e = if s.bit (Reg.laneRxeq n) 4 then t.adaptEnd n y qual e else t := by
  subst hy hq ht
  rw [State.eyeEnd, if_neg (by simp [moving])]

end Sys2Proof.Machine
end

section
namespace Sys2Proof.Machine

/-- Settles O25: the four register writes of a lane no port owns, both ends of a calibration, both ends of an eye window, a
PLL's lock and its loss, and the end of the wake burst. -/
theorem laneAndQuadCommandsComplete : Obligations.LaneAndQuadCommandsComplete := by
  refine ⟨?txeq, ?loadlg, ?clear, ?calStart, ?calEnd, ?eyeFrozen, ?eyeShown, ?lock, ?lossOfLock, ?wakeBurst⟩
  case txeq =>
    intro ag n v s free sum main
    rw [exec_laneTxeqWrite, execLaneTxeqWrite, State.laneWrite_txeq free, State.txeqWrite_of_legal sum main]
  case loadlg =>
    intro ag n s t v free hv ht
    have load : getBit v 7 = true := hv ▸ Laws.getBit_putBit _ 7 true (by decide)
    rw [exec_laneLoadlg, execLaneLoadlg, ← hv, State.laneWrite_rxeq free, State.rxeqWrite_of_loadlg load ht]
  case clear =>
    intro ag n s free
    rw [exec_prbsClear, execPrbsClear, State.laneWrite_prbs free,
      State.prbsWrite_of_clear (Laws.getBits_putBit_other _ 8 6 4 true (by decide) (by decide))
        (Laws.getBit_putBit _ 8 true (by decide))]
  case calStart =>
    intro ag q s t free ht unowned off
    rw [exec_quadCalStart, execQuadCalStart, State.laneWrite_qctl free,
      State.quadWrite_of_cal (Laws.getBit_putBit _ 8 true (by decide)) ht, State.calStart_of_lanes_off unowned off]
  case calEnd =>
    intro q s t running ht
    constructor
    · rw [exec_quadCalDone, execQuadCalDone, State.calEnd_of_pass running ht]
    · intro unawaited
      rw [exec_quadCalTimeout, execQuadCalTimeout, State.calEnd_of_fail running ht unawaited]
  case eyeFrozen =>
    intro n e s up frozen
    rw [exec_eyeWindowEnd, execEyeWindowEnd, if_pos up, State.eyeEnd_of_frozen frozen]
  case eyeShown =>
    intro n e s t y q up moving hy hq ht
    rw [exec_eyeWindowEnd, execEyeWindowEnd, if_pos up, State.eyeEnd_of_not_frozen moving hy hq ht]
  case lock =>
    intro q h s relocks on
    rw [exec_qpllLock, execQpllLock, if_pos (.inl ⟨relocks, on⟩)]
  case lossOfLock =>
    intro q h s locked
    rw [exec_qpllLossOfLock, execQpllLossOfLock, if_pos locked]
  case wakeBurst =>
    intro n s t ht sends asleep
    subst ht
    rw [exec_laneWakeBurstEnd, execLaneWakeBurstEnd, if_neg (by simp [sends, asleep])]

/-- Settles O26: the receiver's lock and idle line, its alignments, a fault of each phase FIFO, the checker's lock, and a
word received. -/
theorem laneReceiverEventsComplete : Obligations.LaneReceiverEventsComplete := by
  refine ⟨?cdrLock, ?cdrLoss, ?rxidle, ?comma, ?alignLoss, ?blockLock, ?blockLoss, ?phaseFifo, ?checker, ?word⟩
  case cdrLock =>
    intro n s up pll unlocked
    rw [exec_cdrLockAcquired, execCdrLockAcquired, if_pos ⟨up, pll, by rw [unlocked]; rfl⟩]
  case cdrLoss =>
    intro n s locked
    rw [exec_cdrLockLost, execCdrLockLost, if_pos locked, State.cdrDrop]
  case rxidle =>
    intro n i s changes
    rw [exec_rxidleChange, execRxidleChange, if_neg changes]
  case comma =>
    intro n s t pcs align locked ht
    rw [exec_commaAlign, execCommaAlign, if_pos ⟨pcs, align, locked⟩, ← ht]
    cases s.bit (Reg.laneStat n.val) 3 <;> rfl
  case alignLoss =>
    intro n s aligned
    rw [exec_alignLost, execAlignLost, if_pos aligned]
  case blockLock =>
    intro n s gearbox locked unaligned
    rw [exec_blockLockAcquired, execBlockLockAcquired, if_pos ⟨gearbox, locked, by rw [unaligned]; rfl⟩]
  case blockLoss =>
    intro n s aligned
    rw [exec_blockLockLost, execBlockLockLost, if_pos aligned]
  case phaseFifo =>
    intro n s
    constructor
    · rw [exec_phaseFifoFault, execPhaseFifoFault, State.fifoFault, if_pos rfl]
    · rw [exec_phaseFifoFault, execPhaseFifoFault, State.fifoFault, if_neg Bool.false_ne_true]
  case checker =>
    intro n s lowest highest locked
    rw [exec_prbsCheckerLock, execPrbsCheckerLock, if_pos ⟨lowest, highest, locked⟩]
  case word =>
    intro n w s locked runs
    rw [exec_laneRxWord, execLaneRxWord, if_pos ⟨locked, by rw [runs]; rfl⟩]

end Sys2Proof.Machine
end

section
/-! What a step is (assumption 2): the tick of an idle block, or the front command on the block with the rest of the queue.
Every command keeps that rest. -/
namespace Sys2Proof.Machine

theorem step_of_pending_eq_nil {s : State} (empty : s.pending = []) : step s = .next s.idle := by
  rw [step, empty]

theorem step_of_pending_eq_cons {s : State} {c : Instr} {rest : List Instr} (waits : s.pending = c :: rest) :
    step s = exec c { s with pending := rest } := by
  rw [step, waits]

theorem step_cases {s t : State} (h : step s = .next t) :
    (s.pending = [] ∧ t = s.idle) ∨ ∃ c rest, s.pending = c :: rest ∧ exec c { s with pending := rest } = .next t := by
  cases waits : s.pending with
  | nil =>
    rw [step_of_pending_eq_nil waits] at h
    injection h with same
    exact .inl ⟨rfl, same.symm⟩
  | cons c rest => exact .inr ⟨c, rest, rfl, step_of_pending_eq_cons waits ▸ h⟩

/-- No command reaches what waits behind it. -/
theorem exec_pending {s t : State} : (c : Instr) → exec c s = .next t → t.pending = s.pending
  | .vinFall => execVinFall_pending s t
  | .powerUpComplete straps => execPowerUpComplete_pending straps s t
  | .resetNFall => execResetNFall_pending s t
  | .resetNRise => execResetNRise_pending s t
  | .strapLatch straps => execStrapLatch_pending straps s t
  | .keeperBootComplete agree xref vinOk => execKeeperBootComplete_pending agree xref vinOk s t
  | .startTestComplete hub rep => execStartTestComplete_pending hub rep s t
  | .programNFall => execProgramNFall_pending s t
  | .programNRise => execProgramNRise_pending s t
  | .sysCtlReload ag v => execSysCtlReload_pending ag v s t
  | .thermalSample bays hub => execThermalSample_pending bays hub s t
  | .regulatorFault r => execRegulatorFault_pending r s t
  | .railWarning r => execRailWarning_pending r s t
  | .vinLow => execVinLow_pending s t
  | .srcWaitExpiry => execSrcWaitExpiry_pending s t
  | .priorityCommit => execPriorityCommit_pending s t
  | .priorityInitLeave => execPriorityInitLeave_pending s t
  | .priorityOutputEnable => execPriorityOutputEnable_pending s t
  | .priorityStageTimeout => execPriorityStageTimeout_pending s t
  | .mainCommit => execMainCommit_pending s t
  | .xwaitExpiry present => execXwaitExpiry_pending present s t
  | .releaseStart => execReleaseStart_pending s t
  | .releaseInitLeave => execReleaseInitLeave_pending s t
  | .releaseOutputEnable => execReleaseOutputEnable_pending s t
  | .releaseDoneRelease => execReleaseDoneRelease_pending s t
  | .doneHigh => execDoneHigh_pending s t
  | .doneWaitExpiry => execDoneWaitExpiry_pending s t
  | .journalEraseStart => execJournalEraseStart_pending s t
  | .bootClear ag v => execBootClear_pending ag v s t
  | .bankRepower b => execBankRepower_pending b s t
  | .refinLost => execRefinLost_pending s t
  | .refinRestored => execRefinRestored_pending s t
  | .xrefLost => execXrefLost_pending s t
  | .xrefRestored => execXrefRestored_pending s t
  | .hubSynthLock => execHubSynthLock_pending s t
  | .clkHubWrite ag v => execClkHubWrite_pending ag v s t
  | .synthGlideDone n => execSynthGlideDone_pending n s t
  | .synthDividerDone n => execSynthDividerDone_pending n s t
  | .synthLock n => execSynthLock_pending n s t
  | .synthLossOfLock n => execSynthLossOfLock_pending n s t
  | .synthHoldoverExit n => execSynthHoldoverExit_pending n s t
  | .glitchFreeSwitchDone net => execGlitchFreeSwitchDone_pending net s t
  | .glitchFreeSwitchForced net => execGlitchFreeSwitchForced_pending net s t
  | .rimSelectWrite ag reg v => execRimSelectWrite_pending ag reg v s t
  | .hardBlockGateRequest ag blk => execHardBlockGateRequest_pending ag blk s t
  | .hardBlockGateApply blk => execHardBlockGateApply_pending blk s t
  | .hardBlockGateRefused blk => execHardBlockGateRefused_pending blk s t
  | .hardBlockGateOpen ag blk => execHardBlockGateOpen_pending ag blk s t
  | .fmWindowEnd m count => execFmWindowEnd_pending m count s t
  | .fmSourceWrite ag m v => execFmSourceWrite_pending ag m v s t
  | .adjStep ag => execAdjStep_pending ag s t
  | .adjSlew ag => execAdjSlew_pending ag s t
  | .slewDone => execSlewDone_pending s t
  | .syncCapture x falling => execSyncCapture_pending x falling s t
  | .captureRead ag x => execCaptureRead_pending ag x s t
  | .ppsInLost => execPpsInLost_pending s t
  | .ppsOutPulse => execPpsOutPulse_pending s t
  | .ppsOutPulseEnd => execPpsOutPulseEnd_pending s t
  | .mbFire ag i ctl => execMbFire_pending ag i ctl s t
  | .boundaryLatch src => execBoundaryLatch_pending src s t
  | .boundaryDelivery src => execBoundaryDelivery_pending src s t
  | .snapshotRead ag off => execSnapshotRead_pending ag off s t
  | .syncWord => execSyncWord_pending s t
  | .packetBadHeader w => execPacketBadHeader_pending w s t
  | .nop => execNop_pending s t
  | .writeIdcode ws => execWriteIdcode_pending ws s t
  | .writeForm ws => execWriteForm_pending ws s t
  | .writeKeysel ws => execWriteKeysel_pending ws s t
  | .writeSid ws => execWriteSid_pending ws s t
  | .writeIv ws => execWriteIv_pending ws s t
  | .writeBodylen ws => execWriteBodylen_pending ws s t
  | .writeBound ws => execWriteBound_pending ws s t
  | .writeGroup ws => execWriteGroup_pending ws s t
  | .writePlfloor ws => execWritePlfloor_pending ws s t
  | .writeClkset ws => execWriteClkset_pending ws s t
  | .stepNone v => execStepNone_pending v s t
  | .stepStage => execStepStage_pending s t
  | .stageClearDone => execStageClearDone_pending s t
  | .stepFinish => execStepFinish_pending s t
  | .stepAbort => execStepAbort_pending s t
  | .writePlace ws => execWritePlace_pending ws s t
  | .writeFrames dyn ws => execWriteFrames_pending dyn ws s t
  | .zero dyn n => execZero_pending dyn n s t
  | .repeatPacket dyn n => execRepeat_pending dyn n s t
  | .patch dyn ps => execPatch_pending dyn ps s t
  | .body => execBody_pending s t
  | .writeSeal ws => execWriteSeal_pending ws s t
  | .clksetLockWaitEnd => execClksetLockWaitEnd_pending s t
  | .writeCrcv ws => execWriteCrcv_pending ws s t
  | .readFrames n => execReadFrames_pending n s t
  | .readPlace => execReadPlace_pending s t
  | .readStat => execReadStat_pending s t
  | .sectionPacket sel len => execSection_pending sel len s t
  | .endPacket => execEnd_pending s t
  | .streamSourceEnd => execStreamSourceEnd_pending s t
  | .stagedVerifyEnd us => execStagedVerifyEnd_pending us s t
  | .psrcOpen ag c => execPsrcOpen_pending ag c s t
  | .unopenedSourceWords => execUnopenedSourceWords_pending s t
  | .cgArmCommit ag g => execCgArmCommit_pending ag g s t
  | .cgArmRevert ag g => execCgArmRevert_pending ag g s t
  | .cgDisarm ag g mode => execCgDisarm_pending ag g mode s t
  | .cgDiscard ag g mode => execCgDiscard_pending ag g mode s t
  | .cgDeadlineExpiry g => execCgDeadlineExpiry_pending g s t
  | .commitRelease g => execCommitRelease_pending g s t
  | .revertVerifyEnd g us => execRevertVerifyEnd_pending g us s t
  | .dwPlaceWrite ag p => execDwPlaceWrite_pending ag p s t
  | .dwDataWrite ag w => execDwDataWrite_pending ag w s t
  | .dwApply ag bsel => execDwApply_pending ag bsel s t
  | .dwClearBuffer ag bsel => execDwClearBuffer_pending ag bsel s t
  | .dwApplyEnd => execDwApplyEnd_pending s t
  | .panelIsoWrite ag g v => execPanelIsoWrite_pending ag g v s t
  | .pisoChange g level => execPisoChange_pending g level s t
  | .pntFrameRead w upset entry => execPntFrameRead_pending w upset entry s t
  | .pntSbeWriteBackDone w upset => execPntSbeWriteBackDone_pending w upset s t
  | .pntRestart ag en shadow => execPntRestart_pending ag en shadow s t
  | .pntHoldClear ag v => execPntHoldClear_pending ag v s t
  | .pntReloadOpen => execPntReloadOpen_pending s t
  | .pntReloadFire => execPntReloadFire_pending s t
  | .pntReloadWaitExpiry => execPntReloadWaitExpiry_pending s t
  | .pntLogPop ag => execPntLogPop_pending ag s t
  | .flashUnlockFirst ag off => execFlashUnlockFirst_pending ag off s t
  | .flashUnlockSecond ag off => execFlashUnlockSecond_pending ag off s t
  | .flashProgramWordCmd ag off => execFlashProgramWordCmd_pending ag off s t
  | .flashProgramLineCmd ag off => execFlashProgramLineCmd_pending ag off s t
  | .flashDataCycle ag off wide v => execFlashDataCycle_pending ag off wide v s t
  | .flashEraseSetup ag off => execFlashEraseSetup_pending ag off s t
  | .flashEraseConfirm ag off => execFlashEraseConfirm_pending ag off s t
  | .flashSuspendCmd ag off => execFlashSuspendCmd_pending ag off s t
  | .flashResumeCmd ag off => execFlashResumeCmd_pending ag off s t
  | .flashReadStatusCmd ag off => execFlashReadStatusCmd_pending ag off s t
  | .flashInfoEntryCmd ag off => execFlashInfoEntryCmd_pending ag off s t
  | .flashReturnToRead ag off => execFlashReturnToRead_pending ag off s t
  | .flashSuspendEffect => execFlashSuspendEffect_pending s t
  | .flashProgramDone pulses pass => execFlashProgramDone_pending pulses pass s t
  | .flashIntentRecorded fails => execFlashIntentRecorded_pending fails s t
  | .flashCompactionDone => execFlashCompactionDone_pending s t
  | .flashEraseDone pulses pass => execFlashEraseDone_pending pulses pass s t
  | .flashHostReadBusy ag off => execFlashHostReadBusy_pending ag off s t
  | .flashStalledReadDone ag off => execFlashStalledReadDone_pending ag off s t
  | .laneTxeqWrite ag n v => execLaneTxeqWrite_pending ag n v s t
  | .laneWakeBurstEnd n => execLaneWakeBurstEnd_pending n s t
  | .cdrLockAcquired n => execCdrLockAcquired_pending n s t
  | .cdrLockLost n => execCdrLockLost_pending n s t
  | .rxidleChange n idle => execRxidleChange_pending n idle s t
  | .eyeWindowEnd n e => execEyeWindowEnd_pending n e s t
  | .laneLoadlg ag n => execLaneLoadlg_pending ag n s t
  | .commaAlign n => execCommaAlign_pending n s t
  | .alignLost n => execAlignLost_pending n s t
  | .blockLockAcquired n => execBlockLockAcquired_pending n s t
  | .blockLockLost n => execBlockLockLost_pending n s t
  | .phaseFifoFault n tx => execPhaseFifoFault_pending n tx s t
  | .qpllLock q w => execQpllLock_pending q w s t
  | .qpllLossOfLock q w => execQpllLossOfLock_pending q w s t
  | .quadCalStart ag q => execQuadCalStart_pending ag q s t
  | .quadCalDone q pass => execQuadCalDone_pending q pass s t
  | .quadCalTimeout q => execQuadCalTimeout_pending q s t
  | .prbsClear ag n => execPrbsClear_pending ag n s t
  | .prbsCheckerLock n => execPrbsCheckerLock_pending n s t
  | .wpEnable ag p => execWpEnable_pending ag p s t
  | .wpDisable ag p => execWpDisable_pending ag p s t
  | .wpRetrain ag p => execWpRetrain_pending ag p s t
  | .waleTrnSet p lane w => execWaleTrnSet_pending p lane w s t
  | .waleTrainTimeout p => execWaleTrainTimeout_pending p s t
  | .waleLinkUp p => execWaleLinkUp_pending p s t
  | .waleAutoRetrain p => execWaleAutoRetrain_pending p s t
  | .waleBlockBad p fmt => execWaleBlockBad_pending p fmt s t
  | .waleAck p aseq junk => execWaleAck_pending p aseq junk s t
  | .waleNak p aseq junk => execWaleNak_pending p aseq junk s t
  | .waleAckSend p => execWaleAckSend_pending p s t
  | .waleAckTimerExpiry p => execWaleAckTimerExpiry_pending p s t
  | .waleLaneFail p lane => execWaleLaneFail_pending p lane s t
  | .waleLaneReadmitReady p lane => execWaleLaneReadmitReady_pending p lane s t
  | .waleLmgDrop p set junk => execWaleLmgDrop_pending p set junk s t
  | .waleLmgReadmit p set junk => execWaleLmgReadmit_pending p set junk s t
  | .waleLmgSleep p junk => execWaleLmgSleep_pending p junk s t
  | .waleLmgDown p junk => execWaleLmgDown_pending p junk s t
  | .waleTimeExchangeStart fine => execWaleTimeExchangeStart_pending fine s t
  | .waleTsyRequest p xn fine turn junk => execWaleTsyRequest_pending p xn fine turn junk s t
  | .waleTsyResponse p xn fine junk => execWaleTsyResponse_pending p xn fine junk s t
  | .waleTimeFollowUp p b => execWaleTimeFollowUp_pending p b s t
  | .waleFollowUpTimeout => execWaleFollowUpTimeout_pending s t
  | .waleWrite p b mem => execWaleWrite_pending p b mem s t
  | .waleRead p b mem => execWaleRead_pending p b mem s t
  | .waleCompletion p b => execWaleCompletion_pending p b s t
  | .waleMessage p b => execWaleMessage_pending p b s t
  | .waleGangBlock p b => execWaleGangBlock_pending p b s t
  | .waleAdvert p b => execWaleAdvert_pending p b s t
  | .waleAdvertTimer => execWaleAdvertTimer_pending s t
  | .waleAdvertExpiry p => execWaleAdvertExpiry_pending p s t
  | .waleJoin p b => execWaleJoin_pending p b s t
  | .waleBnd p b => execWaleBnd_pending p b s t
  | .waleBndref p b => execWaleBndref_pending p b s t
  | .waleVoteCutoff src => execWaleVoteCutoff_pending src s t
  | .waleVote p b => execWaleVote_pending p b s t
  | .waleVerdictTimer num den => execWaleVerdictTimer_pending num den s t
  | .waleVerdict p b => execWaleVerdict_pending p b s t
  | .waleAlarm p b => execWaleAlarm_pending p b s t
  | .waleDoneUpSend => execWaleDoneUpSend_pending s t
  | .waleDoneUp p b => execWaleDoneUp_pending p b s t
  | .waleSysdone p b => execWaleSysdone_pending p b s t
  | .waleSystemDoneInstant => execWaleSystemDoneInstant_pending s t
  | .waleSleepMsg p b => execWaleSleepMsg_pending p b s t
  | .waleAwake p b => execWaleAwake_pending p b s t
  | .waleWake p b => execWaleWake_pending p b s t
  | .waleRqGo ag n op ack len => execWaleRqGo_pending ag n op ack len s t
  | .waleRequestDeadline tag => execWaleRequestDeadline_pending tag s t
  | .waleMqPop ag => execWaleMqPop_pending ag s t
  | .waleGangGo ag hamper bcast dest => execWaleGangGo_pending ag hamper bcast dest s t
  | .waleGangAbort ag blocks => execWaleGangAbort_pending ag blocks s t
  | .waleGangSendEnd => execWaleGangSendEnd_pending s t
  | .waleGangStreamTimeout => execWaleGangStreamTimeout_pending s t
  | .pcieLinkUp port gen width => execPcieLinkUp_pending port gen width s t
  | .pcieLinkDown port => execPcieLinkDown_pending port s t
  | .pcieFlr port => execPcieFlr_pending port s t
  | .pcieHotReset port => execPcieHotReset_pending port s t
  | .pciePerst port => execPciePerst_pending port s t
  | .streamWindowWrite port spi words => execStreamWindowWrite_pending port spi words s t
  | .hpSendEnd ag port v => execHpSendEnd_pending ag port v s t
  | .hpSretRead ag port => execHpSretRead_pending ag port s t
  | .hpSpirel ag port => execHpSpirel_pending ag port s t
  | .spiRead port addr n => execSpiRead_pending port addr n s t
  | .spiWrite port addr words => execSpiWrite_pending port addr words s t
  | .spiStatus port => execSpiStatus_pending port s t
  | .spiFrameError port => execSpiFrameError_pending port s t
  | .semAcquire ag n => execSemAcquire_pending ag n s t
  | .semRelease ag n => execSemRelease_pending ag n s t
  | .semForce ag v => execSemForce_pending ag v s t
  | .mbRing ag m => execMbRing_pending ag m s t
  | .mbAck ag m => execMbAck_pending ag m s t
  | .mbDataWrite ag m i v => execMbDataWrite_pending ag m i v s t
  | .hamperTrainDone pass => execHamperTrainDone_pending pass s t
  | .hamperTrainTimeout => execHamperTrainTimeout_pending s t
  | .hamperPortRequest n rq => execHamperPortRequest_pending n rq s t
  | .hamperAccessDone src sev => execHamperAccessDone_pending src sev s t
  | .hamperRefresh => execHamperRefresh_pending s t
  | .hamperTempRead temp => execHamperTempRead_pending temp s t
  | .hamperRetrain ag => execHamperRetrain_pending ag s t
  | .hamperRetrainDrained => execHamperRetrainDrained_pending s t
  | .hamperDrainTimeout => execHamperDrainTimeout_pending s t
  | .hamperRetrainDone => execHamperRetrainDone_pending s t
  | .hamperSelfRefreshExit => execHamperSelfRefreshExit_pending s t
  | .clusterRunWrite ag v => execClusterRunWrite_pending ag v s t
  | .wdEnable i => execWdEnable_pending i s t
  | .wdKick i v => execWdKick_pending i v s t
  | .wdExpiry i => execWdExpiry_pending i s t
  | .gwWindowAccess ag req => execGwWindowAccess_pending ag req s t
  | .gwWindowResponse port tag data err => execGwWindowResponse_pending port tag data err s t
  | .gwWindowTimeout port tag => execGwWindowTimeout_pending port tag s t
  | .gwMasterRequest port req => execGwMasterRequest_pending port req s t
  | .gwMasterDone port tag => execGwMasterDone_pending port tag s t
  | .eventRaise n => execEventRaise_pending n s t
  | .userEventEdge w j => execUserEventEdge_pending w j s t
  | .evtClaim ag c => execEvtClaim_pending ag c s t
  | .evtRaiseWrite ag v => execEvtRaiseWrite_pending ag v s t
  | .plRequest ag v => execPlRequest_pending ag v s t
  | .plRampDone => execPlRampDone_pending s t
  | .modeRequestDoze ag => execModeRequestDoze_pending ag s t
  | .modeRequestSleep ag => execModeRequestSleep_pending ag s t
  | .modeRequestStandby ag => execModeRequestStandby_pending ag s t
  | .quiesceDone => execQuiesceDone_pending s t
  | .quiesceTimeout busy => execQuiesceTimeout_pending busy s t
  | .sleepEntered => execSleepEntered_pending s t
  | .wakeSource src port => execWakeSource_pending src port s t
  | .wakeTimerExpiry => execWakeTimerExpiry_pending s t
  | .sleepWakeRun stale => execSleepWakeRun_pending stale s t
  | .soundingRequest ag v => execSoundingRequest_pending ag v s t
  | .soundingAbort ag => execSoundingAbort_pending ag s t
  | .soundingCopyDone => execSoundingCopyDone_pending s t
  | .soundingRunDone r => execSoundingRunDone_pending r s t
  | .soundingMoveBackDone => execSoundingMoveBackDone_pending s t
  | .loadingSoundingBatchDone rep => execLoadingSoundingBatchDone_pending rep s t
  | .fuseBurn ag v => execFuseBurn_pending ag v s t
  | .fuseBurnDone => execFuseBurnDone_pending s t
  | .staleClear ag v => execStaleClear_pending ag v s t
  | .creelScrubStep n => execCreelScrubStep_pending n s t
  | .creelScrubWriteBack n => execCreelScrubWriteBack_pending n s t
  | .lcTransition ag => execLcTransition_pending ag s t
  | .lcSetOwner ag => execLcSetOwner_pending ag s t
  | .lcSetKeyFuse ag => execLcSetKeyFuse_pending ag s t
  | .lcLoadKeyBbr ag => execLcLoadKeyBbr_pending ag s t
  | .lcClearKeyBbr ag => execLcClearKeyBbr_pending ag s t
  | .lcDebugToken ag jtag => execLcDebugToken_pending ag jtag s t
  | .lcReqbufClear ag => execLcReqbufClear_pending ag s t
  | .lcRequestVerified vinOk => execLcRequestVerified_pending vinOk s t
  | .lcBurnDone failed => execLcBurnDone_pending failed s t
  | .tamperEvent cause => execTamperEvent_pending cause s t
  | .zeroiseWrite ag v => execZeroiseWrite_pending ag v s t
  | .debugClose ag => execDebugClose_pending ag s t
  | .jtagTapReset => execJtagTapReset_pending s t
  | .jtagLcTokenUpdate shifts bytes => execJtagLcTokenUpdate_pending shifts bytes s t
  | .jtagExtest => execJtagExtest_pending s t
  | .jtagClamp => execJtagClamp_pending s t
  | .jtagHighz => execJtagHighz_pending s t
  | .jtagIdcode => execJtagIdcode_pending s t
  | .jtagSamplePreload => execJtagSamplePreload_pending s t
  | .jtagLcToken => execJtagLcToken_pending s t
  | .jtagLcStatus => execJtagLcStatus_pending s t
  | .jtagDmi => execJtagDmi_pending s t
  | .jtagGrenricTest code => execJtagGrenricTest_pending code s t
  | .jtagBypass => execJtagBypass_pending s t
  | .registerWrite ag off v full => execRegisterWrite_pending ag off v full s t
  | .stakeNetEdge bay net rising pins => execStakeNetEdge_pending bay net rising pins s t
  | .laneRxWord n w => execLaneRxWord_pending n w s t
  | .vbatLow => execVbatLow_pending s t
  | .pciePowerStateChange port d3hot l1 cfg => execPciePowerStateChange_pending port d3hot l1 cfg s t
  | .clusterBusAccess core acc => execClusterBusAccess_pending core acc s t

/-- Settles O1, by the definition of a step. -/
theorem stepRunsTheFrontCommand : Obligations.StepRunsTheFrontCommand := by
  intro c s q
  exact step_of_pending_eq_cons rfl

/-- Settles O2: the tick does not reach the queue. -/
theorem anEmptyQueueTicksTheClock : Obligations.AnEmptyQueueTicksTheClock := by
  intro s empty
  exact ⟨step_of_pending_eq_nil empty, by rw [State.idle_pending, empty]⟩

/-- Settles O3: the tick keeps the queue empty, and the front command keeps the rest of it. -/
theorem theQueueIsFirstInFirstOut : Obligations.TheQueueIsFirstInFirstOut := by
  intro s t h
  obtain ⟨empty, rfl⟩ | ⟨c, rest, waits, runs⟩ := step_cases h
  · rw [State.idle_pending, empty, List.tail_nil]
  · rw [waits, exec_pending c runs, List.tail_cons]

end Sys2Proof.Machine
end

section
/-! The life-cycle fuses (R452): which commands can blow one, and that none restores one. -/
namespace Sys2Proof.Machine

/-- A fuse is blown by the end of a burn, or by a restart that cuts a burn short. -/
theorem exec_fuses {s t : State} : (c : Instr) → mayBlowFuses c = false → exec c s = .next t → t.keys.fuses = s.keys.fuses
  | .resetNFall, _ => execResetNFall_fuses s t
  | .strapLatch straps, _ => execStrapLatch_fuses straps s t
  | .startTestComplete hub rep, _ => execStartTestComplete_fuses hub rep s t
  | .programNRise, _ => execProgramNRise_fuses s t
  | .thermalSample bays hub, _ => execThermalSample_fuses bays hub s t
  | .regulatorFault r, _ => execRegulatorFault_fuses r s t
  | .railWarning r, _ => execRailWarning_fuses r s t
  | .vinLow, _ => execVinLow_fuses s t
  | .srcWaitExpiry, _ => execSrcWaitExpiry_fuses s t
  | .priorityCommit, _ => execPriorityCommit_fuses s t
  | .priorityInitLeave, _ => execPriorityInitLeave_fuses s t
  | .priorityOutputEnable, _ => execPriorityOutputEnable_fuses s t
  | .priorityStageTimeout, _ => execPriorityStageTimeout_fuses s t
  | .mainCommit, _ => execMainCommit_fuses s t
  | .xwaitExpiry present, _ => execXwaitExpiry_fuses present s t
  | .releaseStart, _ => execReleaseStart_fuses s t
  | .releaseInitLeave, _ => execReleaseInitLeave_fuses s t
  | .releaseOutputEnable, _ => execReleaseOutputEnable_fuses s t
  | .releaseDoneRelease, _ => execReleaseDoneRelease_fuses s t
  | .doneHigh, _ => execDoneHigh_fuses s t
  | .doneWaitExpiry, _ => execDoneWaitExpiry_fuses s t
  | .journalEraseStart, _ => execJournalEraseStart_fuses s t
  | .bootClear ag v, _ => execBootClear_fuses ag v s t
  | .bankRepower b, _ => execBankRepower_fuses b s t
  | .refinLost, _ => execRefinLost_fuses s t
  | .refinRestored, _ => execRefinRestored_fuses s t
  | .xrefLost, _ => execXrefLost_fuses s t
  | .xrefRestored, _ => execXrefRestored_fuses s t
  | .hubSynthLock, _ => execHubSynthLock_fuses s t
  | .clkHubWrite ag v, _ => execClkHubWrite_fuses ag v s t
  | .synthGlideDone n, _ => execSynthGlideDone_fuses n s t
  | .synthDividerDone n, _ => execSynthDividerDone_fuses n s t
  | .synthLock n, _ => execSynthLock_fuses n s t
  | .synthLossOfLock n, _ => execSynthLossOfLock_fuses n s t
  | .synthHoldoverExit n, _ => execSynthHoldoverExit_fuses n s t
  | .glitchFreeSwitchDone net, _ => execGlitchFreeSwitchDone_fuses net s t
  | .glitchFreeSwitchForced net, _ => execGlitchFreeSwitchForced_fuses net s t
  | .rimSelectWrite ag reg v, _ => execRimSelectWrite_fuses ag reg v s t
  | .hardBlockGateRequest ag blk, _ => execHardBlockGateRequest_fuses ag blk s t
  | .hardBlockGateApply blk, _ => execHardBlockGateApply_fuses blk s t
  | .hardBlockGateRefused blk, _ => execHardBlockGateRefused_fuses blk s t
  | .hardBlockGateOpen ag blk, _ => execHardBlockGateOpen_fuses ag blk s t
  | .fmWindowEnd m count, _ => execFmWindowEnd_fuses m count s t
  | .fmSourceWrite ag m v, _ => execFmSourceWrite_fuses ag m v s t
  | .adjStep ag, _ => execAdjStep_fuses ag s t
  | .adjSlew ag, _ => execAdjSlew_fuses ag s t
  | .slewDone, _ => execSlewDone_fuses s t
  | .syncCapture x falling, _ => execSyncCapture_fuses x falling s t
  | .captureRead ag x, _ => execCaptureRead_fuses ag x s t
  | .ppsInLost, _ => execPpsInLost_fuses s t
  | .ppsOutPulse, _ => execPpsOutPulse_fuses s t
  | .ppsOutPulseEnd, _ => execPpsOutPulseEnd_fuses s t
  | .mbFire ag i ctl, _ => execMbFire_fuses ag i ctl s t
  | .boundaryLatch src, _ => execBoundaryLatch_fuses src s t
  | .boundaryDelivery src, _ => execBoundaryDelivery_fuses src s t
  | .snapshotRead ag off, _ => execSnapshotRead_fuses ag off s t
  | .syncWord, _ => execSyncWord_fuses s t
  | .packetBadHeader w, _ => execPacketBadHeader_fuses w s t
  | .nop, _ => execNop_fuses s t
  | .writeIdcode ws, _ => execWriteIdcode_fuses ws s t
  | .writeForm ws, _ => execWriteForm_fuses ws s t
  | .writeKeysel ws, _ => execWriteKeysel_fuses ws s t
  | .writeSid ws, _ => execWriteSid_fuses ws s t
  | .writeIv ws, _ => execWriteIv_fuses ws s t
  | .writeBodylen ws, _ => execWriteBodylen_fuses ws s t
  | .writeBound ws, _ => execWriteBound_fuses ws s t
  | .writeGroup ws, _ => execWriteGroup_fuses ws s t
  | .writePlfloor ws, _ => execWritePlfloor_fuses ws s t
  | .writeClkset ws, _ => execWriteClkset_fuses ws s t
  | .stepNone v, _ => execStepNone_fuses v s t
  | .stepStage, _ => execStepStage_fuses s t
  | .stageClearDone, _ => execStageClearDone_fuses s t
  | .stepFinish, _ => execStepFinish_fuses s t
  | .stepAbort, _ => execStepAbort_fuses s t
  | .writePlace ws, _ => execWritePlace_fuses ws s t
  | .writeFrames dyn ws, _ => execWriteFrames_fuses dyn ws s t
  | .zero dyn n, _ => execZero_fuses dyn n s t
  | .repeatPacket dyn n, _ => execRepeat_fuses dyn n s t
  | .patch dyn ps, _ => execPatch_fuses dyn ps s t
  | .body, _ => execBody_fuses s t
  | .writeSeal ws, _ => execWriteSeal_fuses ws s t
  | .clksetLockWaitEnd, _ => execClksetLockWaitEnd_fuses s t
  | .writeCrcv ws, _ => execWriteCrcv_fuses ws s t
  | .readFrames n, _ => execReadFrames_fuses n s t
  | .readPlace, _ => execReadPlace_fuses s t
  | .readStat, _ => execReadStat_fuses s t
  | .sectionPacket sel len, _ => execSection_fuses sel len s t
  | .endPacket, _ => execEnd_fuses s t
  | .streamSourceEnd, _ => execStreamSourceEnd_fuses s t
  | .stagedVerifyEnd us, _ => execStagedVerifyEnd_fuses us s t
  | .psrcOpen ag c, _ => execPsrcOpen_fuses ag c s t
  | .unopenedSourceWords, _ => execUnopenedSourceWords_fuses s t
  | .cgArmCommit ag g, _ => execCgArmCommit_fuses ag g s t
  | .cgArmRevert ag g, _ => execCgArmRevert_fuses ag g s t
  | .cgDisarm ag g mode, _ => execCgDisarm_fuses ag g mode s t
  | .cgDiscard ag g mode, _ => execCgDiscard_fuses ag g mode s t
  | .cgDeadlineExpiry g, _ => execCgDeadlineExpiry_fuses g s t
  | .commitRelease g, _ => execCommitRelease_fuses g s t
  | .revertVerifyEnd g us, _ => execRevertVerifyEnd_fuses g us s t
  | .dwPlaceWrite ag p, _ => execDwPlaceWrite_fuses ag p s t
  | .dwDataWrite ag w, _ => execDwDataWrite_fuses ag w s t
  | .dwApply ag bsel, _ => execDwApply_fuses ag bsel s t
  | .dwClearBuffer ag bsel, _ => execDwClearBuffer_fuses ag bsel s t
  | .dwApplyEnd, _ => execDwApplyEnd_fuses s t
  | .panelIsoWrite ag g v, _ => execPanelIsoWrite_fuses ag g v s t
  | .pisoChange g level, _ => execPisoChange_fuses g level s t
  | .pntFrameRead w upset entry, _ => execPntFrameRead_fuses w upset entry s t
  | .pntSbeWriteBackDone w upset, _ => execPntSbeWriteBackDone_fuses w upset s t
  | .pntRestart ag en shadow, _ => execPntRestart_fuses ag en shadow s t
  | .pntHoldClear ag v, _ => execPntHoldClear_fuses ag v s t
  | .pntReloadOpen, _ => execPntReloadOpen_fuses s t
  | .pntReloadFire, _ => execPntReloadFire_fuses s t
  | .pntReloadWaitExpiry, _ => execPntReloadWaitExpiry_fuses s t
  | .pntLogPop ag, _ => execPntLogPop_fuses ag s t
  | .flashUnlockFirst ag off, _ => execFlashUnlockFirst_fuses ag off s t
  | .flashUnlockSecond ag off, _ => execFlashUnlockSecond_fuses ag off s t
  | .flashProgramWordCmd ag off, _ => execFlashProgramWordCmd_fuses ag off s t
  | .flashProgramLineCmd ag off, _ => execFlashProgramLineCmd_fuses ag off s t
  | .flashDataCycle ag off wide v, _ => execFlashDataCycle_fuses ag off wide v s t
  | .flashEraseSetup ag off, _ => execFlashEraseSetup_fuses ag off s t
  | .flashEraseConfirm ag off, _ => execFlashEraseConfirm_fuses ag off s t
  | .flashSuspendCmd ag off, _ => execFlashSuspendCmd_fuses ag off s t
  | .flashResumeCmd ag off, _ => execFlashResumeCmd_fuses ag off s t
  | .flashReadStatusCmd ag off, _ => execFlashReadStatusCmd_fuses ag off s t
  | .flashInfoEntryCmd ag off, _ => execFlashInfoEntryCmd_fuses ag off s t
  | .flashReturnToRead ag off, _ => execFlashReturnToRead_fuses ag off s t
  | .flashSuspendEffect, _ => execFlashSuspendEffect_fuses s t
  | .flashProgramDone pulses pass, _ => execFlashProgramDone_fuses pulses pass s t
  | .flashIntentRecorded fails, _ => execFlashIntentRecorded_fuses fails s t
  | .flashCompactionDone, _ => execFlashCompactionDone_fuses s t
  | .flashEraseDone pulses pass, _ => execFlashEraseDone_fuses pulses pass s t
  | .flashHostReadBusy ag off, _ => execFlashHostReadBusy_fuses ag off s t
  | .flashStalledReadDone ag off, _ => execFlashStalledReadDone_fuses ag off s t
  | .laneTxeqWrite ag n v, _ => execLaneTxeqWrite_fuses ag n v s t
  | .laneWakeBurstEnd n, _ => execLaneWakeBurstEnd_fuses n s t
  | .cdrLockAcquired n, _ => execCdrLockAcquired_fuses n s t
  | .cdrLockLost n, _ => execCdrLockLost_fuses n s t
  | .rxidleChange n idle, _ => execRxidleChange_fuses n idle s t
  | .eyeWindowEnd n e, _ => execEyeWindowEnd_fuses n e s t
  | .laneLoadlg ag n, _ => execLaneLoadlg_fuses ag n s t
  | .commaAlign n, _ => execCommaAlign_fuses n s t
  | .alignLost n, _ => execAlignLost_fuses n s t
  | .blockLockAcquired n, _ => execBlockLockAcquired_fuses n s t
  | .blockLockLost n, _ => execBlockLockLost_fuses n s t
  | .phaseFifoFault n tx, _ => execPhaseFifoFault_fuses n tx s t
  | .qpllLock q w, _ => execQpllLock_fuses q w s t
  | .qpllLossOfLock q w, _ => execQpllLossOfLock_fuses q w s t
  | .quadCalStart ag q, _ => execQuadCalStart_fuses ag q s t
  | .quadCalDone q pass, _ => execQuadCalDone_fuses q pass s t
  | .quadCalTimeout q, _ => execQuadCalTimeout_fuses q s t
  | .prbsClear ag n, _ => execPrbsClear_fuses ag n s t
  | .prbsCheckerLock n, _ => execPrbsCheckerLock_fuses n s t
  | .wpEnable ag p, _ => execWpEnable_fuses ag p s t
  | .wpDisable ag p, _ => execWpDisable_fuses ag p s t
  | .wpRetrain ag p, _ => execWpRetrain_fuses ag p s t
  | .waleTrnSet p lane w, _ => execWaleTrnSet_fuses p lane w s t
  | .waleTrainTimeout p, _ => execWaleTrainTimeout_fuses p s t
  | .waleLinkUp p, _ => execWaleLinkUp_fuses p s t
  | .waleAutoRetrain p, _ => execWaleAutoRetrain_fuses p s t
  | .waleBlockBad p fmt, _ => execWaleBlockBad_fuses p fmt s t
  | .waleAck p aseq junk, _ => execWaleAck_fuses p aseq junk s t
  | .waleNak p aseq junk, _ => execWaleNak_fuses p aseq junk s t
  | .waleAckSend p, _ => execWaleAckSend_fuses p s t
  | .waleAckTimerExpiry p, _ => execWaleAckTimerExpiry_fuses p s t
  | .waleLaneFail p lane, _ => execWaleLaneFail_fuses p lane s t
  | .waleLaneReadmitReady p lane, _ => execWaleLaneReadmitReady_fuses p lane s t
  | .waleLmgDrop p set junk, _ => execWaleLmgDrop_fuses p set junk s t
  | .waleLmgReadmit p set junk, _ => execWaleLmgReadmit_fuses p set junk s t
  | .waleLmgSleep p junk, _ => execWaleLmgSleep_fuses p junk s t
  | .waleLmgDown p junk, _ => execWaleLmgDown_fuses p junk s t
  | .waleTimeExchangeStart fine, _ => execWaleTimeExchangeStart_fuses fine s t
  | .waleTsyRequest p xn fine turn junk, _ => execWaleTsyRequest_fuses p xn fine turn junk s t
  | .waleTsyResponse p xn fine junk, _ => execWaleTsyResponse_fuses p xn fine junk s t
  | .waleTimeFollowUp p b, _ => execWaleTimeFollowUp_fuses p b s t
  | .waleFollowUpTimeout, _ => execWaleFollowUpTimeout_fuses s t
  | .waleCompletion p b, _ => execWaleCompletion_fuses p b s t
  | .waleMessage p b, _ => execWaleMessage_fuses p b s t
  | .waleGangBlock p b, _ => execWaleGangBlock_fuses p b s t
  | .waleAdvert p b, _ => execWaleAdvert_fuses p b s t
  | .waleAdvertTimer, _ => execWaleAdvertTimer_fuses s t
  | .waleAdvertExpiry p, _ => execWaleAdvertExpiry_fuses p s t
  | .waleJoin p b, _ => execWaleJoin_fuses p b s t
  | .waleBnd p b, _ => execWaleBnd_fuses p b s t
  | .waleBndref p b, _ => execWaleBndref_fuses p b s t
  | .waleVoteCutoff src, _ => execWaleVoteCutoff_fuses src s t
  | .waleVote p b, _ => execWaleVote_fuses p b s t
  | .waleVerdictTimer num den, _ => execWaleVerdictTimer_fuses num den s t
  | .waleVerdict p b, _ => execWaleVerdict_fuses p b s t
  | .waleAlarm p b, _ => execWaleAlarm_fuses p b s t
  | .waleDoneUpSend, _ => execWaleDoneUpSend_fuses s t
  | .waleDoneUp p b, _ => execWaleDoneUp_fuses p b s t
  | .waleSysdone p b, _ => execWaleSysdone_fuses p b s t
  | .waleSystemDoneInstant, _ => execWaleSystemDoneInstant_fuses s t
  | .waleSleepMsg p b, _ => execWaleSleepMsg_fuses p b s t
  | .waleAwake p b, _ => execWaleAwake_fuses p b s t
  | .waleWake p b, _ => execWaleWake_fuses p b s t
  | .waleRequestDeadline tag, _ => execWaleRequestDeadline_fuses tag s t
  | .waleMqPop ag, _ => execWaleMqPop_fuses ag s t
  | .waleGangGo ag hamper bcast dest, _ => execWaleGangGo_fuses ag hamper bcast dest s t
  | .waleGangAbort ag blocks, _ => execWaleGangAbort_fuses ag blocks s t
  | .waleGangSendEnd, _ => execWaleGangSendEnd_fuses s t
  | .waleGangStreamTimeout, _ => execWaleGangStreamTimeout_fuses s t
  | .pcieLinkUp port gen width, _ => execPcieLinkUp_fuses port gen width s t
  | .pcieLinkDown port, _ => execPcieLinkDown_fuses port s t
  | .pcieFlr port, _ => execPcieFlr_fuses port s t
  | .pcieHotReset port, _ => execPcieHotReset_fuses port s t
  | .pciePerst port, _ => execPciePerst_fuses port s t
  | .streamWindowWrite port spi words, _ => execStreamWindowWrite_fuses port spi words s t
  | .hpSendEnd ag port v, _ => execHpSendEnd_fuses ag port v s t
  | .hpSretRead ag port, _ => execHpSretRead_fuses ag port s t
  | .hpSpirel ag port, _ => execHpSpirel_fuses ag port s t
  | .spiRead port addr k, _ => execSpiRead_fuses port addr k s t
  | .spiStatus port, _ => execSpiStatus_fuses port s t
  | .spiFrameError port, _ => execSpiFrameError_fuses port s t
  | .semAcquire ag n, _ => execSemAcquire_fuses ag n s t
  | .semRelease ag n, _ => execSemRelease_fuses ag n s t
  | .semForce ag v, _ => execSemForce_fuses ag v s t
  | .mbRing ag m, _ => execMbRing_fuses ag m s t
  | .mbAck ag m, _ => execMbAck_fuses ag m s t
  | .mbDataWrite ag m i v, _ => execMbDataWrite_fuses ag m i v s t
  | .hamperTrainDone pass, _ => execHamperTrainDone_fuses pass s t
  | .hamperTrainTimeout, _ => execHamperTrainTimeout_fuses s t
  | .hamperPortRequest n rq, _ => execHamperPortRequest_fuses n rq s t
  | .hamperAccessDone src sev, _ => execHamperAccessDone_fuses src sev s t
  | .hamperRefresh, _ => execHamperRefresh_fuses s t
  | .hamperTempRead temp, _ => execHamperTempRead_fuses temp s t
  | .hamperRetrain ag, _ => execHamperRetrain_fuses ag s t
  | .hamperRetrainDrained, _ => execHamperRetrainDrained_fuses s t
  | .hamperDrainTimeout, _ => execHamperDrainTimeout_fuses s t
  | .hamperRetrainDone, _ => execHamperRetrainDone_fuses s t
  | .hamperSelfRefreshExit, _ => execHamperSelfRefreshExit_fuses s t
  | .clusterRunWrite ag v, _ => execClusterRunWrite_fuses ag v s t
  | .wdEnable i, _ => execWdEnable_fuses i s t
  | .wdKick i v, _ => execWdKick_fuses i v s t
  | .wdExpiry i, _ => execWdExpiry_fuses i s t
  | .gwWindowAccess ag req, _ => execGwWindowAccess_fuses ag req s t
  | .gwWindowResponse port tag data err, _ => execGwWindowResponse_fuses port tag data err s t
  | .gwWindowTimeout port tag, _ => execGwWindowTimeout_fuses port tag s t
  | .gwMasterDone port tag, _ => execGwMasterDone_fuses port tag s t
  | .eventRaise n, _ => execEventRaise_fuses n s t
  | .userEventEdge w j, _ => execUserEventEdge_fuses w j s t
  | .evtClaim ag c, _ => execEvtClaim_fuses ag c s t
  | .evtRaiseWrite ag v, _ => execEvtRaiseWrite_fuses ag v s t
  | .plRequest ag v, _ => execPlRequest_fuses ag v s t
  | .plRampDone, _ => execPlRampDone_fuses s t
  | .modeRequestDoze ag, _ => execModeRequestDoze_fuses ag s t
  | .modeRequestSleep ag, _ => execModeRequestSleep_fuses ag s t
  | .modeRequestStandby ag, _ => execModeRequestStandby_fuses ag s t
  | .sleepEntered, _ => execSleepEntered_fuses s t
  | .sleepWakeRun stale, _ => execSleepWakeRun_fuses stale s t
  | .soundingRequest ag v, _ => execSoundingRequest_fuses ag v s t
  | .soundingAbort ag, _ => execSoundingAbort_fuses ag s t
  | .soundingCopyDone, _ => execSoundingCopyDone_fuses s t
  | .soundingRunDone r, _ => execSoundingRunDone_fuses r s t
  | .soundingMoveBackDone, _ => execSoundingMoveBackDone_fuses s t
  | .loadingSoundingBatchDone rep, _ => execLoadingSoundingBatchDone_fuses rep s t
  | .fuseBurn ag v, _ => execFuseBurn_fuses ag v s t
  | .fuseBurnDone, _ => execFuseBurnDone_fuses s t
  | .staleClear ag v, _ => execStaleClear_fuses ag v s t
  | .creelScrubStep n, _ => execCreelScrubStep_fuses n s t
  | .creelScrubWriteBack n, _ => execCreelScrubWriteBack_fuses n s t
  | .lcTransition ag, _ => execLcTransition_fuses ag s t
  | .lcSetOwner ag, _ => execLcSetOwner_fuses ag s t
  | .lcSetKeyFuse ag, _ => execLcSetKeyFuse_fuses ag s t
  | .lcLoadKeyBbr ag, _ => execLcLoadKeyBbr_fuses ag s t
  | .lcClearKeyBbr ag, _ => execLcClearKeyBbr_fuses ag s t
  | .lcDebugToken ag jtag, _ => execLcDebugToken_fuses ag jtag s t
  | .lcReqbufClear ag, _ => execLcReqbufClear_fuses ag s t
  | .lcRequestVerified vinOk, _ => execLcRequestVerified_fuses vinOk s t
  | .tamperEvent cause, _ => execTamperEvent_fuses cause s t
  | .zeroiseWrite ag v, _ => execZeroiseWrite_fuses ag v s t
  | .debugClose ag, _ => execDebugClose_fuses ag s t
  | .jtagTapReset, _ => execJtagTapReset_fuses s t
  | .jtagLcTokenUpdate shifts bytes, _ => execJtagLcTokenUpdate_fuses shifts bytes s t
  | .jtagExtest, _ => execJtagExtest_fuses s t
  | .jtagClamp, _ => execJtagClamp_fuses s t
  | .jtagHighz, _ => execJtagHighz_fuses s t
  | .jtagIdcode, _ => execJtagIdcode_fuses s t
  | .jtagSamplePreload, _ => execJtagSamplePreload_fuses s t
  | .jtagLcToken, _ => execJtagLcToken_fuses s t
  | .jtagLcStatus, _ => execJtagLcStatus_fuses s t
  | .jtagDmi, _ => execJtagDmi_fuses s t
  | .jtagGrenricTest code, _ => execJtagGrenricTest_fuses code s t
  | .jtagBypass, _ => execJtagBypass_fuses s t
  | .stakeNetEdge bay net rising pins, _ => execStakeNetEdge_fuses bay net rising pins s t
  | .laneRxWord n w, _ => execLaneRxWord_fuses n w s t
  | .vbatLow, _ => execVbatLow_fuses s t
  | .pciePowerStateChange port d3hot l1 cfg, _ => execPciePowerStateChange_fuses port d3hot l1 cfg s t
  | .vinFall .., named | .powerUpComplete .., named | .resetNRise .., named | .keeperBootComplete .., named
  | .programNFall .., named | .sysCtlReload .., named | .waleWrite .., named | .waleRead .., named
  | .waleRqGo .., named | .spiWrite .., named | .gwMasterRequest .., named | .quiesceDone .., named
  | .quiesceTimeout .., named | .wakeSource .., named | .wakeTimerExpiry .., named | .lcBurnDone .., named
  | .registerWrite .., named | .clusterBusAccess .., named => nomatch named

theorem Grew.refl (f : Fuses) : Grew f f := ⟨[], rfl⟩

/-- The commands that can blow a fuse restore none, and the others do not reach the fuses. -/
theorem exec_grew {c : Instr} {s t : State} (runs : exec c s = .next t) : Grew s.keys.fuses t.keys.fuses := by
  cases named : mayBlowFuses c with
  | false =>
    rw [exec_fuses c named runs]
    exact .refl _
  | true =>
    have same := Grew.refl s.keys.fuses
    cases c with
    | vinFall => exact execVinFall_grew s same t runs
    | powerUpComplete straps => exact execPowerUpComplete_grew straps s same t runs
    | resetNRise => exact execResetNRise_grew s same t runs
    | keeperBootComplete agree xref vinOk => exact execKeeperBootComplete_grew agree xref vinOk s same t runs
    | programNFall => exact execProgramNFall_grew s same t runs
    | sysCtlReload ag v => exact execSysCtlReload_grew ag v s same t runs
    | waleWrite p b mem => exact execWaleWrite_grew p b mem s same t runs
    | waleRead p b mem => exact execWaleRead_grew p b mem s same t runs
    | waleRqGo ag n op ack len => exact execWaleRqGo_grew ag n op ack len s same t runs
    | spiWrite port addr words => exact execSpiWrite_grew port addr words s same t runs
    | gwMasterRequest port req => exact execGwMasterRequest_grew port req s same t runs
    | quiesceDone => exact execQuiesceDone_grew s same t runs
    | quiesceTimeout busy => exact execQuiesceTimeout_grew busy s same t runs
    | wakeSource src port => exact execWakeSource_grew src port s same t runs
    | wakeTimerExpiry => exact execWakeTimerExpiry_grew s same t runs
    | lcBurnDone failed => exact execLcBurnDone_grew failed s same t runs
    | registerWrite ag off v full => exact execRegisterWrite_grew ag off v full s same t runs
    | clusterBusAccess core acc => exact execClusterBusAccess_grew core acc s same t runs
    | _ => nomatch named

/-- Settles O5, command by command. -/
theorem onlyBurnsBlowFuses : Obligations.OnlyBurnsBlowFuses :=
  fun c _ _ => exec_fuses c

/-- Settles O4: neither the tick nor the front command restores a fuse. -/
theorem noFuseIsEverRestored : Obligations.NoFuseIsEverRestored := by
  intro s t h
  obtain ⟨-, rfl⟩ | ⟨c, rest, -, runs⟩ := step_cases h
  · exact State.idle_grew s (.refl _)
  · exact exec_grew (s := { s with pending := rest }) runs

end Sys2Proof.Machine
end

section
/-! Cluster SRAM (R398): which commands can change a byte, and that they list each byte once. -/
namespace Sys2Proof.Machine

/-- SRAM is written by the accesses that reach it, and left undefined by a restart or a failed retention. -/
theorem exec_sram {s t : State} : (c : Instr) → mayWriteSram c = false → exec c s = .next t → t.sram = s.sram
  | .resetNFall, _ => execResetNFall_sram s t
  | .strapLatch straps, _ => execStrapLatch_sram straps s t
  | .keeperBootComplete agree xref vinOk, _ => execKeeperBootComplete_sram agree xref vinOk s t
  | .startTestComplete hub rep, _ => execStartTestComplete_sram hub rep s t
  | .programNRise, _ => execProgramNRise_sram s t
  | .thermalSample bays hub, _ => execThermalSample_sram bays hub s t
  | .regulatorFault r, _ => execRegulatorFault_sram r s t
  | .railWarning r, _ => execRailWarning_sram r s t
  | .vinLow, _ => execVinLow_sram s t
  | .srcWaitExpiry, _ => execSrcWaitExpiry_sram s t
  | .priorityCommit, _ => execPriorityCommit_sram s t
  | .priorityInitLeave, _ => execPriorityInitLeave_sram s t
  | .priorityOutputEnable, _ => execPriorityOutputEnable_sram s t
  | .priorityStageTimeout, _ => execPriorityStageTimeout_sram s t
  | .mainCommit, _ => execMainCommit_sram s t
  | .xwaitExpiry present, _ => execXwaitExpiry_sram present s t
  | .releaseStart, _ => execReleaseStart_sram s t
  | .releaseInitLeave, _ => execReleaseInitLeave_sram s t
  | .releaseOutputEnable, _ => execReleaseOutputEnable_sram s t
  | .releaseDoneRelease, _ => execReleaseDoneRelease_sram s t
  | .doneHigh, _ => execDoneHigh_sram s t
  | .doneWaitExpiry, _ => execDoneWaitExpiry_sram s t
  | .journalEraseStart, _ => execJournalEraseStart_sram s t
  | .bootClear ag v, _ => execBootClear_sram ag v s t
  | .bankRepower b, _ => execBankRepower_sram b s t
  | .refinLost, _ => execRefinLost_sram s t
  | .refinRestored, _ => execRefinRestored_sram s t
  | .xrefLost, _ => execXrefLost_sram s t
  | .xrefRestored, _ => execXrefRestored_sram s t
  | .hubSynthLock, _ => execHubSynthLock_sram s t
  | .clkHubWrite ag v, _ => execClkHubWrite_sram ag v s t
  | .synthGlideDone n, _ => execSynthGlideDone_sram n s t
  | .synthDividerDone n, _ => execSynthDividerDone_sram n s t
  | .synthLock n, _ => execSynthLock_sram n s t
  | .synthLossOfLock n, _ => execSynthLossOfLock_sram n s t
  | .synthHoldoverExit n, _ => execSynthHoldoverExit_sram n s t
  | .glitchFreeSwitchDone net, _ => execGlitchFreeSwitchDone_sram net s t
  | .glitchFreeSwitchForced net, _ => execGlitchFreeSwitchForced_sram net s t
  | .rimSelectWrite ag reg v, _ => execRimSelectWrite_sram ag reg v s t
  | .hardBlockGateRequest ag blk, _ => execHardBlockGateRequest_sram ag blk s t
  | .hardBlockGateApply blk, _ => execHardBlockGateApply_sram blk s t
  | .hardBlockGateRefused blk, _ => execHardBlockGateRefused_sram blk s t
  | .hardBlockGateOpen ag blk, _ => execHardBlockGateOpen_sram ag blk s t
  | .fmWindowEnd m count, _ => execFmWindowEnd_sram m count s t
  | .fmSourceWrite ag m v, _ => execFmSourceWrite_sram ag m v s t
  | .adjStep ag, _ => execAdjStep_sram ag s t
  | .adjSlew ag, _ => execAdjSlew_sram ag s t
  | .slewDone, _ => execSlewDone_sram s t
  | .syncCapture x falling, _ => execSyncCapture_sram x falling s t
  | .captureRead ag x, _ => execCaptureRead_sram ag x s t
  | .ppsInLost, _ => execPpsInLost_sram s t
  | .ppsOutPulse, _ => execPpsOutPulse_sram s t
  | .ppsOutPulseEnd, _ => execPpsOutPulseEnd_sram s t
  | .mbFire ag i ctl, _ => execMbFire_sram ag i ctl s t
  | .boundaryLatch src, _ => execBoundaryLatch_sram src s t
  | .boundaryDelivery src, _ => execBoundaryDelivery_sram src s t
  | .snapshotRead ag off, _ => execSnapshotRead_sram ag off s t
  | .syncWord, _ => execSyncWord_sram s t
  | .packetBadHeader w, _ => execPacketBadHeader_sram w s t
  | .nop, _ => execNop_sram s t
  | .writeIdcode ws, _ => execWriteIdcode_sram ws s t
  | .writeForm ws, _ => execWriteForm_sram ws s t
  | .writeKeysel ws, _ => execWriteKeysel_sram ws s t
  | .writeSid ws, _ => execWriteSid_sram ws s t
  | .writeIv ws, _ => execWriteIv_sram ws s t
  | .writeBodylen ws, _ => execWriteBodylen_sram ws s t
  | .writeBound ws, _ => execWriteBound_sram ws s t
  | .writeGroup ws, _ => execWriteGroup_sram ws s t
  | .writePlfloor ws, _ => execWritePlfloor_sram ws s t
  | .writeClkset ws, _ => execWriteClkset_sram ws s t
  | .stepNone v, _ => execStepNone_sram v s t
  | .stepStage, _ => execStepStage_sram s t
  | .stageClearDone, _ => execStageClearDone_sram s t
  | .stepFinish, _ => execStepFinish_sram s t
  | .stepAbort, _ => execStepAbort_sram s t
  | .writePlace ws, _ => execWritePlace_sram ws s t
  | .writeFrames dyn ws, _ => execWriteFrames_sram dyn ws s t
  | .zero dyn n, _ => execZero_sram dyn n s t
  | .repeatPacket dyn n, _ => execRepeat_sram dyn n s t
  | .patch dyn ps, _ => execPatch_sram dyn ps s t
  | .body, _ => execBody_sram s t
  | .writeSeal ws, _ => execWriteSeal_sram ws s t
  | .clksetLockWaitEnd, _ => execClksetLockWaitEnd_sram s t
  | .writeCrcv ws, _ => execWriteCrcv_sram ws s t
  | .readFrames n, _ => execReadFrames_sram n s t
  | .readPlace, _ => execReadPlace_sram s t
  | .readStat, _ => execReadStat_sram s t
  | .sectionPacket sel len, _ => execSection_sram sel len s t
  | .endPacket, _ => execEnd_sram s t
  | .streamSourceEnd, _ => execStreamSourceEnd_sram s t
  | .stagedVerifyEnd us, _ => execStagedVerifyEnd_sram us s t
  | .psrcOpen ag c, _ => execPsrcOpen_sram ag c s t
  | .unopenedSourceWords, _ => execUnopenedSourceWords_sram s t
  | .cgArmCommit ag g, _ => execCgArmCommit_sram ag g s t
  | .cgArmRevert ag g, _ => execCgArmRevert_sram ag g s t
  | .cgDisarm ag g mode, _ => execCgDisarm_sram ag g mode s t
  | .cgDiscard ag g mode, _ => execCgDiscard_sram ag g mode s t
  | .cgDeadlineExpiry g, _ => execCgDeadlineExpiry_sram g s t
  | .commitRelease g, _ => execCommitRelease_sram g s t
  | .revertVerifyEnd g us, _ => execRevertVerifyEnd_sram g us s t
  | .dwPlaceWrite ag p, _ => execDwPlaceWrite_sram ag p s t
  | .dwDataWrite ag w, _ => execDwDataWrite_sram ag w s t
  | .dwApply ag bsel, _ => execDwApply_sram ag bsel s t
  | .dwClearBuffer ag bsel, _ => execDwClearBuffer_sram ag bsel s t
  | .dwApplyEnd, _ => execDwApplyEnd_sram s t
  | .panelIsoWrite ag g v, _ => execPanelIsoWrite_sram ag g v s t
  | .pisoChange g level, _ => execPisoChange_sram g level s t
  | .pntFrameRead w upset entry, _ => execPntFrameRead_sram w upset entry s t
  | .pntSbeWriteBackDone w upset, _ => execPntSbeWriteBackDone_sram w upset s t
  | .pntRestart ag en shadow, _ => execPntRestart_sram ag en shadow s t
  | .pntHoldClear ag v, _ => execPntHoldClear_sram ag v s t
  | .pntReloadOpen, _ => execPntReloadOpen_sram s t
  | .pntReloadFire, _ => execPntReloadFire_sram s t
  | .pntReloadWaitExpiry, _ => execPntReloadWaitExpiry_sram s t
  | .pntLogPop ag, _ => execPntLogPop_sram ag s t
  | .flashUnlockFirst ag off, _ => execFlashUnlockFirst_sram ag off s t
  | .flashUnlockSecond ag off, _ => execFlashUnlockSecond_sram ag off s t
  | .flashProgramWordCmd ag off, _ => execFlashProgramWordCmd_sram ag off s t
  | .flashProgramLineCmd ag off, _ => execFlashProgramLineCmd_sram ag off s t
  | .flashDataCycle ag off wide v, _ => execFlashDataCycle_sram ag off wide v s t
  | .flashEraseSetup ag off, _ => execFlashEraseSetup_sram ag off s t
  | .flashEraseConfirm ag off, _ => execFlashEraseConfirm_sram ag off s t
  | .flashSuspendCmd ag off, _ => execFlashSuspendCmd_sram ag off s t
  | .flashResumeCmd ag off, _ => execFlashResumeCmd_sram ag off s t
  | .flashReadStatusCmd ag off, _ => execFlashReadStatusCmd_sram ag off s t
  | .flashInfoEntryCmd ag off, _ => execFlashInfoEntryCmd_sram ag off s t
  | .flashReturnToRead ag off, _ => execFlashReturnToRead_sram ag off s t
  | .flashSuspendEffect, _ => execFlashSuspendEffect_sram s t
  | .flashProgramDone pulses pass, _ => execFlashProgramDone_sram pulses pass s t
  | .flashIntentRecorded fails, _ => execFlashIntentRecorded_sram fails s t
  | .flashCompactionDone, _ => execFlashCompactionDone_sram s t
  | .flashEraseDone pulses pass, _ => execFlashEraseDone_sram pulses pass s t
  | .flashHostReadBusy ag off, _ => execFlashHostReadBusy_sram ag off s t
  | .flashStalledReadDone ag off, _ => execFlashStalledReadDone_sram ag off s t
  | .laneTxeqWrite ag n v, _ => execLaneTxeqWrite_sram ag n v s t
  | .laneWakeBurstEnd n, _ => execLaneWakeBurstEnd_sram n s t
  | .cdrLockAcquired n, _ => execCdrLockAcquired_sram n s t
  | .cdrLockLost n, _ => execCdrLockLost_sram n s t
  | .rxidleChange n idle, _ => execRxidleChange_sram n idle s t
  | .eyeWindowEnd n e, _ => execEyeWindowEnd_sram n e s t
  | .laneLoadlg ag n, _ => execLaneLoadlg_sram ag n s t
  | .commaAlign n, _ => execCommaAlign_sram n s t
  | .alignLost n, _ => execAlignLost_sram n s t
  | .blockLockAcquired n, _ => execBlockLockAcquired_sram n s t
  | .blockLockLost n, _ => execBlockLockLost_sram n s t
  | .phaseFifoFault n tx, _ => execPhaseFifoFault_sram n tx s t
  | .qpllLock q w, _ => execQpllLock_sram q w s t
  | .qpllLossOfLock q w, _ => execQpllLossOfLock_sram q w s t
  | .quadCalStart ag q, _ => execQuadCalStart_sram ag q s t
  | .quadCalDone q pass, _ => execQuadCalDone_sram q pass s t
  | .quadCalTimeout q, _ => execQuadCalTimeout_sram q s t
  | .prbsClear ag n, _ => execPrbsClear_sram ag n s t
  | .prbsCheckerLock n, _ => execPrbsCheckerLock_sram n s t
  | .wpEnable ag p, _ => execWpEnable_sram ag p s t
  | .wpDisable ag p, _ => execWpDisable_sram ag p s t
  | .wpRetrain ag p, _ => execWpRetrain_sram ag p s t
  | .waleTrnSet p lane w, _ => execWaleTrnSet_sram p lane w s t
  | .waleTrainTimeout p, _ => execWaleTrainTimeout_sram p s t
  | .waleLinkUp p, _ => execWaleLinkUp_sram p s t
  | .waleAutoRetrain p, _ => execWaleAutoRetrain_sram p s t
  | .waleBlockBad p fmt, _ => execWaleBlockBad_sram p fmt s t
  | .waleAck p aseq junk, _ => execWaleAck_sram p aseq junk s t
  | .waleNak p aseq junk, _ => execWaleNak_sram p aseq junk s t
  | .waleAckSend p, _ => execWaleAckSend_sram p s t
  | .waleAckTimerExpiry p, _ => execWaleAckTimerExpiry_sram p s t
  | .waleLaneFail p lane, _ => execWaleLaneFail_sram p lane s t
  | .waleLaneReadmitReady p lane, _ => execWaleLaneReadmitReady_sram p lane s t
  | .waleLmgDrop p set junk, _ => execWaleLmgDrop_sram p set junk s t
  | .waleLmgReadmit p set junk, _ => execWaleLmgReadmit_sram p set junk s t
  | .waleLmgSleep p junk, _ => execWaleLmgSleep_sram p junk s t
  | .waleLmgDown p junk, _ => execWaleLmgDown_sram p junk s t
  | .waleTimeExchangeStart fine, _ => execWaleTimeExchangeStart_sram fine s t
  | .waleTsyRequest p xn fine turn junk, _ => execWaleTsyRequest_sram p xn fine turn junk s t
  | .waleTsyResponse p xn fine junk, _ => execWaleTsyResponse_sram p xn fine junk s t
  | .waleTimeFollowUp p b, _ => execWaleTimeFollowUp_sram p b s t
  | .waleFollowUpTimeout, _ => execWaleFollowUpTimeout_sram s t
  | .waleCompletion p b, _ => execWaleCompletion_sram p b s t
  | .waleMessage p b, _ => execWaleMessage_sram p b s t
  | .waleGangBlock p b, _ => execWaleGangBlock_sram p b s t
  | .waleAdvert p b, _ => execWaleAdvert_sram p b s t
  | .waleAdvertTimer, _ => execWaleAdvertTimer_sram s t
  | .waleAdvertExpiry p, _ => execWaleAdvertExpiry_sram p s t
  | .waleJoin p b, _ => execWaleJoin_sram p b s t
  | .waleBnd p b, _ => execWaleBnd_sram p b s t
  | .waleBndref p b, _ => execWaleBndref_sram p b s t
  | .waleVoteCutoff src, _ => execWaleVoteCutoff_sram src s t
  | .waleVote p b, _ => execWaleVote_sram p b s t
  | .waleVerdictTimer num den, _ => execWaleVerdictTimer_sram num den s t
  | .waleVerdict p b, _ => execWaleVerdict_sram p b s t
  | .waleAlarm p b, _ => execWaleAlarm_sram p b s t
  | .waleDoneUpSend, _ => execWaleDoneUpSend_sram s t
  | .waleDoneUp p b, _ => execWaleDoneUp_sram p b s t
  | .waleSysdone p b, _ => execWaleSysdone_sram p b s t
  | .waleSystemDoneInstant, _ => execWaleSystemDoneInstant_sram s t
  | .waleSleepMsg p b, _ => execWaleSleepMsg_sram p b s t
  | .waleAwake p b, _ => execWaleAwake_sram p b s t
  | .waleWake p b, _ => execWaleWake_sram p b s t
  | .waleRequestDeadline tag, _ => execWaleRequestDeadline_sram tag s t
  | .waleMqPop ag, _ => execWaleMqPop_sram ag s t
  | .waleGangGo ag hamper bcast dest, _ => execWaleGangGo_sram ag hamper bcast dest s t
  | .waleGangAbort ag blocks, _ => execWaleGangAbort_sram ag blocks s t
  | .waleGangSendEnd, _ => execWaleGangSendEnd_sram s t
  | .waleGangStreamTimeout, _ => execWaleGangStreamTimeout_sram s t
  | .pcieLinkUp port gen width, _ => execPcieLinkUp_sram port gen width s t
  | .pcieLinkDown port, _ => execPcieLinkDown_sram port s t
  | .pcieFlr port, _ => execPcieFlr_sram port s t
  | .pcieHotReset port, _ => execPcieHotReset_sram port s t
  | .pciePerst port, _ => execPciePerst_sram port s t
  | .streamWindowWrite port spi words, _ => execStreamWindowWrite_sram port spi words s t
  | .hpSendEnd ag port v, _ => execHpSendEnd_sram ag port v s t
  | .hpSretRead ag port, _ => execHpSretRead_sram ag port s t
  | .hpSpirel ag port, _ => execHpSpirel_sram ag port s t
  | .spiRead port addr k, _ => execSpiRead_sram port addr k s t
  | .spiStatus port, _ => execSpiStatus_sram port s t
  | .spiFrameError port, _ => execSpiFrameError_sram port s t
  | .semAcquire ag n, _ => execSemAcquire_sram ag n s t
  | .semRelease ag n, _ => execSemRelease_sram ag n s t
  | .semForce ag v, _ => execSemForce_sram ag v s t
  | .mbRing ag m, _ => execMbRing_sram ag m s t
  | .mbAck ag m, _ => execMbAck_sram ag m s t
  | .mbDataWrite ag m i v, _ => execMbDataWrite_sram ag m i v s t
  | .hamperTrainDone pass, _ => execHamperTrainDone_sram pass s t
  | .hamperTrainTimeout, _ => execHamperTrainTimeout_sram s t
  | .hamperPortRequest n rq, _ => execHamperPortRequest_sram n rq s t
  | .hamperAccessDone src sev, _ => execHamperAccessDone_sram src sev s t
  | .hamperRefresh, _ => execHamperRefresh_sram s t
  | .hamperTempRead temp, _ => execHamperTempRead_sram temp s t
  | .hamperRetrain ag, _ => execHamperRetrain_sram ag s t
  | .hamperRetrainDrained, _ => execHamperRetrainDrained_sram s t
  | .hamperDrainTimeout, _ => execHamperDrainTimeout_sram s t
  | .hamperRetrainDone, _ => execHamperRetrainDone_sram s t
  | .hamperSelfRefreshExit, _ => execHamperSelfRefreshExit_sram s t
  | .clusterRunWrite ag v, _ => execClusterRunWrite_sram ag v s t
  | .wdEnable i, _ => execWdEnable_sram i s t
  | .wdKick i v, _ => execWdKick_sram i v s t
  | .wdExpiry i, _ => execWdExpiry_sram i s t
  | .gwWindowAccess ag req, _ => execGwWindowAccess_sram ag req s t
  | .gwWindowResponse port tag data err, _ => execGwWindowResponse_sram port tag data err s t
  | .gwWindowTimeout port tag, _ => execGwWindowTimeout_sram port tag s t
  | .gwMasterDone port tag, _ => execGwMasterDone_sram port tag s t
  | .eventRaise n, _ => execEventRaise_sram n s t
  | .userEventEdge w j, _ => execUserEventEdge_sram w j s t
  | .evtClaim ag c, _ => execEvtClaim_sram ag c s t
  | .evtRaiseWrite ag v, _ => execEvtRaiseWrite_sram ag v s t
  | .plRequest ag v, _ => execPlRequest_sram ag v s t
  | .plRampDone, _ => execPlRampDone_sram s t
  | .modeRequestDoze ag, _ => execModeRequestDoze_sram ag s t
  | .modeRequestSleep ag, _ => execModeRequestSleep_sram ag s t
  | .modeRequestStandby ag, _ => execModeRequestStandby_sram ag s t
  | .sleepEntered, _ => execSleepEntered_sram s t
  | .soundingRequest ag v, _ => execSoundingRequest_sram ag v s t
  | .soundingAbort ag, _ => execSoundingAbort_sram ag s t
  | .soundingCopyDone, _ => execSoundingCopyDone_sram s t
  | .soundingRunDone r, _ => execSoundingRunDone_sram r s t
  | .soundingMoveBackDone, _ => execSoundingMoveBackDone_sram s t
  | .loadingSoundingBatchDone rep, _ => execLoadingSoundingBatchDone_sram rep s t
  | .fuseBurn ag v, _ => execFuseBurn_sram ag v s t
  | .fuseBurnDone, _ => execFuseBurnDone_sram s t
  | .staleClear ag v, _ => execStaleClear_sram ag v s t
  | .creelScrubStep n, _ => execCreelScrubStep_sram n s t
  | .creelScrubWriteBack n, _ => execCreelScrubWriteBack_sram n s t
  | .lcTransition ag, _ => execLcTransition_sram ag s t
  | .lcSetOwner ag, _ => execLcSetOwner_sram ag s t
  | .lcSetKeyFuse ag, _ => execLcSetKeyFuse_sram ag s t
  | .lcLoadKeyBbr ag, _ => execLcLoadKeyBbr_sram ag s t
  | .lcClearKeyBbr ag, _ => execLcClearKeyBbr_sram ag s t
  | .lcDebugToken ag jtag, _ => execLcDebugToken_sram ag jtag s t
  | .lcReqbufClear ag, _ => execLcReqbufClear_sram ag s t
  | .lcRequestVerified vinOk, _ => execLcRequestVerified_sram vinOk s t
  | .lcBurnDone failed, _ => execLcBurnDone_sram failed s t
  | .tamperEvent cause, _ => execTamperEvent_sram cause s t
  | .zeroiseWrite ag v, _ => execZeroiseWrite_sram ag v s t
  | .debugClose ag, _ => execDebugClose_sram ag s t
  | .jtagTapReset, _ => execJtagTapReset_sram s t
  | .jtagLcTokenUpdate shifts bytes, _ => execJtagLcTokenUpdate_sram shifts bytes s t
  | .jtagExtest, _ => execJtagExtest_sram s t
  | .jtagClamp, _ => execJtagClamp_sram s t
  | .jtagHighz, _ => execJtagHighz_sram s t
  | .jtagIdcode, _ => execJtagIdcode_sram s t
  | .jtagSamplePreload, _ => execJtagSamplePreload_sram s t
  | .jtagLcToken, _ => execJtagLcToken_sram s t
  | .jtagLcStatus, _ => execJtagLcStatus_sram s t
  | .jtagDmi, _ => execJtagDmi_sram s t
  | .jtagGrenricTest code, _ => execJtagGrenricTest_sram code s t
  | .jtagBypass, _ => execJtagBypass_sram s t
  | .stakeNetEdge bay net rising pins, _ => execStakeNetEdge_sram bay net rising pins s t
  | .laneRxWord n w, _ => execLaneRxWord_sram n w s t
  | .vbatLow, _ => execVbatLow_sram s t
  | .pciePowerStateChange port d3hot l1 cfg, _ => execPciePowerStateChange_sram port d3hot l1 cfg s t
  | .vinFall .., named | .powerUpComplete .., named | .resetNRise .., named | .programNFall .., named
  | .sysCtlReload .., named | .waleWrite .., named | .waleRead .., named | .waleRqGo .., named | .spiWrite .., named
  | .gwMasterRequest .., named | .quiesceDone .., named | .quiesceTimeout .., named | .wakeSource .., named
  | .wakeTimerExpiry .., named | .sleepWakeRun .., named | .registerWrite .., named | .clusterBusAccess .., named => nomatch named

/-- A write lists its byte in its place. -/
theorem exec_sramCanonical {c : Instr} {s t : State} (wf : Store.rising s.sram = true)
    (runs : exec c s = .next t) : Store.rising t.sram = true := by
  cases named : mayWriteSram c with
  | false => rwa [exec_sram c named runs]
  | true =>
    cases c with
    | vinFall => exact execVinFall_sramCanonical s wf t runs
    | powerUpComplete straps => exact execPowerUpComplete_sramCanonical straps s wf t runs
    | resetNRise => exact execResetNRise_sramCanonical s wf t runs
    | programNFall => exact execProgramNFall_sramCanonical s wf t runs
    | sysCtlReload ag v => exact execSysCtlReload_sramCanonical ag v s wf t runs
    | waleWrite p b mem => exact execWaleWrite_sramCanonical p b mem s wf t runs
    | waleRead p b mem => exact execWaleRead_sramCanonical p b mem s wf t runs
    | waleRqGo ag n op ack len => exact execWaleRqGo_sramCanonical ag n op ack len s wf t runs
    | spiWrite port addr words => exact execSpiWrite_sramCanonical port addr words s wf t runs
    | gwMasterRequest port req => exact execGwMasterRequest_sramCanonical port req s wf t runs
    | quiesceDone => exact execQuiesceDone_sramCanonical s wf t runs
    | quiesceTimeout busy => exact execQuiesceTimeout_sramCanonical busy s wf t runs
    | wakeSource src port => exact execWakeSource_sramCanonical src port s wf t runs
    | wakeTimerExpiry => exact execWakeTimerExpiry_sramCanonical s wf t runs
    | sleepWakeRun stale => exact execSleepWakeRun_sramCanonical stale s wf t runs
    | registerWrite ag off v full => exact execRegisterWrite_sramCanonical ag off v full s wf t runs
    | clusterBusAccess core acc => exact execClusterBusAccess_sramCanonical core acc s wf t runs
    | _ => nomatch named

/-- Settles O6, command by command. -/
theorem onlyAccessesAndRestartsTouchSram : Obligations.OnlyAccessesAndRestartsTouchSram :=
  fun c _ _ => exec_sram c

end Sys2Proof.Machine
end

section
/-! The hamper (R383, R391): which commands can change a defined byte, and that they list each byte once. -/
namespace Sys2Proof.Machine

/-- The hamper is written by the accesses that reach it, and left undefined by a training, a map change or the loss of power. -/
theorem exec_hamperCells {s t : State} : (c : Instr) → mayWriteHamper c = false → exec c s = .next t → t.hamp.cells = s.hamp.cells
  | .resetNFall, _ => execResetNFall_hamperCells s t
  | .strapLatch straps, _ => execStrapLatch_hamperCells straps s t
  | .programNRise, _ => execProgramNRise_hamperCells s t
  | .railWarning r, _ => execRailWarning_hamperCells r s t
  | .vinLow, _ => execVinLow_hamperCells s t
  | .priorityInitLeave, _ => execPriorityInitLeave_hamperCells s t
  | .priorityOutputEnable, _ => execPriorityOutputEnable_hamperCells s t
  | .xwaitExpiry present, _ => execXwaitExpiry_hamperCells present s t
  | .releaseStart, _ => execReleaseStart_hamperCells s t
  | .releaseInitLeave, _ => execReleaseInitLeave_hamperCells s t
  | .releaseOutputEnable, _ => execReleaseOutputEnable_hamperCells s t
  | .releaseDoneRelease, _ => execReleaseDoneRelease_hamperCells s t
  | .doneHigh, _ => execDoneHigh_hamperCells s t
  | .journalEraseStart, _ => execJournalEraseStart_hamperCells s t
  | .bootClear ag v, _ => execBootClear_hamperCells ag v s t
  | .bankRepower b, _ => execBankRepower_hamperCells b s t
  | .refinLost, _ => execRefinLost_hamperCells s t
  | .refinRestored, _ => execRefinRestored_hamperCells s t
  | .xrefLost, _ => execXrefLost_hamperCells s t
  | .xrefRestored, _ => execXrefRestored_hamperCells s t
  | .hubSynthLock, _ => execHubSynthLock_hamperCells s t
  | .clkHubWrite ag v, _ => execClkHubWrite_hamperCells ag v s t
  | .synthGlideDone n, _ => execSynthGlideDone_hamperCells n s t
  | .synthDividerDone n, _ => execSynthDividerDone_hamperCells n s t
  | .synthLock n, _ => execSynthLock_hamperCells n s t
  | .synthLossOfLock n, _ => execSynthLossOfLock_hamperCells n s t
  | .synthHoldoverExit n, _ => execSynthHoldoverExit_hamperCells n s t
  | .glitchFreeSwitchDone net, _ => execGlitchFreeSwitchDone_hamperCells net s t
  | .glitchFreeSwitchForced net, _ => execGlitchFreeSwitchForced_hamperCells net s t
  | .rimSelectWrite ag reg v, _ => execRimSelectWrite_hamperCells ag reg v s t
  | .hardBlockGateRequest ag blk, _ => execHardBlockGateRequest_hamperCells ag blk s t
  | .hardBlockGateApply blk, _ => execHardBlockGateApply_hamperCells blk s t
  | .hardBlockGateRefused blk, _ => execHardBlockGateRefused_hamperCells blk s t
  | .hardBlockGateOpen ag blk, _ => execHardBlockGateOpen_hamperCells ag blk s t
  | .fmWindowEnd m count, _ => execFmWindowEnd_hamperCells m count s t
  | .fmSourceWrite ag m v, _ => execFmSourceWrite_hamperCells ag m v s t
  | .adjStep ag, _ => execAdjStep_hamperCells ag s t
  | .adjSlew ag, _ => execAdjSlew_hamperCells ag s t
  | .slewDone, _ => execSlewDone_hamperCells s t
  | .syncCapture x falling, _ => execSyncCapture_hamperCells x falling s t
  | .captureRead ag x, _ => execCaptureRead_hamperCells ag x s t
  | .ppsInLost, _ => execPpsInLost_hamperCells s t
  | .ppsOutPulse, _ => execPpsOutPulse_hamperCells s t
  | .ppsOutPulseEnd, _ => execPpsOutPulseEnd_hamperCells s t
  | .mbFire ag i ctl, _ => execMbFire_hamperCells ag i ctl s t
  | .boundaryLatch src, _ => execBoundaryLatch_hamperCells src s t
  | .snapshotRead ag off, _ => execSnapshotRead_hamperCells ag off s t
  | .syncWord, _ => execSyncWord_hamperCells s t
  | .packetBadHeader w, _ => execPacketBadHeader_hamperCells w s t
  | .nop, _ => execNop_hamperCells s t
  | .writeIdcode ws, _ => execWriteIdcode_hamperCells ws s t
  | .writeForm ws, _ => execWriteForm_hamperCells ws s t
  | .writeKeysel ws, _ => execWriteKeysel_hamperCells ws s t
  | .writeSid ws, _ => execWriteSid_hamperCells ws s t
  | .writeIv ws, _ => execWriteIv_hamperCells ws s t
  | .writeBodylen ws, _ => execWriteBodylen_hamperCells ws s t
  | .writeBound ws, _ => execWriteBound_hamperCells ws s t
  | .writeGroup ws, _ => execWriteGroup_hamperCells ws s t
  | .writePlfloor ws, _ => execWritePlfloor_hamperCells ws s t
  | .writeClkset ws, _ => execWriteClkset_hamperCells ws s t
  | .stepNone v, _ => execStepNone_hamperCells v s t
  | .stepStage, _ => execStepStage_hamperCells s t
  | .stageClearDone, _ => execStageClearDone_hamperCells s t
  | .stepFinish, _ => execStepFinish_hamperCells s t
  | .stepAbort, _ => execStepAbort_hamperCells s t
  | .writePlace ws, _ => execWritePlace_hamperCells ws s t
  | .writeFrames dyn ws, _ => execWriteFrames_hamperCells dyn ws s t
  | .zero dyn n, _ => execZero_hamperCells dyn n s t
  | .repeatPacket dyn n, _ => execRepeat_hamperCells dyn n s t
  | .patch dyn ps, _ => execPatch_hamperCells dyn ps s t
  | .body, _ => execBody_hamperCells s t
  | .writeSeal ws, _ => execWriteSeal_hamperCells ws s t
  | .clksetLockWaitEnd, _ => execClksetLockWaitEnd_hamperCells s t
  | .writeCrcv ws, _ => execWriteCrcv_hamperCells ws s t
  | .readFrames n, _ => execReadFrames_hamperCells n s t
  | .readPlace, _ => execReadPlace_hamperCells s t
  | .readStat, _ => execReadStat_hamperCells s t
  | .sectionPacket sel len, _ => execSection_hamperCells sel len s t
  | .endPacket, _ => execEnd_hamperCells s t
  | .streamSourceEnd, _ => execStreamSourceEnd_hamperCells s t
  | .stagedVerifyEnd us, _ => execStagedVerifyEnd_hamperCells us s t
  | .psrcOpen ag c, _ => execPsrcOpen_hamperCells ag c s t
  | .unopenedSourceWords, _ => execUnopenedSourceWords_hamperCells s t
  | .cgArmCommit ag g, _ => execCgArmCommit_hamperCells ag g s t
  | .cgArmRevert ag g, _ => execCgArmRevert_hamperCells ag g s t
  | .cgDisarm ag g mode, _ => execCgDisarm_hamperCells ag g mode s t
  | .cgDiscard ag g mode, _ => execCgDiscard_hamperCells ag g mode s t
  | .cgDeadlineExpiry g, _ => execCgDeadlineExpiry_hamperCells g s t
  | .commitRelease g, _ => execCommitRelease_hamperCells g s t
  | .revertVerifyEnd g us, _ => execRevertVerifyEnd_hamperCells g us s t
  | .dwPlaceWrite ag p, _ => execDwPlaceWrite_hamperCells ag p s t
  | .dwDataWrite ag w, _ => execDwDataWrite_hamperCells ag w s t
  | .dwApply ag bsel, _ => execDwApply_hamperCells ag bsel s t
  | .dwClearBuffer ag bsel, _ => execDwClearBuffer_hamperCells ag bsel s t
  | .dwApplyEnd, _ => execDwApplyEnd_hamperCells s t
  | .panelIsoWrite ag g v, _ => execPanelIsoWrite_hamperCells ag g v s t
  | .pisoChange g level, _ => execPisoChange_hamperCells g level s t
  | .pntRestart ag en shadow, _ => execPntRestart_hamperCells ag en shadow s t
  | .pntHoldClear ag v, _ => execPntHoldClear_hamperCells ag v s t
  | .pntReloadOpen, _ => execPntReloadOpen_hamperCells s t
  | .pntReloadFire, _ => execPntReloadFire_hamperCells s t
  | .pntReloadWaitExpiry, _ => execPntReloadWaitExpiry_hamperCells s t
  | .pntLogPop ag, _ => execPntLogPop_hamperCells ag s t
  | .flashUnlockFirst ag off, _ => execFlashUnlockFirst_hamperCells ag off s t
  | .flashUnlockSecond ag off, _ => execFlashUnlockSecond_hamperCells ag off s t
  | .flashProgramWordCmd ag off, _ => execFlashProgramWordCmd_hamperCells ag off s t
  | .flashProgramLineCmd ag off, _ => execFlashProgramLineCmd_hamperCells ag off s t
  | .flashDataCycle ag off wide v, _ => execFlashDataCycle_hamperCells ag off wide v s t
  | .flashEraseSetup ag off, _ => execFlashEraseSetup_hamperCells ag off s t
  | .flashEraseConfirm ag off, _ => execFlashEraseConfirm_hamperCells ag off s t
  | .flashSuspendCmd ag off, _ => execFlashSuspendCmd_hamperCells ag off s t
  | .flashResumeCmd ag off, _ => execFlashResumeCmd_hamperCells ag off s t
  | .flashReadStatusCmd ag off, _ => execFlashReadStatusCmd_hamperCells ag off s t
  | .flashInfoEntryCmd ag off, _ => execFlashInfoEntryCmd_hamperCells ag off s t
  | .flashReturnToRead ag off, _ => execFlashReturnToRead_hamperCells ag off s t
  | .flashSuspendEffect, _ => execFlashSuspendEffect_hamperCells s t
  | .flashProgramDone pulses pass, _ => execFlashProgramDone_hamperCells pulses pass s t
  | .flashIntentRecorded fails, _ => execFlashIntentRecorded_hamperCells fails s t
  | .flashCompactionDone, _ => execFlashCompactionDone_hamperCells s t
  | .flashEraseDone pulses pass, _ => execFlashEraseDone_hamperCells pulses pass s t
  | .flashHostReadBusy ag off, _ => execFlashHostReadBusy_hamperCells ag off s t
  | .flashStalledReadDone ag off, _ => execFlashStalledReadDone_hamperCells ag off s t
  | .laneTxeqWrite ag n v, _ => execLaneTxeqWrite_hamperCells ag n v s t
  | .laneWakeBurstEnd n, _ => execLaneWakeBurstEnd_hamperCells n s t
  | .cdrLockAcquired n, _ => execCdrLockAcquired_hamperCells n s t
  | .cdrLockLost n, _ => execCdrLockLost_hamperCells n s t
  | .rxidleChange n idle, _ => execRxidleChange_hamperCells n idle s t
  | .eyeWindowEnd n e, _ => execEyeWindowEnd_hamperCells n e s t
  | .laneLoadlg ag n, _ => execLaneLoadlg_hamperCells ag n s t
  | .commaAlign n, _ => execCommaAlign_hamperCells n s t
  | .alignLost n, _ => execAlignLost_hamperCells n s t
  | .blockLockAcquired n, _ => execBlockLockAcquired_hamperCells n s t
  | .blockLockLost n, _ => execBlockLockLost_hamperCells n s t
  | .phaseFifoFault n tx, _ => execPhaseFifoFault_hamperCells n tx s t
  | .qpllLock q w, _ => execQpllLock_hamperCells q w s t
  | .qpllLossOfLock q w, _ => execQpllLossOfLock_hamperCells q w s t
  | .quadCalStart ag q, _ => execQuadCalStart_hamperCells ag q s t
  | .quadCalDone q pass, _ => execQuadCalDone_hamperCells q pass s t
  | .quadCalTimeout q, _ => execQuadCalTimeout_hamperCells q s t
  | .prbsClear ag n, _ => execPrbsClear_hamperCells ag n s t
  | .prbsCheckerLock n, _ => execPrbsCheckerLock_hamperCells n s t
  | .wpEnable ag p, _ => execWpEnable_hamperCells ag p s t
  | .wpDisable ag p, _ => execWpDisable_hamperCells ag p s t
  | .wpRetrain ag p, _ => execWpRetrain_hamperCells ag p s t
  | .waleTrnSet p lane w, _ => execWaleTrnSet_hamperCells p lane w s t
  | .waleTrainTimeout p, _ => execWaleTrainTimeout_hamperCells p s t
  | .waleLinkUp p, _ => execWaleLinkUp_hamperCells p s t
  | .waleAutoRetrain p, _ => execWaleAutoRetrain_hamperCells p s t
  | .waleBlockBad p fmt, _ => execWaleBlockBad_hamperCells p fmt s t
  | .waleAck p aseq junk, _ => execWaleAck_hamperCells p aseq junk s t
  | .waleNak p aseq junk, _ => execWaleNak_hamperCells p aseq junk s t
  | .waleAckSend p, _ => execWaleAckSend_hamperCells p s t
  | .waleAckTimerExpiry p, _ => execWaleAckTimerExpiry_hamperCells p s t
  | .waleLaneFail p lane, _ => execWaleLaneFail_hamperCells p lane s t
  | .waleLaneReadmitReady p lane, _ => execWaleLaneReadmitReady_hamperCells p lane s t
  | .waleLmgDrop p set junk, _ => execWaleLmgDrop_hamperCells p set junk s t
  | .waleLmgReadmit p set junk, _ => execWaleLmgReadmit_hamperCells p set junk s t
  | .waleLmgSleep p junk, _ => execWaleLmgSleep_hamperCells p junk s t
  | .waleLmgDown p junk, _ => execWaleLmgDown_hamperCells p junk s t
  | .waleTimeExchangeStart fine, _ => execWaleTimeExchangeStart_hamperCells fine s t
  | .waleTsyRequest p xn fine turn junk, _ => execWaleTsyRequest_hamperCells p xn fine turn junk s t
  | .waleTsyResponse p xn fine junk, _ => execWaleTsyResponse_hamperCells p xn fine junk s t
  | .waleTimeFollowUp p b, _ => execWaleTimeFollowUp_hamperCells p b s t
  | .waleFollowUpTimeout, _ => execWaleFollowUpTimeout_hamperCells s t
  | .waleCompletion p b, _ => execWaleCompletion_hamperCells p b s t
  | .waleMessage p b, _ => execWaleMessage_hamperCells p b s t
  | .waleGangBlock p b, _ => execWaleGangBlock_hamperCells p b s t
  | .waleAdvert p b, _ => execWaleAdvert_hamperCells p b s t
  | .waleAdvertTimer, _ => execWaleAdvertTimer_hamperCells s t
  | .waleAdvertExpiry p, _ => execWaleAdvertExpiry_hamperCells p s t
  | .waleJoin p b, _ => execWaleJoin_hamperCells p b s t
  | .waleBnd p b, _ => execWaleBnd_hamperCells p b s t
  | .waleBndref p b, _ => execWaleBndref_hamperCells p b s t
  | .waleVoteCutoff src, _ => execWaleVoteCutoff_hamperCells src s t
  | .waleVote p b, _ => execWaleVote_hamperCells p b s t
  | .waleVerdictTimer num den, _ => execWaleVerdictTimer_hamperCells num den s t
  | .waleVerdict p b, _ => execWaleVerdict_hamperCells p b s t
  | .waleAlarm p b, _ => execWaleAlarm_hamperCells p b s t
  | .waleDoneUpSend, _ => execWaleDoneUpSend_hamperCells s t
  | .waleDoneUp p b, _ => execWaleDoneUp_hamperCells p b s t
  | .waleSysdone p b, _ => execWaleSysdone_hamperCells p b s t
  | .waleSystemDoneInstant, _ => execWaleSystemDoneInstant_hamperCells s t
  | .waleSleepMsg p b, _ => execWaleSleepMsg_hamperCells p b s t
  | .waleAwake p b, _ => execWaleAwake_hamperCells p b s t
  | .waleWake p b, _ => execWaleWake_hamperCells p b s t
  | .waleRequestDeadline tag, _ => execWaleRequestDeadline_hamperCells tag s t
  | .waleMqPop ag, _ => execWaleMqPop_hamperCells ag s t
  | .waleGangGo ag hamper bcast dest, _ => execWaleGangGo_hamperCells ag hamper bcast dest s t
  | .waleGangAbort ag blocks, _ => execWaleGangAbort_hamperCells ag blocks s t
  | .waleGangSendEnd, _ => execWaleGangSendEnd_hamperCells s t
  | .waleGangStreamTimeout, _ => execWaleGangStreamTimeout_hamperCells s t
  | .pcieLinkUp port gen width, _ => execPcieLinkUp_hamperCells port gen width s t
  | .pcieLinkDown port, _ => execPcieLinkDown_hamperCells port s t
  | .pcieFlr port, _ => execPcieFlr_hamperCells port s t
  | .pcieHotReset port, _ => execPcieHotReset_hamperCells port s t
  | .pciePerst port, _ => execPciePerst_hamperCells port s t
  | .streamWindowWrite port spi words, _ => execStreamWindowWrite_hamperCells port spi words s t
  | .hpSendEnd ag port v, _ => execHpSendEnd_hamperCells ag port v s t
  | .hpSretRead ag port, _ => execHpSretRead_hamperCells ag port s t
  | .hpSpirel ag port, _ => execHpSpirel_hamperCells ag port s t
  | .spiRead port addr k, _ => execSpiRead_hamperCells port addr k s t
  | .spiStatus port, _ => execSpiStatus_hamperCells port s t
  | .spiFrameError port, _ => execSpiFrameError_hamperCells port s t
  | .semAcquire ag n, _ => execSemAcquire_hamperCells ag n s t
  | .semRelease ag n, _ => execSemRelease_hamperCells ag n s t
  | .semForce ag v, _ => execSemForce_hamperCells ag v s t
  | .mbRing ag m, _ => execMbRing_hamperCells ag m s t
  | .mbAck ag m, _ => execMbAck_hamperCells ag m s t
  | .mbDataWrite ag m i v, _ => execMbDataWrite_hamperCells ag m i v s t
  | .hamperTrainTimeout, _ => execHamperTrainTimeout_hamperCells s t
  | .hamperPortRequest n rq, _ => execHamperPortRequest_hamperCells n rq s t
  | .hamperRefresh, _ => execHamperRefresh_hamperCells s t
  | .hamperTempRead temp, _ => execHamperTempRead_hamperCells temp s t
  | .hamperRetrain ag, _ => execHamperRetrain_hamperCells ag s t
  | .hamperRetrainDrained, _ => execHamperRetrainDrained_hamperCells s t
  | .hamperDrainTimeout, _ => execHamperDrainTimeout_hamperCells s t
  | .hamperRetrainDone, _ => execHamperRetrainDone_hamperCells s t
  | .clusterRunWrite ag v, _ => execClusterRunWrite_hamperCells ag v s t
  | .wdEnable i, _ => execWdEnable_hamperCells i s t
  | .wdKick i v, _ => execWdKick_hamperCells i v s t
  | .wdExpiry i, _ => execWdExpiry_hamperCells i s t
  | .gwWindowAccess ag req, _ => execGwWindowAccess_hamperCells ag req s t
  | .gwWindowResponse port tag data err, _ => execGwWindowResponse_hamperCells port tag data err s t
  | .gwWindowTimeout port tag, _ => execGwWindowTimeout_hamperCells port tag s t
  | .gwMasterDone port tag, _ => execGwMasterDone_hamperCells port tag s t
  | .eventRaise n, _ => execEventRaise_hamperCells n s t
  | .userEventEdge w j, _ => execUserEventEdge_hamperCells w j s t
  | .evtClaim ag c, _ => execEvtClaim_hamperCells ag c s t
  | .evtRaiseWrite ag v, _ => execEvtRaiseWrite_hamperCells ag v s t
  | .plRequest ag v, _ => execPlRequest_hamperCells ag v s t
  | .modeRequestDoze ag, _ => execModeRequestDoze_hamperCells ag s t
  | .modeRequestSleep ag, _ => execModeRequestSleep_hamperCells ag s t
  | .modeRequestStandby ag, _ => execModeRequestStandby_hamperCells ag s t
  | .sleepEntered, _ => execSleepEntered_hamperCells s t
  | .soundingRequest ag v, _ => execSoundingRequest_hamperCells ag v s t
  | .soundingAbort ag, _ => execSoundingAbort_hamperCells ag s t
  | .soundingCopyDone, _ => execSoundingCopyDone_hamperCells s t
  | .soundingRunDone r, _ => execSoundingRunDone_hamperCells r s t
  | .soundingMoveBackDone, _ => execSoundingMoveBackDone_hamperCells s t
  | .loadingSoundingBatchDone rep, _ => execLoadingSoundingBatchDone_hamperCells rep s t
  | .fuseBurn ag v, _ => execFuseBurn_hamperCells ag v s t
  | .fuseBurnDone, _ => execFuseBurnDone_hamperCells s t
  | .staleClear ag v, _ => execStaleClear_hamperCells ag v s t
  | .creelScrubStep n, _ => execCreelScrubStep_hamperCells n s t
  | .creelScrubWriteBack n, _ => execCreelScrubWriteBack_hamperCells n s t
  | .lcTransition ag, _ => execLcTransition_hamperCells ag s t
  | .lcSetOwner ag, _ => execLcSetOwner_hamperCells ag s t
  | .lcSetKeyFuse ag, _ => execLcSetKeyFuse_hamperCells ag s t
  | .lcLoadKeyBbr ag, _ => execLcLoadKeyBbr_hamperCells ag s t
  | .lcClearKeyBbr ag, _ => execLcClearKeyBbr_hamperCells ag s t
  | .lcDebugToken ag jtag, _ => execLcDebugToken_hamperCells ag jtag s t
  | .lcReqbufClear ag, _ => execLcReqbufClear_hamperCells ag s t
  | .lcRequestVerified vinOk, _ => execLcRequestVerified_hamperCells vinOk s t
  | .lcBurnDone failed, _ => execLcBurnDone_hamperCells failed s t
  | .tamperEvent cause, _ => execTamperEvent_hamperCells cause s t
  | .zeroiseWrite ag v, _ => execZeroiseWrite_hamperCells ag v s t
  | .debugClose ag, _ => execDebugClose_hamperCells ag s t
  | .jtagTapReset, _ => execJtagTapReset_hamperCells s t
  | .jtagLcTokenUpdate shifts bytes, _ => execJtagLcTokenUpdate_hamperCells shifts bytes s t
  | .jtagExtest, _ => execJtagExtest_hamperCells s t
  | .jtagClamp, _ => execJtagClamp_hamperCells s t
  | .jtagHighz, _ => execJtagHighz_hamperCells s t
  | .jtagIdcode, _ => execJtagIdcode_hamperCells s t
  | .jtagSamplePreload, _ => execJtagSamplePreload_hamperCells s t
  | .jtagLcToken, _ => execJtagLcToken_hamperCells s t
  | .jtagLcStatus, _ => execJtagLcStatus_hamperCells s t
  | .jtagDmi, _ => execJtagDmi_hamperCells s t
  | .jtagGrenricTest code, _ => execJtagGrenricTest_hamperCells code s t
  | .jtagBypass, _ => execJtagBypass_hamperCells s t
  | .stakeNetEdge bay net rising pins, _ => execStakeNetEdge_hamperCells bay net rising pins s t
  | .laneRxWord n w, _ => execLaneRxWord_hamperCells n w s t
  | .vbatLow, _ => execVbatLow_hamperCells s t
  | .pciePowerStateChange port d3hot l1 cfg, _ => execPciePowerStateChange_hamperCells port d3hot l1 cfg s t
  | .vinFall .., named | .powerUpComplete .., named | .resetNRise .., named | .keeperBootComplete .., named
  | .startTestComplete .., named | .programNFall .., named | .sysCtlReload .., named | .thermalSample .., named
  | .regulatorFault .., named | .srcWaitExpiry .., named | .priorityCommit .., named
  | .priorityStageTimeout .., named | .mainCommit .., named | .doneWaitExpiry .., named | .boundaryDelivery .., named
  | .pntFrameRead .., named | .pntSbeWriteBackDone .., named | .waleWrite .., named | .waleRead .., named
  | .waleRqGo .., named | .spiWrite .., named | .hamperTrainDone .., named | .hamperAccessDone .., named
  | .hamperSelfRefreshExit .., named | .gwMasterRequest .., named | .plRampDone .., named | .quiesceDone .., named
  | .quiesceTimeout .., named | .wakeSource .., named | .wakeTimerExpiry .., named | .sleepWakeRun .., named
  | .registerWrite .., named | .clusterBusAccess .., named => nomatch named

/-- A write lists its byte in its place. -/
theorem exec_hamperCanonical {c : Instr} {s t : State} (wf : Store.rising s.hamp.cells = true)
    (runs : exec c s = .next t) : Store.rising t.hamp.cells = true := by
  cases named : mayWriteHamper c with
  | false => rwa [exec_hamperCells c named runs]
  | true =>
    cases c with
    | vinFall => exact execVinFall_hamperCanonical s wf t runs
    | powerUpComplete straps => exact execPowerUpComplete_hamperCanonical straps s wf t runs
    | resetNRise => exact execResetNRise_hamperCanonical s wf t runs
    | keeperBootComplete agree xref vinOk => exact execKeeperBootComplete_hamperCanonical agree xref vinOk s wf t runs
    | startTestComplete hub rep => exact execStartTestComplete_hamperCanonical hub rep s wf t runs
    | programNFall => exact execProgramNFall_hamperCanonical s wf t runs
    | sysCtlReload ag v => exact execSysCtlReload_hamperCanonical ag v s wf t runs
    | thermalSample bays hub => exact execThermalSample_hamperCanonical bays hub s wf t runs
    | regulatorFault r => exact execRegulatorFault_hamperCanonical r s wf t runs
    | srcWaitExpiry => exact execSrcWaitExpiry_hamperCanonical s wf t runs
    | priorityCommit => exact execPriorityCommit_hamperCanonical s wf t runs
    | priorityStageTimeout => exact execPriorityStageTimeout_hamperCanonical s wf t runs
    | mainCommit => exact execMainCommit_hamperCanonical s wf t runs
    | doneWaitExpiry => exact execDoneWaitExpiry_hamperCanonical s wf t runs
    | boundaryDelivery src => exact execBoundaryDelivery_hamperCanonical src s wf t runs
    | pntFrameRead w upset entry => exact execPntFrameRead_hamperCanonical w upset entry s wf t runs
    | pntSbeWriteBackDone w upset => exact execPntSbeWriteBackDone_hamperCanonical w upset s wf t runs
    | waleWrite p b mem => exact execWaleWrite_hamperCanonical p b mem s wf t runs
    | waleRead p b mem => exact execWaleRead_hamperCanonical p b mem s wf t runs
    | waleRqGo ag n op ack len => exact execWaleRqGo_hamperCanonical ag n op ack len s wf t runs
    | spiWrite port addr words => exact execSpiWrite_hamperCanonical port addr words s wf t runs
    | hamperTrainDone pass => exact execHamperTrainDone_hamperCanonical pass s wf t runs
    | hamperAccessDone src sev => exact execHamperAccessDone_hamperCanonical src sev s wf t runs
    | hamperSelfRefreshExit => exact execHamperSelfRefreshExit_hamperCanonical s wf t runs
    | gwMasterRequest port req => exact execGwMasterRequest_hamperCanonical port req s wf t runs
    | plRampDone => exact execPlRampDone_hamperCanonical s wf t runs
    | quiesceDone => exact execQuiesceDone_hamperCanonical s wf t runs
    | quiesceTimeout busy => exact execQuiesceTimeout_hamperCanonical busy s wf t runs
    | wakeSource src port => exact execWakeSource_hamperCanonical src port s wf t runs
    | wakeTimerExpiry => exact execWakeTimerExpiry_hamperCanonical s wf t runs
    | sleepWakeRun stale => exact execSleepWakeRun_hamperCanonical stale s wf t runs
    | registerWrite ag off v full => exact execRegisterWrite_hamperCanonical ag off v full s wf t runs
    | clusterBusAccess core acc => exact execClusterBusAccess_hamperCanonical core acc s wf t runs
    | _ => nomatch named

/-- Settles O7, command by command. -/
theorem onlyTheNamedCommandsTouchTheHamper : Obligations.OnlyTheNamedCommandsTouchTheHamper :=
  fun c _ _ => exec_hamperCells c

end Sys2Proof.Machine
end

section
/-! The flash array (R275): which commands can change a byte, and that they keep its canonical form. -/
namespace Sys2Proof.Machine

/-- The array is written by the ends of flash operations and by the journal. -/
theorem exec_flashCells {s t : State} : (c : Instr) → mayWriteFlash c = false → exec c s = .next t → t.flash.cells = s.flash.cells
  | .strapLatch straps, _ => execStrapLatch_flashCells straps s t
  | .railWarning r, _ => execRailWarning_flashCells r s t
  | .vinLow, _ => execVinLow_flashCells s t
  | .priorityCommit, _ => execPriorityCommit_flashCells s t
  | .priorityInitLeave, _ => execPriorityInitLeave_flashCells s t
  | .releaseStart, _ => execReleaseStart_flashCells s t
  | .releaseInitLeave, _ => execReleaseInitLeave_flashCells s t
  | .releaseDoneRelease, _ => execReleaseDoneRelease_flashCells s t
  | .journalEraseStart, _ => execJournalEraseStart_flashCells s t
  | .bankRepower b, _ => execBankRepower_flashCells b s t
  | .refinLost, _ => execRefinLost_flashCells s t
  | .refinRestored, _ => execRefinRestored_flashCells s t
  | .xrefLost, _ => execXrefLost_flashCells s t
  | .xrefRestored, _ => execXrefRestored_flashCells s t
  | .hubSynthLock, _ => execHubSynthLock_flashCells s t
  | .clkHubWrite ag v, _ => execClkHubWrite_flashCells ag v s t
  | .synthGlideDone n, _ => execSynthGlideDone_flashCells n s t
  | .synthDividerDone n, _ => execSynthDividerDone_flashCells n s t
  | .synthLock n, _ => execSynthLock_flashCells n s t
  | .synthLossOfLock n, _ => execSynthLossOfLock_flashCells n s t
  | .synthHoldoverExit n, _ => execSynthHoldoverExit_flashCells n s t
  | .glitchFreeSwitchDone net, _ => execGlitchFreeSwitchDone_flashCells net s t
  | .glitchFreeSwitchForced net, _ => execGlitchFreeSwitchForced_flashCells net s t
  | .rimSelectWrite ag reg v, _ => execRimSelectWrite_flashCells ag reg v s t
  | .hardBlockGateRequest ag blk, _ => execHardBlockGateRequest_flashCells ag blk s t
  | .hardBlockGateApply blk, _ => execHardBlockGateApply_flashCells blk s t
  | .hardBlockGateRefused blk, _ => execHardBlockGateRefused_flashCells blk s t
  | .hardBlockGateOpen ag blk, _ => execHardBlockGateOpen_flashCells ag blk s t
  | .fmWindowEnd m count, _ => execFmWindowEnd_flashCells m count s t
  | .fmSourceWrite ag m v, _ => execFmSourceWrite_flashCells ag m v s t
  | .adjStep ag, _ => execAdjStep_flashCells ag s t
  | .adjSlew ag, _ => execAdjSlew_flashCells ag s t
  | .slewDone, _ => execSlewDone_flashCells s t
  | .syncCapture x falling, _ => execSyncCapture_flashCells x falling s t
  | .captureRead ag x, _ => execCaptureRead_flashCells ag x s t
  | .ppsInLost, _ => execPpsInLost_flashCells s t
  | .ppsOutPulse, _ => execPpsOutPulse_flashCells s t
  | .ppsOutPulseEnd, _ => execPpsOutPulseEnd_flashCells s t
  | .mbFire ag i ctl, _ => execMbFire_flashCells ag i ctl s t
  | .boundaryLatch src, _ => execBoundaryLatch_flashCells src s t
  | .boundaryDelivery src, _ => execBoundaryDelivery_flashCells src s t
  | .snapshotRead ag off, _ => execSnapshotRead_flashCells ag off s t
  | .unopenedSourceWords, _ => execUnopenedSourceWords_flashCells s t
  | .cgArmCommit ag g, _ => execCgArmCommit_flashCells ag g s t
  | .cgArmRevert ag g, _ => execCgArmRevert_flashCells ag g s t
  | .cgDisarm ag g mode, _ => execCgDisarm_flashCells ag g mode s t
  | .cgDiscard ag g mode, _ => execCgDiscard_flashCells ag g mode s t
  | .cgDeadlineExpiry g, _ => execCgDeadlineExpiry_flashCells g s t
  | .commitRelease g, _ => execCommitRelease_flashCells g s t
  | .revertVerifyEnd g us, _ => execRevertVerifyEnd_flashCells g us s t
  | .dwPlaceWrite ag p, _ => execDwPlaceWrite_flashCells ag p s t
  | .dwDataWrite ag w, _ => execDwDataWrite_flashCells ag w s t
  | .dwApply ag bsel, _ => execDwApply_flashCells ag bsel s t
  | .dwClearBuffer ag bsel, _ => execDwClearBuffer_flashCells ag bsel s t
  | .dwApplyEnd, _ => execDwApplyEnd_flashCells s t
  | .panelIsoWrite ag g v, _ => execPanelIsoWrite_flashCells ag g v s t
  | .pisoChange g level, _ => execPisoChange_flashCells g level s t
  | .pntFrameRead w upset entry, _ => execPntFrameRead_flashCells w upset entry s t
  | .pntSbeWriteBackDone w upset, _ => execPntSbeWriteBackDone_flashCells w upset s t
  | .pntRestart ag en shadow, _ => execPntRestart_flashCells ag en shadow s t
  | .pntHoldClear ag v, _ => execPntHoldClear_flashCells ag v s t
  | .pntReloadOpen, _ => execPntReloadOpen_flashCells s t
  | .pntReloadFire, _ => execPntReloadFire_flashCells s t
  | .pntReloadWaitExpiry, _ => execPntReloadWaitExpiry_flashCells s t
  | .pntLogPop ag, _ => execPntLogPop_flashCells ag s t
  | .flashUnlockFirst ag off, _ => execFlashUnlockFirst_flashCells ag off s t
  | .flashUnlockSecond ag off, _ => execFlashUnlockSecond_flashCells ag off s t
  | .flashProgramWordCmd ag off, _ => execFlashProgramWordCmd_flashCells ag off s t
  | .flashProgramLineCmd ag off, _ => execFlashProgramLineCmd_flashCells ag off s t
  | .flashDataCycle ag off wide v, _ => execFlashDataCycle_flashCells ag off wide v s t
  | .flashEraseSetup ag off, _ => execFlashEraseSetup_flashCells ag off s t
  | .flashEraseConfirm ag off, _ => execFlashEraseConfirm_flashCells ag off s t
  | .flashSuspendCmd ag off, _ => execFlashSuspendCmd_flashCells ag off s t
  | .flashResumeCmd ag off, _ => execFlashResumeCmd_flashCells ag off s t
  | .flashReadStatusCmd ag off, _ => execFlashReadStatusCmd_flashCells ag off s t
  | .flashInfoEntryCmd ag off, _ => execFlashInfoEntryCmd_flashCells ag off s t
  | .flashReturnToRead ag off, _ => execFlashReturnToRead_flashCells ag off s t
  | .flashSuspendEffect, _ => execFlashSuspendEffect_flashCells s t
  | .flashHostReadBusy ag off, _ => execFlashHostReadBusy_flashCells ag off s t
  | .flashStalledReadDone ag off, _ => execFlashStalledReadDone_flashCells ag off s t
  | .laneTxeqWrite ag n v, _ => execLaneTxeqWrite_flashCells ag n v s t
  | .laneWakeBurstEnd n, _ => execLaneWakeBurstEnd_flashCells n s t
  | .cdrLockAcquired n, _ => execCdrLockAcquired_flashCells n s t
  | .cdrLockLost n, _ => execCdrLockLost_flashCells n s t
  | .rxidleChange n idle, _ => execRxidleChange_flashCells n idle s t
  | .eyeWindowEnd n e, _ => execEyeWindowEnd_flashCells n e s t
  | .laneLoadlg ag n, _ => execLaneLoadlg_flashCells ag n s t
  | .commaAlign n, _ => execCommaAlign_flashCells n s t
  | .alignLost n, _ => execAlignLost_flashCells n s t
  | .blockLockAcquired n, _ => execBlockLockAcquired_flashCells n s t
  | .blockLockLost n, _ => execBlockLockLost_flashCells n s t
  | .phaseFifoFault n tx, _ => execPhaseFifoFault_flashCells n tx s t
  | .qpllLock q w, _ => execQpllLock_flashCells q w s t
  | .qpllLossOfLock q w, _ => execQpllLossOfLock_flashCells q w s t
  | .quadCalStart ag q, _ => execQuadCalStart_flashCells ag q s t
  | .prbsClear ag n, _ => execPrbsClear_flashCells ag n s t
  | .prbsCheckerLock n, _ => execPrbsCheckerLock_flashCells n s t
  | .waleLinkUp p, _ => execWaleLinkUp_flashCells p s t
  | .waleAutoRetrain p, _ => execWaleAutoRetrain_flashCells p s t
  | .waleBlockBad p fmt, _ => execWaleBlockBad_flashCells p fmt s t
  | .waleAck p aseq junk, _ => execWaleAck_flashCells p aseq junk s t
  | .waleAckSend p, _ => execWaleAckSend_flashCells p s t
  | .waleLaneReadmitReady p lane, _ => execWaleLaneReadmitReady_flashCells p lane s t
  | .waleLmgDrop p set junk, _ => execWaleLmgDrop_flashCells p set junk s t
  | .waleLmgReadmit p set junk, _ => execWaleLmgReadmit_flashCells p set junk s t
  | .waleLmgSleep p junk, _ => execWaleLmgSleep_flashCells p junk s t
  | .waleTimeExchangeStart fine, _ => execWaleTimeExchangeStart_flashCells fine s t
  | .waleTsyRequest p xn fine turn junk, _ => execWaleTsyRequest_flashCells p xn fine turn junk s t
  | .waleTsyResponse p xn fine junk, _ => execWaleTsyResponse_flashCells p xn fine junk s t
  | .waleTimeFollowUp p b, _ => execWaleTimeFollowUp_flashCells p b s t
  | .waleFollowUpTimeout, _ => execWaleFollowUpTimeout_flashCells s t
  | .waleCompletion p b, _ => execWaleCompletion_flashCells p b s t
  | .waleMessage p b, _ => execWaleMessage_flashCells p b s t
  | .waleAdvert p b, _ => execWaleAdvert_flashCells p b s t
  | .waleAdvertTimer, _ => execWaleAdvertTimer_flashCells s t
  | .waleAdvertExpiry p, _ => execWaleAdvertExpiry_flashCells p s t
  | .waleJoin p b, _ => execWaleJoin_flashCells p b s t
  | .waleBnd p b, _ => execWaleBnd_flashCells p b s t
  | .waleBndref p b, _ => execWaleBndref_flashCells p b s t
  | .waleVoteCutoff src, _ => execWaleVoteCutoff_flashCells src s t
  | .waleVote p b, _ => execWaleVote_flashCells p b s t
  | .waleVerdictTimer num den, _ => execWaleVerdictTimer_flashCells num den s t
  | .waleVerdict p b, _ => execWaleVerdict_flashCells p b s t
  | .waleAlarm p b, _ => execWaleAlarm_flashCells p b s t
  | .waleDoneUpSend, _ => execWaleDoneUpSend_flashCells s t
  | .waleDoneUp p b, _ => execWaleDoneUp_flashCells p b s t
  | .waleSysdone p b, _ => execWaleSysdone_flashCells p b s t
  | .waleSystemDoneInstant, _ => execWaleSystemDoneInstant_flashCells s t
  | .waleSleepMsg p b, _ => execWaleSleepMsg_flashCells p b s t
  | .waleAwake p b, _ => execWaleAwake_flashCells p b s t
  | .waleWake p b, _ => execWaleWake_flashCells p b s t
  | .waleRequestDeadline tag, _ => execWaleRequestDeadline_flashCells tag s t
  | .waleMqPop ag, _ => execWaleMqPop_flashCells ag s t
  | .waleGangGo ag hamper bcast dest, _ => execWaleGangGo_flashCells ag hamper bcast dest s t
  | .waleGangAbort ag blocks, _ => execWaleGangAbort_flashCells ag blocks s t
  | .waleGangSendEnd, _ => execWaleGangSendEnd_flashCells s t
  | .pcieLinkUp port gen width, _ => execPcieLinkUp_flashCells port gen width s t
  | .spiStatus port, _ => execSpiStatus_flashCells port s t
  | .spiFrameError port, _ => execSpiFrameError_flashCells port s t
  | .mbRing ag m, _ => execMbRing_flashCells ag m s t
  | .mbAck ag m, _ => execMbAck_flashCells ag m s t
  | .mbDataWrite ag m i v, _ => execMbDataWrite_flashCells ag m i v s t
  | .hamperPortRequest n rq, _ => execHamperPortRequest_flashCells n rq s t
  | .hamperAccessDone src sev, _ => execHamperAccessDone_flashCells src sev s t
  | .hamperRefresh, _ => execHamperRefresh_flashCells s t
  | .hamperTempRead temp, _ => execHamperTempRead_flashCells temp s t
  | .hamperRetrain ag, _ => execHamperRetrain_flashCells ag s t
  | .hamperRetrainDrained, _ => execHamperRetrainDrained_flashCells s t
  | .hamperDrainTimeout, _ => execHamperDrainTimeout_flashCells s t
  | .hamperRetrainDone, _ => execHamperRetrainDone_flashCells s t
  | .hamperSelfRefreshExit, _ => execHamperSelfRefreshExit_flashCells s t
  | .clusterRunWrite ag v, _ => execClusterRunWrite_flashCells ag v s t
  | .wdEnable i, _ => execWdEnable_flashCells i s t
  | .wdKick i v, _ => execWdKick_flashCells i v s t
  | .wdExpiry i, _ => execWdExpiry_flashCells i s t
  | .gwWindowAccess ag req, _ => execGwWindowAccess_flashCells ag req s t
  | .gwWindowResponse port tag data err, _ => execGwWindowResponse_flashCells port tag data err s t
  | .gwWindowTimeout port tag, _ => execGwWindowTimeout_flashCells port tag s t
  | .gwMasterDone port tag, _ => execGwMasterDone_flashCells port tag s t
  | .eventRaise n, _ => execEventRaise_flashCells n s t
  | .userEventEdge w j, _ => execUserEventEdge_flashCells w j s t
  | .evtClaim ag c, _ => execEvtClaim_flashCells ag c s t
  | .evtRaiseWrite ag v, _ => execEvtRaiseWrite_flashCells ag v s t
  | .plRequest ag v, _ => execPlRequest_flashCells ag v s t
  | .modeRequestDoze ag, _ => execModeRequestDoze_flashCells ag s t
  | .modeRequestSleep ag, _ => execModeRequestSleep_flashCells ag s t
  | .modeRequestStandby ag, _ => execModeRequestStandby_flashCells ag s t
  | .sleepEntered, _ => execSleepEntered_flashCells s t
  | .soundingRequest ag v, _ => execSoundingRequest_flashCells ag v s t
  | .soundingAbort ag, _ => execSoundingAbort_flashCells ag s t
  | .soundingCopyDone, _ => execSoundingCopyDone_flashCells s t
  | .soundingRunDone r, _ => execSoundingRunDone_flashCells r s t
  | .soundingMoveBackDone, _ => execSoundingMoveBackDone_flashCells s t
  | .fuseBurn ag v, _ => execFuseBurn_flashCells ag v s t
  | .fuseBurnDone, _ => execFuseBurnDone_flashCells s t
  | .staleClear ag v, _ => execStaleClear_flashCells ag v s t
  | .creelScrubStep n, _ => execCreelScrubStep_flashCells n s t
  | .creelScrubWriteBack n, _ => execCreelScrubWriteBack_flashCells n s t
  | .lcTransition ag, _ => execLcTransition_flashCells ag s t
  | .lcSetOwner ag, _ => execLcSetOwner_flashCells ag s t
  | .lcSetKeyFuse ag, _ => execLcSetKeyFuse_flashCells ag s t
  | .lcLoadKeyBbr ag, _ => execLcLoadKeyBbr_flashCells ag s t
  | .lcClearKeyBbr ag, _ => execLcClearKeyBbr_flashCells ag s t
  | .lcDebugToken ag jtag, _ => execLcDebugToken_flashCells ag jtag s t
  | .lcReqbufClear ag, _ => execLcReqbufClear_flashCells ag s t
  | .lcRequestVerified vinOk, _ => execLcRequestVerified_flashCells vinOk s t
  | .lcBurnDone failed, _ => execLcBurnDone_flashCells failed s t
  | .tamperEvent cause, _ => execTamperEvent_flashCells cause s t
  | .zeroiseWrite ag v, _ => execZeroiseWrite_flashCells ag v s t
  | .debugClose ag, _ => execDebugClose_flashCells ag s t
  | .jtagTapReset, _ => execJtagTapReset_flashCells s t
  | .jtagLcTokenUpdate shifts bytes, _ => execJtagLcTokenUpdate_flashCells shifts bytes s t
  | .jtagExtest, _ => execJtagExtest_flashCells s t
  | .jtagClamp, _ => execJtagClamp_flashCells s t
  | .jtagHighz, _ => execJtagHighz_flashCells s t
  | .jtagIdcode, _ => execJtagIdcode_flashCells s t
  | .jtagSamplePreload, _ => execJtagSamplePreload_flashCells s t
  | .jtagLcToken, _ => execJtagLcToken_flashCells s t
  | .jtagLcStatus, _ => execJtagLcStatus_flashCells s t
  | .jtagDmi, _ => execJtagDmi_flashCells s t
  | .jtagGrenricTest code, _ => execJtagGrenricTest_flashCells code s t
  | .jtagBypass, _ => execJtagBypass_flashCells s t
  | .laneRxWord n w, _ => execLaneRxWord_flashCells n w s t
  | .vbatLow, _ => execVbatLow_flashCells s t
  | .pciePowerStateChange port d3hot l1 cfg, _ => execPciePowerStateChange_flashCells port d3hot l1 cfg s t
  | .vinFall .., named | .powerUpComplete .., named | .resetNFall .., named | .resetNRise .., named
  | .keeperBootComplete .., named | .startTestComplete .., named | .programNFall .., named | .programNRise .., named
  | .sysCtlReload .., named | .thermalSample .., named | .regulatorFault .., named | .srcWaitExpiry .., named
  | .priorityOutputEnable .., named | .priorityStageTimeout .., named | .mainCommit .., named
  | .xwaitExpiry .., named | .releaseOutputEnable .., named | .doneHigh .., named | .doneWaitExpiry .., named
  | .bootClear .., named | .syncWord .., named | .packetBadHeader .., named | .nop .., named | .writeIdcode .., named
  | .writeForm .., named | .writeKeysel .., named | .writeSid .., named | .writeIv .., named
  | .writeBodylen .., named | .writeBound .., named | .writeGroup .., named | .writePlfloor .., named
  | .writeClkset .., named | .stepNone .., named | .stepStage .., named | .stageClearDone .., named
  | .stepFinish .., named | .stepAbort .., named | .writePlace .., named | .writeFrames .., named | .zero .., named
  | .repeatPacket .., named | .patch .., named | .body .., named | .writeSeal .., named
  | .clksetLockWaitEnd .., named | .writeCrcv .., named | .readFrames .., named | .readPlace .., named
  | .readStat .., named | .sectionPacket .., named | .endPacket .., named | .streamSourceEnd .., named
  | .stagedVerifyEnd .., named | .psrcOpen .., named | .flashProgramDone .., named | .flashIntentRecorded .., named
  | .flashCompactionDone .., named | .flashEraseDone .., named | .quadCalDone .., named | .quadCalTimeout .., named
  | .wpEnable .., named | .wpDisable .., named | .wpRetrain .., named | .waleTrnSet .., named
  | .waleTrainTimeout .., named | .waleNak .., named | .waleAckTimerExpiry .., named | .waleLaneFail .., named
  | .waleLmgDown .., named | .waleWrite .., named | .waleRead .., named | .waleGangBlock .., named
  | .waleRqGo .., named | .waleGangStreamTimeout .., named | .pcieLinkDown .., named | .pcieFlr .., named
  | .pcieHotReset .., named | .pciePerst .., named | .streamWindowWrite .., named | .hpSendEnd .., named
  | .hpSretRead .., named | .hpSpirel .., named | .spiRead .., named | .spiWrite .., named | .semAcquire .., named
  | .semRelease .., named | .semForce .., named | .hamperTrainDone .., named | .hamperTrainTimeout .., named
  | .gwMasterRequest .., named | .plRampDone .., named | .quiesceDone .., named | .quiesceTimeout .., named
  | .wakeSource .., named | .wakeTimerExpiry .., named | .sleepWakeRun .., named
  | .loadingSoundingBatchDone .., named | .registerWrite .., named | .stakeNetEdge .., named
  | .clusterBusAccess .., named => nomatch named

/-- A byte that reads erased leaves the list. -/
theorem exec_flashCanonical {c : Instr} {s t : State} (wf : CellsWf s.flash.cells)
    (runs : exec c s = .next t) : CellsWf t.flash.cells := by
  cases named : mayWriteFlash c with
  | false => rwa [exec_flashCells c named runs]
  | true =>
    cases c with
    | vinFall => exact execVinFall_flashCanonical s wf t runs
    | powerUpComplete straps => exact execPowerUpComplete_flashCanonical straps s wf t runs
    | resetNFall => exact execResetNFall_flashCanonical s wf t runs
    | resetNRise => exact execResetNRise_flashCanonical s wf t runs
    | keeperBootComplete agree xref vinOk => exact execKeeperBootComplete_flashCanonical agree xref vinOk s wf t runs
    | startTestComplete hub rep => exact execStartTestComplete_flashCanonical hub rep s wf t runs
    | programNFall => exact execProgramNFall_flashCanonical s wf t runs
    | programNRise => exact execProgramNRise_flashCanonical s wf t runs
    | sysCtlReload ag v => exact execSysCtlReload_flashCanonical ag v s wf t runs
    | thermalSample bays hub => exact execThermalSample_flashCanonical bays hub s wf t runs
    | regulatorFault r => exact execRegulatorFault_flashCanonical r s wf t runs
    | srcWaitExpiry => exact execSrcWaitExpiry_flashCanonical s wf t runs
    | priorityOutputEnable => exact execPriorityOutputEnable_flashCanonical s wf t runs
    | priorityStageTimeout => exact execPriorityStageTimeout_flashCanonical s wf t runs
    | mainCommit => exact execMainCommit_flashCanonical s wf t runs
    | xwaitExpiry present => exact execXwaitExpiry_flashCanonical present s wf t runs
    | releaseOutputEnable => exact execReleaseOutputEnable_flashCanonical s wf t runs
    | doneHigh => exact execDoneHigh_flashCanonical s wf t runs
    | doneWaitExpiry => exact execDoneWaitExpiry_flashCanonical s wf t runs
    | bootClear ag v => exact execBootClear_flashCanonical ag v s wf t runs
    | syncWord => exact execSyncWord_flashCanonical s wf t runs
    | packetBadHeader w => exact execPacketBadHeader_flashCanonical w s wf t runs
    | nop => exact execNop_flashCanonical s wf t runs
    | writeIdcode ws => exact execWriteIdcode_flashCanonical ws s wf t runs
    | writeForm ws => exact execWriteForm_flashCanonical ws s wf t runs
    | writeKeysel ws => exact execWriteKeysel_flashCanonical ws s wf t runs
    | writeSid ws => exact execWriteSid_flashCanonical ws s wf t runs
    | writeIv ws => exact execWriteIv_flashCanonical ws s wf t runs
    | writeBodylen ws => exact execWriteBodylen_flashCanonical ws s wf t runs
    | writeBound ws => exact execWriteBound_flashCanonical ws s wf t runs
    | writeGroup ws => exact execWriteGroup_flashCanonical ws s wf t runs
    | writePlfloor ws => exact execWritePlfloor_flashCanonical ws s wf t runs
    | writeClkset ws => exact execWriteClkset_flashCanonical ws s wf t runs
    | stepNone v => exact execStepNone_flashCanonical v s wf t runs
    | stepStage => exact execStepStage_flashCanonical s wf t runs
    | stageClearDone => exact execStageClearDone_flashCanonical s wf t runs
    | stepFinish => exact execStepFinish_flashCanonical s wf t runs
    | stepAbort => exact execStepAbort_flashCanonical s wf t runs
    | writePlace ws => exact execWritePlace_flashCanonical ws s wf t runs
    | writeFrames dyn ws => exact execWriteFrames_flashCanonical dyn ws s wf t runs
    | zero dyn n => exact execZero_flashCanonical dyn n s wf t runs
    | repeatPacket dyn n => exact execRepeat_flashCanonical dyn n s wf t runs
    | patch dyn ps => exact execPatch_flashCanonical dyn ps s wf t runs
    | body => exact execBody_flashCanonical s wf t runs
    | writeSeal ws => exact execWriteSeal_flashCanonical ws s wf t runs
    | clksetLockWaitEnd => exact execClksetLockWaitEnd_flashCanonical s wf t runs
    | writeCrcv ws => exact execWriteCrcv_flashCanonical ws s wf t runs
    | readFrames n => exact execReadFrames_flashCanonical n s wf t runs
    | readPlace => exact execReadPlace_flashCanonical s wf t runs
    | readStat => exact execReadStat_flashCanonical s wf t runs
    | sectionPacket sel len => exact execSection_flashCanonical sel len s wf t runs
    | endPacket => exact execEnd_flashCanonical s wf t runs
    | streamSourceEnd => exact execStreamSourceEnd_flashCanonical s wf t runs
    | stagedVerifyEnd us => exact execStagedVerifyEnd_flashCanonical us s wf t runs
    | psrcOpen ag c => exact execPsrcOpen_flashCanonical ag c s wf t runs
    | flashProgramDone pulses pass => exact execFlashProgramDone_flashCanonical pulses pass s wf t runs
    | flashIntentRecorded fails => exact execFlashIntentRecorded_flashCanonical fails s wf t runs
    | flashCompactionDone => exact execFlashCompactionDone_flashCanonical s wf t runs
    | flashEraseDone pulses pass => exact execFlashEraseDone_flashCanonical pulses pass s wf t runs
    | quadCalDone q pass => exact execQuadCalDone_flashCanonical q pass s wf t runs
    | quadCalTimeout q => exact execQuadCalTimeout_flashCanonical q s wf t runs
    | wpEnable ag p => exact execWpEnable_flashCanonical ag p s wf t runs
    | wpDisable ag p => exact execWpDisable_flashCanonical ag p s wf t runs
    | wpRetrain ag p => exact execWpRetrain_flashCanonical ag p s wf t runs
    | waleTrnSet p lane w => exact execWaleTrnSet_flashCanonical p lane w s wf t runs
    | waleTrainTimeout p => exact execWaleTrainTimeout_flashCanonical p s wf t runs
    | waleNak p aseq junk => exact execWaleNak_flashCanonical p aseq junk s wf t runs
    | waleAckTimerExpiry p => exact execWaleAckTimerExpiry_flashCanonical p s wf t runs
    | waleLaneFail p lane => exact execWaleLaneFail_flashCanonical p lane s wf t runs
    | waleLmgDown p junk => exact execWaleLmgDown_flashCanonical p junk s wf t runs
    | waleWrite p b mem => exact execWaleWrite_flashCanonical p b mem s wf t runs
    | waleRead p b mem => exact execWaleRead_flashCanonical p b mem s wf t runs
    | waleGangBlock p b => exact execWaleGangBlock_flashCanonical p b s wf t runs
    | waleRqGo ag n op ack len => exact execWaleRqGo_flashCanonical ag n op ack len s wf t runs
    | waleGangStreamTimeout => exact execWaleGangStreamTimeout_flashCanonical s wf t runs
    | pcieLinkDown port => exact execPcieLinkDown_flashCanonical port s wf t runs
    | pcieFlr port => exact execPcieFlr_flashCanonical port s wf t runs
    | pcieHotReset port => exact execPcieHotReset_flashCanonical port s wf t runs
    | pciePerst port => exact execPciePerst_flashCanonical port s wf t runs
    | streamWindowWrite port spi words => exact execStreamWindowWrite_flashCanonical port spi words s wf t runs
    | hpSendEnd ag port v => exact execHpSendEnd_flashCanonical ag port v s wf t runs
    | hpSretRead ag port => exact execHpSretRead_flashCanonical ag port s wf t runs
    | hpSpirel ag port => exact execHpSpirel_flashCanonical ag port s wf t runs
    | spiRead port addr n => exact execSpiRead_flashCanonical port addr n s wf t runs
    | spiWrite port addr words => exact execSpiWrite_flashCanonical port addr words s wf t runs
    | semAcquire ag n => exact execSemAcquire_flashCanonical ag n s wf t runs
    | semRelease ag n => exact execSemRelease_flashCanonical ag n s wf t runs
    | semForce ag v => exact execSemForce_flashCanonical ag v s wf t runs
    | hamperTrainDone pass => exact execHamperTrainDone_flashCanonical pass s wf t runs
    | hamperTrainTimeout => exact execHamperTrainTimeout_flashCanonical s wf t runs
    | gwMasterRequest port req => exact execGwMasterRequest_flashCanonical port req s wf t runs
    | plRampDone => exact execPlRampDone_flashCanonical s wf t runs
    | quiesceDone => exact execQuiesceDone_flashCanonical s wf t runs
    | quiesceTimeout busy => exact execQuiesceTimeout_flashCanonical busy s wf t runs
    | wakeSource src port => exact execWakeSource_flashCanonical src port s wf t runs
    | wakeTimerExpiry => exact execWakeTimerExpiry_flashCanonical s wf t runs
    | sleepWakeRun stale => exact execSleepWakeRun_flashCanonical stale s wf t runs
    | loadingSoundingBatchDone rep => exact execLoadingSoundingBatchDone_flashCanonical rep s wf t runs
    | registerWrite ag off v full => exact execRegisterWrite_flashCanonical ag off v full s wf t runs
    | stakeNetEdge bay net rising pins => exact execStakeNetEdge_flashCanonical bay net rising pins s wf t runs
    | clusterBusAccess core acc => exact execClusterBusAccess_flashCanonical core acc s wf t runs
    | _ => nomatch named

/-- Settles O8, command by command. -/
theorem onlyTheNamedCommandsTouchFlash : Obligations.OnlyTheNamedCommandsTouchFlash :=
  fun c _ _ => exec_flashCells c

end Sys2Proof.Machine
end

section
/-! The three memories together, from reset on. -/
namespace Sys2Proof.Machine

/-- Settles O9, memory by memory. -/
theorem memoriesStayCanonical : Obligations.MemoriesStayCanonical := by
  intro s t ⟨flash, hamper, sram⟩ h
  obtain ⟨-, rfl⟩ | ⟨c, rest, -, runs⟩ := step_cases h
  · exact ⟨State.idle_flashCanonical s flash, State.idle_hamperCanonical s hamper, State.idle_sramCanonical s sram⟩
  · exact ⟨exec_flashCanonical (s := { s with pending := rest }) flash runs,
      exec_hamperCanonical (s := { s with pending := rest }) hamper runs,
      exec_sramCanonical (s := { s with pending := rest }) sram runs⟩

/-- Settles O10: nothing is listed at reset. -/
theorem memoriesAreCanonicalAtReset : Obligations.MemoriesAreCanonicalAtReset :=
  ⟨rfl, rfl, rfl⟩

end Sys2Proof.Machine
end

section
/-! A write of SEMn (R374, R378): RELEASE wins over ACQUIRE, and only the holder may release. -/
namespace Sys2Proof.Machine

variable {s : State} {ag : Agent} {n : Nat} {v : Word}

theorem State.holds_iff : s.holds ag n = true ↔ s.semOwner n = agentIdent ag := decide_eq_true_iff

/-- No identity is 0, the code of a free semaphore (R373). -/
theorem agentIdent_ne_zero (ag : Agent) : agentIdent ag ≠ 0 := by
  cases ag <;> simp [agentIdent]

theorem State.semWrite_release_of_holds (release : getBit v 31 = true) (holds : s.holds ag n = true) :
    s.semWrite ag n v = if n = 1 then (s.semFree n).journalFlush else s.semFree n := by
  rw [State.semWrite, if_pos release, if_pos holds]

theorem State.semWrite_release_of_not_holds (release : getBit v 31 = true) (other : s.holds ag n = false) :
    s.semWrite ag n v = s.discard ag 0 (Reg.sem n) := by
  rw [State.semWrite, if_pos release, if_neg (Bool.eq_false_iff.mp other)]

section
variable (keep : getBit v 31 = false) (acquire : getBit v 30 = true)
include keep acquire

theorem State.semWrite_acquire_of_free (free : s.semOwner n = 0) :
    s.semWrite ag n v = s.setFld (Reg.sem n) 15 0 (agentIdent ag) := by
  rw [State.semWrite, if_neg (Bool.eq_false_iff.mp keep), if_pos acquire, if_pos free]

theorem State.semWrite_acquire_of_holds (holds : s.holds ag n = true) : s.semWrite ag n v = s := by
  have held : s.semOwner n ≠ 0 := fun free => agentIdent_ne_zero ag (State.holds_iff.mp holds ▸ free)
  rw [State.semWrite, if_neg (Bool.eq_false_iff.mp keep), if_pos acquire, if_neg held, if_pos holds]

theorem State.semWrite_acquire_of_other (held : s.semOwner n ≠ 0) (other : s.holds ag n = false) :
    s.semWrite ag n v = s.setBit (Reg.sem n) 16 true := by
  rw [State.semWrite, if_neg (Bool.eq_false_iff.mp keep), if_pos acquire, if_neg held,
    if_neg (Bool.eq_false_iff.mp other)]

end

theorem State.semFree_of_wait (waits : s.bit (Reg.sem n) 16 = true) :
    s.semFree n = ((s.wr (Reg.sem n) 0).semFreed n).raise 376 := by
  rw [State.semFree, waits, State.raiseIf, if_pos rfl]

theorem State.semFree_of_no_wait (quiet : s.bit (Reg.sem n) 16 = false) :
    s.semFree n = (s.wr (Reg.sem n) 0).semFreed n := by
  rw [State.semFree, quiet, State.raiseIf, if_neg Bool.false_ne_true]

/-- A forced release with its key (R377). -/
theorem State.semForce_of_key (key : getBits v 31 16 = 0xC35A) (hn : n = getBits v 5 0) {t : State}
    (ht : t = (s.wr Reg.semFrclog (BitVec.ofNat 32 (agentIdent ag + 2 ^ 16 * n))).raise 378) :
    s.semForce ag v =
      if t.semOwner n = 0 then t else if n = 1 then (t.semFree n).journalFlush else t.semFree n := by
  subst hn ht
  rw [State.semForce, if_neg (not_not_intro key)]

end Sys2Proof.Machine
end

section
namespace Sys2Proof.Machine

/-- Settles O34: acquiring, releasing, and what freeing does, each by the bits of SEMn and its owner. -/
theorem semaphoresFollowR374 : Obligations.SemaphoresFollowR374 := by
  refine ⟨?acquireFree, ?acquireOwn, ?acquireOther, ?release, ?releaseFlash, ?releaseOther, ?waits, ?quiet⟩
  case acquireFree =>
    intro ag n s free
    rw [exec_semAcquire, execSemAcquire, State.semWrite_acquire_of_free (by decide) (by decide) free]
  case acquireOwn =>
    intro ag n s own
    rw [exec_semAcquire, execSemAcquire, State.semWrite_acquire_of_holds (by decide) (by decide) (State.holds_iff.mpr own)]
  case acquireOther =>
    intro ag n s held other
    rw [exec_semAcquire, execSemAcquire, State.semWrite_acquire_of_other (by decide) (by decide) held other]
  case release =>
    intro ag n s holds notFlash
    rw [exec_semRelease, execSemRelease, State.semWrite_release_of_holds (by decide) holds, if_neg notFlash]
  case releaseFlash =>
    intro ag s holds
    rw [exec_semRelease, execSemRelease, Fin.val_one, State.semWrite_release_of_holds (by decide) holds, if_pos rfl]
  case releaseOther =>
    intro ag n s other
    rw [exec_semRelease, execSemRelease, State.semWrite_release_of_not_holds (by decide) other]
  case waits =>
    intro n s waits
    exact State.semFree_of_wait waits
  case quiet =>
    intro n s quiet
    exact State.semFree_of_no_wait quiet

/-- Settles O35, by the owner at the time of the write and the number of the semaphore. -/
theorem forcedReleaseFollowsR377 : Obligations.ForcedReleaseFollowsR377 := by
  refine ⟨?free, ?held, ?flash⟩
  case free =>
    intro ag v s t key ht free
    rw [exec_semForce, execSemForce, State.semForce_of_key key rfl ht, if_pos free]
  case held =>
    intro ag v s t key ht held notFlash
    rw [exec_semForce, execSemForce, State.semForce_of_key key rfl ht, if_neg held, if_neg notFlash]
  case flash =>
    intro ag v s t key ht held flash
    rw [exec_semForce, execSemForce, State.semForce_of_key key rfl ht, if_neg held, if_pos flash, flash]

end Sys2Proof.Machine
end

section
/-! Mailboxes (R380). -/
namespace Sys2Proof.Machine

variable {s t : State} {ag : Agent} {m : Nat} {v : Word}

/-- Whatever else the write asks for. -/
theorem State.mailCtl_of_ring (ring : getBit v 0 = true) (ht : t = s.plainWrite (Reg.mbCtl m) v) :
    s.mailCtl ag m v = ((t.setBit (Reg.mbCtl m) 2 true).setFld (Reg.mbCtl m) 31 16 (agentIdent ag)).raise (360 + m) := by
  subst ht
  rw [State.mailCtl, if_pos ring]

theorem State.mailCtl_of_ack (quiet : getBit v 0 = false) (ack : getBit v 1 = true) :
    s.mailCtl ag m v = (s.plainWrite (Reg.mbCtl m) v).setBit (Reg.mbCtl m) 2 false := by
  rw [State.mailCtl, if_neg (Bool.eq_false_iff.mp quiet), if_pos ack]

end Sys2Proof.Machine
end

section
namespace Sys2Proof.Machine

/-- Settles O36: the control word by its two bits, the data word by FULL. -/
theorem mailboxesFollowR380 : Obligations.MailboxesFollowR380 := by
  refine ⟨?ring, ?ack, ?stored, ?discarded, ?ringWins⟩
  case ring =>
    intro ag m s t ht
    rw [exec_mbRing, execMbRing, State.mailCtl_of_ring (by decide) ht]
  case ack =>
    intro ag m s
    rw [exec_mbAck, execMbAck, State.mailCtl_of_ack (by decide) (by decide)]
  case stored =>
    intro ag m i v s free
    rw [exec_mbDataWrite, execMbDataWrite, State.mailData, if_neg (Bool.eq_false_iff.mp free)]
  case discarded =>
    intro ag m i v s full
    rw [exec_mbDataWrite, execMbDataWrite, State.mailData, if_pos full]
  case ringWins =>
    intro ag m v s t ring ack ht
    exact State.mailCtl_of_ring ring ht

end Sys2Proof.Machine
end

section
/-! A GO of LC_REQCTL and a token in LC_TOKEN (R456 to R458, R461): refused, or taken for verification. -/
namespace Sys2Proof.Machine

variable {s : State} {ag : Agent} {c : Instr} {b : List Byte}

theorem State.lcGo_of_mode_refused (closed : s.lcGoMode = false) :
    s.lcGo = ((s.lcResult false 0x1D).raise 313).setBit Reg.lcReqstat 0 (s.bit Reg.lcReqstat 0) := by
  simp [State.lcGo, State.lcRefuse, closed]

theorem State.lcGo_of_busy (opened : s.lcGoMode = true) (busy : s.bit Reg.lcReqstat 0 = true) :
    s.lcGo = ((s.lcResult false 0x1A).raise 313).setBit Reg.lcReqstat 0 true := by
  simp [State.lcGo, State.lcRefuse, opened, busy]

theorem State.lcGo_of_idle (opened : s.lcGoMode = true) (idle : s.bit Reg.lcReqstat 0 = false) :
    s.lcGo = s.lcPresent false s.reqBuffer := by
  simp [State.lcGo, opened, idle]

/-- The commands that write GO, whichever request LC_REQBUF holds. -/
def WritesGo (ag : Agent) (c : Instr) : Prop :=
  c ∈ [Instr.lcTransition ag, .lcSetOwner ag, .lcSetKeyFuse ag, .lcLoadKeyBbr ag, .lcClearKeyBbr ag, .lcDebugToken ag false]

/-- Each of them is the GO of the holder of SEM2. -/
theorem exec_of_writesGo (go : WritesGo ag c) (may : s.mayWrite ag Reg.lcReqctl = true) : exec c s = .next s.lcGo := by
  have written : exec c s = .next (s.rws ag Reg.lcReqctl s.lcGo) := by
    simp only [WritesGo, List.mem_cons, List.not_mem_nil, or_false] at go
    obtain rfl | rfl | rfl | rfl | rfl | rfl := go <;> rfl
  rw [written, State.rws_of_mayWrite may]

/-- In SEALED, outside POWER-UP and STANDBY. -/
theorem State.lcJtagToken_of_sealed (token : s.keys.token = some b) (sealed : s.lcState = 3) (notPowerUp : s.mode ≠ 1)
    (notStandby : s.mode ≠ 0xA) : s.lcJtagToken =
      if s.bit Reg.lcReqstat 0 then ((s.lcResult true 0x1A).raise 313).setBit Reg.lcReqstat 0 true
      else s.lcPresent true b := by
  simp [State.lcJtagToken, State.lcRefuse, token, sealed, notPowerUp, notStandby]

theorem State.lcJtagToken_of_not_sealed (opened : s.lcState ≠ 3) : s.lcJtagToken = s := by
  unfold State.lcJtagToken
  split
  · rw [if_pos (.inl opened)]
  · rfl

theorem State.lcJtagToken_of_empty (empty : s.keys.token = none) : s.lcJtagToken = s := by
  rw [State.lcJtagToken, empty]

end Sys2Proof.Machine
end

section
namespace Sys2Proof.Machine

/-- Settles O44: the six GOs together by what GO meets, the token of JTAG, CLR and CLOSE. -/
theorem requestsFollowR458 : Obligations.RequestsFollowR458 := by
  refine ⟨?mode, ?busy, ?taken, ?jtag, ?clear, ?close⟩
  case mode =>
    intro ag s c go may closed
    rw [exec_of_writesGo go may, State.lcGo_of_mode_refused closed]
  case busy =>
    intro ag s c go may opened busy
    rw [exec_of_writesGo go may, State.lcGo_of_busy opened busy]
  case taken =>
    intro ag s may opened idle
    have taken {c : Instr} (go : WritesGo ag c) : exec c s = .next (s.lcPresent false s.reqBuffer) := by
      rw [exec_of_writesGo go may, State.lcGo_of_idle opened idle]
    refine ⟨?_, ?_, ?_, ?_, ?_, ?_⟩ <;> exact taken (by simp [WritesGo])
  case jtag =>
    intro ag s b token sealed notPowerUp notStandby
    rw [exec_lcDebugToken, execLcDebugToken, if_pos rfl, State.lcJtagToken_of_sealed token sealed notPowerUp notStandby]
    rfl
  case clear =>
    intro ag s may
    rw [exec_lcReqbufClear, execLcReqbufClear, State.rws_of_mayWrite may, State.lcClear]
  case close =>
    intro ag s may
    rw [exec_debugClose, execDebugClose, State.rws_of_mayWrite may, State.debugEnd]

end Sys2Proof.Machine
end

section
/-! The TAP (R461, R467): which instructions the state permits. -/
namespace Sys2Proof.Machine

variable {s : State} {code : Nat}

/-- A permitted instruction is selected, any other acts as BYPASS. -/
theorem State.next_tapInstr {ir : Nat} (selects : (if s.tapPermits code then code else 0xFF) = ir) :
    (Host.Outcome.next (s.tapInstr code) : Host.Outcome State Fault Refusal) =
      .next { s with keys := { s.keys with ir := ir } } := by
  subst selects
  rfl

/-- The instruction just selected captures its word. -/
theorem State.next_tapCapture_of_permits {w : Word} (permits : s.tapPermits code = true) :
    (Host.Outcome.next ((s.tapInstr code).tapCapture code w) : Host.Outcome State Fault Refusal) =
      .next (({ s with keys := { s.keys with ir := code } } : State).emit (.jtag w)) := by
  simp [State.tapCapture, State.tapInstr, permits]

/-- BYPASS in its place captures none. -/
theorem State.next_tapCapture_of_not_permits {w : Word} (refused : s.tapPermits code = false) (other : 0xFF ≠ code) :
    (Host.Outcome.next ((s.tapInstr code).tapCapture code w) : Host.Outcome State Fault Refusal) =
      .next { s with keys := { s.keys with ir := 0xFF } } := by
  simp [State.tapCapture, State.tapInstr, refused, other]

theorem State.tapPermits_of_factoryTest (factory : s.mode = 0xC) : s.tapPermits code = true := by
  simp [State.tapPermits, factory]

section
variable (notFactory : s.mode ≠ 0xC)
include notFactory

/-- Grenric test is permitted in FACTORY TEST alone. -/
theorem State.tapPermits_grenricTest (c : Fin 16) : s.tapPermits (0x40 + c.val) = false := by
  unfold State.tapPermits
  rw [if_neg notFactory]
  split <;> first | rfl | omega

/-- In DEV and in RETURN every other instruction, save LC_TOKEN. -/
theorem State.tapPermits_of_open (opened : s.tapState = 2 ∨ s.tapState = 4)
    (other : code ∈ [0x00, 0x01, 0x02, 0x03, 0x04, 0x11, 0x20]) : s.tapPermits code = true := by
  have isOpen : (s.tapState == 2 || s.tapState == 4) = true := by simpa using opened
  simp only [List.mem_cons, List.not_mem_nil, or_false] at other
  obtain rfl | rfl | rfl | rfl | rfl | rfl | rfl := other <;> simp [State.tapPermits, notFactory, isOpen]

/-- IDCODE and LC_STATUS in each of the three. -/
theorem State.tapPermits_reads (known : s.tapState ∈ [2, 3, 4]) (reads : code ∈ [0x01, 0x11]) :
    s.tapPermits code = true := by
  simp only [List.mem_cons, List.not_mem_nil, or_false] at known reads
  have isKnown : (s.tapState == 2 || s.tapState == 4 || s.tapState == 3) = true := by
    simp only [Bool.or_eq_true, beq_iff_eq]
    omega
  obtain rfl | rfl := reads <;> rw [State.tapPermits, if_neg notFactory] <;> exact isKnown

theorem State.tapPermits_lcToken : s.tapPermits 0x10 = (s.tapState == 4 || s.tapState == 3) := by
  rw [State.tapPermits, if_neg notFactory]

section
variable (sealed : s.tapState = 3)
include sealed

theorem State.tapPermits_of_sealed (reads : code ∈ [0x01, 0x02, 0x10, 0x11]) : s.tapPermits code = true := by
  simp only [List.mem_cons, List.not_mem_nil, or_false] at reads
  obtain rfl | rfl | rfl | rfl := reads <;> simp [State.tapPermits, notFactory, sealed]

/-- EXTEST, CLAMP and HIGHZ drive pins, which a running block holds. -/
theorem State.tapPermits_pins_of_sealed (pins : code ∈ [0x00, 0x03, 0x04]) :
    s.tapPermits code = decide (¬ (6 ≤ s.mode ∧ s.mode ≤ 9)) := by
  have running : ([6, 7, 8, 9] : List Nat).contains s.mode = decide (6 ≤ s.mode ∧ s.mode ≤ 9) := by
    rw [Bool.eq_iff_iff]
    simp only [List.contains_iff_mem, List.mem_cons, List.not_mem_nil, or_false, decide_eq_true_eq]
    omega
  simp only [List.mem_cons, List.not_mem_nil, or_false] at pins
  obtain rfl | rfl | rfl := pins <;> rw [State.tapPermits, if_neg notFactory, sealed, running, decide_not] <;> rfl

theorem State.tapPermits_dmi_of_sealed : s.tapPermits 0x20 = (s.bit Reg.lcDebug 2 && s.bit Reg.lcDebug 0) := by
  simp [State.tapPermits, notFactory, sealed]

end

/-- In RAW, TEST and SCRAP nothing. -/
theorem State.tapPermits_of_closed (closed : s.tapState ∉ [2, 3, 4]) : s.tapPermits code = false := by
  simp only [List.mem_cons, List.not_mem_nil, or_false, not_or] at closed
  obtain ⟨notDev, notSealed, notReturn⟩ := closed
  unfold State.tapPermits
  rw [if_neg notFactory]
  split <;> simp [notDev, notSealed, notReturn]

end

end Sys2Proof.Machine
end

section
/-! LC_TOKEN at Update-DR (R461). -/
namespace Sys2Proof.Machine

variable {s : State} {bytes : List Byte}

section
variable (selected : s.keys.ir = 0x10) (permits : s.tapPermits 0x10 = true)
include selected permits

theorem execJtagLcTokenUpdate_of_complete (whole : bytes.length = 272) :
    execJtagLcTokenUpdate 2176 bytes s =
      .next ({ s with keys := { s.keys with token := some bytes } } : State).lcJtagToken := by
  simp [execJtagLcTokenUpdate, selected, permits, whole]

theorem execJtagLcTokenUpdate_of_other_count {shifts : Nat} (other : shifts ≠ 2176) :
    execJtagLcTokenUpdate shifts bytes s = .next { s with keys := { s.keys with token := none } } := by
  simp [execJtagLcTokenUpdate, selected, permits, other, State.lcJtagToken_of_empty]

end

end Sys2Proof.Machine
end

section
namespace Sys2Proof.Machine

/-- Settles O46: FACTORY TEST, then by the life-cycle state the TAP goes by, then the token register. -/
theorem jtagCommandsComplete : Obligations.JtagCommandsComplete := by
  refine ⟨?reset, ?factory, ?opened, ?sealed, ?captures, ?closed, ?bypass, ?token, ?tokenSealed, ?otherCount⟩
  case reset =>
    intro s
    rfl
  case factory =>
    intro s factory
    have taken (code : Nat) := State.next_tapInstr (if_pos (State.tapPermits_of_factoryTest factory (code := code)))
    exact ⟨taken 0x00, taken 0x03, taken 0x04, taken 0x02, taken 0x10, taken 0x20, fun c => taken (0x40 + c.val)⟩
  case opened =>
    rintro s st hst notFactory opened
    obtain rfl : s.tapState = st := hst.symm
    have taken (code : Nat) (other : code ∈ [0x00, 0x01, 0x02, 0x03, 0x04, 0x11, 0x20]) :=
      State.next_tapInstr (if_pos (State.tapPermits_of_open notFactory opened other))
    refine ⟨taken 0x00 (by decide), taken 0x03 (by decide), taken 0x04 (by decide), taken 0x02 (by decide), ?_,
      taken 0x20 (by decide), fun c => ?_⟩
    · refine State.next_tapInstr ?_
      have notSealed : s.tapState ≠ 3 := by omega
      simp [State.tapPermits_lcToken notFactory, notSealed]
    · exact State.next_tapInstr (if_neg (by simp [State.tapPermits_grenricTest notFactory c]))
  case sealed =>
    intro s notFactory sealed
    have pins (code : Nat) (h : code ∈ [0x00, 0x03, 0x04]) : (if s.tapPermits code then code else 0xFF) =
        if 6 ≤ s.mode ∧ s.mode ≤ 9 then 0xFF else code := by
      rw [State.tapPermits_pins_of_sealed notFactory sealed h]
      simp only [decide_eq_true_eq, ite_not]
    have taken (code : Nat) (h : code ∈ [0x01, 0x02, 0x10, 0x11]) :=
      State.next_tapInstr (if_pos (State.tapPermits_of_sealed notFactory sealed h))
    refine ⟨State.next_tapInstr (pins 0x00 (by decide)), State.next_tapInstr (pins 0x03 (by decide)),
      State.next_tapInstr (pins 0x04 (by decide)), taken 0x02 (by decide), taken 0x10 (by decide), ?_, fun c => ?_⟩
    · exact State.next_tapInstr (by simp [State.tapPermits_dmi_of_sealed notFactory sealed])
    · exact State.next_tapInstr (if_neg (by simp [State.tapPermits_grenricTest notFactory c]))
  case captures =>
    intro s h
    have permits (code : Nat) (reads : code ∈ [0x01, 0x11]) : s.tapPermits code = true := by
      by_cases factory : s.mode = 0xC
      · exact State.tapPermits_of_factoryTest factory
      · exact State.tapPermits_reads factory (h.resolve_left factory) reads
    exact ⟨State.next_tapCapture_of_permits (permits 0x01 (by decide)),
      State.next_tapCapture_of_permits (permits 0x11 (by decide))⟩
  case closed =>
    intro s notFactory closed
    have refused (code : Nat) : s.tapPermits code = false := State.tapPermits_of_closed notFactory closed
    have bypassed (code : Nat) := State.next_tapInstr (s := s) (code := code) (if_neg (by simp [refused]))
    have silent (code : Nat) (w : Word) := State.next_tapCapture_of_not_permits (w := w) (refused code)
    simp only [List.forall_mem_cons]
    exact ⟨bypassed 0x00, bypassed 0x03, bypassed 0x04, silent 0x01 idcode (by decide), bypassed 0x02, bypassed 0x10,
      silent 0x11 (s.rd Reg.lcState) (by decide), bypassed 0x20, List.forall_mem_nil _⟩
  case bypass =>
    intro s
    exact State.next_tapInstr (ite_self _)
  case token =>
    intro bytes s selected permits whole notSealed
    rw [exec_jtagLcTokenUpdate, execJtagLcTokenUpdate_of_complete selected permits whole]
    exact congrArg Host.Outcome.next (State.lcJtagToken_of_not_sealed notSealed)
  case tokenSealed =>
    rintro bytes s t selected permits whole sealed notPowerUp notStandby idle rfl
    rw [exec_jtagLcTokenUpdate, execJtagLcTokenUpdate_of_complete selected permits whole]
    exact congrArg Host.Outcome.next
      ((State.lcJtagToken_of_sealed (s := { s with keys := { s.keys with token := some bytes } }) rfl sealed notPowerUp
        notStandby).trans (if_neg (Bool.eq_false_iff.mp idle)))
  case otherCount =>
    intro shifts bytes s selected permits other
    rw [exec_jtagLcTokenUpdate, execJtagLcTokenUpdate_of_other_count selected permits other]

end Sys2Proof.Machine
end

section
/-! TRN sets and the way UP of a port (R337, R342, R360). -/
namespace Sys2Proof.Machine

variable {s t : State} {p lane : Nat} {x : TrnSet}

/-- A set that is not discarded, on a port that is not DOWN: in SLEEP the port first trains. -/
theorem State.trnSet_of_valid (modes : s.waleModes = true) (notDown : s.wpState p ≠ 0) (valid : x.junk = false)
    (ht : t = if s.wpState p = 3 then s.wpTrain p else s) : s.trnSet p lane x =
      if t.wpState p = 1 ∧ x.dev.val = t.devid ∧ t.devid ≠ 511 then t.linkDown p 6
      else if t.wpState p = 1 then t.trnTraining p lane x else t.trnCount p lane x := by
  subst ht
  rw [State.trnSet, if_neg (by simp [notDown, modes]), if_neg (by simp [valid])]

theorem State.trnSet_of_junk (modes : s.waleModes = true) (notDown : s.wpState p ≠ 0) (junk : x.junk = true) :
    s.trnSet p lane x = (s.trnCount p lane x).wpFault p 6 := by
  rw [State.trnSet, if_neg (by simp [notDown, modes]), if_pos junk]

/-- A set of another device while the port trains, and on a port in SLEEP that trains again. -/
theorem State.trnSet_of_other (modes : s.waleModes = true) (notDown : s.wpState p ≠ 0) (valid : x.junk = false)
    (ht : t = if s.wpState p = 3 then s.wpTrain p else s) (trains : t.wpState p = 1)
    (other : x.dev.val ≠ t.devid ∨ t.devid = 511) : s.trnSet p lane x = t.trnTraining p lane x := by
  have notOwn : ¬ (t.wpState p = 1 ∧ x.dev.val = t.devid ∧ t.devid ≠ 511) := by
    rintro ⟨-, own, assigned⟩
    exact other.elim (· own) assigned
  rw [State.trnSet_of_valid modes notDown valid ht, if_neg notOwn, if_pos trains]

theorem execWaleTrainTimeout_of_training {p : Fin 6} (trains : s.wpState p.val = 1) :
    execWaleTrainTimeout p s = .next (s.linkDown p.val 5) :=
  next_ite_of_guard trains

theorem execWaleLinkUp_of_training {p : Fin 6} (trains : s.wpState p.val = 1) (sends : s.fld (Reg.wpStat p.val) 9 2 ≠ 0)
    (receives : s.fld (Reg.wpStat p.val) 17 10 ≠ 0) : execWaleLinkUp p s = .next (s.linkUp p.val) :=
  next_ite_of_guard ⟨trains, sends, receives⟩

end Sys2Proof.Machine
end

section
namespace Sys2Proof.Machine

/-- Settles O28: a TRN set by the state of the port, then the training limit and the way UP. -/
theorem waleTrainingComplete : Obligations.WaleTrainingComplete := by
  refine ⟨?other, ?own, ?asleep, ?up, ?junk, ?limit, ?linkUp⟩
  case other =>
    intro p lane x s modes trains valid other
    have same : s = if s.wpState p.val = 3 then s.wpTrain p.val else s := by rw [if_neg (by omega)]
    rw [exec_waleTrnSet, execWaleTrnSet, State.trnSet_of_other modes (by omega) valid same trains other]
  case own =>
    intro p lane x s modes trains valid own assigned
    have same : s = if s.wpState p.val = 3 then s.wpTrain p.val else s := by rw [if_neg (by omega)]
    rw [exec_waleTrnSet, execWaleTrnSet, State.trnSet_of_valid modes (by omega) valid same,
      if_pos ⟨trains, own, assigned⟩]
  case asleep =>
    intro p lane x s t modes asleep valid ht trains other
    rw [exec_waleTrnSet, execWaleTrnSet,
      State.trnSet_of_other modes (by omega) valid (ht.trans (if_pos asleep).symm) trains other]
  case up =>
    intro p lane x s modes up valid
    have same : s = if s.wpState p.val = 3 then s.wpTrain p.val else s := by rw [if_neg (by omega)]
    rw [exec_waleTrnSet, execWaleTrnSet, State.trnSet_of_valid modes (by omega) valid same, if_neg (by omega),
      if_neg (by omega)]
  case junk =>
    intro p lane x s modes notDown junk
    rw [exec_waleTrnSet, execWaleTrnSet, State.trnSet_of_junk modes notDown junk]
  case limit =>
    intro p s trains
    rw [exec_waleTrainTimeout, execWaleTrainTimeout_of_training trains]
  case linkUp =>
    intro p s trains sends receives
    rw [exec_waleLinkUp, execWaleLinkUp_of_training trains sends receives]

end Sys2Proof.Machine
end

section
/-! The link layer of a port that is UP (R339 to R341). -/
namespace Sys2Proof.Machine

variable {s : State} {p seq aseq : Nat}

/-- The expected block is accepted. -/
theorem State.linkRx_of_expected (up : s.wpUp p = true) (expected : seq = (s.wp p).rxSeq) :
    s.linkRx p seq = (true, s.afterRx p) := by
  simp [State.linkRx, State.afterRx, up, expected]

theorem State.nakOnce_of_nak (asked : (s.wp p).nak = true) : s.nakOnce p = s := if_pos asked

theorem State.nakOnce_of_not_nak (first : (s.wp p).nak = false) : s.nakOnce p =
    (s.setWp p { s.wp p with nak := true }).waleEmit p (.ack (((s.wp p).rxSeq + 4095) % 4096) true) :=
  if_neg (Bool.eq_false_iff.mp first)

/-- An ACK that names the unacknowledged block at `i` frees the blocks up to it. -/
theorem State.ackDrop_of_findIdx {i : Nat} (found : (s.wp p).buf.findIdx? (fun b => b.seq.val == aseq) = some i) :
    s.ackDrop p aseq = s.setWp p { s.wp p with buf := (s.wp p).buf.drop (i + 1), resends := 0 } := by
  simp only [State.ackDrop, found]

theorem State.linkResend_of_lt (waits : (s.wp p).buf ≠ []) (few : (s.wp p).resends < 7) : s.linkResend p =
    (s.wp p).buf.foldl (fun t b => t.waleEmit p (.block b))
      ((s.bumpSat (Reg.wpCntResend p)).setWp p { s.wp p with resends := (s.wp p).resends + 1 }) := by
  rw [State.linkResend, if_neg waits, if_neg (by omega)]

/-- The eighth resend in a row. -/
theorem State.linkResend_of_ge (waits : (s.wp p).buf ≠ []) (many : 7 ≤ (s.wp p).resends) :
    s.linkResend p = (s.bumpSat (Reg.wpCntResend p)).linkDown p 1 := by
  rw [State.linkResend, if_neg waits, if_pos (by omega)]

section
variable {p : Fin 6} {q : Fin 4096} (up : s.wpUp p.val = true)
include up

/-- ACK and NAK with unknown bits. -/
theorem execWaleAck_of_junk : execWaleAck p q true s = .next (s.wpFault p.val 6) := by
  simp [execWaleAck, up]

theorem execWaleNak_of_junk : execWaleNak p q true s = .next (s.wpFault p.val 6) := by
  simp [execWaleNak, up]

theorem execWaleAck_of_up : execWaleAck p q false s = .next (s.ackTake p.val q.val) := by
  simp [execWaleAck, up]

theorem execWaleNak_of_up :
    execWaleNak p q false s = .next (((s.ackDrop p.val q.val).linkResend p.val).linkDrain p.val) := by
  simp [execWaleNak, up]

theorem execWaleBlockBad_none :
    execWaleBlockBad p none s = .next (((s.bumpSat (Reg.wpCntBad p.val)).wpFault p.val 4).nakOnce p.val) := by
  simp [execWaleBlockBad, up]

theorem execWaleBlockBad_some_of_expected (expected : q.val = (s.wp p.val).rxSeq) :
    execWaleBlockBad p (some q) s = .next ((s.afterRx p.val).wpFault p.val 5) := by
  simp [execWaleBlockBad, up, State.linkRx_of_expected up expected]

theorem execWaleAckTimerExpiry_of_up : execWaleAckTimerExpiry p s = .next (s.linkResend p.val) :=
  next_ite_of_guard up

end

end Sys2Proof.Machine
end

section
namespace Sys2Proof.Machine

/-- Settles O29: bad blocks, ACK, NAK, the latest ACK, and the acknowledge timer. -/
theorem waleLinkLayerComplete : Obligations.WaleLinkLayerComplete := by
  refine ⟨?bad, ?format, ?ack, ?nak, ?junk, ?ackSend, ?resend, ?eighth⟩
  case bad =>
    rintro p s t up rfl
    rw [exec_waleBlockBad, execWaleBlockBad_none up]
    exact ⟨fun asked => by rw [State.nakOnce_of_nak asked], fun first => by rw [State.nakOnce_of_not_nak first]⟩
  case format =>
    intro p q s up expected
    rw [exec_waleBlockBad, execWaleBlockBad_some_of_expected up expected]
  case ack =>
    rintro p q s t i up found rfl
    rw [exec_waleAck, execWaleAck_of_up up, State.ackTake, State.ackDrop_of_findIdx found, State.linkDrain]
  case nak =>
    rintro p q s t u up rfl waits few rfl
    rw [exec_waleNak, execWaleNak_of_up up, State.linkResend_of_lt waits few]
  case junk =>
    intro p q s up
    exact ⟨execWaleAck_of_junk up, execWaleNak_of_junk up⟩
  case ackSend =>
    intro p s up got
    rw [exec_waleAckSend, execWaleAckSend]
    exact next_ite_of_guard ⟨up, got⟩
  case resend =>
    intro p s up waits few
    rw [exec_waleAckTimerExpiry, execWaleAckTimerExpiry_of_up up, State.linkResend_of_lt waits few]
  case eighth =>
    intro p s up waits many
    rw [exec_waleAckTimerExpiry, execWaleAckTimerExpiry_of_up up, State.linkResend_of_ge waits many]

end Sys2Proof.Machine
end

section
/-! Lane sets of a port that is UP (R343), and LMG (R343, R360). -/
namespace Sys2Proof.Machine

variable {s t u : State} {p lane op set : Nat}

theorem State.laneFail_of_receiving {ds : List (Nat × Nat)} {held : Bool} (up : s.wpUp p = true)
    (receives : (s.fld (Reg.wpStat p) 17 10).testBit lane = true)
    (hds : ds = ((s.wp p).drops.filter (fun d => decide (s.boot.ticks < d.2 + 400000000))) ++ [(lane, s.boot.ticks)])
    (hheld : held = decide (4 ≤ (ds.filter (fun d => d.1 == lane)).length))
    (ht : t = (s.setWp p { s.wp p with
      good := (s.wp p).good &&& (255 - 2 ^ lane), dropped := (s.wp p).dropped ||| 2 ^ lane, drops := ds
      trn := Store.erase (s.wp p).trn lane
      quar := if held then (s.wp p).quar ||| 2 ^ lane else (s.wp p).quar }).wpFault p 7)
    (hu : u = if held then t.wpFault p 10 else t) (hset : set = chooseSet (u.goodLanes p) (s.wp p).fixed) :
    s.laneFail p lane = if set = 0 then (u.wpEvent p 1).linkDown p 2 else u.askSet p 1 set := by
  subst hds hheld ht hu hset
  rw [State.laneFail, if_neg (by simp [up, receives])]

/-- A dropped lane asks for a wider set once it is good again. -/
theorem State.laneReadmit_of_wider (up : s.wpUp p = true) (dropped : (s.wp p).dropped.testBit lane = true)
    (free : (s.wp p).quar.testBit lane = false) (locked : s.laneLocked p lane = true)
    (good : Store.get (fun _ => 0) (s.wp p).trn lane = 64)
    (ht : t = s.setWp p { s.wp p with
      good := (s.wp p).good ||| 2 ^ lane, dropped := (s.wp p).dropped &&& (255 - 2 ^ lane) })
    (hset : set = chooseSet (t.goodLanes p) (s.wp p).fixed)
    (wider : ((List.range 8).filter ((s.wp p).pend.getD (s.fld (Reg.wpStat p) 17 10)).testBit).length <
      ((List.range 8).filter set.testBit).length) : s.laneReadmit p lane = t.askSet p 2 set := by
  subst ht hset
  rw [State.laneReadmit, if_neg (by simp [up, dropped, free, locked, good]), if_pos wider]

theorem State.lmgSet_of_echo (up : s.wpUp p = true) (echo : (s.wp p).pend = some set) : s.lmgSet p op set =
    ((s.setWp p { s.wp p with pend := none }).setFld (Reg.wpStat p) 17 10 set).lanesChanged p := by
  rw [State.lmgSet, if_neg (by simp [up]), if_pos echo]

theorem State.lmgSet_of_far (up : s.wpUp p = true) (far : (s.wp p).pend ≠ some set)
    (ht : t = if op = 1 then s.wpFault p 7 else s) : s.lmgSet p op set =
    ((((t.waleEmit p (.lmg op set)).waleEmit p (.idl 16)).setFld (Reg.wpStat p) 9 2 set).lanesChanged p).wpEvent p 1 := by
  subst ht
  rw [State.lmgSet, if_neg (by simp [up]), if_neg far]

section
variable {p : Fin 6} {set : BitVec 8}

theorem execWaleLmgDrop_of_known : execWaleLmgDrop p set false s = .next (s.lmgSet p.val 1 set.toNat) := by
  simp [execWaleLmgDrop]

theorem execWaleLmgReadmit_of_known : execWaleLmgReadmit p set false s = .next (s.lmgSet p.val 2 set.toNat) := by
  simp [execWaleLmgReadmit]

/-- Each kind of LMG with unknown bits. -/
theorem exec_lmg_of_junk (up : s.wpUp p.val = true) :
    execWaleLmgDrop p set true s = .next (s.wpFault p.val 6) ∧ execWaleLmgReadmit p set true s = .next (s.wpFault p.val 6) ∧
      execWaleLmgSleep p true s = .next (s.wpFault p.val 6) ∧ execWaleLmgDown p true s = .next (s.wpFault p.val 6) := by
  simp [execWaleLmgDrop, execWaleLmgReadmit, execWaleLmgSleep, execWaleLmgDown, up]

end

end Sys2Proof.Machine
end

section
namespace Sys2Proof.Machine

/-- Settles O30: a lane fails or comes back, the far end's sets and the echoes, SLEEP and DOWN. -/
theorem waleLaneSetsComplete : Obligations.WaleLaneSetsComplete := by
  refine ⟨?fail, ?readmit, ?far, ?echo, ?sleep, ?down, ?junk⟩
  case fail =>
    intro p lane s t u ds held set up receives hds hheld ht hu hset
    rw [exec_waleLaneFail, execWaleLaneFail, State.laneFail_of_receiving up receives hds hheld ht hu hset]
    exact ⟨fun lanes => by rw [if_neg lanes, State.askSet], fun noLanes => by rw [if_pos noLanes]⟩
  case readmit =>
    intro p lane s t set up dropped free locked good ht hset wider
    rw [exec_waleLaneReadmitReady, execWaleLaneReadmitReady,
      State.laneReadmit_of_wider up dropped free locked good ht hset wider, State.askSet]
  case far =>
    intro p set s up far
    constructor
    · rw [exec_waleLmgDrop, execWaleLmgDrop_of_known, State.lmgSet_of_far up far (if_pos rfl).symm]
    · rw [exec_waleLmgReadmit, execWaleLmgReadmit_of_known, State.lmgSet_of_far up far (if_neg (by decide)).symm]
  case echo =>
    rintro p set s t up echo rfl
    constructor
    · rw [exec_waleLmgDrop, execWaleLmgDrop_of_known, State.lmgSet_of_echo up echo]
    · rw [exec_waleLmgReadmit, execWaleLmgReadmit_of_known, State.lmgSet_of_echo up echo]
  case sleep =>
    intro p s up
    simp [execWaleLmgSleep, up]
  case down =>
    intro p s up
    simp [execWaleLmgDown, up]
  case junk =>
    intro p set s up
    exact exec_lmg_of_junk up

end Sys2Proof.Machine
end

section
/-! What becomes of a block on a port that is UP (R339, R340, R345, R351): the link layer takes it, its epoch is tested,
and it acts here, after it has gone on when it is a broadcast. -/
namespace Sys2Proof.Machine

variable {s t : State} {p : Nat} {b : WaleBlock} {act : State → State}

/-- Neither the link layer nor the epoch test looks at the kind of a block, or at whether it is a broadcast. -/
theorem State.Receives.retyped (h : s.Receives t p b) (kind : WaleKind) (bcast : Bool) :
    s.Receives t p { b with kind := kind, bcast := bcast } :=
  ⟨h.up, h.expected, h.fresh⟩

theorem State.ReceivesHere.retyped (h : s.ReceivesHere t p b) (kind : WaleKind) : s.ReceivesHere t p { b with kind := kind } :=
  ⟨h.toReceives.retyped kind b.bcast, h.single, h.assigned, h.here⟩

/-- A message between neighbours. -/
theorem State.Receives.blockIn_here (h : s.Receives t p b) : s.blockIn p b true false act = act t := by
  simp [State.blockIn, State.linkRx_of_expected h.up h.expected, h.fresh]

/-- A broadcast. -/
theorem State.Receives.blockIn_bcast (h : s.Receives t p b) (bcast : b.bcast = true) :
    s.blockIn p b false false act = act (t.forwarded p b) := by
  simp [State.blockIn, State.linkRx_of_expected h.up h.expected, h.fresh, bcast, State.forwarded]

/-- A block for this device. -/
theorem State.ReceivesHere.blockIn (h : s.ReceivesHere t p b) : s.blockIn p b false false act = act t := by
  simp [State.blockIn, State.linkRx_of_expected h.up h.expected, h.fresh, h.single, h.assigned, h.here]

/-- A broadcast that is accepted whatever its epoch. -/
theorem State.blockIn_join (up : s.wpUp p = true) (expected : b.seq.val = (s.wp p).rxSeq) (bcast : b.bcast = true) :
    s.blockIn p b false true act = act ((s.afterRx p).forwarded p b) := by
  simp [State.blockIn, State.linkRx_of_expected up expected, bcast, State.forwarded]

end Sys2Proof.Machine
end

section
/-! Blocks for this device alone (R348, R350, R359). -/
namespace Sys2Proof.Machine

variable {s : State} {b : WaleBlock} {ws : List Word}

theorem bodyWords_of_words (body : b.body = .words ws) : bodyWords b = ws := by
  rw [bodyWords, body]

theorem State.completionIn_of_find {r : WaleReq} (body : b.body = .words ws) (found : s.wale.reqs.find?
    (fun r => r.tag == b.tag.val && (r.dest == b.src.val || b.status == 2 || b.status == 3)) = some r) :
    s.completionIn b = s.reqEnd r b.status.val ws := by
  simp only [State.completionIn, found, body]

/-- A message that asks for no answer and finds room. -/
theorem State.messageIn_of_room (body : b.body = .words ws) (silent : b.ackreq = false) (room : s.wale.mq.length < 16) :
    s.messageIn b = ((s.setWale { s.wale with mq := s.wale.mq ++ [(b.src.val, ws)] }).mqRefresh).raise 146 := by
  rw [State.messageIn, if_neg (by omega), if_neg (by simp [silent]), bodyWords_of_words body]

/-- A block in the middle of the stream that the open engine reads. -/
theorem State.gangIn_of_stream (body : b.body = .words ws) (opened : s.engSource = some 4)
    (sender : s.wale.gangRx = some b.src.val) (runs : s.wale.gangEnded = false) (middle : b.last = false) :
    s.gangIn b = ({ s.setWale { s.wale with gangWords := s.wale.gangWords ++ ws } with
      eng := { s.eng with arrived := s.eng.arrived || !ws.isEmpty } } : State).spentEnd 4 := by
  simp [State.gangIn, State.gangTake, opened, sender, runs, middle, bodyWords_of_words body]

end Sys2Proof.Machine
end

section
/-! The tree's messages (R353, R355 to R357, R360). -/
namespace Sys2Proof.Machine

variable {s : State} {p : Nat}

/-- A follow-up of an exchange whose own response has come. -/
theorem State.followUpIn_of_exch {xn : Nat} {t1 t2 t3 t4 : Int} (exch : s.wale.exch = some ⟨p, xn, t1, some t4⟩)
    (kept : (s.wp p).skip = 0) : s.followUpIn p xn t2 t3 =
      (s.setWale { s.wale with exch := none }).timeUpdate p t1 t2 t3 t4 := by
  have skip : ¬ 0 < ((s.setWale { s.wale with exch := none }).wp p).skip := Nat.not_lt.mpr kept.le
  simp only [State.followUpIn, exch, and_self, if_true, if_neg skip]

theorem State.bndIn_of_posted {orig i : Nat} {x : Instant} (posted : s.mbAnswer i x = .posted) :
    s.bndIn orig i x = s.mbPost i x :=
  if_pos posted

/-- The first refusal that comes back to the originator names the device that refused. -/
theorem State.bndrefIn_of_first {r : Nat} (first : s.bit Reg.waleBndref 31 = false) :
    s.bndrefIn s.devid r = (s.wr Reg.waleBndref (putBit (putBits (putBits (s.rd Reg.waleBndref) 8 0 r) 23 16
      (min 255 (getBits (putBits (s.rd Reg.waleBndref) 8 0 r) 23 16 + 1))) 31 true)).raise 150 := by
  unfold State.bit at first
  simp [State.bndrefIn, first]

end Sys2Proof.Machine
end

section
namespace Sys2Proof.Machine

/-- Settles O31: the blocks for this device, then the messages between neighbours and the broadcasts, each by what its
kind does once the port has accepted it. -/
theorem waleBlocksComplete : Obligations.WaleBlocksComplete := by
  refine ⟨?write, ?read, ?completion, ?message, ?gang, ?advert, ?join, ?followUp, ?bnd, ?bndref, ?vote, ?verdict, ?alarm,
    ?doneUp, ?sysdone, ?sleep, ?awake, ?wake⟩
  case write =>
    intro p b mem s t h
    simp only [exec_waleWrite, execWaleWrite, (h.retyped .write).blockIn, State.localIn]
  case read =>
    intro p b mem s t h
    simp only [exec_waleRead, execWaleRead, (h.retyped .read).blockIn, State.localIn]
  case completion =>
    intro p b ws s t r h body found
    simp only [exec_waleCompletion, execWaleCompletion, (h.retyped .completion).blockIn]
    exact congrArg Host.Outcome.next (State.completionIn_of_find (b := { b with kind := .completion }) body found)
  case message =>
    intro p b ws s t h body silent room
    simp only [exec_waleMessage, execWaleMessage, (h.retyped .message).blockIn]
    exact congrArg Host.Outcome.next (State.messageIn_of_room (b := { b with kind := .message }) body silent room)
  case gang =>
    intro p b ws s t h body opened sender runs middle
    simp only [exec_waleGangBlock, execWaleGangBlock, (h.retyped .gang).blockIn]
    exact congrArg Host.Outcome.next
      (State.gangIn_of_stream (b := { b with kind := .gang }) body opened sender runs middle)
  case advert =>
    intro p b root dist up chain sysdone s t h body
    rw [exec_waleAdvert, execWaleAdvert, (h.retyped .sysctl b.bcast).blockIn_here]
    simp only [body]
  case join =>
    rintro p b c e s up expected body rfl
    rw [exec_waleJoin, execWaleJoin, State.blockIn_join (b := { b with kind := .sysctl, bcast := true }) up expected rfl]
    simp only [body]
  case followUp =>
    intro p b xn t1 t2 t3 t4 s t h body exch kept
    rw [exec_waleTimeFollowUp, execWaleTimeFollowUp, (h.retyped .link b.bcast).blockIn_here]
    simp only [body, State.followUpIn_of_exch exch kept]
  case bnd =>
    rintro p b c i num den s t u h body rfl hu posted
    rw [exec_waleBnd, execWaleBnd, (h.retyped .sysctl true).blockIn_bcast rfl, ← hu]
    simp only [body, State.bndIn_of_posted posted]
  case bndref =>
    rintro p b c orig i r s t u h body rfl hu own first
    rw [exec_waleBndref, execWaleBndref, (h.retyped .sysctl true).blockIn_bcast rfl, ← hu]
    simp only [body, own, State.bndrefIn_of_first first]
  case vote =>
    intro p b num den ready dev s t h assigned body
    rw [exec_waleVote, execWaleVote, (h.retyped .sysctl b.bcast).blockIn_here]
    simp only [body, if_neg assigned]
  case verdict =>
    rintro p b c num den r s t h body rfl
    rw [exec_waleVerdict, execWaleVerdict, (h.retyped .sysctl true).blockIn_bcast rfl]
    simp only [body]
  case alarm =>
    rintro p b c num den dev s t h body rfl
    rw [exec_waleAlarm, execWaleAlarm, (h.retyped .sysctl true).blockIn_bcast rfl]
    simp only [body]
  case doneUp =>
    rintro p b dev s t u h body rfl
    rw [exec_waleDoneUp, execWaleDoneUp, (h.retyped .sysctl b.bcast).blockIn_here]
    simp only [body]
  case sysdone =>
    rintro p b c num den s t u h body rfl hu undone
    rw [exec_waleSysdone, execWaleSysdone, (h.retyped .sysctl true).blockIn_bcast rfl, ← hu]
    simp only [body, if_neg (Bool.eq_false_iff.mp undone)]
  case sleep =>
    rintro p b c w s t h body rfl
    rw [exec_waleSleepMsg, execWaleSleepMsg, (h.retyped .sysctl true).blockIn_bcast rfl]
    simp only [body]
  case awake =>
    rintro p b c s t h body rfl
    rw [exec_waleAwake, execWaleAwake, (h.retyped .sysctl true).blockIn_bcast rfl]
    simp only [body]
  case wake =>
    intro p b x s t h body assigned other hops onward
    rw [exec_waleWake, execWaleWake, (h.retyped .sysctl b.bcast).blockIn_here]
    simp only [body, assigned, other, hops, onward, or_self, if_false]

end Sys2Proof.Machine
end

section
/-! Time exchanges and votes (R353, R356). -/
namespace Sys2Proof.Machine

variable {s t : State} {p : Fin 6} {xn : Fin 65536} {fine : Fin 2500}

theorem execWaleTimeExchangeStart_of_up {n : Nat} (upstream : s.upPort ≠ 7) (up : s.wpUp s.upPort = true)
    (enabled : s.bit Reg.waleSysCfg 0 = true) (hn : n = (s.wale.xn + 1) % 65536) : execWaleTimeExchangeStart fine s =
      .next ((s.setWale { s.wale with
        xn := n, exch := some ⟨s.upPort, n, s.stampPs 1 s.upPort fine.val, none⟩ }).waleEmit s.upPort (.tsy false n)) := by
  subst hn
  simp only [execWaleTimeExchangeStart, upstream, up, enabled, Bool.not_true, Bool.false_eq_true, or_self, if_false]

theorem execWaleTsyRequest_of_up {turn : Nat} (up : s.wpUp p.val = true) : execWaleTsyRequest p xn fine turn false s =
    .next ((s.waleEmit p.val (.tsy true xn.val)).linkSend p.val (s.ownBlock .link (s.peerId p.val) 1 false
      (.followUp xn (s.stampPs 2 p.val fine.val) (s.stampPs 3 p.val (fine.val + turn : Nat))))) := by
  simp [execWaleTsyRequest, up]

/-- The response to the exchange that runs. -/
theorem execWaleTsyResponse_of_exch {t1 : Int} {u : Option Int} (up : s.wpUp p.val = true)
    (exch : s.wale.exch = some ⟨p.val, xn.val, t1, u⟩) : execWaleTsyResponse p xn fine false s =
      .next (s.setWale { s.wale with exch := some ⟨p.val, xn.val, t1, some (s.stampPs 4 p.val fine.val)⟩ }) := by
  simp [execWaleTsyResponse, up, exch]

section
variable {src : Fin 64} {x : Instant} (next : s.sourceNext src.val = some x)
include next

/-- Groups wait for the vote, and none of them would fail its test. -/
theorem execWaleVoteCutoff_of_ready (groups : s.wreadyGroups src.val ≠ [])
    (ready : ∀ g ∈ s.wreadyGroups src.val, s.groupWait src.val g true = 0) : execWaleVoteCutoff src s =
      .next ((s.setWale { s.wale with voted := s.wale.voted ++ [⟨src.val, x, (s.wreadyGroups src.val).foldl
        (fun a g => a ||| (if s.cgRevert g then s.cgLast g else s.cgBays g)) 0⟩] }).voteOn x s.devid true) := by
  have all : (s.wreadyGroups src.val).all (fun g => s.groupWait src.val g true == 0) = true := by
    simpa using ready
  simp only [execWaleVoteCutoff, next, if_neg groups, all, if_true]

theorem execWaleVoteCutoff_of_not_ready (waits : ∃ g ∈ s.wreadyGroups src.val, s.groupWait src.val g true ≠ 0) :
    execWaleVoteCutoff src s = .next (s.voteOn x s.devid false) := by
  have notAll : (s.wreadyGroups src.val).all (fun g => s.groupWait src.val g true == 0) = false := by
    simpa using waits
  have groups : s.wreadyGroups src.val ≠ [] := by
    obtain ⟨g, mem, -⟩ := waits
    exact List.ne_nil_of_mem mem
  simp only [execWaleVoteCutoff, next, if_neg groups, notAll, Bool.false_eq_true, if_false]

end

/-- The root forms its verdict on an instant that votes have come in for. -/
theorem execWaleVerdictTimer_of_tally {num den : Nat} {x : Instant} (hx : x = msgInstant num den) (root : s.isRoot = true)
    (voted : s.wale.tally.any (fun v => v.1.same x) = true)
    (ht : t = s.setWale { s.wale with tally := s.wale.tally.filter (fun v => !v.1.same x) }) :
    execWaleVerdictTimer num den s = .next ((t.sysBcast (.verdict x.num x.den (s.verdictFor x))).verdictIn x (s.verdictFor x)) := by
  subst hx ht
  exact next_ite_of_guard ⟨root, voted⟩

end Sys2Proof.Machine
end

section
/-! System DONE (R357). -/
namespace Sys2Proof.Machine

variable {s : State}

theorem execWaleDoneUpSend_of_root (done : s.doneConditions = true) (root : s.isRoot = true) (first : s.wale.sysSent = false) :
    execWaleDoneUpSend s = .next s.rosterTake.sysdoneSend := by
  simp [execWaleDoneUpSend, done, root, first]

theorem execWaleDoneUpSend_of_child (done : s.doneConditions = true) (child : s.isRoot = false) (upstream : s.upPort ≠ 7)
    (first : s.bit Reg.waleTree 24 = false) : execWaleDoneUpSend s =
      .next ((s.sysNeighbour s.upPort (.doneUp (Fin.ofNat 512 s.devid))).setBit Reg.waleTree 24 true) := by
  simp [execWaleDoneUpSend, done, child, upstream, first]

end Sys2Proof.Machine
end

section
/-! Requests and messages of this device (R348, R350). -/
namespace Sys2Proof.Machine

variable {s : State}

theorem State.rqCtlWrite_of_go {n : Nat} {v : Word} (go : getBit v 12 = true) :
    s.rqCtlWrite n v = (s.plainWrite (Reg.waleRqCtl n) v).rqGo n :=
  if_pos go

theorem execWaleRequestDeadline_of_find {tag : Fin 256} {r : WaleReq}
    (found : s.wale.reqs.find? (fun r => r.tag == tag.val) = some r) :
    execWaleRequestDeadline tag s = .next (s.reqEnd r 7 []) := by
  simp only [execWaleRequestDeadline, found]

end Sys2Proof.Machine
end

section
/-! Gang streams (R358, R359). -/
namespace Sys2Proof.Machine

variable {s t : State} {v : Word} {off : Nat}

@[simp] theorem State.plainWrite_wale (s : State) (off : Nat) (v : Word) : (s.plainWrite off v).wale = s.wale := by
  unfold State.plainWrite
  split <;> rfl

/-- GO is bit 0 of the settings it comes with, and ABORT, bit 1, is 0. -/
theorem gangGoWord_bits (hamper bcast : Bool) (dest : Fin 512) :
    getBit (BitVec.ofNat 32 (1 + 4 * hamper.toNat + 8 * bcast.toNat + 16 * dest.val)) 0 = true ∧
    getBit (BitVec.ofNat 32 (1 + 4 * hamper.toNat + 8 * bcast.toNat + 16 * dest.val)) 1 = false := by
  constructor <;>
    simp only [getBit, BitVec.getLsbD_ofNat, Nat.testBit_eq_decide_div_mod_eq] <;> simp <;> omega

/-- GO while no transfer runs and no flash operation holds the source. -/
theorem State.gangCtlWrite_of_go (ht : t = s.plainWrite Reg.waleGangCtl v) (go : getBit v 0 = true)
    (noAbort : getBit v 1 = false) (idle : s.bit Reg.waleGangCtl 16 = false) (still : t.bit Reg.waleGangCtl 16 = false)
    (assigned : t.devid ≠ 511) (source : t.bit Reg.waleGangCtl 2 = true ∨ t.flashOpBusy = false) :
    s.gangCtlWrite v = ((t.setFld Reg.waleGangCtl 19 17 0).setBit Reg.waleGangCtl 16 true).setWale
      { s.wale with gangTx := some (0, false) } := by
  have free : (!t.bit Reg.waleGangCtl 2 && t.flashOpBusy) = false := by
    obtain hamper | flash := source
    · rw [hamper, Bool.not_true, Bool.false_and]
    · rw [flash, Bool.and_false]
  have kept : t.wale = s.wale := by rw [ht, State.plainWrite_wale]
  simp [State.gangCtlWrite, idle, noAbort, go, ← ht, State.gangGo, still, assigned, free, kept]

/-- ABORT with no more blocks on their way sends the last block. -/
theorem State.gangAbort_zero (runs : s.wale.gangTx = some (off, false)) : s.gangAbort 0 =
    (s.gangOut off [] (off == 0) true true).setWale
      { (s.gangOut off [] (off == 0) true true).wale with gangTx := some (off, true) } := by
  simp [State.gangAbort, runs, State.gangSend]

theorem execWaleGangSendEnd_of_aborted (runs : s.wale.gangTx = some (off, true)) :
    execWaleGangSendEnd s = .next (s.gangResult 3) := by
  simp only [execWaleGangSendEnd, runs]

section
variable (runs : s.wale.gangTx = some (off, false))
include runs

theorem execWaleGangSendEnd_of_no_route (lost : s.gangRoute = false) :
    execWaleGangSendEnd s = .next (s.gangResult 4) := by
  simp [execWaleGangSendEnd, runs, lost]

/-- From flash the stream never waits for the hamper. -/
theorem execWaleGangSendEnd_of_flash (route : s.gangRoute = true) (flash : s.bit Reg.waleGangCtl 2 = false) :
    execWaleGangSendEnd s =
      .next ((s.gangSend false ((s.rd Reg.waleGangLen).toNat / 512 + 1)).gangResult 1) := by
  simp [execWaleGangSendEnd, runs, route, flash]

end

theorem State.gangEnd_of_receiving (receives : s.wale.gangRx.isSome = true) (runs : s.wale.gangEnded = false) :
    s.gangEnd = (s.setWale { s.wale with gangEnded := true }).spentEnd 4 := by
  simp [State.gangEnd, receives, runs]

end Sys2Proof.Machine
end

section
namespace Sys2Proof.Machine

/-- Settles O32: adverts and time, votes and verdicts, system DONE, the slots and the queue, and gang streams. -/
theorem waleSystemCommandsComplete : Obligations.WaleSystemCommandsComplete := by
  refine ⟨?adverts, ?expiry, ?exchange, ?request, ?response, ?noFollowUp, ?voteReady, ?voteNotReady, ?verdict, ?rootDone,
    ?childDone, ?instant, ?go, ?deadline, ?pop, ?gangGo, ?gangAbort, ?aborted, ?noRoute, ?sent, ?timeout⟩
  case adverts =>
    intro s
    rfl
  case expiry =>
    intro p s
    rfl
  case exchange =>
    intro fine s xn upstream up enabled hxn
    rw [exec_waleTimeExchangeStart, execWaleTimeExchangeStart_of_up upstream up enabled hxn]
  case request =>
    intro p xn fine turn s up
    rw [exec_waleTsyRequest, execWaleTsyRequest_of_up up]
  case response =>
    intro p xn fine t1 u s up exch
    rw [exec_waleTsyResponse, execWaleTsyResponse_of_exch up exch]
  case noFollowUp =>
    intro s
    rfl
  case voteReady =>
    intro src s x next groups ready
    rw [exec_waleVoteCutoff, execWaleVoteCutoff_of_ready next groups ready]
  case voteNotReady =>
    intro src s x next waits
    rw [exec_waleVoteCutoff, execWaleVoteCutoff_of_not_ready next waits]
  case verdict =>
    intro num den s t x hx root voted ht
    rw [exec_waleVerdictTimer, execWaleVerdictTimer_of_tally hx root voted ht]
  case rootDone =>
    intro s done root first
    rw [exec_waleDoneUpSend, execWaleDoneUpSend_of_root done root first]
  case childDone =>
    intro s done child upstream first
    rw [exec_waleDoneUpSend, execWaleDoneUpSend_of_child done child upstream first]
  case instant =>
    intro s due
    rw [exec_waleSystemDoneInstant, execWaleSystemDoneInstant]
    exact next_ite_of_guard due
  case go =>
    intro ag n op ack len s go
    rw [exec_waleRqGo, execWaleRqGo, State.rqCtlWrite_of_go go]
  case deadline =>
    intro tag s r found
    rw [exec_waleRequestDeadline, execWaleRequestDeadline_of_find found]
  case pop =>
    intro ag s
    rfl
  case gangGo =>
    intro ag hamper bcast dest s t idle ht still assigned source
    obtain ⟨go, noAbort⟩ := gangGoWord_bits hamper bcast dest
    rw [exec_waleGangGo, execWaleGangGo, State.gangCtlWrite_of_go ht go noAbort idle still assigned source]
  case gangAbort =>
    intro ag s off runs
    rw [exec_waleGangAbort, execWaleGangAbort, State.gangAbort_zero runs]
  case aborted =>
    intro s off runs
    rw [exec_waleGangSendEnd, execWaleGangSendEnd_of_aborted runs, State.gangResult]
  case noRoute =>
    intro s off runs lost
    rw [exec_waleGangSendEnd, execWaleGangSendEnd_of_no_route runs lost, State.gangResult]
  case sent =>
    intro s off runs route flash
    rw [exec_waleGangSendEnd, execWaleGangSendEnd_of_flash runs route flash]
  case timeout =>
    intro s receives runs
    rw [exec_waleGangStreamTimeout, execWaleGangStreamTimeout, State.gangEnd_of_receiving receives runs]

end Sys2Proof.Machine
end

section
/-! The accesses of the hamper's ports (R385 to R387, R390, R392). -/
namespace Sys2Proof.Machine

variable {s t : State} {n sev i err : Nat} {r : HampRq} {bs rest : List HampBeat} {q : HampPortSt}

theorem execHamperPortRequest_of_ready {n : Fin 32} {rq : HampRq} (enabled : s.hampEnabled n.val = true)
    (free : s.clamped (hampBay n.val) = false) (ready : s.hampReqReady n.val = true) : execHamperPortRequest n rq s =
      .next (s.setHampPort n.val { s.hampPort n.val with
        reqs := (s.hampPort n.val).reqs ++ [rq], rqHeld := (s.hampPort n.val).rqHeld + 1 }) :=
  next_ite_of_guard ⟨enabled, by rw [free]; rfl, ready⟩

theorem execHamperAccessDone_port {n : Fin 32} {write : Bool} {sev : Fin 4} (opened : s.hampGated n.val = false) :
    execHamperAccessDone (.port n write) sev s =
      .next (if write then s.hampWriteDone n.val sev.val else s.hampReadDone n.val sev.val) := by
  simp [execHamperAccessDone, opened]

section
variable (oldest : (s.hampPort n).oldest true = some (i, r)) (complete : takeWrite (s.hampPort n).beats = some (bs, rest))
  (hq : q = ((s.hampPort n).finish i).dropBeats rest)
include oldest complete hq

/-- The oldest write, unless the stack reports a parity error. -/
theorem State.hampWriteDone_of_stored (sound : s.hampFaults r = false)
    (report : s.hampReport n (rqAddr r) true sev = (err, t)) (stored : err ≠ 3) : s.hampWriteDone n sev =
      (t.hampPutBeats (rqAddr r) (r.len.val + 1) bs).setHampPort n { q with bq := q.bq ++ [⟨0, err, r.tag.val, 0, true⟩] } := by
  subst hq
  simp [State.hampWriteDone, oldest, complete, sound, report, stored]

/-- A write that faults stores nothing. -/
theorem State.hampWriteDone_of_faults (faults : s.hampFaults r = true) : s.hampWriteDone n sev =
    s.setHampPort n { q with bq := q.bq ++ [⟨0, 3, r.tag.val, 0, true⟩] } := by
  subst hq
  simp [State.hampWriteDone, oldest, complete, faults]

end

/-- The oldest read, when no older write overlaps it, its beats find space, and its data are good. -/
theorem State.hampReadDone_of_read (oldest : (s.hampPort n).oldest false = some (i, r))
    (free : ((s.hampPort n).reqs.take i).any (fun w => w.write && rqOverlap w r && !rqCrosses w) = false)
    (room : (s.hampPort n).readSpace (max (s.hampPort n).taken (i + 1)) ≤ 64) (sound : s.hampFaults r = false)
    (report : s.hampReport n (rqAddr r) false sev = (err, t)) (good : err < 2) (hq : q = (s.hampPort n).finish i) :
    s.hampReadDone n sev = ({ t with freeCtr := t.freeCtr + 8 } : State).setHampPort n { q with
      rq := q.rq ++ (List.range (r.len.val + 1)).map
        (fun j => ⟨0, err, r.tag.val, s.hampBeat (rqAddr r + 32 * j), j == r.len.val⟩) } := by
  subst hq
  have notHeld : ¬ (((s.hampPort n).reqs.take i).any (fun w => w.write && rqOverlap w r && !rqCrosses w) = true ∨
      64 < (s.hampPort n).readSpace (max (s.hampPort n).taken (i + 1))) := by
    rw [free]
    simpa using room
  have data : ¬ 2 ≤ err := by omega
  simp only [State.hampReadDone, oldest, if_neg notHeld, sound, Bool.false_eq_true, if_false, report, if_neg data]

end Sys2Proof.Machine
end

section
/-! Training, drains, temperature and self-refresh of the hamper (R389, R391, R393, R395). -/
namespace Sys2Proof.Machine

variable {s t : State}

theorem execHamperTrainDone_of_training {pass : Bool} (trains : s.hamp.training = true) :
    execHamperTrainDone pass s = .next (if pass then s.hampReady else s.hampDisable) := by
  simp [execHamperTrainDone, trains]

theorem State.hampDrained_iff : s.hampDrained = true ↔ ∀ e ∈ s.hamp.ports, e.2.reqs = [] := by
  simp [State.hampDrained]

theorem execHamperDrainTimeout_of_undrained (drains : s.hamp.phase = .draining) (left : s.hampDrained = false) :
    execHamperDrainTimeout s = .next ((s.setHamp { s.hamp with phase := .idle }).setBit Reg.hampErr 4 true) := by
  simp [execHamperDrainTimeout, drains, left]

/-- A reading while the controller runs: the maximum `m` starts with the first reading, and the first one above 95 °C is
reported. -/
theorem execHamperTempRead_of_runs {v : BitVec 8} {m : Int} (runs : s.hampState < 2)
    (hm : m = if s.hamp.tempSeen then max (signExtend 8 (s.fld Reg.hampTemp 15 8)) v.toInt else v.toInt)
    (ht : t = s.wr Reg.hampTemp (BitVec.ofNat 32 (v.toNat + 256 * toField 8 m))) : execHamperTempRead v s = .next (
      if 95 < v.toInt ∧ !s.bit Reg.hampStat 6 then
        ((t.setHamp { t.hamp with rate := refreshFor s.hamp.rate v.toInt, tempSeen := true }).setBit Reg.hampStat 6 true).raise 214
      else t.setHamp { t.hamp with rate := refreshFor s.hamp.rate v.toInt, tempSeen := true }) := by
  subst hm ht
  rw [execHamperTempRead, if_neg (by omega)]

/-- The stack wakes with the map it slept with. -/
theorem State.hampWake_of_same_map (same : s.bit Reg.hampStat 3 = s.bit Reg.hampCfg 0) :
    s.hampWake = (s.setFld Reg.hampStat 1 0 1).raise 215 := by
  rw [State.hampWake, if_pos same]

/-- Another map leaves the content undefined. -/
theorem State.hampWake_of_other_map (other : s.bit Reg.hampStat 3 ≠ s.bit Reg.hampCfg 0) : s.hampWake =
    (((s.setFld Reg.hampStat 1 0 1).setBit Reg.hampStat 3 (s.bit Reg.hampCfg 0)).hampScramble).raise 215 := by
  rw [State.hampWake, if_neg other]

theorem execHamperSelfRefreshExit_of_waking (asleep : s.hampState = 3) (waking : s.pwr.waking = true) :
    execHamperSelfRefreshExit s = .next s.hampWake :=
  next_ite_of_guard ⟨asleep, waking⟩

end Sys2Proof.Machine
end

section
namespace Sys2Proof.Machine

/-- Settles O37: the ports, both trainings, refresh and temperature, and the end of self-refresh. -/
theorem hamperCommandsComplete : Obligations.HamperCommandsComplete := by
  refine ⟨?request, ?write, ?writeFault, ?read, ?pass, ?fail, ?timeout, ?refresh, ?cool, ?hot, ?retrain, ?drained, ?undrained,
    ?retrained, ?wake, ?wakeOtherMap⟩
  case request =>
    intro n rq s enabled free ready
    rw [exec_hamperPortRequest, execHamperPortRequest_of_ready enabled free ready]
  case write =>
    intro n sev s t i err r bs rest q opened oldest complete sound report stored hq
    rw [exec_hamperAccessDone, execHamperAccessDone_port opened, if_pos rfl,
      State.hampWriteDone_of_stored oldest complete hq sound report stored]
  case writeFault =>
    intro n sev s i r bs rest q opened oldest complete faults hq
    rw [exec_hamperAccessDone, execHamperAccessDone_port opened, if_pos rfl,
      State.hampWriteDone_of_faults oldest complete hq faults]
  case read =>
    intro n sev s t i err r q opened oldest free room sound report good hq
    rw [exec_hamperAccessDone, execHamperAccessDone_port opened, if_neg Bool.false_ne_true,
      State.hampReadDone_of_read oldest free room sound report good hq]
  case pass =>
    intro s trains
    rw [exec_hamperTrainDone, execHamperTrainDone_of_training trains, if_pos rfl]
  case fail =>
    intro s trains
    rw [exec_hamperTrainDone, execHamperTrainDone_of_training trains, if_neg Bool.false_ne_true]
  case timeout =>
    intro s trains
    rw [exec_hamperTrainTimeout, execHamperTrainTimeout]
    exact next_ite_of_guard trains
  case refresh =>
    intro s ready changes
    rw [exec_hamperRefresh, execHamperRefresh]
    exact next_ite_of_guard ⟨ready, changes⟩
  case cool =>
    intro v s t runs first ht cool
    have hm : v.toInt = if s.hamp.tempSeen then max (signExtend 8 (s.fld Reg.hampTemp 15 8)) v.toInt else v.toInt := by
      rw [if_neg (Bool.eq_false_iff.mp first)]
    rw [exec_hamperTempRead, execHamperTempRead_of_runs runs hm ht, if_neg (by omega)]
  case hot =>
    intro v s t runs seen ht hot first
    rw [exec_hamperTempRead, execHamperTempRead_of_runs runs (if_pos seen).symm ht, if_pos ⟨hot, by rw [first]; rfl⟩]
  case retrain =>
    intro ag s ready idle
    rw [exec_hamperRetrain, execHamperRetrain]
    exact next_ite_of_guard ⟨ready, idle⟩
  case drained =>
    intro s drains empty
    rw [exec_hamperRetrainDrained, execHamperRetrainDrained]
    exact next_ite_of_guard ⟨drains, State.hampDrained_iff.mpr empty⟩
  case undrained =>
    rintro s drains ⟨e, mem, left⟩
    have undrained : s.hampDrained = false :=
      Bool.eq_false_iff.mpr (fun drained => left (State.hampDrained_iff.mp drained e mem))
    rw [exec_hamperDrainTimeout, execHamperDrainTimeout_of_undrained drains undrained]
  case retrained =>
    intro s trains
    rw [exec_hamperRetrainDone, execHamperRetrainDone]
    exact next_ite_of_guard trains
  case wake =>
    intro s asleep waking same
    rw [exec_hamperSelfRefreshExit, execHamperSelfRefreshExit_of_waking asleep waking, State.hampWake_of_same_map same]
  case wakeOtherMap =>
    intro s asleep waking other
    rw [exec_hamperSelfRefreshExit, execHamperSelfRefreshExit_of_waking asleep waking, State.hampWake_of_other_map other]

end Sys2Proof.Machine
end

section
/-! Core releases and watchdogs (R401, R403). -/
namespace Sys2Proof.Machine

variable {s t : State} {i : Nat} {v : Word}

theorem State.clctlWrite_of_key (key : getBits v 31 16 = 0x3CA5) (free : s.coresHeld = false) : s.clctlWrite v =
    (List.range 4).foldl (fun t c => if getBit v c then t.coreRelease c else if t.coreRuns c then t.coreReset c else t) s := by
  rw [State.clctlWrite, if_neg (by simp [key, free])]

theorem State.wdEnable_of_off (off : (s.wd i).en = false) : s.wdEnable i true =
    s.setWd i { s.wd i with en := true, count := (s.wd i).full, stage := false } := by
  simp [State.wdEnable, off]

theorem State.wdKick_of_key (key : getBits v 31 16 = 0x6A95) (on : (s.wd i).en = true) :
    s.wdKick i v = s.setWd i { s.wd i with count := (s.wd i).full, stage := false } :=
  if_pos ⟨key, on⟩

section
variable (on : (s.wd i).en = true) (mode : s.mode = 6 ∨ s.mode = 7)
include on mode

/-- An enabled watchdog counts in RUN and STAGING. -/
theorem State.not_wd_stopped : ¬ ((!(s.wd i).en) = true ∨ s.mode ≠ 6 ∧ s.mode ≠ 7) := by
  rintro (off | ⟨notRun, notStaging⟩)
  · rw [on] at off
    exact Bool.false_ne_true off
  · exact mode.elim notRun notStaging

theorem State.wdExpire_first (first : (s.wd i).stage = false) : s.wdExpire i =
    (s.setWd i { s.wd i with stage := true, fired := true, count := (s.wd i).full }).raise (352 + i) := by
  rw [State.wdExpire, if_neg (State.not_wd_stopped on mode), if_pos (by rw [first]; rfl)]

/-- The second expiry of a core's own watchdog. -/
theorem State.wdExpire_second (second : (s.wd i).stage = true) (core : i < 4)
    (ht : t = s.setWd i { s.wd i with stage := false, reset := true, count := (s.wd i).full }) :
    s.wdExpire i = t.wdCore i := by
  rw [State.wdExpire, if_neg (State.not_wd_stopped on mode), if_neg (by rw [second]; decide), ht]
  exact if_neg (by omega)

end

theorem State.wdCore_of_runs {c : Nat} (runs : s.coreRuns c = true) :
    s.wdCore c = ((s.busDrop c).setBit Reg.sysClstat (4 + c) true).semAutoRelease (0x10 + c) :=
  if_pos runs

end Sys2Proof.Machine
end

section
/-! Accesses of the cores by region (R398, R407), each carried out at once where nothing holds it, or waiting (R423). -/
namespace Sys2Proof.Machine

variable {s t : State} {c : Fin 4} {a : BusAccess}

/-- Only an access of the peripherals can lack a description. -/
theorem busUndescribed_of_not_peripherals (h : ∀ o, regionOf a.addr a.size ≠ some (.peripherals, o)) :
    busUndescribed a = false := by
  unfold busUndescribed
  split
  next o region => exact absurd region (h o)
  next => rfl

theorem execClusterBusAccess_of_runs (runs : s.coreRuns c.val = true) (described : busUndescribed a = false) :
    execClusterBusAccess c a s = .next (s.waitTake (.bus c a)) := by
  simp [execClusterBusAccess, runs, described]

theorem State.waitTry_bus (running : s.hubHeld = false) : s.waitTry (.bus c a) = s.busTry c a := by
  rw [State.waitTry, if_neg (Bool.eq_false_iff.mp running)]

/-- Nothing holds the access, and its region answers. -/
theorem execClusterBusAccess_of_busTry (runs : s.coreRuns c.val = true) (running : s.hubHeld = false)
    (first : (s.waits.any fun j => j.line == c.val) = false)
    (described : ∀ o, regionOf a.addr a.size ≠ some (.peripherals, o)) (answers : s.busTry c a = some t) :
    execClusterBusAccess c a s = .next t := by
  rw [execClusterBusAccess_of_runs runs (busUndescribed_of_not_peripherals described),
    State.waitTake_of_waitTry_eq_some first ((State.waitTry_bus running).trans answers)]

/-- A drain, an earlier access of the core, or its region holds the access. -/
theorem State.waitTake_bus_of_held
    (held : s.hubHeld = true ∨ (s.waits.any fun j => j.line == c.val) = true ∨ s.busTry c a = none) :
    s.waitTake (.bus c a) = { s with waits := s.waits ++ [.bus c a] } := by
  cases hub : s.hubHeld with
  | true => exact State.waitTake_held (.inl hub)
  | false =>
    obtain drain | busy | waits := held
    · exact absurd drain (Bool.eq_false_iff.mp hub)
    · exact State.waitTake_of_line_waits busy
    · exact State.waitTake_of_waitTry_eq_none ((State.waitTry_bus hub).trans waits)

end Sys2Proof.Machine
end

section
/-! The gateway's window side (R405, R406, R408). -/
namespace Sys2Proof.Machine

variable {s t : State} {ag : Agent} {r : WindowReq} {o : GwOrigin} {p : Nat}

theorem execGwWindowAccess_of_gwAccess (inWindow : r.offset < 2 ^ 36) (running : s.hubHeld = false)
    (first : (s.waits.any fun j => j.line == 8 + agentIdent ag) = false) (answers : s.gwAccess (.agent ag) r = some t) :
    execGwWindowAccess ag r s = .next t := by
  have tried : s.waitTry (.window ag r) = some t := by
    rw [State.waitTry, if_neg (Bool.eq_false_iff.mp running), answers]
  rw [execGwWindowAccess, if_neg (by omega), State.waitTake_of_waitTry_eq_some first tried]

section
variable (hp : r.offset / 2 ^ 34 = p)
include hp

theorem State.gwAccess_write (avail : s.gwAvail p = true) (room : (s.gw p).queue.length < 16) (write : r.write = true) :
    s.gwAccess o r = some (s.setGw p { s.gw p with queue := (s.gw p).queue ++ [(0, r)] }) := by
  simp only [State.gwAccess, hp, avail, Bool.not_true, Bool.false_eq_true, if_false, if_neg (Nat.not_le.mpr room), write, if_true]

/-- The first read of a port. -/
theorem State.gwAccess_read (avail : s.gwAvail p = true) (room : (s.gw p).queue.length < 16) (read : r.write = false)
    (alone : (s.gw p).reads = []) : s.gwAccess o r = some (s.setGw p { s.gw p with
      queue := (s.gw p).queue ++ [(0, r)], reads := [⟨r.tag.val, r.beats, o, false⟩] }) := by
  have tagFree : ¬ (32 ≤ ([] : List GwRead).length ∨ ([] : List GwRead).any (fun x => x.tag == r.tag.val) = true) := by
    simp
  simp only [State.gwAccess, hp, avail, Bool.not_true, Bool.false_eq_true, if_false, if_neg (Nat.not_le.mpr room), read,
    alone, if_neg tagFree, List.nil_append]

theorem State.gwAccess_read_of_unavailable (away : s.gwAvail p = false) (read : r.write = false) :
    s.gwAccess o r = some ((s.gwErr p 1).gwAnswer o (onesBeats r.beats)) := by
  simp only [State.gwAccess, hp, away, Bool.not_false, if_true, read, Bool.false_eq_true, if_false]

end

section
variable {p : Fin 4} {tag : Fin 32} {data : List (BitVec 64)} {r : GwRead}

theorem execGwWindowResponse_of_find {err : Bool} (avail : s.gwAvail p.val = true)
    (found : (s.gw p.val).reads.find? (fun r => r.tag == tag.val && r.sent) = some r) :
    execGwWindowResponse p tag data err s = .next (
      if err then (s.gwErr p.val 2).gwReadEnd p.val r (onesBeats r.beats)
      else s.gwReadEnd p.val r (data.take r.beats)) := by
  simp only [execGwWindowResponse, avail, Bool.not_true, Bool.false_eq_true, if_false, found]

theorem execGwWindowTimeout_of_find (found : (s.gw p.val).reads.find? (fun r => r.tag == tag.val) = some r) :
    execGwWindowTimeout p tag s = .next ((s.gwErr p.val 0).gwReadEnd p.val r (onesBeats r.beats)) := by
  simp only [execGwWindowTimeout, found]

end

end Sys2Proof.Machine
end

section
/-! The gateway's master side (R407). -/
namespace Sys2Proof.Machine

variable {s t u : State} {p : Fin 4} {r : MasterReq} {tag : Fin 32} {status : Nat} {ws : List Word}

section
variable (avail : s.gwAvail p.val = true) (running : s.hubHeld = false) (short : r.len ≤ 128)
  (fresh : (s.gw p.val).tags.contains r.tag.val = false)
include avail running short fresh

/-- The port accepts the request. -/
theorem execGwMasterRequest_of_accepted : execGwMasterRequest p r s = .next (
    if r.remote then (s.masterAway p.val r).settle settleFuel
    else (s.setGw p.val { s.gw p.val with
      tags := (s.gw p.val).tags ++ (if masterAnswered r then [r.tag.val] else []) }).waitTake (.master p r)) := by
  have accepted : ¬ ((!s.gwAvail p.val) = true ∨ s.hubHeld = true ∨ 128 < r.len ∨
      (s.gw p.val).tags.contains r.tag.val = true) := by
    rw [avail, running, fresh]
    simpa using short
  rw [execGwMasterRequest, if_neg accepted]

/-- A request that is carried out here at once, and whose response waits. -/
theorem execGwMasterRequest_local (here : r.remote = false) (answered : masterAnswered r = true)
    (first : (s.waits.any fun j => j.line == 4 + p.val) = false)
    (hu : u = s.setGw p.val { s.gw p.val with tags := (s.gw p.val).tags ++ [r.tag.val] })
    (done : u.masterLocal p.val r = some (status, ws, t)) : execGwMasterRequest p r s =
      .next (t.setGw p.val { t.gw p.val with done := (t.gw p.val).done ++ [(r.tag.val, status, ws)] }) := by
  have stillFirst : (u.waits.any fun j => j.line == 4 + p.val) = false := by
    rw [hu]
    exact first
  have stillRunning : u.hubHeld = false := by
    rw [hu]
    exact running
  have tried : u.waitTry (.master p r) =
      some (t.setGw p.val { t.gw p.val with done := (t.gw p.val).done ++ [(r.tag.val, status, ws)] }) := by
    simp only [State.waitTry, stillRunning, Bool.false_eq_true, if_false, State.masterHere, done, Option.map_some, answered,
      if_true]
  rw [execGwMasterRequest_of_accepted avail running short fresh, if_neg (by simp [here]), if_pos answered, ← hu,
    State.waitTake_of_waitTry_eq_some stillFirst tried]

end

/-- The response that waits for the port leaves. -/
theorem execGwMasterDone_of_collect (avail : s.gwAvail p.val = true) (known : (s.gw p.val).tags.contains tag.val = true)
    (waits : s.gwCollect p.val tag.val = some (status, ws)) : execGwMasterDone p tag s =
      .next ((s.gwRespond p.val tag.val).emit (.gwMaster p.val tag.val status ws)) := by
  simp only [execGwMasterDone, avail, known, Bool.not_true, Bool.false_eq_true, or_self, if_false, waits]

end Sys2Proof.Machine
end

section
namespace Sys2Proof.Machine

/-- Settles O38: cores and watchdogs, a core's access by its region, the window side and the master side of the gateway. -/
theorem clusterAndGatewayCommandsComplete : Obligations.ClusterAndGatewayCommandsComplete := by
  refine ⟨?release, ?wdEnable, ?wdKick, ?wdFirst, ?wdSecond, ?sram, ?manager, ?flash, ?hamper, ?window, ?noRegion, ?waits,
    ?gwWrite, ?gwRead, ?gwAway, ?response, ?error, ?timeout, ?masterHere, ?masterAway, ?masterDone⟩
  case release =>
    intro ag v s key free
    rw [exec_clusterRunWrite, execClusterRunWrite, State.clctlWrite_of_key key free]
  case wdEnable =>
    intro i s off
    rw [exec_wdEnable, execWdEnable, State.wdEnable_of_off off, WdSt.full]
  case wdKick =>
    intro i v s key on
    rw [exec_wdKick, execWdKick, State.wdKick_of_key key on, WdSt.full]
  case wdFirst =>
    intro i s on mode first
    rw [exec_wdExpiry, execWdExpiry, State.wdExpire_first on mode first]
  case wdSecond =>
    intro i s t on mode second core ht runs
    rw [exec_wdExpiry, execWdExpiry, State.wdExpire_second on mode second core ht, State.wdCore_of_runs runs]
  case sram =>
    intro c a o s runs running first region
    exact execClusterBusAccess_of_busTry runs running first (by simp [region]) (by simp only [State.busTry, region])
  case manager =>
    intro c a o s runs running first region
    exact execClusterBusAccess_of_busTry runs running first (by simp [region]) (by simp only [State.busTry, region])
  case flash =>
    intro c a o s runs running first region
    exact execClusterBusAccess_of_busTry runs running first (by simp [region]) (by simp only [State.busTry, region])
  case hamper =>
    intro c a o s t runs running first region answers
    exact execClusterBusAccess_of_busTry runs running first (by simp [region]) (by simp only [State.busTry, region, answers])
  case window =>
    intro c a o s t runs running first region answers
    exact execClusterBusAccess_of_busTry runs running first (by simp [region]) (by simp only [State.busTry, region, answers])
  case noRegion =>
    intro c a s runs running first region
    exact execClusterBusAccess_of_busTry runs running first (by simp [region]) (by simp only [State.busTry, region, State.busError])
  case waits =>
    intro c a s runs described held
    rw [exec_clusterBusAccess, execClusterBusAccess_of_runs runs described, State.waitTake_bus_of_held held]
  case gwWrite =>
    intro ag r s inWindow running first avail room write
    exact execGwWindowAccess_of_gwAccess inWindow running first (State.gwAccess_write rfl avail room write)
  case gwRead =>
    intro ag r s inWindow running first avail room read alone
    exact execGwWindowAccess_of_gwAccess inWindow running first (State.gwAccess_read rfl avail room read alone)
  case gwAway =>
    intro ag r s inWindow running first away read
    exact execGwWindowAccess_of_gwAccess inWindow running first (State.gwAccess_read_of_unavailable rfl away read)
  case response =>
    intro p tag data s r avail found
    rw [exec_gwWindowResponse, execGwWindowResponse_of_find avail found, if_neg Bool.false_ne_true]
  case error =>
    intro p tag data s r avail found
    rw [exec_gwWindowResponse, execGwWindowResponse_of_find avail found, if_pos rfl, onesBeats]
  case timeout =>
    intro p tag s r found
    rw [exec_gwWindowTimeout, execGwWindowTimeout_of_find found, onesBeats]
  case masterHere =>
    intro p r s u t status ws avail running short fresh here answered first hu done
    rw [exec_gwMasterRequest, execGwMasterRequest_local avail running short fresh here answered first hu done]
  case masterAway =>
    intro p r s avail running short fresh away
    rw [exec_gwMasterRequest, execGwMasterRequest_of_accepted avail running short fresh, if_pos away]
  case masterDone =>
    intro p tag s status ws avail known waits
    rw [exec_gwMasterDone, execGwMasterDone_of_collect avail known waits]

end Sys2Proof.Machine
end
